-- ==== Sys2Proof/Word.lean ====
section
/-! DEFINITION. The machine word (32 bits, R5), the byte, and the place of a field in a register. -/

namespace Sys2Proof

/-- A register word (R5: every register is 32 bits wide). -/
abbrev Word := BitVec 32

/-- A byte of flash or of a frame. -/
abbrev Byte := BitVec 8

/-- A register field: the register's BAR0 address, the field's lowest bit and its width. -/
structure Fld where
  reg : Nat
  lo : Nat
  wd : Nat
  deriving DecidableEq, Repr

end Sys2Proof
end

