-- ==== Sys2Proof/Syntax.lean ====
section
/-! DEFINITION. The commands of the PT8820: one constructor for each row of spec/opcode_table.json, in the table's order,
with the operands that the row's rule names. What the outside world decides (a captured stamp, the verdict of a signature
check, a received frame, the result of a built-in test) is an operand. The docstring of a constructor is its row's summary
with the rule that defines it. -/

namespace Sys2Proof

/-- A BAR0 byte offset as a requester issues it (R11: BAR0 spans 64 MiB; R70: the SPI address is 32 bits). -/
abbrev BarAddr := BitVec 32

/-- A requester of R62, in the order of the codes 1 to 5. -/
inductive Req where
  | pf0 | pf1 | spi | i2c | fw
  deriving DecidableEq, Repr

/-- A PCIe function. -/
inductive Pf where
  | pf0 | pf1
  deriving DecidableEq, Repr

/-- A power domain, in the order of the numbers 0 to 13 of R450. -/
inductive Dom where
  | aon | ctl | tb | meas | sya | syb | gnss | pkt | cry | smem | sq0 | sq1 | sq2 | sq3
  deriving DecidableEq, Repr

/-- A supply rail of R446, with VDDH_SDS of the board regulator. -/
inductive Rail where
  | core | sram | sds | sdsh
  deriving DecidableEq, Repr

/-- One PMBus poll of a stage (R448): READ_VOUT in mV, READ_IOUT in mA, READ_TEMPERATURE_1 in °C, STATUS_WORD. -/
structure StageReading where
  vout : BitVec 16
  iout : BitVec 16
  temp : BitVec 8
  status : BitVec 16
  deriving DecidableEq, Repr

/-- The move that the speed monitors of PD_CTL ask of the adaptive loop (R447). -/
inductive AvsMove where
  | up | down | hold
  deriving DecidableEq, Repr

/-- The straps sampled at the rising edge of RESET_N: SYSREF_SEL (R454), TWN_SIDE (R346), HOST_I2C_A0 (R73). -/
structure Straps where
  sysref : Fin 4
  side : Bool
  i2cA0 : Bool
  deriving DecidableEq, Repr

/-- A change that a host configuration write makes to a function (R397, R489). -/
inductive CfgWrite where
  | d3 (on : Bool)
  | busMaster (on : Bool)
  | msixEnable (on : Bool)
  | functionMask (on : Bool)
  | vectorMask (on : Bool)
  | pmeEn (on : Bool)
  | maxPayload (is256 : Bool)
  | aspm (l1 l11 l12 : Bool)
  | aerClear (unc cor : Word)
  | bar0 (base : BitVec 64)
  | bar2 (base : BitVec 64)
  | msixEntry (addr : BitVec 64) (data : Word)
  deriving DecidableEq, Repr

/-- A disturbance of one word of a channel's state vector (R102): the value is XORed into the word. -/
structure Upset where
  chan : Fin 3
  word : Fin 7
  flip : Nat
  deriving DecidableEq, Repr

/-- The reported class of an error (R37, R410). -/
inductive FCls where
  | corrected | contained | fatal
  deriving DecidableEq, Repr

/-- One report of a unit on its rails (R406, R408): unit, cause, class, the block's event code (0 if it has none) and its
event-queue parameter. -/
structure FltReport where
  unit : Fin 64
  cause : Byte
  cls : FCls
  ev : BitVec 16
  evParam : Word
  deriving DecidableEq, Repr

/-- What a scan-path poll of a rail-faulted unit finds (R407). -/
inductive PollResult where
  | quiet
  | noAnswer
  | found (p : FltReport)
  deriving DecidableEq, Repr

/-- The result of a targeted self-test (R410, R417): run by the collector, taken from the block (outcome 4), or failed in the named
channels or engines of a unit that is fenced in part (R405, R414). -/
inductive TestResult where
  | ran (pass : Bool)
  | fromBlock (pass : Bool)
  | parts (failed : List (Fin 24))
  deriving DecidableEq, Repr

/-- What a Boot meets (R454, R457): which of slot A's three images, then slot B's, the flash fails to give (cause 0x05); the frequency of the SYSREF_SEL oscillator in Hz as measured; PLL_SYS and PLL_TICK lock; the interval from a CK_32K edge to the seeding
tick in units of 2^-16 ns (R109); the pages of control SRAM that the ROM loads from the core firmware (R377): page number, byte offset
in the image, read-only; the hash keys that the DRBG gives (R292, R294, R302), none where no health test of the random source passed
within 100 ms (R336). -/
structure BootObs where
  readErrs : List Bool
  sysHz : Nat
  sysLock : Bool
  tickLock : Bool
  seed : Nat
  pages : List (Nat × Nat × Bool)
  hashKeys : Option (List Nat)
  deriving DecidableEq, Repr

/-- What a 1 ms epoch meets: the sum of the ledger's second adder where it differs (R165); a forced state block of this epoch is programmed
without error (R459); the frequency monitor of each synthesis PLL in 0.01 ppm (R191); by
GNSS stream the data pins at each clock edge of the epoch, I3 to I0 in bits [3:0] and Q3 to Q0 in bits [7:4] (R207, R209). -/
structure EpochObs where
  adder : Option Nat
  block : Bool
  mons : List Int
  streams : List (List Byte)
  deriving DecidableEq, Repr

/-- What happens in a GNSS wake (R230, R460): it is due, the firmware loads and PLL_TICK locks; firmware has stored new ephemerides; the
90 s of tracking for new ephemerides are over. -/
inductive GnssWakeObs where
  | start (load lock : Bool)
  | ephemerides
  | refreshOver
  deriving DecidableEq, Repr

/-- The register that a write commits for the next integration of a GNSS channel (R221): GN_CH_KRATE_HI, GN_CH_CRATE_HI or
GN_CH_KADJ. -/
inductive NcoReg where
  | krate | crate | kadj
  deriving DecidableEq, Repr


/-- What a result or a fed sample carries to the ledger (R124, R138, R161). -/
structure RefInfo where
  std : Nat
  u : Nat
  fed : Bool
  count : Nat
  reqn : Nat
  age : Nat
  calSeq : Nat
  uncal : Bool
  flagged : Bool
  deriving DecidableEq, Repr

/-- What REF passes to BND (R161), with the holdover summary and the values that R169 fixed (R355, region 0x02). -/
structure RefItems where
  /-- Kind and REF_SLOT_UNC of the active slot, if there is one; its last result; Suspect, and y_dis of R167 in units of
  10^-12. -/
  active : Option (Nat × Nat)
  info : Option RefInfo
  suspect : Bool
  disMax : Nat
  /-- Servo state and e_n = e_c − TB_SLEW_REM. -/
  servo : Nat
  eN : Int
  /-- REF_HOLD_UNC, the near time of the last clean entry, and REF_HOLD_SUM. -/
  a0 : Nat
  a1 : Nat
  a2 : Nat
  lastClean : Nat
  holdSum : List Word
  /-- Start, base and coefficients that R169 fixed. -/
  holdT0 : Nat
  holdBase : Nat
  holdA : Nat × Nat × Nat
  deriving DecidableEq, Repr

/-- A mirrored record by region (R355). -/
inductive JRec where
  /-- 0x01: servo, ensemble and slew terms in force, the step or set applied in the epoch, TB step count. -/
  | terms (servo ens slew : Int) (shift : Option Int) (steps : Nat)
  /-- 0x02. -/
  | items (x : RefItems)
  /-- 0x03: SVC_MC_SEQ of the 32 instances, gPTP sequenceIds of the drive segment. -/
  | seqs (mc : List Word) (gpSync gpAnn : Nat)
  /-- 0x04: index and the twelve words of a session. -/
  | session (i : Nat) (ws : List Word)
  /-- 0x05: session index with its Sync and Announce sequenceIds. -/
  | checkpoint (l : List (Nat × Nat × Nat))
  /-- 0x06: sequenceNo of an association. -/
  | assoc (i sequenceNo : Nat)
  /-- 0x07: launch entry: DSG_Q_LEN, DSG_Q_CTL, target, bytes. -/
  | launch (e len : Nat) (ctl : Word) (target : Nat) (bytes : List Byte)
  /-- 0x08: next-hop entry. -/
  | nextHop (i : Nat) (mac : Option Nat)
  /-- 0x09: hash keys. -/
  | hashKeys (ks : List Nat)
  deriving DecidableEq, Repr

/-- The hello of R342, with the sender's mirror epoch (R339). -/
structure Hello where
  hwId : Nat
  side : Bool
  buildStruct : Word
  buildCore : Word
  version : Nat
  latTx : Word
  latRx : Word
  epoch : Nat
  deriving DecidableEq, Repr

/-- The commit of R354: epoch, record count, CRC-32C over the payloads of its records, claim and twin state; `sweep` marks the commit
that ends a sweep (R357). -/
structure Commit where
  n : Nat
  count : Nat
  crc : Nat
  claim : Nat
  twin : Nat
  sweep : Bool
  deriving DecidableEq, Repr

/-- Mean, std, count and age of the markers sent (source 0x70) and received (0x71) (R350). -/
structure AlignMsg where
  txMean : Int
  txStd : Nat
  txN : Nat
  txAge : Nat
  rxMean : Int
  rxStd : Nat
  rxN : Nat
  rxAge : Nat
  deriving DecidableEq, Repr

/-- What a frame of type 0x05 asks for again: an epoch (R356), a session that failed its scrub (R362), or the whole store (R357). -/
inductive AgainMsg where
  | epoch (n : Nat)
  | session (i : Nat)
  | store
  deriving DecidableEq, Repr

/-- A health frame (R360). -/
structure Health where
  claim : Nat
  twin : Nat
  device : Nat
  servo : Nat
  cls : Nat
  fenced : Nat
  bound : Nat
  keyDigest : Nat
  cfgDigest : Nat
  passed : Nat
  failed : Nat
  deriving DecidableEq, Repr

/-- The payload of a Millrace frame by type (R339): 0x01 to 0x08 in order. -/
inductive MrBody where
  | hello (h : Hello)
  | journal (r : JRec)
  | commit (c : Commit)
  | ack (n : Nat)
  | again (a : AgainMsg)
  | align (a : AlignMsg)
  | health (h : Health)
  | sweep (r : JRec)
  deriving DecidableEq, Repr

/-- What the launch of a message needs of the wire (R245): the word of the subport's transmit grid, the lane and the UI position
of the timestamp point. -/
structure WirePos where
  word : Nat
  lane : Nat
  ui : Nat
  deriving DecidableEq, Repr

/-- What a pipeline meets in an operation: the launch position on the wire, a parity error in the weir's bucket, and whether a job of
the operation was in flight on an engine as that engine was fenced (R317). -/
structure PipeObs where
  pos : WirePos
  weirBad : Bool
  lost : Bool
  deriving DecidableEq, Repr

/-- A frame on the line (R237, R243): bytes from the destination address to the FCS; the start was valid; an error marker was met;
lane, UI position and capture code of the timestamp point; FEC codewords corrected and uncorrectable. On the drive segment `ui`
is the number of 40 ns cycles since the last CK_32K edge (R257). With `more` the frame goes on in the next command of its receiver:
these are only its next bytes, and lane, position and code are those of its first command. -/
structure RxObs where
  bytes : List Byte
  more : Bool
  startOk : Bool
  err : Bool
  lane : Nat
  ui : Nat
  code : Nat
  fecC : Nat
  fecU : Nat
  deriving DecidableEq, Repr

/-- The launch of the oldest frame handed to a MAC (R245): word of the transmit grid, lane, UI position and capture code of the
timestamp point. On the drive segment `ui` is the number of 40 ns cycles since the last CK_32K edge, and `echo` the difference of
the stamps of the frame's echo (R265), if it was heard. -/
structure TxObs where
  pos : WirePos
  code : Nat
  echo : Option Int
  deriving DecidableEq, Repr

/-- The fate of a transmit opportunity (R262). -/
inductive ToKind where
  | own | other | silent
  deriving DecidableEq, Repr

/-- An access of a core to memory (R375): 0 fetch, 1 read, 2 write. -/
inductive MemAcc where
  | fetch | read | write
  deriving DecidableEq, Repr

/-- Why a core takes an exception (R367 to R375): an access that it makes, an illegal instruction, an entry to user level, its local
timer, or another cause of its own. -/
inductive ExcKind where
  | access (va : Nat) (acc : MemAcc) (user : Bool)
  | illegal
  | userEntry
  | timer
  | other
  deriving DecidableEq, Repr

/-- An exception of a core: its kind, the program counter, the status word, and how many return-from-exception instructions the core has
executed since its exception before (R369). -/
structure CoreExc where
  kind : ExcKind
  pc : Nat
  status : Nat
  returns : Nat
  deriving DecidableEq, Repr

/-- Where a parity error of an access is found (R40, R365, R376, R377). -/
inductive ParitySite where
  | sram (va : Nat) (acc : MemAcc) (user : Bool)
  | icache
  | dcache
  | tlb (i : Nat)
  | dmaTlb (ch : Fin 16) (i : Nat)
  /-- A buffer of the frame that pipeline `p` works on. -/
  | rxPacket (p : Fin 4)
  /-- A buffer of the next frame of the MAC of subport `s` of port block `p`. -/
  | txPacket (p : Fin 9) (s : Fin 2)
  /-- The table word in the keys and miscellaneous region that holds a register's configuration. -/
  | config (a : BarAddr)
  /-- Entry `i` of the history ring in control SRAM (R148). -/
  | history (i : Fin 4096)
  /-- The tables of ephemerides and position that firmware keeps for GNSS wakes (R230). -/
  | ephemerides
  deriving DecidableEq, Repr

/-- A parity-protected table entry of a PLL: a band (R187) or a hop cache entry (R189). -/
inductive PllCell where
  | band (b : Fin 128)
  | hop (e : Fin 32)
  deriving DecidableEq, Repr

/-- A command of the block: one row of the opcode table. -/
inductive Instr where
  /-- REGISTER_WRITE (R5). A write to a register that has no row of its own acts on each field by its access code, subject to requester rights, domain power and presence. -/
  | registerWrite (r : Req) (a : BarAddr) (d : Word)
  /-- RC_READ (R5). A read of a field with access RC returns its value and clears it; for an observation requester it clears nothing shared. -/
  | rcRead (r : Req) (a : BarAddr)
  /-- LOW_WORD_LATCH_READ (R77). A read of the low word of a 64-bit register latches the high word for that requester only. -/
  | lowWordLatchRead (r : Req) (a : BarAddr)
  /-- HIGH_WORD_COMMIT (R77). A write of the high word of a 64-bit register commits the requester's held low word with it in one cycle. -/
  | highWordCommit (r : Req) (a : BarAddr) (d : Word)
  /-- VIN_RISE (R443). VIN rises above 4.30 V, the buck soft-starts VAON and the device leaves Off for Boot. -/
  | vinRise
  /-- VIN_FALL (R443). VIN falls below 4.05 V and the device returns to Off, keeping only what is archived in flash. -/
  | vinFall
  /-- VIN_WARN (R444). The 1 ms VIN measurement finds VIN below PWR_VIN_WARN, raises event 0x0C03 and starts a forced state block. -/
  | vinWarn (mv : BitVec 16)
  /-- RESET_N_ASSERT (R456). RESET_N held low for at least 1 µs enters Boot from any state and holds every domain except PD_AON off. -/
  | resetNAssert
  /-- RESET_N_RELEASE (R456). The rising edge of RESET_N samples the straps and starts the Boot sequence. -/
  | resetNRelease (st : Straps)
  /-- BOOT_SEQUENCE (R457). The device runs Boot from rails and PD_CTL through image check, TB seeding and domain power-up to Standby. -/
  | bootSequence (o : BootObs)
  /-- CK_32K_SOURCE_CHANGE (R445). CK_32K starts or stops on its crystal, PD_AON switches between crystal and RC oscillator, and event 0x0C0A is raised. -/
  | ck32kSourceChange (crystal : Bool)
  /-- RAIL_FAULT (R449). A rail outside its window for more than 10 µs is reported as fatal (core, SRAM) or fences the quads (SerDes rails). -/
  | railFault (rail : Rail)
  /-- PMBUS_POLL (R448). Every 10 ms PWR reads voltage, current, temperature and status of each stage and raises event 0x0C05 on a fault. -/
  | pmbusPoll (rs : List StageReading)
  /-- STAGE_ALERT (R448). PWR_PMB_ALERT_N goes low and event 0x0C05 is raised. -/
  | stageAlert (stage : Fin 6) (status : BitVec 16)
  /-- AVS_STEP (R447). Every 10 ms the adaptive loop reads the speed monitors and moves the VDD_CORE target by at most 5 mV. -/
  | avsStep (margin : BitVec 16) (move : AvsMove)
  /-- DOMAIN_POWER_UP (R451). A domain closes its switches, fills its SRAM, releases reset, opens clamps and requests clocks. -/
  | domainPowerUp (d : Dom)
  /-- DOMAIN_POWER_DOWN (R451). A domain clamps its outputs, asserts reset and opens its switches in reverse order. -/
  | domainPowerDown (d : Dom)
  /-- DOMAIN_ACK_TIMEOUT (R451). A power switch acknowledge missing after 10 µs leaves the domain off, raises event 0x0C0B and reports a contained fault. -/
  | domainAckTimeout (d : Dom)
  /-- PWR_DOM_OFF_WRITE (R453). A full-rights write holds optional declared domains off, refusing the SerDes reference domain or non-optional domains. -/
  | pwrDomOffWrite (r : Req) (d : Word)
  /-- REQ_SERVE (R458). A PWR_REQ for Serve in Standby moves the device to Serve at the next 1 ms epoch. -/
  | reqServe (r : Req)
  /-- REQ_STANDBY (R458). A PWR_REQ for Standby in Serve moves the device to Standby at the next 1 ms epoch. -/
  | reqStandby (r : Req)
  /-- REQ_LOW_WATER (R459). A PWR_REQ for Low water in Standby hands time to the low-power counter, writes a state block and powers the domains down. -/
  | reqLowWater (r : Req)
  /-- DISCIPLINE_WAKE (R460). Every PWR_LW_DISC seconds the device powers PD_CTL, PLL_TICK and PD_MEAS to correct the low-power counter. -/
  | disciplineWake (load : Bool) (lock : Bool)
  /-- GNSS_WAKE (R230). Every GN_LW_PERIOD seconds the device wakes PD_GNSS, captures samples and checks the low-power counter against GNSS. -/
  | gnssWake (o : GnssWakeObs)
  /-- DISCIPLINE_MEASUREMENT (R461). On completion of the two-edge measurement PWR computes the new increment and raises BND_HOLD_BASE by add_ps. -/
  | disciplineMeasurement (tau : Nat) (ok : Bool)
  /-- WAKE_MAX_EXPIRY (R460). A wake longer than PWR_LW_CTL.wake_max ends at its next step boundary with event 0x0C08 reason 2. -/
  | wakeMaxExpiry
  /-- WAKE_SOURCE (R464). An enabled wake source in Low water is latched and the device exits to Boot, or abandons an entry in progress. -/
  | wakeSource (src : Fin 9)
  /-- LW_EXIT_TARGET_DUE (R464). The near-time target PWR_LW_EXIT becomes due on the low-power counter and acts as a wake source. -/
  | lwExitTargetDue
  /-- IMG_LOAD_HOST (R57). IMG_CMD.load_host verifies and runs the staged host set in Boot, or sets cause 0x0A outside Boot. -/
  | imgLoadHost (r : Req) (o : BootObs)
  /-- IMG_RELOAD (R58). IMG_CMD.reload verifies a staged structure image and checks that no fixed section differs. -/
  | imgReload (r : Req)
  /-- RELOAD_APPLY (R59). An accepted reload applies all live sections at the first 1 ms epoch at least 1 µs after verification, after the R29 actions. -/
  | reloadApply
  /-- IMG_CONFIRM (R56). IMG_CMD.confirm confirms the running flash slot as last-known-good and clears its attempt counter. -/
  | imgConfirm (r : Req)
  /-- LKG_TIME_EXPIRY (R56). After IMG_LKG_TIME seconds in Standby or Serve without a fatal fault the running slot is confirmed. -/
  | lkgTimeExpiry
  /-- IMG_CLEAR_BAD (R55). IMG_CMD.clear_bad clears the bad mark of the named flash slot. -/
  | imgClearBad (r : Req) (slot : Fin 4)
  /-- SPI_READ (R70). An SPI frame with opcode 0x03 reads words from the map and returns a status byte for the first word. -/
  | spiRead (a : BarAddr) (n : Nat)
  /-- SPI_WRITE (R70). An SPI frame with opcode 0x02 writes words to the map, each taking effect when its last bit arrives. -/
  | spiWrite (a : BarAddr) (ws : List Word) (cut : Bool)
  /-- SPI_QUAD_READ (R70). An SPI frame with opcode 0xEB reads words over four lines. -/
  | spiQuadRead (a : BarAddr) (n : Nat)
  /-- SPI_QUAD_WRITE (R70). An SPI frame with opcode 0x38 writes words over four lines. -/
  | spiQuadWrite (a : BarAddr) (ws : List Word) (cut : Bool)
  /-- I2C_WRITE_TRANSFER (R73). An I2C write transfer carries a 4-byte address and data words that are written in turn. -/
  | i2cWriteTransfer (adr : BitVec 7) (a : BarAddr) (ws : List Word) (cut : Bool)
  /-- I2C_READ_TRANSFER (R73). An I2C read transfer reads data words after an address write and repeated START, stretching SCL up to 100 µs per byte. -/
  | i2cReadTransfer (adr : BitVec 7) (a : BarAddr) (n : Nat)
  /-- PCIE_MEMORY_WRITE (R68). A PCIe memory write to BAR0 is applied word by word, discarding words with partial byte enables. -/
  | pcieMemoryWrite (f : Pf) (a : BarAddr) (ws : List (Word × BitVec 4))
  /-- PCIE_MEMORY_READ (R68). A PCIe memory read of up to 4 KiB is completed word by word, each word counting as a separate read. -/
  | pcieMemoryRead (f : Pf) (a : BarAddr) (n : Nat)
  /-- PERST_N_ASSERT (R69). PERST_N low resets the endpoint core, releases PF-owned bulk channels and holds MSI-X messages. -/
  | perstNAssert
  /-- PERST_N_RELEASE (R489). PERST_N rising starts both functions as after a conventional reset and lets the link train. -/
  | perstNRelease
  /-- PCIE_LINK_UP (R489). The PCIe link reaches L0, HIF_STATUS reports it and event 0x0406 is raised. -/
  | pcieLinkUp (speed : Fin 5) (width : Fin 5)
  /-- PCIE_LINK_DOWN (R69). The link goes down without PERST_N; no channel is released and event 0x0405 is raised. -/
  | pcieLinkDown
  /-- MSIX_SEND (R67). A held MSI-X message is sent once the function is in D0 with MSI-X enabled, the vector unmasked and Bus Master Enable set. -/
  | msixSend (f : Pf)
  /-- HIF_MGMT_LOCK (R75). A write of 1 to HIF_MGMT_CTL.lock freezes spi_full and i2c_full against setting until the next Boot. -/
  | hifMgmtLock (r : Req) (d : Word)
  /-- BULK_SEL_WRITE (R79). A write of HIF_BULK_SEL claims a free channel or aborts the owner's channel, setting err 4 for a disallowed target. -/
  | bulkSelWrite (r : Req) (c : Fin 8) (d : Word)
  /-- BULK_DATA_READ (R80). A read of the data port returns the word at the cursor and advances it, or sets err on underrun or range. -/
  | bulkDataRead (r : Req) (c : Fin 8)
  /-- BULK_DATA_WRITE (R80). A write of the data port stores the word at the cursor and advances it, or sets err on overrun or range. -/
  | bulkDataWrite (r : Req) (c : Fin 8) (d : Word)
  /-- BULK_CURSOR_WRITE (R80). A write of HIF_BULK_CURSOR sets the cursor with bits [1:0] cleared. -/
  | bulkCursorWrite (r : Req) (c : Fin 8) (d : Word)
  /-- BULK_FLUSH (R84). HIF_BULK_CMD.flush programs a partial flash page. -/
  | bulkFlush (r : Req) (c : Fin 8)
  /-- BULK_ERASE (R84). HIF_BULK_CMD.erase erases the 64 KiB flash sector that holds the cursor. -/
  | bulkErase (r : Req) (c : Fin 8)
  /-- BULK_ABORT (R79). HIF_BULK_CMD.abort empties the channel's buffers and clears err. -/
  | bulkAbort (r : Req) (c : Fin 8)
  /-- BULK_RELEASE (R79). HIF_BULK_CMD.release aborts and frees the channel. -/
  | bulkRelease (r : Req) (c : Fin 8)
  /-- FLASH_PAGE_PROGRAM_DONE (R84). A flash page program completes and is read back, setting err 5 on a mismatch. -/
  | flashPageProgramDone (c : Fin 8) (readBack : List Byte)
  /-- FLASH_ERASE_DONE (R84). A sector erase completes, clearing busy and restoring space. -/
  | flashEraseDone (c : Fin 8)
  /-- EPOCH_1US (R104). At each 1 µs epoch the voter compares the three state vectors and repairs one odd channel or declares a fatal fault. -/
  | epoch1us (us : List Upset)
  /-- CHANNEL_SELFTEST_DONE (R105). After 64 ticks the channel's self-test ends; on a pass it is loaded and rejoins, on a fail or over the count it is fenced. -/
  | channelSelftestDone (pass : Bool)
  /-- EPOCH_1MS (R29). At each 1 ms epoch the device applies pending changes, sums the ledger, commits the mirror epoch and fires due comparators in order. -/
  | epoch1ms (o : EpochObs)
  /-- TB_STEP (R95). TB_CMD.step arms the signed step if busy, policy and threshold tests pass, otherwise refuses it. -/
  | tbStep (r : Req)
  /-- TB_SET (R96). TB_CMD.set arms an absolute set in Standby, otherwise refuses it. -/
  | tbSet (r : Req)
  /-- TB_SLEW (R99). TB_CMD.slew adds the slew amount to the remainder at the next application boundary. -/
  | tbSlew (r : Req)
  /-- TB_CANCEL (R97). TB_CMD.cancel discards a pending step or set and ends any slew at the next group. -/
  | tbCancel (r : Req)
  /-- TB_READMIT (R106). TB_CMD.readmit starts the 64-tick self-test of a fenced channel, or refuses it. -/
  | tbReadmit (r : Req) (ch : BitVec 2)
  /-- TB_READMIT_DONE (R106). The readmission test completes; a pass loads the channel and rejoins it, a fail keeps it fenced. -/
  | tbReadmitDone (pass : Bool)
  /-- STEP_WAIT_EXPIRY (R93). No quiet boundary within TB_STEP_WAIT ms refuses the pending step or set with cause 0x03. -/
  | stepWaitExpiry
  /-- SLEW_COMPLETE (R99). The group whose slew term brings the remainder to 0 ends, slew_active clears and event 0x2007 is raised. -/
  | slewComplete
  /-- TIME_LATCH_READ (R77). A read of TB_NOW_FRAC or TB_NEAR_LO latches the time, UTC and GPS registers of one tick for the requester. -/
  | timeLatchRead (r : Req) (viaNear : Bool)
  /-- TB_ALARM_FIRE (R101). An enabled alarm's target becomes due; it sets fired, raises event 0x200C and advances or disarms. -/
  | tbAlarmFire (n : Fin 8)
  /-- LEAP_ENTRY_SUBMIT (R111). A write of LOG_LEAP_HI submits a leap-second entry that is accepted or refused by order and offset. -/
  | leapEntrySubmit (r : Req) (hi : Word)
  /-- UTC_OFFSET_CHANGE (R112). At the whole TAI second where a new offset takes effect, the offset in force changes and event 0x200B is raised. -/
  | utcOffsetChange
  /-- CALENDAR_LIMIT (R114). The UTC calendar reaches 2199-12-31 23:59:59 and holds, raising event 0x200D once. -/
  | calendarLimit
  /-- REFIN_EDGE (R121). An edge on a REFIN pin passes comparator, edge selection and hold-off, or is counted as suppressed. -/
  | refinEdge (pin : Fin 8) (falling : Bool)
  /-- HOLDOFF_EXPIRY (R121). The hold-off window of a REFIN pin ends and further edges are accepted again. -/
  | holdoffExpiry (pin : Fin 8)
  /-- CHANNEL_CAPTURE (R117). A measurement channel accepts an edge, converts (k, c) into an event stamp and accumulates a sample. -/
  | channelCapture (ch : Fin 24) (stop : Bool) (code : Fin 256)
  /-- INTERVAL_TIMEOUT (R122). A start with no stop within 2^32 ticks is dropped and counted as a timeout. -/
  | intervalTimeout (ch : Fin 24)
  /-- SCHEDULER_GRANT (R126). On a free channel or a due request the scheduler grants the channel to the lowest-class waiting request. -/
  | schedulerGrant
  /-- REQUEST_COMPLETE (R123). A request reaches N samples and the statistics engine publishes its result. -/
  | requestComplete (q : Fin 96) (latch : Int)
  /-- REQUEST_DUE (R128). A repeating request reaches its due time and waits, publishing a partial result if it was still running or held. -/
  | requestDue (q : Fin 96)
  /-- REQUEST_AGE_LIMIT (R128). The time since a request's last result exceeds its age limit, setting starved and raising event 0x2404. -/
  | requestAgeLimit (q : Fin 96)
  /-- MEAS_LOAD_SECOND (R129). At each whole second MEAS_LOAD reports demand and grants per class and raises event 0x2406 on over-subscription. -/
  | measLoadSecond
  /-- MEAS_CAL_INL_FULL (R133). MEAS_CAL_CMD.inl_full starts a full INL run. -/
  | measCalInlFull (r : Req)
  /-- MEAS_CAL_SKEW_ALL (R133). MEAS_CAL_CMD.skew_all marks every channel's skew as due. -/
  | measCalSkewAll (r : Req)
  /-- INL_RUN_TRIGGER (R133). A temperature change beyond dtemp or the expiry of MEAS_CAL_PERIOD starts a full INL run. -/
  | inlRunTrigger (temp : Int)
  /-- INL_RUN_COMPLETE (R131). An INL run ends; a pass stages the table for the next 1 ms epoch, a failure keeps the table and raises 0x2402. -/
  | inlRunComplete (hits : List Nat) (temp : Int)
  /-- SKEW_RUN_COMPLETE (R132). A skew run of a channel ends and sets d_ch, fencing the channel beyond 50 ps. -/
  | skewRunComplete (ch : Fin 24) (sum : Int)
  /-- MEAS_RESERVE_WRITE (R126). A write of MEAS_RESERVE sets class reserves, refusing a total above 24. -/
  | measReserveWrite (r : Req) (p : Fin 8) (d : Word)
  /-- MEAS_POWER_LOSS (R134). PD_MEAS powers down or is fenced; all requests return to Waiting with cleared accumulators. -/
  | measPowerLoss
  /-- REF_FEED (R138). A write of REF_FEED_E_HI commits a fed sample to a slot of kind 0x6, or is refused with cause 0x05. -/
  | refFeed (r : Req) (hi : Word)
  /-- SLOT_SIGNAL_TIMEOUT (R140). No pin activity or feed within the slot's timeout disqualifies the slot on the next 1 ms epoch. -/
  | slotSignalTimeout (n : Fin 32)
  /-- QUALIFY_TIMER_EXPIRY (R141). A Qualifying slot's timer reaches the requalification time and the slot becomes Qualified. -/
  | qualifyTimerExpiry (n : Fin 32)
  /-- SUSPECT_CLEAR_EXPIRY (R141). A Suspect slot's cause has been absent for sus_clear seconds and the slot returns to Qualified. -/
  | suspectClearExpiry (n : Fin 32)
  /-- DISAGREE_TIME_EXPIRY (R146). Two equal-rank slots disagree beyond the window for REF_DISAGREE_TIME seconds and both become Suspect. -/
  | disagreeTimeExpiry (a : Fin 32) (b : Fin 32)
  /-- LOCK_TIME_EXPIRY (R156). The servo error stays within REF_LOCK.win for REF_LOCK.time seconds and the servo enters Locked. -/
  | lockTimeExpiry
  /-- REF_SWITCH (R145). REF_CMD.switch selects the named entry manually if its slot is a candidate. -/
  | refSwitch (r : Req) (e : Fin 16)
  /-- REF_AUTO (R145). REF_CMD.auto ends a manual selection. -/
  | refAuto (r : Req)
  /-- REF_HOLD (R145). REF_CMD.hold forces Holdover whatever the candidates. -/
  | refHold (r : Req)
  /-- REF_RELEASE (R145). REF_CMD.release ends a forced Holdover. -/
  | refRelease (r : Req)
  /-- REF_TICK_SWITCH (R160). REF_CMD.tick_switch moves PLL_TICK to another present oscillator in Acquire or Locked. -/
  | refTickSwitch (r : Req)
  /-- HISTORY_ENTRY (R148). At the end of each history interval REF writes a ring entry, moves the pointer and refreshes the holdover summary. -/
  | historyEntry
  /-- ENSEMBLE_TERM_COMMIT (R159). A write of REF_ENS_TERM_HI commits term and rate, applied from the next 1 ms epoch. -/
  | ensembleTermCommit (r : Req) (hi : Word)
  /-- ENSEMBLE_TIMEOUT (R159). No ensemble term written within REF_ENS_CTL.timeout clears valid, freezes the rate and raises event 0x280D. -/
  | ensembleTimeout
  /-- SERVO_BW_WRITE (R154). A write of REF_SERVO_BW recomputes the gains, taking effect at the next result. -/
  | servoBwWrite (r : Req) (d : Word)
  /-- HOLD_MODEL_COMMIT (R151). A write of 1 to REF_HOLD_MODEL_CTL.valid commits the firmware prediction model. -/
  | holdModelCommit (r : Req)
  /-- SYN_SWEEP (R187). SYN_CMD.sweep measures every band limit of each selected Off PLL. -/
  | synSweep (r : Req) (mask : BitVec 4) (limits : List (List (BitVec 17 × BitVec 17)))
  /-- SYN_PLL_START (R192). SYN_PLL_CMD.start starts a PLL on its target by band search or from the hop cache. -/
  | synPllStart (r : Req) (p : Fin 4)
  /-- SYN_PLL_STOP (R192). SYN_PLL_CMD.stop turns the PLL off and holds its outputs low. -/
  | synPllStop (r : Req) (p : Fin 4)
  /-- SYN_PLL_HOP (R193). SYN_PLL_CMD.hop stops the outputs at low phase, loads the new divider and restarts on a 1 µs epoch after lock. -/
  | synPllHop (r : Req) (p : Fin 4)
  /-- SYN_PLL_FLUSH (R189). SYN_PLL_CMD.flush clears every unpinned hop cache entry. -/
  | synPllFlush (r : Req) (p : Fin 4)
  /-- BAND_SEARCH_COMPLETE (R188). A band search ends with a tune code in range and a cache entry, or fails after four retries. -/
  | bandSearchComplete (p : Fin 4) (codes : List (BitVec 16))
  /-- PLL_LOCK (R190). After 128 reference cycles within the window a PLL is declared Locked. -/
  | pllLock (p : Fin 4)
  /-- PLL_LOCK_LOSS (R190). After 64 cycles outside the window a PLL loses lock and coasts. -/
  | pllLockLoss (p : Fin 4)
  /-- PLL_REFERENCE_LOSS (R190). No reference edge within four periods declares the reference lost and the PLL coasts. -/
  | pllReferenceLoss (p : Fin 4)
  /-- PLL_CLOCK_FALLBACK (R25). A core or pipeline clock beyond 100 ppm switches its domain to the ring clock and fences work in flight. -/
  | pllClockFallback (pipeline : Bool)
  /-- PLL_CLOCK_RETURN (R25). After the PLL has been locked again for 1 ms the domain returns glitch-free to its PLL clock. -/
  | pllClockReturn (pipeline : Bool)
  /-- TICK_OUT_OF_RANGE (R24). The coasting tick passes 100 ppm and a fatal fault is taken. -/
  | tickOutOfRange
  /-- BAND_ENTRY_PARITY (R187). A parity error invalidates a band table entry and raises event 0x300B. -/
  | bandEntryParity (p : Fin 4) (e : PllCell)
  /-- SYN_OUT_CFG_WRITE (R195). A write of SYN_OUT_CFG enables or disables a clock output at its next high or low phase, refusing invalid settings. -/
  | synOutCfgWrite (r : Req) (o : Fin 16) (d : Word)
  /-- PPS_PHASE_COMMIT (R200). A write of SYN_PPS_PH_HI commits period, width and phase together and sets pending. -/
  | ppsPhaseCommit (r : Req) (q : Fin 4) (hi : Word)
  /-- PPS_ENABLE_WRITE (R200). A write of SYN_PPS_CFG.enable makes the enable or disable pending until a quiet epoch. -/
  | ppsEnableWrite (r : Req) (q : Fin 4) (d : Word)
  /-- PPS_CHANGE_APPLY (R200). At the first 1 ms epoch at which the pulse output is quiet the pending change is applied without a runt. -/
  | ppsChangeApply (q : Fin 4)
  /-- CAL_AGE_EXPIRY (R202). An output's calibration age exceeds SYN_CAL_AGELIM; cal_valid clears and event 0x3007 is raised. -/
  | calAgeExpiry (o : Fin 20)
  /-- OUTPUT_REALIGN_DONE (R197). An aligned output finishes absorbing a step by stretching and event 0x300A is raised. -/
  | outputRealignDone (o : Fin 16)
  /-- GN_SNAP_CAPTURE (R212). GN_SNAP_CMD.capture accepts a capture of the configured streams and arms it, or refuses it. -/
  | gnSnapCapture (r : Req)
  /-- GN_SNAP_CANCEL (R214). GN_SNAP_CMD.cancel returns an Armed buffer to Free. -/
  | gnSnapCancel (r : Req)
  /-- GN_SNAP_FREE (R214). GN_SNAP_CMD.free returns the buffer to Free. -/
  | gnSnapFree (r : Req)
  /-- CAPTURE_TRIGGER (R213). The capture's trigger occurs, the strobe stamps the first sample and samples are written. -/
  | captureTrigger
  /-- CAPTURE_COMPLETE (R214). L ms of samples are written and the buffer becomes Full, or Locked for a waiting claim. -/
  | captureComplete (pins : List (List Byte))
  /-- SNAPSHOT_PARITY (R215). A parity error in a buffer read discards the capture and re-arms it with trigger 0. -/
  | snapshotParity
  /-- GN_ACQ_START (R216). GN_ACQ_CMD.start queues an acquisition job or refuses it with cause 0x05. -/
  | gnAcqStart (r : Req)
  /-- GN_ACQ_ABORT (R216). GN_ACQ_CMD.abort ends an acquisition job. -/
  | gnAcqAbort (r : Req)
  /-- ACQ_JOB_COMPLETE (R217). An acquisition job ends and publishes metric, code phase, Doppler and C/N0 with event 0x3407. -/
  | acqJobComplete (j : Fin 16)
  /-- GN_CH_START (R222). GN_CH_CMD.start arms a channel or starts it at once, advancing a late start. -/
  | gnChStart (r : Req) (c : Fin 192)
  /-- GN_CH_STOP (R222). GN_CH_CMD.stop turns a channel Off. -/
  | gnChStop (r : Req) (c : Fin 192)
  /-- CHANNEL_START_INDEX (R222). The stream's sample index reaches GN_CH_START and the Armed channel starts Running. -/
  | channelStartIndex (c : Fin 192)
  /-- NCO_COMMIT (R221). A 64-bit commit of ω, ρ or the code adjustment takes effect from the next integration. -/
  | ncoCommit (r : Req) (c : Fin 192) (k : NcoReg) (v : Word)
  /-- DUMP_CLOSE (R220). The code phase crosses a millisecond and the channel writes a 64-byte dump record, or drops it on a full ring. -/
  | dumpClose (c : Fin 192) (pins : List Byte)
  /-- MEASUREMENT_EPOCH (R223). At each epoch instant TB issues the strobe and each Running channel is latched on its stream's latch sample. -/
  | measurementEpoch (idx : List Nat)
  /-- EPOCH_LATCH_TIMEOUT (R224). A latch interval missing 200 µs after the strobe is taken as half a sample and the stream is marked coarse. -/
  | epochLatchTimeout (n : Fin 4)
  /-- EPOCH_RECORDS_WRITE (R225). GN writes the epoch header and records, increments GN_EPOCH_SEQ and raises event 0x3403. -/
  | epochRecordsWrite
  /-- GN_FEED_COMMIT (R227). A write of GN_FEED_E_HI forwards the GNSS sample to the GNSS slot with forced flags, or drops it. -/
  | gnFeedCommit (r : Req) (hi : Word)
  /-- VERDICT_CHANGE (R229). An OSNMA or direction verdict changes, raising event 0x3409 and possibly triggering a capture. -/
  | verdictChange (r : Req) (d : Word)
  /-- PORT_LAT_CAL (R236). PORT_CMD.lat_cal takes the block's subports to Calibrating. -/
  | portLatCal (r : Req) (p : Fin 8)
  /-- PORT_RESTART (R236). PORT_CMD.restart sends the named subport to Training. -/
  | portRestart (r : Req) (p : Fin 8) (s : Fin 2)
  /-- PORT_READMIT (R236). PORT_CMD.readmit sends a Fenced block to Calibrating. -/
  | portReadmit (r : Req) (p : Fin 8)
  /-- LATENCY_CAL_COMPLETE (R250). Pad loopback calibration ends, setting lane latencies and moving to Training, or fencing the block. -/
  | latencyCalComplete (p : Fin 8) (rs : List Int)
  /-- LINK_UP (R236). Training completes and the subport enters Up with event 0x003. -/
  | linkUp (p : Fin 8) (s : Fin 2) (an : Bool)
  /-- LINK_DOWN (R236). The link is lost, the subport returns to Training, link_down increments and event 0x002 is raised. -/
  | linkDown (p : Fin 8) (s : Fin 2)
  /-- RX_FRAME (R237). A frame on a subport is filtered, buffered and checked at fixed byte positions and accepted or counted in one outcome. -/
  | rxFrame (p : Fin 8) (s : Fin 2) (o : RxObs)
  /-- TX_FRAME (R242). A frame handed to the MAC is padded, sent with its transmit stamp and compared with the prediction. -/
  | txFrame (p : Fin 9) (s : Fin 2) (o : TxObs)
  /-- DSG_MODE_WRITE (R259). A write of DSG_CFG.mode takes effect at the end of the cycle in progress, or is refused for a bad node. -/
  | dsgModeWrite (r : Req) (d : Word)
  /-- DSG_BEACON_START (R261). The coordinator starts a beacon at the grid instant after the previous cycle, counting skipped instants. -/
  | dsgBeaconStart
  /-- DSG_BEACON_RECEIVED (R260). A follower receives a beacon, restarts its fallback timer, stamps it and enters PLCA. -/
  | dsgBeaconReceived (code cyc : Nat)
  /-- DSG_TRANSMIT_OPPORTUNITY (R262). A PLCA transmit opportunity passes and moves between the ledger terms. -/
  | dsgTransmitOpportunity (k : ToKind)
  /-- PLCA_FALLBACK_TIMEOUT (R260). A follower sees neither beacon nor carrier for 4,000 bit times and falls back to CSMA. -/
  | plcaFallbackTimeout
  /-- CSMA_SILENCE (R260). After 96 bit times of silence in mode 3 the link enters CSMA. -/
  | csmaSilence
  /-- DSG_CLOCK_SOURCE_CHANGE (R257). At the first symbol boundary after PD_TB changes state the symbol clock changes source glitch-free. -/
  | dsgClockSourceChange
  /-- DSG_REALIGN_DONE (R258). The symbol clock reaches its new grid phase, realigning clears and event 0x6009 is raised. -/
  | dsgRealignDone
  /-- DSG_RX_FRAME (R263). A frame on the segment is tested, buffered and counted, with duplicate discard under R271. -/
  | dsgRxFrame (o : RxObs)
  /-- DSG_ECHO_CAL_PERIOD (R265). At the end of each DSG_CAL_PERIOD the echo mean sets the segment latencies or is refused. -/
  | dsgEchoCalPeriod
  /-- DSG_QUEUE_ENTRY (R266). A write of DSG_Q_TGT_HI queues the selected launch entry, refusing a busy entry or bad insertion. -/
  | dsgQueueEntry (r : Req) (hi : Word)
  /-- DSG_ENTRY_DUE (R267). A queued entry's target becomes due and it starts at the first allowed symbol edge, inserting its timestamp. -/
  | dsgEntryDue (e : Fin 16) (delay collisions : Nat) (parity : Bool) (echo : Option Int)
  /-- DSG_LATE_DROP (R267). An entry with drop_late not started by target plus DSG_LATE_TOL is dropped. -/
  | dsgLateDrop (e : Fin 16)
  /-- DSG_Q_STATUS_READ (R267). A read of DSG_Q_STATUS in Done returns the result and frees the entry. -/
  | dsgQStatusRead (r : Req)
  /-- DSG_LW_TEMPLATE_SEND (R273). While PD_TB is off the template sender sends Sync, Follow_Up and Announce with the Low water bound. -/
  | dsgLwTemplateSend (k : Fin 3) (delay : Nat)
  /-- DSG_PDELAY_RESPONSE (R273). The hardware responder answers a Pdelay_Req on the segment. -/
  | dsgPdelayResponse (delay : Nat)
  /-- PIPELINE_OPERATION (R279). A pipeline takes a queued frame or wheel entry through classify, lookup, verify, build, seal and launch. -/
  | pipelineOperation (p : Fin 4) (o : PipeObs)
  /-- CRYPTO_CREDIT_TIMEOUT (R281). A request waiting longer than SVC_CRY_WAIT for a crypto credit is dropped and counted. -/
  | cryptoCreditTimeout (p : Fin 4)
  /-- WHEEL_SLOT (R294). A wheel slot begins and its due entries are issued to their pipelines. -/
  | wheelSlotStart
  /-- SESSION_SWEEP (R293). Once per second the whole session store is swept and expired sessions end. -/
  | sessionSweep
  /-- WEIR_SWEEP (R303). Every 30 s every client weir bucket is updated. -/
  | weirSweep (bad : List (Fin 524288))
  /-- SESSION_PARITY (R293). A parity error drops a session, sending cancels when its addressing survived. -/
  | sessionParity (idx : Fin 262144) (addrOk : Bool)
  /-- TIMED_LAUNCH (R306). A frame waiting for its target launches when the target is due, discarded if the step count changed. -/
  | timedLaunch (p : Fin 9) (s : Fin 2)
  /-- HOST_TRANSMIT_RECORD (R309). A complete host transmit record is sent now or at its target, or discarded if it fails the limits. -/
  | hostTransmitRecord
  /-- NONTIMING_RESPONSE (R307). The responder answers ARP, Neighbor Solicitation or echo requests for served addresses. -/
  | nontimingResponse
  /-- ESMC_SEND (R296). Once per second, and within 10 ms of an SSM change, the device sends an ESMC PDU. -/
  | esmcSend (p : Fin 8) (s : Fin 2)
  /-- LEAP_INDICATOR_CHANGE (R289). The time before a leap entry crosses SVC_LEAP_PTP or SVC_LEAP_NTP and an indicator changes. -/
  | leapIndicatorChange
  /-- SERVING_CHANGE (R275). The conditions for serving change, SVC_STATUS.serving follows and event 0x640B is raised. -/
  | servingChange
  /-- KEY_DELIVERY (R322). When the cursor reaches the record length, KEY checks and unwraps the delivery and writes its slot or refuses it. -/
  | keyDelivery (c : Fin 8)
  /-- KEY_DELIVERY_DISCARD (R322). A release or abort of the channel before the length is reached discards the delivery with cause 0x0B. -/
  | keyDeliveryDiscard (c : Fin 8)
  /-- KEY_CLOSE (R329). KEY_CMD.close closes the presence window. -/
  | keyClose (r : Req)
  /-- KEY_ZEROIZE (R331). KEY_CMD.zeroize clears the volatile slots as in the seal reaction. -/
  | keyZeroize (r : Req)
  /-- KEY_ERASE (R323). KEY_CMD.erase zeroizes one slot and returns it to Empty. -/
  | keyErase (r : Req) (kind : Fin 4) (slot : BitVec 10)
  /-- KEY_CLEAR_OPENED (R331). KEY_CMD.clear_opened, an RWP field, clears KEY_STATUS.opened inside a window. -/
  | keyClearOpened (r : Req)
  /-- PRESENCE_ASSERT (R329). PRESENCE_N low for 50 ms after 50 ms high with the seal Intact opens a 60 s presence window. -/
  | presenceAssert
  /-- PRESENCE_WINDOW_EXPIRY (R329). 60 s after opening the presence window closes. -/
  | presenceWindowExpiry
  /-- SEAL_OPEN (R331). Two consecutive seal mismatches open the seal, close the window, latch opened and zeroize by policy. -/
  | sealOpen
  /-- SEAL_INTACT (R330). 1,024 consecutive matches make the seal Intact again. -/
  | sealIntact
  /-- ZEROIZATION_COMPLETE (R331). The clear engine finishes zeroizing and event 0x6804 is raised. -/
  | zeroizationComplete
  /-- KEY_ACTIVATION_EVALUATION (R325). At the first 1 ms epoch of each TAI second, activations and expiries move keys between states. -/
  | keyActivationEvaluation
  /-- KEY_SLOT_PARITY (R319). A parity error marks a slot Invalid and promotes an Accepting key if it was Current. -/
  | keySlotParity (kind : Fin 4) (slot : Fin 1024)
  /-- PROGRAM_HASH (R335). KEY_FUSE_CMD.program_hash writes a public-key hash into a free fuse slot. -/
  | programHash (r : Req) (slot : Fin 4)
  /-- REVOKE_HASH (R335). KEY_FUSE_CMD.revoke_hash revokes a hash slot unless it is the last valid one. -/
  | revokeHash (r : Req) (slot : Fin 4)
  /-- PROGRAM_KEK (R335). KEY_FUSE_CMD.program_kek programs KEK_F. -/
  | programKek (r : Req)
  /-- REVOKE_KEK (R335). KEY_FUSE_CMD.revoke_kek revokes KEK_F. -/
  | revokeKek (r : Req)
  /-- DISABLE_DEBUG (R335). KEY_FUSE_CMD.disable_debug blows the debug_off fuse. -/
  | disableDebug (r : Req)
  /-- FUSE_COMMAND_COMPLETE (R335). A fuse command finishes its read-back verify, raising 0x680C or marking the slot partial with 0x680D. -/
  | fuseCommandComplete (got : List Word) (mark : Bool)
  /-- DEBUG_UNLOCK (R333). A write of KEY_DEBUG.unlock in a window zeroizes volatile slots and opens debug access until Boot. -/
  | debugUnlock (r : Req)
  /-- ENGINE_SELFTEST (R317). At PD_CRY power-up each crypto engine runs its known-answer tests and is fenced on a failure. -/
  | engineSelftest (failed : List (Fin 24))
  /-- ENGINE_READMIT (R317). KEY_ENG_CMD.readmit repeats the tests on a fenced engine and returns its credits on a pass. -/
  | engineReadmit (r : Req) (e : Fin 24) (pass : Bool)
  /-- RNG_RESEED (R336). KEY_RNG_CTL.reseed reseeds the DRBG. -/
  | rngReseed (r : Req)
  /-- RNG_HEALTH_FAILURE (R336). A failed health test stops the DRBG as a contained fault with event 0x680F. -/
  | rngHealthFailure
  /-- MILLRACE_LINK_TRAINING (R340). The Millrace link calibrates latencies, locks blocks and exchanges hellos. -/
  | millraceLinkTraining (r : Int)
  /-- HELLO_RECEIVED (R342). The partner's hello is checked and pairing is accepted with a sweep, or refused. -/
  | helloReceived (h : Hello) (crcOk : Bool)
  /-- MILLRACE_LINK_LOSS (R340). Loss of signal for 10 µs or 16 CRC errors in an epoch takes the link Down or to Training. -/
  | millraceLinkLoss (crc : Bool)
  /-- CLAIM_ROUND_END (R344). At the end of a 22-bit claim round each chip wins or loses and the twin state and claim stages follow. -/
  | claimRoundEnd (present : Bool) (claim : BitVec 16)
  /-- CLAIM_STAGE_CHANGE (R204). A claim stage starts or stops driving at its output's next low phase. -/
  | claimStageChange (o : Fin 20)
  /-- CLAIM_BUS_FAULT (R346). A mismatch on the bus or CLAIM_C low for 4 bit times declares a bus fault. -/
  | claimBusFault
  /-- PARTNER_LOSS_EXPIRY (R347). The partner absent and the link not Up for TWN_LOSS_TIME moves the chip to Orphan. -/
  | partnerLossExpiry
  /-- TWN_YIELD (R343). TWN_CMD.yield sets claim bits [14:0] to 0. -/
  | twnYield (r : Req)
  /-- TWN_UNYIELD (R343). TWN_CMD.unyield ends a yield. -/
  | twnUnyield (r : Req)
  /-- TWN_RESYNC (R357). TWN_CMD.resync starts a sweep of the mirror. -/
  | twnResync (r : Req)
  /-- TWN_RETRAIN (R340). TWN_CMD.retrain takes the Millrace link to Training. -/
  | twnRetrain (r : Req)
  /-- TWN_ASYM_WRITE (R353). A write of TWN_ASYM increments TWN_ALIGN_SEQ and writes the alignment record. -/
  | twnAsymWrite (r : Req) (d : Word)
  /-- ALIGNMENT_FRAME (R351). An alignment frame from the partner is combined with local results into θ, delay, σ and the trim. -/
  | alignmentFrame (a : AlignMsg) (crcOk : Bool)
  /-- JOURNAL_RECORD (R356). A journal record of the Active is staged by the Standby. -/
  | journalRecord (n : Nat) (x : JRec) (crcOk : Bool)
  /-- MIRROR_COMMIT_RECEIVED (R356). A commit whose count and CRC match applies the staged epoch and is acknowledged; otherwise a resend is requested. -/
  | mirrorCommitReceived (c : Commit) (crcOk : Bool)
  /-- MIRROR_ACKNOWLEDGE (R356). The Active receives an acknowledge and releases the epoch's journal. -/
  | mirrorAcknowledge (n : Nat) (crcOk : Bool)
  /-- REQUEST_AGAIN (R356). The Active receives a request again and resends the epoch ahead of new ones. -/
  | requestAgain (a : AgainMsg) (crcOk : Bool)
  /-- RETENTION_EXCEEDED (R356). An epoch not acknowledged within TWN_RETAIN epochs starts a sweep. -/
  | retentionExceeded
  /-- SWEEP_RECORD (R357). A sweep record copies part of the session store, next-hop table or hash keys to the Standby. -/
  | sweepRecord (x : JRec) (crcOk : Bool)
  /-- HEALTH_FRAME_SEND (R360). Once per second the chip sends its health frame. -/
  | healthFrameSend
  /-- HEALTH_FRAME_RECEIVED (R361). A partner health frame is compared for key and configuration digests. -/
  | healthFrameReceived (h : Health) (crcOk : Bool)
  /-- HEALTH_STALE (R361). Three missed health frames set health_stale and raise event 0x6C08. -/
  | healthStale
  /-- HUNT_TEST (R362). Every TWN_BIST_PERIOD a Standby runs the next hidden-fault test and reports a failure to FLT. -/
  | huntTest (pass : Bool)
  /-- CORE_START (R368). CTL_CORE_CMD.start starts a Halted core at its entry point. -/
  | coreStart (r : Req) (c : Fin 4)
  /-- CORE_HALT (R368). CTL_CORE_CMD.halt halts a core. -/
  | coreHalt (r : Req) (c : Fin 4)
  /-- CORE_READMIT (R368). CTL_CORE_CMD.readmit self-tests a Fenced core and halts it on a pass. -/
  | coreReadmit (r : Req) (c : Fin 4)
  /-- SLEEP_INSTRUCTION (R368). A core executes sleep and gates its clocks until a record or its timer. -/
  | sleepInstruction (c : Fin 4)
  /-- CORE_EXCEPTION (R369). An exception saves state in a free bank, or a double fault halts and restarts the core. -/
  | coreException (c : Fin 4) (x : CoreExc)
  /-- WATCHDOG_KICK (R370). A write of 0x0000_C0DE to CTL_WDOG_KICK restarts the core's watchdog. -/
  | watchdogKick (src : Fin 4) (c : Fin 4) (d : Word)
  /-- WATCHDOG_EXPIRY (R370). The watchdog expires and the core is halted and restarted with cause 2. -/
  | watchdogExpiry (c : Fin 4)
  /-- CORE_TIMER_FIRE (R371). The core's near-time comparator becomes due, raises a local timer exception and disarms. -/
  | coreTimerFire (c : Fin 4)
  /-- LOCKSTEP_ENABLE_WRITE (R372). A write of CTL_LS_CTL.en forms or dissolves the lockstep pair while both cores are Halted. -/
  | lockstepEnableWrite (r : Req) (d : Word)
  /-- LOCKSTEP_MISMATCH (R372). A lockstep mismatch halts both cores, self-tests them and restarts or fences them. -/
  | lockstepMismatch (pass2 pass3 : Bool)
  /-- TLB_INVALIDATE (R376). A write of CTL_TLB_INV invalidates core and channel TLB entries, busy until in-flight beats commit. -/
  | tlbInvalidate (r : Req) (d : Word)
  /-- PAGE_RELOAD (R377). CTL_RELOAD_CMD.go reloads a read-only control SRAM page from flash after a hash check, or refuses it. -/
  | pageReload (r : Req)
  /-- SRAM_PARITY_ACCESS (R377). A core access to a word with bad parity takes a precise parity exception. -/
  | sramParityAccess (c : Fin 4) (site : ParitySite) (pc status : Nat)
  /-- DMA_HEAD_WRITE (R378). A write of CTL_DMA_HEAD hands descriptors to the channel, which becomes Active. -/
  | dmaHeadWrite (r : Req) (ch : Fin 16) (d : Word)
  /-- DMA_BEAT (R380). At a beat boundary the highest-priority channel moves one beat after translating every page it touches. -/
  | dmaBeat (jobOk : Bool)
  /-- DESCRIPTOR_RETIRE (R378). A descriptor completes, its status is written, its token returns and event 0x7005 is raised if flagged. -/
  | descriptorRetire (ch : Fin 16)
  /-- DMA_PARK (R382). A channel meeting an error stops, writes the resume record and raises event 0x7006. -/
  | dmaPark (ch : Fin 16) (cause : Fin 16) (side : Bool) (va : Nat)
  /-- DMA_RESUME (R383). CTL_DMA_CMD.resume restarts a resumable parked channel, or a paused one. -/
  | dmaResume (r : Req) (ch : Fin 16)
  /-- DMA_PAUSE (R381). CTL_DMA_CMD.pause pre-empts the channel at its next boundary and holds it. -/
  | dmaPause (r : Req) (ch : Fin 16)
  /-- DMA_SKIP (R383). CTL_DMA_CMD.skip retires the parked descriptor with result 2 and continues. -/
  | dmaSkip (r : Req) (ch : Fin 16)
  /-- DMA_ABORT (R383). CTL_DMA_CMD.abort retires every fetched descriptor with result 1 and returns to Idle. -/
  | dmaAbort (r : Req) (ch : Fin 16)
  /-- EVENT_RAISE (R390). A block raises an event, setting the source pending with its code, parameter and time, and offers it to the recorder. -/
  | eventRaise (src : BitVec 12) (code : BitVec 16) (param : Word)
  /-- RECORD_DELIVERY (R391). A ready source's record is written into its target's ring, clearing pending and setting active. -/
  | recordDelivery (t : Fin 7)
  /-- EVQ_TGT_RD_WRITE (R394). A write of EVQ_TGT_RD moves the read index and completes every record it passes. -/
  | evqTgtRdWrite (r : Req) (t : Fin 7) (d : Word)
  /-- EVQ_RECORD_READ (R394). A read of EVQ_TGT_REC0 latches the selected record for the requester. -/
  | evqRecordRead (r : Req) (t : Fin 7)
  /-- MODERATION_EXPIRY (R396). A target's moderation timer expires with the ring non-empty and the target is notified. -/
  | moderationExpiry (t : Fin 7)
  /-- EVQ_RETARGET_WRITE (R399). A write of EVQ_RETARGET sets one source's target, refusing code 7 while a record is unread. -/
  | evqRetargetWrite (r : Req) (d : Word)
  /-- EVQ_SRC_TGT_WRITE (R399). A write of EVQ_SRC_TGT sets eight targets, checked per source. -/
  | evqSrcTgtWrite (r : Req) (v : Fin 512) (d : Word)
  /-- RETARGET_TIMEOUT (R399). A core target unavailable for EVQ_RETARGET_TO ms has its records re-routed to TGT_PF0. -/
  | retargetTimeout (c : Fin 4)
  /-- EVQ_HOLD_WRITE (R400). A write of EVQ_HOLD stops or resumes delivery to every ring. -/
  | evqHoldWrite (r : Req) (d : Word)
  /-- EVQ_RECORD_PARITY (R401). The first access that finds a ring record's parity bad returns zeros, counts it and raises event 0x1403. -/
  | evqRecordParity (t : Fin 7) (pos : Fin 1024)
  /-- UNIT_REPORT (R406). A unit's rails go to the error pair and the collector opens a handling, merges or waits for a slot. -/
  | unitReport (p : FltReport)
  /-- RAIL_FAULT_DETECT (R407). A rail pair stuck at equal levels for 4 cycles is recorded as a contained fault and the unit is polled. -/
  | railFaultDetect (u : Fin 64) (high : Bool)
  /-- UNIT_POLL (R407). Every 1 µs the collector polls a rail-faulted unit's error status through its scan path. -/
  | unitPoll (u : Fin 64) (o : PollResult)
  /-- SELFTEST_START (R410). The unit's self-test starts once it holds no work in flight, or 2 µs after the first report. -/
  | selftestStart (fi : Fin 8)
  /-- SELFTEST_COMPLETE (R410). The self-test result decides the final class, the record is written and the unit is fenced or returned. -/
  | selftestComplete (fi : Fin 8) (o : TestResult)
  /-- HANDLING_NO_TEST_EXPIRY (R410). 1 µs after the first report of a unit with no test the record is written and the slot freed. -/
  | handlingNoTestExpiry (fi : Fin 8)
  /-- FATAL_DECISION (R420). A fatal decision drops the claim, writes records and powers down every domain except PD_AON into Boot. -/
  | fatalDecision (u : Fin 64) (cause : Byte) (collector : Bool)
  /-- FLT_READMIT (R415). FLT_CMD.readmit starts the self-test of a Fenced or partly fenced unit, or refuses it. -/
  | fltReadmit (r : Req) (u : Fin 64)
  /-- READMIT_TEST_COMPLETE (R415). A readmission test ends; a pass returns the unit to Normal, a fail keeps it Fenced. -/
  | readmitTestComplete (u : Fin 64) (pass : Bool)
  /-- FLT_LATCH_READ (R416). A full-rights read of FLT_LATCH returns and clears the latched cause. -/
  | fltLatchRead (r : Req) (u : Fin 64)
  /-- FLT_RAIL_READ (R407). A full-rights read of FLT_RAIL ends polling of units whose rails have been idle for 1 s. -/
  | fltRailRead (r : Req) (high : Bool) (idle : List (Fin 64))
  /-- FLT_INJECT_GO (R418). FLT_INJ_CMD.go starts an injection at the rails or in the unit, or refuses it. -/
  | fltInjectGo (r : Req)
  /-- FLT_INJECT_STOP (R418). FLT_INJ_CMD.stop ends an injection. -/
  | fltInjectStop (r : Req)
  /-- INJECTED_REPORT (R418). After each gap the injection delivers its next report. -/
  | injectedReport
  /-- RECORDER_WRITE (R427). The recorder writes the next queued record to slot s mod 8,192 with the next sequence number. -/
  | recorderWrite
  /-- RECORDER_WEIR_SWEEP (R425). Every 32,768 CK_32K cycles every recorder weir is updated and may write a suppression record. -/
  | recorderWeirSweep
  /-- LOG_REC0_READ (R428). A read of LOG_REC0 returns word 0 of the record at the cursor and latches the rest. -/
  | logRec0Read (r : Req)
  /-- LOG_REC7_READ (R428). A read of LOG_REC7 advances the cursor when auto_inc is set and the read was not empty. -/
  | logRec7Read (r : Req)
  /-- LOG_CUR_WRITE (R428). A write of LOG_CUR sets the requester's cursor, clamped to LOG_WR_SEQ. -/
  | logCurWrite (r : Req) (d : Word)
  /-- STATE_BLOCK_PERIOD (R431). Every LOG_ARCH_PERIOD seconds a state block is written to the archive. -/
  | stateBlockPeriod (ok : Bool)
  /-- STATE_NOW (R431). LOG_ARCH_CMD.state_now writes a state block. -/
  | stateNow (r : Req) (ok : Bool)
  /-- ARCHIVE_FLUSH (R431). LOG_ARCH_CMD.flush programs the recorder page in progress. -/
  | archiveFlush (r : Req) (ok : Bool)
  /-- FORCED_STATE_BLOCK (R431). Within 1 s of a change of archived key state a forced state block is written. -/
  | forcedStateBlock (ok : Bool)
  /-- RECORDER_PAGE_PROGRAM (R431). A recorder page is programmed when full or when its oldest record is LOG_ARCH_FLUSH seconds old, within the budget. -/
  | recorderPageProgram (ok : Bool)
  /-- ARCHIVE_SECTOR_ERASE (R432). Before the head enters a sector the device erases it and writes its header. -/
  | archiveSectorErase (ok : Bool)
  /-- THERMAL_SAMPLE (R436). Once per second the die temperature is sampled and the thermal cycle and life counters advance. -/
  | thermalSample (temp : Int) (osc : Fin 16)
  /-- PMC_SNAP (R441). PMC_SNAP.go copies every counter and then each ledger at its own quiescent cycle. -/
  | pmcSnap (r : Req)
  /-- LEDGER_COPY (R441). A conserved-quantity ledger is copied on its first quiescent cycle; the snapshot completes with event 0x1C03. -/
  | ledgerCopy (l : Fin 6)
  /-- PMC_GEN_CFG_WRITE (R437). A write of PMC_GEN_CFG sets a counter's selector, refusing an unknown one. -/
  | pmcGenCfgWrite (r : Req) (n : Fin 64) (d : Word)
  /-- PMC_PRIV_WRITE (R439). A write of a privileged counter or its configuration is accepted only from supervisor firmware. -/
  | pmcPrivWrite (r : Req) (user : Bool) (a : BarAddr) (d : Word)
  /-- COUNTER_WRAP (R438). An unchained counter wraps from 2^48 − 1, sets ovf and raises event 0x1C01. -/
  | counterWrap (n : Fin 72) (inc : Nat)
  /-- ESMC_TIMEOUT (R142). When no ESMC PDU arrives for a SyncE slot for 5 s, its QL becomes DNU or DUS and event 0x280C is raised. -/
  | esmcTimeout (n : Fin 32)
  /-- SLOT_RESULT_TIMEOUT (R141). A Qualified slot that has had no result for 10 times its result interval becomes Suspect. -/
  | slotResultTimeout (n : Fin 32)
  /-- PLL_REFERENCE_RETURN (R192). The reference of a Coasting PLL is present again with edges within the window, and the PLL returns to Acquiring. -/
  | pllReferenceReturn (p : Fin 4)
  /-- DSG_SIGNAL_LOSS (R260). The 10BASE-T1S PHY loses signal and the link returns to Silent for PHY training. -/
  | dsgSignalLoss
  /-- PCIE_CONFIG_WRITE (R397). A host configuration write changes a function's power state, Bus Master Enable, MSI-X enable or mask, or PME_En, which can release WAKE_N and let a held MSI-X message be sent. -/
  | pcieConfigWrite (f : Pf) (w : CfgWrite)
  /-- RAIL_FAULT_RETRY (R449). After a core or SRAM rail fault that persists, PWR retries the stages every 1 s while it stays in Boot with PD_CTL off. -/
  | railFaultRetry (good : Bool)
  deriving DecidableEq, Repr

end Sys2Proof
end

