-- ==== Sys2Proof/Config.lean ====
section
/-! DEFINITION. What the implementation fixes and the spec leaves open. Every constant here is opaque: no proof can see its
value, so a statement holds whatever it is. Each is named in a log entry under notes/assumptions. -/

namespace Sys2Proof

/-- The `n`-th free value: a value that the spec leaves undefined or does not state. The state's counter `ctr` numbers the
uses (log entry 2). -/
opaque Config.freeNat (n : Nat) : Nat

/-- Severity in byte 2 of the recorder record of an event code; the spec states it for record 0x1001 only (log entry 7). -/
opaque Config.severity (code : Nat) : Nat

/-- SHA-256 of a byte string, as a number of 256 bits: a standard that the spec names and does not restate (log entry 8). -/
opaque Config.sha256 (bs : List Byte) : Nat

/-- Ed25519 verification (RFC 8032, pure Ed25519) of a signature over a message under a public key: a standard that the spec names
and does not restate (log entry 8). -/
opaque Config.ed25519 (pubkey msg sig : List Byte) : Bool

/-- The rounding of 10 log10(num / (den × 1 ms)) in units of 0.01 dB-Hz (R225), which the spec does not state (log entry 13): whether
the value is the next unit above the floor. -/
opaque Config.cn0Up (num den : Nat) : Bool

/-- C/N0 in units of 0.01 dB-Hz where the noise tap averages 0 (R225): the ratio has no value (log entry 13). -/
opaque Config.cn0NoNoise (num : Nat) : Nat

/-- C/N0 of an acquisition in units of 0.1 dB-Hz from the metric and K (R217): the spec states no estimator (log entry 151). -/
opaque Config.acqCn0 (metric k : Nat) : Nat

/-- A chip of a primary code (R211), true for −1: signal, PRN, component (0 the pilot or the only one, 1 data), chip index. The codes stand
in the interface documents that R210 names, which the spec does not restate (log entry 151). -/
opaque Config.primaryCode (sig prn comp chip : Nat) : Bool

/-- Cosine and sine of one of the 64 levels of the carrier wipe (R218): the spec gives the table no amplitude (log entry 151). -/
opaque Config.wipe (level : Nat) : Int × Int

/-- Code phases that the acquisition engine tries in a chip (R216): the spec gives no spacing (log entry 151). -/
opaque Config.acqSteps : Nat

/-- AEAD_AES_SIV_CMAC_256 open (RFC 5297): key, associated data strings, tag and ciphertext; none where the check fails. A
standard that the spec names and does not restate (log entry 8). -/
opaque Config.sivOpen (key : Nat) (ad : List (List Byte)) (c : List Byte) : Option (List Byte)

/-- AEAD_AES_SIV_CMAC_256 seal (RFC 5297): key, associated data strings and plaintext give the tag followed by the ciphertext
(log entry 8). -/
opaque Config.sivSeal (key : Nat) (ad : List (List Byte)) (p : List Byte) : List Byte

/-- HMAC-SHA256 of a byte string under a key, as a number of 256 bits (log entry 8). -/
opaque Config.hmacSha256 (key : Nat) (bs : List Byte) : Nat

/-- AES-GMAC of a byte string under a key (its length in bytes first) with a 96-bit IV, as a number of 128 bits (log entry
8). -/
opaque Config.gmac (len key iv : Nat) (bs : List Byte) : Nat

/-- KEY_DIGEST (R320): SHA-256 over key ID, state, activation and expiry of every non-empty slot, in slot order; the spec does
not lay the hashed bytes out (log entry 8). -/
opaque Config.keyDigest (slots : List (Nat × Nat × Nat × Nat)) : Nat

/-- The hash of a source that selects a pipeline (R278); the spec does not name it (log entry 20). -/
opaque Config.routeHash (bs : List Byte) : Nat

/-- Hash key `i` derived from a near time where no health test of the random source has passed (R336); the spec does not say how (log
entry 161). -/
opaque Config.timeKey (near i : Nat) : Nat

/-- The keyed hashes of R292, R294 and R302; the spec does not name them (log entry 20). -/
opaque Config.keyedHash (key : Nat) (bs : List Byte) : Nat

/-- The fused transmit share of the Millrace lane, in 1/65,536 (R341): no register shows it (log entry 24). -/
opaque Config.millraceSplit : Nat

/-- The payload of a journal record (R354, R355); the spec does not lay the payloads out (log entry 25). -/
opaque Config.jrecPayload (r : JRec) : List Byte

/-- An address of the keys and miscellaneous region lies in a key-slot range (R366); the spec gives no addresses (log entry
26). -/
opaque Config.keySlotAddr (a : Nat) : Bool

/-- The value of a field in an image section (R488), found by the register and the bit that the field has; the spec gives the
sections no layout (log entry 27). -/
opaque Config.imageField (sect : List Byte) (reg lo : Nat) : Nat

/-- A word of the staging area after a Boot that ran from flash: undefined (R82). `n` numbers the Boot (log entry 28). -/
opaque Config.stageWord (n a : Nat) : Nat

/-- The nominal index that PWR_SYSREF shows for a nominal frequency of R454 (log entry 29). -/
opaque Config.sysNominal (hz : Nat) : Nat

/-- A word of the boot ROM at a physical address (R366): the spec gives the ROM no contents (log entry 30). -/
opaque Config.romWord (a : Nat) : BitVec 32

/-- The factory offset of calibration channel MCAL_1 in units of 2^-16 ns (R132, R490). -/
opaque Config.mcal1Offset : Int

end Sys2Proof
end

