-- ==== Sys2Proof/Machine/Bits.lean ====
section
/-! DEFINITION. Bit fields, two's complement, rounding and saturation, byte order and CRC-32C: the plain arithmetic that
the rules of the spec use everywhere. -/

namespace Sys2Proof.Machine

open Sys2Proof

/-- The `n`-bit field of `w` from bit `lo` up. -/
def bitsOf (w : Word) (lo n : Nat) : Nat := (w.toNat >>> lo) % 2 ^ n

/-- The mask of `n` ones from bit `lo` up. -/
def maskOf (lo n : Nat) : Word := BitVec.ofNat 32 ((2 ^ n - 1) <<< lo)

/-- `w` with its `n`-bit field from bit `lo` up replaced by the low `n` bits of `v`. -/
def putBits (w : Word) (lo n v : Nat) : Word :=
  (w &&& ~~~ (maskOf lo n)) ||| (BitVec.ofNat 32 ((v % 2 ^ n) <<< lo) &&& maskOf lo n)

/-- Bit `i` of `w` as a Boolean. -/
def bitAt (w : Word) (i : Nat) : Bool := w.getLsbD i

/-- 1 for true, 0 for false. -/
def b2n (b : Bool) : Nat := if b then 1 else 0

/-- The signed value of the low `n` bits of `v` (two's complement). -/
def sx (n v : Nat) : Int :=
  let m := v % 2 ^ n
  if m < 2 ^ (n - 1) then (m : Int) else (m : Int) - (2 ^ n : Nat)

/-- The `n`-bit two's complement pattern of `i`, which wraps. -/
def wrapN (n : Nat) (i : Int) : Nat := (i % ((2 ^ n : Nat) : Int)).toNat

/-- `i` saturated to the signed `n`-bit range. -/
def satS (n : Nat) (i : Int) : Int :=
  let hi : Int := ((2 ^ (n - 1) : Nat) : Int) - 1
  let lo : Int := - ((2 ^ (n - 1) : Nat) : Int)
  if hi < i then hi else if i < lo then lo else i

/-- `v` saturated to the unsigned `n`-bit range. -/
def satU (n v : Nat) : Nat := if v < 2 ^ n then v else 2 ^ n - 1

/-- `a / b` rounded up. -/
def ceilDiv (a b : Nat) : Nat := (a + b - 1) / b

/-- `a / b` rounded to the nearest integer, ties toward plus infinity. -/
def roundDiv (a : Int) (b : Nat) : Int := (2 * a + b) / (2 * (b : Int))

/-- Integer square root of `n`, found bit by bit from bit `b` down. -/
def isqrtGo (n : Nat) : Nat → Nat → Nat
  | 0, r => r
  | b + 1, r => let c := r + 2 ^ b; if c * c ≤ n then isqrtGo n b c else isqrtGo n b r

/-- The largest `r` with `r * r ≤ n`, for `n` below 2^128. -/
def isqrt (n : Nat) : Nat := isqrtGo n 64 0

/-- The little-endian bytes of `v`, `n` of them (R4). -/
def leBytes : Nat → Nat → List Byte
  | 0, _ => []
  | n + 1, v => BitVec.ofNat 8 v :: leBytes n (v / 256)

/-- The number that little-endian bytes spell (R4). -/
def leNat : List Byte → Nat
  | [] => 0
  | b :: bs => b.toNat + 256 * leNat bs

/-- The number that bytes in network order spell (R4: fields inside network frames). -/
def beNat (bs : List Byte) : Nat := bs.foldl (fun acc b => acc * 256 + b.toNat) 0

/-- The `n` bytes of `v` in network byte order. -/
def beBytes (n v : Nat) : List Byte := (leBytes n v).reverse

/-- One bit step of the reflected CRC-32C register (R17: polynomial 0x1EDC_6F41, reflected 0x82F6_3B78). -/
def crcBit (c : Nat) : Nat := if c % 2 = 1 then (c / 2) ^^^ 0x82F63B78 else c / 2

/-- One byte step of the CRC-32C register. -/
def crcByte (c : Nat) (b : Byte) : Nat :=
  crcBit (crcBit (crcBit (crcBit (crcBit (crcBit (crcBit (crcBit (c ^^^ b.toNat))))))))

/-- CRC-32C of a byte string (R17): initial value and final XOR are all ones. -/
def crc32c (bs : List Byte) : Nat := (bs.foldl crcByte 0xFFFFFFFF) ^^^ 0xFFFFFFFF

/-- The elements of `l` from position `i`, `n` of them. -/
def sliceOf {α : Type} (l : List α) (i n : Nat) : List α := (l.drop i).take n

end Sys2Proof.Machine
end

