-- ==== Sys2Proof/Machine/RegAddrA.lean ====
section
/-! DEFINITION. The BAR0 addresses of the registers of blocks HIF, IMG, PWR, FLT, EVQ, LOG, PMC, TB, MEAS and the places of their fields,
written from the register tables at the end of spec chapters 02, 03, 04, 05, 16, 17, 18, 19 and the block bases of R11.
A register array is a function of its index; a field is a register address, its lowest bit and its width. -/

namespace Sys2Proof.Machine

open Sys2Proof

/-! ### HIF, spec/03_host_interface.md -/

def HIF_ID : Nat := 0x000000
def HIF_STATUS : Nat := 0x000004
def HIF_MGMT_CTL : Nat := 0x000010
def HIF_ERR : Nat := 0x000020
def HIF_OFF_ACCESS : Nat := 0x000024
def HIF_OBS_DROP : Nat := 0x000028
def HIF_BULK_SEL (c : Nat) : Nat := 0x000100 + c * 0x20
def HIF_BULK_CURSOR (c : Nat) : Nat := 0x000104 + c * 0x20
def HIF_BULK_LIMIT (c : Nat) : Nat := 0x000108 + c * 0x20
def HIF_BULK_STATUS (c : Nat) : Nat := 0x00010C + c * 0x20
def HIF_BULK_CMD (c : Nat) : Nat := 0x000110 + c * 0x20
def HIF_BULK_DATA (c : Nat) : Nat := 0x000114 + c * 0x20
def HIF_LINK_DBG : Nat := 0x001000
def HIF_REPLAY_CNT : Nat := 0x001004
def HIF_RXERR_CNT : Nat := 0x001008

def HIF_ID_part : Fld := ⟨HIF_ID, 0, 16⟩
def HIF_ID_rev : Fld := ⟨HIF_ID, 16, 8⟩
def HIF_STATUS_link_up : Fld := ⟨HIF_STATUS, 0, 1⟩
def HIF_STATUS_speed : Fld := ⟨HIF_STATUS, 1, 3⟩
def HIF_STATUS_width : Fld := ⟨HIF_STATUS, 4, 3⟩
def HIF_STATUS_pf0_d : Fld := ⟨HIF_STATUS, 7, 2⟩
def HIF_STATUS_pf1_d : Fld := ⟨HIF_STATUS, 9, 2⟩
def HIF_STATUS_presence : Fld := ⟨HIF_STATUS, 11, 1⟩
def HIF_STATUS_perst : Fld := ⟨HIF_STATUS, 12, 1⟩
def HIF_MGMT_CTL_spi_full : Fld := ⟨HIF_MGMT_CTL, 0, 1⟩
def HIF_MGMT_CTL_i2c_full : Fld := ⟨HIF_MGMT_CTL, 1, 1⟩
def HIF_MGMT_CTL_lock : Fld := ⟨HIF_MGMT_CTL, 2, 1⟩
def HIF_ERR_partial : Fld := ⟨HIF_ERR, 0, 1⟩
def HIF_ERR_obs_write : Fld := ⟨HIF_ERR, 1, 1⟩
def HIF_ERR_owned : Fld := ⟨HIF_ERR, 2, 1⟩
def HIF_ERR_off_domain : Fld := ⟨HIF_ERR, 3, 1⟩
def HIF_ERR_bulk : Fld := ⟨HIF_ERR, 4, 1⟩
def HIF_ERR_who : Fld := ⟨HIF_ERR, 8, 3⟩
def HIF_OFF_ACCESS_count : Fld := ⟨HIF_OFF_ACCESS, 0, 16⟩
def HIF_OFF_ACCESS_block : Fld := ⟨HIF_OFF_ACCESS, 16, 5⟩
def HIF_OBS_DROP_count : Fld := ⟨HIF_OBS_DROP, 0, 16⟩
def HIF_BULK_SEL_target (c : Nat) : Fld := ⟨(HIF_BULK_SEL c), 0, 4⟩
def HIF_BULK_SEL_dir (c : Nat) : Fld := ⟨(HIF_BULK_SEL c), 4, 1⟩
def HIF_BULK_SEL_own (c : Nat) : Fld := ⟨(HIF_BULK_SEL c), 5, 1⟩
def HIF_BULK_SEL_owner (c : Nat) : Fld := ⟨(HIF_BULK_SEL c), 8, 3⟩
def HIF_BULK_STATUS_avail (c : Nat) : Fld := ⟨(HIF_BULK_STATUS c), 0, 8⟩
def HIF_BULK_STATUS_space (c : Nat) : Fld := ⟨(HIF_BULK_STATUS c), 8, 8⟩
def HIF_BULK_STATUS_busy (c : Nat) : Fld := ⟨(HIF_BULK_STATUS c), 16, 1⟩
def HIF_BULK_STATUS_err (c : Nat) : Fld := ⟨(HIF_BULK_STATUS c), 17, 3⟩
def HIF_BULK_CMD_flush (c : Nat) : Fld := ⟨(HIF_BULK_CMD c), 0, 1⟩
def HIF_BULK_CMD_erase (c : Nat) : Fld := ⟨(HIF_BULK_CMD c), 1, 1⟩
def HIF_BULK_CMD_abort (c : Nat) : Fld := ⟨(HIF_BULK_CMD c), 2, 1⟩
def HIF_BULK_CMD_release (c : Nat) : Fld := ⟨(HIF_BULK_CMD c), 3, 1⟩
def HIF_LINK_DBG_ltssm : Fld := ⟨HIF_LINK_DBG, 0, 6⟩
def HIF_LINK_DBG_eq_phase : Fld := ⟨HIF_LINK_DBG, 8, 4⟩
def HIF_REPLAY_CNT_count : Fld := ⟨HIF_REPLAY_CNT, 0, 16⟩
def HIF_RXERR_CNT_count : Fld := ⟨HIF_RXERR_CNT, 0, 16⟩

/-! ### IMG, spec/02_structure_image.md -/

def IMG_STATUS : Nat := 0x010000
def IMG_CMD : Nat := 0x010010
def IMG_BOOT_PREF : Nat := 0x010014
def IMG_LKG : Nat := 0x010018
def IMG_LKG_TIME : Nat := 0x010030
def IMG_CAUSE : Nat := 0x01001C
def IMG_SECT_SEL : Nat := 0x011000
def IMG_SECT_INFO : Nat := 0x011004
def IMG_SECT_HASH (w : Nat) : Nat := 0x011008 + w * 0x4
def IMG_IFACE_SEL : Nat := 0x011030
def IMG_IFACE_INFO : Nat := 0x011034
def IMG_IFACE_VER : Nat := 0x011038
def IMG_BUILD_STRUCT : Nat := 0x010020
def IMG_BUILD_CORE : Nat := 0x010024
def IMG_BUILD_BB : Nat := 0x010028
def IMG_HW_ID : Nat := 0x01002C
def IMG_STAGE_SEL : Nat := 0x010034
def IMG_STAGE_LEN : Nat := 0x010038

def IMG_STATUS_source : Fld := ⟨IMG_STATUS, 0, 2⟩
def IMG_STATUS_untested : Fld := ⟨IMG_STATUS, 2, 1⟩
def IMG_STATUS_confirmed : Fld := ⟨IMG_STATUS, 3, 1⟩
def IMG_STATUS_reload_busy : Fld := ⟨IMG_STATUS, 4, 1⟩
def IMG_STATUS_bad_a : Fld := ⟨IMG_STATUS, 5, 1⟩
def IMG_STATUS_bad_b : Fld := ⟨IMG_STATUS, 6, 1⟩
def IMG_STATUS_lkg_valid : Fld := ⟨IMG_STATUS, 7, 1⟩
def IMG_STATUS_attempts : Fld := ⟨IMG_STATUS, 8, 8⟩
def IMG_CMD_load_host : Fld := ⟨IMG_CMD, 0, 1⟩
def IMG_CMD_reload : Fld := ⟨IMG_CMD, 1, 1⟩
def IMG_CMD_confirm : Fld := ⟨IMG_CMD, 2, 1⟩
def IMG_CMD_clear_bad : Fld := ⟨IMG_CMD, 3, 1⟩
def IMG_CMD_slot : Fld := ⟨IMG_CMD, 4, 2⟩
def IMG_BOOT_PREF_slot : Fld := ⟨IMG_BOOT_PREF, 0, 1⟩
def IMG_LKG_slot : Fld := ⟨IMG_LKG, 0, 1⟩
def IMG_LKG_TIME_seconds : Fld := ⟨IMG_LKG_TIME, 0, 16⟩
def IMG_CAUSE_cause : Fld := ⟨IMG_CAUSE, 0, 8⟩
def IMG_CAUSE_pair : Fld := ⟨IMG_CAUSE, 8, 4⟩
def IMG_CAUSE_source : Fld := ⟨IMG_CAUSE, 12, 2⟩
def IMG_CAUSE_iface : Fld := ⟨IMG_CAUSE, 16, 16⟩
def IMG_SECT_SEL_index : Fld := ⟨IMG_SECT_SEL, 0, 16⟩
def IMG_SECT_INFO_type : Fld := ⟨IMG_SECT_INFO, 0, 16⟩
def IMG_SECT_INFO_live : Fld := ⟨IMG_SECT_INFO, 16, 1⟩
def IMG_IFACE_SEL_party : Fld := ⟨IMG_IFACE_SEL, 0, 2⟩
def IMG_IFACE_SEL_index : Fld := ⟨IMG_IFACE_SEL, 8, 8⟩
def IMG_STAGE_SEL_kind : Fld := ⟨IMG_STAGE_SEL, 0, 2⟩
def IMG_STAGE_LEN_bytes : Fld := ⟨IMG_STAGE_LEN, 0, 23⟩

/-! ### PWR, spec/19_power_boot.md -/

def PWR_STATUS : Nat := 0x020000
def PWR_REQ : Nat := 0x020004
def PWR_RESULT : Nat := 0x020008
def PWR_DOM_STATUS : Nat := 0x020010
def PWR_DOM_OFF : Nat := 0x020014
def PWR_WAKE_EN : Nat := 0x020020
def PWR_WAKE_SRC : Nat := 0x020024
def PWR_CTL : Nat := 0x020028
def PWR_LW_DISC : Nat := 0x020030
def PWR_LW_CTL : Nat := 0x020034
def PWR_LW_EXIT_LO : Nat := 0x020038
def PWR_LW_EXIT_HI : Nat := 0x02003C
def PWR_LW_XTAL : Nat := 0x020040
def PWR_LW_COUNT : Nat := 0x020044
def PWR_VIN : Nat := 0x020050
def PWR_VIN_WARN : Nat := 0x020054
def PWR_RAIL_V (n : Nat) : Nat := 0x020060 + n * 0x10
def PWR_RAIL_I (n : Nat) : Nat := 0x020064 + n * 0x10
def PWR_RAIL_STAT (n : Nat) : Nat := 0x020068 + n * 0x10
def PWR_AVS : Nat := 0x020090
def PWR_PH_CFG : Nat := 0x020094
def PWR_STG_ADDR (s : Nat) : Nat := 0x021000 + s * 0x4
def PWR_STG_STATUS (s : Nat) : Nat := 0x021020 + s * 0x4
def PWR_AVS_MON : Nat := 0x021040
def PWR_PH_ACTIVE : Nat := 0x021044
def PWR_SYSREF : Nat := 0x021048

def PWR_STATUS_state : Fld := ⟨PWR_STATUS, 0, 3⟩
def PWR_STATUS_busy : Fld := ⟨PWR_STATUS, 3, 1⟩
def PWR_STATUS_lw : Fld := ⟨PWR_STATUS, 4, 2⟩
def PWR_STATUS_lw_wake : Fld := ⟨PWR_STATUS, 6, 1⟩
def PWR_STATUS_boot_cause : Fld := ⟨PWR_STATUS, 8, 3⟩
def PWR_STATUS_ring : Fld := ⟨PWR_STATUS, 11, 1⟩
def PWR_STATUS_ck_rc : Fld := ⟨PWR_STATUS, 12, 1⟩
def PWR_STATUS_vin_warn : Fld := ⟨PWR_STATUS, 13, 1⟩
def PWR_REQ_state : Fld := ⟨PWR_REQ, 0, 3⟩
def PWR_RESULT_cause : Fld := ⟨PWR_RESULT, 0, 8⟩
def PWR_DOM_STATUS_on : Fld := ⟨PWR_DOM_STATUS, 0, 14⟩
def PWR_DOM_OFF_hold : Fld := ⟨PWR_DOM_OFF, 0, 14⟩
def PWR_WAKE_EN_en : Fld := ⟨PWR_WAKE_EN, 0, 9⟩
def PWR_WAKE_SRC_src : Fld := ⟨PWR_WAKE_SRC, 0, 9⟩
def PWR_CTL_wake_host : Fld := ⟨PWR_CTL, 0, 1⟩
def PWR_LW_DISC_s : Fld := ⟨PWR_LW_DISC, 0, 16⟩
def PWR_LW_CTL_cycles : Fld := ⟨PWR_LW_CTL, 0, 16⟩
def PWR_LW_CTL_wake_max : Fld := ⟨PWR_LW_CTL, 16, 8⟩
def PWR_LW_XTAL_ppb : Fld := ⟨PWR_LW_XTAL, 0, 16⟩
def PWR_LW_COUNT_wakes : Fld := ⟨PWR_LW_COUNT, 0, 16⟩
def PWR_LW_COUNT_failed : Fld := ⟨PWR_LW_COUNT, 16, 16⟩
def PWR_VIN_mV : Fld := ⟨PWR_VIN, 0, 16⟩
def PWR_VIN_WARN_mV : Fld := ⟨PWR_VIN_WARN, 0, 16⟩
def PWR_RAIL_V_target (n : Nat) : Fld := ⟨(PWR_RAIL_V n), 0, 16⟩
def PWR_RAIL_V_vout (n : Nat) : Fld := ⟨(PWR_RAIL_V n), 16, 16⟩
def PWR_RAIL_I_mA (n : Nat) : Fld := ⟨(PWR_RAIL_I n), 0, 16⟩
def PWR_RAIL_STAT_good (n : Nat) : Fld := ⟨(PWR_RAIL_STAT n), 0, 1⟩
def PWR_RAIL_STAT_fault (n : Nat) : Fld := ⟨(PWR_RAIL_STAT n), 1, 1⟩
def PWR_RAIL_STAT_temp (n : Nat) : Fld := ⟨(PWR_RAIL_STAT n), 8, 8⟩
def PWR_AVS_en : Fld := ⟨PWR_AVS, 0, 1⟩
def PWR_AVS_min : Fld := ⟨PWR_AVS, 8, 8⟩
def PWR_AVS_max : Fld := ⟨PWR_AVS, 16, 8⟩
def PWR_PH_CFG_add : Fld := ⟨PWR_PH_CFG, 0, 16⟩
def PWR_PH_CFG_shed : Fld := ⟨PWR_PH_CFG, 16, 16⟩
def PWR_STG_ADDR_addr (s : Nat) : Fld := ⟨(PWR_STG_ADDR s), 0, 7⟩
def PWR_STG_ADDR_valid (s : Nat) : Fld := ⟨(PWR_STG_ADDR s), 7, 1⟩
def PWR_STG_STATUS_status (s : Nat) : Fld := ⟨(PWR_STG_STATUS s), 0, 16⟩
def PWR_AVS_MON_margin : Fld := ⟨PWR_AVS_MON, 0, 16⟩
def PWR_PH_ACTIVE_phases : Fld := ⟨PWR_PH_ACTIVE, 0, 4⟩
def PWR_SYSREF_strap : Fld := ⟨PWR_SYSREF, 0, 2⟩
def PWR_SYSREF_nom : Fld := ⟨PWR_SYSREF, 4, 8⟩

/-! ### FLT, spec/17_faults.md -/

def FLT_STATUS : Nat := 0x030000
def FLT_CMD : Nat := 0x030004
def FLT_RESULT : Nat := 0x030008
def FLT_FENCED_LO : Nat := 0x030010
def FLT_FENCED_HI : Nat := 0x030014
def FLT_RAIL_LO : Nat := 0x030018
def FLT_RAIL_HI : Nat := 0x03001C
def FLT_UPSET_LIMIT : Nat := 0x030020
def FLT_UPSET_WIN : Nat := 0x030024
def FLT_CNT (i : Nat) : Nat := 0x030040 + i * 0x4
def FLT_UNIT_STATUS (u : Nat) : Nat := 0x030100 + u * 0x10
def FLT_LATCH (u : Nat) : Nat := 0x030104 + u * 0x10
def FLT_UNIT_CNT (u : Nat) : Nat := 0x030108 + u * 0x10
def FLT_INJ_CFG : Nat := 0x031000
def FLT_INJ_REP : Nat := 0x031004
def FLT_INJ_CMD : Nat := 0x031008
def FLT_INJ_STATUS : Nat := 0x03100C
def FLT_RAIL_P_LO : Nat := 0x031010
def FLT_RAIL_P_HI : Nat := 0x031014
def FLT_RAIL_N_LO : Nat := 0x031018
def FLT_RAIL_N_HI : Nat := 0x03101C
def FLT_SLOT (s : Nat) : Nat := 0x031100 + s * 0x8
def FLT_SLOT_AGE (s : Nat) : Nat := 0x031104 + s * 0x8

def FLT_STATUS_contained : Fld := ⟨FLT_STATUS, 0, 1⟩
def FLT_STATUS_fatal_seen : Fld := ⟨FLT_STATUS, 1, 1⟩
def FLT_STATUS_degraded : Fld := ⟨FLT_STATUS, 2, 1⟩
def FLT_STATUS_injecting : Fld := ⟨FLT_STATUS, 3, 1⟩
def FLT_STATUS_fenced : Fld := ⟨FLT_STATUS, 4, 7⟩
def FLT_STATUS_pins : Fld := ⟨FLT_STATUS, 11, 2⟩
def FLT_STATUS_busy : Fld := ⟨FLT_STATUS, 16, 4⟩
def FLT_CMD_unit : Fld := ⟨FLT_CMD, 0, 6⟩
def FLT_CMD_readmit : Fld := ⟨FLT_CMD, 8, 1⟩
def FLT_RESULT_cause : Fld := ⟨FLT_RESULT, 0, 8⟩
def FLT_UPSET_LIMIT_n : Fld := ⟨FLT_UPSET_LIMIT, 0, 8⟩
def FLT_UPSET_WIN_s : Fld := ⟨FLT_UPSET_WIN, 0, 16⟩
def FLT_UNIT_STATUS_state (u : Nat) : Fld := ⟨(FLT_UNIT_STATUS u), 0, 2⟩
def FLT_UNIT_STATUS_live (u : Nat) : Fld := ⟨(FLT_UNIT_STATUS u), 2, 1⟩
def FLT_UNIT_STATUS_rail (u : Nat) : Fld := ⟨(FLT_UNIT_STATUS u), 3, 1⟩
def FLT_UNIT_STATUS_essential (u : Nat) : Fld := ⟨(FLT_UNIT_STATUS u), 4, 1⟩
def FLT_UNIT_STATUS_partial (u : Nat) : Fld := ⟨(FLT_UNIT_STATUS u), 5, 1⟩
def FLT_UNIT_STATUS_upsets (u : Nat) : Fld := ⟨(FLT_UNIT_STATUS u), 8, 8⟩
def FLT_LATCH_cause (u : Nat) : Fld := ⟨(FLT_LATCH u), 0, 8⟩
def FLT_LATCH_valid (u : Nat) : Fld := ⟨(FLT_LATCH u), 8, 1⟩
def FLT_LATCH_cbr (u : Nat) : Fld := ⟨(FLT_LATCH u), 9, 1⟩
def FLT_LATCH_injected (u : Nat) : Fld := ⟨(FLT_LATCH u), 10, 1⟩
def FLT_LATCH_merges (u : Nat) : Fld := ⟨(FLT_LATCH u), 16, 16⟩
def FLT_UNIT_CNT_reports (u : Nat) : Fld := ⟨(FLT_UNIT_CNT u), 0, 16⟩
def FLT_UNIT_CNT_fences (u : Nat) : Fld := ⟨(FLT_UNIT_CNT u), 16, 16⟩
def FLT_INJ_CFG_unit : Fld := ⟨FLT_INJ_CFG, 0, 6⟩
def FLT_INJ_CFG_cause : Fld := ⟨FLT_INJ_CFG, 8, 8⟩
def FLT_INJ_CFG_class : Fld := ⟨FLT_INJ_CFG, 16, 2⟩
def FLT_INJ_CFG_st_fail : Fld := ⟨FLT_INJ_CFG, 18, 1⟩
def FLT_INJ_CFG_in_unit : Fld := ⟨FLT_INJ_CFG, 19, 1⟩
def FLT_INJ_REP_count : Fld := ⟨FLT_INJ_REP, 0, 16⟩
def FLT_INJ_REP_gap : Fld := ⟨FLT_INJ_REP, 16, 16⟩
def FLT_INJ_CMD_go : Fld := ⟨FLT_INJ_CMD, 0, 1⟩
def FLT_INJ_CMD_stop : Fld := ⟨FLT_INJ_CMD, 1, 1⟩
def FLT_INJ_STATUS_left : Fld := ⟨FLT_INJ_STATUS, 0, 16⟩
def FLT_SLOT_unit (s : Nat) : Fld := ⟨(FLT_SLOT s), 0, 6⟩
def FLT_SLOT_phase (s : Nat) : Fld := ⟨(FLT_SLOT s), 6, 2⟩
def FLT_SLOT_cause (s : Nat) : Fld := ⟨(FLT_SLOT s), 8, 8⟩
def FLT_SLOT_merges (s : Nat) : Fld := ⟨(FLT_SLOT s), 16, 16⟩

/-! ### EVQ, spec/16_events_interrupts.md -/

def EVQ_STATUS : Nat := 0x040000
def EVQ_HOLD : Nat := 0x040004
def EVQ_RESULT : Nat := 0x040008
def EVQ_RETARGET_TO : Nat := 0x04000C
def EVQ_RETARGET : Nat := 0x040010
def EVQ_SLOT_SNAP (t : Nat) : Nat := 0x040020 + t * 0x4
def EVQ_TGT_CTL (t : Nat) : Nat := 0x040040 + t * 0x40
def EVQ_TGT_RD (t : Nat) : Nat := 0x040044 + t * 0x40
def EVQ_TGT_WR (t : Nat) : Nat := 0x040048 + t * 0x40
def EVQ_TGT_STATUS (t : Nat) : Nat := 0x04004C + t * 0x40
def EVQ_TGT_REC_SEL (t : Nat) : Nat := 0x040050 + t * 0x40
def EVQ_TGT_REC (t w : Nat) : Nat := 0x040054 + t * 0x40 + w * 0x4
def EVQ_MASK (w : Nat) : Nat := 0x040200 + w * 0x10
def EVQ_PEND (w : Nat) : Nat := 0x040A00 + w * 0x4
def EVQ_ACTIVE (w : Nat) : Nat := 0x040C00 + w * 0x4
def EVQ_SRC_TGT (v : Nat) : Nat := 0x041000 + v * 0x4
def EVQ_PEND_AON (w : Nat) : Nat := 0x041800 + w * 0x4

def EVQ_STATUS_nonempty : Fld := ⟨EVQ_STATUS, 0, 7⟩
def EVQ_STATUS_stalled : Fld := ⟨EVQ_STATUS, 7, 7⟩
def EVQ_STATUS_hold : Fld := ⟨EVQ_STATUS, 14, 1⟩
def EVQ_STATUS_rerouting : Fld := ⟨EVQ_STATUS, 15, 4⟩
def EVQ_HOLD_hold : Fld := ⟨EVQ_HOLD, 0, 1⟩
def EVQ_RESULT_cause : Fld := ⟨EVQ_RESULT, 0, 8⟩
def EVQ_RETARGET_TO_ms : Fld := ⟨EVQ_RETARGET_TO, 0, 10⟩
def EVQ_RETARGET_source : Fld := ⟨EVQ_RETARGET, 0, 12⟩
def EVQ_RETARGET_target : Fld := ⟨EVQ_RETARGET, 12, 3⟩
def EVQ_SLOT_SNAP_unread (t : Nat) : Fld := ⟨(EVQ_SLOT_SNAP t), 0, 11⟩
def EVQ_SLOT_SNAP_free (t : Nat) : Fld := ⟨(EVQ_SLOT_SNAP t), 16, 11⟩
def EVQ_TGT_CTL_mod (t : Nat) : Fld := ⟨(EVQ_TGT_CTL t), 0, 10⟩
def EVQ_TGT_CTL_stall (t : Nat) : Fld := ⟨(EVQ_TGT_CTL t), 12, 1⟩
def EVQ_TGT_RD_index (t : Nat) : Fld := ⟨(EVQ_TGT_RD t), 0, 11⟩
def EVQ_TGT_WR_index (t : Nat) : Fld := ⟨(EVQ_TGT_WR t), 0, 11⟩
def EVQ_TGT_STATUS_unread (t : Nat) : Fld := ⟨(EVQ_TGT_STATUS t), 0, 11⟩
def EVQ_TGT_STATUS_held (t : Nat) : Fld := ⟨(EVQ_TGT_STATUS t), 11, 1⟩
def EVQ_TGT_STATUS_overflow (t : Nat) : Fld := ⟨(EVQ_TGT_STATUS t), 12, 1⟩
def EVQ_TGT_STATUS_dropped (t : Nat) : Fld := ⟨(EVQ_TGT_STATUS t), 16, 8⟩
def EVQ_TGT_STATUS_rerouted (t : Nat) : Fld := ⟨(EVQ_TGT_STATUS t), 24, 4⟩
def EVQ_TGT_STATUS_parity (t : Nat) : Fld := ⟨(EVQ_TGT_STATUS t), 28, 4⟩
def EVQ_TGT_REC_SEL_index (t : Nat) : Fld := ⟨(EVQ_TGT_REC_SEL t), 0, 10⟩
def EVQ_SRC_TGT_target0 (v : Nat) : Fld := ⟨(EVQ_SRC_TGT v), 0, 3⟩
def EVQ_SRC_TGT_target1 (v : Nat) : Fld := ⟨(EVQ_SRC_TGT v), 4, 3⟩
def EVQ_SRC_TGT_target2 (v : Nat) : Fld := ⟨(EVQ_SRC_TGT v), 8, 3⟩
def EVQ_SRC_TGT_target3 (v : Nat) : Fld := ⟨(EVQ_SRC_TGT v), 12, 3⟩
def EVQ_SRC_TGT_target4 (v : Nat) : Fld := ⟨(EVQ_SRC_TGT v), 16, 3⟩
def EVQ_SRC_TGT_target5 (v : Nat) : Fld := ⟨(EVQ_SRC_TGT v), 20, 3⟩
def EVQ_SRC_TGT_target6 (v : Nat) : Fld := ⟨(EVQ_SRC_TGT v), 24, 3⟩
def EVQ_SRC_TGT_target7 (v : Nat) : Fld := ⟨(EVQ_SRC_TGT v), 28, 3⟩

/-! ### LOG, spec/18_recorder_counters.md -/

def LOG_STATUS : Nat := 0x050000
def LOG_WR_SEQ : Nat := 0x050004
def LOG_OLDEST : Nat := 0x050008
def LOG_CUR : Nat := 0x05000C
def LOG_RD_CTL : Nat := 0x050010
def LOG_RD_STATUS : Nat := 0x050014
def LOG_REC (w : Nat) : Nat := 0x050020 + w * 0x4
def LOG_DROP : Nat := 0x050040
def LOG_ARCH_PERIOD : Nat := 0x050050
def LOG_ARCH_BUDGET : Nat := 0x050054
def LOG_ARCH_FLUSH : Nat := 0x050058
def LOG_ARCH_SEQ : Nat := 0x05005C
def LOG_ARCH_HEAD : Nat := 0x050060
def LOG_ARCH_SKIP : Nat := 0x050064
def LOG_ARCH_CMD : Nat := 0x050068
def LOG_LIFE_LO (i : Nat) : Nat := 0x050100 + i * 0x8
def LOG_LIFE_HI (i : Nat) : Nat := 0x050104 + i * 0x8
def LOG_TC_SWING : Nat := 0x050180
def LOG_LEAP_SEL : Nat := 0x050200
def LOG_LEAP_LO : Nat := 0x050204
def LOG_LEAP_HI : Nat := 0x050208
def LOG_LEAP_COUNT : Nat := 0x05020C
def LOG_CAL_ARCH_LO : Nat := 0x050210
def LOG_CAL_ARCH_HI : Nat := 0x050214
def LOG_WEIR_SEL : Nat := 0x051000
def LOG_WEIR_CFG : Nat := 0x051004
def LOG_WEIR_TOKENS : Nat := 0x051008
def LOG_WEIR_SUP : Nat := 0x05100C
def LOG_WEIR_TOTAL : Nat := 0x051010
def LOG_ARCH_SECT_SEL : Nat := 0x051020
def LOG_ARCH_SECT_ERASE : Nat := 0x051024
def LOG_ARCH_SECT_SEQ : Nat := 0x051028
def PMC_STATUS : Nat := 0x060000

def LOG_STATUS_restored : Fld := ⟨LOG_STATUS, 0, 1⟩
def LOG_STATUS_arch_blank : Fld := ⟨LOG_STATUS, 1, 1⟩
def LOG_STATUS_gap : Fld := ⟨LOG_STATUS, 2, 1⟩
def LOG_STATUS_arch_busy : Fld := ⟨LOG_STATUS, 3, 1⟩
def LOG_STATUS_flash_err : Fld := ⟨LOG_STATUS, 4, 1⟩
def LOG_STATUS_budget_empty : Fld := ⟨LOG_STATUS, 5, 1⟩
def LOG_RD_CTL_auto_inc : Fld := ⟨LOG_RD_CTL, 0, 1⟩
def LOG_RD_STATUS_empty : Fld := ⟨LOG_RD_STATUS, 0, 1⟩
def LOG_RD_STATUS_lost : Fld := ⟨LOG_RD_STATUS, 1, 1⟩
def LOG_RD_STATUS_skipped : Fld := ⟨LOG_RD_STATUS, 8, 24⟩
def LOG_ARCH_BUDGET_pages : Fld := ⟨LOG_ARCH_BUDGET, 0, 16⟩
def LOG_ARCH_FLUSH_s : Fld := ⟨LOG_ARCH_FLUSH, 0, 16⟩
def LOG_ARCH_HEAD_page : Fld := ⟨LOG_ARCH_HEAD, 0, 8⟩
def LOG_ARCH_HEAD_sector : Fld := ⟨LOG_ARCH_HEAD, 8, 6⟩
def LOG_ARCH_CMD_state_now : Fld := ⟨LOG_ARCH_CMD, 0, 1⟩
def LOG_ARCH_CMD_flush : Fld := ⟨LOG_ARCH_CMD, 1, 1⟩
def LOG_TC_SWING_degC : Fld := ⟨LOG_TC_SWING, 0, 8⟩
def LOG_LEAP_SEL_index : Fld := ⟨LOG_LEAP_SEL, 0, 6⟩
def LOG_LEAP_COUNT_entries : Fld := ⟨LOG_LEAP_COUNT, 0, 7⟩
def LOG_CAL_ARCH_HI_s : Fld := ⟨LOG_CAL_ARCH_HI, 0, 16⟩
def LOG_WEIR_SEL_index : Fld := ⟨LOG_WEIR_SEL, 0, 10⟩
def LOG_WEIR_CFG_rate : Fld := ⟨LOG_WEIR_CFG, 0, 16⟩
def LOG_WEIR_CFG_depth : Fld := ⟨LOG_WEIR_CFG, 16, 8⟩
def LOG_WEIR_TOKENS_units : Fld := ⟨LOG_WEIR_TOKENS, 0, 24⟩
def LOG_ARCH_SECT_SEL_sector : Fld := ⟨LOG_ARCH_SECT_SEL, 0, 6⟩
def PMC_STATUS_frozen : Fld := ⟨PMC_STATUS, 0, 1⟩
def PMC_STATUS_busy : Fld := ⟨PMC_STATUS, 1, 1⟩

/-! ### PMC, spec/18_recorder_counters.md -/

def PMC_SNAP : Nat := 0x060004
def PMC_FREEZE : Nat := 0x060008
def PMC_SNAP_SEQ : Nat := 0x06000C
def PMC_SNAP_TIME_LO : Nat := 0x060010
def PMC_SNAP_TIME_HI : Nat := 0x060014
def PMC_SNAP_DONE : Nat := 0x060018
def PMC_RESULT : Nat := 0x06001C
def PMC_USER_EN_LO : Nat := 0x060020
def PMC_USER_EN_HI : Nat := 0x060024
def PMC_GEN_CFG (n : Nat) : Nat := 0x060100 + n * 0x10
def PMC_GEN_LO (n : Nat) : Nat := 0x060104 + n * 0x10
def PMC_GEN_HI (n : Nat) : Nat := 0x060108 + n * 0x10
def PMC_GEN_STATUS (n : Nat) : Nat := 0x06010C + n * 0x10
def PMC_PRIV_CFG (p : Nat) : Nat := 0x060600 + p * 0x10
def PMC_PRIV_LO (p : Nat) : Nat := 0x060604 + p * 0x10
def PMC_PRIV_HI (p : Nat) : Nat := 0x060608 + p * 0x10
def PMC_PRIV_STATUS (p : Nat) : Nat := 0x06060C + p * 0x10
def PMC_GEN_SNAP_LO (n : Nat) : Nat := 0x060800 + n * 0x8
def PMC_GEN_SNAP_HI (n : Nat) : Nat := 0x060804 + n * 0x8
def PMC_PRIV_SNAP_LO (p : Nat) : Nat := 0x060A00 + p * 0x8
def PMC_PRIV_SNAP_HI (p : Nat) : Nat := 0x060A04 + p * 0x8
def PMC_LED_BUF (i : Nat) : Nat := 0x060B00 + i * 0x4
def PMC_LED_PLCA : Nat := 0x060B40
def PMC_LED_WEIR_HELD_LO : Nat := 0x060B50
def PMC_LED_WEIR_HELD_HI : Nat := 0x060B54
def PMC_LED_WEIR_ISSUED_LO : Nat := 0x060B58
def PMC_LED_WEIR_ISSUED_HI : Nat := 0x060B5C
def PMC_LED_WEIR_USED_LO : Nat := 0x060B60
def PMC_LED_WEIR_USED_HI : Nat := 0x060B64
def PMC_LED_WEIR_OVER_LO : Nat := 0x060B68
def PMC_LED_WEIR_OVER_HI : Nat := 0x060B6C

def PMC_SNAP_go : Fld := ⟨PMC_SNAP, 0, 1⟩
def PMC_FREEZE_freeze : Fld := ⟨PMC_FREEZE, 0, 1⟩
def PMC_SNAP_DONE_done : Fld := ⟨PMC_SNAP_DONE, 0, 6⟩
def PMC_SNAP_DONE_off : Fld := ⟨PMC_SNAP_DONE, 8, 6⟩
def PMC_RESULT_cause : Fld := ⟨PMC_RESULT, 0, 8⟩
def PMC_GEN_CFG_sel (n : Nat) : Fld := ⟨(PMC_GEN_CFG n), 0, 16⟩
def PMC_GEN_CFG_en (n : Nat) : Fld := ⟨(PMC_GEN_CFG n), 16, 1⟩
def PMC_GEN_CFG_chain (n : Nat) : Fld := ⟨(PMC_GEN_CFG n), 17, 1⟩
def PMC_GEN_CFG_ovf_ev (n : Nat) : Fld := ⟨(PMC_GEN_CFG n), 18, 1⟩
def PMC_GEN_HI_count (n : Nat) : Fld := ⟨(PMC_GEN_HI n), 0, 16⟩
def PMC_GEN_STATUS_ovf (n : Nat) : Fld := ⟨(PMC_GEN_STATUS n), 0, 1⟩
def PMC_PRIV_CFG_sel (p : Nat) : Fld := ⟨(PMC_PRIV_CFG p), 0, 16⟩
def PMC_PRIV_CFG_en (p : Nat) : Fld := ⟨(PMC_PRIV_CFG p), 16, 1⟩
def PMC_PRIV_CFG_ovf_ev (p : Nat) : Fld := ⟨(PMC_PRIV_CFG p), 18, 1⟩
def PMC_PRIV_STATUS_ovf (p : Nat) : Fld := ⟨(PMC_PRIV_STATUS p), 0, 1⟩
def PMC_GEN_SNAP_HI_count (n : Nat) : Fld := ⟨(PMC_GEN_SNAP_HI n), 0, 16⟩
def PMC_LED_BUF_buffers (i : Nat) : Fld := ⟨(PMC_LED_BUF i), 0, 17⟩

/-! ### TB, spec/04_timebase.md -/

def TB_STATUS : Nat := 0x080000
def TB_CMD : Nat := 0x080008
def TB_RESULT : Nat := 0x08000C
def TB_NOW_FRAC : Nat := 0x080010
def TB_NOW_NS : Nat := 0x080014
def TB_NOW_SEC_LO : Nat := 0x080018
def TB_NOW_SEC_HI : Nat := 0x08001C
def TB_NEAR_LO : Nat := 0x080020
def TB_NEAR_HI : Nat := 0x080024
def TB_FREQ_ADJ_LO : Nat := 0x080028
def TB_FREQ_ADJ_HI : Nat := 0x08002C
def TB_STEP_LO : Nat := 0x080030
def TB_STEP_HI : Nat := 0x080034
def TB_SLEW_AMT_LO : Nat := 0x080038
def TB_SLEW_AMT_HI : Nat := 0x08003C
def TB_SLEW_REM_LO : Nat := 0x080040
def TB_SLEW_REM_HI : Nat := 0x080044
def TB_SLEW_LIMIT : Nat := 0x080048
def TB_STEP_THRESH : Nat := 0x08004C
def TB_STEP_WAIT : Nat := 0x080050
def TB_SET_FRAC : Nat := 0x080060
def TB_SET_NS : Nat := 0x080064
def TB_SET_SEC_LO : Nat := 0x080068
def TB_SET_SEC_HI : Nat := 0x08006C
def TB_UTC_OFFSET : Nat := 0x080070
def TB_LEAP_NEXT_LO : Nat := 0x080078
def TB_LEAP_NEXT_HI : Nat := 0x08007C
def TB_UTC_DATE : Nat := 0x080080
def TB_UTC_TIME : Nat := 0x080084
def TB_GPS_WEEK : Nat := 0x080088
def TB_GPS_TOW : Nat := 0x08008C
def TB_ALARM_TGT_LO (n : Nat) : Nat := 0x080100 + n * 0x20
def TB_ALARM_TGT_HI (n : Nat) : Nat := 0x080104 + n * 0x20
def TB_ALARM_PER_LO (n : Nat) : Nat := 0x080108 + n * 0x20
def TB_ALARM_PER_HI (n : Nat) : Nat := 0x08010C + n * 0x20
def TB_ALARM_CTL (n : Nat) : Nat := 0x080110 + n * 0x20
def TB_VOTE_CTL : Nat := 0x081000
def TB_VOTE_CNT (w : Nat) : Nat := 0x081004 + w * 0x4
def TB_VOTE_LAST : Nat := 0x081010
def TB_VOTE_DIFF : Nat := 0x081014
def TB_CH_SEL : Nat := 0x081020
def TB_CH_NEAR_LO : Nat := 0x081024
def TB_CH_NEAR_HI : Nat := 0x081028
def TB_CH_SUB_LO : Nat := 0x08102C
def TB_CH_SUB_HI : Nat := 0x081030
def TB_CH_GROUP : Nat := 0x081034
def TB_FREQ_SERVO_LO : Nat := 0x081040
def TB_FREQ_SERVO_HI : Nat := 0x081044
def TB_FREQ_ENS_LO : Nat := 0x081048
def TB_FREQ_ENS_HI : Nat := 0x08104C
def TB_FREQ_SLEW_LO : Nat := 0x081050
def TB_FREQ_SLEW_HI : Nat := 0x081054
def TB_LPC_NEAR_LO : Nat := 0x081060
def TB_LPC_NEAR_HI : Nat := 0x081064
def TB_LPC_INC_LO : Nat := 0x081068
def TB_LPC_INC_HI : Nat := 0x08106C

def TB_STATUS_time_valid : Fld := ⟨TB_STATUS, 0, 1⟩
def TB_STATUS_seeded : Fld := ⟨TB_STATUS, 1, 1⟩
def TB_STATUS_voter : Fld := ⟨TB_STATUS, 2, 2⟩
def TB_STATUS_fenced : Fld := ⟨TB_STATUS, 4, 3⟩
def TB_STATUS_step_pending : Fld := ⟨TB_STATUS, 7, 1⟩
def TB_STATUS_set_pending : Fld := ⟨TB_STATUS, 8, 1⟩
def TB_STATUS_slew_active : Fld := ⟨TB_STATUS, 9, 1⟩
def TB_STATUS_freq_sat : Fld := ⟨TB_STATUS, 10, 1⟩
def TB_STATUS_step_policy : Fld := ⟨TB_STATUS, 11, 2⟩
def TB_CMD_step : Fld := ⟨TB_CMD, 0, 1⟩
def TB_CMD_set : Fld := ⟨TB_CMD, 1, 1⟩
def TB_CMD_slew : Fld := ⟨TB_CMD, 2, 1⟩
def TB_CMD_cancel : Fld := ⟨TB_CMD, 3, 1⟩
def TB_CMD_readmit : Fld := ⟨TB_CMD, 4, 1⟩
def TB_CMD_channel : Fld := ⟨TB_CMD, 5, 2⟩
def TB_RESULT_cause : Fld := ⟨TB_RESULT, 0, 8⟩
def TB_RESULT_command : Fld := ⟨TB_RESULT, 8, 4⟩
def TB_NOW_FRAC_frac : Fld := ⟨TB_NOW_FRAC, 0, 16⟩
def TB_NOW_SEC_HI_sec : Fld := ⟨TB_NOW_SEC_HI, 0, 16⟩
def TB_STEP_WAIT_ms : Fld := ⟨TB_STEP_WAIT, 0, 16⟩
def TB_SET_FRAC_frac : Fld := ⟨TB_SET_FRAC, 0, 16⟩
def TB_SET_SEC_HI_sec : Fld := ⟨TB_SET_SEC_HI, 0, 16⟩
def TB_UTC_OFFSET_offset : Fld := ⟨TB_UTC_OFFSET, 0, 16⟩
def TB_UTC_OFFSET_pending : Fld := ⟨TB_UTC_OFFSET, 16, 1⟩
def TB_UTC_OFFSET_dir : Fld := ⟨TB_UTC_OFFSET, 17, 1⟩
def TB_UTC_DATE_year : Fld := ⟨TB_UTC_DATE, 0, 16⟩
def TB_UTC_DATE_month : Fld := ⟨TB_UTC_DATE, 16, 4⟩
def TB_UTC_DATE_day : Fld := ⟨TB_UTC_DATE, 20, 5⟩
def TB_UTC_TIME_hour : Fld := ⟨TB_UTC_TIME, 0, 5⟩
def TB_UTC_TIME_minute : Fld := ⟨TB_UTC_TIME, 5, 6⟩
def TB_UTC_TIME_second : Fld := ⟨TB_UTC_TIME, 11, 6⟩
def TB_GPS_WEEK_week : Fld := ⟨TB_GPS_WEEK, 0, 16⟩
def TB_GPS_TOW_tow : Fld := ⟨TB_GPS_TOW, 0, 20⟩
def TB_ALARM_CTL_enable (n : Nat) : Fld := ⟨(TB_ALARM_CTL n), 0, 1⟩
def TB_ALARM_CTL_periodic (n : Nat) : Fld := ⟨(TB_ALARM_CTL n), 1, 1⟩
def TB_ALARM_CTL_fired (n : Nat) : Fld := ⟨(TB_ALARM_CTL n), 2, 1⟩
def TB_ALARM_CTL_by_step (n : Nat) : Fld := ⟨(TB_ALARM_CTL n), 3, 1⟩
def TB_ALARM_CTL_skipped (n : Nat) : Fld := ⟨(TB_ALARM_CTL n), 16, 16⟩
def TB_VOTE_CTL_repair_limit : Fld := ⟨TB_VOTE_CTL, 0, 8⟩
def TB_VOTE_CNT_count (w : Nat) : Fld := ⟨(TB_VOTE_CNT w), 0, 16⟩
def TB_VOTE_LAST_channel : Fld := ⟨TB_VOTE_LAST, 0, 2⟩
def TB_VOTE_LAST_word : Fld := ⟨TB_VOTE_LAST, 4, 4⟩
def TB_CH_SEL_channel : Fld := ⟨TB_CH_SEL, 0, 2⟩
def TB_CH_SUB_HI_sub : Fld := ⟨TB_CH_SUB_HI, 0, 6⟩
def TB_CH_GROUP_k : Fld := ⟨TB_CH_GROUP, 0, 3⟩

/-! ### MEAS, spec/05_measurement.md -/

def MEAS_STATUS : Nat := 0x090000
def MEAS_CAL_CTL : Nat := 0x090010
def MEAS_CAL_STATUS : Nat := 0x090014
def MEAS_CAL_PERIOD : Nat := 0x090018
def MEAS_CAL_CMD : Nat := 0x09001C
def MEAS_CAL_SEQ : Nat := 0x090020
def MEAS_IN_CFG (i : Nat) : Nat := 0x090040 + i * 0x8
def MEAS_IN_HOLDOFF (i : Nat) : Nat := 0x090044 + i * 0x8
def MEAS_CH_OWN (ch : Nat) : Nat := 0x090100 + ch * 0x4
def MEAS_LOAD (p : Nat) : Nat := 0x090180 + p * 0x4
def MEAS_REQ_SEL : Nat := 0x091000
def MEAS_REQ_CFG : Nat := 0x091004
def MEAS_REQ_PRESC : Nat := 0x091008
def MEAS_REQ_N : Nat := 0x09100C
def MEAS_REQ_P_LO : Nat := 0x091010
def MEAS_REQ_P_HI : Nat := 0x091014
def MEAS_REQ_ANCHOR_LO : Nat := 0x091018
def MEAS_REQ_ANCHOR_HI : Nat := 0x09101C
def MEAS_REQ_REPEAT_LO : Nat := 0x091020
def MEAS_REQ_REPEAT_HI : Nat := 0x091024
def MEAS_REQ_AGELIM : Nat := 0x091028
def MEAS_REQ_STATE : Nat := 0x09102C
def MEAS_RES_CNT : Nat := 0x091030
def MEAS_RES_MEAN_LO : Nat := 0x091034
def MEAS_RES_MEAN_HI : Nat := 0x091038
def MEAS_RES_STD : Nat := 0x09103C
def MEAS_RES_MIN_LO : Nat := 0x091040
def MEAS_RES_MIN_HI : Nat := 0x091044
def MEAS_RES_MAX_LO : Nat := 0x091048
def MEAS_RES_MAX_HI : Nat := 0x09104C
def MEAS_RES_AGE_LO : Nat := 0x091050
def MEAS_RES_AGE_HI : Nat := 0x091054
def MEAS_RES_CAL : Nat := 0x091058
def MEAS_RES_FLAGS : Nat := 0x09105C
def MEAS_RES_REQN : Nat := 0x091060
def MEAS_INL_SEL : Nat := 0x091100
def MEAS_INL_POS : Nat := 0x091104
def MEAS_INL_HITS : Nat := 0x091108
def MEAS_SKEW (ch : Nat) : Nat := 0x091180 + ch * 0x4
def MEAS_SRC_DLY (s : Nat) : Nat := 0x091200 + s * 0x4
def MEAS_RESERVE (p : Nat) : Nat := 0x091400 + p * 0x4

def MEAS_STATUS_cal_valid : Fld := ⟨MEAS_STATUS, 0, 1⟩
def MEAS_STATUS_cal_busy : Fld := ⟨MEAS_STATUS, 1, 1⟩
def MEAS_STATUS_starved : Fld := ⟨MEAS_STATUS, 2, 1⟩
def MEAS_STATUS_oversub : Fld := ⟨MEAS_STATUS, 3, 1⟩
def MEAS_STATUS_busy : Fld := ⟨MEAS_STATUS, 4, 5⟩
def MEAS_STATUS_fenced : Fld := ⟨MEAS_STATUS, 9, 5⟩
def MEAS_CAL_CTL_dtemp : Fld := ⟨MEAS_CAL_CTL, 0, 4⟩
def MEAS_CAL_STATUS_inl_peak : Fld := ⟨MEAS_CAL_STATUS, 0, 16⟩
def MEAS_CAL_STATUS_last : Fld := ⟨MEAS_CAL_STATUS, 16, 8⟩
def MEAS_CAL_PERIOD_seconds : Fld := ⟨MEAS_CAL_PERIOD, 0, 16⟩
def MEAS_CAL_CMD_inl_full : Fld := ⟨MEAS_CAL_CMD, 0, 1⟩
def MEAS_CAL_CMD_skew_all : Fld := ⟨MEAS_CAL_CMD, 1, 1⟩
def MEAS_IN_CFG_hyst (i : Nat) : Fld := ⟨(MEAS_IN_CFG i), 0, 4⟩
def MEAS_IN_CFG_falling (i : Nat) : Fld := ⟨(MEAS_IN_CFG i), 4, 1⟩
def MEAS_IN_CFG_sup (i : Nat) : Fld := ⟨(MEAS_IN_CFG i), 16, 16⟩
def MEAS_CH_OWN_req (ch : Nat) : Fld := ⟨(MEAS_CH_OWN ch), 0, 7⟩
def MEAS_CH_OWN_class (ch : Nat) : Fld := ⟨(MEAS_CH_OWN ch), 8, 3⟩
def MEAS_CH_OWN_state (ch : Nat) : Fld := ⟨(MEAS_CH_OWN ch), 11, 2⟩
def MEAS_CH_OWN_ovr (ch : Nat) : Fld := ⟨(MEAS_CH_OWN ch), 16, 16⟩
def MEAS_LOAD_demand (p : Nat) : Fld := ⟨(MEAS_LOAD p), 0, 16⟩
def MEAS_LOAD_granted (p : Nat) : Fld := ⟨(MEAS_LOAD p), 16, 16⟩
def MEAS_REQ_SEL_index : Fld := ⟨MEAS_REQ_SEL, 0, 7⟩
def MEAS_REQ_CFG_enable : Fld := ⟨MEAS_REQ_CFG, 0, 1⟩
def MEAS_REQ_CFG_mode : Fld := ⟨MEAS_REQ_CFG, 1, 1⟩
def MEAS_REQ_CFG_class : Fld := ⟨MEAS_REQ_CFG, 2, 3⟩
def MEAS_REQ_CFG_start_src : Fld := ⟨MEAS_REQ_CFG, 8, 8⟩
def MEAS_REQ_CFG_stop_src : Fld := ⟨MEAS_REQ_CFG, 16, 8⟩
def MEAS_REQ_CFG_owner : Fld := ⟨MEAS_REQ_CFG, 24, 8⟩
def MEAS_REQ_PRESC_prescale : Fld := ⟨MEAS_REQ_PRESC, 0, 17⟩
def MEAS_REQ_N_n : Fld := ⟨MEAS_REQ_N, 0, 25⟩
def MEAS_REQ_STATE_state : Fld := ⟨MEAS_REQ_STATE, 0, 2⟩
def MEAS_RES_CNT_count : Fld := ⟨MEAS_RES_CNT, 0, 25⟩
def MEAS_RES_FLAGS_valid : Fld := ⟨MEAS_RES_FLAGS, 0, 1⟩
def MEAS_RES_FLAGS_step : Fld := ⟨MEAS_RES_FLAGS, 1, 1⟩
def MEAS_RES_FLAGS_preempted : Fld := ⟨MEAS_RES_FLAGS, 2, 1⟩
def MEAS_RES_FLAGS_mixed_cal : Fld := ⟨MEAS_RES_FLAGS, 3, 1⟩
def MEAS_RES_FLAGS_uncal : Fld := ⟨MEAS_RES_FLAGS, 4, 1⟩
def MEAS_RES_FLAGS_timeout : Fld := ⟨MEAS_RES_FLAGS, 5, 1⟩
def MEAS_RES_FLAGS_overrange : Fld := ⟨MEAS_RES_FLAGS, 6, 1⟩
def MEAS_RES_REQN_n : Fld := ⟨MEAS_RES_REQN, 0, 25⟩
def MEAS_INL_SEL_code : Fld := ⟨MEAS_INL_SEL, 0, 8⟩
def MEAS_INL_POS_pos : Fld := ⟨MEAS_INL_POS, 0, 16⟩
def MEAS_INL_HITS_hits : Fld := ⟨MEAS_INL_HITS, 0, 20⟩
def MEAS_SKEW_d_ch (ch : Nat) : Fld := ⟨(MEAS_SKEW ch), 0, 16⟩
def MEAS_SRC_DLY_d_src (s : Nat) : Fld := ⟨(MEAS_SRC_DLY s), 0, 24⟩
def MEAS_RESERVE_channels (p : Nat) : Fld := ⟨(MEAS_RESERVE p), 0, 5⟩

end Sys2Proof.Machine
end

