-- ==== Sys2Proof/Machine/RegAddrB.lean ====
section
/-! DEFINITION. The BAR0 addresses of the registers of blocks REF, BND, SYN, GN, PORT, DSG and the places of their fields,
written from the register tables at the end of spec chapters 06, 07, 08, 09, 10, 11 and the block bases of R11.
A register array is a function of its index; a field is a register address, its lowest bit and its width. -/

namespace Sys2Proof.Machine

open Sys2Proof

/-! ### REF, spec/06_references_holdover.md -/

def REF_STATUS : Nat := 0x0A0000
def REF_CTL : Nat := 0x0A0004
def REF_CMD : Nat := 0x0A0008
def REF_RESULT : Nat := 0x0A000C
def REF_SERVO_BW : Nat := 0x0A0010
def REF_LOCK : Nat := 0x0A0014
def REF_OFFSET_LO : Nat := 0x0A0018
def REF_OFFSET_HI : Nat := 0x0A001C
def REF_CLASS_CFG : Nat := 0x0A0020
def REF_HOLD_SPEC : Nat := 0x0A0024
def REF_HOLD_TIME : Nat := 0x0A0028
def REF_HOLD_ETA : Nat := 0x0A002C
def REF_QUAL : Nat := 0x0A0030
def REF_DISAGREE_WIN : Nat := 0x0A0034
def REF_DISAGREE_TIME : Nat := 0x0A0038
def REF_HIST_CTL : Nat := 0x0A003C
def REF_HOLD_CTL : Nat := 0x0A0040
def REF_HIST_PTR : Nat := 0x0A0044
def REF_HIST_CLEAN : Nat := 0x0A0048
def REF_TICK_SEL : Nat := 0x0A004C
def REF_SLOT_CFG (s : Nat) : Nat := 0x0A0100 + s * 0x40
def REF_SLOT_STATE (s : Nat) : Nat := 0x0A0104 + s * 0x40
def REF_SLOT_FSOFT (s : Nat) : Nat := 0x0A0108 + s * 0x40
def REF_SLOT_FHARD (s : Nat) : Nat := 0x0A010C + s * 0x40
def REF_SLOT_PWIN (s : Nat) : Nat := 0x0A0110 + s * 0x40
def REF_SLOT_JWIN (s : Nat) : Nat := 0x0A0114 + s * 0x40
def REF_SLOT_OFS (s : Nat) : Nat := 0x0A0118 + s * 0x40
def REF_SLOT_UNC (s : Nat) : Nat := 0x0A011C + s * 0x40
def REF_SLOT_DEV (s : Nat) : Nat := 0x0A0120 + s * 0x40
def REF_SLOT_ERR (s : Nat) : Nat := 0x0A0124 + s * 0x40
def REF_SLOT_STD (s : Nat) : Nat := 0x0A0128 + s * 0x40
def REF_SLOT_ONSET_LO (s : Nat) : Nat := 0x0A012C + s * 0x40
def REF_SLOT_ONSET_HI (s : Nat) : Nat := 0x0A0130 + s * 0x40
def REF_PRIO (i : Nat) : Nat := 0x0A0900 + i * 0x4
def REF_OSC_CFG (o : Nat) : Nat := 0x0A0A00 + o * 0x4
def REF_EFC_CODE (n : Nat) : Nat := 0x0A0A40 + n * 0x10
def REF_EFC_NOM (n : Nat) : Nat := 0x0A0A44 + n * 0x10
def REF_EFC_GAIN (n : Nat) : Nat := 0x0A0A48 + n * 0x10
def REF_ENS_STATUS : Nat := 0x0A0A60
def REF_SERVO_KP : Nat := 0x0A1000
def REF_SERVO_KI : Nat := 0x0A1004
def REF_SERVO_I_LO : Nat := 0x0A1008
def REF_SERVO_I_HI : Nat := 0x0A100C
def REF_FREQ_DIRECT_LO : Nat := 0x0A1010
def REF_FREQ_DIRECT_HI : Nat := 0x0A1014
def REF_ENS_TERM_LO : Nat := 0x0A1020
def REF_ENS_TERM_HI : Nat := 0x0A1024
def REF_ENS_RATE : Nat := 0x0A1028
def REF_ENS_CTL : Nat := 0x0A102C
def REF_HOLD_MODEL_F0_LO : Nat := 0x0A1030
def REF_HOLD_MODEL_F0_HI : Nat := 0x0A1034
def REF_HOLD_MODEL_F1 : Nat := 0x0A1038
def REF_HOLD_MODEL_CTL : Nat := 0x0A103C
def REF_HOLD_UNC_A0 : Nat := 0x0A1040
def REF_HOLD_UNC_A1 : Nat := 0x0A1044
def REF_HOLD_UNC_A2 : Nat := 0x0A1048
def REF_HIST_SEL : Nat := 0x0A1050
def REF_HIST_W (w : Nat) : Nat := 0x0A1054 + w * 0x4
def REF_HOLD_SUM_F0_LO : Nat := 0x0A1080
def REF_HOLD_SUM_F0_HI : Nat := 0x0A1084
def REF_HOLD_SUM_F1 : Nat := 0x0A1088
def REF_HOLD_SUM_T_LO : Nat := 0x0A108C
def REF_HOLD_SUM_T_HI : Nat := 0x0A1090
def REF_HOLD_SUM_CTL : Nat := 0x0A1094
def REF_EFC_DIRECT (n : Nat) : Nat := 0x0A10A0 + n * 0x4
def REF_FEED_SEL : Nat := 0x0A10C0
def REF_FEED_E_LO : Nat := 0x0A10C4
def REF_FEED_E_HI : Nat := 0x0A10C8
def REF_FEED_U : Nat := 0x0A10CC

def REF_STATUS_servo : Fld := ⟨REF_STATUS, 0, 2⟩
def REF_STATUS_active_prio : Fld := ⟨REF_STATUS, 2, 4⟩
def REF_STATUS_active_slot : Fld := ⟨REF_STATUS, 6, 5⟩
def REF_STATUS_active_valid : Fld := ⟨REF_STATUS, 11, 1⟩
def REF_STATUS_arbiter : Fld := ⟨REF_STATUS, 12, 1⟩
def REF_STATUS_disagree_hold : Fld := ⟨REF_STATUS, 13, 1⟩
def REF_STATUS_efc_clamp : Fld := ⟨REF_STATUS, 14, 1⟩
def REF_STATUS_manual : Fld := ⟨REF_STATUS, 15, 1⟩
def REF_STATUS_pred_src : Fld := ⟨REF_STATUS, 16, 2⟩
def REF_STATUS_forced_hold : Fld := ⟨REF_STATUS, 18, 1⟩
def REF_STATUS_class : Fld := ⟨REF_STATUS, 24, 8⟩
def REF_CTL_steer : Fld := ⟨REF_CTL, 0, 2⟩
def REF_CTL_direct : Fld := ⟨REF_CTL, 2, 1⟩
def REF_CTL_servo_en : Fld := ⟨REF_CTL, 3, 1⟩
def REF_CMD_entry : Fld := ⟨REF_CMD, 0, 4⟩
def REF_CMD_switch : Fld := ⟨REF_CMD, 4, 1⟩
def REF_CMD_auto : Fld := ⟨REF_CMD, 5, 1⟩
def REF_CMD_hold : Fld := ⟨REF_CMD, 6, 1⟩
def REF_CMD_release : Fld := ⟨REF_CMD, 7, 1⟩
def REF_CMD_tick_switch : Fld := ⟨REF_CMD, 8, 1⟩
def REF_RESULT_cause : Fld := ⟨REF_RESULT, 0, 8⟩
def REF_SERVO_BW_mhz : Fld := ⟨REF_SERVO_BW, 0, 14⟩
def REF_LOCK_win : Fld := ⟨REF_LOCK, 0, 16⟩
def REF_LOCK_time : Fld := ⟨REF_LOCK, 16, 8⟩
def REF_CLASS_CFG_hold_in : Fld := ⟨REF_CLASS_CFG, 0, 8⟩
def REF_CLASS_CFG_hold_out : Fld := ⟨REF_CLASS_CFG, 8, 8⟩
def REF_CLASS_CFG_free : Fld := ⟨REF_CLASS_CFG, 16, 8⟩
def REF_QUAL_qual_time : Fld := ⟨REF_QUAL, 0, 16⟩
def REF_QUAL_sus_clear : Fld := ⟨REF_QUAL, 16, 16⟩
def REF_DISAGREE_TIME_s : Fld := ⟨REF_DISAGREE_TIME, 0, 8⟩
def REF_HIST_CTL_interval : Fld := ⟨REF_HIST_CTL, 0, 6⟩
def REF_HIST_CTL_guard : Fld := ⟨REF_HIST_CTL, 16, 12⟩
def REF_HOLD_CTL_window : Fld := ⟨REF_HOLD_CTL, 0, 13⟩
def REF_HOLD_CTL_drift : Fld := ⟨REF_HOLD_CTL, 13, 1⟩
def REF_HOLD_CTL_min_clean : Fld := ⟨REF_HOLD_CTL, 16, 12⟩
def REF_HIST_PTR_newest : Fld := ⟨REF_HIST_PTR, 0, 12⟩
def REF_HIST_PTR_pointer : Fld := ⟨REF_HIST_PTR, 16, 12⟩
def REF_HIST_CLEAN_count : Fld := ⟨REF_HIST_CLEAN, 0, 13⟩
def REF_TICK_SEL_current : Fld := ⟨REF_TICK_SEL, 0, 2⟩
def REF_TICK_SEL_next : Fld := ⟨REF_TICK_SEL, 4, 2⟩
def REF_SLOT_CFG_kind (s : Nat) : Fld := ⟨(REF_SLOT_CFG s), 0, 4⟩
def REF_SLOT_CFG_source (s : Nat) : Fld := ⟨(REF_SLOT_CFG s), 4, 8⟩
def REF_SLOT_CFG_enable (s : Nat) : Fld := ⟨(REF_SLOT_CFG s), 12, 1⟩
def REF_SLOT_CFG_ql_option (s : Nat) : Fld := ⟨(REF_SLOT_CFG s), 13, 1⟩
def REF_SLOT_CFG_ql_min (s : Nat) : Fld := ⟨(REF_SLOT_CFG s), 14, 4⟩
def REF_SLOT_CFG_class (s : Nat) : Fld := ⟨(REF_SLOT_CFG s), 24, 8⟩
def REF_SLOT_STATE_state (s : Nat) : Fld := ⟨(REF_SLOT_STATE s), 0, 2⟩
def REF_SLOT_STATE_cause (s : Nat) : Fld := ⟨(REF_SLOT_STATE s), 4, 4⟩
def REF_SLOT_STATE_ql (s : Nat) : Fld := ⟨(REF_SLOT_STATE s), 8, 4⟩
def REF_SLOT_STATE_qual_left (s : Nat) : Fld := ⟨(REF_SLOT_STATE s), 16, 12⟩
def REF_SLOT_PWIN_soft (s : Nat) : Fld := ⟨(REF_SLOT_PWIN s), 0, 16⟩
def REF_SLOT_PWIN_hard (s : Nat) : Fld := ⟨(REF_SLOT_PWIN s), 16, 16⟩
def REF_SLOT_JWIN_jitter (s : Nat) : Fld := ⟨(REF_SLOT_JWIN s), 0, 16⟩
def REF_SLOT_JWIN_timeout (s : Nat) : Fld := ⟨(REF_SLOT_JWIN s), 16, 16⟩
def REF_SLOT_UNC_unc (s : Nat) : Fld := ⟨(REF_SLOT_UNC s), 0, 24⟩
def REF_SLOT_STD_std (s : Nat) : Fld := ⟨(REF_SLOT_STD s), 0, 24⟩
def REF_PRIO_slot (i : Nat) : Fld := ⟨(REF_PRIO i), 0, 5⟩
def REF_PRIO_rank (i : Nat) : Fld := ⟨(REF_PRIO i), 8, 4⟩
def REF_PRIO_enable (i : Nat) : Fld := ⟨(REF_PRIO i), 12, 1⟩
def REF_PRIO_revert (i : Nat) : Fld := ⟨(REF_PRIO i), 13, 2⟩
def REF_OSC_CFG_present (o : Nat) : Fld := ⟨(REF_OSC_CFG o), 0, 1⟩
def REF_OSC_CFG_atomic (o : Nat) : Fld := ⟨(REF_OSC_CFG o), 1, 1⟩
def REF_OSC_CFG_efc (o : Nat) : Fld := ⟨(REF_OSC_CFG o), 2, 2⟩
def REF_EFC_CODE_code (n : Nat) : Fld := ⟨(REF_EFC_CODE n), 0, 24⟩
def REF_EFC_NOM_nom (n : Nat) : Fld := ⟨(REF_EFC_NOM n), 0, 24⟩
def REF_ENS_STATUS_valid : Fld := ⟨REF_ENS_STATUS, 0, 1⟩
def REF_ENS_STATUS_members : Fld := ⟨REF_ENS_STATUS, 4, 4⟩
def REF_SERVO_KP_M : Fld := ⟨REF_SERVO_KP, 0, 16⟩
def REF_SERVO_KP_E : Fld := ⟨REF_SERVO_KP, 16, 5⟩
def REF_SERVO_KP_manual : Fld := ⟨REF_SERVO_KP, 31, 1⟩
def REF_SERVO_KI_M : Fld := ⟨REF_SERVO_KI, 0, 16⟩
def REF_SERVO_KI_E : Fld := ⟨REF_SERVO_KI, 16, 5⟩
def REF_ENS_CTL_valid : Fld := ⟨REF_ENS_CTL, 0, 1⟩
def REF_ENS_CTL_members : Fld := ⟨REF_ENS_CTL, 4, 4⟩
def REF_ENS_CTL_timeout : Fld := ⟨REF_ENS_CTL, 8, 8⟩
def REF_HOLD_MODEL_CTL_valid : Fld := ⟨REF_HOLD_MODEL_CTL, 0, 1⟩
def REF_HIST_SEL_index : Fld := ⟨REF_HIST_SEL, 0, 12⟩
def REF_HOLD_SUM_CTL_valid : Fld := ⟨REF_HOLD_SUM_CTL, 0, 1⟩
def REF_HOLD_SUM_CTL_osc : Fld := ⟨REF_HOLD_SUM_CTL, 1, 2⟩
def REF_HOLD_SUM_CTL_efc : Fld := ⟨REF_HOLD_SUM_CTL, 8, 24⟩
def REF_EFC_DIRECT_code (n : Nat) : Fld := ⟨(REF_EFC_DIRECT n), 0, 24⟩
def REF_EFC_DIRECT_en (n : Nat) : Fld := ⟨(REF_EFC_DIRECT n), 31, 1⟩
def REF_FEED_SEL_slot : Fld := ⟨REF_FEED_SEL, 0, 5⟩
def REF_FEED_U_u : Fld := ⟨REF_FEED_U, 0, 24⟩
def REF_FEED_U_suspect : Fld := ⟨REF_FEED_U, 24, 1⟩
def REF_FEED_U_invalid : Fld := ⟨REF_FEED_U, 25, 1⟩

/-! ### BND, spec/07_error_bound.md -/

def BND_STATUS : Nat := 0x0B0000
def BND_SUM_LO : Nat := 0x0B0008
def BND_SUM_HI : Nat := 0x0B000C
def BND_EPOCH_LO : Nat := 0x0B0010
def BND_EPOCH_HI : Nat := 0x0B0014
def BND_FREEBOARD_LO : Nat := 0x0B0018
def BND_FREEBOARD_HI : Nat := 0x0B001C
def BND_B_REF_LO : Nat := 0x0B0020
def BND_B_REF_HI : Nat := 0x0B0024
def BND_B_SERVO_LO : Nat := 0x0B0028
def BND_B_SERVO_HI : Nat := 0x0B002C
def BND_B_HOLD_LO : Nat := 0x0B0030
def BND_B_HOLD_HI : Nat := 0x0B0034
def BND_B_VOTE_LO : Nat := 0x0B0038
def BND_B_VOTE_HI : Nat := 0x0B003C
def BND_B_TWIN_LO : Nat := 0x0B0040
def BND_B_TWIN_HI : Nat := 0x0B0044
def BND_TRACE_SEQ : Nat := 0x0B0048
def BND_HOLD_T_LO : Nat := 0x0B0050
def BND_HOLD_T_HI : Nat := 0x0B0054
def BND_LIMIT_LO : Nat := 0x0B0060
def BND_LIMIT_HI : Nat := 0x0B0064
def BND_WARN : Nat := 0x0B0068
def BND_RECOVER : Nat := 0x0B006C
def BND_CLASS_CFG : Nat := 0x0B0070
def BND_CFG : Nat := 0x0B0074
def BND_FREE_RATE : Nat := 0x0B0078
def BND_SET_UNC : Nat := 0x0B007C
def BND_FREQ_UNC : Nat := 0x0B0080
def BND_PATH (p : Nat) : Nat := 0x0B0100 + p * 0x8
def BND_PATH_CAL (p : Nat) : Nat := 0x0B0104 + p * 0x8
def BND_WC_RATE_REF : Nat := 0x0B1000
def BND_WC_RATE_HOLD : Nat := 0x0B1004
def BND_WC_RATE_TWIN : Nat := 0x0B1008
def BND_WC_RATE_PATH : Nat := 0x0B100C
def BND_TWIN_INIT : Nat := 0x0B1010
def BND_VOTE_DOUBLE : Nat := 0x0B1014
def BND_SEED_UNC : Nat := 0x0B1018
def BND_PATH_DSG : Nat := 0x0B101C
def BND_HOLD_BASE_LO : Nat := 0x0B1020
def BND_HOLD_BASE_HI : Nat := 0x0B1024
def BND_HOLD_T0_LO : Nat := 0x0B1028
def BND_HOLD_T0_HI : Nat := 0x0B102C
def BND_HOLD_A0 : Nat := 0x0B1030
def BND_HOLD_A1 : Nat := 0x0B1034
def BND_HOLD_A2 : Nat := 0x0B1038
def BND_TDC_TERM : Nat := 0x0B1040
def BND_ANCHOR_SEL : Nat := 0x0B1050
def BND_ANCHOR_ID : Nat := 0x0B1054
def BND_ANCHOR_SEQ : Nat := 0x0B1058

def BND_STATUS_unknown : Fld := ⟨BND_STATUS, 0, 1⟩
def BND_STATUS_holdover : Fld := ⟨BND_STATUS, 1, 1⟩
def BND_STATUS_warn : Fld := ⟨BND_STATUS, 2, 1⟩
def BND_STATUS_over : Fld := ⟨BND_STATUS, 3, 1⟩
def BND_STATUS_aged : Fld := ⟨BND_STATUS, 4, 1⟩
def BND_STATUS_saturated : Fld := ⟨BND_STATUS, 5, 1⟩
def BND_STATUS_mismatch : Fld := ⟨BND_STATUS, 6, 1⟩
def BND_STATUS_demand : Fld := ⟨BND_STATUS, 8, 8⟩
def BND_STATUS_advertised : Fld := ⟨BND_STATUS, 16, 8⟩
def BND_STATUS_accuracy : Fld := ⟨BND_STATUS, 24, 8⟩
def BND_SUM_HI_sum : Fld := ⟨BND_SUM_HI, 0, 16⟩
def BND_B_REF_HI_value : Fld := ⟨BND_B_REF_HI, 0, 16⟩
def BND_B_SERVO_HI_value : Fld := ⟨BND_B_SERVO_HI, 0, 16⟩
def BND_B_HOLD_HI_value : Fld := ⟨BND_B_HOLD_HI, 0, 16⟩
def BND_B_VOTE_HI_value : Fld := ⟨BND_B_VOTE_HI, 0, 16⟩
def BND_B_TWIN_HI_value : Fld := ⟨BND_B_TWIN_HI, 0, 16⟩
def BND_LIMIT_HI_ps : Fld := ⟨BND_LIMIT_HI, 0, 16⟩
def BND_RECOVER_s : Fld := ⟨BND_RECOVER, 0, 16⟩
def BND_CLASS_CFG_over : Fld := ⟨BND_CLASS_CFG, 0, 8⟩
def BND_CFG_k : Fld := ⟨BND_CFG, 0, 4⟩
def BND_VOTE_DOUBLE_ps : Fld := ⟨BND_VOTE_DOUBLE, 0, 16⟩
def BND_SEED_UNC_ps : Fld := ⟨BND_SEED_UNC, 0, 16⟩
def BND_PATH_DSG_cal : Fld := ⟨BND_PATH_DSG, 0, 16⟩
def BND_PATH_DSG_uncal : Fld := ⟨BND_PATH_DSG, 16, 16⟩
def BND_HOLD_BASE_HI_ps : Fld := ⟨BND_HOLD_BASE_HI, 0, 16⟩
def BND_TDC_TERM_cal : Fld := ⟨BND_TDC_TERM, 0, 8⟩
def BND_TDC_TERM_uncal : Fld := ⟨BND_TDC_TERM, 8, 8⟩
def BND_ANCHOR_SEL_input : Fld := ⟨BND_ANCHOR_SEL, 0, 4⟩
def BND_ANCHOR_SEL_port : Fld := ⟨BND_ANCHOR_SEL, 4, 4⟩

/-! ### SYN, spec/08_synthesis_outputs.md -/

def SYN_STATUS : Nat := 0x0C0000
def SYN_CMD : Nat := 0x0C0004
def SYN_CAL_CTL : Nat := 0x0C0008
def SYN_CAL_PERIOD : Nat := 0x0C000C
def SYN_CAL_AGELIM : Nat := 0x0C0010
def SYN_REALIGN_MAX : Nat := 0x0C0014
def SYN_OSC_FNOM (o : Nat) : Nat := 0x0C0020 + o * 0x4
def SYN_PLL_CFG (p : Nat) : Nat := 0x0C0100 + p * 0x20
def SYN_PLL_NINT (p : Nat) : Nat := 0x0C0104 + p * 0x20
def SYN_PLL_NFRAC (p : Nat) : Nat := 0x0C0108 + p * 0x20
def SYN_PLL_STATUS (p : Nat) : Nat := 0x0C010C + p * 0x20
def SYN_PLL_CMD (p : Nat) : Nat := 0x0C0110 + p * 0x20
def SYN_PLL_RESULT (p : Nat) : Nat := 0x0C0114 + p * 0x20
def SYN_PLL_LOCKWIN (p : Nat) : Nat := 0x0C0118 + p * 0x20
def SYN_OUT_CFG (o : Nat) : Nat := 0x0C0300 + o * 0x20
def SYN_OUT_DIV (o : Nat) : Nat := 0x0C0304 + o * 0x20
def SYN_OUT_DELAY (o : Nat) : Nat := 0x0C0308 + o * 0x20
def SYN_OUT_BOARD (o : Nat) : Nat := 0x0C030C + o * 0x20
def SYN_OUT_STATUS (o : Nat) : Nat := 0x0C0310 + o * 0x20
def SYN_OUT_ERR (o : Nat) : Nat := 0x0C0314 + o * 0x20
def SYN_OUT_PHASE (o : Nat) : Nat := 0x0C0318 + o * 0x20
def SYN_OUT_CALSEQ (o : Nat) : Nat := 0x0C031C + o * 0x20
def SYN_GRP_DIV (g : Nat) : Nat := 0x0C0500 + g * 0x4
def SYN_PPS_CFG (q : Nat) : Nat := 0x0C0600 + q * 0x20
def SYN_PPS_PER_LO (q : Nat) : Nat := 0x0C0604 + q * 0x20
def SYN_PPS_PER_HI (q : Nat) : Nat := 0x0C0608 + q * 0x20
def SYN_PPS_WID (q : Nat) : Nat := 0x0C060C + q * 0x20
def SYN_PPS_PH_LO (q : Nat) : Nat := 0x0C0610 + q * 0x20
def SYN_PPS_PH_HI (q : Nat) : Nat := 0x0C0614 + q * 0x20
def SYN_PPS_SKIP (q : Nat) : Nat := 0x0C0618 + q * 0x20
def SYN_PPS_STATUS (q : Nat) : Nat := 0x0C061C + q * 0x20
def SYN_BAND_MIN (p b : Nat) : Nat := 0x0C1000 + p * 0x400 + b * 0x8
def SYN_BAND_MAX (p b : Nat) : Nat := 0x0C1004 + p * 0x400 + b * 0x8
def SYN_HOP_N (p e : Nat) : Nat := 0x0C2000 + p * 0x200 + e * 0x10
def SYN_HOP_NFRAC (p e : Nat) : Nat := 0x0C2004 + p * 0x200 + e * 0x10
def SYN_HOP_TUNE (p e : Nat) : Nat := 0x0C2008 + p * 0x200 + e * 0x10
def SYN_HOP_CTL (p e : Nat) : Nat := 0x0C200C + p * 0x200 + e * 0x10
def SYN_PLL_TUNE (p : Nat) : Nat := 0x0C2800 + p * 0x4
def SYN_PPS_LAT (q : Nat) : Nat := 0x0C2810 + q * 0x4

def SYN_STATUS_locked : Fld := ⟨SYN_STATUS, 0, 4⟩
def SYN_STATUS_coasting : Fld := ⟨SYN_STATUS, 4, 4⟩
def SYN_STATUS_mode : Fld := ⟨SYN_STATUS, 8, 1⟩
def SYN_STATUS_serdes_pll : Fld := ⟨SYN_STATUS, 9, 2⟩
def SYN_CMD_sweep : Fld := ⟨SYN_CMD, 0, 4⟩
def SYN_CAL_CTL_rate : Fld := ⟨SYN_CAL_CTL, 0, 8⟩
def SYN_CAL_PERIOD_s : Fld := ⟨SYN_CAL_PERIOD, 0, 16⟩
def SYN_CAL_AGELIM_s : Fld := ⟨SYN_CAL_AGELIM, 0, 16⟩
def SYN_REALIGN_MAX_cycles : Fld := ⟨SYN_REALIGN_MAX, 0, 8⟩
def SYN_OSC_FNOM_hz (o : Nat) : Fld := ⟨(SYN_OSC_FNOM o), 0, 27⟩
def SYN_PLL_CFG_ref (p : Nat) : Fld := ⟨(SYN_PLL_CFG p), 0, 3⟩
def SYN_PLL_CFG_steer (p : Nat) : Fld := ⟨(SYN_PLL_CFG p), 3, 1⟩
def SYN_PLL_NINT_nint (p : Nat) : Fld := ⟨(SYN_PLL_NINT p), 0, 14⟩
def SYN_PLL_STATUS_state (p : Nat) : Fld := ⟨(SYN_PLL_STATUS p), 0, 3⟩
def SYN_PLL_STATUS_band (p : Nat) : Fld := ⟨(SYN_PLL_STATUS p), 3, 7⟩
def SYN_PLL_STATUS_ref_lost (p : Nat) : Fld := ⟨(SYN_PLL_STATUS p), 10, 1⟩
def SYN_PLL_STATUS_mon_out (p : Nat) : Fld := ⟨(SYN_PLL_STATUS p), 11, 1⟩
def SYN_PLL_STATUS_hit (p : Nat) : Fld := ⟨(SYN_PLL_STATUS p), 12, 1⟩
def SYN_PLL_STATUS_mon (p : Nat) : Fld := ⟨(SYN_PLL_STATUS p), 16, 16⟩
def SYN_PLL_CMD_hop (p : Nat) : Fld := ⟨(SYN_PLL_CMD p), 0, 1⟩
def SYN_PLL_CMD_start (p : Nat) : Fld := ⟨(SYN_PLL_CMD p), 1, 1⟩
def SYN_PLL_CMD_stop (p : Nat) : Fld := ⟨(SYN_PLL_CMD p), 2, 1⟩
def SYN_PLL_CMD_flush (p : Nat) : Fld := ⟨(SYN_PLL_CMD p), 3, 1⟩
def SYN_PLL_RESULT_cause (p : Nat) : Fld := ⟨(SYN_PLL_RESULT p), 0, 8⟩
def SYN_PLL_LOCKWIN_ps (p : Nat) : Fld := ⟨(SYN_PLL_LOCKWIN p), 0, 16⟩
def SYN_OUT_CFG_pll (o : Nat) : Fld := ⟨(SYN_OUT_CFG o), 0, 1⟩
def SYN_OUT_CFG_enable (o : Nat) : Fld := ⟨(SYN_OUT_CFG o), 1, 1⟩
def SYN_OUT_CFG_align (o : Nat) : Fld := ⟨(SYN_OUT_CFG o), 2, 1⟩
def SYN_OUT_CFG_claim (o : Nat) : Fld := ⟨(SYN_OUT_CFG o), 3, 1⟩
def SYN_OUT_CFG_squelch (o : Nat) : Fld := ⟨(SYN_OUT_CFG o), 4, 1⟩
def SYN_OUT_CFG_cal_en (o : Nat) : Fld := ⟨(SYN_OUT_CFG o), 5, 1⟩
def SYN_OUT_CFG_group (o : Nat) : Fld := ⟨(SYN_OUT_CFG o), 6, 1⟩
def SYN_OUT_CFG_fmt (o : Nat) : Fld := ⟨(SYN_OUT_CFG o), 8, 3⟩
def SYN_OUT_DIV_d (o : Nat) : Fld := ⟨(SYN_OUT_DIV o), 0, 24⟩
def SYN_OUT_DELAY_code (o : Nat) : Fld := ⟨(SYN_OUT_DELAY o), 0, 14⟩
def SYN_OUT_STATUS_running (o : Nat) : Fld := ⟨(SYN_OUT_STATUS o), 0, 1⟩
def SYN_OUT_STATUS_driving (o : Nat) : Fld := ⟨(SYN_OUT_STATUS o), 1, 1⟩
def SYN_OUT_STATUS_cal_valid (o : Nat) : Fld := ⟨(SYN_OUT_STATUS o), 2, 1⟩
def SYN_OUT_STATUS_realigning (o : Nat) : Fld := ⟨(SYN_OUT_STATUS o), 3, 1⟩
def SYN_OUT_STATUS_squelched (o : Nat) : Fld := ⟨(SYN_OUT_STATUS o), 4, 1⟩
def SYN_OUT_STATUS_cal_age (o : Nat) : Fld := ⟨(SYN_OUT_STATUS o), 16, 16⟩
def SYN_OUT_PHASE_cycles (o : Nat) : Fld := ⟨(SYN_OUT_PHASE o), 0, 24⟩
def SYN_GRP_DIV_d (g : Nat) : Fld := ⟨(SYN_GRP_DIV g), 0, 24⟩
def SYN_PPS_CFG_enable (q : Nat) : Fld := ⟨(SYN_PPS_CFG q), 0, 1⟩
def SYN_PPS_CFG_claim (q : Nat) : Fld := ⟨(SYN_PPS_CFG q), 1, 1⟩
def SYN_PPS_CFG_cal_en (q : Nat) : Fld := ⟨(SYN_PPS_CFG q), 2, 1⟩
def SYN_PPS_SKIP_skipped (q : Nat) : Fld := ⟨(SYN_PPS_SKIP q), 0, 16⟩
def SYN_PPS_SKIP_repeated (q : Nat) : Fld := ⟨(SYN_PPS_SKIP q), 16, 16⟩
def SYN_PPS_STATUS_running (q : Nat) : Fld := ⟨(SYN_PPS_STATUS q), 0, 1⟩
def SYN_PPS_STATUS_driving (q : Nat) : Fld := ⟨(SYN_PPS_STATUS q), 1, 1⟩
def SYN_PPS_STATUS_cal_valid (q : Nat) : Fld := ⟨(SYN_PPS_STATUS q), 2, 1⟩
def SYN_PPS_STATUS_pending (q : Nat) : Fld := ⟨(SYN_PPS_STATUS q), 3, 1⟩
def SYN_PPS_STATUS_cal_age (q : Nat) : Fld := ⟨(SYN_PPS_STATUS q), 16, 16⟩
def SYN_BAND_MIN_fmin (p b : Nat) : Fld := ⟨(SYN_BAND_MIN p b), 0, 17⟩
def SYN_BAND_MIN_valid (p b : Nat) : Fld := ⟨(SYN_BAND_MIN p b), 31, 1⟩
def SYN_BAND_MAX_fmax (p b : Nat) : Fld := ⟨(SYN_BAND_MAX p b), 0, 17⟩
def SYN_HOP_N_nint (p e : Nat) : Fld := ⟨(SYN_HOP_N p e), 0, 14⟩
def SYN_HOP_TUNE_tune (p e : Nat) : Fld := ⟨(SYN_HOP_TUNE p e), 0, 16⟩
def SYN_HOP_TUNE_band (p e : Nat) : Fld := ⟨(SYN_HOP_TUNE p e), 16, 7⟩
def SYN_HOP_CTL_valid (p e : Nat) : Fld := ⟨(SYN_HOP_CTL p e), 0, 1⟩
def SYN_HOP_CTL_pin (p e : Nat) : Fld := ⟨(SYN_HOP_CTL p e), 1, 1⟩
def SYN_HOP_CTL_temp (p e : Nat) : Fld := ⟨(SYN_HOP_CTL p e), 8, 8⟩
def SYN_PLL_TUNE_tune (p : Nat) : Fld := ⟨(SYN_PLL_TUNE p), 0, 16⟩

/-! ### GN, spec/09_gnss_baseband.md -/

def GN_STATUS : Nat := 0x0D0000
def GN_RESULT : Nat := 0x0D0004
def GN_EPOCH_CTL : Nat := 0x0D0010
def GN_EPOCH_SEQ : Nat := 0x0D0014
def GN_EPOCH_ACK : Nat := 0x0D0018
def GN_STREAM_CFG (n : Nat) : Nat := 0x0D0100 + n * 0x20
def GN_STREAM_FS (n : Nat) : Nat := 0x0D0104 + n * 0x20
def GN_STREAM_IF (n : Nat) : Nat := 0x0D0108 + n * 0x20
def GN_STREAM_STAT (n : Nat) : Nat := 0x0D010C + n * 0x20
def GN_ANT_DLY (n : Nat) : Nat := 0x0D0110 + n * 0x20
def GN_STREAM_IDX_LO (n : Nat) : Nat := 0x0D0114 + n * 0x20
def GN_STREAM_IDX_HI (n : Nat) : Nat := 0x0D0118 + n * 0x20
def GN_FEED_E_LO : Nat := 0x0D0200
def GN_FEED_E_HI : Nat := 0x0D0204
def GN_FEED_U : Nat := 0x0D0208
def GN_VERDICT : Nat := 0x0D020C
def GN_FEED_CNT : Nat := 0x0D0210
def GN_OSNMA_CTL : Nat := 0x0D0214
def GN_DIR_CTL : Nat := 0x0D0218
def GN_BASELINE_E : Nat := 0x0D021C
def GN_BASELINE_N : Nat := 0x0D0220
def GN_BASELINE_U : Nat := 0x0D0224
def GN_WEEK_FLOOR : Nat := 0x0D0228
def GN_SOL_MIN : Nat := 0x0D022C
def GN_SNAP_CFG : Nat := 0x0D0300
def GN_SNAP_CMD : Nat := 0x0D0304
def GN_SNAP_STATUS : Nat := 0x0D0308
def GN_SNAP_TGT_LO : Nat := 0x0D0310
def GN_SNAP_TGT_HI : Nat := 0x0D0314
def GN_SNAP_OFS (n : Nat) : Nat := 0x0D0320 + n * 0x10
def GN_SNAP_LEN (n : Nat) : Nat := 0x0D0324 + n * 0x10
def GN_SNAP_T0_LO (n : Nat) : Nat := 0x0D0328 + n * 0x10
def GN_SNAP_T0_HI (n : Nat) : Nat := 0x0D032C + n * 0x10
def GN_LW_CTL : Nat := 0x0D0380
def GN_LW_PERIOD : Nat := 0x0D0384
def GN_LW_OFS_LO : Nat := 0x0D0388
def GN_LW_OFS_HI : Nat := 0x0D038C
def GN_LW_UNC : Nat := 0x0D0390
def GN_ACQ_SEL : Nat := 0x0D1000
def GN_ACQ_CFG : Nat := 0x0D1004
def GN_ACQ_DOP : Nat := 0x0D1008
def GN_ACQ_CMD : Nat := 0x0D100C
def GN_ACQ_RES_CODE : Nat := 0x0D1010
def GN_ACQ_RES_DOP : Nat := 0x0D1014
def GN_ACQ_RES_MET : Nat := 0x0D1018
def GN_ACQ_THR : Nat := 0x0D101C
def GN_RING_BASE (r : Nat) : Nat := 0x0D1100 + r * 0x10
def GN_RING_SIZE (r : Nat) : Nat := 0x0D1104 + r * 0x10
def GN_RING_WR (r : Nat) : Nat := 0x0D1108 + r * 0x10
def GN_RING_RD (r : Nat) : Nat := 0x0D110C + r * 0x10
def GN_EPOCH_BASE : Nat := 0x0D1180
def GN_CH_CFG (c : Nat) : Nat := 0x0D2000 + c * 0x40
def GN_CH_CMD (c : Nat) : Nat := 0x0D2004 + c * 0x40
def GN_CH_STATE (c : Nat) : Nat := 0x0D2008 + c * 0x40
def GN_CH_SPC (c : Nat) : Nat := 0x0D200C + c * 0x40
def GN_CH_KPH_LO (c : Nat) : Nat := 0x0D2010 + c * 0x40
def GN_CH_KPH_HI (c : Nat) : Nat := 0x0D2014 + c * 0x40
def GN_CH_KRATE_LO (c : Nat) : Nat := 0x0D2018 + c * 0x40
def GN_CH_KRATE_HI (c : Nat) : Nat := 0x0D201C + c * 0x40
def GN_CH_CPH_LO (c : Nat) : Nat := 0x0D2020 + c * 0x40
def GN_CH_CPH_HI (c : Nat) : Nat := 0x0D2024 + c * 0x40
def GN_CH_CRATE_LO (c : Nat) : Nat := 0x0D2028 + c * 0x40
def GN_CH_CRATE_HI (c : Nat) : Nat := 0x0D202C + c * 0x40
def GN_CH_START_LO (c : Nat) : Nat := 0x0D2030 + c * 0x40
def GN_CH_START_HI (c : Nat) : Nat := 0x0D2034 + c * 0x40
def GN_CH_KADJ (c : Nat) : Nat := 0x0D2038 + c * 0x40
def GN_CH_CN0 (c : Nat) : Nat := 0x0D203C + c * 0x40

def GN_STATUS_up : Fld := ⟨GN_STATUS, 0, 4⟩
def GN_STATUS_running : Fld := ⟨GN_STATUS, 4, 8⟩
def GN_STATUS_snap : Fld := ⟨GN_STATUS, 12, 3⟩
def GN_STATUS_osnma : Fld := ⟨GN_STATUS, 16, 2⟩
def GN_STATUS_dir : Fld := ⟨GN_STATUS, 18, 2⟩
def GN_RESULT_cause : Fld := ⟨GN_RESULT, 0, 8⟩
def GN_RESULT_block : Fld := ⟨GN_RESULT, 8, 8⟩
def GN_EPOCH_CTL_rate : Fld := ⟨GN_EPOCH_CTL, 0, 3⟩
def GN_STREAM_CFG_enable (n : Nat) : Fld := ⟨(GN_STREAM_CFG n), 0, 1⟩
def GN_STREAM_CFG_fmt (n : Nat) : Fld := ⟨(GN_STREAM_CFG n), 1, 1⟩
def GN_STREAM_CFG_lost (n : Nat) : Fld := ⟨(GN_STREAM_CFG n), 2, 1⟩
def GN_STREAM_FS_hz (n : Nat) : Fld := ⟨(GN_STREAM_FS n), 0, 27⟩
def GN_STREAM_STAT_mag (n : Nat) : Fld := ⟨(GN_STREAM_STAT n), 0, 10⟩
def GN_STREAM_STAT_dev (n : Nat) : Fld := ⟨(GN_STREAM_STAT n), 16, 16⟩
def GN_FEED_U_u : Fld := ⟨GN_FEED_U, 0, 24⟩
def GN_FEED_U_suspect : Fld := ⟨GN_FEED_U, 24, 1⟩
def GN_FEED_U_invalid : Fld := ⟨GN_FEED_U, 25, 1⟩
def GN_FEED_U_streams : Fld := ⟨GN_FEED_U, 26, 4⟩
def GN_VERDICT_osnma : Fld := ⟨GN_VERDICT, 0, 2⟩
def GN_VERDICT_dir : Fld := ⟨GN_VERDICT, 2, 2⟩
def GN_FEED_CNT_late : Fld := ⟨GN_FEED_CNT, 0, 16⟩
def GN_FEED_CNT_refused : Fld := ⟨GN_FEED_CNT, 16, 16⟩
def GN_OSNMA_CTL_mode : Fld := ⟨GN_OSNMA_CTL, 0, 2⟩
def GN_OSNMA_CTL_strict : Fld := ⟨GN_OSNMA_CTL, 2, 1⟩
def GN_OSNMA_CTL_min_auth : Fld := ⟨GN_OSNMA_CTL, 4, 4⟩
def GN_OSNMA_CTL_max_age : Fld := ⟨GN_OSNMA_CTL, 8, 16⟩
def GN_DIR_CTL_en : Fld := ⟨GN_DIR_CTL, 0, 1⟩
def GN_DIR_CTL_rms : Fld := ⟨GN_DIR_CTL, 1, 11⟩
def GN_DIR_CTL_min_sv : Fld := ⟨GN_DIR_CTL, 12, 4⟩
def GN_DIR_CTL_floor : Fld := ⟨GN_DIR_CTL, 16, 12⟩
def GN_WEEK_FLOOR_week : Fld := ⟨GN_WEEK_FLOOR, 0, 16⟩
def GN_SOL_MIN_sv : Fld := ⟨GN_SOL_MIN, 0, 4⟩
def GN_SNAP_CFG_streams : Fld := ⟨GN_SNAP_CFG, 0, 4⟩
def GN_SNAP_CFG_ms : Fld := ⟨GN_SNAP_CFG, 4, 5⟩
def GN_SNAP_CFG_trig : Fld := ⟨GN_SNAP_CFG, 9, 2⟩
def GN_SNAP_CFG_overwrite : Fld := ⟨GN_SNAP_CFG, 11, 1⟩
def GN_SNAP_CMD_capture : Fld := ⟨GN_SNAP_CMD, 0, 1⟩
def GN_SNAP_CMD_cancel : Fld := ⟨GN_SNAP_CMD, 1, 1⟩
def GN_SNAP_CMD_free : Fld := ⟨GN_SNAP_CMD, 2, 1⟩
def GN_SNAP_STATUS_coarse : Fld := ⟨GN_SNAP_STATUS, 0, 4⟩
def GN_SNAP_STATUS_locks : Fld := ⟨GN_SNAP_STATUS, 4, 4⟩
def GN_SNAP_STATUS_retakes : Fld := ⟨GN_SNAP_STATUS, 8, 16⟩
def GN_SNAP_OFS_bytes (n : Nat) : Fld := ⟨(GN_SNAP_OFS n), 0, 23⟩
def GN_SNAP_LEN_bytes (n : Nat) : Fld := ⟨(GN_SNAP_LEN n), 0, 23⟩
def GN_LW_CTL_settle : Fld := ⟨GN_LW_CTL, 0, 8⟩
def GN_LW_CTL_ms : Fld := ⟨GN_LW_CTL, 8, 5⟩
def GN_LW_CTL_streams : Fld := ⟨GN_LW_CTL, 13, 4⟩
def GN_LW_CTL_eph_age : Fld := ⟨GN_LW_CTL, 17, 8⟩
def GN_LW_CTL_refresh : Fld := ⟨GN_LW_CTL, 25, 1⟩
def GN_LW_UNC_ps : Fld := ⟨GN_LW_UNC, 0, 24⟩
def GN_LW_UNC_valid : Fld := ⟨GN_LW_UNC, 31, 1⟩
def GN_ACQ_SEL_job : Fld := ⟨GN_ACQ_SEL, 0, 4⟩
def GN_ACQ_CFG_stream : Fld := ⟨GN_ACQ_CFG, 0, 2⟩
def GN_ACQ_CFG_signal : Fld := ⟨GN_ACQ_CFG, 2, 4⟩
def GN_ACQ_CFG_prn : Fld := ⟨GN_ACQ_CFG, 6, 8⟩
def GN_ACQ_CFG_k : Fld := ⟨GN_ACQ_CFG, 14, 5⟩
def GN_ACQ_CFG_s : Fld := ⟨GN_ACQ_CFG, 19, 5⟩
def GN_ACQ_DOP_centre : Fld := ⟨GN_ACQ_DOP, 0, 16⟩
def GN_ACQ_DOP_half : Fld := ⟨GN_ACQ_DOP, 16, 8⟩
def GN_ACQ_DOP_width : Fld := ⟨GN_ACQ_DOP, 24, 8⟩
def GN_ACQ_CMD_start : Fld := ⟨GN_ACQ_CMD, 0, 1⟩
def GN_ACQ_CMD_abort : Fld := ⟨GN_ACQ_CMD, 1, 1⟩
def GN_ACQ_RES_CODE_code : Fld := ⟨GN_ACQ_RES_CODE, 0, 18⟩
def GN_ACQ_RES_MET_metric : Fld := ⟨GN_ACQ_RES_MET, 0, 16⟩
def GN_ACQ_RES_MET_cn0 : Fld := ⟨GN_ACQ_RES_MET, 16, 10⟩
def GN_ACQ_RES_MET_detected : Fld := ⟨GN_ACQ_RES_MET, 26, 1⟩
def GN_ACQ_RES_MET_state : Fld := ⟨GN_ACQ_RES_MET, 28, 2⟩
def GN_ACQ_THR_thr : Fld := ⟨GN_ACQ_THR, 0, 16⟩
def GN_RING_BASE_addr (r : Nat) : Fld := ⟨(GN_RING_BASE r), 0, 23⟩
def GN_RING_SIZE_log2 (r : Nat) : Fld := ⟨(GN_RING_SIZE r), 0, 4⟩
def GN_RING_WR_index (r : Nat) : Fld := ⟨(GN_RING_WR r), 0, 16⟩
def GN_RING_RD_index (r : Nat) : Fld := ⟨(GN_RING_RD r), 0, 16⟩
def GN_EPOCH_BASE_addr : Fld := ⟨GN_EPOCH_BASE, 0, 23⟩
def GN_CH_CFG_stream (c : Nat) : Fld := ⟨(GN_CH_CFG c), 0, 2⟩
def GN_CH_CFG_signal (c : Nat) : Fld := ⟨(GN_CH_CFG c), 2, 4⟩
def GN_CH_CFG_prn (c : Nat) : Fld := ⟨(GN_CH_CFG c), 6, 8⟩
def GN_CH_CFG_ring (c : Nat) : Fld := ⟨(GN_CH_CFG c), 14, 2⟩
def GN_CH_CMD_start (c : Nat) : Fld := ⟨(GN_CH_CMD c), 0, 1⟩
def GN_CH_CMD_stop (c : Nat) : Fld := ⟨(GN_CH_CMD c), 1, 1⟩
def GN_CH_STATE_state (c : Nat) : Fld := ⟨(GN_CH_STATE c), 0, 2⟩
def GN_CH_STATE_late (c : Nat) : Fld := ⟨(GN_CH_STATE c), 2, 1⟩
def GN_CH_SPC_el (c : Nat) : Fld := ⟨(GN_CH_SPC c), 0, 6⟩
def GN_CH_SPC_vel (c : Nat) : Fld := ⟨(GN_CH_SPC c), 8, 6⟩
def GN_CH_SPC_nofs (c : Nat) : Fld := ⟨(GN_CH_SPC c), 16, 14⟩
def GN_CH_CN0_cn0 (c : Nat) : Fld := ⟨(GN_CH_CN0 c), 0, 16⟩
def GN_CH_CN0_win (c : Nat) : Fld := ⟨(GN_CH_CN0 c), 16, 8⟩

/-! ### PORT, spec/10_network_ports.md -/

def PORT_STATUS (b : Nat) : Nat := 0x100000 + b * 0x10000
def PORT_CMD (b : Nat) : Nat := 0x100004 + b * 0x10000
def PORT_RESULT (b : Nat) : Nat := 0x100008 + b * 0x10000
def PORT_MAX_FRAME (b : Nat) : Nat := 0x10000C + b * 0x10000
def PORT_BUF_QUOTA (b : Nat) : Nat := 0x100010 + b * 0x10000
def PORT_BUF_RX (b : Nat) : Nat := 0x100014 + b * 0x10000
def PORT_CAL_SEQ (b : Nat) : Nat := 0x100018 + b * 0x10000
def PORT_CAL_PERIOD (b : Nat) : Nat := 0x10001C + b * 0x10000
def PORT_TS_TOL (b : Nat) : Nat := 0x100020 + b * 0x10000
def PORT_STAT_HALF (b s : Nat) : Nat := 0x100024 + b * 0x10000 + s * 0x4
def PORT_SUB_STATUS (b s : Nat) : Nat := 0x100100 + b * 0x10000 + s * 0x80
def PORT_MAC_LO (b s : Nat) : Nat := 0x100104 + b * 0x10000 + s * 0x80
def PORT_MAC_HI (b s : Nat) : Nat := 0x100108 + b * 0x10000 + s * 0x80
def PORT_RX_CTL (b s : Nat) : Nat := 0x10010C + b * 0x10000 + s * 0x80
def PORT_VLAN (b s v : Nat) : Nat := 0x100110 + b * 0x10000 + s * 0x80 + v * 0x4
def PORT_BOARD_RX (b s : Nat) : Nat := 0x100120 + b * 0x10000 + s * 0x80
def PORT_BOARD_TX (b s : Nat) : Nat := 0x100124 + b * 0x10000 + s * 0x80
def PORT_CNT (b s i : Nat) : Nat := 0x100400 + b * 0x10000 + s * 0x100 + i * 0x4
def PORT_CNT_SNAP (b s i : Nat) : Nat := 0x100480 + b * 0x10000 + s * 0x100 + i * 0x4
def PORT_LANE_LAT_RX (b j : Nat) : Nat := 0x101000 + b * 0x10000 + j * 0x20
def PORT_LANE_LAT_TX (b j : Nat) : Nat := 0x101004 + b * 0x10000 + j * 0x20
def PORT_LANE_DLY_RX (b j : Nat) : Nat := 0x101008 + b * 0x10000 + j * 0x20
def PORT_LANE_DLY_TX (b j : Nat) : Nat := 0x10100C + b * 0x10000 + j * 0x20
def PORT_LANE_TXPH (b j : Nat) : Nat := 0x101010 + b * 0x10000 + j * 0x20
def PORT_LANE_SLIP (b j : Nat) : Nat := 0x101014 + b * 0x10000 + j * 0x20
def PORT_LANE_CALAGE (b j : Nat) : Nat := 0x101018 + b * 0x10000 + j * 0x20
def PORT_LANE_SPLIT (b j : Nat) : Nat := 0x10101C + b * 0x10000 + j * 0x20
def PORT_TS_RX_LAST_LO (b : Nat) : Nat := 0x101100 + b * 0x10000
def PORT_TS_RX_LAST_HI (b : Nat) : Nat := 0x101104 + b * 0x10000
def PORT_TS_TX_LAST_LO (b : Nat) : Nat := 0x101108 + b * 0x10000
def PORT_TS_TX_LAST_HI (b : Nat) : Nat := 0x10110C + b * 0x10000
def PORT_TS_TX_ERR (b : Nat) : Nat := 0x101110 + b * 0x10000
def PORT_MCAST_LO (b e : Nat) : Nat := 0x101200 + b * 0x10000 + e * 0x8
def PORT_MCAST_HI (b e : Nat) : Nat := 0x101204 + b * 0x10000 + e * 0x8

def PORT_STATUS_mode (b : Nat) : Fld := ⟨(PORT_STATUS b), 0, 3⟩
def PORT_STATUS_fec (b : Nat) : Fld := ⟨(PORT_STATUS b), 3, 1⟩
def PORT_STATUS_two_sub (b : Nat) : Fld := ⟨(PORT_STATUS b), 4, 1⟩
def PORT_STATUS_first_lane (b : Nat) : Fld := ⟨(PORT_STATUS b), 5, 4⟩
def PORT_STATUS_calibrated (b : Nat) : Fld := ⟨(PORT_STATUS b), 9, 1⟩
def PORT_STATUS_fenced (b : Nat) : Fld := ⟨(PORT_STATUS b), 10, 1⟩
def PORT_CMD_lat_cal (b : Nat) : Fld := ⟨(PORT_CMD b), 0, 1⟩
def PORT_CMD_restart (b : Nat) : Fld := ⟨(PORT_CMD b), 1, 2⟩
def PORT_CMD_readmit (b : Nat) : Fld := ⟨(PORT_CMD b), 3, 1⟩
def PORT_RESULT_cause (b : Nat) : Fld := ⟨(PORT_RESULT b), 0, 8⟩
def PORT_MAX_FRAME_m (b : Nat) : Fld := ⟨(PORT_MAX_FRAME b), 0, 14⟩
def PORT_BUF_QUOTA_buffers (b : Nat) : Fld := ⟨(PORT_BUF_QUOTA b), 0, 16⟩
def PORT_BUF_RX_buffers (b : Nat) : Fld := ⟨(PORT_BUF_RX b), 0, 16⟩
def PORT_CAL_PERIOD_s (b : Nat) : Fld := ⟨(PORT_CAL_PERIOD b), 0, 16⟩
def PORT_TS_TOL_units (b : Nat) : Fld := ⟨(PORT_TS_TOL b), 0, 16⟩
def PORT_SUB_STATUS_link (b s : Nat) : Fld := ⟨(PORT_SUB_STATUS b s), 0, 3⟩
def PORT_SUB_STATUS_pred_valid (b s : Nat) : Fld := ⟨(PORT_SUB_STATUS b s), 3, 1⟩
def PORT_SUB_STATUS_an_done (b s : Nat) : Fld := ⟨(PORT_SUB_STATUS b s), 4, 1⟩
def PORT_MAC_HI_addr (b s : Nat) : Fld := ⟨(PORT_MAC_HI b s), 0, 16⟩
def PORT_RX_CTL_accept_bcast (b s : Nat) : Fld := ⟨(PORT_RX_CTL b s), 0, 1⟩
def PORT_RX_CTL_ptp_l2 (b s : Nat) : Fld := ⟨(PORT_RX_CTL b s), 1, 1⟩
def PORT_RX_CTL_ptp_ipv4 (b s : Nat) : Fld := ⟨(PORT_RX_CTL b s), 2, 1⟩
def PORT_RX_CTL_ptp_ipv6 (b s : Nat) : Fld := ⟨(PORT_RX_CTL b s), 3, 1⟩
def PORT_RX_CTL_vlan_en (b s : Nat) : Fld := ⟨(PORT_RX_CTL b s), 4, 1⟩
def PORT_RX_CTL_untagged_ok (b s : Nat) : Fld := ⟨(PORT_RX_CTL b s), 5, 1⟩
def PORT_VLAN_vid_a (b s v : Nat) : Fld := ⟨(PORT_VLAN b s v), 0, 12⟩
def PORT_VLAN_valid_a (b s v : Nat) : Fld := ⟨(PORT_VLAN b s v), 15, 1⟩
def PORT_VLAN_vid_b (b s v : Nat) : Fld := ⟨(PORT_VLAN b s v), 16, 12⟩
def PORT_VLAN_valid_b (b s v : Nat) : Fld := ⟨(PORT_VLAN b s v), 31, 1⟩
def PORT_LANE_DLY_RX_dly (b j : Nat) : Fld := ⟨(PORT_LANE_DLY_RX b j), 0, 24⟩
def PORT_LANE_DLY_TX_dly (b j : Nat) : Fld := ⟨(PORT_LANE_DLY_TX b j), 0, 24⟩
def PORT_LANE_SLIP_slip (b j : Nat) : Fld := ⟨(PORT_LANE_SLIP b j), 0, 7⟩
def PORT_LANE_SPLIT_sigma (b j : Nat) : Fld := ⟨(PORT_LANE_SPLIT b j), 0, 16⟩
def PORT_MCAST_HI_addr (b e : Nat) : Fld := ⟨(PORT_MCAST_HI b e), 0, 16⟩
def PORT_MCAST_HI_sub (b e : Nat) : Fld := ⟨(PORT_MCAST_HI b e), 16, 1⟩
def PORT_MCAST_HI_valid (b e : Nat) : Fld := ⟨(PORT_MCAST_HI b e), 31, 1⟩

/-! ### DSG, spec/11_drive_segment.md -/

def DSG_STATUS : Nat := 0x180000
def DSG_CFG : Nat := 0x180004
def DSG_PLCA_TIMER : Nat := 0x180008
def DSG_BCN_PERIOD : Nat := 0x18000C
def DSG_TO_LEDGER : Nat := 0x180010
def DSG_RX_MAC_LO : Nat := 0x180014
def DSG_RX_MAC_HI : Nat := 0x180018
def DSG_RX_CTL : Nat := 0x18001C
def DSG_DS_ETYPE : Nat := 0x180020
def DSG_DS_SRC_OFS : Nat := 0x180024
def DSG_GPTP : Nat := 0x180028
def DSG_LATE_TOL : Nat := 0x18002C
def DSG_BUF_QUOTA : Nat := 0x180030
def DSG_BUF_RX : Nat := 0x180034
def DSG_BCN_RX_LO : Nat := 0x180038
def DSG_BCN_RX_HI : Nat := 0x18003C
def DSG_STAT_HALF : Nat := 0x180040
def DSG_CNT (i : Nat) : Nat := 0x180100 + i * 0x4
def DSG_CNT_SNAP (i : Nat) : Nat := 0x180180 + i * 0x4
def DSG_Q_SEL : Nat := 0x180200
def DSG_Q_LEN : Nat := 0x180204
def DSG_Q_DATA : Nat := 0x180208
def DSG_Q_CTL : Nat := 0x18020C
def DSG_Q_TGT_LO : Nat := 0x180210
def DSG_Q_TGT_HI : Nat := 0x180214
def DSG_Q_STATUS : Nat := 0x180218
def DSG_Q_TX_LO : Nat := 0x18021C
def DSG_Q_TX_HI : Nat := 0x180220
def DSG_LAT_TX : Nat := 0x181000
def DSG_LAT_RX : Nat := 0x181004
def DSG_SPLIT : Nat := 0x181008
def DSG_BOARD_TX : Nat := 0x18100C
def DSG_BOARD_RX : Nat := 0x181010
def DSG_CAL_SEQ : Nat := 0x181014
def DSG_CAL_PERIOD : Nat := 0x181018
def DSG_ECHO_MEAN : Nat := 0x18101C
def DSG_LW_CLASS : Nat := 0x181020
def DSG_LW_LIMIT_LO : Nat := 0x181024
def DSG_LW_LIMIT_HI : Nat := 0x181028
def DSG_LW_TPL (w : Nat) : Nat := 0x181100 + w * 0x4

def DSG_STATUS_link : Fld := ⟨DSG_STATUS, 0, 3⟩
def DSG_STATUS_locked : Fld := ⟨DSG_STATUS, 3, 1⟩
def DSG_STATUS_realigning : Fld := ⟨DSG_STATUS, 4, 1⟩
def DSG_STATUS_coordinator : Fld := ⟨DSG_STATUS, 5, 1⟩
def DSG_STATUS_lw_src : Fld := ⟨DSG_STATUS, 6, 1⟩
def DSG_STATUS_calibrated : Fld := ⟨DSG_STATUS, 7, 1⟩
def DSG_STATUS_lw_tx : Fld := ⟨DSG_STATUS, 8, 1⟩
def DSG_STATUS_cause : Fld := ⟨DSG_STATUS, 9, 3⟩
def DSG_CFG_mode : Fld := ⟨DSG_CFG, 0, 2⟩
def DSG_CFG_bcn_lock : Fld := ⟨DSG_CFG, 2, 1⟩
def DSG_CFG_dup_en : Fld := ⟨DSG_CFG, 3, 1⟩
def DSG_CFG_gptp_en : Fld := ⟨DSG_CFG, 4, 1⟩
def DSG_CFG_lw_keep : Fld := ⟨DSG_CFG, 5, 1⟩
def DSG_CFG_twin_role : Fld := ⟨DSG_CFG, 6, 1⟩
def DSG_CFG_bound_tlv : Fld := ⟨DSG_CFG, 7, 1⟩
def DSG_CFG_node_id : Fld := ⟨DSG_CFG, 8, 8⟩
def DSG_CFG_node_count : Fld := ⟨DSG_CFG, 16, 8⟩
def DSG_PLCA_TIMER_to_timer : Fld := ⟨DSG_PLCA_TIMER, 0, 8⟩
def DSG_PLCA_TIMER_max_burst : Fld := ⟨DSG_PLCA_TIMER, 8, 8⟩
def DSG_PLCA_TIMER_burst_timer : Fld := ⟨DSG_PLCA_TIMER, 16, 8⟩
def DSG_BCN_PERIOD_period : Fld := ⟨DSG_BCN_PERIOD, 0, 13⟩
def DSG_TO_LEDGER_remaining : Fld := ⟨DSG_TO_LEDGER, 0, 8⟩
def DSG_TO_LEDGER_own : Fld := ⟨DSG_TO_LEDGER, 8, 8⟩
def DSG_TO_LEDGER_other : Fld := ⟨DSG_TO_LEDGER, 16, 8⟩
def DSG_TO_LEDGER_silent : Fld := ⟨DSG_TO_LEDGER, 24, 8⟩
def DSG_RX_MAC_HI_addr : Fld := ⟨DSG_RX_MAC_HI, 0, 16⟩
def DSG_RX_CTL_accept_bcast : Fld := ⟨DSG_RX_CTL, 0, 1⟩
def DSG_RX_CTL_ptp_l2 : Fld := ⟨DSG_RX_CTL, 1, 1⟩
def DSG_RX_CTL_vlan_en : Fld := ⟨DSG_RX_CTL, 4, 1⟩
def DSG_RX_CTL_untagged_ok : Fld := ⟨DSG_RX_CTL, 5, 1⟩
def DSG_DS_ETYPE_etype : Fld := ⟨DSG_DS_ETYPE, 0, 16⟩
def DSG_DS_SRC_OFS_ofs : Fld := ⟨DSG_DS_SRC_OFS, 0, 11⟩
def DSG_GPTP_domain : Fld := ⟨DSG_GPTP, 0, 7⟩
def DSG_GPTP_logSync : Fld := ⟨DSG_GPTP, 8, 3⟩
def DSG_GPTP_logAnnounce : Fld := ⟨DSG_GPTP, 12, 2⟩
def DSG_LATE_TOL_ns : Fld := ⟨DSG_LATE_TOL, 0, 24⟩
def DSG_BUF_QUOTA_buffers : Fld := ⟨DSG_BUF_QUOTA, 0, 16⟩
def DSG_BUF_RX_buffers : Fld := ⟨DSG_BUF_RX, 0, 16⟩
def DSG_STAT_HALF_half : Fld := ⟨DSG_STAT_HALF, 0, 20⟩
def DSG_Q_SEL_entry : Fld := ⟨DSG_Q_SEL, 0, 4⟩
def DSG_Q_LEN_bytes : Fld := ⟨DSG_Q_LEN, 0, 11⟩
def DSG_Q_CTL_ts_fmt : Fld := ⟨DSG_Q_CTL, 0, 2⟩
def DSG_Q_CTL_ts_ofs : Fld := ⟨DSG_Q_CTL, 2, 11⟩
def DSG_Q_CTL_drop_late : Fld := ⟨DSG_Q_CTL, 13, 1⟩
def DSG_Q_CTL_dual : Fld := ⟨DSG_Q_CTL, 14, 1⟩
def DSG_Q_STATUS_state : Fld := ⟨DSG_Q_STATUS, 0, 2⟩
def DSG_Q_STATUS_result : Fld := ⟨DSG_Q_STATUS, 2, 3⟩
def DSG_Q_STATUS_by_step : Fld := ⟨DSG_Q_STATUS, 5, 1⟩
def DSG_Q_STATUS_late_ns : Fld := ⟨DSG_Q_STATUS, 8, 24⟩
def DSG_SPLIT_sigma : Fld := ⟨DSG_SPLIT, 0, 16⟩
def DSG_CAL_PERIOD_s : Fld := ⟨DSG_CAL_PERIOD, 0, 16⟩
def DSG_LW_CLASS_in : Fld := ⟨DSG_LW_CLASS, 0, 8⟩
def DSG_LW_CLASS_out : Fld := ⟨DSG_LW_CLASS, 8, 8⟩
def DSG_LW_LIMIT_HI_ps : Fld := ⟨DSG_LW_LIMIT_HI, 0, 16⟩

end Sys2Proof.Machine
end

