-- ==== Sys2Proof/Machine/RegAddrC.lean ====
section
/-! DEFINITION. The BAR0 addresses of the registers of blocks SVC, KEY, TWN, CTL and the places of their fields,
written from the register tables at the end of spec chapters 12, 13, 14, 15 and the block bases of R11.
A register array is a function of its index; a field is a register address, its lowest bit and its width. -/

namespace Sys2Proof.Machine

open Sys2Proof

/-! ### SVC, spec/12_time_service.md -/

def SVC_STATUS : Nat := 0x190000
def SVC_CTL : Nat := 0x190004
def SVC_RESULT : Nat := 0x190008
def SVC_LEAP_PTP : Nat := 0x190010
def SVC_LEAP_NTP : Nat := 0x190014
def SVC_NTP_CFG : Nat := 0x190018
def SVC_CRY_WAIT : Nat := 0x19001C
def SVC_WEIR_NTP : Nat := 0x190020
def SVC_WEIR_PTP : Nat := 0x190024
def SVC_WEIR_CFG : Nat := 0x190028
def SVC_KOD_RATE : Nat := 0x19002C
def SVC_LAUNCH_MAX : Nat := 0x190030
def SVC_HOSTQ_QUOTA : Nat := 0x190034
def SVC_ICMP_RATE : Nat := 0x190038
def SVC_REFID (k : Nat) : Nat := 0x190040 + k * 0x4
def SVC_TSRC (k : Nat) : Nat := 0x190060 + k * 0x4
def SVC_CLOCK_ID_LO : Nat := 0x190080
def SVC_CLOCK_ID_HI : Nat := 0x190084
def SVC_STAT_HALF_LO : Nat := 0x190090
def SVC_STAT_HALF_HI : Nat := 0x190094
def SVC_IP_ADDR (e w : Nat) : Nat := 0x190100 + e * 0x20 + w * 0x4
def SVC_IP_CFG (e : Nat) : Nat := 0x190110 + e * 0x20
def SVC_MC_CFG (i : Nat) : Nat := 0x190400 + i * 0x20
def SVC_MC_RATE (i : Nat) : Nat := 0x190404 + i * 0x20
def SVC_MC_PRIO (i : Nat) : Nat := 0x190408 + i * 0x20
def SVC_MC_SEQ (i : Nat) : Nat := 0x19040C + i * 0x20
def SVC_MC_KEYID (i : Nat) : Nat := 0x190410 + i * 0x20
def SVC_UC_CFG (u : Nat) : Nat := 0x190800 + u * 0x20
def SVC_UC_BASE (u : Nat) : Nat := 0x190804 + u * 0x20
def SVC_UC_SIZE (u : Nat) : Nat := 0x190808 + u * 0x20
def SVC_UC_LIM (u : Nat) : Nat := 0x19080C + u * 0x20
def SVC_UC_DUR (u : Nat) : Nat := 0x190810 + u * 0x20
def SVC_UC_COUNT (u : Nat) : Nat := 0x190814 + u * 0x20
def SVC_UC_PORT7 (u : Nat) : Nat := 0x190818 + u * 0x20
def SVC_ESMC (n s : Nat) : Nat := 0x190A00 + n * 0x8 + s * 0x4
def SVC_UP (e : Nat) : Nat := 0x190A80 + e * 0x8
def SVC_CNT (i : Nat) : Nat := 0x190C00 + i * 0x4
def SVC_CNT_SNAP (i : Nat) : Nat := 0x190D00 + i * 0x4
def SVC_BUF_PIPE : Nat := 0x190E00
def SVC_BUF_TX : Nat := 0x190E04
def SVC_BUF_HOSTQ : Nat := 0x190E08
def SVC_BUF_FREE : Nat := 0x190E0C
def SVC_WEIR_HELD_LO : Nat := 0x190E20
def SVC_WEIR_HELD_HI : Nat := 0x190E24
def SVC_WEIR_ISSUED_LO : Nat := 0x190E28
def SVC_WEIR_ISSUED_HI : Nat := 0x190E2C
def SVC_WEIR_USED_LO : Nat := 0x190E30
def SVC_WEIR_USED_HI : Nat := 0x190E34
def SVC_WEIR_OVER_LO : Nat := 0x190E38
def SVC_WEIR_OVER_HI : Nat := 0x190E3C
def SVC_WEIR_CONST_LO : Nat := 0x190E40
def SVC_WEIR_CONST_HI : Nat := 0x190E44
def SVC_SESS_SEL : Nat := 0x191000
def SVC_SESS_W (w : Nat) : Nat := 0x191004 + w * 0x4
def SVC_WHEEL_STAT : Nat := 0x191040
def SVC_PIPE_STAT (p : Nat) : Nat := 0x191050 + p * 0x4
def SVC_NH_SEL : Nat := 0x191060
def SVC_NH_MAC_LO : Nat := 0x191064
def SVC_NH_MAC_HI : Nat := 0x191068

def SVC_STATUS_serving : Fld := ⟨SVC_STATUS, 0, 1⟩
def SVC_STATUS_time_valid : Fld := ⟨SVC_STATUS, 1, 1⟩
def SVC_STATUS_twin_mode : Fld := ⟨SVC_STATUS, 2, 2⟩
def SVC_STATUS_speaking : Fld := ⟨SVC_STATUS, 4, 1⟩
def SVC_STATUS_leap_ptp : Fld := ⟨SVC_STATUS, 5, 1⟩
def SVC_STATUS_leap_ntp : Fld := ⟨SVC_STATUS, 6, 1⟩
def SVC_STATUS_split : Fld := ⟨SVC_STATUS, 8, 8⟩
def SVC_STATUS_class : Fld := ⟨SVC_STATUS, 24, 8⟩
def SVC_CTL_nts_en : Fld := ⟨SVC_CTL, 0, 1⟩
def SVC_CTL_ptp_en : Fld := ⟨SVC_CTL, 1, 1⟩
def SVC_CTL_hostq_en : Fld := ⟨SVC_CTL, 2, 1⟩
def SVC_RESULT_cause : Fld := ⟨SVC_RESULT, 0, 8⟩
def SVC_NTP_CFG_precision : Fld := ⟨SVC_NTP_CFG, 0, 8⟩
def SVC_NTP_CFG_kod_poll : Fld := ⟨SVC_NTP_CFG, 8, 8⟩
def SVC_CRY_WAIT_us : Fld := ⟨SVC_CRY_WAIT, 0, 16⟩
def SVC_WEIR_NTP_rate : Fld := ⟨SVC_WEIR_NTP, 0, 16⟩
def SVC_WEIR_NTP_depth : Fld := ⟨SVC_WEIR_NTP, 16, 16⟩
def SVC_WEIR_PTP_rate : Fld := ⟨SVC_WEIR_PTP, 0, 16⟩
def SVC_WEIR_PTP_depth : Fld := ⟨SVC_WEIR_PTP, 16, 16⟩
def SVC_WEIR_CFG_v6_64 : Fld := ⟨SVC_WEIR_CFG, 0, 1⟩
def SVC_KOD_RATE_per_s : Fld := ⟨SVC_KOD_RATE, 0, 24⟩
def SVC_LAUNCH_MAX_ms : Fld := ⟨SVC_LAUNCH_MAX, 0, 16⟩
def SVC_HOSTQ_QUOTA_buffers : Fld := ⟨SVC_HOSTQ_QUOTA, 0, 16⟩
def SVC_ICMP_RATE_per_s : Fld := ⟨SVC_ICMP_RATE, 0, 16⟩
def SVC_TSRC_src (k : Nat) : Fld := ⟨(SVC_TSRC k), 0, 8⟩
def SVC_IP_CFG_valid (e : Nat) : Fld := ⟨(SVC_IP_CFG e), 0, 1⟩
def SVC_IP_CFG_ipv6 (e : Nat) : Fld := ⟨(SVC_IP_CFG e), 1, 1⟩
def SVC_IP_CFG_nts (e : Nat) : Fld := ⟨(SVC_IP_CFG e), 2, 1⟩
def SVC_IP_CFG_ptp (e : Nat) : Fld := ⟨(SVC_IP_CFG e), 3, 1⟩
def SVC_IP_CFG_ping (e : Nat) : Fld := ⟨(SVC_IP_CFG e), 4, 1⟩
def SVC_IP_CFG_ports (e : Nat) : Fld := ⟨(SVC_IP_CFG e), 8, 8⟩
def SVC_IP_CFG_dscp (e : Nat) : Fld := ⟨(SVC_IP_CFG e), 16, 6⟩
def SVC_MC_CFG_en (i : Nat) : Fld := ⟨(SVC_MC_CFG i), 0, 1⟩
def SVC_MC_CFG_port (i : Nat) : Fld := ⟨(SVC_MC_CFG i), 1, 3⟩
def SVC_MC_CFG_sub (i : Nat) : Fld := ⟨(SVC_MC_CFG i), 4, 1⟩
def SVC_MC_CFG_transport (i : Nat) : Fld := ⟨(SVC_MC_CFG i), 5, 2⟩
def SVC_MC_CFG_two_step (i : Nat) : Fld := ⟨(SVC_MC_CFG i), 7, 1⟩
def SVC_MC_CFG_domain (i : Nat) : Fld := ⟨(SVC_MC_CFG i), 8, 8⟩
def SVC_MC_CFG_profile (i : Nat) : Fld := ⟨(SVC_MC_CFG i), 16, 3⟩
def SVC_MC_CFG_bound_msgs (i : Nat) : Fld := ⟨(SVC_MC_CFG i), 19, 4⟩
def SVC_MC_CFG_auth_req (i : Nat) : Fld := ⟨(SVC_MC_CFG i), 23, 1⟩
def SVC_MC_RATE_logSync (i : Nat) : Fld := ⟨(SVC_MC_RATE i), 0, 8⟩
def SVC_MC_RATE_logAnnounce (i : Nat) : Fld := ⟨(SVC_MC_RATE i), 8, 8⟩
def SVC_MC_RATE_logMinDelayReq (i : Nat) : Fld := ⟨(SVC_MC_RATE i), 16, 8⟩
def SVC_MC_RATE_logL1Sync (i : Nat) : Fld := ⟨(SVC_MC_RATE i), 24, 4⟩
def SVC_MC_PRIO_priority1 (i : Nat) : Fld := ⟨(SVC_MC_PRIO i), 0, 8⟩
def SVC_MC_PRIO_priority2 (i : Nat) : Fld := ⟨(SVC_MC_PRIO i), 8, 8⟩
def SVC_MC_PRIO_spp (i : Nat) : Fld := ⟨(SVC_MC_PRIO i), 16, 8⟩
def SVC_MC_SEQ_sync (i : Nat) : Fld := ⟨(SVC_MC_SEQ i), 0, 16⟩
def SVC_MC_SEQ_announce (i : Nat) : Fld := ⟨(SVC_MC_SEQ i), 16, 16⟩
def SVC_UC_CFG_en (u : Nat) : Fld := ⟨(SVC_UC_CFG u), 0, 1⟩
def SVC_UC_CFG_ports (u : Nat) : Fld := ⟨(SVC_UC_CFG u), 1, 7⟩
def SVC_UC_CFG_domain (u : Nat) : Fld := ⟨(SVC_UC_CFG u), 8, 8⟩
def SVC_UC_CFG_profile (u : Nat) : Fld := ⟨(SVC_UC_CFG u), 16, 3⟩
def SVC_UC_CFG_bound_msgs (u : Nat) : Fld := ⟨(SVC_UC_CFG u), 19, 4⟩
def SVC_UC_CFG_auth_req (u : Nat) : Fld := ⟨(SVC_UC_CFG u), 23, 1⟩
def SVC_UC_CFG_one_step_ok (u : Nat) : Fld := ⟨(SVC_UC_CFG u), 24, 1⟩
def SVC_UC_BASE_base (u : Nat) : Fld := ⟨(SVC_UC_BASE u), 0, 18⟩
def SVC_UC_SIZE_size (u : Nat) : Fld := ⟨(SVC_UC_SIZE u), 0, 19⟩
def SVC_UC_LIM_logSync (u : Nat) : Fld := ⟨(SVC_UC_LIM u), 0, 8⟩
def SVC_UC_LIM_logDelay (u : Nat) : Fld := ⟨(SVC_UC_LIM u), 8, 8⟩
def SVC_UC_LIM_logAnnounce (u : Nat) : Fld := ⟨(SVC_UC_LIM u), 16, 8⟩
def SVC_UC_DUR_max (u : Nat) : Fld := ⟨(SVC_UC_DUR u), 0, 16⟩
def SVC_UC_DUR_min (u : Nat) : Fld := ⟨(SVC_UC_DUR u), 16, 16⟩
def SVC_UC_COUNT_sessions (u : Nat) : Fld := ⟨(SVC_UC_COUNT u), 0, 19⟩
def SVC_UC_PORT7_port7 (u : Nat) : Fld := ⟨(SVC_UC_PORT7 u), 0, 1⟩
def SVC_ESMC_en (n s : Nat) : Fld := ⟨(SVC_ESMC n s), 0, 1⟩
def SVC_ESMC_ssm (n s : Nat) : Fld := ⟨(SVC_ESMC n s), 4, 4⟩
def SVC_UP_en (e : Nat) : Fld := ⟨(SVC_UP e), 0, 1⟩
def SVC_UP_port (e : Nat) : Fld := ⟨(SVC_UP e), 1, 3⟩
def SVC_UP_sub (e : Nat) : Fld := ⟨(SVC_UP e), 4, 1⟩
def SVC_UP_transport (e : Nat) : Fld := ⟨(SVC_UP e), 5, 2⟩
def SVC_UP_domain (e : Nat) : Fld := ⟨(SVC_UP e), 8, 8⟩
def SVC_BUF_PIPE_buffers : Fld := ⟨SVC_BUF_PIPE, 0, 17⟩
def SVC_BUF_TX_buffers : Fld := ⟨SVC_BUF_TX, 0, 17⟩
def SVC_BUF_HOSTQ_buffers : Fld := ⟨SVC_BUF_HOSTQ, 0, 17⟩
def SVC_BUF_FREE_buffers : Fld := ⟨SVC_BUF_FREE, 0, 17⟩
def SVC_SESS_SEL_index : Fld := ⟨SVC_SESS_SEL, 0, 18⟩
def SVC_WHEEL_STAT_backlog_max : Fld := ⟨SVC_WHEEL_STAT, 0, 16⟩
def SVC_WHEEL_STAT_slot : Fld := ⟨SVC_WHEEL_STAT, 16, 16⟩
def SVC_PIPE_STAT_queue (p : Nat) : Fld := ⟨(SVC_PIPE_STAT p), 0, 9⟩
def SVC_PIPE_STAT_mops (p : Nat) : Fld := ⟨(SVC_PIPE_STAT p), 16, 16⟩
def SVC_NH_SEL_index : Fld := ⟨SVC_NH_SEL, 0, 12⟩
def SVC_NH_MAC_HI_mac : Fld := ⟨SVC_NH_MAC_HI, 0, 16⟩
def SVC_NH_MAC_HI_valid : Fld := ⟨SVC_NH_MAC_HI, 31, 1⟩

/-! ### KEY, spec/13_keys_crypto.md -/

def KEY_STATUS : Nat := 0x1A0000
def KEY_CMD : Nat := 0x1A0004
def KEY_RESULT : Nat := 0x1A0008
def KEY_DLV_STATUS : Nat := 0x1A000C
def KEY_DLV_CTR : Nat := 0x1A0010
def KEY_LAYOUT_INFO : Nat := 0x1A0014
def KEY_NTS_CUR : Nat := 0x1A0018
def KEY_NTS_GRACE : Nat := 0x1A001C
def KEY_SA_GAP : Nat := 0x1A0020
def KEY_RWP_REFUSED : Nat := 0x1A0024
def KEY_SEAL : Nat := 0x1A0030
def KEY_PRESENCE : Nat := 0x1A0034
def KEY_DEBUG : Nat := 0x1A0038
def KEY_DIGEST (w : Nat) : Nat := 0x1A0040 + w * 0x4
def KEY_NTS_ID (n : Nat) : Nat := 0x1A0100 + n * 0x20
def KEY_NTS_STATE (n : Nat) : Nat := 0x1A0104 + n * 0x20
def KEY_NTS_ACT_LO (n : Nat) : Nat := 0x1A0108 + n * 0x20
def KEY_NTS_ACT_HI (n : Nat) : Nat := 0x1A010C + n * 0x20
def KEY_NTS_END_LO (n : Nat) : Nat := 0x1A0110 + n * 0x20
def KEY_NTS_END_HI (n : Nat) : Nat := 0x1A0114 + n * 0x20
def KEY_SA_SEL : Nat := 0x1A0400
def KEY_SA_INFO : Nat := 0x1A0404
def KEY_SA_KEYID : Nat := 0x1A0408
def KEY_SA_SEQ : Nat := 0x1A040C
def KEY_SA_ACT_LO : Nat := 0x1A0410
def KEY_SA_ACT_HI : Nat := 0x1A0414
def KEY_SA_END_LO : Nat := 0x1A0418
def KEY_SA_END_HI : Nat := 0x1A041C
def KEY_OSN_STATE (o : Nat) : Nat := 0x1A0500 + o * 0x8
def KEY_OSN_ID (o : Nat) : Nat := 0x1A0504 + o * 0x8
def KEY_FUSE_STATUS : Nat := 0x1A0600
def KEY_FUSE_DATA (w : Nat) : Nat := 0x1A0610 + w * 0x4
def KEY_FUSE_CMD : Nat := 0x1A0630
def KEY_FUSE_HASH (s w : Nat) : Nat := 0x1A0640 + s * 0x20 + w * 0x4
def KEY_CNT (i : Nat) : Nat := 0x1A0700 + i * 0x4
def KEY_CRD_AES_FREE : Nat := 0x1A1000
def KEY_CRD_AES_PIPE0 : Nat := 0x1A1004
def KEY_CRD_AES_PIPE1 : Nat := 0x1A1008
def KEY_CRD_AES_PIPE2 : Nat := 0x1A100C
def KEY_CRD_AES_PIPE3 : Nat := 0x1A1010
def KEY_CRD_AES_FW : Nat := 0x1A1014
def KEY_CRD_AES_FENCED : Nat := 0x1A1018
def KEY_CRD_SHA_FREE : Nat := 0x1A1020
def KEY_CRD_SHA_PIPE0 : Nat := 0x1A1024
def KEY_CRD_SHA_PIPE1 : Nat := 0x1A1028
def KEY_CRD_SHA_PIPE2 : Nat := 0x1A102C
def KEY_CRD_SHA_PIPE3 : Nat := 0x1A1030
def KEY_CRD_SHA_FW : Nat := 0x1A1034
def KEY_CRD_SHA_FENCED : Nat := 0x1A1038
def KEY_CRD_SNAP (w : Nat) : Nat := 0x1A1040 + w * 0x4
def KEY_CRD_RSV : Nat := 0x1A1080
def KEY_ENG_FENCED : Nat := 0x1A1084
def KEY_ENG_CMD : Nat := 0x1A1088
def KEY_RNG_CTL : Nat := 0x1A1090
def KEY_OSN_SEL : Nat := 0x1A1200
def KEY_OSN_DATA : Nat := 0x1A1204

def KEY_STATUS_window : Fld := ⟨KEY_STATUS, 0, 1⟩
def KEY_STATUS_seal : Fld := ⟨KEY_STATUS, 1, 1⟩
def KEY_STATUS_opened : Fld := ⟨KEY_STATUS, 2, 1⟩
def KEY_STATUS_zeroized : Fld := ⟨KEY_STATUS, 3, 1⟩
def KEY_STATUS_debug : Fld := ⟨KEY_STATUS, 4, 1⟩
def KEY_STATUS_rng_ok : Fld := ⟨KEY_STATUS, 5, 1⟩
def KEY_STATUS_kek_v : Fld := ⟨KEY_STATUS, 6, 1⟩
def KEY_STATUS_kek_f : Fld := ⟨KEY_STATUS, 7, 1⟩
def KEY_STATUS_time_gate : Fld := ⟨KEY_STATUS, 8, 1⟩
def KEY_STATUS_window_left : Fld := ⟨KEY_STATUS, 16, 8⟩
def KEY_CMD_close : Fld := ⟨KEY_CMD, 0, 1⟩
def KEY_CMD_zeroize : Fld := ⟨KEY_CMD, 1, 1⟩
def KEY_CMD_erase : Fld := ⟨KEY_CMD, 2, 1⟩
def KEY_CMD_kind : Fld := ⟨KEY_CMD, 3, 2⟩
def KEY_CMD_slot : Fld := ⟨KEY_CMD, 5, 10⟩
def KEY_CMD_clear_opened : Fld := ⟨KEY_CMD, 16, 1⟩
def KEY_RESULT_cause : Fld := ⟨KEY_RESULT, 0, 8⟩
def KEY_RESULT_command : Fld := ⟨KEY_RESULT, 8, 4⟩
def KEY_DLV_STATUS_state : Fld := ⟨KEY_DLV_STATUS, 0, 2⟩
def KEY_DLV_STATUS_type : Fld := ⟨KEY_DLV_STATUS, 2, 5⟩
def KEY_DLV_STATUS_cause : Fld := ⟨KEY_DLV_STATUS, 8, 8⟩
def KEY_DLV_STATUS_slot : Fld := ⟨KEY_DLV_STATUS, 16, 10⟩
def KEY_LAYOUT_INFO_nts : Fld := ⟨KEY_LAYOUT_INFO, 0, 5⟩
def KEY_LAYOUT_INFO_sa : Fld := ⟨KEY_LAYOUT_INFO, 5, 11⟩
def KEY_LAYOUT_INFO_seal_en : Fld := ⟨KEY_LAYOUT_INFO, 16, 1⟩
def KEY_LAYOUT_INFO_zeroize : Fld := ⟨KEY_LAYOUT_INFO, 17, 2⟩
def KEY_NTS_CUR_slot : Fld := ⟨KEY_NTS_CUR, 0, 4⟩
def KEY_NTS_CUR_valid : Fld := ⟨KEY_NTS_CUR, 4, 1⟩
def KEY_RWP_REFUSED_count : Fld := ⟨KEY_RWP_REFUSED, 0, 16⟩
def KEY_RWP_REFUSED_block : Fld := ⟨KEY_RWP_REFUSED, 16, 5⟩
def KEY_RWP_REFUSED_requester : Fld := ⟨KEY_RWP_REFUSED, 21, 3⟩
def KEY_SEAL_state : Fld := ⟨KEY_SEAL, 0, 1⟩
def KEY_SEAL_opens : Fld := ⟨KEY_SEAL, 16, 16⟩
def KEY_PRESENCE_ms_left : Fld := ⟨KEY_PRESENCE, 0, 16⟩
def KEY_PRESENCE_opens : Fld := ⟨KEY_PRESENCE, 16, 16⟩
def KEY_DEBUG_unlock : Fld := ⟨KEY_DEBUG, 0, 1⟩
def KEY_NTS_STATE_state (n : Nat) : Fld := ⟨(KEY_NTS_STATE n), 0, 3⟩
def KEY_NTS_ACT_HI_s (n : Nat) : Fld := ⟨(KEY_NTS_ACT_HI n), 0, 16⟩
def KEY_NTS_END_HI_s (n : Nat) : Fld := ⟨(KEY_NTS_END_HI n), 0, 16⟩
def KEY_SA_SEL_index : Fld := ⟨KEY_SA_SEL, 0, 10⟩
def KEY_SA_INFO_spp : Fld := ⟨KEY_SA_INFO, 0, 8⟩
def KEY_SA_INFO_method : Fld := ⟨KEY_SA_INFO, 8, 8⟩
def KEY_SA_INFO_tx : Fld := ⟨KEY_SA_INFO, 16, 1⟩
def KEY_SA_INFO_rx : Fld := ⟨KEY_SA_INFO, 17, 1⟩
def KEY_SA_INFO_state : Fld := ⟨KEY_SA_INFO, 18, 2⟩
def KEY_SA_INFO_exhausted : Fld := ⟨KEY_SA_INFO, 20, 1⟩
def KEY_SA_INFO_key256 : Fld := ⟨KEY_SA_INFO, 21, 1⟩
def KEY_SA_ACT_HI_s : Fld := ⟨KEY_SA_ACT_HI, 0, 16⟩
def KEY_SA_END_HI_s : Fld := ⟨KEY_SA_END_HI, 0, 16⟩
def KEY_OSN_STATE_state (o : Nat) : Fld := ⟨(KEY_OSN_STATE o), 0, 2⟩
def KEY_OSN_STATE_kind (o : Nat) : Fld := ⟨(KEY_OSN_STATE o), 2, 2⟩
def KEY_FUSE_STATUS_word40 : Fld := ⟨KEY_FUSE_STATUS, 0, 15⟩
def KEY_FUSE_STATUS_busy : Fld := ⟨KEY_FUSE_STATUS, 15, 1⟩
def KEY_FUSE_CMD_program_hash : Fld := ⟨KEY_FUSE_CMD, 0, 1⟩
def KEY_FUSE_CMD_revoke_hash : Fld := ⟨KEY_FUSE_CMD, 1, 1⟩
def KEY_FUSE_CMD_program_kek : Fld := ⟨KEY_FUSE_CMD, 2, 1⟩
def KEY_FUSE_CMD_revoke_kek : Fld := ⟨KEY_FUSE_CMD, 3, 1⟩
def KEY_FUSE_CMD_disable_debug : Fld := ⟨KEY_FUSE_CMD, 4, 1⟩
def KEY_FUSE_CMD_slot : Fld := ⟨KEY_FUSE_CMD, 6, 2⟩
def KEY_CRD_AES_FREE_credits : Fld := ⟨KEY_CRD_AES_FREE, 0, 9⟩
def KEY_CRD_AES_PIPE0_credits : Fld := ⟨KEY_CRD_AES_PIPE0, 0, 9⟩
def KEY_CRD_AES_PIPE1_credits : Fld := ⟨KEY_CRD_AES_PIPE1, 0, 9⟩
def KEY_CRD_AES_PIPE2_credits : Fld := ⟨KEY_CRD_AES_PIPE2, 0, 9⟩
def KEY_CRD_AES_PIPE3_credits : Fld := ⟨KEY_CRD_AES_PIPE3, 0, 9⟩
def KEY_CRD_AES_FW_credits : Fld := ⟨KEY_CRD_AES_FW, 0, 9⟩
def KEY_CRD_AES_FENCED_credits : Fld := ⟨KEY_CRD_AES_FENCED, 0, 9⟩
def KEY_CRD_SHA_FREE_credits : Fld := ⟨KEY_CRD_SHA_FREE, 0, 7⟩
def KEY_CRD_SHA_PIPE0_credits : Fld := ⟨KEY_CRD_SHA_PIPE0, 0, 7⟩
def KEY_CRD_SHA_PIPE1_credits : Fld := ⟨KEY_CRD_SHA_PIPE1, 0, 7⟩
def KEY_CRD_SHA_PIPE2_credits : Fld := ⟨KEY_CRD_SHA_PIPE2, 0, 7⟩
def KEY_CRD_SHA_PIPE3_credits : Fld := ⟨KEY_CRD_SHA_PIPE3, 0, 7⟩
def KEY_CRD_SHA_FW_credits : Fld := ⟨KEY_CRD_SHA_FW, 0, 7⟩
def KEY_CRD_SHA_FENCED_credits : Fld := ⟨KEY_CRD_SHA_FENCED, 0, 7⟩
def KEY_CRD_SNAP_credits (w : Nat) : Fld := ⟨(KEY_CRD_SNAP w), 0, 9⟩
def KEY_CRD_RSV_aes : Fld := ⟨KEY_CRD_RSV, 0, 8⟩
def KEY_CRD_RSV_sha : Fld := ⟨KEY_CRD_RSV, 8, 8⟩
def KEY_ENG_FENCED_aes : Fld := ⟨KEY_ENG_FENCED, 0, 8⟩
def KEY_ENG_FENCED_sha : Fld := ⟨KEY_ENG_FENCED, 8, 16⟩
def KEY_ENG_CMD_engine : Fld := ⟨KEY_ENG_CMD, 0, 4⟩
def KEY_ENG_CMD_sha : Fld := ⟨KEY_ENG_CMD, 4, 1⟩
def KEY_ENG_CMD_readmit : Fld := ⟨KEY_ENG_CMD, 5, 1⟩
def KEY_RNG_CTL_reseed : Fld := ⟨KEY_RNG_CTL, 0, 1⟩
def KEY_RNG_CTL_failures : Fld := ⟨KEY_RNG_CTL, 8, 8⟩
def KEY_OSN_SEL_slot : Fld := ⟨KEY_OSN_SEL, 0, 2⟩

/-! ### TWN, spec/14_twin_redundancy.md -/

def TWN_STATUS : Nat := 0x1B0000
def TWN_CTL : Nat := 0x1B0004
def TWN_CMD : Nat := 0x1B0008
def TWN_RESULT : Nat := 0x1B000C
def TWN_BUS : Nat := 0x1B0010
def TWN_BUS_STATUS : Nat := 0x1B0014
def TWN_PRIO : Nat := 0x1B0018
def TWN_EPOCH : Nat := 0x1B0020
def TWN_EPOCH_STAGED : Nat := 0x1B0024
def TWN_ALIGN_OFS_LO : Nat := 0x1B0030
def TWN_ALIGN_OFS_HI : Nat := 0x1B0034
def TWN_ALIGN_DLY : Nat := 0x1B0038
def TWN_ALIGN_STD : Nat := 0x1B003C
def TWN_ALIGN_SEQ : Nat := 0x1B0040
def TWN_ALIGN_AGE_LO : Nat := 0x1B0044
def TWN_ALIGN_AGE_HI : Nat := 0x1B0048
def TWN_ALIGN_PERIOD : Nat := 0x1B004C
def TWN_ASYM : Nat := 0x1B0050
def TWN_TRIM_TC : Nat := 0x1B0054
def TWN_LOSS_TIME : Nat := 0x1B0058
def TWN_UNPAIR_TIME : Nat := 0x1B005C
def TWN_TIME_LIMIT : Nat := 0x1B0060
def TWN_TRIM_LIMIT : Nat := 0x1B0064
def TWN_UP_DUP : Nat := 0x1B0068
def TWN_PEER_STRUCT : Nat := 0x1B0070
def TWN_PEER_CORE : Nat := 0x1B0074
def TWN_PEER_STATE : Nat := 0x1B0078
def TWN_PEER_BOUND_LO : Nat := 0x1B007C
def TWN_PEER_BOUND_HI : Nat := 0x1B0080
def TWN_CNT (i : Nat) : Nat := 0x1B0100 + i * 0x4
def TWN_ALIGN_N : Nat := 0x1B1000
def TWN_SWEEP_RATE : Nat := 0x1B1004
def TWN_RETAIN : Nat := 0x1B1008
def TWN_BIST_PERIOD : Nat := 0x1B100C
def TWN_TRIM_VAL_LO : Nat := 0x1B1010
def TWN_TRIM_VAL_HI : Nat := 0x1B1014
def TWN_LAT_TX : Nat := 0x1B1018
def TWN_LAT_RX : Nat := 0x1B101C
def TWN_PEER_LAT_TX : Nat := 0x1B1020
def TWN_PEER_LAT_RX : Nat := 0x1B1024
def TWN_FOLLOW_LO : Nat := 0x1B1028
def TWN_FOLLOW_HI : Nat := 0x1B102C

def TWN_STATUS_state : Fld := ⟨TWN_STATUS, 0, 2⟩
def TWN_STATUS_en : Fld := ⟨TWN_STATUS, 2, 1⟩
def TWN_STATUS_link : Fld := ⟨TWN_STATUS, 3, 2⟩
def TWN_STATUS_paired_ok : Fld := ⟨TWN_STATUS, 5, 1⟩
def TWN_STATUS_mirror : Fld := ⟨TWN_STATUS, 6, 2⟩
def TWN_STATUS_follow : Fld := ⟨TWN_STATUS, 8, 1⟩
def TWN_STATUS_speaking : Fld := ⟨TWN_STATUS, 9, 1⟩
def TWN_STATUS_pkt_mode : Fld := ⟨TWN_STATUS, 10, 2⟩
def TWN_STATUS_health_stale : Fld := ⟨TWN_STATUS, 12, 1⟩
def TWN_STATUS_key_diff : Fld := ⟨TWN_STATUS, 13, 1⟩
def TWN_STATUS_cfg_diff : Fld := ⟨TWN_STATUS, 14, 1⟩
def TWN_STATUS_hunt : Fld := ⟨TWN_STATUS, 15, 1⟩
def TWN_CTL_en : Fld := ⟨TWN_CTL, 0, 1⟩
def TWN_CTL_pkt_mode : Fld := ⟨TWN_CTL, 1, 2⟩
def TWN_CTL_claim_en : Fld := ⟨TWN_CTL, 3, 1⟩
def TWN_CTL_follow_en : Fld := ⟨TWN_CTL, 4, 1⟩
def TWN_CTL_bist_en : Fld := ⟨TWN_CTL, 5, 1⟩
def TWN_CMD_yield : Fld := ⟨TWN_CMD, 0, 1⟩
def TWN_CMD_unyield : Fld := ⟨TWN_CMD, 1, 1⟩
def TWN_CMD_resync : Fld := ⟨TWN_CMD, 2, 1⟩
def TWN_CMD_retrain : Fld := ⟨TWN_CMD, 3, 1⟩
def TWN_RESULT_cause : Fld := ⟨TWN_RESULT, 0, 8⟩
def TWN_RESULT_command : Fld := ⟨TWN_RESULT, 8, 4⟩
def TWN_BUS_own : Fld := ⟨TWN_BUS, 0, 16⟩
def TWN_BUS_partner : Fld := ⟨TWN_BUS, 16, 16⟩
def TWN_BUS_STATUS_won : Fld := ⟨TWN_BUS_STATUS, 0, 1⟩
def TWN_BUS_STATUS_partner_present : Fld := ⟨TWN_BUS_STATUS, 1, 1⟩
def TWN_BUS_STATUS_partner_src : Fld := ⟨TWN_BUS_STATUS, 2, 1⟩
def TWN_BUS_STATUS_bus_fault : Fld := ⟨TWN_BUS_STATUS, 3, 1⟩
def TWN_BUS_STATUS_side : Fld := ⟨TWN_BUS_STATUS, 4, 1⟩
def TWN_BUS_STATUS_side_conflict : Fld := ⟨TWN_BUS_STATUS, 5, 1⟩
def TWN_BUS_STATUS_yielding : Fld := ⟨TWN_BUS_STATUS, 6, 1⟩
def TWN_PRIO_prio : Fld := ⟨TWN_PRIO, 0, 8⟩
def TWN_EPOCH_STAGED_records : Fld := ⟨TWN_EPOCH_STAGED, 0, 16⟩
def TWN_ALIGN_STD_sigma : Fld := ⟨TWN_ALIGN_STD, 0, 24⟩
def TWN_ALIGN_PERIOD_ms : Fld := ⟨TWN_ALIGN_PERIOD, 0, 16⟩
def TWN_TRIM_TC_s : Fld := ⟨TWN_TRIM_TC, 0, 16⟩
def TWN_LOSS_TIME_ms : Fld := ⟨TWN_LOSS_TIME, 0, 16⟩
def TWN_UNPAIR_TIME_s : Fld := ⟨TWN_UNPAIR_TIME, 0, 16⟩
def TWN_TIME_LIMIT_ps : Fld := ⟨TWN_TIME_LIMIT, 0, 16⟩
def TWN_UP_DUP_en : Fld := ⟨TWN_UP_DUP, 0, 4⟩
def TWN_PEER_STATE_twin : Fld := ⟨TWN_PEER_STATE, 0, 2⟩
def TWN_PEER_STATE_device : Fld := ⟨TWN_PEER_STATE, 2, 3⟩
def TWN_PEER_STATE_servo : Fld := ⟨TWN_PEER_STATE, 5, 2⟩
def TWN_PEER_STATE_class : Fld := ⟨TWN_PEER_STATE, 8, 8⟩
def TWN_PEER_BOUND_HI_ps : Fld := ⟨TWN_PEER_BOUND_HI, 0, 16⟩
def TWN_ALIGN_N_n : Fld := ⟨TWN_ALIGN_N, 0, 25⟩
def TWN_SWEEP_RATE_kib : Fld := ⟨TWN_SWEEP_RATE, 0, 12⟩
def TWN_RETAIN_epochs : Fld := ⟨TWN_RETAIN, 0, 4⟩
def TWN_BIST_PERIOD_ms : Fld := ⟨TWN_BIST_PERIOD, 0, 16⟩

/-! ### CTL, spec/15_control_complex.md -/

def CTL_STATUS : Nat := 0x1C0000
def CTL_RESULT : Nat := 0x1C0008
def CTL_CORE_CMD (c : Nat) : Nat := 0x1C0010 + c * 0x10
def CTL_CORE_STATE (c : Nat) : Nat := 0x1C0014 + c * 0x10
def CTL_CORE_CAUSE (c : Nat) : Nat := 0x1C0018 + c * 0x10
def CTL_WDOG_KICK (c : Nat) : Nat := 0x1C001C + c * 0x10
def CTL_LS_CTL : Nat := 0x1C0050
def CTL_WDOG_CFG : Nat := 0x1C0054
def CTL_RELOAD_ADDR : Nat := 0x1C0060
def CTL_RELOAD_CMD : Nat := 0x1C0064
def CTL_CACHE_CNT : Nat := 0x1C0068
def CTL_TOK_FREE : Nat := 0x1C0080
def CTL_TOK_FENCED : Nat := 0x1C0084
def CTL_TOK_CH (ch : Nat) : Nat := 0x1C0090 + ch * 0x4
def CTL_TOK_SNAP (w : Nat) : Nat := 0x1C0100 + w * 0x4
def CTL_DMA_CFG (ch : Nat) : Nat := 0x1C0200 + ch * 0x40
def CTL_DMA_RING_LO (ch : Nat) : Nat := 0x1C0204 + ch * 0x40
def CTL_DMA_RING_HI (ch : Nat) : Nat := 0x1C0208 + ch * 0x40
def CTL_DMA_RING_SIZE (ch : Nat) : Nat := 0x1C020C + ch * 0x40
def CTL_DMA_HEAD (ch : Nat) : Nat := 0x1C0210 + ch * 0x40
def CTL_DMA_TAIL (ch : Nat) : Nat := 0x1C0214 + ch * 0x40
def CTL_DMA_CMD (ch : Nat) : Nat := 0x1C0218 + ch * 0x40
def CTL_DMA_STATE (ch : Nat) : Nat := 0x1C021C + ch * 0x40
def CTL_DMA_RES (ch w : Nat) : Nat := 0x1C0220 + ch * 0x40 + w * 0x4
def CTL_DMA_TBASE_LO (ch : Nat) : Nat := 0x1C0230 + ch * 0x40
def CTL_DMA_TBASE_HI (ch : Nat) : Nat := 0x1C0234 + ch * 0x40
def CTL_MMU_BASE_LO (c : Nat) : Nat := 0x1C1000 + c * 0x20
def CTL_MMU_BASE_HI (c : Nat) : Nat := 0x1C1004 + c * 0x20
def CTL_MMU_ASID (c : Nat) : Nat := 0x1C1008 + c * 0x20
def CTL_MMU_FAULT_VA_LO (c : Nat) : Nat := 0x1C100C + c * 0x20
def CTL_MMU_FAULT_VA_HI (c : Nat) : Nat := 0x1C1010 + c * 0x20
def CTL_MMU_FAULT_INFO (c : Nat) : Nat := 0x1C1014 + c * 0x20
def CTL_CORE_TMR_LO (c : Nat) : Nat := 0x1C1018 + c * 0x20
def CTL_CORE_TMR_HI (c : Nat) : Nat := 0x1C101C + c * 0x20
def CTL_TLB_INV : Nat := 0x1C1100
def CTL_TLB_INV_ASID : Nat := 0x1C1104
def CTL_TLB_INV_VA_LO : Nat := 0x1C1108
def CTL_TLB_INV_VA_HI : Nat := 0x1C110C
def CTL_USER_RANGE_BASE (i : Nat) : Nat := 0x1C1120 + i * 0x8
def CTL_USER_RANGE_PAGES (i : Nat) : Nat := 0x1C1124 + i * 0x8
def CTL_USER_LIMIT : Nat := 0x1C1140

def CTL_STATUS_running : Fld := ⟨CTL_STATUS, 0, 4⟩
def CTL_STATUS_fenced : Fld := ⟨CTL_STATUS, 4, 4⟩
def CTL_STATUS_lockstep : Fld := ⟨CTL_STATUS, 8, 1⟩
def CTL_STATUS_user_ok : Fld := ⟨CTL_STATUS, 9, 1⟩
def CTL_STATUS_ring_clock : Fld := ⟨CTL_STATUS, 10, 1⟩
def CTL_RESULT_cause : Fld := ⟨CTL_RESULT, 0, 8⟩
def CTL_CORE_CMD_start (c : Nat) : Fld := ⟨(CTL_CORE_CMD c), 0, 1⟩
def CTL_CORE_CMD_halt (c : Nat) : Fld := ⟨(CTL_CORE_CMD c), 1, 1⟩
def CTL_CORE_CMD_readmit (c : Nat) : Fld := ⟨(CTL_CORE_CMD c), 2, 1⟩
def CTL_CORE_STATE_state (c : Nat) : Fld := ⟨(CTL_CORE_STATE c), 0, 3⟩
def CTL_CORE_CAUSE_cause (c : Nat) : Fld := ⟨(CTL_CORE_CAUSE c), 0, 3⟩
def CTL_CORE_CAUSE_restarts (c : Nat) : Fld := ⟨(CTL_CORE_CAUSE c), 8, 8⟩
def CTL_LS_CTL_en : Fld := ⟨CTL_LS_CTL, 0, 1⟩
def CTL_WDOG_CFG_ms : Fld := ⟨CTL_WDOG_CFG, 0, 16⟩
def CTL_RELOAD_ADDR_page : Fld := ⟨CTL_RELOAD_ADDR, 12, 11⟩
def CTL_RELOAD_CMD_go : Fld := ⟨CTL_RELOAD_CMD, 0, 1⟩
def CTL_RELOAD_CMD_busy : Fld := ⟨CTL_RELOAD_CMD, 1, 1⟩
def CTL_RELOAD_CMD_result : Fld := ⟨CTL_RELOAD_CMD, 8, 2⟩
def CTL_CACHE_CNT_icache : Fld := ⟨CTL_CACHE_CNT, 0, 16⟩
def CTL_CACHE_CNT_dcache : Fld := ⟨CTL_CACHE_CNT, 16, 16⟩
def CTL_TOK_FREE_tokens : Fld := ⟨CTL_TOK_FREE, 0, 7⟩
def CTL_TOK_FENCED_tokens : Fld := ⟨CTL_TOK_FENCED, 0, 7⟩
def CTL_TOK_CH_tokens (ch : Nat) : Fld := ⟨(CTL_TOK_CH ch), 0, 4⟩
def CTL_TOK_SNAP_tokens (w : Nat) : Fld := ⟨(CTL_TOK_SNAP w), 0, 7⟩
def CTL_DMA_CFG_enable (ch : Nat) : Fld := ⟨(CTL_DMA_CFG ch), 0, 1⟩
def CTL_DMA_CFG_prio (ch : Nat) : Fld := ⟨(CTL_DMA_CFG ch), 1, 2⟩
def CTL_DMA_CFG_user (ch : Nat) : Fld := ⟨(CTL_DMA_CFG ch), 3, 1⟩
def CTL_DMA_CFG_asid (ch : Nat) : Fld := ⟨(CTL_DMA_CFG ch), 8, 8⟩
def CTL_DMA_RING_HI_va (ch : Nat) : Fld := ⟨(CTL_DMA_RING_HI ch), 0, 16⟩
def CTL_DMA_RING_SIZE_log2 (ch : Nat) : Fld := ⟨(CTL_DMA_RING_SIZE ch), 0, 4⟩
def CTL_DMA_HEAD_index (ch : Nat) : Fld := ⟨(CTL_DMA_HEAD ch), 0, 12⟩
def CTL_DMA_TAIL_index (ch : Nat) : Fld := ⟨(CTL_DMA_TAIL ch), 0, 12⟩
def CTL_DMA_CMD_resume (ch : Nat) : Fld := ⟨(CTL_DMA_CMD ch), 0, 1⟩
def CTL_DMA_CMD_pause (ch : Nat) : Fld := ⟨(CTL_DMA_CMD ch), 1, 1⟩
def CTL_DMA_CMD_skip (ch : Nat) : Fld := ⟨(CTL_DMA_CMD ch), 2, 1⟩
def CTL_DMA_CMD_abort (ch : Nat) : Fld := ⟨(CTL_DMA_CMD ch), 3, 1⟩
def CTL_DMA_STATE_state (ch : Nat) : Fld := ⟨(CTL_DMA_STATE ch), 0, 2⟩
def CTL_DMA_STATE_tokens (ch : Nat) : Fld := ⟨(CTL_DMA_STATE ch), 2, 4⟩
def CTL_DMA_TBASE_LO_table (ch : Nat) : Fld := ⟨(CTL_DMA_TBASE_LO ch), 12, 20⟩
def CTL_DMA_TBASE_HI_table (ch : Nat) : Fld := ⟨(CTL_DMA_TBASE_HI ch), 0, 8⟩
def CTL_MMU_BASE_LO_table (c : Nat) : Fld := ⟨(CTL_MMU_BASE_LO c), 12, 20⟩
def CTL_MMU_BASE_HI_table (c : Nat) : Fld := ⟨(CTL_MMU_BASE_HI c), 0, 8⟩
def CTL_MMU_ASID_asid (c : Nat) : Fld := ⟨(CTL_MMU_ASID c), 0, 8⟩
def CTL_MMU_FAULT_VA_HI_va (c : Nat) : Fld := ⟨(CTL_MMU_FAULT_VA_HI c), 0, 16⟩
def CTL_MMU_FAULT_INFO_cause (c : Nat) : Fld := ⟨(CTL_MMU_FAULT_INFO c), 0, 3⟩
def CTL_MMU_FAULT_INFO_level (c : Nat) : Fld := ⟨(CTL_MMU_FAULT_INFO c), 4, 2⟩
def CTL_MMU_FAULT_INFO_access (c : Nat) : Fld := ⟨(CTL_MMU_FAULT_INFO c), 6, 2⟩
def CTL_TLB_INV_scope : Fld := ⟨CTL_TLB_INV, 0, 2⟩
def CTL_TLB_INV_busy : Fld := ⟨CTL_TLB_INV, 8, 1⟩
def CTL_TLB_INV_ASID_asid : Fld := ⟨CTL_TLB_INV_ASID, 0, 8⟩
def CTL_TLB_INV_VA_LO_va : Fld := ⟨CTL_TLB_INV_VA_LO, 12, 20⟩
def CTL_TLB_INV_VA_HI_va : Fld := ⟨CTL_TLB_INV_VA_HI, 0, 16⟩
def CTL_USER_RANGE_BASE_page (i : Nat) : Fld := ⟨(CTL_USER_RANGE_BASE i), 12, 11⟩
def CTL_USER_RANGE_BASE_valid (i : Nat) : Fld := ⟨(CTL_USER_RANGE_BASE i), 31, 1⟩
def CTL_USER_RANGE_PAGES_pages (i : Nat) : Fld := ⟨(CTL_USER_RANGE_PAGES i), 0, 12⟩
def CTL_USER_LIMIT_pages : Fld := ⟨CTL_USER_LIMIT, 0, 12⟩

end Sys2Proof.Machine
end

