-- ==== Sys2Proof/Machine/RegRows.lean ====
section
/-! DEFINITION. The register map: one row for each register of the register tables of spec chapters 02 to 19, with the
power domain that holds it (R23), its reset source (R455), its reset value, the access code of each bit (R5), whether it
is the low or the high word of a 64-bit quantity (R7), and the selector register that chooses the record it shows. A row
of an array carries the counts and strides of one or two indices. The eight port blocks share one list of rows. -/

namespace Sys2Proof.Machine

open Sys2Proof

/-- The power domain a register lies in (R23). `sq` and `syn` stand for the quad that holds a port block's lanes and for
the half of SYN that holds an output; `domOf` in Ops.lean resolves both from the address. -/
inductive RDom where
  | aon | ctl | tb | meas | syn | gnss | pkt | cry | smem | sq
  deriving DecidableEq, Repr

/-- The reset source of a register (R455): leaving Off, every entry into Boot, power-up of its domain, PERST_N. -/
inductive RCls where
  | por | boot | dom | perst
  deriving DecidableEq, Repr

/-- One register or register array: the address of its first element, count and stride of the outer and the inner index,
domain, reset source, reset value, the bits with access RW, W1C, W1S, RC and RWP, the part of a 64-bit quantity it holds
(0 none, 1 low, 2 high), and the address of its selector register (0 none). Bits in no mask are RO, WO or reserved. -/
structure RegRow where
  off : Nat
  n1 : Nat
  s1 : Nat
  n2 : Nat
  s2 : Nat
  dom : RDom
  cls : RCls
  rst : Nat
  rw : Nat
  w1c : Nat
  w1s : Nat
  rc : Nat
  rwp : Nat
  wide : Nat
  sel : Nat
  deriving DecidableEq, Repr

/-- Rows of block HIF, spec/03_host_interface.md, part 1 of 1: HIF_ID to HIF_RXERR_CNT. -/
def rowsHIF0 : List RegRow :=
  [ ⟨0x0, 1, 0x4, 1, 0x4, .aon, .por, 0xB08820, 0x0, 0x0, 0x0, 0x0, 0x0, 0, 0x0⟩,
    ⟨0x4, 1, 0x4, 1, 0x4, .aon, .por, 0x1000, 0x0, 0x0, 0x0, 0x0, 0x0, 0, 0x0⟩,
    ⟨0x10, 1, 0x4, 1, 0x4, .aon, .boot, 0x3, 0x3, 0x0, 0x4, 0x0, 0x0, 0, 0x0⟩,
    ⟨0x20, 1, 0x4, 1, 0x4, .aon, .por, 0x0, 0x0, 0x1F, 0x0, 0x0, 0x0, 0, 0x0⟩,
    ⟨0x24, 1, 0x4, 1, 0x4, .aon, .por, 0x0, 0x0, 0x0, 0x0, 0xFFFF, 0x0, 0, 0x0⟩,
    ⟨0x28, 1, 0x4, 1, 0x4, .aon, .por, 0x0, 0x0, 0x0, 0x0, 0xFFFF, 0x0, 0, 0x0⟩,
    ⟨0x100, 8, 0x20, 1, 0x4, .ctl, .boot, 0x0, 0x3F, 0x0, 0x0, 0x0, 0x0, 0, 0x0⟩,
    ⟨0x104, 8, 0x20, 1, 0x4, .ctl, .boot, 0x0, 0xFFFFFFFF, 0x0, 0x0, 0x0, 0x0, 0, 0x0⟩,
    ⟨0x108, 8, 0x20, 1, 0x4, .ctl, .boot, 0x0, 0xFFFFFFFF, 0x0, 0x0, 0x0, 0x0, 0, 0x0⟩,
    ⟨0x10C, 8, 0x20, 1, 0x4, .ctl, .boot, 0x8000, 0x0, 0x0, 0x0, 0x0, 0x0, 0, 0x0⟩,
    ⟨0x110, 8, 0x20, 1, 0x4, .ctl, .boot, 0x0, 0x0, 0x0, 0x0, 0x0, 0x0, 0, 0x0⟩,
    ⟨0x114, 8, 0x20, 1, 0x4, .ctl, .boot, 0x0, 0xFFFFFFFF, 0x0, 0x0, 0x0, 0x0, 0, 0x0⟩,
    ⟨0x1000, 1, 0x4, 1, 0x4, .ctl, .perst, 0x0, 0x0, 0x0, 0x0, 0x0, 0x0, 0, 0x0⟩,
    ⟨0x1004, 1, 0x4, 1, 0x4, .ctl, .perst, 0x0, 0x0, 0x0, 0x0, 0xFFFF, 0x0, 0, 0x0⟩,
    ⟨0x1008, 1, 0x4, 1, 0x4, .ctl, .perst, 0x0, 0x0, 0x0, 0x0, 0xFFFF, 0x0, 0, 0x0⟩ ]

/-- All rows of block HIF. -/
def rowsHIF : List RegRow := rowsHIF0

/-- Rows of block IMG, spec/02_structure_image.md, part 1 of 1: IMG_STATUS to IMG_STAGE_LEN. -/
def rowsIMG0 : List RegRow :=
  [ ⟨0x10000, 1, 0x4, 1, 0x4, .ctl, .boot, 0x3, 0x0, 0x0, 0x0, 0x0, 0x0, 0, 0x0⟩,
    ⟨0x10010, 1, 0x4, 1, 0x4, .ctl, .boot, 0x0, 0x0, 0x0, 0x0, 0x0, 0x0, 0, 0x0⟩,
    ⟨0x10014, 1, 0x4, 1, 0x4, .aon, .por, 0x0, 0x1, 0x0, 0x0, 0x0, 0x0, 0, 0x0⟩,
    ⟨0x10018, 1, 0x4, 1, 0x4, .aon, .por, 0x0, 0x0, 0x0, 0x0, 0x0, 0x0, 0, 0x0⟩,
    ⟨0x10030, 1, 0x4, 1, 0x4, .aon, .por, 0x258, 0xFFFF, 0x0, 0x0, 0x0, 0x0, 0, 0x0⟩,
    ⟨0x1001C, 1, 0x4, 1, 0x4, .ctl, .boot, 0x0, 0x0, 0x0, 0x0, 0x0, 0x0, 0, 0x0⟩,
    ⟨0x11000, 1, 0x4, 1, 0x4, .ctl, .boot, 0x0, 0xFFFF, 0x0, 0x0, 0x0, 0x0, 0, 0x0⟩,
    ⟨0x11004, 1, 0x4, 1, 0x4, .ctl, .boot, 0x0, 0x0, 0x0, 0x0, 0x0, 0x0, 0, 0x11000⟩,
    ⟨0x11008, 8, 0x4, 1, 0x4, .ctl, .boot, 0x0, 0x0, 0x0, 0x0, 0x0, 0x0, 0, 0x11000⟩,
    ⟨0x11030, 1, 0x4, 1, 0x4, .ctl, .boot, 0x0, 0xFF03, 0x0, 0x0, 0x0, 0x0, 0, 0x0⟩,
    ⟨0x11034, 1, 0x4, 1, 0x4, .ctl, .boot, 0x0, 0x0, 0x0, 0x0, 0x0, 0x0, 0, 0x11030⟩,
    ⟨0x11038, 1, 0x4, 1, 0x4, .ctl, .boot, 0x0, 0x0, 0x0, 0x0, 0x0, 0x0, 0, 0x11030⟩,
    ⟨0x10020, 1, 0x4, 1, 0x4, .ctl, .boot, 0x0, 0x0, 0x0, 0x0, 0x0, 0x0, 0, 0x0⟩,
    ⟨0x10024, 1, 0x4, 1, 0x4, .ctl, .boot, 0x0, 0x0, 0x0, 0x0, 0x0, 0x0, 0, 0x0⟩,
    ⟨0x10028, 1, 0x4, 1, 0x4, .ctl, .boot, 0x0, 0x0, 0x0, 0x0, 0x0, 0x0, 0, 0x0⟩,
    ⟨0x1002C, 1, 0x4, 1, 0x4, .aon, .por, 0xB0, 0x0, 0x0, 0x0, 0x0, 0x0, 0, 0x0⟩,
    ⟨0x10034, 1, 0x4, 1, 0x4, .ctl, .boot, 0x0, 0x3, 0x0, 0x0, 0x0, 0x0, 0, 0x0⟩,
    ⟨0x10038, 1, 0x4, 1, 0x4, .ctl, .boot, 0x0, 0x7FFFFF, 0x0, 0x0, 0x0, 0x0, 0, 0x0⟩ ]

/-- All rows of block IMG. -/
def rowsIMG : List RegRow := rowsIMG0

/-- Rows of block PWR, spec/19_power_boot.md, part 1 of 1: PWR_STATUS to PWR_SYSREF. -/
def rowsPWR0 : List RegRow :=
  [ ⟨0x20000, 1, 0x4, 1, 0x4, .aon, .por, 0x1101, 0x0, 0x0, 0x0, 0x0, 0x0, 0, 0x0⟩,
    ⟨0x20004, 1, 0x4, 1, 0x4, .aon, .por, 0x0, 0x0, 0x0, 0x0, 0x0, 0x0, 0, 0x0⟩,
    ⟨0x20008, 1, 0x4, 1, 0x4, .aon, .por, 0x0, 0x0, 0x0, 0x0, 0x0, 0x0, 0, 0x0⟩,
    ⟨0x20010, 1, 0x4, 1, 0x4, .aon, .por, 0x1, 0x0, 0x0, 0x0, 0x0, 0x0, 0, 0x0⟩,
    ⟨0x20014, 1, 0x4, 1, 0x4, .aon, .boot, 0x0, 0x3FFF, 0x0, 0x0, 0x0, 0x0, 0, 0x0⟩,
    ⟨0x20020, 1, 0x4, 1, 0x4, .aon, .por, 0x1, 0x1FF, 0x0, 0x0, 0x0, 0x0, 0, 0x0⟩,
    ⟨0x20024, 1, 0x4, 1, 0x4, .aon, .por, 0x0, 0x0, 0x1FF, 0x0, 0x0, 0x0, 0, 0x0⟩,
    ⟨0x20028, 1, 0x4, 1, 0x4, .aon, .por, 0x0, 0x1, 0x0, 0x0, 0x0, 0x0, 0, 0x0⟩,
    ⟨0x20030, 1, 0x4, 1, 0x4, .aon, .por, 0x40, 0xFFFF, 0x0, 0x0, 0x0, 0x0, 0, 0x0⟩,
    ⟨0x20034, 1, 0x4, 1, 0x4, .aon, .por, 0x788000, 0xFFFFFF, 0x0, 0x0, 0x0, 0x0, 0, 0x0⟩,
    ⟨0x20038, 1, 0x4, 1, 0x4, .aon, .por, 0x0, 0xFFFFFFFF, 0x0, 0x0, 0x0, 0x0, 1, 0x0⟩,
    ⟨0x2003C, 1, 0x4, 1, 0x4, .aon, .por, 0x0, 0xFFFFFFFF, 0x0, 0x0, 0x0, 0x0, 2, 0x0⟩,
    ⟨0x20040, 1, 0x4, 1, 0x4, .aon, .por, 0x3E8, 0xFFFF, 0x0, 0x0, 0x0, 0x0, 0, 0x0⟩,
    ⟨0x20044, 1, 0x4, 1, 0x4, .aon, .por, 0x0, 0x0, 0x0, 0x0, 0xFFFFFFFF, 0x0, 0, 0x0⟩,
    ⟨0x20050, 1, 0x4, 1, 0x4, .aon, .por, 0x0, 0x0, 0x0, 0x0, 0x0, 0x0, 0, 0x0⟩,
    ⟨0x20054, 1, 0x4, 1, 0x4, .aon, .por, 0x1130, 0xFFFF, 0x0, 0x0, 0x0, 0x0, 0, 0x0⟩,
    ⟨0x20060, 1, 0x4, 1, 0x4, .aon, .por, 0x2EE, 0x0, 0x0, 0x0, 0x0, 0x0, 0, 0x0⟩,
    ⟨0x20070, 1, 0x4, 1, 0x4, .aon, .por, 0x320, 0x0, 0x0, 0x0, 0x0, 0x0, 0, 0x0⟩,
    ⟨0x20080, 1, 0x4, 1, 0x4, .aon, .por, 0x384, 0x0, 0x0, 0x0, 0x0, 0x0, 0, 0x0⟩,
    ⟨0x20064, 3, 0x10, 1, 0x4, .aon, .por, 0x0, 0x0, 0x0, 0x0, 0x0, 0x0, 0, 0x0⟩,
    ⟨0x20068, 3, 0x10, 1, 0x4, .aon, .por, 0x0, 0x0, 0x0, 0x0, 0x0, 0x0, 0, 0x0⟩,
    ⟨0x20090, 1, 0x4, 1, 0x4, .aon, .por, 0xAA8201, 0xFFFF01, 0x0, 0x0, 0x0, 0x0, 0, 0x0⟩,
    ⟨0x20094, 1, 0x4, 1, 0x4, .aon, .por, 0x4E207530, 0xFFFFFFFF, 0x0, 0x0, 0x0, 0x0, 0, 0x0⟩,
    ⟨0x21000, 1, 0x4, 1, 0x4, .aon, .por, 0xA0, 0xFF, 0x0, 0x0, 0x0, 0x0, 0, 0x0⟩,
    ⟨0x21004, 1, 0x4, 1, 0x4, .aon, .por, 0xA1, 0xFF, 0x0, 0x0, 0x0, 0x0, 0, 0x0⟩,
    ⟨0x21008, 1, 0x4, 1, 0x4, .aon, .por, 0xA2, 0xFF, 0x0, 0x0, 0x0, 0x0, 0, 0x0⟩,
    ⟨0x2100C, 1, 0x4, 1, 0x4, .aon, .por, 0xA3, 0xFF, 0x0, 0x0, 0x0, 0x0, 0, 0x0⟩,
    ⟨0x21010, 1, 0x4, 1, 0x4, .aon, .por, 0xA4, 0xFF, 0x0, 0x0, 0x0, 0x0, 0, 0x0⟩,
    ⟨0x21014, 1, 0x4, 1, 0x4, .aon, .por, 0xA5, 0xFF, 0x0, 0x0, 0x0, 0x0, 0, 0x0⟩,
    ⟨0x21020, 6, 0x4, 1, 0x4, .aon, .por, 0x0, 0x0, 0x0, 0x0, 0x0, 0x0, 0, 0x0⟩,
    ⟨0x21040, 1, 0x4, 1, 0x4, .aon, .por, 0x0, 0x0, 0x0, 0x0, 0x0, 0x0, 0, 0x0⟩,
    ⟨0x21044, 1, 0x4, 1, 0x4, .aon, .por, 0x0, 0x0, 0x0, 0x0, 0x0, 0x0, 0, 0x0⟩,
    ⟨0x21048, 1, 0x4, 1, 0x4, .aon, .por, 0x0, 0x0, 0x0, 0x0, 0x0, 0x0, 0, 0x0⟩ ]

/-- All rows of block PWR. -/
def rowsPWR : List RegRow := rowsPWR0

/-- Rows of block FLT, spec/17_faults.md, part 1 of 1: FLT_STATUS to FLT_SLOT_AGE. -/
def rowsFLT0 : List RegRow :=
  [ ⟨0x30000, 1, 0x4, 1, 0x4, .ctl, .dom, 0x0, 0x0, 0x3, 0x0, 0x0, 0x0, 0, 0x0⟩,
    ⟨0x30004, 1, 0x4, 1, 0x4, .ctl, .dom, 0x0, 0x0, 0x0, 0x0, 0x0, 0x0, 0, 0x0⟩,
    ⟨0x30008, 1, 0x4, 1, 0x4, .ctl, .dom, 0x0, 0x0, 0x0, 0x0, 0x0, 0x0, 0, 0x0⟩,
    ⟨0x30010, 1, 0x4, 1, 0x4, .ctl, .dom, 0x0, 0x0, 0x0, 0x0, 0x0, 0x0, 1, 0x0⟩,
    ⟨0x30014, 1, 0x4, 1, 0x4, .ctl, .dom, 0x0, 0x0, 0x0, 0x0, 0x0, 0x0, 2, 0x0⟩,
    ⟨0x30018, 1, 0x4, 1, 0x4, .ctl, .dom, 0x0, 0x0, 0x0, 0x0, 0xFFFFFFFF, 0x0, 1, 0x0⟩,
    ⟨0x3001C, 1, 0x4, 1, 0x4, .ctl, .dom, 0x0, 0x0, 0x0, 0x0, 0xFFFFFFFF, 0x0, 2, 0x0⟩,
    ⟨0x30020, 1, 0x4, 1, 0x4, .ctl, .dom, 0x8, 0xFF, 0x0, 0x0, 0x0, 0x0, 0, 0x0⟩,
    ⟨0x30024, 1, 0x4, 1, 0x4, .ctl, .dom, 0xE10, 0xFFFF, 0x0, 0x0, 0x0, 0x0, 0, 0x0⟩,
    ⟨0x30040, 9, 0x4, 1, 0x4, .ctl, .dom, 0x0, 0x0, 0x0, 0x0, 0x0, 0x0, 0, 0x0⟩,
    ⟨0x30100, 64, 0x10, 1, 0x4, .ctl, .dom, 0x0, 0x0, 0x0, 0x0, 0x0, 0x0, 0, 0x0⟩,
    ⟨0x30104, 64, 0x10, 1, 0x4, .ctl, .dom, 0x0, 0x0, 0x0, 0x0, 0xFFFF07FF, 0x0, 0, 0x0⟩,
    ⟨0x30108, 64, 0x10, 1, 0x4, .ctl, .dom, 0x0, 0x0, 0x0, 0x0, 0xFFFFFFFF, 0x0, 0, 0x0⟩,
    ⟨0x31000, 1, 0x4, 1, 0x4, .ctl, .dom, 0x0, 0xFFF3F, 0x0, 0x0, 0x0, 0x0, 0, 0x0⟩,
    ⟨0x31004, 1, 0x4, 1, 0x4, .ctl, .dom, 0x1, 0xFFFFFFFF, 0x0, 0x0, 0x0, 0x0, 0, 0x0⟩,
    ⟨0x31008, 1, 0x4, 1, 0x4, .ctl, .dom, 0x0, 0x0, 0x0, 0x0, 0x0, 0x0, 0, 0x0⟩,
    ⟨0x3100C, 1, 0x4, 1, 0x4, .ctl, .dom, 0x0, 0x0, 0x0, 0x0, 0x0, 0x0, 0, 0x0⟩,
    ⟨0x31010, 1, 0x4, 1, 0x4, .ctl, .dom, 0x0, 0x0, 0x0, 0x0, 0x0, 0x0, 1, 0x0⟩,
    ⟨0x31014, 1, 0x4, 1, 0x4, .ctl, .dom, 0x0, 0x0, 0x0, 0x0, 0x0, 0x0, 2, 0x0⟩,
    ⟨0x31018, 1, 0x4, 1, 0x4, .ctl, .dom, 0xFFFFFFFF, 0x0, 0x0, 0x0, 0x0, 0x0, 1, 0x0⟩,
    ⟨0x3101C, 1, 0x4, 1, 0x4, .ctl, .dom, 0xFFFFFFFF, 0x0, 0x0, 0x0, 0x0, 0x0, 2, 0x0⟩,
    ⟨0x31100, 8, 0x8, 1, 0x4, .ctl, .dom, 0x0, 0x0, 0x0, 0x0, 0x0, 0x0, 0, 0x0⟩,
    ⟨0x31104, 8, 0x8, 1, 0x4, .ctl, .dom, 0x0, 0x0, 0x0, 0x0, 0x0, 0x0, 0, 0x0⟩ ]

/-- All rows of block FLT. -/
def rowsFLT : List RegRow := rowsFLT0

/-- Rows of block EVQ, spec/16_events_interrupts.md, part 1 of 1: EVQ_STATUS to EVQ_PEND_AON. -/
def rowsEVQ0 : List RegRow :=
  [ ⟨0x40000, 1, 0x4, 1, 0x4, .ctl, .dom, 0x0, 0x0, 0x0, 0x0, 0x0, 0x0, 0, 0x0⟩,
    ⟨0x40004, 1, 0x4, 1, 0x4, .ctl, .dom, 0x0, 0x1, 0x0, 0x0, 0x0, 0x0, 0, 0x0⟩,
    ⟨0x40008, 1, 0x4, 1, 0x4, .ctl, .dom, 0x0, 0x0, 0x0, 0x0, 0x0, 0x0, 0, 0x0⟩,
    ⟨0x4000C, 1, 0x4, 1, 0x4, .ctl, .dom, 0xA, 0x3FF, 0x0, 0x0, 0x0, 0x0, 0, 0x0⟩,
    ⟨0x40010, 1, 0x4, 1, 0x4, .ctl, .dom, 0x0, 0x0, 0x0, 0x0, 0x0, 0x0, 0, 0x0⟩,
    ⟨0x40020, 7, 0x4, 1, 0x4, .ctl, .dom, 0x4000000, 0x0, 0x0, 0x0, 0x0, 0x0, 0, 0x0⟩,
    ⟨0x40040, 7, 0x40, 1, 0x4, .ctl, .dom, 0x0, 0x13FF, 0x0, 0x0, 0x0, 0x0, 0, 0x0⟩,
    ⟨0x40044, 7, 0x40, 1, 0x4, .ctl, .dom, 0x0, 0x7FF, 0x0, 0x0, 0x0, 0x0, 0, 0x0⟩,
    ⟨0x40048, 7, 0x40, 1, 0x4, .ctl, .dom, 0x0, 0x0, 0x0, 0x0, 0x0, 0x0, 0, 0x0⟩,
    ⟨0x4004C, 7, 0x40, 1, 0x4, .ctl, .dom, 0x0, 0x0, 0x0, 0x0, 0xFFFF0000, 0x0, 0, 0x0⟩,
    ⟨0x40050, 7, 0x40, 1, 0x4, .ctl, .dom, 0x0, 0x3FF, 0x0, 0x0, 0x0, 0x0, 0, 0x0⟩,
    ⟨0x40054, 7, 0x40, 4, 0x4, .ctl, .dom, 0x0, 0x0, 0x0, 0x0, 0x0, 0x0, 0, 0x0⟩,
    ⟨0x40200, 128, 0x10, 3, 0x4, .ctl, .dom, 0x0, 0xFFFFFFFF, 0x0, 0x0, 0x0, 0x0, 0, 0x0⟩,
    ⟨0x40A00, 128, 0x4, 1, 0x4, .ctl, .dom, 0x0, 0x0, 0xFFFFFFFF, 0x0, 0x0, 0x0, 0, 0x0⟩,
    ⟨0x40C00, 128, 0x4, 1, 0x4, .ctl, .dom, 0x0, 0x0, 0x0, 0x0, 0x0, 0x0, 0, 0x0⟩,
    ⟨0x41000, 512, 0x4, 1, 0x4, .ctl, .dom, 0x0, 0x77777777, 0x0, 0x0, 0x0, 0x0, 0, 0x0⟩,
    ⟨0x41800, 128, 0x4, 1, 0x4, .ctl, .por, 0x0, 0x0, 0x0, 0x0, 0x0, 0x0, 0, 0x0⟩ ]

/-- All rows of block EVQ. -/
def rowsEVQ : List RegRow := rowsEVQ0

/-- Rows of block LOG, spec/18_recorder_counters.md, part 1 of 1: LOG_STATUS to PMC_STATUS. -/
def rowsLOG0 : List RegRow :=
  [ ⟨0x50000, 1, 0x4, 1, 0x4, .aon, .por, 0x0, 0x0, 0x14, 0x0, 0x0, 0x0, 0, 0x0⟩,
    ⟨0x50004, 1, 0x4, 1, 0x4, .aon, .por, 0x0, 0x0, 0x0, 0x0, 0x0, 0x0, 0, 0x0⟩,
    ⟨0x50008, 1, 0x4, 1, 0x4, .aon, .por, 0x0, 0x0, 0x0, 0x0, 0x0, 0x0, 0, 0x0⟩,
    ⟨0x5000C, 1, 0x4, 1, 0x4, .aon, .por, 0x0, 0xFFFFFFFF, 0x0, 0x0, 0x0, 0x0, 0, 0x0⟩,
    ⟨0x50010, 1, 0x4, 1, 0x4, .aon, .boot, 0x1, 0x1, 0x0, 0x0, 0x0, 0x0, 0, 0x0⟩,
    ⟨0x50014, 1, 0x4, 1, 0x4, .aon, .por, 0x0, 0x0, 0x0, 0x0, 0xFFFFFF02, 0x0, 0, 0x0⟩,
    ⟨0x50020, 8, 0x4, 1, 0x4, .aon, .por, 0x0, 0x0, 0x0, 0x0, 0x0, 0x0, 0, 0x0⟩,
    ⟨0x50040, 1, 0x4, 1, 0x4, .aon, .por, 0x0, 0x0, 0x0, 0x0, 0xFFFFFFFF, 0x0, 0, 0x0⟩,
    ⟨0x50050, 1, 0x4, 1, 0x4, .aon, .por, 0xE10, 0xFFFFFFFF, 0x0, 0x0, 0x0, 0x0, 0, 0x0⟩,
    ⟨0x50054, 1, 0x4, 1, 0x4, .aon, .por, 0x800, 0xFFFF, 0x0, 0x0, 0x0, 0x0, 0, 0x0⟩,
    ⟨0x50058, 1, 0x4, 1, 0x4, .aon, .por, 0xA, 0xFFFF, 0x0, 0x0, 0x0, 0x0, 0, 0x0⟩,
    ⟨0x5005C, 1, 0x4, 1, 0x4, .aon, .por, 0x0, 0x0, 0x0, 0x0, 0x0, 0x0, 0, 0x0⟩,
    ⟨0x50060, 1, 0x4, 1, 0x4, .aon, .por, 0x0, 0x0, 0x0, 0x0, 0x0, 0x0, 0, 0x0⟩,
    ⟨0x50064, 1, 0x4, 1, 0x4, .aon, .por, 0x0, 0x0, 0x0, 0x0, 0xFFFFFFFF, 0x0, 0, 0x0⟩,
    ⟨0x50068, 1, 0x4, 1, 0x4, .aon, .por, 0x0, 0x0, 0x0, 0x0, 0x0, 0x0, 0, 0x0⟩,
    ⟨0x50100, 16, 0x8, 1, 0x4, .aon, .por, 0x0, 0x0, 0x0, 0x0, 0x0, 0x0, 1, 0x0⟩,
    ⟨0x50104, 16, 0x8, 1, 0x4, .aon, .por, 0x0, 0x0, 0x0, 0x0, 0x0, 0x0, 2, 0x0⟩,
    ⟨0x50180, 1, 0x4, 1, 0x4, .aon, .por, 0x28, 0xFF, 0x0, 0x0, 0x0, 0x0, 0, 0x0⟩,
    ⟨0x50200, 1, 0x4, 1, 0x4, .aon, .por, 0x0, 0x3F, 0x0, 0x0, 0x0, 0x0, 0, 0x0⟩,
    ⟨0x50204, 1, 0x4, 1, 0x4, .aon, .por, 0x0, 0xFFFFFFFF, 0x0, 0x0, 0x0, 0x0, 1, 0x50200⟩,
    ⟨0x50208, 1, 0x4, 1, 0x4, .aon, .por, 0x0, 0xFFFFFFFF, 0x0, 0x0, 0x0, 0x0, 2, 0x50200⟩,
    ⟨0x5020C, 1, 0x4, 1, 0x4, .aon, .por, 0x0, 0x0, 0x0, 0x0, 0x0, 0x0, 0, 0x0⟩,
    ⟨0x50210, 1, 0x4, 1, 0x4, .aon, .por, 0x0, 0x0, 0x0, 0x0, 0x0, 0x0, 1, 0x0⟩,
    ⟨0x50214, 1, 0x4, 1, 0x4, .aon, .por, 0x0, 0x0, 0x0, 0x0, 0x0, 0x0, 2, 0x0⟩,
    ⟨0x51000, 1, 0x4, 1, 0x4, .aon, .por, 0x0, 0x3FF, 0x0, 0x0, 0x0, 0x0, 0, 0x0⟩,
    ⟨0x51004, 1, 0x4, 1, 0x4, .aon, .por, 0x400010, 0xFFFFFF, 0x0, 0x0, 0x0, 0x0, 0, 0x51000⟩,
    ⟨0x51008, 1, 0x4, 1, 0x4, .aon, .por, 0x200000, 0x0, 0x0, 0x0, 0x0, 0x0, 0, 0x51000⟩,
    ⟨0x5100C, 1, 0x4, 1, 0x4, .aon, .por, 0x0, 0x0, 0x0, 0x0, 0x0, 0x0, 0, 0x51000⟩,
    ⟨0x51010, 1, 0x4, 1, 0x4, .aon, .por, 0x0, 0x0, 0x0, 0x0, 0xFFFFFFFF, 0x0, 0, 0x51000⟩,
    ⟨0x51020, 1, 0x4, 1, 0x4, .aon, .por, 0x0, 0x3F, 0x0, 0x0, 0x0, 0x0, 0, 0x0⟩,
    ⟨0x51024, 1, 0x4, 1, 0x4, .aon, .por, 0x0, 0x0, 0x0, 0x0, 0x0, 0x0, 0, 0x51020⟩,
    ⟨0x51028, 1, 0x4, 1, 0x4, .aon, .por, 0x0, 0x0, 0x0, 0x0, 0x0, 0x0, 0, 0x51020⟩,
    ⟨0x60000, 1, 0x4, 1, 0x4, .ctl, .dom, 0x0, 0x0, 0x0, 0x0, 0x0, 0x0, 0, 0x0⟩ ]

/-- All rows of block LOG. -/
def rowsLOG : List RegRow := rowsLOG0

/-- Rows of block PMC, spec/18_recorder_counters.md, part 1 of 1: PMC_SNAP to PMC_LED_WEIR_OVER_HI. -/
def rowsPMC0 : List RegRow :=
  [ ⟨0x60004, 1, 0x4, 1, 0x4, .ctl, .dom, 0x0, 0x0, 0x0, 0x0, 0x0, 0x0, 0, 0x0⟩,
    ⟨0x60008, 1, 0x4, 1, 0x4, .ctl, .dom, 0x0, 0x1, 0x0, 0x0, 0x0, 0x0, 0, 0x0⟩,
    ⟨0x6000C, 1, 0x4, 1, 0x4, .ctl, .dom, 0x0, 0x0, 0x0, 0x0, 0x0, 0x0, 0, 0x0⟩,
    ⟨0x60010, 1, 0x4, 1, 0x4, .ctl, .dom, 0x0, 0x0, 0x0, 0x0, 0x0, 0x0, 1, 0x0⟩,
    ⟨0x60014, 1, 0x4, 1, 0x4, .ctl, .dom, 0x0, 0x0, 0x0, 0x0, 0x0, 0x0, 2, 0x0⟩,
    ⟨0x60018, 1, 0x4, 1, 0x4, .ctl, .dom, 0x0, 0x0, 0x0, 0x0, 0x0, 0x0, 0, 0x0⟩,
    ⟨0x6001C, 1, 0x4, 1, 0x4, .ctl, .dom, 0x0, 0x0, 0x0, 0x0, 0x0, 0x0, 0, 0x0⟩,
    ⟨0x60020, 1, 0x4, 1, 0x4, .ctl, .dom, 0x0, 0xFFFFFFFF, 0x0, 0x0, 0x0, 0x0, 1, 0x0⟩,
    ⟨0x60024, 1, 0x4, 1, 0x4, .ctl, .dom, 0x0, 0xFFFFFFFF, 0x0, 0x0, 0x0, 0x0, 2, 0x0⟩,
    ⟨0x60100, 64, 0x10, 1, 0x4, .ctl, .dom, 0x0, 0x7FFFF, 0x0, 0x0, 0x0, 0x0, 0, 0x0⟩,
    ⟨0x60104, 64, 0x10, 1, 0x4, .ctl, .dom, 0x0, 0xFFFFFFFF, 0x0, 0x0, 0x0, 0x0, 1, 0x0⟩,
    ⟨0x60108, 64, 0x10, 1, 0x4, .ctl, .dom, 0x0, 0xFFFF, 0x0, 0x0, 0x0, 0x0, 2, 0x0⟩,
    ⟨0x6010C, 64, 0x10, 1, 0x4, .ctl, .dom, 0x0, 0x0, 0x1, 0x0, 0x0, 0x0, 0, 0x0⟩,
    ⟨0x60600, 8, 0x10, 1, 0x4, .ctl, .dom, 0x0, 0x5FFFF, 0x0, 0x0, 0x0, 0x0, 0, 0x0⟩,
    ⟨0x60604, 8, 0x10, 1, 0x4, .ctl, .dom, 0x0, 0xFFFFFFFF, 0x0, 0x0, 0x0, 0x0, 1, 0x0⟩,
    ⟨0x60608, 8, 0x10, 1, 0x4, .ctl, .dom, 0x0, 0xFFFFFFFF, 0x0, 0x0, 0x0, 0x0, 2, 0x0⟩,
    ⟨0x6060C, 8, 0x10, 1, 0x4, .ctl, .dom, 0x0, 0x0, 0x1, 0x0, 0x0, 0x0, 0, 0x0⟩,
    ⟨0x60800, 64, 0x8, 1, 0x4, .ctl, .dom, 0x0, 0x0, 0x0, 0x0, 0x0, 0x0, 1, 0x0⟩,
    ⟨0x60804, 64, 0x8, 1, 0x4, .ctl, .dom, 0x0, 0x0, 0x0, 0x0, 0x0, 0x0, 2, 0x0⟩,
    ⟨0x60A00, 8, 0x8, 1, 0x4, .ctl, .dom, 0x0, 0x0, 0x0, 0x0, 0x0, 0x0, 1, 0x0⟩,
    ⟨0x60A04, 8, 0x8, 1, 0x4, .ctl, .dom, 0x0, 0x0, 0x0, 0x0, 0x0, 0x0, 2, 0x0⟩,
    ⟨0x60B00, 13, 0x4, 1, 0x4, .ctl, .dom, 0x0, 0x0, 0x0, 0x0, 0x0, 0x0, 0, 0x0⟩,
    ⟨0x60B40, 1, 0x4, 1, 0x4, .ctl, .dom, 0x0, 0x0, 0x0, 0x0, 0x0, 0x0, 0, 0x0⟩,
    ⟨0x60B50, 1, 0x4, 1, 0x4, .ctl, .dom, 0x0, 0x0, 0x0, 0x0, 0x0, 0x0, 1, 0x0⟩,
    ⟨0x60B54, 1, 0x4, 1, 0x4, .ctl, .dom, 0x0, 0x0, 0x0, 0x0, 0x0, 0x0, 2, 0x0⟩,
    ⟨0x60B58, 1, 0x4, 1, 0x4, .ctl, .dom, 0x0, 0x0, 0x0, 0x0, 0x0, 0x0, 1, 0x0⟩,
    ⟨0x60B5C, 1, 0x4, 1, 0x4, .ctl, .dom, 0x0, 0x0, 0x0, 0x0, 0x0, 0x0, 2, 0x0⟩,
    ⟨0x60B60, 1, 0x4, 1, 0x4, .ctl, .dom, 0x0, 0x0, 0x0, 0x0, 0x0, 0x0, 1, 0x0⟩,
    ⟨0x60B64, 1, 0x4, 1, 0x4, .ctl, .dom, 0x0, 0x0, 0x0, 0x0, 0x0, 0x0, 2, 0x0⟩,
    ⟨0x60B68, 1, 0x4, 1, 0x4, .ctl, .dom, 0x0, 0x0, 0x0, 0x0, 0x0, 0x0, 1, 0x0⟩,
    ⟨0x60B6C, 1, 0x4, 1, 0x4, .ctl, .dom, 0x0, 0x0, 0x0, 0x0, 0x0, 0x0, 2, 0x0⟩ ]

/-- All rows of block PMC. -/
def rowsPMC : List RegRow := rowsPMC0

/-- Rows of block TB, spec/04_timebase.md, part 1 of 2: TB_STATUS to TB_VOTE_DIFF. -/
def rowsTB0 : List RegRow :=
  [ ⟨0x80000, 1, 0x4, 1, 0x4, .tb, .boot, 0x0, 0x0, 0x0, 0x0, 0x0, 0x0, 0, 0x0⟩,
    ⟨0x80008, 1, 0x4, 1, 0x4, .tb, .boot, 0x0, 0x0, 0x0, 0x0, 0x0, 0x0, 0, 0x0⟩,
    ⟨0x8000C, 1, 0x4, 1, 0x4, .tb, .boot, 0x0, 0x0, 0x0, 0x0, 0x0, 0x0, 0, 0x0⟩,
    ⟨0x80010, 1, 0x4, 1, 0x4, .tb, .boot, 0x0, 0x0, 0x0, 0x0, 0x0, 0x0, 0, 0x0⟩,
    ⟨0x80014, 1, 0x4, 1, 0x4, .tb, .boot, 0x0, 0x0, 0x0, 0x0, 0x0, 0x0, 0, 0x0⟩,
    ⟨0x80018, 1, 0x4, 1, 0x4, .tb, .boot, 0x0, 0x0, 0x0, 0x0, 0x0, 0x0, 1, 0x0⟩,
    ⟨0x8001C, 1, 0x4, 1, 0x4, .tb, .boot, 0x0, 0x0, 0x0, 0x0, 0x0, 0x0, 2, 0x0⟩,
    ⟨0x80020, 1, 0x4, 1, 0x4, .tb, .boot, 0x0, 0x0, 0x0, 0x0, 0x0, 0x0, 1, 0x0⟩,
    ⟨0x80024, 1, 0x4, 1, 0x4, .tb, .boot, 0x0, 0x0, 0x0, 0x0, 0x0, 0x0, 2, 0x0⟩,
    ⟨0x80028, 1, 0x4, 1, 0x4, .tb, .boot, 0x0, 0x0, 0x0, 0x0, 0x0, 0x0, 1, 0x0⟩,
    ⟨0x8002C, 1, 0x4, 1, 0x4, .tb, .boot, 0x0, 0x0, 0x0, 0x0, 0x0, 0x0, 2, 0x0⟩,
    ⟨0x80030, 1, 0x4, 1, 0x4, .tb, .boot, 0x0, 0xFFFFFFFF, 0x0, 0x0, 0x0, 0x0, 1, 0x0⟩,
    ⟨0x80034, 1, 0x4, 1, 0x4, .tb, .boot, 0x0, 0xFFFFFFFF, 0x0, 0x0, 0x0, 0x0, 2, 0x0⟩,
    ⟨0x80038, 1, 0x4, 1, 0x4, .tb, .boot, 0x0, 0xFFFFFFFF, 0x0, 0x0, 0x0, 0x0, 1, 0x0⟩,
    ⟨0x8003C, 1, 0x4, 1, 0x4, .tb, .boot, 0x0, 0xFFFFFFFF, 0x0, 0x0, 0x0, 0x0, 2, 0x0⟩,
    ⟨0x80040, 1, 0x4, 1, 0x4, .tb, .boot, 0x0, 0x0, 0x0, 0x0, 0x0, 0x0, 1, 0x0⟩,
    ⟨0x80044, 1, 0x4, 1, 0x4, .tb, .boot, 0x0, 0x0, 0x0, 0x0, 0x0, 0x0, 2, 0x0⟩,
    ⟨0x80048, 1, 0x4, 1, 0x4, .tb, .boot, 0x0, 0x0, 0x0, 0x0, 0x0, 0x0, 0, 0x0⟩,
    ⟨0x8004C, 1, 0x4, 1, 0x4, .tb, .boot, 0x0, 0x0, 0x0, 0x0, 0x0, 0x0, 0, 0x0⟩,
    ⟨0x80050, 1, 0x4, 1, 0x4, .tb, .boot, 0x7D0, 0xFFFF, 0x0, 0x0, 0x0, 0x0, 0, 0x0⟩,
    ⟨0x80060, 1, 0x4, 1, 0x4, .tb, .boot, 0x0, 0xFFFF, 0x0, 0x0, 0x0, 0x0, 0, 0x0⟩,
    ⟨0x80064, 1, 0x4, 1, 0x4, .tb, .boot, 0x0, 0xFFFFFFFF, 0x0, 0x0, 0x0, 0x0, 0, 0x0⟩,
    ⟨0x80068, 1, 0x4, 1, 0x4, .tb, .boot, 0x0, 0xFFFFFFFF, 0x0, 0x0, 0x0, 0x0, 1, 0x0⟩,
    ⟨0x8006C, 1, 0x4, 1, 0x4, .tb, .boot, 0x0, 0xFFFF, 0x0, 0x0, 0x0, 0x0, 2, 0x0⟩,
    ⟨0x80070, 1, 0x4, 1, 0x4, .tb, .boot, 0x0, 0x0, 0x0, 0x0, 0x0, 0x0, 0, 0x0⟩,
    ⟨0x80078, 1, 0x4, 1, 0x4, .tb, .boot, 0x0, 0x0, 0x0, 0x0, 0x0, 0x0, 1, 0x0⟩,
    ⟨0x8007C, 1, 0x4, 1, 0x4, .tb, .boot, 0x0, 0x0, 0x0, 0x0, 0x0, 0x0, 2, 0x0⟩,
    ⟨0x80080, 1, 0x4, 1, 0x4, .tb, .boot, 0x0, 0x0, 0x0, 0x0, 0x0, 0x0, 0, 0x0⟩,
    ⟨0x80084, 1, 0x4, 1, 0x4, .tb, .boot, 0x0, 0x0, 0x0, 0x0, 0x0, 0x0, 0, 0x0⟩,
    ⟨0x80088, 1, 0x4, 1, 0x4, .tb, .boot, 0x0, 0x0, 0x0, 0x0, 0x0, 0x0, 0, 0x0⟩,
    ⟨0x8008C, 1, 0x4, 1, 0x4, .tb, .boot, 0x0, 0x0, 0x0, 0x0, 0x0, 0x0, 0, 0x0⟩,
    ⟨0x80100, 8, 0x20, 1, 0x4, .tb, .boot, 0x0, 0xFFFFFFFF, 0x0, 0x0, 0x0, 0x0, 1, 0x0⟩,
    ⟨0x80104, 8, 0x20, 1, 0x4, .tb, .boot, 0x0, 0xFFFFFFFF, 0x0, 0x0, 0x0, 0x0, 2, 0x0⟩,
    ⟨0x80108, 8, 0x20, 1, 0x4, .tb, .boot, 0x0, 0xFFFFFFFF, 0x0, 0x0, 0x0, 0x0, 1, 0x0⟩,
    ⟨0x8010C, 8, 0x20, 1, 0x4, .tb, .boot, 0x0, 0xFFFFFFFF, 0x0, 0x0, 0x0, 0x0, 2, 0x0⟩,
    ⟨0x80110, 8, 0x20, 1, 0x4, .tb, .boot, 0x0, 0x3, 0x4, 0x0, 0xFFFF0000, 0x0, 0, 0x0⟩,
    ⟨0x81000, 1, 0x4, 1, 0x4, .tb, .boot, 0x3, 0xFF, 0x0, 0x0, 0x0, 0x0, 0, 0x0⟩,
    ⟨0x81004, 3, 0x4, 1, 0x4, .tb, .boot, 0x0, 0x0, 0x0, 0x0, 0xFFFF, 0x0, 0, 0x0⟩,
    ⟨0x81010, 1, 0x4, 1, 0x4, .tb, .boot, 0x0, 0x0, 0x0, 0x0, 0x0, 0x0, 0, 0x0⟩,
    ⟨0x81014, 1, 0x4, 1, 0x4, .tb, .boot, 0x0, 0x0, 0x0, 0x0, 0x0, 0x0, 0, 0x0⟩ ]

/-- Rows of block TB, spec/04_timebase.md, part 2 of 2: TB_CH_SEL to TB_LPC_INC_HI. -/
def rowsTB1 : List RegRow :=
  [ ⟨0x81020, 1, 0x4, 1, 0x4, .tb, .boot, 0x0, 0x3, 0x0, 0x0, 0x0, 0x0, 0, 0x0⟩,
    ⟨0x81024, 1, 0x4, 1, 0x4, .tb, .boot, 0x0, 0x0, 0x0, 0x0, 0x0, 0x0, 1, 0x0⟩,
    ⟨0x81028, 1, 0x4, 1, 0x4, .tb, .boot, 0x0, 0x0, 0x0, 0x0, 0x0, 0x0, 2, 0x0⟩,
    ⟨0x8102C, 1, 0x4, 1, 0x4, .tb, .boot, 0x0, 0x0, 0x0, 0x0, 0x0, 0x0, 1, 0x0⟩,
    ⟨0x81030, 1, 0x4, 1, 0x4, .tb, .boot, 0x0, 0x0, 0x0, 0x0, 0x0, 0x0, 2, 0x0⟩,
    ⟨0x81034, 1, 0x4, 1, 0x4, .tb, .boot, 0x0, 0x0, 0x0, 0x0, 0x0, 0x0, 0, 0x0⟩,
    ⟨0x81040, 1, 0x4, 1, 0x4, .tb, .boot, 0x0, 0x0, 0x0, 0x0, 0x0, 0x0, 1, 0x0⟩,
    ⟨0x81044, 1, 0x4, 1, 0x4, .tb, .boot, 0x0, 0x0, 0x0, 0x0, 0x0, 0x0, 2, 0x0⟩,
    ⟨0x81048, 1, 0x4, 1, 0x4, .tb, .boot, 0x0, 0x0, 0x0, 0x0, 0x0, 0x0, 1, 0x0⟩,
    ⟨0x8104C, 1, 0x4, 1, 0x4, .tb, .boot, 0x0, 0x0, 0x0, 0x0, 0x0, 0x0, 2, 0x0⟩,
    ⟨0x81050, 1, 0x4, 1, 0x4, .tb, .boot, 0x0, 0x0, 0x0, 0x0, 0x0, 0x0, 1, 0x0⟩,
    ⟨0x81054, 1, 0x4, 1, 0x4, .tb, .boot, 0x0, 0x0, 0x0, 0x0, 0x0, 0x0, 2, 0x0⟩,
    ⟨0x81060, 1, 0x4, 1, 0x4, .aon, .por, 0x0, 0x0, 0x0, 0x0, 0x0, 0x0, 1, 0x0⟩,
    ⟨0x81064, 1, 0x4, 1, 0x4, .aon, .por, 0x0, 0x0, 0x0, 0x0, 0x0, 0x0, 2, 0x0⟩,
    ⟨0x81068, 1, 0x4, 1, 0x4, .aon, .por, 0x94000000, 0x0, 0x0, 0x0, 0x0, 0x0, 1, 0x0⟩,
    ⟨0x8106C, 1, 0x4, 1, 0x4, .aon, .por, 0x7735, 0x0, 0x0, 0x0, 0x0, 0x0, 2, 0x0⟩ ]

/-- All rows of block TB. -/
def rowsTB : List RegRow := rowsTB0 ++ rowsTB1

/-- Rows of block MEAS, spec/05_measurement.md, part 1 of 2: MEAS_STATUS to MEAS_SRC_DLY. -/
def rowsMEAS0 : List RegRow :=
  [ ⟨0x90000, 1, 0x4, 1, 0x4, .meas, .dom, 0x0, 0x0, 0xC, 0x0, 0x0, 0x0, 0, 0x0⟩,
    ⟨0x90010, 1, 0x4, 1, 0x4, .meas, .dom, 0x4, 0xF, 0x0, 0x0, 0x0, 0x0, 0, 0x0⟩,
    ⟨0x90014, 1, 0x4, 1, 0x4, .meas, .dom, 0x0, 0x0, 0x0, 0x0, 0x0, 0x0, 0, 0x0⟩,
    ⟨0x90018, 1, 0x4, 1, 0x4, .meas, .dom, 0x3C, 0xFFFF, 0x0, 0x0, 0x0, 0x0, 0, 0x0⟩,
    ⟨0x9001C, 1, 0x4, 1, 0x4, .meas, .dom, 0x0, 0x0, 0x0, 0x0, 0x0, 0x0, 0, 0x0⟩,
    ⟨0x90020, 1, 0x4, 1, 0x4, .meas, .dom, 0x0, 0x0, 0x0, 0x0, 0x0, 0x0, 0, 0x0⟩,
    ⟨0x90040, 8, 0x8, 1, 0x4, .meas, .dom, 0x2, 0x1F, 0x0, 0x0, 0xFFFF0000, 0x0, 0, 0x0⟩,
    ⟨0x90044, 8, 0x8, 1, 0x4, .meas, .dom, 0x0, 0xFFFFFFFF, 0x0, 0x0, 0x0, 0x0, 0, 0x0⟩,
    ⟨0x90100, 24, 0x4, 1, 0x4, .meas, .dom, 0x0, 0x0, 0x0, 0x0, 0xFFFF0000, 0x0, 0, 0x0⟩,
    ⟨0x90180, 8, 0x4, 1, 0x4, .meas, .dom, 0x0, 0x0, 0x0, 0x0, 0x0, 0x0, 0, 0x0⟩,
    ⟨0x91000, 1, 0x4, 1, 0x4, .meas, .dom, 0x0, 0x7F, 0x0, 0x0, 0x0, 0x0, 0, 0x0⟩,
    ⟨0x91004, 1, 0x4, 1, 0x4, .meas, .dom, 0x1C, 0xFFFF1F, 0x0, 0x0, 0x0, 0x0, 0, 0x91000⟩,
    ⟨0x91008, 1, 0x4, 1, 0x4, .meas, .dom, 0x1, 0x1FFFF, 0x0, 0x0, 0x0, 0x0, 0, 0x91000⟩,
    ⟨0x9100C, 1, 0x4, 1, 0x4, .meas, .dom, 0x1, 0x1FFFFFF, 0x0, 0x0, 0x0, 0x0, 0, 0x91000⟩,
    ⟨0x91010, 1, 0x4, 1, 0x4, .meas, .dom, 0x0, 0xFFFFFFFF, 0x0, 0x0, 0x0, 0x0, 1, 0x91000⟩,
    ⟨0x91014, 1, 0x4, 1, 0x4, .meas, .dom, 0x0, 0xFFFFFFFF, 0x0, 0x0, 0x0, 0x0, 2, 0x91000⟩,
    ⟨0x91018, 1, 0x4, 1, 0x4, .meas, .dom, 0x0, 0xFFFFFFFF, 0x0, 0x0, 0x0, 0x0, 1, 0x91000⟩,
    ⟨0x9101C, 1, 0x4, 1, 0x4, .meas, .dom, 0x0, 0xFFFFFFFF, 0x0, 0x0, 0x0, 0x0, 2, 0x91000⟩,
    ⟨0x91020, 1, 0x4, 1, 0x4, .meas, .dom, 0x0, 0xFFFFFFFF, 0x0, 0x0, 0x0, 0x0, 1, 0x91000⟩,
    ⟨0x91024, 1, 0x4, 1, 0x4, .meas, .dom, 0x0, 0xFFFFFFFF, 0x0, 0x0, 0x0, 0x0, 2, 0x91000⟩,
    ⟨0x91028, 1, 0x4, 1, 0x4, .meas, .dom, 0x0, 0xFFFFFFFF, 0x0, 0x0, 0x0, 0x0, 0, 0x91000⟩,
    ⟨0x9102C, 1, 0x4, 1, 0x4, .meas, .dom, 0x0, 0x0, 0x0, 0x0, 0x0, 0x0, 0, 0x91000⟩,
    ⟨0x91030, 1, 0x4, 1, 0x4, .meas, .dom, 0x0, 0x0, 0x0, 0x0, 0x0, 0x0, 0, 0x91000⟩,
    ⟨0x91034, 1, 0x4, 1, 0x4, .meas, .dom, 0x0, 0x0, 0x0, 0x0, 0x0, 0x0, 1, 0x91000⟩,
    ⟨0x91038, 1, 0x4, 1, 0x4, .meas, .dom, 0x0, 0x0, 0x0, 0x0, 0x0, 0x0, 2, 0x91000⟩,
    ⟨0x9103C, 1, 0x4, 1, 0x4, .meas, .dom, 0x0, 0x0, 0x0, 0x0, 0x0, 0x0, 0, 0x91000⟩,
    ⟨0x91040, 1, 0x4, 1, 0x4, .meas, .dom, 0x0, 0x0, 0x0, 0x0, 0x0, 0x0, 1, 0x91000⟩,
    ⟨0x91044, 1, 0x4, 1, 0x4, .meas, .dom, 0x0, 0x0, 0x0, 0x0, 0x0, 0x0, 2, 0x91000⟩,
    ⟨0x91048, 1, 0x4, 1, 0x4, .meas, .dom, 0x0, 0x0, 0x0, 0x0, 0x0, 0x0, 1, 0x91000⟩,
    ⟨0x9104C, 1, 0x4, 1, 0x4, .meas, .dom, 0x0, 0x0, 0x0, 0x0, 0x0, 0x0, 2, 0x91000⟩,
    ⟨0x91050, 1, 0x4, 1, 0x4, .meas, .dom, 0x0, 0x0, 0x0, 0x0, 0x0, 0x0, 1, 0x91000⟩,
    ⟨0x91054, 1, 0x4, 1, 0x4, .meas, .dom, 0x0, 0x0, 0x0, 0x0, 0x0, 0x0, 2, 0x91000⟩,
    ⟨0x91058, 1, 0x4, 1, 0x4, .meas, .dom, 0x0, 0x0, 0x0, 0x0, 0x0, 0x0, 0, 0x91000⟩,
    ⟨0x9105C, 1, 0x4, 1, 0x4, .meas, .dom, 0x0, 0x0, 0x0, 0x0, 0x0, 0x0, 0, 0x91000⟩,
    ⟨0x91060, 1, 0x4, 1, 0x4, .meas, .dom, 0x0, 0x0, 0x0, 0x0, 0x0, 0x0, 0, 0x91000⟩,
    ⟨0x91100, 1, 0x4, 1, 0x4, .meas, .dom, 0x0, 0xFF, 0x0, 0x0, 0x0, 0x0, 0, 0x0⟩,
    ⟨0x91104, 1, 0x4, 1, 0x4, .meas, .dom, 0x0, 0x0, 0x0, 0x0, 0x0, 0x0, 0, 0x91100⟩,
    ⟨0x91108, 1, 0x4, 1, 0x4, .meas, .dom, 0x0, 0x0, 0x0, 0x0, 0x0, 0x0, 0, 0x91100⟩,
    ⟨0x91180, 24, 0x4, 1, 0x4, .meas, .dom, 0x0, 0x0, 0x0, 0x0, 0x0, 0x0, 0, 0x0⟩,
    ⟨0x91200, 128, 0x4, 1, 0x4, .meas, .dom, 0x0, 0x0, 0x0, 0x0, 0x0, 0x0, 0, 0x0⟩ ]

/-- Rows of block MEAS, spec/05_measurement.md, part 2 of 2: MEAS_RESERVE to MEAS_RESERVE. -/
def rowsMEAS1 : List RegRow :=
  [ ⟨0x91400, 1, 0x4, 1, 0x4, .meas, .dom, 0x1, 0x1F, 0x0, 0x0, 0x0, 0x0, 0, 0x0⟩,
    ⟨0x91404, 1, 0x4, 1, 0x4, .meas, .dom, 0x2, 0x1F, 0x0, 0x0, 0x0, 0x0, 0, 0x0⟩,
    ⟨0x91408, 1, 0x4, 1, 0x4, .meas, .dom, 0x1, 0x1F, 0x0, 0x0, 0x0, 0x0, 0, 0x0⟩,
    ⟨0x9140C, 1, 0x4, 1, 0x4, .meas, .dom, 0x0, 0x1F, 0x0, 0x0, 0x0, 0x0, 0, 0x0⟩,
    ⟨0x91410, 1, 0x4, 1, 0x4, .meas, .dom, 0x0, 0x1F, 0x0, 0x0, 0x0, 0x0, 0, 0x0⟩,
    ⟨0x91414, 1, 0x4, 1, 0x4, .meas, .dom, 0x0, 0x1F, 0x0, 0x0, 0x0, 0x0, 0, 0x0⟩,
    ⟨0x91418, 1, 0x4, 1, 0x4, .meas, .dom, 0x0, 0x1F, 0x0, 0x0, 0x0, 0x0, 0, 0x0⟩,
    ⟨0x9141C, 1, 0x4, 1, 0x4, .meas, .dom, 0x0, 0x1F, 0x0, 0x0, 0x0, 0x0, 0, 0x0⟩ ]

/-- All rows of block MEAS. -/
def rowsMEAS : List RegRow := rowsMEAS0 ++ rowsMEAS1

/-- Rows of block REF, spec/06_references_holdover.md, part 1 of 2: REF_STATUS to REF_SERVO_KP. -/
def rowsREF0 : List RegRow :=
  [ ⟨0xA0000, 1, 0x4, 1, 0x4, .tb, .boot, 0xF8000000, 0x0, 0x4000, 0x0, 0x0, 0x0, 0, 0x0⟩,
    ⟨0xA0004, 1, 0x4, 1, 0x4, .tb, .boot, 0x8, 0xF, 0x0, 0x0, 0x0, 0x0, 0, 0x0⟩,
    ⟨0xA0008, 1, 0x4, 1, 0x4, .tb, .boot, 0x0, 0x0, 0x0, 0x0, 0x0, 0x0, 0, 0x0⟩,
    ⟨0xA000C, 1, 0x4, 1, 0x4, .tb, .boot, 0x0, 0x0, 0x0, 0x0, 0x0, 0x0, 0, 0x0⟩,
    ⟨0xA0010, 1, 0x4, 1, 0x4, .tb, .boot, 0x0, 0x3FFF, 0x0, 0x0, 0x0, 0x0, 0, 0x0⟩,
    ⟨0xA0014, 1, 0x4, 1, 0x4, .tb, .boot, 0x1E03E8, 0xFFFFFF, 0x0, 0x0, 0x0, 0x0, 0, 0x0⟩,
    ⟨0xA0018, 1, 0x4, 1, 0x4, .tb, .boot, 0x0, 0x0, 0x0, 0x0, 0x0, 0x0, 1, 0x0⟩,
    ⟨0xA001C, 1, 0x4, 1, 0x4, .tb, .boot, 0x0, 0x0, 0x0, 0x0, 0x0, 0x0, 2, 0x0⟩,
    ⟨0xA0020, 1, 0x4, 1, 0x4, .tb, .boot, 0xF88C07, 0xFFFFFF, 0x0, 0x0, 0x0, 0x0, 0, 0x0⟩,
    ⟨0xA0024, 1, 0x4, 1, 0x4, .tb, .boot, 0x0, 0xFFFFFFFF, 0x0, 0x0, 0x0, 0x0, 0, 0x0⟩,
    ⟨0xA0028, 1, 0x4, 1, 0x4, .tb, .boot, 0x0, 0x0, 0x0, 0x0, 0x0, 0x0, 0, 0x0⟩,
    ⟨0xA002C, 1, 0x4, 1, 0x4, .tb, .boot, 0xFFFFFFFF, 0x0, 0x0, 0x0, 0x0, 0x0, 0, 0x0⟩,
    ⟨0xA0030, 1, 0x4, 1, 0x4, .tb, .boot, 0xA0000, 0xFFFF0000, 0x0, 0x0, 0x0, 0x0, 0, 0x0⟩,
    ⟨0xA0034, 1, 0x4, 1, 0x4, .tb, .boot, 0x1388, 0xFFFFFFFF, 0x0, 0x0, 0x0, 0x0, 0, 0x0⟩,
    ⟨0xA0038, 1, 0x4, 1, 0x4, .tb, .boot, 0xA, 0xFF, 0x0, 0x0, 0x0, 0x0, 0, 0x0⟩,
    ⟨0xA003C, 1, 0x4, 1, 0x4, .tb, .boot, 0x3C0001, 0xFFF003F, 0x0, 0x0, 0x0, 0x0, 0, 0x0⟩,
    ⟨0xA0040, 1, 0x4, 1, 0x4, .tb, .boot, 0x12C2E10, 0xFFF3FFF, 0x0, 0x0, 0x0, 0x0, 0, 0x0⟩,
    ⟨0xA0044, 1, 0x4, 1, 0x4, .tb, .boot, 0x0, 0x0, 0x0, 0x0, 0x0, 0x0, 0, 0x0⟩,
    ⟨0xA0048, 1, 0x4, 1, 0x4, .tb, .boot, 0x0, 0x0, 0x0, 0x0, 0x0, 0x0, 0, 0x0⟩,
    ⟨0xA004C, 1, 0x4, 1, 0x4, .tb, .boot, 0x0, 0x30, 0x0, 0x0, 0x0, 0x0, 0, 0x0⟩,
    ⟨0xA0100, 32, 0x40, 1, 0x4, .tb, .boot, 0x0, 0xFF03F000, 0x0, 0x0, 0x0, 0x0, 0, 0x0⟩,
    ⟨0xA0104, 32, 0x40, 1, 0x4, .tb, .boot, 0xFB0, 0x0, 0x0, 0x0, 0x0, 0x0, 0, 0x0⟩,
    ⟨0xA0108, 32, 0x40, 1, 0x4, .tb, .boot, 0x0, 0xFFFFFFFF, 0x0, 0x0, 0x0, 0x0, 0, 0x0⟩,
    ⟨0xA010C, 32, 0x40, 1, 0x4, .tb, .boot, 0x0, 0xFFFFFFFF, 0x0, 0x0, 0x0, 0x0, 0, 0x0⟩,
    ⟨0xA0110, 32, 0x40, 1, 0x4, .tb, .boot, 0x0, 0xFFFFFFFF, 0x0, 0x0, 0x0, 0x0, 0, 0x0⟩,
    ⟨0xA0114, 32, 0x40, 1, 0x4, .tb, .boot, 0x0, 0xFFFFFFFF, 0x0, 0x0, 0x0, 0x0, 0, 0x0⟩,
    ⟨0xA0118, 32, 0x40, 1, 0x4, .tb, .boot, 0x0, 0xFFFFFFFF, 0x0, 0x0, 0x0, 0x0, 0, 0x0⟩,
    ⟨0xA011C, 32, 0x40, 1, 0x4, .tb, .boot, 0x0, 0xFFFFFF, 0x0, 0x0, 0x0, 0x0, 0, 0x0⟩,
    ⟨0xA0120, 32, 0x40, 1, 0x4, .tb, .boot, 0x0, 0x0, 0x0, 0x0, 0x0, 0x0, 0, 0x0⟩,
    ⟨0xA0124, 32, 0x40, 1, 0x4, .tb, .boot, 0x0, 0x0, 0x0, 0x0, 0x0, 0x0, 0, 0x0⟩,
    ⟨0xA0128, 32, 0x40, 1, 0x4, .tb, .boot, 0x0, 0x0, 0x0, 0x0, 0x0, 0x0, 0, 0x0⟩,
    ⟨0xA012C, 32, 0x40, 1, 0x4, .tb, .boot, 0x0, 0x0, 0x0, 0x0, 0x0, 0x0, 1, 0x0⟩,
    ⟨0xA0130, 32, 0x40, 1, 0x4, .tb, .boot, 0x0, 0x0, 0x0, 0x0, 0x0, 0x0, 2, 0x0⟩,
    ⟨0xA0900, 16, 0x4, 1, 0x4, .tb, .boot, 0x0, 0x7F1F, 0x0, 0x0, 0x0, 0x0, 0, 0x0⟩,
    ⟨0xA0A00, 4, 0x4, 1, 0x4, .tb, .boot, 0x0, 0xE, 0x0, 0x0, 0x0, 0x0, 0, 0x0⟩,
    ⟨0xA0A40, 2, 0x10, 1, 0x4, .aon, .por, 0x0, 0x0, 0x0, 0x0, 0x0, 0x0, 0, 0x0⟩,
    ⟨0xA0A44, 2, 0x10, 1, 0x4, .aon, .por, 0x800000, 0xFFFFFF, 0x0, 0x0, 0x0, 0x0, 0, 0x0⟩,
    ⟨0xA0A48, 2, 0x10, 1, 0x4, .tb, .boot, 0x0, 0xFFFFFFFF, 0x0, 0x0, 0x0, 0x0, 0, 0x0⟩,
    ⟨0xA0A60, 1, 0x4, 1, 0x4, .tb, .boot, 0x0, 0x0, 0x0, 0x0, 0x0, 0x0, 0, 0x0⟩,
    ⟨0xA1000, 1, 0x4, 1, 0x4, .tb, .boot, 0x0, 0x801FFFFF, 0x0, 0x0, 0x0, 0x0, 0, 0x0⟩ ]

/-- Rows of block REF, spec/06_references_holdover.md, part 2 of 2: REF_SERVO_KI to REF_FEED_U. -/
def rowsREF1 : List RegRow :=
  [ ⟨0xA1004, 1, 0x4, 1, 0x4, .tb, .boot, 0x0, 0x1FFFFF, 0x0, 0x0, 0x0, 0x0, 0, 0x0⟩,
    ⟨0xA1008, 1, 0x4, 1, 0x4, .tb, .boot, 0x0, 0xFFFFFFFF, 0x0, 0x0, 0x0, 0x0, 1, 0x0⟩,
    ⟨0xA100C, 1, 0x4, 1, 0x4, .tb, .boot, 0x0, 0xFFFFFFFF, 0x0, 0x0, 0x0, 0x0, 2, 0x0⟩,
    ⟨0xA1010, 1, 0x4, 1, 0x4, .tb, .boot, 0x0, 0xFFFFFFFF, 0x0, 0x0, 0x0, 0x0, 1, 0x0⟩,
    ⟨0xA1014, 1, 0x4, 1, 0x4, .tb, .boot, 0x0, 0xFFFFFFFF, 0x0, 0x0, 0x0, 0x0, 2, 0x0⟩,
    ⟨0xA1020, 1, 0x4, 1, 0x4, .tb, .boot, 0x0, 0xFFFFFFFF, 0x0, 0x0, 0x0, 0x0, 1, 0x0⟩,
    ⟨0xA1024, 1, 0x4, 1, 0x4, .tb, .boot, 0x0, 0xFFFFFFFF, 0x0, 0x0, 0x0, 0x0, 2, 0x0⟩,
    ⟨0xA1028, 1, 0x4, 1, 0x4, .tb, .boot, 0x0, 0xFFFFFFFF, 0x0, 0x0, 0x0, 0x0, 0, 0x0⟩,
    ⟨0xA102C, 1, 0x4, 1, 0x4, .tb, .boot, 0xA00, 0xFFF1, 0x0, 0x0, 0x0, 0x0, 0, 0x0⟩,
    ⟨0xA1030, 1, 0x4, 1, 0x4, .tb, .boot, 0x0, 0xFFFFFFFF, 0x0, 0x0, 0x0, 0x0, 1, 0x0⟩,
    ⟨0xA1034, 1, 0x4, 1, 0x4, .tb, .boot, 0x0, 0xFFFFFFFF, 0x0, 0x0, 0x0, 0x0, 2, 0x0⟩,
    ⟨0xA1038, 1, 0x4, 1, 0x4, .tb, .boot, 0x0, 0xFFFFFFFF, 0x0, 0x0, 0x0, 0x0, 0, 0x0⟩,
    ⟨0xA103C, 1, 0x4, 1, 0x4, .tb, .boot, 0x0, 0x1, 0x0, 0x0, 0x0, 0x0, 0, 0x0⟩,
    ⟨0xA1040, 1, 0x4, 1, 0x4, .tb, .boot, 0x0, 0xFFFFFFFF, 0x0, 0x0, 0x0, 0x0, 0, 0x0⟩,
    ⟨0xA1044, 1, 0x4, 1, 0x4, .tb, .boot, 0xF4240, 0xFFFFFFFF, 0x0, 0x0, 0x0, 0x0, 0, 0x0⟩,
    ⟨0xA1048, 1, 0x4, 1, 0x4, .tb, .boot, 0x2710, 0xFFFFFFFF, 0x0, 0x0, 0x0, 0x0, 0, 0x0⟩,
    ⟨0xA1050, 1, 0x4, 1, 0x4, .tb, .boot, 0x0, 0xFFF, 0x0, 0x0, 0x0, 0x0, 0, 0x0⟩,
    ⟨0xA1054, 8, 0x4, 1, 0x4, .tb, .boot, 0x0, 0x0, 0x0, 0x0, 0x0, 0x0, 0, 0xA1050⟩,
    ⟨0xA1080, 1, 0x4, 1, 0x4, .aon, .por, 0x0, 0x0, 0x0, 0x0, 0x0, 0x0, 1, 0x0⟩,
    ⟨0xA1084, 1, 0x4, 1, 0x4, .aon, .por, 0x0, 0x0, 0x0, 0x0, 0x0, 0x0, 2, 0x0⟩,
    ⟨0xA1088, 1, 0x4, 1, 0x4, .aon, .por, 0x0, 0x0, 0x0, 0x0, 0x0, 0x0, 0, 0x0⟩,
    ⟨0xA108C, 1, 0x4, 1, 0x4, .aon, .por, 0x0, 0x0, 0x0, 0x0, 0x0, 0x0, 1, 0x0⟩,
    ⟨0xA1090, 1, 0x4, 1, 0x4, .aon, .por, 0x0, 0x0, 0x0, 0x0, 0x0, 0x0, 2, 0x0⟩,
    ⟨0xA1094, 1, 0x4, 1, 0x4, .aon, .por, 0x0, 0x0, 0x0, 0x0, 0x0, 0x0, 0, 0x0⟩,
    ⟨0xA10A0, 2, 0x4, 1, 0x4, .tb, .boot, 0x0, 0x80FFFFFF, 0x0, 0x0, 0x0, 0x0, 0, 0x0⟩,
    ⟨0xA10C0, 1, 0x4, 1, 0x4, .tb, .boot, 0x0, 0x1F, 0x0, 0x0, 0x0, 0x0, 0, 0x0⟩,
    ⟨0xA10C4, 1, 0x4, 1, 0x4, .tb, .boot, 0x0, 0xFFFFFFFF, 0x0, 0x0, 0x0, 0x0, 1, 0xA10C0⟩,
    ⟨0xA10C8, 1, 0x4, 1, 0x4, .tb, .boot, 0x0, 0xFFFFFFFF, 0x0, 0x0, 0x0, 0x0, 2, 0xA10C0⟩,
    ⟨0xA10CC, 1, 0x4, 1, 0x4, .tb, .boot, 0x0, 0x3FFFFFF, 0x0, 0x0, 0x0, 0x0, 0, 0xA10C0⟩ ]

/-- All rows of block REF. -/
def rowsREF : List RegRow := rowsREF0 ++ rowsREF1

/-- Rows of block BND, spec/07_error_bound.md, part 1 of 2: BND_STATUS to BND_HOLD_BASE_LO. -/
def rowsBND0 : List RegRow :=
  [ ⟨0xB0000, 1, 0x4, 1, 0x4, .tb, .boot, 0xFEF80001, 0x0, 0x40, 0x0, 0x0, 0x0, 0, 0x0⟩,
    ⟨0xB0008, 1, 0x4, 1, 0x4, .tb, .boot, 0xFFFFFFFF, 0x0, 0x0, 0x0, 0x0, 0x0, 1, 0x0⟩,
    ⟨0xB000C, 1, 0x4, 1, 0x4, .tb, .boot, 0xFFFF, 0x0, 0x0, 0x0, 0x0, 0x0, 2, 0x0⟩,
    ⟨0xB0010, 1, 0x4, 1, 0x4, .tb, .boot, 0x0, 0x0, 0x0, 0x0, 0x0, 0x0, 1, 0x0⟩,
    ⟨0xB0014, 1, 0x4, 1, 0x4, .tb, .boot, 0x0, 0x0, 0x0, 0x0, 0x0, 0x0, 2, 0x0⟩,
    ⟨0xB0018, 1, 0x4, 1, 0x4, .tb, .boot, 0x0, 0x0, 0x0, 0x0, 0x0, 0x0, 1, 0x0⟩,
    ⟨0xB001C, 1, 0x4, 1, 0x4, .tb, .boot, 0x80000000, 0x0, 0x0, 0x0, 0x0, 0x0, 2, 0x0⟩,
    ⟨0xB0020, 1, 0x4, 1, 0x4, .tb, .boot, 0x0, 0x0, 0x0, 0x0, 0x0, 0x0, 1, 0x0⟩,
    ⟨0xB0024, 1, 0x4, 1, 0x4, .tb, .boot, 0x0, 0x0, 0x0, 0x0, 0x0, 0x0, 2, 0x0⟩,
    ⟨0xB0028, 1, 0x4, 1, 0x4, .tb, .boot, 0x0, 0x0, 0x0, 0x0, 0x0, 0x0, 1, 0x0⟩,
    ⟨0xB002C, 1, 0x4, 1, 0x4, .tb, .boot, 0x0, 0x0, 0x0, 0x0, 0x0, 0x0, 2, 0x0⟩,
    ⟨0xB0030, 1, 0x4, 1, 0x4, .tb, .boot, 0x0, 0x0, 0x0, 0x0, 0x0, 0x0, 1, 0x0⟩,
    ⟨0xB0034, 1, 0x4, 1, 0x4, .tb, .boot, 0x0, 0x0, 0x0, 0x0, 0x0, 0x0, 2, 0x0⟩,
    ⟨0xB0038, 1, 0x4, 1, 0x4, .tb, .boot, 0x0, 0x0, 0x0, 0x0, 0x0, 0x0, 1, 0x0⟩,
    ⟨0xB003C, 1, 0x4, 1, 0x4, .tb, .boot, 0x0, 0x0, 0x0, 0x0, 0x0, 0x0, 2, 0x0⟩,
    ⟨0xB0040, 1, 0x4, 1, 0x4, .tb, .boot, 0x0, 0x0, 0x0, 0x0, 0x0, 0x0, 1, 0x0⟩,
    ⟨0xB0044, 1, 0x4, 1, 0x4, .tb, .boot, 0x0, 0x0, 0x0, 0x0, 0x0, 0x0, 2, 0x0⟩,
    ⟨0xB0048, 1, 0x4, 1, 0x4, .tb, .boot, 0x0, 0x0, 0x0, 0x0, 0x0, 0x0, 0, 0x0⟩,
    ⟨0xB0050, 1, 0x4, 1, 0x4, .aon, .boot, 0x0, 0x0, 0x0, 0x0, 0x0, 0x0, 1, 0x0⟩,
    ⟨0xB0054, 1, 0x4, 1, 0x4, .aon, .boot, 0x0, 0x0, 0x0, 0x0, 0x0, 0x0, 2, 0x0⟩,
    ⟨0xB0060, 1, 0x4, 1, 0x4, .tb, .boot, 0x0, 0x0, 0x0, 0x0, 0x0, 0x0, 1, 0x0⟩,
    ⟨0xB0064, 1, 0x4, 1, 0x4, .tb, .boot, 0x0, 0x0, 0x0, 0x0, 0x0, 0x0, 2, 0x0⟩,
    ⟨0xB0068, 1, 0x4, 1, 0x4, .tb, .boot, 0x0, 0x0, 0x0, 0x0, 0x0, 0x0, 0, 0x0⟩,
    ⟨0xB006C, 1, 0x4, 1, 0x4, .tb, .boot, 0xA, 0xFFFF, 0x0, 0x0, 0x0, 0x0, 0, 0x0⟩,
    ⟨0xB0070, 1, 0x4, 1, 0x4, .tb, .boot, 0x8C, 0xFF, 0x0, 0x0, 0x0, 0x0, 0, 0x0⟩,
    ⟨0xB0074, 1, 0x4, 1, 0x4, .tb, .boot, 0x3, 0xF, 0x0, 0x0, 0x0, 0x0, 0, 0x0⟩,
    ⟨0xB0078, 1, 0x4, 1, 0x4, .tb, .boot, 0x989680, 0xFFFFFFFF, 0x0, 0x0, 0x0, 0x0, 0, 0x0⟩,
    ⟨0xB007C, 1, 0x4, 1, 0x4, .tb, .boot, 0xF4240, 0xFFFFFFFF, 0x0, 0x0, 0x0, 0x0, 0, 0x0⟩,
    ⟨0xB0080, 1, 0x4, 1, 0x4, .tb, .boot, 0xA, 0xFFFFFFFF, 0x0, 0x0, 0x0, 0x0, 0, 0x0⟩,
    ⟨0xB0100, 8, 0x8, 1, 0x4, .tb, .boot, 0x3E8, 0x0, 0x0, 0x0, 0x0, 0x0, 0, 0x0⟩,
    ⟨0xB0140, 1, 0x8, 1, 0x4, .tb, .boot, 0x4E20, 0x0, 0x0, 0x0, 0x0, 0x0, 0, 0x0⟩,
    ⟨0xB0104, 9, 0x8, 1, 0x4, .tb, .boot, 0x0, 0x0, 0x0, 0x0, 0x0, 0x0, 0, 0x0⟩,
    ⟨0xB1000, 1, 0x4, 1, 0x4, .tb, .boot, 0x64, 0xFFFFFFFF, 0x0, 0x0, 0x0, 0x0, 0, 0x0⟩,
    ⟨0xB1004, 1, 0x4, 1, 0x4, .tb, .boot, 0xA, 0xFFFFFFFF, 0x0, 0x0, 0x0, 0x0, 0, 0x0⟩,
    ⟨0xB1008, 1, 0x4, 1, 0x4, .tb, .boot, 0xA, 0xFFFFFFFF, 0x0, 0x0, 0x0, 0x0, 0, 0x0⟩,
    ⟨0xB100C, 1, 0x4, 1, 0x4, .tb, .boot, 0x1, 0xFFFFFFFF, 0x0, 0x0, 0x0, 0x0, 0, 0x0⟩,
    ⟨0xB1010, 1, 0x4, 1, 0x4, .tb, .boot, 0xF4240, 0xFFFFFFFF, 0x0, 0x0, 0x0, 0x0, 0, 0x0⟩,
    ⟨0xB1014, 1, 0x4, 1, 0x4, .tb, .boot, 0xA, 0xFFFF, 0x0, 0x0, 0x0, 0x0, 0, 0x0⟩,
    ⟨0xB1018, 1, 0x4, 1, 0x4, .aon, .boot, 0x14, 0xFFFF, 0x0, 0x0, 0x0, 0x0, 0, 0x0⟩,
    ⟨0xB101C, 1, 0x4, 1, 0x4, .tb, .boot, 0x4E201388, 0xFFFFFFFF, 0x0, 0x0, 0x0, 0x0, 0, 0x0⟩,
    ⟨0xB1020, 1, 0x4, 1, 0x4, .aon, .por, 0x0, 0x0, 0x0, 0x0, 0x0, 0x0, 1, 0x0⟩ ]

/-- Rows of block BND, spec/07_error_bound.md, part 2 of 2: BND_HOLD_BASE_HI to BND_ANCHOR_SEQ. -/
def rowsBND1 : List RegRow :=
  [ ⟨0xB1024, 1, 0x4, 1, 0x4, .aon, .por, 0x0, 0x0, 0x0, 0x0, 0x0, 0x0, 2, 0x0⟩,
    ⟨0xB1028, 1, 0x4, 1, 0x4, .aon, .por, 0x0, 0x0, 0x0, 0x0, 0x0, 0x0, 1, 0x0⟩,
    ⟨0xB102C, 1, 0x4, 1, 0x4, .aon, .por, 0x0, 0x0, 0x0, 0x0, 0x0, 0x0, 2, 0x0⟩,
    ⟨0xB1030, 1, 0x4, 1, 0x4, .aon, .por, 0x0, 0x0, 0x0, 0x0, 0x0, 0x0, 0, 0x0⟩,
    ⟨0xB1034, 1, 0x4, 1, 0x4, .aon, .por, 0x0, 0x0, 0x0, 0x0, 0x0, 0x0, 0, 0x0⟩,
    ⟨0xB1038, 1, 0x4, 1, 0x4, .aon, .por, 0x0, 0x0, 0x0, 0x0, 0x0, 0x0, 0, 0x0⟩,
    ⟨0xB1040, 1, 0x4, 1, 0x4, .tb, .boot, 0x602, 0xFFFF, 0x0, 0x0, 0x0, 0x0, 0, 0x0⟩,
    ⟨0xB1050, 1, 0x4, 1, 0x4, .tb, .boot, 0x0, 0xFF, 0x0, 0x0, 0x0, 0x0, 0, 0x0⟩,
    ⟨0xB1054, 1, 0x4, 1, 0x4, .tb, .boot, 0x0, 0x0, 0x0, 0x0, 0x0, 0x0, 0, 0xB1050⟩,
    ⟨0xB1058, 1, 0x4, 1, 0x4, .tb, .boot, 0x0, 0x0, 0x0, 0x0, 0x0, 0x0, 0, 0xB1050⟩ ]

/-- All rows of block BND. -/
def rowsBND : List RegRow := rowsBND0 ++ rowsBND1

/-- Rows of block SYN, spec/08_synthesis_outputs.md, part 1 of 1: SYN_STATUS to SYN_PPS_LAT. -/
def rowsSYN0 : List RegRow :=
  [ ⟨0xC0000, 1, 0x4, 1, 0x4, .syn, .dom, 0x0, 0x0, 0x0, 0x0, 0x0, 0x0, 0, 0x0⟩,
    ⟨0xC0004, 1, 0x4, 1, 0x4, .syn, .dom, 0x0, 0x0, 0x0, 0x0, 0x0, 0x0, 0, 0x0⟩,
    ⟨0xC0008, 1, 0x4, 1, 0x4, .syn, .dom, 0x1, 0xFF, 0x0, 0x0, 0x0, 0x0, 0, 0x0⟩,
    ⟨0xC000C, 1, 0x4, 1, 0x4, .syn, .dom, 0xA, 0xFFFF, 0x0, 0x0, 0x0, 0x0, 0, 0x0⟩,
    ⟨0xC0010, 1, 0x4, 1, 0x4, .syn, .dom, 0x3C, 0xFFFF, 0x0, 0x0, 0x0, 0x0, 0, 0x0⟩,
    ⟨0xC0014, 1, 0x4, 1, 0x4, .syn, .dom, 0x4, 0xFF, 0x0, 0x0, 0x0, 0x0, 0, 0x0⟩,
    ⟨0xC0020, 4, 0x4, 1, 0x4, .syn, .dom, 0x0, 0x0, 0x0, 0x0, 0x0, 0x0, 0, 0x0⟩,
    ⟨0xC0100, 4, 0x20, 1, 0x4, .syn, .dom, 0x0, 0xF, 0x0, 0x0, 0x0, 0x0, 0, 0x0⟩,
    ⟨0xC0104, 4, 0x20, 1, 0x4, .syn, .dom, 0x0, 0x3FFF, 0x0, 0x0, 0x0, 0x0, 0, 0x0⟩,
    ⟨0xC0108, 4, 0x20, 1, 0x4, .syn, .dom, 0x0, 0xFFFFFFFF, 0x0, 0x0, 0x0, 0x0, 0, 0x0⟩,
    ⟨0xC010C, 4, 0x20, 1, 0x4, .syn, .dom, 0x0, 0x0, 0x0, 0x0, 0x0, 0x0, 0, 0x0⟩,
    ⟨0xC0110, 4, 0x20, 1, 0x4, .syn, .dom, 0x0, 0x0, 0x0, 0x0, 0x0, 0x0, 0, 0x0⟩,
    ⟨0xC0114, 4, 0x20, 1, 0x4, .syn, .dom, 0x0, 0x0, 0x0, 0x0, 0x0, 0x0, 0, 0x0⟩,
    ⟨0xC0118, 4, 0x20, 1, 0x4, .syn, .dom, 0x32, 0xFFFF, 0x0, 0x0, 0x0, 0x0, 0, 0x0⟩,
    ⟨0xC0300, 16, 0x20, 1, 0x4, .syn, .dom, 0x30, 0x77F, 0x0, 0x0, 0x0, 0x0, 0, 0x0⟩,
    ⟨0xC0304, 16, 0x20, 1, 0x4, .syn, .dom, 0x0, 0xFFFFFF, 0x0, 0x0, 0x0, 0x0, 0, 0x0⟩,
    ⟨0xC0308, 16, 0x20, 1, 0x4, .syn, .dom, 0x2000, 0x3FFF, 0x0, 0x0, 0x0, 0x0, 0, 0x0⟩,
    ⟨0xC030C, 16, 0x20, 1, 0x4, .syn, .dom, 0x0, 0xFFFFFFFF, 0x0, 0x0, 0x0, 0x0, 0, 0x0⟩,
    ⟨0xC0310, 16, 0x20, 1, 0x4, .syn, .dom, 0x0, 0x0, 0x0, 0x0, 0x0, 0x0, 0, 0x0⟩,
    ⟨0xC0314, 16, 0x20, 1, 0x4, .syn, .dom, 0x0, 0x0, 0x0, 0x0, 0x0, 0x0, 0, 0x0⟩,
    ⟨0xC0318, 16, 0x20, 1, 0x4, .syn, .dom, 0x0, 0xFFFFFF, 0x0, 0x0, 0x0, 0x0, 0, 0x0⟩,
    ⟨0xC031C, 16, 0x20, 1, 0x4, .syn, .dom, 0x0, 0x0, 0x0, 0x0, 0x0, 0x0, 0, 0x0⟩,
    ⟨0xC0500, 8, 0x4, 1, 0x4, .syn, .dom, 0x0, 0xFFFFFF, 0x0, 0x0, 0x0, 0x0, 0, 0x0⟩,
    ⟨0xC0600, 4, 0x20, 1, 0x4, .syn, .dom, 0x4, 0x7, 0x0, 0x0, 0x0, 0x0, 0, 0x0⟩,
    ⟨0xC0604, 4, 0x20, 1, 0x4, .syn, .dom, 0xCA000000, 0xFFFFFFFF, 0x0, 0x0, 0x0, 0x0, 1, 0x0⟩,
    ⟨0xC0608, 4, 0x20, 1, 0x4, .syn, .dom, 0x3B9A, 0xFFFFFFFF, 0x0, 0x0, 0x0, 0x0, 2, 0x0⟩,
    ⟨0xC060C, 4, 0x20, 1, 0x4, .syn, .dom, 0x5F5E100, 0xFFFFFFFF, 0x0, 0x0, 0x0, 0x0, 0, 0x0⟩,
    ⟨0xC0610, 4, 0x20, 1, 0x4, .syn, .dom, 0x0, 0xFFFFFFFF, 0x0, 0x0, 0x0, 0x0, 1, 0x0⟩,
    ⟨0xC0614, 4, 0x20, 1, 0x4, .syn, .dom, 0x0, 0xFFFFFFFF, 0x0, 0x0, 0x0, 0x0, 2, 0x0⟩,
    ⟨0xC0618, 4, 0x20, 1, 0x4, .syn, .dom, 0x0, 0x0, 0x0, 0x0, 0xFFFFFFFF, 0x0, 0, 0x0⟩,
    ⟨0xC061C, 4, 0x20, 1, 0x4, .syn, .dom, 0x0, 0x0, 0x0, 0x0, 0x0, 0x0, 0, 0x0⟩,
    ⟨0xC1000, 4, 0x400, 128, 0x8, .syn, .dom, 0x0, 0x8001FFFF, 0x0, 0x0, 0x0, 0x0, 0, 0x0⟩,
    ⟨0xC1004, 4, 0x400, 128, 0x8, .syn, .dom, 0x0, 0x1FFFF, 0x0, 0x0, 0x0, 0x0, 0, 0x0⟩,
    ⟨0xC2000, 4, 0x200, 32, 0x10, .syn, .dom, 0x0, 0x0, 0x0, 0x0, 0x0, 0x0, 0, 0x0⟩,
    ⟨0xC2004, 4, 0x200, 32, 0x10, .syn, .dom, 0x0, 0x0, 0x0, 0x0, 0x0, 0x0, 0, 0x0⟩,
    ⟨0xC2008, 4, 0x200, 32, 0x10, .syn, .dom, 0x0, 0x0, 0x0, 0x0, 0x0, 0x0, 0, 0x0⟩,
    ⟨0xC200C, 4, 0x200, 32, 0x10, .syn, .dom, 0x0, 0x2, 0x0, 0x0, 0x0, 0x0, 0, 0x0⟩,
    ⟨0xC2800, 4, 0x4, 1, 0x4, .syn, .dom, 0x0, 0x0, 0x0, 0x0, 0x0, 0x0, 0, 0x0⟩,
    ⟨0xC2810, 4, 0x4, 1, 0x4, .syn, .dom, 0x0, 0x0, 0x0, 0x0, 0x0, 0x0, 0, 0x0⟩ ]

/-- All rows of block SYN. -/
def rowsSYN : List RegRow := rowsSYN0

/-- Rows of block GN, spec/09_gnss_baseband.md, part 1 of 2: GN_STATUS to GN_ACQ_CFG. -/
def rowsGN0 : List RegRow :=
  [ ⟨0xD0000, 1, 0x4, 1, 0x4, .gnss, .dom, 0x0, 0x0, 0x0, 0x0, 0x0, 0x0, 0, 0x0⟩,
    ⟨0xD0004, 1, 0x4, 1, 0x4, .gnss, .dom, 0x0, 0x0, 0x0, 0x0, 0x0, 0x0, 0, 0x0⟩,
    ⟨0xD0010, 1, 0x4, 1, 0x4, .gnss, .dom, 0x0, 0x7, 0x0, 0x0, 0x0, 0x0, 0, 0x0⟩,
    ⟨0xD0014, 1, 0x4, 1, 0x4, .gnss, .dom, 0x0, 0x0, 0x0, 0x0, 0x0, 0x0, 0, 0x0⟩,
    ⟨0xD0018, 1, 0x4, 1, 0x4, .gnss, .dom, 0x0, 0xFFFFFFFF, 0x0, 0x0, 0x0, 0x0, 0, 0x0⟩,
    ⟨0xD0100, 4, 0x20, 1, 0x4, .gnss, .dom, 0x0, 0x3, 0x0, 0x0, 0x0, 0x0, 0, 0x0⟩,
    ⟨0xD0104, 4, 0x20, 1, 0x4, .gnss, .dom, 0x0, 0x7FFFFFF, 0x0, 0x0, 0x0, 0x0, 0, 0x0⟩,
    ⟨0xD0108, 4, 0x20, 1, 0x4, .gnss, .dom, 0x0, 0xFFFFFFFF, 0x0, 0x0, 0x0, 0x0, 0, 0x0⟩,
    ⟨0xD010C, 4, 0x20, 1, 0x4, .gnss, .dom, 0x0, 0x0, 0x0, 0x0, 0x0, 0x0, 0, 0x0⟩,
    ⟨0xD0110, 4, 0x20, 1, 0x4, .gnss, .dom, 0x0, 0xFFFFFFFF, 0x0, 0x0, 0x0, 0x0, 0, 0x0⟩,
    ⟨0xD0114, 4, 0x20, 1, 0x4, .gnss, .dom, 0x0, 0x0, 0x0, 0x0, 0x0, 0x0, 1, 0x0⟩,
    ⟨0xD0118, 4, 0x20, 1, 0x4, .gnss, .dom, 0x0, 0x0, 0x0, 0x0, 0x0, 0x0, 2, 0x0⟩,
    ⟨0xD0200, 1, 0x4, 1, 0x4, .gnss, .dom, 0x0, 0xFFFFFFFF, 0x0, 0x0, 0x0, 0x0, 1, 0x0⟩,
    ⟨0xD0204, 1, 0x4, 1, 0x4, .gnss, .dom, 0x0, 0xFFFFFFFF, 0x0, 0x0, 0x0, 0x0, 2, 0x0⟩,
    ⟨0xD0208, 1, 0x4, 1, 0x4, .gnss, .dom, 0x0, 0x3FFFFFFF, 0x0, 0x0, 0x0, 0x0, 0, 0x0⟩,
    ⟨0xD020C, 1, 0x4, 1, 0x4, .gnss, .dom, 0x0, 0xF, 0x0, 0x0, 0x0, 0x0, 0, 0x0⟩,
    ⟨0xD0210, 1, 0x4, 1, 0x4, .gnss, .dom, 0x0, 0x0, 0x0, 0x0, 0xFFFFFFFF, 0x0, 0, 0x0⟩,
    ⟨0xD0214, 1, 0x4, 1, 0x4, .gnss, .dom, 0x12C40, 0xFFFFF7, 0x0, 0x0, 0x0, 0x0, 0, 0x0⟩,
    ⟨0xD0218, 1, 0x4, 1, 0x4, .gnss, .dom, 0x14512C, 0xFFFFFFF, 0x0, 0x0, 0x0, 0x0, 0, 0x0⟩,
    ⟨0xD021C, 1, 0x4, 1, 0x4, .gnss, .dom, 0x0, 0xFFFFFFFF, 0x0, 0x0, 0x0, 0x0, 0, 0x0⟩,
    ⟨0xD0220, 1, 0x4, 1, 0x4, .gnss, .dom, 0x0, 0xFFFFFFFF, 0x0, 0x0, 0x0, 0x0, 0, 0x0⟩,
    ⟨0xD0224, 1, 0x4, 1, 0x4, .gnss, .dom, 0x0, 0xFFFFFFFF, 0x0, 0x0, 0x0, 0x0, 0, 0x0⟩,
    ⟨0xD0228, 1, 0x4, 1, 0x4, .gnss, .dom, 0x0, 0xFFFF, 0x0, 0x0, 0x0, 0x0, 0, 0x0⟩,
    ⟨0xD022C, 1, 0x4, 1, 0x4, .gnss, .dom, 0x4, 0xF, 0x0, 0x0, 0x0, 0x0, 0, 0x0⟩,
    ⟨0xD0300, 1, 0x4, 1, 0x4, .gnss, .dom, 0x10, 0xFFF, 0x0, 0x0, 0x0, 0x0, 0, 0x0⟩,
    ⟨0xD0304, 1, 0x4, 1, 0x4, .gnss, .dom, 0x0, 0x0, 0x0, 0x0, 0x0, 0x0, 0, 0x0⟩,
    ⟨0xD0308, 1, 0x4, 1, 0x4, .gnss, .dom, 0x0, 0x0, 0x0, 0x0, 0x0, 0x0, 0, 0x0⟩,
    ⟨0xD0310, 1, 0x4, 1, 0x4, .gnss, .dom, 0x0, 0xFFFFFFFF, 0x0, 0x0, 0x0, 0x0, 1, 0x0⟩,
    ⟨0xD0314, 1, 0x4, 1, 0x4, .gnss, .dom, 0x0, 0xFFFFFFFF, 0x0, 0x0, 0x0, 0x0, 2, 0x0⟩,
    ⟨0xD0320, 4, 0x10, 1, 0x4, .gnss, .dom, 0x0, 0x0, 0x0, 0x0, 0x0, 0x0, 0, 0x0⟩,
    ⟨0xD0324, 4, 0x10, 1, 0x4, .gnss, .dom, 0x0, 0x0, 0x0, 0x0, 0x0, 0x0, 0, 0x0⟩,
    ⟨0xD0328, 4, 0x10, 1, 0x4, .gnss, .dom, 0x0, 0x0, 0x0, 0x0, 0x0, 0x0, 1, 0x0⟩,
    ⟨0xD032C, 4, 0x10, 1, 0x4, .gnss, .dom, 0x0, 0x0, 0x0, 0x0, 0x0, 0x0, 2, 0x0⟩,
    ⟨0xD0380, 1, 0x4, 1, 0x4, .aon, .por, 0x82A14, 0x3FFFFFF, 0x0, 0x0, 0x0, 0x0, 0, 0x0⟩,
    ⟨0xD0384, 1, 0x4, 1, 0x4, .aon, .por, 0xE10, 0xFFFFFFFF, 0x0, 0x0, 0x0, 0x0, 0, 0x0⟩,
    ⟨0xD0388, 1, 0x4, 1, 0x4, .aon, .por, 0x0, 0x0, 0x0, 0x0, 0x0, 0x0, 1, 0x0⟩,
    ⟨0xD038C, 1, 0x4, 1, 0x4, .aon, .por, 0x0, 0x0, 0x0, 0x0, 0x0, 0x0, 2, 0x0⟩,
    ⟨0xD0390, 1, 0x4, 1, 0x4, .aon, .por, 0x0, 0x0, 0x0, 0x0, 0x0, 0x0, 0, 0x0⟩,
    ⟨0xD1000, 1, 0x4, 1, 0x4, .gnss, .dom, 0x0, 0xF, 0x0, 0x0, 0x0, 0x0, 0, 0x0⟩,
    ⟨0xD1004, 1, 0x4, 1, 0x4, .gnss, .dom, 0x0, 0xFFFFFF, 0x0, 0x0, 0x0, 0x0, 0, 0xD1000⟩ ]

/-- Rows of block GN, spec/09_gnss_baseband.md, part 2 of 2: GN_ACQ_DOP to GN_CH_CN0. -/
def rowsGN1 : List RegRow :=
  [ ⟨0xD1008, 1, 0x4, 1, 0x4, .gnss, .dom, 0x0, 0xFFFFFFFF, 0x0, 0x0, 0x0, 0x0, 0, 0xD1000⟩,
    ⟨0xD100C, 1, 0x4, 1, 0x4, .gnss, .dom, 0x0, 0x0, 0x0, 0x0, 0x0, 0x0, 0, 0xD1000⟩,
    ⟨0xD1010, 1, 0x4, 1, 0x4, .gnss, .dom, 0x0, 0x0, 0x0, 0x0, 0x0, 0x0, 0, 0xD1000⟩,
    ⟨0xD1014, 1, 0x4, 1, 0x4, .gnss, .dom, 0x0, 0x0, 0x0, 0x0, 0x0, 0x0, 0, 0xD1000⟩,
    ⟨0xD1018, 1, 0x4, 1, 0x4, .gnss, .dom, 0x0, 0x0, 0x0, 0x0, 0x0, 0x0, 0, 0xD1000⟩,
    ⟨0xD101C, 1, 0x4, 1, 0x4, .gnss, .dom, 0x280, 0xFFFF, 0x0, 0x0, 0x0, 0x0, 0, 0x0⟩,
    ⟨0xD1100, 4, 0x10, 1, 0x4, .gnss, .dom, 0x0, 0x7FFFFF, 0x0, 0x0, 0x0, 0x0, 0, 0x0⟩,
    ⟨0xD1104, 4, 0x10, 1, 0x4, .gnss, .dom, 0x0, 0xF, 0x0, 0x0, 0x0, 0x0, 0, 0x0⟩,
    ⟨0xD1108, 4, 0x10, 1, 0x4, .gnss, .dom, 0x0, 0x0, 0x0, 0x0, 0x0, 0x0, 0, 0x0⟩,
    ⟨0xD110C, 4, 0x10, 1, 0x4, .gnss, .dom, 0x0, 0xFFFF, 0x0, 0x0, 0x0, 0x0, 0, 0x0⟩,
    ⟨0xD1180, 1, 0x4, 1, 0x4, .gnss, .dom, 0x0, 0x7FFFFF, 0x0, 0x0, 0x0, 0x0, 0, 0x0⟩,
    ⟨0xD2000, 192, 0x40, 1, 0x4, .gnss, .dom, 0x0, 0xFFFF, 0x0, 0x0, 0x0, 0x0, 0, 0x0⟩,
    ⟨0xD2004, 192, 0x40, 1, 0x4, .gnss, .dom, 0x0, 0x0, 0x0, 0x0, 0x0, 0x0, 0, 0x0⟩,
    ⟨0xD2008, 192, 0x40, 1, 0x4, .gnss, .dom, 0x0, 0x0, 0x0, 0x0, 0x0, 0x0, 0, 0x0⟩,
    ⟨0xD200C, 192, 0x40, 1, 0x4, .gnss, .dom, 0xC81008, 0x3FFF3F3F, 0x0, 0x0, 0x0, 0x0, 0, 0x0⟩,
    ⟨0xD2010, 192, 0x40, 1, 0x4, .gnss, .dom, 0x0, 0xFFFFFFFF, 0x0, 0x0, 0x0, 0x0, 1, 0x0⟩,
    ⟨0xD2014, 192, 0x40, 1, 0x4, .gnss, .dom, 0x0, 0xFFFFFFFF, 0x0, 0x0, 0x0, 0x0, 2, 0x0⟩,
    ⟨0xD2018, 192, 0x40, 1, 0x4, .gnss, .dom, 0x0, 0xFFFFFFFF, 0x0, 0x0, 0x0, 0x0, 1, 0x0⟩,
    ⟨0xD201C, 192, 0x40, 1, 0x4, .gnss, .dom, 0x0, 0xFFFFFFFF, 0x0, 0x0, 0x0, 0x0, 2, 0x0⟩,
    ⟨0xD2020, 192, 0x40, 1, 0x4, .gnss, .dom, 0x0, 0xFFFFFFFF, 0x0, 0x0, 0x0, 0x0, 1, 0x0⟩,
    ⟨0xD2024, 192, 0x40, 1, 0x4, .gnss, .dom, 0x0, 0xFFFFFFFF, 0x0, 0x0, 0x0, 0x0, 2, 0x0⟩,
    ⟨0xD2028, 192, 0x40, 1, 0x4, .gnss, .dom, 0x0, 0xFFFFFFFF, 0x0, 0x0, 0x0, 0x0, 1, 0x0⟩,
    ⟨0xD202C, 192, 0x40, 1, 0x4, .gnss, .dom, 0x0, 0xFFFFFFFF, 0x0, 0x0, 0x0, 0x0, 2, 0x0⟩,
    ⟨0xD2030, 192, 0x40, 1, 0x4, .gnss, .dom, 0x0, 0xFFFFFFFF, 0x0, 0x0, 0x0, 0x0, 1, 0x0⟩,
    ⟨0xD2034, 192, 0x40, 1, 0x4, .gnss, .dom, 0x0, 0xFFFFFFFF, 0x0, 0x0, 0x0, 0x0, 2, 0x0⟩,
    ⟨0xD2038, 192, 0x40, 1, 0x4, .gnss, .dom, 0x0, 0xFFFFFFFF, 0x0, 0x0, 0x0, 0x0, 0, 0x0⟩,
    ⟨0xD203C, 192, 0x40, 1, 0x4, .gnss, .dom, 0x640000, 0xFF0000, 0x0, 0x0, 0x0, 0x0, 0, 0x0⟩ ]

/-- All rows of block GN. -/
def rowsGN : List RegRow := rowsGN0 ++ rowsGN1

/-- Rows of block PORT, spec/10_network_ports.md, part 1 of 1: PORT_STATUS to PORT_MCAST_HI. -/
def rowsPORT0 : List RegRow :=
  [ ⟨0x100000, 1, 0x4, 1, 0x4, .sq, .dom, 0x0, 0x0, 0x0, 0x0, 0x0, 0x0, 0, 0x0⟩,
    ⟨0x100004, 1, 0x4, 1, 0x4, .sq, .dom, 0x0, 0x0, 0x0, 0x0, 0x0, 0x0, 0, 0x0⟩,
    ⟨0x100008, 1, 0x4, 1, 0x4, .sq, .dom, 0x0, 0x0, 0x0, 0x0, 0x0, 0x0, 0, 0x0⟩,
    ⟨0x10000C, 1, 0x4, 1, 0x4, .sq, .dom, 0x0, 0x0, 0x0, 0x0, 0x0, 0x0, 0, 0x0⟩,
    ⟨0x100010, 1, 0x4, 1, 0x4, .sq, .dom, 0x200, 0xFFFF, 0x0, 0x0, 0x0, 0x0, 0, 0x0⟩,
    ⟨0x100014, 1, 0x4, 1, 0x4, .sq, .dom, 0x0, 0x0, 0x0, 0x0, 0x0, 0x0, 0, 0x0⟩,
    ⟨0x100018, 1, 0x4, 1, 0x4, .sq, .dom, 0x0, 0x0, 0x0, 0x0, 0x0, 0x0, 0, 0x0⟩,
    ⟨0x10001C, 1, 0x4, 1, 0x4, .sq, .dom, 0x1, 0xFFFF, 0x0, 0x0, 0x0, 0x0, 0, 0x0⟩,
    ⟨0x100020, 1, 0x4, 1, 0x4, .sq, .dom, 0x419, 0xFFFF, 0x0, 0x0, 0x0, 0x0, 0, 0x0⟩,
    ⟨0x100024, 2, 0x4, 1, 0x4, .sq, .dom, 0x0, 0x0, 0xFFFFFFFF, 0x0, 0x0, 0x0, 0, 0x0⟩,
    ⟨0x100100, 2, 0x80, 1, 0x4, .sq, .dom, 0x0, 0x0, 0x0, 0x0, 0x0, 0x0, 0, 0x0⟩,
    ⟨0x100104, 2, 0x80, 1, 0x4, .sq, .dom, 0x0, 0xFFFFFFFF, 0x0, 0x0, 0x0, 0x0, 1, 0x0⟩,
    ⟨0x100108, 2, 0x80, 1, 0x4, .sq, .dom, 0x0, 0xFFFF, 0x0, 0x0, 0x0, 0x0, 2, 0x0⟩,
    ⟨0x10010C, 2, 0x80, 1, 0x4, .sq, .dom, 0x2F, 0x3F, 0x0, 0x0, 0x0, 0x0, 0, 0x0⟩,
    ⟨0x100110, 2, 0x80, 4, 0x4, .sq, .dom, 0x0, 0x8FFF8FFF, 0x0, 0x0, 0x0, 0x0, 0, 0x0⟩,
    ⟨0x100120, 2, 0x80, 1, 0x4, .sq, .dom, 0x0, 0xFFFFFFFF, 0x0, 0x0, 0x0, 0x0, 0, 0x0⟩,
    ⟨0x100124, 2, 0x80, 1, 0x4, .sq, .dom, 0x0, 0xFFFFFFFF, 0x0, 0x0, 0x0, 0x0, 0, 0x0⟩,
    ⟨0x100400, 2, 0x100, 32, 0x4, .sq, .dom, 0x0, 0x0, 0x0, 0x0, 0x0, 0x0, 0, 0x0⟩,
    ⟨0x100480, 2, 0x100, 32, 0x4, .sq, .dom, 0x0, 0x0, 0x0, 0x0, 0x0, 0x0, 0, 0x0⟩,
    ⟨0x101000, 4, 0x20, 1, 0x4, .sq, .dom, 0x0, 0x0, 0x0, 0x0, 0x0, 0x0, 0, 0x0⟩,
    ⟨0x101004, 4, 0x20, 1, 0x4, .sq, .dom, 0x0, 0x0, 0x0, 0x0, 0x0, 0x0, 0, 0x0⟩,
    ⟨0x101008, 4, 0x20, 1, 0x4, .sq, .dom, 0x0, 0x0, 0x0, 0x0, 0x0, 0x0, 0, 0x0⟩,
    ⟨0x10100C, 4, 0x20, 1, 0x4, .sq, .dom, 0x0, 0x0, 0x0, 0x0, 0x0, 0x0, 0, 0x0⟩,
    ⟨0x101010, 4, 0x20, 1, 0x4, .sq, .dom, 0x0, 0x0, 0x0, 0x0, 0x0, 0x0, 0, 0x0⟩,
    ⟨0x101014, 4, 0x20, 1, 0x4, .sq, .dom, 0x0, 0x0, 0x0, 0x0, 0x0, 0x0, 0, 0x0⟩,
    ⟨0x101018, 4, 0x20, 1, 0x4, .sq, .dom, 0xFFFFFFFF, 0x0, 0x0, 0x0, 0x0, 0x0, 0, 0x0⟩,
    ⟨0x10101C, 4, 0x20, 1, 0x4, .sq, .dom, 0x0, 0x0, 0x0, 0x0, 0x0, 0x0, 0, 0x0⟩,
    ⟨0x101100, 1, 0x4, 1, 0x4, .sq, .dom, 0x0, 0x0, 0x0, 0x0, 0x0, 0x0, 1, 0x0⟩,
    ⟨0x101104, 1, 0x4, 1, 0x4, .sq, .dom, 0x0, 0x0, 0x0, 0x0, 0x0, 0x0, 2, 0x0⟩,
    ⟨0x101108, 1, 0x4, 1, 0x4, .sq, .dom, 0x0, 0x0, 0x0, 0x0, 0x0, 0x0, 1, 0x0⟩,
    ⟨0x10110C, 1, 0x4, 1, 0x4, .sq, .dom, 0x0, 0x0, 0x0, 0x0, 0x0, 0x0, 2, 0x0⟩,
    ⟨0x101110, 1, 0x4, 1, 0x4, .sq, .dom, 0x0, 0x0, 0x0, 0x0, 0x0, 0x0, 0, 0x0⟩,
    ⟨0x101200, 8, 0x8, 1, 0x4, .sq, .dom, 0x0, 0xFFFFFFFF, 0x0, 0x0, 0x0, 0x0, 1, 0x0⟩,
    ⟨0x101204, 8, 0x8, 1, 0x4, .sq, .dom, 0x0, 0x8001FFFF, 0x0, 0x0, 0x0, 0x0, 2, 0x0⟩ ]

/-- All rows of block PORT. -/
def rowsPORT : List RegRow := rowsPORT0

/-- Rows of block DSG, spec/11_drive_segment.md, part 1 of 1: DSG_STATUS to DSG_LW_TPL. -/
def rowsDSG0 : List RegRow :=
  [ ⟨0x180000, 1, 0x4, 1, 0x4, .aon, .por, 0x0, 0x0, 0x0, 0x0, 0x0, 0x0, 0, 0x0⟩,
    ⟨0x180004, 1, 0x4, 1, 0x4, .aon, .por, 0x80020, 0xFFFFFF, 0x0, 0x0, 0x0, 0x0, 0, 0x0⟩,
    ⟨0x180008, 1, 0x4, 1, 0x4, .aon, .por, 0x800020, 0xFFFFFF, 0x0, 0x0, 0x0, 0x0, 0, 0x0⟩,
    ⟨0x18000C, 1, 0x4, 1, 0x4, .aon, .por, 0x9C4, 0x1FFF, 0x0, 0x0, 0x0, 0x0, 0, 0x0⟩,
    ⟨0x180010, 1, 0x4, 1, 0x4, .aon, .por, 0x0, 0x0, 0x0, 0x0, 0x0, 0x0, 0, 0x0⟩,
    ⟨0x180014, 1, 0x4, 1, 0x4, .aon, .por, 0x0, 0xFFFFFFFF, 0x0, 0x0, 0x0, 0x0, 1, 0x0⟩,
    ⟨0x180018, 1, 0x4, 1, 0x4, .aon, .por, 0x0, 0xFFFF, 0x0, 0x0, 0x0, 0x0, 2, 0x0⟩,
    ⟨0x18001C, 1, 0x4, 1, 0x4, .aon, .por, 0x23, 0x33, 0x0, 0x0, 0x0, 0x0, 0, 0x0⟩,
    ⟨0x180020, 1, 0x4, 1, 0x4, .aon, .por, 0x88B5, 0xFFFF, 0x0, 0x0, 0x0, 0x0, 0, 0x0⟩,
    ⟨0x180024, 1, 0x4, 1, 0x4, .aon, .por, 0xE, 0x7FF, 0x0, 0x0, 0x0, 0x0, 0, 0x0⟩,
    ⟨0x180028, 1, 0x4, 1, 0x4, .aon, .por, 0x300, 0x377F, 0x0, 0x0, 0x0, 0x0, 0, 0x0⟩,
    ⟨0x18002C, 1, 0x4, 1, 0x4, .aon, .por, 0x2710, 0xFFFFFF, 0x0, 0x0, 0x0, 0x0, 0, 0x0⟩,
    ⟨0x180030, 1, 0x4, 1, 0x4, .pkt, .dom, 0x40, 0xFFFF, 0x0, 0x0, 0x0, 0x0, 0, 0x0⟩,
    ⟨0x180034, 1, 0x4, 1, 0x4, .pkt, .dom, 0x0, 0x0, 0x0, 0x0, 0x0, 0x0, 0, 0x0⟩,
    ⟨0x180038, 1, 0x4, 1, 0x4, .aon, .por, 0x0, 0x0, 0x0, 0x0, 0x0, 0x0, 1, 0x0⟩,
    ⟨0x18003C, 1, 0x4, 1, 0x4, .aon, .por, 0x0, 0x0, 0x0, 0x0, 0x0, 0x0, 2, 0x0⟩,
    ⟨0x180040, 1, 0x4, 1, 0x4, .aon, .por, 0x0, 0x0, 0xFFFFF, 0x0, 0x0, 0x0, 0, 0x0⟩,
    ⟨0x180100, 20, 0x4, 1, 0x4, .aon, .por, 0x0, 0x0, 0x0, 0x0, 0x0, 0x0, 0, 0x0⟩,
    ⟨0x180180, 20, 0x4, 1, 0x4, .aon, .por, 0x0, 0x0, 0x0, 0x0, 0x0, 0x0, 0, 0x0⟩,
    ⟨0x180200, 1, 0x4, 1, 0x4, .aon, .por, 0x0, 0xF, 0x0, 0x0, 0x0, 0x0, 0, 0x0⟩,
    ⟨0x180204, 1, 0x4, 1, 0x4, .aon, .por, 0x0, 0x7FF, 0x0, 0x0, 0x0, 0x0, 0, 0x180200⟩,
    ⟨0x180208, 1, 0x4, 1, 0x4, .aon, .por, 0x0, 0x0, 0x0, 0x0, 0x0, 0x0, 0, 0x180200⟩,
    ⟨0x18020C, 1, 0x4, 1, 0x4, .aon, .por, 0x0, 0x7FFF, 0x0, 0x0, 0x0, 0x0, 0, 0x180200⟩,
    ⟨0x180210, 1, 0x4, 1, 0x4, .aon, .por, 0x0, 0xFFFFFFFF, 0x0, 0x0, 0x0, 0x0, 1, 0x180200⟩,
    ⟨0x180214, 1, 0x4, 1, 0x4, .aon, .por, 0x0, 0xFFFFFFFF, 0x0, 0x0, 0x0, 0x0, 2, 0x180200⟩,
    ⟨0x180218, 1, 0x4, 1, 0x4, .aon, .por, 0x0, 0x0, 0x0, 0x0, 0xFFFFFF3F, 0x0, 0, 0x180200⟩,
    ⟨0x18021C, 1, 0x4, 1, 0x4, .aon, .por, 0x0, 0x0, 0x0, 0x0, 0x0, 0x0, 1, 0x180200⟩,
    ⟨0x180220, 1, 0x4, 1, 0x4, .aon, .por, 0x0, 0x0, 0x0, 0x0, 0x0, 0x0, 2, 0x180200⟩,
    ⟨0x181000, 1, 0x4, 1, 0x4, .aon, .por, 0x0, 0x0, 0x0, 0x0, 0x0, 0x0, 0, 0x0⟩,
    ⟨0x181004, 1, 0x4, 1, 0x4, .aon, .por, 0x0, 0x0, 0x0, 0x0, 0x0, 0x0, 0, 0x0⟩,
    ⟨0x181008, 1, 0x4, 1, 0x4, .aon, .por, 0x0, 0x0, 0x0, 0x0, 0x0, 0x0, 0, 0x0⟩,
    ⟨0x18100C, 1, 0x4, 1, 0x4, .aon, .por, 0x0, 0xFFFFFFFF, 0x0, 0x0, 0x0, 0x0, 0, 0x0⟩,
    ⟨0x181010, 1, 0x4, 1, 0x4, .aon, .por, 0x0, 0xFFFFFFFF, 0x0, 0x0, 0x0, 0x0, 0, 0x0⟩,
    ⟨0x181014, 1, 0x4, 1, 0x4, .aon, .por, 0x0, 0x0, 0x0, 0x0, 0x0, 0x0, 0, 0x0⟩,
    ⟨0x181018, 1, 0x4, 1, 0x4, .aon, .por, 0x1, 0xFFFF, 0x0, 0x0, 0x0, 0x0, 0, 0x0⟩,
    ⟨0x18101C, 1, 0x4, 1, 0x4, .aon, .por, 0x0, 0x0, 0x0, 0x0, 0x0, 0x0, 0, 0x0⟩,
    ⟨0x181020, 1, 0x4, 1, 0x4, .aon, .por, 0x8C07, 0xFFFF, 0x0, 0x0, 0x0, 0x0, 0, 0x0⟩,
    ⟨0x181024, 1, 0x4, 1, 0x4, .aon, .por, 0x0, 0xFFFFFFFF, 0x0, 0x0, 0x0, 0x0, 1, 0x0⟩,
    ⟨0x181028, 1, 0x4, 1, 0x4, .aon, .por, 0x0, 0xFFFF, 0x0, 0x0, 0x0, 0x0, 2, 0x0⟩,
    ⟨0x181100, 64, 0x4, 1, 0x4, .aon, .por, 0x0, 0xFFFFFFFF, 0x0, 0x0, 0x0, 0x0, 0, 0x0⟩ ]

/-- All rows of block DSG. -/
def rowsDSG : List RegRow := rowsDSG0

/-- Rows of block SVC, spec/12_time_service.md, part 1 of 2: SVC_STATUS to SVC_UC_SIZE. -/
def rowsSVC0 : List RegRow :=
  [ ⟨0x190000, 1, 0x4, 1, 0x4, .pkt, .boot, 0xF8000000, 0x0, 0x0, 0x0, 0x0, 0x0, 0, 0x0⟩,
    ⟨0x190004, 1, 0x4, 1, 0x4, .pkt, .boot, 0x3, 0x7, 0x0, 0x0, 0x0, 0x0, 0, 0x0⟩,
    ⟨0x190008, 1, 0x4, 1, 0x4, .pkt, .boot, 0x0, 0x0, 0x0, 0x0, 0x0, 0x0, 0, 0x0⟩,
    ⟨0x190010, 1, 0x4, 1, 0x4, .pkt, .boot, 0xA8C0, 0xFFFFFFFF, 0x0, 0x0, 0x0, 0x0, 0, 0x0⟩,
    ⟨0x190014, 1, 0x4, 1, 0x4, .pkt, .boot, 0x15180, 0xFFFFFFFF, 0x0, 0x0, 0x0, 0x0, 0, 0x0⟩,
    ⟨0x190018, 1, 0x4, 1, 0x4, .pkt, .boot, 0x6E0, 0xFFFF, 0x0, 0x0, 0x0, 0x0, 0, 0x0⟩,
    ⟨0x19001C, 1, 0x4, 1, 0x4, .pkt, .boot, 0xA, 0xFFFF, 0x0, 0x0, 0x0, 0x0, 0, 0x0⟩,
    ⟨0x190020, 1, 0x4, 1, 0x4, .pkt, .boot, 0x4000100, 0xFFFFFFFF, 0x0, 0x0, 0x0, 0x0, 0, 0x0⟩,
    ⟨0x190024, 1, 0x4, 1, 0x4, .pkt, .boot, 0x7FF0400, 0xFFFFFFFF, 0x0, 0x0, 0x0, 0x0, 0, 0x0⟩,
    ⟨0x190028, 1, 0x4, 1, 0x4, .pkt, .boot, 0x0, 0x1, 0x0, 0x0, 0x0, 0x0, 0, 0x0⟩,
    ⟨0x19002C, 1, 0x4, 1, 0x4, .pkt, .boot, 0x186A0, 0xFFFFFF, 0x0, 0x0, 0x0, 0x0, 0, 0x0⟩,
    ⟨0x190030, 1, 0x4, 1, 0x4, .pkt, .boot, 0x3E8, 0xFFFF, 0x0, 0x0, 0x0, 0x0, 0, 0x0⟩,
    ⟨0x190034, 1, 0x4, 1, 0x4, .pkt, .boot, 0x1000, 0xFFFF, 0x0, 0x0, 0x0, 0x0, 0, 0x0⟩,
    ⟨0x190038, 1, 0x4, 1, 0x4, .pkt, .boot, 0x3E8, 0xFFFF, 0x0, 0x0, 0x0, 0x0, 0, 0x0⟩,
    ⟨0x190044, 1, 0x4, 1, 0x4, .pkt, .boot, 0x46524551, 0xFFFFFFFF, 0x0, 0x0, 0x0, 0x0, 0, 0x0⟩,
    ⟨0x190048, 1, 0x4, 1, 0x4, .pkt, .boot, 0x50505300, 0xFFFFFFFF, 0x0, 0x0, 0x0, 0x0, 0, 0x0⟩,
    ⟨0x19004C, 1, 0x4, 1, 0x4, .pkt, .boot, 0x53594E43, 0xFFFFFFFF, 0x0, 0x0, 0x0, 0x0, 0, 0x0⟩,
    ⟨0x190050, 1, 0x4, 1, 0x4, .pkt, .boot, 0x50545000, 0xFFFFFFFF, 0x0, 0x0, 0x0, 0x0, 0, 0x0⟩,
    ⟨0x190054, 1, 0x4, 1, 0x4, .pkt, .boot, 0x474E5353, 0xFFFFFFFF, 0x0, 0x0, 0x0, 0x0, 0, 0x0⟩,
    ⟨0x190058, 1, 0x4, 1, 0x4, .pkt, .boot, 0x45585400, 0xFFFFFFFF, 0x0, 0x0, 0x0, 0x0, 0, 0x0⟩,
    ⟨0x190064, 1, 0x4, 1, 0x4, .pkt, .boot, 0x90, 0xFF, 0x0, 0x0, 0x0, 0x0, 0, 0x0⟩,
    ⟨0x190068, 1, 0x4, 1, 0x4, .pkt, .boot, 0x90, 0xFF, 0x0, 0x0, 0x0, 0x0, 0, 0x0⟩,
    ⟨0x19006C, 1, 0x4, 1, 0x4, .pkt, .boot, 0x90, 0xFF, 0x0, 0x0, 0x0, 0x0, 0, 0x0⟩,
    ⟨0x190070, 1, 0x4, 1, 0x4, .pkt, .boot, 0x40, 0xFF, 0x0, 0x0, 0x0, 0x0, 0, 0x0⟩,
    ⟨0x190074, 1, 0x4, 1, 0x4, .pkt, .boot, 0x20, 0xFF, 0x0, 0x0, 0x0, 0x0, 0, 0x0⟩,
    ⟨0x190078, 1, 0x4, 1, 0x4, .pkt, .boot, 0x90, 0xFF, 0x0, 0x0, 0x0, 0x0, 0, 0x0⟩,
    ⟨0x190080, 1, 0x4, 1, 0x4, .pkt, .boot, 0x0, 0x0, 0x0, 0x0, 0x0, 0x0, 1, 0x0⟩,
    ⟨0x190084, 1, 0x4, 1, 0x4, .pkt, .boot, 0x0, 0x0, 0x0, 0x0, 0x0, 0x0, 2, 0x0⟩,
    ⟨0x190090, 1, 0x4, 1, 0x4, .pkt, .boot, 0x0, 0x0, 0xFFFFFFFF, 0x0, 0x0, 0x0, 1, 0x0⟩,
    ⟨0x190094, 1, 0x4, 1, 0x4, .pkt, .boot, 0x0, 0x0, 0xFFFFFFFF, 0x0, 0x0, 0x0, 2, 0x0⟩,
    ⟨0x190100, 16, 0x20, 4, 0x4, .pkt, .boot, 0x0, 0xFFFFFFFF, 0x0, 0x0, 0x0, 0x0, 0, 0x0⟩,
    ⟨0x190110, 16, 0x20, 1, 0x4, .pkt, .boot, 0x0, 0x3FFF1F, 0x0, 0x0, 0x0, 0x0, 0, 0x0⟩,
    ⟨0x190400, 32, 0x20, 1, 0x4, .pkt, .boot, 0x390000, 0xFFFFFF, 0x0, 0x0, 0x0, 0x0, 0, 0x0⟩,
    ⟨0x190404, 32, 0x20, 1, 0x4, .pkt, .boot, 0x0, 0xFFFFFFF, 0x0, 0x0, 0x0, 0x0, 0, 0x0⟩,
    ⟨0x190408, 32, 0x20, 1, 0x4, .pkt, .boot, 0x8080, 0xFFFFFF, 0x0, 0x0, 0x0, 0x0, 0, 0x0⟩,
    ⟨0x19040C, 32, 0x20, 1, 0x4, .pkt, .boot, 0x0, 0x0, 0x0, 0x0, 0x0, 0x0, 0, 0x0⟩,
    ⟨0x190410, 32, 0x20, 1, 0x4, .pkt, .boot, 0x0, 0xFFFFFFFF, 0x0, 0x0, 0x0, 0x0, 0, 0x0⟩,
    ⟨0x190800, 16, 0x20, 1, 0x4, .pkt, .boot, 0x0, 0x1FFFFFF, 0x0, 0x0, 0x0, 0x0, 0, 0x0⟩,
    ⟨0x190804, 16, 0x20, 1, 0x4, .pkt, .boot, 0x0, 0x0, 0x0, 0x0, 0x0, 0x0, 0, 0x0⟩,
    ⟨0x190808, 16, 0x20, 1, 0x4, .pkt, .boot, 0x0, 0x0, 0x0, 0x0, 0x0, 0x0, 0, 0x0⟩ ]

/-- Rows of block SVC, spec/12_time_service.md, part 2 of 2: SVC_UC_LIM to SVC_NH_MAC_HI. -/
def rowsSVC1 : List RegRow :=
  [ ⟨0x19080C, 16, 0x20, 1, 0x4, .pkt, .boot, 0xFDF9F9, 0xFFFFFF, 0x0, 0x0, 0x0, 0x0, 0, 0x0⟩,
    ⟨0x190810, 16, 0x20, 1, 0x4, .pkt, .boot, 0xA012C, 0xFFFFFFFF, 0x0, 0x0, 0x0, 0x0, 0, 0x0⟩,
    ⟨0x190814, 16, 0x20, 1, 0x4, .pkt, .boot, 0x0, 0x0, 0x0, 0x0, 0x0, 0x0, 0, 0x0⟩,
    ⟨0x190818, 16, 0x20, 1, 0x4, .pkt, .boot, 0x0, 0x1, 0x0, 0x0, 0x0, 0x0, 0, 0x0⟩,
    ⟨0x190A00, 8, 0x8, 2, 0x4, .pkt, .boot, 0xF0, 0xF1, 0x0, 0x0, 0x0, 0x0, 0, 0x0⟩,
    ⟨0x190A80, 4, 0x8, 1, 0x4, .pkt, .boot, 0x0, 0xFF7F, 0x0, 0x0, 0x0, 0x0, 0, 0x0⟩,
    ⟨0x190C00, 36, 0x4, 1, 0x4, .pkt, .boot, 0x0, 0x0, 0x0, 0x0, 0x0, 0x0, 0, 0x0⟩,
    ⟨0x190D00, 36, 0x4, 1, 0x4, .pkt, .boot, 0x0, 0x0, 0x0, 0x0, 0x0, 0x0, 0, 0x0⟩,
    ⟨0x190E00, 1, 0x4, 1, 0x4, .pkt, .boot, 0x0, 0x0, 0x0, 0x0, 0x0, 0x0, 0, 0x0⟩,
    ⟨0x190E04, 1, 0x4, 1, 0x4, .pkt, .boot, 0x0, 0x0, 0x0, 0x0, 0x0, 0x0, 0, 0x0⟩,
    ⟨0x190E08, 1, 0x4, 1, 0x4, .pkt, .boot, 0x0, 0x0, 0x0, 0x0, 0x0, 0x0, 0, 0x0⟩,
    ⟨0x190E0C, 1, 0x4, 1, 0x4, .pkt, .boot, 0x10000, 0x0, 0x0, 0x0, 0x0, 0x0, 0, 0x0⟩,
    ⟨0x190E20, 1, 0x4, 1, 0x4, .pkt, .boot, 0x0, 0x0, 0x0, 0x0, 0x0, 0x0, 1, 0x0⟩,
    ⟨0x190E24, 1, 0x4, 1, 0x4, .pkt, .boot, 0x0, 0x0, 0x0, 0x0, 0x0, 0x0, 2, 0x0⟩,
    ⟨0x190E28, 1, 0x4, 1, 0x4, .pkt, .boot, 0x0, 0x0, 0x0, 0x0, 0x0, 0x0, 1, 0x0⟩,
    ⟨0x190E2C, 1, 0x4, 1, 0x4, .pkt, .boot, 0x0, 0x0, 0x0, 0x0, 0x0, 0x0, 2, 0x0⟩,
    ⟨0x190E30, 1, 0x4, 1, 0x4, .pkt, .boot, 0x0, 0x0, 0x0, 0x0, 0x0, 0x0, 1, 0x0⟩,
    ⟨0x190E34, 1, 0x4, 1, 0x4, .pkt, .boot, 0x0, 0x0, 0x0, 0x0, 0x0, 0x0, 2, 0x0⟩,
    ⟨0x190E38, 1, 0x4, 1, 0x4, .pkt, .boot, 0x0, 0x0, 0x0, 0x0, 0x0, 0x0, 1, 0x0⟩,
    ⟨0x190E3C, 1, 0x4, 1, 0x4, .pkt, .boot, 0x0, 0x0, 0x0, 0x0, 0x0, 0x0, 2, 0x0⟩,
    ⟨0x190E40, 1, 0x4, 1, 0x4, .pkt, .boot, 0x0, 0x0, 0x0, 0x0, 0x0, 0x0, 1, 0x0⟩,
    ⟨0x190E44, 1, 0x4, 1, 0x4, .pkt, .boot, 0x0, 0x0, 0x0, 0x0, 0x0, 0x0, 2, 0x0⟩,
    ⟨0x191000, 1, 0x4, 1, 0x4, .pkt, .boot, 0x0, 0x3FFFF, 0x0, 0x0, 0x0, 0x0, 0, 0x0⟩,
    ⟨0x191004, 12, 0x4, 1, 0x4, .smem, .boot, 0x0, 0x0, 0x0, 0x0, 0x0, 0x0, 0, 0x191000⟩,
    ⟨0x191040, 1, 0x4, 1, 0x4, .pkt, .boot, 0x0, 0x0, 0x0, 0x0, 0x0, 0x0, 0, 0x0⟩,
    ⟨0x191050, 4, 0x4, 1, 0x4, .pkt, .boot, 0x0, 0x0, 0x0, 0x0, 0x0, 0x0, 0, 0x0⟩,
    ⟨0x191060, 1, 0x4, 1, 0x4, .pkt, .boot, 0x0, 0xFFF, 0x0, 0x0, 0x0, 0x0, 0, 0x0⟩,
    ⟨0x191064, 1, 0x4, 1, 0x4, .pkt, .boot, 0x0, 0x0, 0x0, 0x0, 0x0, 0x0, 1, 0x191060⟩,
    ⟨0x191068, 1, 0x4, 1, 0x4, .pkt, .boot, 0x0, 0x0, 0x0, 0x0, 0x0, 0x0, 2, 0x191060⟩ ]

/-- All rows of block SVC. -/
def rowsSVC : List RegRow := rowsSVC0 ++ rowsSVC1

/-- Rows of block KEY, spec/13_keys_crypto.md, part 1 of 2: KEY_STATUS to KEY_CRD_AES_PIPE3. -/
def rowsKEY0 : List RegRow :=
  [ ⟨0x1A0000, 1, 0x4, 1, 0x4, .aon, .por, 0x100, 0x0, 0x0, 0x0, 0x0, 0x0, 0, 0x0⟩,
    ⟨0x1A0004, 1, 0x4, 1, 0x4, .aon, .por, 0x0, 0x0, 0x0, 0x0, 0x0, 0x10000, 0, 0x0⟩,
    ⟨0x1A0008, 1, 0x4, 1, 0x4, .aon, .por, 0x0, 0x0, 0x0, 0x0, 0x0, 0x0, 0, 0x0⟩,
    ⟨0x1A000C, 1, 0x4, 1, 0x4, .aon, .por, 0x0, 0x0, 0x0, 0x0, 0x0, 0x0, 0, 0x0⟩,
    ⟨0x1A0010, 1, 0x4, 1, 0x4, .aon, .por, 0x0, 0x0, 0x0, 0x0, 0x0, 0x0, 0, 0x0⟩,
    ⟨0x1A0014, 1, 0x4, 1, 0x4, .aon, .por, 0x0, 0x0, 0x0, 0x0, 0x0, 0x0, 0, 0x0⟩,
    ⟨0x1A0018, 1, 0x4, 1, 0x4, .aon, .por, 0x0, 0x0, 0x0, 0x0, 0x0, 0x0, 0, 0x0⟩,
    ⟨0x1A001C, 1, 0x4, 1, 0x4, .aon, .por, 0x2A300, 0xFFFFFFFF, 0x0, 0x0, 0x0, 0x0, 0, 0x0⟩,
    ⟨0x1A0020, 1, 0x4, 1, 0x4, .aon, .por, 0x10000, 0xFFFFFFFF, 0x0, 0x0, 0x0, 0x0, 0, 0x0⟩,
    ⟨0x1A0024, 1, 0x4, 1, 0x4, .aon, .por, 0x0, 0x0, 0x0, 0x0, 0xFFFF, 0x0, 0, 0x0⟩,
    ⟨0x1A0030, 1, 0x4, 1, 0x4, .aon, .por, 0x0, 0x0, 0x0, 0x0, 0xFFFF0000, 0x0, 0, 0x0⟩,
    ⟨0x1A0034, 1, 0x4, 1, 0x4, .aon, .por, 0x0, 0x0, 0x0, 0x0, 0xFFFF0000, 0x0, 0, 0x0⟩,
    ⟨0x1A0038, 1, 0x4, 1, 0x4, .aon, .boot, 0x0, 0x0, 0x0, 0x0, 0x0, 0x1, 0, 0x0⟩,
    ⟨0x1A0040, 8, 0x4, 1, 0x4, .aon, .por, 0x0, 0x0, 0x0, 0x0, 0x0, 0x0, 0, 0x0⟩,
    ⟨0x1A0100, 16, 0x20, 1, 0x4, .aon, .por, 0x0, 0x0, 0x0, 0x0, 0x0, 0x0, 0, 0x0⟩,
    ⟨0x1A0104, 16, 0x20, 1, 0x4, .aon, .por, 0x0, 0x0, 0x0, 0x0, 0x0, 0x0, 0, 0x0⟩,
    ⟨0x1A0108, 16, 0x20, 1, 0x4, .aon, .por, 0x0, 0x0, 0x0, 0x0, 0x0, 0x0, 1, 0x0⟩,
    ⟨0x1A010C, 16, 0x20, 1, 0x4, .aon, .por, 0x0, 0x0, 0x0, 0x0, 0x0, 0x0, 2, 0x0⟩,
    ⟨0x1A0110, 16, 0x20, 1, 0x4, .aon, .por, 0x0, 0x0, 0x0, 0x0, 0x0, 0x0, 1, 0x0⟩,
    ⟨0x1A0114, 16, 0x20, 1, 0x4, .aon, .por, 0x0, 0x0, 0x0, 0x0, 0x0, 0x0, 2, 0x0⟩,
    ⟨0x1A0400, 1, 0x4, 1, 0x4, .aon, .por, 0x0, 0x3FF, 0x0, 0x0, 0x0, 0x0, 0, 0x0⟩,
    ⟨0x1A0404, 1, 0x4, 1, 0x4, .aon, .por, 0x0, 0x0, 0x0, 0x0, 0x0, 0x0, 0, 0x1A0400⟩,
    ⟨0x1A0408, 1, 0x4, 1, 0x4, .aon, .por, 0x0, 0x0, 0x0, 0x0, 0x0, 0x0, 0, 0x1A0400⟩,
    ⟨0x1A040C, 1, 0x4, 1, 0x4, .aon, .por, 0x0, 0x0, 0x0, 0x0, 0x0, 0x0, 0, 0x1A0400⟩,
    ⟨0x1A0410, 1, 0x4, 1, 0x4, .aon, .por, 0x0, 0x0, 0x0, 0x0, 0x0, 0x0, 1, 0x1A0400⟩,
    ⟨0x1A0414, 1, 0x4, 1, 0x4, .aon, .por, 0x0, 0x0, 0x0, 0x0, 0x0, 0x0, 2, 0x1A0400⟩,
    ⟨0x1A0418, 1, 0x4, 1, 0x4, .aon, .por, 0x0, 0x0, 0x0, 0x0, 0x0, 0x0, 1, 0x1A0400⟩,
    ⟨0x1A041C, 1, 0x4, 1, 0x4, .aon, .por, 0x0, 0x0, 0x0, 0x0, 0x0, 0x0, 2, 0x1A0400⟩,
    ⟨0x1A0500, 4, 0x8, 1, 0x4, .aon, .por, 0x0, 0x0, 0x0, 0x0, 0x0, 0x0, 0, 0x0⟩,
    ⟨0x1A0504, 4, 0x8, 1, 0x4, .aon, .por, 0x0, 0x0, 0x0, 0x0, 0x0, 0x0, 0, 0x0⟩,
    ⟨0x1A0600, 1, 0x4, 1, 0x4, .aon, .por, 0x0, 0x0, 0x0, 0x0, 0x0, 0x0, 0, 0x0⟩,
    ⟨0x1A0610, 8, 0x4, 1, 0x4, .aon, .por, 0x0, 0x0, 0x0, 0x0, 0x0, 0xFFFFFFFF, 0, 0x0⟩,
    ⟨0x1A0630, 1, 0x4, 1, 0x4, .aon, .por, 0x0, 0x0, 0x0, 0x0, 0x0, 0xDF, 0, 0x0⟩,
    ⟨0x1A0640, 4, 0x20, 8, 0x4, .aon, .por, 0x0, 0x0, 0x0, 0x0, 0x0, 0x0, 0, 0x0⟩,
    ⟨0x1A0700, 8, 0x4, 1, 0x4, .aon, .por, 0x0, 0x0, 0x0, 0x0, 0x0, 0x0, 0, 0x0⟩,
    ⟨0x1A1000, 1, 0x4, 1, 0x4, .cry, .dom, 0x100, 0x0, 0x0, 0x0, 0x0, 0x0, 0, 0x0⟩,
    ⟨0x1A1004, 1, 0x4, 1, 0x4, .cry, .dom, 0x0, 0x0, 0x0, 0x0, 0x0, 0x0, 0, 0x0⟩,
    ⟨0x1A1008, 1, 0x4, 1, 0x4, .cry, .dom, 0x0, 0x0, 0x0, 0x0, 0x0, 0x0, 0, 0x0⟩,
    ⟨0x1A100C, 1, 0x4, 1, 0x4, .cry, .dom, 0x0, 0x0, 0x0, 0x0, 0x0, 0x0, 0, 0x0⟩,
    ⟨0x1A1010, 1, 0x4, 1, 0x4, .cry, .dom, 0x0, 0x0, 0x0, 0x0, 0x0, 0x0, 0, 0x0⟩ ]

/-- Rows of block KEY, spec/13_keys_crypto.md, part 2 of 2: KEY_CRD_AES_FW to KEY_OSN_DATA. -/
def rowsKEY1 : List RegRow :=
  [ ⟨0x1A1014, 1, 0x4, 1, 0x4, .cry, .dom, 0x0, 0x0, 0x0, 0x0, 0x0, 0x0, 0, 0x0⟩,
    ⟨0x1A1018, 1, 0x4, 1, 0x4, .cry, .dom, 0x0, 0x0, 0x0, 0x0, 0x0, 0x0, 0, 0x0⟩,
    ⟨0x1A1020, 1, 0x4, 1, 0x4, .cry, .dom, 0x40, 0x0, 0x0, 0x0, 0x0, 0x0, 0, 0x0⟩,
    ⟨0x1A1024, 1, 0x4, 1, 0x4, .cry, .dom, 0x0, 0x0, 0x0, 0x0, 0x0, 0x0, 0, 0x0⟩,
    ⟨0x1A1028, 1, 0x4, 1, 0x4, .cry, .dom, 0x0, 0x0, 0x0, 0x0, 0x0, 0x0, 0, 0x0⟩,
    ⟨0x1A102C, 1, 0x4, 1, 0x4, .cry, .dom, 0x0, 0x0, 0x0, 0x0, 0x0, 0x0, 0, 0x0⟩,
    ⟨0x1A1030, 1, 0x4, 1, 0x4, .cry, .dom, 0x0, 0x0, 0x0, 0x0, 0x0, 0x0, 0, 0x0⟩,
    ⟨0x1A1034, 1, 0x4, 1, 0x4, .cry, .dom, 0x0, 0x0, 0x0, 0x0, 0x0, 0x0, 0, 0x0⟩,
    ⟨0x1A1038, 1, 0x4, 1, 0x4, .cry, .dom, 0x0, 0x0, 0x0, 0x0, 0x0, 0x0, 0, 0x0⟩,
    ⟨0x1A1040, 16, 0x4, 1, 0x4, .cry, .dom, 0x0, 0x0, 0x0, 0x0, 0x0, 0x0, 0, 0x0⟩,
    ⟨0x1A1080, 1, 0x4, 1, 0x4, .cry, .dom, 0x410, 0xFFFF, 0x0, 0x0, 0x0, 0x0, 0, 0x0⟩,
    ⟨0x1A1084, 1, 0x4, 1, 0x4, .cry, .dom, 0x0, 0x0, 0x0, 0x0, 0x0, 0x0, 0, 0x0⟩,
    ⟨0x1A1088, 1, 0x4, 1, 0x4, .cry, .dom, 0x0, 0x0, 0x0, 0x0, 0x0, 0x0, 0, 0x0⟩,
    ⟨0x1A1090, 1, 0x4, 1, 0x4, .cry, .dom, 0x0, 0x0, 0x0, 0x0, 0xFF00, 0x0, 0, 0x0⟩,
    ⟨0x1A1200, 1, 0x4, 1, 0x4, .aon, .por, 0x0, 0x3, 0x0, 0x0, 0x0, 0x0, 0, 0x0⟩,
    ⟨0x1A1204, 1, 0x4, 1, 0x4, .aon, .por, 0x0, 0x0, 0x0, 0x0, 0x0, 0x0, 0, 0x0⟩ ]

/-- All rows of block KEY. -/
def rowsKEY : List RegRow := rowsKEY0 ++ rowsKEY1

/-- Rows of block TWN, spec/14_twin_redundancy.md, part 1 of 2: TWN_STATUS to TWN_PEER_LAT_RX. -/
def rowsTWN0 : List RegRow :=
  [ ⟨0x1B0000, 1, 0x4, 1, 0x4, .tb, .boot, 0x0, 0x0, 0x0, 0x0, 0x0, 0x0, 0, 0x0⟩,
    ⟨0x1B0004, 1, 0x4, 1, 0x4, .tb, .boot, 0x38, 0x3F, 0x0, 0x0, 0x0, 0x0, 0, 0x0⟩,
    ⟨0x1B0008, 1, 0x4, 1, 0x4, .tb, .boot, 0x0, 0x0, 0x0, 0x0, 0x0, 0x0, 0, 0x0⟩,
    ⟨0x1B000C, 1, 0x4, 1, 0x4, .tb, .boot, 0x0, 0x0, 0x0, 0x0, 0x0, 0x0, 0, 0x0⟩,
    ⟨0x1B0010, 1, 0x4, 1, 0x4, .aon, .por, 0x0, 0x0, 0x0, 0x0, 0x0, 0x0, 0, 0x0⟩,
    ⟨0x1B0014, 1, 0x4, 1, 0x4, .aon, .por, 0x0, 0x0, 0x0, 0x0, 0x0, 0x0, 0, 0x0⟩,
    ⟨0x1B0018, 1, 0x4, 1, 0x4, .aon, .por, 0x80, 0xFF, 0x0, 0x0, 0x0, 0x0, 0, 0x0⟩,
    ⟨0x1B0020, 1, 0x4, 1, 0x4, .tb, .boot, 0x0, 0x0, 0x0, 0x0, 0x0, 0x0, 0, 0x0⟩,
    ⟨0x1B0024, 1, 0x4, 1, 0x4, .tb, .boot, 0x0, 0x0, 0x0, 0x0, 0x0, 0x0, 0, 0x0⟩,
    ⟨0x1B0030, 1, 0x4, 1, 0x4, .tb, .boot, 0x0, 0x0, 0x0, 0x0, 0x0, 0x0, 1, 0x0⟩,
    ⟨0x1B0034, 1, 0x4, 1, 0x4, .tb, .boot, 0x0, 0x0, 0x0, 0x0, 0x0, 0x0, 2, 0x0⟩,
    ⟨0x1B0038, 1, 0x4, 1, 0x4, .tb, .boot, 0x0, 0x0, 0x0, 0x0, 0x0, 0x0, 0, 0x0⟩,
    ⟨0x1B003C, 1, 0x4, 1, 0x4, .tb, .boot, 0x0, 0x0, 0x0, 0x0, 0x0, 0x0, 0, 0x0⟩,
    ⟨0x1B0040, 1, 0x4, 1, 0x4, .tb, .boot, 0x0, 0x0, 0x0, 0x0, 0x0, 0x0, 0, 0x0⟩,
    ⟨0x1B0044, 1, 0x4, 1, 0x4, .tb, .boot, 0x0, 0x0, 0x0, 0x0, 0x0, 0x0, 1, 0x0⟩,
    ⟨0x1B0048, 1, 0x4, 1, 0x4, .tb, .boot, 0x0, 0x0, 0x0, 0x0, 0x0, 0x0, 2, 0x0⟩,
    ⟨0x1B004C, 1, 0x4, 1, 0x4, .tb, .boot, 0x64, 0xFFFF, 0x0, 0x0, 0x0, 0x0, 0, 0x0⟩,
    ⟨0x1B0050, 1, 0x4, 1, 0x4, .tb, .boot, 0x0, 0xFFFFFFFF, 0x0, 0x0, 0x0, 0x0, 0, 0x0⟩,
    ⟨0x1B0054, 1, 0x4, 1, 0x4, .tb, .boot, 0xA, 0xFFFF, 0x0, 0x0, 0x0, 0x0, 0, 0x0⟩,
    ⟨0x1B0058, 1, 0x4, 1, 0x4, .tb, .boot, 0xA, 0xFFFF, 0x0, 0x0, 0x0, 0x0, 0, 0x0⟩,
    ⟨0x1B005C, 1, 0x4, 1, 0x4, .tb, .boot, 0x3C, 0xFFFF, 0x0, 0x0, 0x0, 0x0, 0, 0x0⟩,
    ⟨0x1B0060, 1, 0x4, 1, 0x4, .tb, .boot, 0x64, 0xFFFF, 0x0, 0x0, 0x0, 0x0, 0, 0x0⟩,
    ⟨0x1B0064, 1, 0x4, 1, 0x4, .tb, .boot, 0x44B82FA, 0xFFFFFFFF, 0x0, 0x0, 0x0, 0x0, 0, 0x0⟩,
    ⟨0x1B0068, 1, 0x4, 1, 0x4, .tb, .boot, 0x0, 0xF, 0x0, 0x0, 0x0, 0x0, 0, 0x0⟩,
    ⟨0x1B0070, 1, 0x4, 1, 0x4, .tb, .boot, 0x0, 0x0, 0x0, 0x0, 0x0, 0x0, 0, 0x0⟩,
    ⟨0x1B0074, 1, 0x4, 1, 0x4, .tb, .boot, 0x0, 0x0, 0x0, 0x0, 0x0, 0x0, 0, 0x0⟩,
    ⟨0x1B0078, 1, 0x4, 1, 0x4, .tb, .boot, 0x0, 0x0, 0x0, 0x0, 0x0, 0x0, 0, 0x0⟩,
    ⟨0x1B007C, 1, 0x4, 1, 0x4, .tb, .boot, 0x0, 0x0, 0x0, 0x0, 0x0, 0x0, 1, 0x0⟩,
    ⟨0x1B0080, 1, 0x4, 1, 0x4, .tb, .boot, 0x0, 0x0, 0x0, 0x0, 0x0, 0x0, 2, 0x0⟩,
    ⟨0x1B0100, 12, 0x4, 1, 0x4, .tb, .boot, 0x0, 0x0, 0x0, 0x0, 0x0, 0x0, 0, 0x0⟩,
    ⟨0x1B1000, 1, 0x4, 1, 0x4, .tb, .boot, 0x1000, 0x1FFFFFF, 0x0, 0x0, 0x0, 0x0, 0, 0x0⟩,
    ⟨0x1B1004, 1, 0x4, 1, 0x4, .tb, .boot, 0x400, 0xFFF, 0x0, 0x0, 0x0, 0x0, 0, 0x0⟩,
    ⟨0x1B1008, 1, 0x4, 1, 0x4, .tb, .boot, 0x4, 0xF, 0x0, 0x0, 0x0, 0x0, 0, 0x0⟩,
    ⟨0x1B100C, 1, 0x4, 1, 0x4, .tb, .boot, 0x64, 0xFFFF, 0x0, 0x0, 0x0, 0x0, 0, 0x0⟩,
    ⟨0x1B1010, 1, 0x4, 1, 0x4, .tb, .boot, 0x0, 0x0, 0x0, 0x0, 0x0, 0x0, 1, 0x0⟩,
    ⟨0x1B1014, 1, 0x4, 1, 0x4, .tb, .boot, 0x0, 0x0, 0x0, 0x0, 0x0, 0x0, 2, 0x0⟩,
    ⟨0x1B1018, 1, 0x4, 1, 0x4, .tb, .boot, 0x0, 0x0, 0x0, 0x0, 0x0, 0x0, 0, 0x0⟩,
    ⟨0x1B101C, 1, 0x4, 1, 0x4, .tb, .boot, 0x0, 0x0, 0x0, 0x0, 0x0, 0x0, 0, 0x0⟩,
    ⟨0x1B1020, 1, 0x4, 1, 0x4, .tb, .boot, 0x0, 0x0, 0x0, 0x0, 0x0, 0x0, 0, 0x0⟩,
    ⟨0x1B1024, 1, 0x4, 1, 0x4, .tb, .boot, 0x0, 0x0, 0x0, 0x0, 0x0, 0x0, 0, 0x0⟩ ]

/-- Rows of block TWN, spec/14_twin_redundancy.md, part 2 of 2: TWN_FOLLOW_LO to TWN_FOLLOW_HI. -/
def rowsTWN1 : List RegRow :=
  [ ⟨0x1B1028, 1, 0x4, 1, 0x4, .tb, .boot, 0x0, 0x0, 0x0, 0x0, 0x0, 0x0, 1, 0x0⟩,
    ⟨0x1B102C, 1, 0x4, 1, 0x4, .tb, .boot, 0x0, 0x0, 0x0, 0x0, 0x0, 0x0, 2, 0x0⟩ ]

/-- All rows of block TWN. -/
def rowsTWN : List RegRow := rowsTWN0 ++ rowsTWN1

/-- Rows of block CTL, spec/15_control_complex.md, part 1 of 2: CTL_STATUS to CTL_USER_RANGE_PAGES. -/
def rowsCTL0 : List RegRow :=
  [ ⟨0x1C0000, 1, 0x4, 1, 0x4, .ctl, .dom, 0x1, 0x0, 0x0, 0x0, 0x0, 0x0, 0, 0x0⟩,
    ⟨0x1C0008, 1, 0x4, 1, 0x4, .ctl, .dom, 0x0, 0x0, 0x0, 0x0, 0x0, 0x0, 0, 0x0⟩,
    ⟨0x1C0010, 4, 0x10, 1, 0x4, .ctl, .dom, 0x0, 0x0, 0x0, 0x0, 0x0, 0x0, 0, 0x0⟩,
    ⟨0x1C0014, 4, 0x10, 1, 0x4, .ctl, .dom, 0x0, 0x0, 0x0, 0x0, 0x0, 0x0, 0, 0x0⟩,
    ⟨0x1C0018, 4, 0x10, 1, 0x4, .ctl, .dom, 0x0, 0x0, 0x0, 0x0, 0xFF00, 0x0, 0, 0x0⟩,
    ⟨0x1C001C, 4, 0x10, 1, 0x4, .ctl, .dom, 0x0, 0x0, 0x0, 0x0, 0x0, 0x0, 0, 0x0⟩,
    ⟨0x1C0050, 1, 0x4, 1, 0x4, .ctl, .dom, 0x0, 0x1, 0x0, 0x0, 0x0, 0x0, 0, 0x0⟩,
    ⟨0x1C0054, 1, 0x4, 1, 0x4, .ctl, .dom, 0x64, 0xFFFF, 0x0, 0x0, 0x0, 0x0, 0, 0x0⟩,
    ⟨0x1C0060, 1, 0x4, 1, 0x4, .ctl, .dom, 0x0, 0x7FF000, 0x0, 0x0, 0x0, 0x0, 0, 0x0⟩,
    ⟨0x1C0064, 1, 0x4, 1, 0x4, .ctl, .dom, 0x0, 0x0, 0x0, 0x0, 0x0, 0x0, 0, 0x0⟩,
    ⟨0x1C0068, 1, 0x4, 1, 0x4, .ctl, .dom, 0x0, 0x0, 0x0, 0x0, 0xFFFFFFFF, 0x0, 0, 0x0⟩,
    ⟨0x1C0080, 1, 0x4, 1, 0x4, .ctl, .dom, 0x40, 0x0, 0x0, 0x0, 0x0, 0x0, 0, 0x0⟩,
    ⟨0x1C0084, 1, 0x4, 1, 0x4, .ctl, .dom, 0x0, 0x0, 0x0, 0x0, 0x0, 0x0, 0, 0x0⟩,
    ⟨0x1C0090, 16, 0x4, 1, 0x4, .ctl, .dom, 0x0, 0x0, 0x0, 0x0, 0x0, 0x0, 0, 0x0⟩,
    ⟨0x1C0100, 18, 0x4, 1, 0x4, .ctl, .dom, 0x0, 0x0, 0x0, 0x0, 0x0, 0x0, 0, 0x0⟩,
    ⟨0x1C0200, 16, 0x40, 1, 0x4, .ctl, .dom, 0x0, 0xFF0F, 0x0, 0x0, 0x0, 0x0, 0, 0x0⟩,
    ⟨0x1C0204, 16, 0x40, 1, 0x4, .ctl, .dom, 0x0, 0xFFFFFFFF, 0x0, 0x0, 0x0, 0x0, 1, 0x0⟩,
    ⟨0x1C0208, 16, 0x40, 1, 0x4, .ctl, .dom, 0x0, 0xFFFF, 0x0, 0x0, 0x0, 0x0, 2, 0x0⟩,
    ⟨0x1C020C, 16, 0x40, 1, 0x4, .ctl, .dom, 0x1, 0xF, 0x0, 0x0, 0x0, 0x0, 0, 0x0⟩,
    ⟨0x1C0210, 16, 0x40, 1, 0x4, .ctl, .dom, 0x0, 0xFFF, 0x0, 0x0, 0x0, 0x0, 0, 0x0⟩,
    ⟨0x1C0214, 16, 0x40, 1, 0x4, .ctl, .dom, 0x0, 0x0, 0x0, 0x0, 0x0, 0x0, 0, 0x0⟩,
    ⟨0x1C0218, 16, 0x40, 1, 0x4, .ctl, .dom, 0x0, 0x0, 0x0, 0x0, 0x0, 0x0, 0, 0x0⟩,
    ⟨0x1C021C, 16, 0x40, 1, 0x4, .ctl, .dom, 0x0, 0x0, 0x0, 0x0, 0x0, 0x0, 0, 0x0⟩,
    ⟨0x1C0220, 16, 0x40, 4, 0x4, .ctl, .dom, 0x0, 0x0, 0x0, 0x0, 0x0, 0x0, 0, 0x0⟩,
    ⟨0x1C0230, 16, 0x40, 1, 0x4, .ctl, .dom, 0x0, 0xFFFFF000, 0x0, 0x0, 0x0, 0x0, 1, 0x0⟩,
    ⟨0x1C0234, 16, 0x40, 1, 0x4, .ctl, .dom, 0x0, 0xFF, 0x0, 0x0, 0x0, 0x0, 2, 0x0⟩,
    ⟨0x1C1000, 4, 0x20, 1, 0x4, .ctl, .dom, 0x0, 0xFFFFF000, 0x0, 0x0, 0x0, 0x0, 1, 0x0⟩,
    ⟨0x1C1004, 4, 0x20, 1, 0x4, .ctl, .dom, 0x0, 0xFF, 0x0, 0x0, 0x0, 0x0, 2, 0x0⟩,
    ⟨0x1C1008, 4, 0x20, 1, 0x4, .ctl, .dom, 0x0, 0xFF, 0x0, 0x0, 0x0, 0x0, 0, 0x0⟩,
    ⟨0x1C100C, 4, 0x20, 1, 0x4, .ctl, .dom, 0x0, 0x0, 0x0, 0x0, 0x0, 0x0, 1, 0x0⟩,
    ⟨0x1C1010, 4, 0x20, 1, 0x4, .ctl, .dom, 0x0, 0x0, 0x0, 0x0, 0x0, 0x0, 2, 0x0⟩,
    ⟨0x1C1014, 4, 0x20, 1, 0x4, .ctl, .dom, 0x0, 0x0, 0x0, 0x0, 0x0, 0x0, 0, 0x0⟩,
    ⟨0x1C1018, 4, 0x20, 1, 0x4, .ctl, .dom, 0x0, 0xFFFFFFFF, 0x0, 0x0, 0x0, 0x0, 1, 0x0⟩,
    ⟨0x1C101C, 4, 0x20, 1, 0x4, .ctl, .dom, 0x0, 0xFFFFFFFF, 0x0, 0x0, 0x0, 0x0, 2, 0x0⟩,
    ⟨0x1C1100, 1, 0x4, 1, 0x4, .ctl, .dom, 0x0, 0x0, 0x0, 0x0, 0x0, 0x0, 0, 0x0⟩,
    ⟨0x1C1104, 1, 0x4, 1, 0x4, .ctl, .dom, 0x0, 0xFF, 0x0, 0x0, 0x0, 0x0, 0, 0x0⟩,
    ⟨0x1C1108, 1, 0x4, 1, 0x4, .ctl, .dom, 0x0, 0xFFFFF000, 0x0, 0x0, 0x0, 0x0, 1, 0x0⟩,
    ⟨0x1C110C, 1, 0x4, 1, 0x4, .ctl, .dom, 0x0, 0xFFFF, 0x0, 0x0, 0x0, 0x0, 2, 0x0⟩,
    ⟨0x1C1120, 4, 0x8, 1, 0x4, .ctl, .dom, 0x0, 0x0, 0x0, 0x0, 0x0, 0x0, 0, 0x0⟩,
    ⟨0x1C1124, 4, 0x8, 1, 0x4, .ctl, .dom, 0x0, 0x0, 0x0, 0x0, 0x0, 0x0, 0, 0x0⟩ ]

/-- Rows of block CTL, spec/15_control_complex.md, part 2 of 2: CTL_USER_LIMIT to CTL_USER_LIMIT. -/
def rowsCTL1 : List RegRow :=
  [ ⟨0x1C1140, 1, 0x4, 1, 0x4, .ctl, .dom, 0x0, 0x0, 0x0, 0x0, 0x0, 0x0, 0, 0x0⟩ ]

/-- All rows of block CTL. -/
def rowsCTL : List RegRow := rowsCTL0 ++ rowsCTL1

end Sys2Proof.Machine
end

