-- ==== Sys2Proof/Machine/RegMap.lean ====
section
/-! DEFINITION. Lookup in the register map: the row that holds an address, the value an address reads at reset, the event
sources that exist, and the addresses of the records behind a selector register. -/

namespace Sys2Proof.Machine

open Sys2Proof

/-- The span of one bank of register addresses: BAR0 (64 MiB, R11) lies below it. -/
def bankSpan : Nat := 0x10000000

/-- Record `i` behind a selector register, or requester `i`'s own copy, of register `a`: the same register of its own. -/
def bank (a i : Nat) : Nat := a + bankSpan * (i + 1)

/-- The rows of the block with BAR0 bits [27:16] equal to `b` (R11). -/
def blockRows (b : Nat) : List RegRow :=
  match b with
  | 0x00 => rowsHIF
  | 0x01 => rowsIMG
  | 0x02 => rowsPWR
  | 0x03 => rowsFLT
  | 0x04 => rowsEVQ
  | 0x05 => rowsLOG
  | 0x06 => rowsPMC
  | 0x08 => rowsTB
  | 0x09 => rowsMEAS
  | 0x0A => rowsREF
  | 0x0B => rowsBND
  | 0x0C => rowsSYN
  | 0x0D => rowsGN
  | 0x10 => rowsPORT
  | 0x18 => rowsDSG
  | 0x19 => rowsSVC
  | 0x1A => rowsKEY
  | 0x1B => rowsTWN
  | 0x1C => rowsCTL
  | _ => []

/-- Row `r` holds address `a` (both within one block). -/
def rowHits (r : RegRow) (a : Nat) : Bool :=
  decide (r.off ≤ a) && decide ((a - r.off) / r.s1 < r.n1) && decide ((a - r.off) % r.s1 % r.s2 = 0) &&
    decide ((a - r.off) % r.s1 / r.s2 < r.n2)

/-- BAR0 bits [27:16] of `a`, with the eight port blocks taken as the first (R11). -/
def blockOf (a : Nat) : Nat :=
  let b := a % bankSpan / 0x10000
  if 0x10 ≤ b ∧ b ≤ 0x17 then 0x10 else b

/-- The register row of address `a`, whatever its bank; none for an unmapped offset (R9). -/
def rowOf (a : Nat) : Option RegRow :=
  let b := blockOf a
  (blockRows b).find? (fun r => rowHits r (b * 0x10000 + a % 0x10000))

/-- The event sources of each block number (R12, R492 and the source lists at the end of each chapter). -/
def sourcesOf (blk : Nat) : List Nat :=
  match blk with
  | 0x01 => [1]
  | 0x02 => [1]
  | 0x03 => [1, 2, 3, 4]
  | 0x04 => [1, 2, 3, 4, 5]
  | 0x05 => [1, 2]
  | 0x06 => [1, 2, 3]
  | 0x07 => [1, 2]
  | 0x08 => [1, 2, 3, 4, 5, 6, 7, 8, 9, 10, 11, 12]
  | 0x09 => [1, 2, 3]
  | 0x0A => [1, 2, 3, 4, 5, 6]
  | 0x0B => [1, 2, 3, 4]
  | 0x0C => [1, 2, 3, 4]
  | 0x0D => [1, 2, 3, 4, 5, 6]
  | 0x10 => [1, 2, 3]
  | 0x11 => [1, 2, 3]
  | 0x12 => [1, 2, 3]
  | 0x13 => [1, 2, 3]
  | 0x14 => [1, 2, 3]
  | 0x15 => [1, 2, 3]
  | 0x16 => [1, 2, 3]
  | 0x17 => [1, 2, 3]
  | 0x18 => [1, 2, 3, 4]
  | 0x19 => [1, 2, 3, 4, 5, 6, 7]
  | 0x1A => [1, 2, 3, 4]
  | 0x1B => [1, 2, 3, 4, 5]
  | 0x1C => [1, 2, 4, 16, 17, 18, 19, 20, 21, 22, 23, 24, 25, 26, 27, 28, 29, 30, 31]
  | _ => []

/-- A source ID exists (R388). -/
def sourceExists (src : Nat) : Bool := (sourcesOf (src / 128)).contains (src % 128)

/-- The bits of word `w` of the EVQ registers whose sources exist: sources 32w to 32w + 31 (R388). -/
def existWord (w : Nat) : Word :=
  ((sourcesOf (w / 4)).filter (fun s => s / 32 == w % 4)).foldl (fun acc s => acc ||| (1 <<< (s % 32))) 0

/-- The fuses of MEAS (R490, log entry 132): pos[c] of the factory INL table, here the uniform line c × 204.8, and 13,107 units (200 ps) for
every source code but 0x00. -/
def measFuse (a : Nat) : Option Nat :=
  let o := a % bankSpan
  if o = 0x091104 then some ((2048 * (a / bankSpan - 1) + 5) / 10)
  else if 0x091204 ≤ o ∧ o < 0x091400 then some 13107
  else none

/-- What a register holds at reset: the row's reset value; every mask bit of an existing source is 1 (R388); the fuses of MEAS hold the
factory values (R490); an unmapped address reads 0 (R9). -/
def resetOf (a : Nat) : Word :=
  if 0x040200 ≤ a % bankSpan ∧ a % bankSpan < 0x040A00 then existWord ((a % bankSpan - 0x040200) / 0x10) else
  if let some v := measFuse a then BitVec.ofNat 32 v else
  match rowOf a with
  | some r => BitVec.ofNat 32 r.rst
  | none => 0

end Sys2Proof.Machine
end

