-- ==== Sys2Proof/Machine/Events.lean ====
section
/-! DEFINITION. The event codes of the device: the source that raises each code (R492 and the source list of each chapter)
and the class of its record (the event table of each chapter). -/

namespace Sys2Proof.Machine

open Sys2Proof

/-- The source number within its block that raises event `code`: the source whose purpose covers the code (R492). The codes
of TB alarms (R101) and of DMA channels (R387) name their source in the parameter. DEDUCED where a chapter names its
sources by purpose only: log entry 6. -/
def evSrcLow (code param : Nat) : Nat :=
  let blk := code / 1024
  let c := code % 1024
  match blk with
  | 0x03 => if c ≤ 2 then 1 else if c ≤ 5 then 2 else if c ≤ 9 then 3 else 4
  | 0x04 => if c = 2 then 2 else if c = 3 ∨ c = 4 then 3 else if c = 7 then 4 else if c = 8 ∨ c = 9 then 5 else 1
  | 0x05 => if c = 1 then 1 else 2
  | 0x06 => if c = 1 ∨ c = 5 ∨ c = 6 then 1 else 2
  | 0x07 => if c = 3 then 2 else 1
  | 0x08 => if c ≤ 3 ∨ c = 14 then 1 else if c ≤ 7 then 2 else if c = 8 then 3 else if c = 12 then 5 + param % 8 else 4
  | 0x09 => if c ≤ 2 then 1 else if c = 4 ∨ c = 6 then 2 else 3
  | 0x0A => if c = 1 ∨ c = 12 then 1 else if c = 2 ∨ c = 4 ∨ c = 5 then 2 else if c = 3 ∨ c = 11 then 3
            else if c = 6 ∨ c = 7 ∨ c = 8 ∨ c = 13 then 4 else if c = 9 then 5 else 6
  | 0x0B => if c = 1 ∨ c = 8 then 1 else if c ≤ 4 then 2 else if c = 7 then 4 else 3
  | 0x0C => if c ≤ 5 ∨ c = 11 then 1 else if c = 6 ∨ c = 7 then 3 else if c = 9 then 4 else 2
  | 0x0D => if c ≤ 2 then 1 else if c ≤ 5 ∨ c = 8 then 2 else if c = 6 ∨ c = 13 then 3 else if c = 7 then 4
            else if c = 9 then 5 else 6
  | 0x18 => if c = 1 then 1 else if c = 2 ∨ c = 8 ∨ c = 10 then 2 else if c = 6 ∨ c = 7 then 4 else 3
  | 0x19 => if c = 1 then 1 else if c = 2 ∨ c = 3 then 2 else if c = 4 ∨ c = 5 ∨ c = 10 then 3 else if c = 6 then 4
            else if c = 7 ∨ c = 12 then 5 else if c = 8 then 6 else 7
  | 0x1A => if c ≤ 3 ∨ c = 7 then 1 else if c = 11 ∨ c = 15 then 3 else if c = 12 ∨ c = 13 ∨ c = 14 then 4 else 2
  | 0x1B => if c = 1 ∨ c = 7 then 1 else if c = 2 ∨ c = 3 ∨ c = 10 then 2 else if c = 4 ∨ c = 6 ∨ c = 13 then 3
            else if c = 5 then 4 else 5
  | 0x1C => if c ≤ 3 then 1 else if c = 4 then 2 else if c ≤ 7 then 16 + param % 16 else 4
  | b => if 0x10 ≤ b ∧ b ≤ 0x17 then (if c = 1 then 1 else if c = 2 ∨ c = 3 ∨ c = 7 then 2 else 3) else 1

/-- The 12-bit source ID that raises event `code` (R12). -/
def evSrc (code param : Nat) : Nat := code / 1024 * 128 + evSrcLow code param

/-- The class of the record of event `code`: 0 information, 1 corrected, 2 contained, 3 fatal (R16 and the event tables). -/
def evCls (code : Nat) : Nat :=
  if 0x4000 ≤ code ∧ code < 0x6000 then (if code % 1024 = 5 then 2 else 0)
  else if [0x2001, 0x2C07, 0x300B, 0x6403, 0x640C, 0x680A, 0x700A, 0x1403, 0x1805].contains code then 1
  else if [0x2002, 0x2407, 0x3003, 0x3004, 0x680B, 0x680F, 0x7002, 0x7003, 0x7004, 0x1002, 0x1003, 0x1006, 0x0C0B,
    0x0C04].contains code then 2
  else if [0x2003, 0x1008, 0x1009].contains code then 3 else 0

end Sys2Proof.Machine
end

