-- ==== Sys2Proof/Machine/Cells.lean ====
section
/-! DEFINITION. Sparse stores in one canonical form: a list of (key, value) pairs with strictly rising keys and no entry
equal to what an unlisted key reads as. The register file, the flash, the SRAM and the indexed tables are such stores, so
equal contents are equal data. -/

namespace Sys2Proof.Machine

open Sys2Proof

/-- A sparse store from natural keys to values. -/
abbrev Cells (α : Type) := List (Nat × α)

/-- The value at key `a`; an unlisted key reads as `dflt a`. -/
def cget {α : Type} (dflt : Nat → α) (m : Cells α) (a : Nat) : α :=
  match m with
  | [] => dflt a
  | p :: m => if p.1 = a then p.2 else cget dflt m a

/-- `m` without any entry at key `a`. -/
def cdel {α : Type} (m : Cells α) (a : Nat) : Cells α :=
  match m with
  | [] => []
  | p :: m => if p.1 = a then cdel m a else p :: cdel m a

/-- `m` with the pair `(a, v)` placed before the first larger key. -/
def cins {α : Type} (m : Cells α) (a : Nat) (v : α) : Cells α :=
  match m with
  | [] => [(a, v)]
  | p :: m => if a < p.1 then (a, v) :: p :: m else p :: cins m a v

/-- The store with `v` at key `a`; writing what an unlisted key reads as removes the entry. -/
def cput {α : Type} [DecidableEq α] (dflt : Nat → α) (m : Cells α) (a : Nat) (v : α) : Cells α :=
  if v = dflt a then cdel m a else cins (cdel m a) a v

/-- The entries of `m` whose key meets `p`. -/
def ckeep {α : Type} (p : Nat → Bool) (m : Cells α) : Cells α := m.filter (fun c => p c.1)

/-- The canonical form: every key is above `lo`, keys rise strictly, and no entry holds its default. -/
def cwfFrom {α : Type} [DecidableEq α] (dflt : Nat → α) : Option Nat → Cells α → Bool
  | _, [] => true
  | lo, p :: m =>
    (match lo with | none => true | some l => decide (l < p.1)) && decide (p.2 ≠ dflt p.1) && cwfFrom dflt (some p.1) m

/-- The canonical form of a store: strictly rising keys and no entry equal to what an unlisted key reads as. -/
def cwf {α : Type} [DecidableEq α] (dflt : Nat → α) (m : Cells α) : Bool := cwfFrom dflt none m

end Sys2Proof.Machine
end

