-- ==== Sys2Proof/Machine/State.lean ====
section
/-! DEFINITION. The state of the PT8820 as plain data: the register file, the memories, the hidden state of every block, and
the queue of waiting commands. Every register of the spec's tables lies in `regs` under its BAR0 address (a record behind a
selector, or a requester's own copy, under its own bank of that address); an address that is not listed holds its reset
value. State.reset is the machine right after power-on: VIN is present, only PD_AON is on, the device state is Boot. -/

namespace Sys2Proof.Machine

open Sys2Proof

/-- The stops a step can end in with a fault: none. Every command of the spec has an effect in every state (an access to a
register that does not exist reads zero and is ignored, R9; a domain that is off likewise, R23). -/
inductive Fault where
  deriving DecidableEq, Repr

/-- The refusals of a step. -/
inductive Refusal where
  /-- Raised by Dispatch.lean alone, for a command that has no meaning yet, under its mnemonic. Safe: the machine stops. -/
  | notModelled (mnemonic : String)
  deriving DecidableEq, Repr

/-- One time channel of TB (R86, R87, R102). -/
structure Chan where
  /-- Time at the start of the current group, in units of 2^-54 ns since the PTP epoch. -/
  t : Nat
  /-- Group position, 0 to 4. -/
  k : Nat
  /-- Servo and ensemble term, and the slew term of the current group, in units of 2^-56 (word 2). -/
  servo : Int
  ens : Int
  slew : Int
  /-- Effective frequency word of the current group, fixed when the group begins (R88). -/
  f : Int
  /-- Slew remainder in units of 2^-54 ns, and the slew limit (word 3). -/
  rem : Int
  limit : Nat
  /-- Pending step in units of 2^-16 ns, and pending set as a total in units of 2^-16 ns (word 4). -/
  step : Option Int
  set : Option Nat
  /-- Epoch counters: 1 µs and 1 ms (word 5). -/
  epochs : Nat
  epochsMs : Nat
  /-- Copy of the servo state held for REF (word 6): integrator and state of the servo. -/
  ref : Int
  refState : Nat
  deriving DecidableEq, Repr

/-- The hidden state of TB beside its registers. -/
structure Tb where
  ch0 : Chan
  ch1 : Chan
  ch2 : Chan
  /-- The odd channel in self-test while the voter is Repairing (R105). -/
  odd : Option Nat
  /-- The fenced channel under a readmission test (R106). -/
  readmit : Option Nat
  /-- Repairs of each channel since the last whole TAI second (R105). -/
  reps : Cells Nat
  /-- Repairs since reset (R182). -/
  repTotal : Nat
  /-- Slew amount added by TB_CMD.slew and waiting for a boundary, 2^-16 ns (R97, R99). -/
  slewAdd : Option Int
  /-- Near time of the command of the pending step or set (R93). -/
  armedAt : Nat
  /-- Servo and ensemble terms waiting for the next boundary (R88, R91). -/
  newServo : Option Int
  newEns : Option Int
  /-- Largest repair difference of the running 1 ms epoch (R107). -/
  voteMax : Nat
  /-- A slew whose remainder reached 0 in the current group (R99). -/
  slewEnding : Bool
  /-- Event 0x2008 already raised in this 1 ms epoch (R89). -/
  satDone : Bool
  /-- Steps and sets applied since reset; a timed launch compares it (R306). -/
  stepCount : Nat
  /-- Event 0x200D already raised (R114). -/
  calDone : Bool
  /-- Instants of the next 1 µs and 1 ms epoch on the timescale, in units of 2^-16 ns (R90). -/
  nextUs : Nat
  nextMs : Nat
  /-- TAI second in which a leap entry was last accepted (R111). -/
  leapSec : Nat
  deriving DecidableEq, Repr

/-- The low-power counter and the CK_32K count of PD_AON (R108, R425). -/
structure Lpc where
  /-- Counter value in units of 2^-32 ns since the PTP epoch. -/
  val : Nat
  /-- Free-running count of CK_32K cycles since power-on. -/
  ck : Nat
  /-- Value of `ck` at the last change of TB_LPC_INC (R461). -/
  incAt : Nat
  /-- Seconds spent in holdover of the counter are in BND; this flag says the time is traceable (R110). -/
  valid : Bool
  /-- Voted times of the CK_32K edges since PD_TB powered up, newest first, at most 32,769 (R108), 2^-16 ns. -/
  seen : List Nat
  deriving DecidableEq, Repr

/-- A pending event of a source (R390): latest code, parameter and near time of the raise. -/
structure EvPend where
  src : Nat
  code : Nat
  param : Nat
  near : Nat
  deriving DecidableEq, Repr

/-- An unread record of a source: ring and 11-bit ring index (R392). -/
structure EvActive where
  src : Nat
  ring : Nat
  idx : Nat
  deriving DecidableEq, Repr

/-- The hidden state of EVQ: pending and active sources, overflow records, moderation timers, failed records, re-routed
cores (R388 to R402). -/
structure Evq where
  pend : List EvPend
  /-- Pending events latched in PD_AON while PD_CTL is off (R402). -/
  pendAon : List EvPend
  active : List EvActive
  /-- Rings that hold an overflow record, with its 11-bit index (R398). -/
  overs : List (Nat × Nat)
  /-- Targets whose moderation timer runs, with the time at which it expires (R396). -/
  timers : List (Nat × Nat)
  /-- Targets notified since their ring was last empty: core interrupts and HOST_INT_N (R396). -/
  notified : List Nat
  /-- Ring positions already found with bad parity (R401). -/
  failed : List (Nat × Nat)
  deriving DecidableEq, Repr

/-- A recorder record before its CRC is formed (R16). -/
structure LRec where
  code : Nat
  cls : Nat
  sev : Nat
  inj : Bool
  merged : Bool
  supp : Bool
  /-- Full timescale of the raise, in units of 2^-16 ns. -/
  t16 : Nat
  p0 : Nat
  p1 : Nat
  p2 : Nat
  deriving DecidableEq, Repr

/-- A recorder weir (R425, R426). -/
structure Weir where
  tokens : Nat
  sup : Nat
  total : Nat
  /-- CK_32K count of the last update. -/
  upd : Nat
  lastCode : Nat
  firstSec : Nat
  deriving DecidableEq, Repr

/-- The hidden state of LOG and of the archive (R423 to R436). -/
structure Log where
  /-- Input queue, oldest first. -/
  inq : List LRec
  weirs : Cells Weir
  drop : Nat
  /-- Records dropped in the running second (R424). -/
  dropSec : Nat
  /-- Sweeps of the weirs and samples of the die temperature so far, and CK_32K counts of the last periodic and the last forced state
  block (R425, R431, R436). -/
  sweeps : Nat
  samples : Nat
  periodAt : Nat
  forcedAt : Option Nat
  /-- Records suppressed and not yet added to the performance counters that count them (R437). -/
  supSig : Nat
  /-- First sequence number since the last restore. -/
  firstSeq : Nat
  /-- Requesters whose last LOG_REC0 read found the recorder empty (R428). -/
  emptyRd : List Nat
  /-- Archive budget in page-seconds (R431): a page costs 3,600; the time at which event 0x1804 was last raised. -/
  budget : Nat
  budgetAt : Option Nat
  /-- A change of archived key state waits for a forced state block (R431); accepted leap entries wait for their pages. -/
  forced : Bool
  leapDirty : Bool
  stateSeq : Nat
  leapVer : Nat
  sectSeq : Nat
  /-- Next sequence number to archive. -/
  archNext : Nat
  /-- Sector of the newest state block, and sectors of the pages of the current leap table (R432). -/
  blkSect : Option Nat
  leapSect : List Nat
  /-- Sectors skipped until the next restore (R432). -/
  badSect : List Nat
  /-- Thermal cycle detector (R436): lowest reading since the last count, highest since, armed. -/
  tcLow : Option Int
  tcHigh : Option Int
  /-- The last once-per-second reading of the die temperature, °C (R436). -/
  dieTemp : Int
  deriving DecidableEq, Repr

/-- A reporting unit of FLT (R405 to R416). -/
structure FUnit where
  state : Nat
  part : Bool
  /-- The rails hold the error pair. -/
  live : Bool
  /-- Level of a stuck pair, and whether the unit is polled (R407). -/
  stuck : Option Bool
  polled : Bool
  /-- Times of the passed tests of the window (R411). -/
  upsets : List Nat
  /-- A running readmission test was asked for by the block's own command (R415). -/
  byBlock : Bool
  cause : Nat
  valid : Bool
  cbr : Bool
  inj : Bool
  merges : Nat
  reports : Nat
  fences : Nat
  deriving DecidableEq, Repr

/-- A handling (R409, R410). Slot 8 and above: waiting for a slot. -/
structure FSlot where
  idx : Nat
  unit : Nat
  cls : FCls
  cause : Nat
  ev : Nat
  evParam : Nat
  inj : Bool
  stFail : Bool
  merges : Nat
  lastMerged : Nat
  polled : Bool
  phase : Nat
  t0 : Nat
  /-- Time of detection of a report that PD_AON latched (R39). -/
  seen : Option Nat
  deriving DecidableEq, Repr

/-- An injection in progress (R418). -/
structure FInj where
  unit : Nat
  cause : Nat
  cls : FCls
  stFail : Bool
  inUnit : Bool
  left : Nat
  /-- Time of the last report delivered (R418). -/
  lastAt : Option Nat
  deriving DecidableEq, Repr

/-- A fatal decision (R412, R417, R420): unit, cause, the block's event and its parameter, injected, disagreement of the
collector's halves. -/
structure FFatal where
  unit : Nat
  cause : Nat
  ev : Nat
  evParam : Nat
  inj : Bool
  collector : Bool
  /-- Time of detection of a report that PD_AON latched (R39). -/
  seen : Option Nat
  deriving DecidableEq, Repr

/-- The hidden state of FLT. -/
structure Flt where
  units : Cells FUnit
  slots : List FSlot
  waiting : List FSlot
  injn : Option FInj
  /-- Fatal decisions not yet carried out (R412, R420). -/
  fatal : List FFatal
  /-- FAULT pins show fatal: from the decision until the images are applied (R421). -/
  pinsFatal : Bool
  /-- Reports of PD_AON units latched while PD_CTL is off, with the time of detection (R39). -/
  aonReports : List (FltReport × Nat)
  deriving DecidableEq, Repr

/-- The configuration of a PCIe function (R65, R66, R489): Bus Master Enable, MSI-X Enable, Function Mask, the vector's mask and pending
bits, PME_En, messages sent; Max_Payload_Size of 256 bytes; ASPM enables L1, L1.1, L1.2 from bit 0; AER uncorrectable and correctable
status; the base addresses of BAR0/1 and BAR2/3; address and data of the MSI-X table entry. -/
structure PcieFn where
  bme : Bool
  msixEn : Bool
  fmask : Bool
  vmask : Bool
  pba : Bool
  pmeEn : Bool
  sent : Nat
  mps256 : Bool
  aspm : Nat
  aerUnc : Word
  aerCor : Word
  bar0 : Nat
  bar2 : Nat
  msgAddr : Nat
  msgData : Word
  deriving DecidableEq, Repr

/-- A flash operation of a bulk channel (R84), running or waiting behind an earlier one of the channel: page or sector base, the bytes that
the page buffer held for the page, erase or program. -/
structure FlashOp where
  chan : Nat
  base : Nat
  data : List (Option Byte)
  erase : Bool
  deriving DecidableEq, Repr

/-- The hidden state of HIF: PCIe functions, page buffers of the bulk channels, flash operations, host queues. -/
structure Hif where
  f0 : PcieFn
  f1 : PcieFn
  /-- Page buffer of a bulk channel: key is channel × 2^32 + flash offset. -/
  pageBuf : Cells (Option Byte)
  flashOps : List FlashOp
  /-- Channels whose claim R81 did not allow. -/
  refused : List Nat
  /-- Time of the last event 0x0401 of each requester (R78), 2^-16 ns. -/
  offAt : Cells (Option Nat)
  /-- Size of the flash in bytes, read from SFDP (R81). -/
  flashSize : Nat
  /-- WAKE_N driven by PWR_CTL.wake_host (R464). -/
  wakeHost : Bool
  deriving DecidableEq, Repr

/-- A device-state transition in progress (R458, R459). -/
inductive Trans where
  | none | toServe | toStandby | toLow
  deriving DecidableEq, Repr

/-- The hidden state of PWR. -/
structure Pwr where
  /-- false in Off (R443). -/
  powered : Bool
  /-- RESET_N is low (R456). -/
  resetLow : Bool
  trans : Trans
  /-- PWR_LW_EXIT armed by the write of its high word (R464). -/
  exitArmed : Bool
  /-- Kinds of the running Low water wake: discipline, GNSS. -/
  wakeDisc : Bool
  wakeGnss : Bool
  /-- The stages are off; when the rails are looked at again after a rail fault (R449). -/
  stagesOff : Bool
  railAt : Nat
  straps : Straps
  /-- Domains on their ring clock (R25). -/
  ringDoms : List Nat
  /-- Domains that the structure image declares (R43), one bit per number of R450. -/
  declared : Nat
  /-- The last ensemble term, kept for the discipline of Low water (R461). -/
  lwEns : Int
  /-- PLL_TICK runs in the present wake; when the wake began; when the next discipline and GNSS wakes are due (R460). -/
  wakeTick : Bool
  wakeAt : Nat
  nextDisc : Nat
  nextGnss : Nat
  /-- When firmware last stored ephemerides, whether their tables have bad parity, and the end of a tracking for new ones (R230). -/
  ephAt : Option Nat
  ephBad : Bool
  refreshTo : Option Nat
  /-- When Standby or Serve was entered from another state (R56). -/
  upAt : Nat
  deriving DecidableEq, Repr

/-- The accumulators and the scheduling state of a MEAS request (R122 to R128). -/
structure MReq where
  n : Nat
  sum : Int
  sq : Nat
  mn : Int
  mx : Int
  age : Nat
  /-- INL calibration in force at the last sample and at the first (R124). -/
  cal : Nat
  cal0 : Nat
  uncal : Bool
  timeout : Bool
  ovf : Bool
  /-- N in force for this accumulation (R125). -/
  reqN : Nat
  chan : Option Nat
  /-- Number of the grant, for the latest start (R127). -/
  startNo : Nat
  due : Nat
  /-- Stamp of a start edge that waits for its stop (R122). -/
  pend : Option Nat
  presc : Nat
  /-- Preempted: stops after its current sample (R127), a STAMP request at this near time at the latest. -/
  stopping : Bool
  stopBy : Nat
  lastRes : Nat
  starved : Bool
  deriving DecidableEq, Repr

/-- The hidden state of MEAS. -/
structure Meas where
  reqs : Cells MReq
  /-- Channels whose skew run is due (R132), and channels that raised event 0x2405 in this 1 ms epoch (R118). -/
  skewDue : List Nat
  ovrDone : List Nat
  /-- Ticks since MEAS powered up. -/
  tick : Nat
  /-- Tick of the last accepted start edge of each channel (R118). -/
  startAt : Cells (Option Nat)
  /-- Tick at which the hold-off window of a REFIN pin ends (R121). -/
  holdEnd : Cells (Option Nat)
  /-- Near time of the last accepted edge of each REFIN pin, for the activity test (R140), and its tick. -/
  pinLast : Cells (Option Nat)
  pinTick : Cells (Option Nat)
  /-- Channel time demanded by each class and granted to it in the running second, in 2^-16 ns (R129); the time up to which it is counted,
  and the TAI second. -/
  loadD : Cells Nat
  loadG : Cells Nat
  loadAt : Nat
  loadSec : Nat
  /-- Channels fenced by their skew or by a test of their unit (R132, R405). -/
  out : List Nat
  /-- Time of the last passing INL run, or of the return to service, and of each channel's last skew run (R133). -/
  inlAt : Nat
  skewAt : Cells Nat
  /-- No request is served before the first INL run after power-up (R133). -/
  initCal : Bool
  /-- The INL run in progress is a full run (R130). -/
  fullRun : Bool
  /-- Table that a passed run staged for the next 1 ms epoch, with its temperature (R131). -/
  shadow : Option (List Nat × Int)
  grants : Nat
  /-- Converter temperature of the last passing run, 0.1 °C (R133). -/
  lastTemp : Option Int
  deriving DecidableEq, Repr


/-- A rational number as a numerator and a positive denominator. -/
structure Ratio where
  num : Int
  den : Nat
  deriving DecidableEq, Repr

/-- The hidden state of a reference slot (R139 to R141, R150). -/
structure RSlot where
  /-- Phase error, near time and step count of the previous value (R139). -/
  prevE : Option Int
  prevT : Nat
  prevSteps : Nat
  /-- y and d of the last result, as exact fractions (R139). -/
  y : Option Ratio
  d : Option Ratio
  /-- Causes met since the last epoch: hard and soft (R140), and a second value that passed (R141). -/
  hard : Nat
  soft : Nat
  softLast : Nat
  pass2 : Bool
  /-- REF's epoch counts at the last result or feed, at the entry into Suspect, at the last epoch at which the cause of Suspect was present and
  at the last received SSM, and the last interval between two fed samples in epochs (R138, R140 to R142). -/
  lastMs : Nat
  susMs : Nat
  causeMs : Nat
  esmcMs : Nat
  feedIv : Nat
  /-- The Qualifying timer in ms (R141). -/
  qualMs : Nat
  hasOnset : Bool
  info : Option RefInfo
  deriving DecidableEq, Repr

/-- A disagreement between two slots of equal rank (R146, R147). -/
structure Disagree where
  a : Nat
  b : Nat
  judged : Bool
  held : Bool
  deriving DecidableEq, Repr

/-- Sums over the running history interval (R148). -/
structure HistAcc where
  n : Nat
  servo : Int
  ens : Int
  efc : Nat
  ec : Int
  clean : Bool
  hold : Bool
  sus : Bool
  deriving DecidableEq, Repr

/-- The hardware fit (R151): p(t) := m2 + b1 × (t − t2) with m2 = s2 / n2, t2 = tb2 / n2 and b1 = bn / bd, times counted from
`base`. -/
structure HistFit where
  base : Nat
  s2 : Int
  tb2 : Int
  n2 : Nat
  bn : Int
  bd : Int
  efc : Nat
  deriving DecidableEq, Repr

/-- The hidden state of REF. -/
structure Ref where
  slots : Cells RSlot
  /-- Epochs of 1 ms that REF has worked. -/
  ms : Nat
  /-- Pairs of equal rank that disagree, with the epoch count since which every result did (R146). -/
  apart : List (Nat × Nat × Nat)
  disagrees : List Disagree
  /-- Rewind asked for at the next epoch, to the onset mark (R150). -/
  rewind : Option Nat
  /-- The active entry changed since the last evaluation of the servo (R156). -/
  changed : Bool
  activeAt : Nat
  acqFrom : Nat
  acqClass : Nat
  /-- Waiting for the first phase error of the new active slot, and that of a frequency slot (R157). -/
  phase : Bool
  eFirst : Int
  /-- The epoch count since which every result was within the lock window with no slew left; results beyond four times it in a row
  (R156). -/
  good : Option Nat
  bad : Nat
  eC : Int
  eN : Int
  hasResult : Bool
  lastUnc : Nat
  /-- Start on the timescale, and coefficients, of the current Holdover (R161). -/
  holdT0 : Nat
  holdA0 : Nat
  holdA1 : Nat
  holdA2 : Nat
  a0Set : Bool
  /-- Step that REF asked of TB and that still waits (R157). -/
  stepPend : Option Int
  /-- Integrator written and not yet in force, and the integrator (R153). -/
  i : Int
  iPend : Option Int
  /-- Committed ensemble term and rate that wait, and the rate in force (R159). -/
  ensPend : Option (Int × Int)
  ensRate : Int
  /-- The epoch count of the last commit of the ensemble term (R159). -/
  ensMs : Option Nat
  /-- Committed firmware model: f0, f1, commit time (R151). -/
  model : Option (Int × Int × Nat)
  /-- Firmware declared a time-capable lock before (R156). -/
  timeLock : Bool
  acc : HistAcc
  /-- Entries written since the ring started, the pointer and the rewind mark as entry numbers (R148, R149). -/
  histN : Nat
  histPtr : Option Nat
  histMark : Option Nat
  histBase : Option Nat
  fit : Option HistFit
  lastClean : Nat
  /-- DAC codes that wait for the application boundary (R155). -/
  efcPend : List (Nat × Nat)
  /-- Tick oscillator in use, and the servo output before steering. -/
  servoOut : Int
  deriving DecidableEq, Repr

/-- The hidden state of IMG. -/
structure Img where
  attA : Nat
  attB : Nat
  badA : Bool
  badB : Bool
  lkgValid : Bool
  /-- SHA-256 of the last accepted key layout (R52). -/
  layout : Option Nat
  /-- The running images: structure, core firmware, baseband firmware (empty when absent). -/
  run : List (List Byte)
  /-- A verified structure image that waits for its application epoch (R59). -/
  reload : Option (List Byte)
  /-- Time of its acceptance, and whether an epoch at least 1 µs later has begun (R59). -/
  reloadAt : Nat
  reloadReady : Bool
  /-- POLICY_RUN's revertive default and POLICY_BOOT's serve_at_start (R48). -/
  revertive : Bool
  serveAtStart : Bool
  /-- IDENT (R48, R181): organizationId, organizationSubType, tlvType of the bound TLV, Field Type of the NTP bound field. -/
  org : Nat
  orgSub : Nat
  tlvType : Nat
  ntpField : Nat
  /-- Words of the staging area that were written, and the generation of its undefined contents after a Boot from flash (R82). -/
  stage : Cells (Option Word)
  stageGen : Option Nat
  /-- The pages that the ROM loaded from the core firmware at Boot, loaded again in a Low water wake (R460). -/
  loads : List (Nat × Nat × Bool)
  /-- The hardware's interface table in the boot ROM, 8 bytes an entry (R51). -/
  rom : List Byte
  deriving DecidableEq, Repr



/-- The hidden state of BND (R164 to R176). -/
structure Bnd where
  /-- Ledger epochs counted, and the repair differences above 0 of the last 1,000, with their epoch (R172). -/
  epochs : Nat
  votes : List (Nat × Nat)
  /-- Inputs that are aged, and components that are saturated (R166, R176). -/
  aged : List Nat
  sat : List Nat
  /-- Epochs in a row with a freeboard of at least BND_WARN (R175). -/
  okMs : Nat
  /-- B_HOLD kept after Holdover (R170), and Holdovers entered (R169). -/
  frozen : Option Nat
  holdN : Nat
  /-- Start and base of B_HOLD in Free-run (R170). -/
  freeT0 : Nat
  freeBase : Nat
  /-- Last epoch with a time-capable slot or an applied set, and B0 of it (R167). -/
  freqT0 : Nat
  freqB0 : Nat
  /-- |s| of a step or set that REF did not ask for, until the next result (R168). -/
  stepAdd : Nat
  /-- Servo state of the previous epoch; R169 was in force in it. -/
  wasServo : Nat
  wasHold : Bool
  /-- Time and base copied at each epoch for a fatal restart (R171). -/
  copyT : Nat
  copyBase : Nat
  /-- B_REF + B_SERVO of the epoch before the last one (R169). -/
  prevSum : Nat
  /-- Time of the last sample of each oscillator comparison, by its request, and the interval that the request asks for (R166). -/
  osc : List (Nat × Nat × Nat)
  /-- B_PATH of the eight ports and of the segment (R173). -/
  paths : List Nat
  /-- The active slot is Suspect since this time, with the largest y_dis met (R167). -/
  susSince : Option Nat
  disMax : Nat
  /-- Start of the Holdover in force, or of the last, on the timescale (R169); a set was applied since the last epoch. -/
  t0 : Nat
  setNew : Bool
  /-- Anchors already used: the input numbers with an anchor in force (R182). -/
  swUsed : List Nat
  /-- Advertised class of the previous epoch (R175). -/
  advOld : Nat
  deriving DecidableEq, Repr


/-- The hidden state of a synthesis PLL. -/
structure SPll where
  /-- A hop runs (R193). -/
  hop : Bool
  /-- Target divider in units of 2^-32, the word applied in units of 2^-48, and its residue in units of 2^-104 (R185). -/
  n : Nat
  nApp : Nat
  res : Int
  /-- F at the last update; the word was formed with steering. -/
  lastF : Int
  steered : Bool
  /-- Cache entries by use, latest first (R189). -/
  lru : List Nat
  /-- It coasted and has not locked since (R192); outputs wait for the 1 µs epoch after lock (R192, R193, R205); the monitor's limit has been
  acted on in this coasting (R191). -/
  coasted : Bool
  restart : Bool
  monDone : Bool
  deriving DecidableEq, Repr

/-- The hidden state of a clock output or of a divider group: target of the fine delay, the output cycles of the running ms in thousandths
(R201), and the VCO cycles by which the output is still to be stretched (R197). For an output, the timescale instant of the first rising edge
of an aligned start (R196). -/
structure SOut where
  target : Nat
  cyc : Nat
  left : Nat
  startAt : Option Nat
  deriving DecidableEq, Repr

/-- A pulse output: the settings in force, and those that wait for a quiet epoch (R198, R200). -/
structure SPps where
  per : Nat
  wid : Nat
  phi : Nat
  en : Bool
  newSet : Option (Nat × Nat × Nat)
  newEn : Option Bool
  /-- The last edge fired: its instant and the fine delay code (R199); the instant of an edge that R200 leaves out; the last err (R206). -/
  edge : Option (Nat × Nat)
  mute : Option Nat
  err : Int
  deriving DecidableEq, Repr

/-- The hidden state of SYN. -/
structure Syn where
  plls : Cells SPll
  outs : Cells SOut
  pps : Cells SPps
  /-- PLLs that OUTPUT_MODE starts (R205). -/
  auto : List Nat
  /-- Those of them that have not started since their domain powered up (R205). -/
  autoLeft : List Nat
  /-- Outputs with an applied calibration result since their domain powered up (R202). -/
  calHas : List Nat
  /-- The tick of the last 1 ms epoch (R200). -/
  msTick : Option Nat
  /-- The claim comparison lets this chip drive claim-ruled outputs (R203). -/
  claimWin : Bool
  deriving DecidableEq, Repr


/-- The NCOs at the first sample of the running integration and the dump state of a GNSS channel (R218 to R222). -/
structure GCh where
  /-- Sample index of the NCO state, code phase and carrier in units of 2^-48, whole primary periods. -/
  idx : Nat
  code : Nat
  carr : Int
  periods : Nat
  /-- Rates of the running integration, and of the increment that produced the present phase (R224). -/
  rho : Nat
  om : Int
  rhoIn : Nat
  omIn : Int
  /-- Commits that wait for the next integration (R221). -/
  newRho : Option Nat
  newOm : Option Int
  newAdj : Option Int
  /-- Flags of the next dump record and its sequence number (R220). -/
  first : Bool
  changed : Bool
  steps : Nat
  seq : Nat
  /-- A dump was lost since the last epoch (R225). -/
  lost : Bool
  /-- |P|² and |N|² of the latest dumps, newest first. -/
  powers : List (Nat × Nat)
  deriving DecidableEq, Repr

/-- What a channel's latch took at a measurement epoch (R224). -/
structure GLatch where
  code : Nat
  carr : Int
  periods : Nat
  rhoIn : Nat
  omIn : Int
  deriving DecidableEq, Repr

/-- A measurement epoch between its strobe and its records (R223). -/
structure GEpoch where
  te : Nat
  o : Nat
  x : Cells (Option Int)
  coarse : Nat
  latched : Cells (Option GLatch)
  step : Bool
  deriving DecidableEq, Repr

/-- The hidden state of GN. -/
structure Gn where
  chs : Cells GCh
  ep : Option GEpoch
  /-- A strobe was issued after the last records were written (R227). -/
  strobed : Bool
  /-- Coarse mask of the last written epoch. -/
  lastCoarse : Nat
  /-- The instant of the next measurement epoch (R223). -/
  nextTe : Nat
  /-- Job slots queued or running, in order, and the GN_ACQ_CFG and GN_ACQ_DOP words with which each was started (R216). -/
  jobs : List Nat
  jobPar : Cells (Nat × Nat)
  /-- Good epochs in a row of a lost stream (R209). -/
  good : Cells Nat
  /-- Streams, length and trigger of the capture; a changed verdict has fired trigger 2 (R213). -/
  capMask : Nat
  capMs : Nat
  capTrig : Nat
  trigNow : Bool
  /-- Sample format (one bit per stream) and rate of the captured streams; the trigger's time; the streams whose first sample is not
  stamped yet (R212, R213). -/
  capFmt : Nat
  capFs : Cells Nat
  capAt : Nat
  capWait : List Nat
  /-- When GN_FE_EN went high for a Low water capture (R230). -/
  feAt : Nat
  /-- Rings that raised event 0x3406 in this 1 ms epoch, and the dropped records of each ring (R220). -/
  ringDone : List Nat
  dropped : Cells Nat
  /-- Sequence number in each half of the epoch buffer (R225), overruns, steps seen by the last epoch. -/
  half0 : Option Nat
  half1 : Option Nat
  overruns : Nat
  steps : Nat
  deriving DecidableEq, Repr


/-- A fuse command in progress (R335): the low byte of its KEY_FUSE_CMD write, its slot, the data words, and whether the seal
opened during it (R332). -/
structure FuseOp where
  cmd : Nat
  slot : Nat
  data : List Word
  cut : Bool
  deriving DecidableEq, Repr

/-- The hidden state of KEY: the keys, which no register shows (R314), and what runs. -/
structure Key where
  /-- Master key and expiry of each NTS slot; key of each association; public data of each OSNMA slot (R318). -/
  nts : Cells Nat
  ntsExp : Cells Nat
  sa : Cells Nat
  osn : Cells (List Byte)
  kekV : Nat
  kekF : Nat
  /-- Activation and expiry of each OSNMA slot; key ID, activation and expiry of KEK_V (R320, R321). -/
  osnT : Cells (Nat × Nat)
  kekT : Nat × Nat × Nat
  /-- Slots, as kind and index, whose delivery asked for activation at the next 1 ms epoch (R325). -/
  fresh : List (Nat × Nat)
  /-- PD_CRY has powered up and the engines' known-answer tests have not run (R317). -/
  katDue : Bool
  /-- Engines taken out, kept in PD_AON (R414), and engines whose credits are out for a self-test of their unit (R405). -/
  engOut : List Nat
  engTest : List Nat
  /-- Bytes of a delivery by channel × 4096 + offset, and the channels that receive one (R321, R322). -/
  dlv : Cells Byte
  rx : List Nat
  /-- A delivery that waits for a credit (R316): its channel. -/
  wait : Option Nat
  fuse : Option FuseOp
  /-- Causes of a running zeroization, as bits [2:0] of event 0x6804, and whether KEK_F is revoked after it (R331). -/
  zero : Option Nat
  zeroKek : Bool
  /-- CK_32K count at which the presence window closes (R329). -/
  winEnd : Nat
  /-- Revoke bits of the hash slots as the last Boot found them (R335). -/
  revBoot : Nat
  /-- Next word of the selected OSNMA data that KEY_OSN_DATA returns. -/
  osnPos : Nat
  /-- DRBG requests since the last reseed (R336), and the hash keys of R292, R294 and R302 drawn at Boot. -/
  rngReq : Nat
  hashKeys : List Nat
  deriving DecidableEq, Repr


/-- The hidden state of a SerDes lane (R245, R248, R251, R252). -/
structure PLane where
  /-- φ_tx in units of 2^-16/25 ns, in which every word period of R234 is whole. -/
  phi : Nat
  /-- Times of the last applied running calibration results: receive and transmit. -/
  rxAt : Option Nat
  txAt : Option Nat
  /-- Latency calibration of the lane has passed since it was last started (R252). -/
  latOk : Bool
  deriving DecidableEq, Repr

/-- A received frame with its descriptor (R237, R244): port block (8 the drive segment), subport, bytes from the destination
address to the FCS, receive timestamp, cal_seq, step count modulo 256, buffers held. -/
structure RxDesc where
  port : Nat
  sub : Nat
  bytes : List Byte
  tRx : Nat
  calSeq : Nat
  steps : Nat
  bufs : Nat
  deriving DecidableEq, Repr

/-- The message whose Follow_Up is owed once it has left (R286, R287). -/
inductive FuSrc where
  | mc (i : Nat)
  | uc (s : Nat)
  | gp
  | pdelay (f : RxDesc)
  deriving DecidableEq, Repr

/-- What a pipeline works on (R279): a received frame, or a scheduled message of a multicast instance, a session or the drive
segment. -/
inductive Msg where
  | rx (f : RxDesc)
  | mcSync (i : Nat)
  | mcAnnounce (i : Nat)
  | mcL1 (i : Nat)
  | ucSync (s : Nat)
  | ucAnnounce (s : Nat)
  | gpSync
  | gpAnnounce
  | follow (src : FuSrc) (seq tTx : Nat)
  deriving DecidableEq, Repr

/-- An entry of a pipeline's input queue: its wheel slot, if the wheel issued it, and whether it was counted late (R295). -/
structure PItem where
  msg : Msg
  slot : Option Nat
  late : Bool
  /-- A scheduled message resubmitted after its job was lost with an engine (R317). -/
  again : Bool
  deriving DecidableEq, Repr

/-- A frame handed to a MAC, or waiting for its target (R242, R306): bytes without FCS, buffers held, step count at build, target,
predicted t_w, host tag of a requested report, the Follow_Up owed, and the pipeline that built it. -/
structure TxFrame where
  bytes : List Byte
  bufs : Nat
  steps : Option Nat
  target : Option Nat
  pred : Option Nat
  report : Option Nat
  follow : Option (FuSrc × Nat)
  pipe : Nat
  deriving DecidableEq, Repr

/-- A frame in progress (R237, R241): the bytes so far, whether a valid start and an error marker were met, its receive timestamp with
cal_seq and step count, the buffers it holds; `done` once its outcome is counted and the rest is discarded. -/
structure RxPart where
  bytes : List Byte
  start : Bool
  err : Bool
  tRx : Nat
  calSeq : Nat
  steps : Nat
  held : Nat
  done : Bool
  deriving DecidableEq, Repr

/-- The hidden state of a subport, or of the drive segment's MAC. -/
structure PSub where
  /-- The frame that is being received. -/
  part : Option RxPart
  /-- Frames that wait for their targets, in target order, and frames handed to the MAC, oldest first. -/
  timed : List TxFrame
  mac : List TxFrame
  /-- The last frame put on the wire, FCS included. -/
  last : List Byte
  /-- Sum of |difference| of mismatched transmit stamps since the last calibration result, in 2^-16 ns (R247). -/
  mis : Nat
  /-- One-step fallback in force (R287). -/
  fallback : Bool
  deriving DecidableEq, Repr

/-- A record of the host receive queue or the firmware frame queue, with the buffers it holds (R296, R308). -/
structure HostRec where
  bytes : List Byte
  bufs : Nat
  deriving DecidableEq, Repr

/-- The hidden state of PORT and SVC. -/
structure Net where
  lanes : Cells PLane
  subs : Cells PSub
  /-- Input queue of each pipeline, the time since which its head waits for a credit, its nonce counter (R278, R281, R299). -/
  queues : Cells (List PItem)
  waits : Cells (Option Nat)
  nonces : Cells Nat
  /-- Host receive queue, whether its head has been read in part, and the bytes already read (R308); firmware frame queue. -/
  hostRx : List HostRec
  hostPos : Nat
  fwq : List HostRec
  /-- Bytes of the host transmit queue that are not yet a complete record, or that wait (R309). -/
  hostTx : List Byte
  /-- Frames for the non-timing responder (R307). -/
  resp : List RxDesc
  /-- Weir buckets that have been used: tokens and last update (R302); the others of each half share one pair. -/
  weir : Cells (Option (Nat × Nat))
  weirN : Nat × Nat
  weirP : Nat × Nat
  /-- Device-wide weirs for KoD and ICMP: tokens and the time of their last update (R304, R307). -/
  kod : Nat × Nat
  icmp : Nat × Nat
  kodDrop : Nat
  /-- Events and key IDs already reported in this second. -/
  secDone : List Nat
  keyDone : List Nat
  /-- Absolute wheel slot served last, largest backlog, operations of each pipeline in this second (R294). -/
  slot : Option Nat
  backlog : Nat
  ops : Cells Nat
  /-- Timescale of the last 1 ms epoch at which the servo was Locked (R300). -/
  lockedAt : Option Nat
  /-- sequenceIds of L1_SYNC Signaling per multicast instance, of session Signaling, and of gPTP on the segment. -/
  l1Seq : Cells Nat
  sigSeq : Cells Nat
  gpSync : Nat
  gpAnn : Nat
  /-- SSM last sent per subport and the TAI second of the last PDU (R296). -/
  ssm : Cells (Option (Nat × Nat))
  /-- The leap indicators as last reported, PTP and NTP: 0 none, 1 insertion, 2 deletion (R289). -/
  leapInd : Nat × Nat
  /-- Next-hop table: source MAC addresses (R291). -/
  nh : Cells (Option Nat)
  deriving DecidableEq, Repr

/-- A key of a duplicate discard (R271, R363): identity, message type, highest sequence number, seen map. -/
structure DupKey where
  id : List Byte
  type : Nat
  h : Nat
  map : Nat
  deriving DecidableEq, Repr

/-- The hidden state of DSG: bytes of each launch entry, whether a step made it due, duplicate keys, cycle in progress, echoes. -/
structure Dsg where
  data : Cells (List Byte)
  byStep : List Nat
  keys : List DupKey
  /-- A cycle is in progress; the DSG_CFG that waits for its end (R259). -/
  cycle : Bool
  next : Option Word
  /-- Near time of the last beacon started, and when the last cycle ended (R261). -/
  beaconAt : Option Nat
  cycleEnd : Option Nat
  /-- Echoes of the running calibration period: when it began, count and sum (R265); near time of the last passing result. -/
  echoFrom : Nat
  echoN : Nat
  echoSum : Int
  calAt : Option Nat
  /-- The chip won the claim comparison (R272). -/
  won : Bool
  /-- Sequence numbers of the template sender (R273). -/
  lwSync : Nat
  lwAnn : Nat
  /-- Pdelay_Req that wait for the Low water responder, and t_tx of the last Sync of the template sender (R273). -/
  pd : List RxDesc
  lwTx : Option Nat
  deriving DecidableEq, Repr


/-- A Millrace frame put on the link (R339): flag Active, mirror epoch of the sender, payload. -/
structure MrFrame where
  active : Bool
  epoch : Nat
  body : MrBody
  deriving DecidableEq, Repr

/-- The hidden state of TWN. -/
structure Twn where
  /-- Claim latched at the start of the running round (R344); the partner's claim as the last commit or health frame gave it. -/
  claim : Nat
  peerClaim : Nat
  /-- Rounds since the partner's presence bit was last dominant, at most 2; rounds without fault while the bus is faulted. -/
  absent : Nat
  good : Nat
  /-- Time at which the link was last Up (R351). -/
  upAt : Option Nat
  /-- Active: a mirror runs, its changes are kept; records of the running epoch; epochs not yet acknowledged; position of the sweep (R354 to R357). -/
  mirroring : Bool
  journal : List JRec
  retained : List (Nat × List JRec)
  sweepPos : Option Nat
  checkPos : Nat
  /-- Standby: the staged epoch; sessions that the running sweep has given; hash keys of the sweep. -/
  staged : Option (Nat × List JRec)
  swept : List Nat
  newKeys : Option (List Nat)
  /-- Local 1 ms epochs, their distance to the mirror epoch, and shadow issues with the epoch of each (R358): 2s and 2s + 1 for
  Sync and Announce of session s, from 2^20 on those of instance i, from 2^21 those of gPTP. -/
  ms : Nat
  ofs : Option Int
  shadow : List (Nat × Nat)
  /-- A step of the Active that waits for a quiet boundary, its terms and items of the last applied epoch (R352). -/
  shift : Option Int
  terms : Int × Int × Int
  items : Option RefItems
  /-- Successive alignment results beyond the time limit, and within both limits (R362); position in the test cycle, and in the
  store. -/
  beyond : Nat
  within : Nat
  huntPos : Nat
  scrubPos : Nat
  /-- Frames that the last sending command put on the link. -/
  out : List MrFrame
  /-- Frames of the running 1 ms epoch that failed their CRC (R340). -/
  crcErrs : Nat
  /-- The hello of this training has been sent; the partner's hello that waits for it (R340, R342). -/
  sentHello : Bool
  gotHello : Option Hello
  /-- Time at which the partner was last found absent (R347); of the last hello or health frame of the partner, and the TAI second of the
  last health frame sent (R360, R361); of the last hunt test (R362). -/
  goneAt : Option Nat
  peerAt : Nat
  healthSec : Option Nat
  huntAt : Option Nat
  /-- Duplicate keys of the upstream entries (R363). -/
  dup : Cells (List DupKey)
  deriving DecidableEq, Repr


/-- An entry of a TLB (R376): ASID tag, global, virtual page number in units of the page, its size in bytes, and the leaf. -/
structure TlbE where
  asid : Nat
  global : Bool
  vpn : Nat
  size : Nat
  leaf : Nat
  deriving DecidableEq, Repr

/-- The part of a core that CTL holds: save banks in use with pc, status and fault address, oldest first (R369), the time of the
last kick (R370), the armed comparator (R371), the time of its last double fault or watchdog expiry (R368), a local timer
exception raised, and the TLB. -/
structure Core where
  banks : List (Nat × Nat × Nat)
  kickAt : Nat
  tmr : Bool
  failAt : Option Nat
  downAt : Nat
  timerExc : Bool
  tlb : List TlbE
  deriving DecidableEq, Repr

/-- A DMA channel: fetched descriptors, oldest first, each with its ring index and eight words; a descriptor found invalid and the
cause it retires with; bytes done of the oldest; the kind of the crypto credit it holds; index, bytes and cause of the last
park (R382); the TLB. -/
structure DCh where
  fetched : List (Nat × List Word)
  bad : Option Nat
  done : Nat
  credit : Option Bool
  last : Option (Nat × Nat × Nat)
  tlb : List TlbE
  deriving DecidableEq, Repr

/-- The hidden state of CTL: cores, channels, the channel served last at each priority (R381), and for each read-only page that the
ROM recorded at Boot its place in flash and its SHA-256 (R377). -/
structure Ctl where
  cores : Cells Core
  chs : Cells DCh
  served : Cells Nat
  pages : Cells (Option (Nat × Nat))
  deriving DecidableEq, Repr


/-- The device: everything the spec gives the machine, without the queue of commands. -/
structure Dev where
  /-- The register file, by BAR0 address (R5, R11); banks for records behind selectors and per-requester copies. -/
  regs : Cells Word
  /-- Latched words of 64-bit quantities and records, by requester bank (R7, R77, R394, R428). -/
  latch : Cells Word
  /-- Low words written and not yet committed, by requester bank (R77). -/
  held : Cells (Option Word)
  /-- The on-chip SRAM and the session store by physical word address (R40, R366); PD_x power-up fills with zeros (R451). -/
  ram : Cells Word
  /-- Physical word addresses of SRAM whose parity is bad (R40). -/
  badWords : List Nat
  /-- The QSPI flash (R83), erased bytes read 0xFF. -/
  flash : Cells Byte
  /-- What the last reading command returned to its requester, oldest word first. -/
  resp : List Word
  /-- The status byte of the last SPI read frame (R71). -/
  spiStatus : Nat
  /-- MODEL'S OWN: the number of free values drawn so far (log entry 2). -/
  ctr : Nat
  /-- Hidden state of TB. -/
  tb : Tb
  /-- The low-power counter (R108). -/
  lpc : Lpc
  /-- Hidden state of EVQ. -/
  evq : Evq
  /-- Hidden state of LOG. -/
  log : Log
  /-- Hidden state of FLT. -/
  flt : Flt
  /-- Hidden state of HIF. -/
  hif : Hif
  /-- Hidden state of PWR. -/
  pwr : Pwr
  /-- Hidden state of MEAS. -/
  meas : Meas
  /-- Hidden state of REF. -/
  ref : Ref
  /-- Hidden state of IMG. -/
  img : Img
  /-- Hidden state of BND. -/
  bnd : Bnd
  /-- Hidden state of SYN. -/
  syn : Syn
  /-- Hidden state of GN. -/
  gn : Gn
  /-- Hidden state of KEY. -/
  key : Key
  /-- Hidden state of PORT and SVC. -/
  net : Net
  /-- Hidden state of DSG. -/
  dsg : Dsg
  /-- Hidden state of TWN. -/
  twn : Twn
  /-- Hidden state of CTL. -/
  ctl : Ctl
  deriving DecidableEq, Repr

/-- The state: the device and the commands that are waiting, first in, first out. -/
structure State extends Dev where
  /-- Waiting commands, oldest first. -/
  pending : List Instr
  deriving DecidableEq, Repr

/-- A time channel at reset (R109: loaded at seeding). -/
def chanReset : Chan :=
  { t := 0, k := 0, servo := 0, ens := 0, slew := 0, f := 0, rem := 0, limit := 0, step := none, set := none
    epochs := 0, epochsMs := 0, ref := 0, refState := 0 }

/-- TB at reset. -/
def tbReset : Tb :=
  { ch0 := chanReset, ch1 := chanReset, ch2 := chanReset, odd := none, readmit := none, reps := [], repTotal := 0, slewAdd := none
    armedAt := 0, newServo := none, newEns := none, voteMax := 0, slewEnding := false, satDone := false, stepCount := 0
    calDone := false, nextUs := 0, nextMs := 0, leapSec := 0 }

/-- EVQ at reset (R388): nothing pending, nothing active, rings empty. -/
def evqReset : Evq :=
  { pend := [], pendAon := [], active := [], overs := [], timers := [], notified := [], failed := [] }

/-- LOG at reset: the recorder is empty; the page budget holds one hour's worth (R431). -/
def logReset : Log :=
  { inq := [], weirs := [], drop := 0, dropSec := 0, sweeps := 0, samples := 0, periodAt := 0, forcedAt := none, supSig := 0, firstSeq := 0, emptyRd := []
    budget := 2048 * 3600, budgetAt := none, forced := false, leapDirty := false, stateSeq := 0, leapVer := 0, sectSeq := 0
    archNext := 0, blkSect := none, leapSect := [], badSect := [], tcLow := none, tcHigh := none, dieTemp := 0 }

/-- A weir at power-on: full (R425). -/
def weirReset : Weir := { tokens := 2097152, sup := 0, total := 0, upd := 0, lastCode := 0, firstSec := 0 }

/-- A unit at power-on: Normal, rails idle (R406, R415). -/
def funitReset : FUnit :=
  { state := 0, part := false, live := false, stuck := none, polled := false, upsets := [], byBlock := false, cause := 0, valid := false
    cbr := false, inj := false, merges := 0, reports := 0, fences := 0 }

/-- FLT at reset. -/
def fltReset : Flt :=
  { units := [], slots := [], waiting := [], injn := none, fatal := [], pinsFatal := false, aonReports := [] }

/-- A PCIe function after a conventional reset (R489): Bus Master Enable 0, MSI-X Enable 0, Function Mask 0, vector masked. -/
def pcieReset : PcieFn :=
  { bme := false, msixEn := false, fmask := false, vmask := true, pba := false, pmeEn := false, sent := 0, mps256 := false
    aspm := 0, aerUnc := 0, aerCor := 0, bar0 := 0, bar2 := 0, msgAddr := 0, msgData := 0 }

/-- HIF at reset; the flash size is the board's (log entry 9). -/
def hifReset : Hif :=
  { f0 := pcieReset, f1 := pcieReset, pageBuf := [], flashOps := [], refused := [], offAt := [], flashSize := 0x2000000
    wakeHost := false }

/-- PWR at reset: VIN present, RESET_N high, no transition. -/
def pwrReset : Pwr :=
  { powered := true, resetLow := false, trans := .none, exitArmed := false, wakeDisc := false, wakeGnss := false
    stagesOff := false, railAt := 0, straps := { sysref := 0, side := false, i2cA0 := false }, ringDoms := []
    declared := 0, lwEns := 0, wakeTick := false, wakeAt := 0, nextDisc := 0, nextGnss := 0, ephAt := none, ephBad := false
    refreshTo := none, upAt := 0 }


/-- A MEAS request with cleared accumulators. -/
def mreqReset : MReq :=
  { n := 0, sum := 0, sq := 0, mn := 0, mx := 0, age := 0, cal := 0, cal0 := 0, uncal := false, timeout := false
    ovf := false, reqN := 1, chan := none, startNo := 0, due := 0, pend := none, presc := 0, stopping := false
    stopBy := 0, lastRes := 0, starved := false }

/-- MEAS at reset. -/
def measReset : Meas :=
  { reqs := [], skewDue := [], ovrDone := [], tick := 0, startAt := [], holdEnd := [], pinLast := [], pinTick := [], loadD := []
    loadG := [], loadAt := 0, loadSec := 0, out := [], inlAt := 0, skewAt := [], initCal := true, fullRun := false
    shadow := none, grants := 0, lastTemp := none }

/-- A reference slot at reset. -/
def rslotReset : RSlot :=
  { prevE := none, prevT := 0, prevSteps := 0, y := none, d := none, hard := 0, soft := 0, softLast := 0, pass2 := false
    lastMs := 0, susMs := 0, causeMs := 0, esmcMs := 0, feedIv := 0, qualMs := 0, hasOnset := false, info := none }

/-- Empty sums of a history interval. -/
def histAccReset : HistAcc :=
  { n := 0, servo := 0, ens := 0, efc := 0, ec := 0, clean := true, hold := false, sus := false }

/-- REF at reset. -/
def refReset : Ref :=
  { slots := [], ms := 0, apart := [], disagrees := [], rewind := none, changed := false, activeAt := 0, acqFrom := 0, acqClass := 248
    phase := false, eFirst := 0, good := none, bad := 0, eC := 0, eN := 0, hasResult := false, lastUnc := 0, holdT0 := 0
    holdA0 := 0, holdA1 := 0, holdA2 := 0, a0Set := false, stepPend := none, i := 0, iPend := none, ensPend := none
    ensRate := 0, ensMs := none, model := none, timeLock := false, acc := histAccReset, histN := 0, histPtr := none, histMark := none
    histBase := none, fit := none, lastClean := 0, efcPend := [], servoOut := 0 }

/-- IMG at reset: nothing runs (R41), no attempts counted, no accepted layout (R52). -/
def imgReset : Img :=
  { attA := 0, attB := 0, badA := false, badB := false, lkgValid := false, layout := none, run := [], reload := none
    reloadAt := 0, reloadReady := false
    revertive := true, serveAtStart := false, org := 0, orgSub := 0, tlvType := 0, ntpField := 0
    stage := [], stageGen := none, loads := [], rom := [] }

/-- BND at Boot reset: no ageing, no anchors. -/
def bndReset : Bnd :=
  { epochs := 0, votes := [], aged := [], sat := [], okMs := 0, frozen := none, holdN := 0, freeT0 := 0, freeBase := 0
    freqT0 := 0, freqB0 := 0, stepAdd := 0, wasServo := 0, wasHold := false, copyT := 0, copyBase := 0, prevSum := 0
    osc := [], paths := [], susSince := none, disMax := 0, t0 := 0, setNew := false, swUsed := [], advOld := 248 }

/-- A synthesis PLL at domain power-up (R205). -/
def spllReset : SPll := { hop := false, n := 0, nApp := 0, res := 0, lastF := 0, steered := false, lru := [], coasted := false, restart := false, monDone := false }

/-- A clock output at domain power-up: the fine delay rests at mid-range. -/
def soutReset : SOut := { target := 8192, cyc := 0, left := 0, startAt := none }

/-- A pulse output at domain power-up: one second, 100 ms wide, phase 0, disabled. -/
def sppsReset : SPps := { per := 65536000000000, wid := 100000000, phi := 0, en := false, newSet := none, newEn := none, edge := none, mute := none, err := 0 }

/-- SYN at reset. -/
def synReset : Syn := { plls := [], outs := [], pps := [], auto := [], autoLeft := [], calHas := [], msTick := none, claimWin := false }

/-- A GNSS channel at power-up: Off. -/
def gchReset : GCh :=
  { idx := 0, code := 0, carr := 0, periods := 0, rho := 0, om := 0, rhoIn := 0, omIn := 0, newRho := none, newOm := none
    newAdj := none, first := false, changed := false, steps := 0, seq := 0, lost := false, powers := [] }

/-- GN at PD_GNSS power-up. -/
def gnReset : Gn :=
  { chs := [], ep := none, strobed := false, lastCoarse := 0, nextTe := 0, jobs := [], jobPar := [], good := [], capMask := 0
    capMs := 0, capTrig := 0, trigNow := false, capFmt := 0, capFs := [], capAt := 0, capWait := [], feAt := 0, ringDone := []
    dropped := [], half0 := none, half1 := none, overruns := 0, steps := 0 }

/-- KEY at power-on: every slot empty; no bit of the fuse array set (R493). -/
def keyReset : Key :=
  { nts := [], ntsExp := [], sa := [], osn := [], kekV := 0, kekF := 0, osnT := [], kekT := (0, 0, 0), fresh := [], katDue := false, engOut := [], engTest := [], dlv := [], rx := [], wait := none, fuse := none
    zero := none, zeroKek := false, winEnd := 0, revBoot := 0, osnPos := 0, rngReq := 0, hashKeys := [] }

/-- A lane at PD_SQ power-up. -/
def planeReset : PLane := { phi := 0, rxAt := none, txAt := none, latOk := false }

/-- A subport at PD_SQ power-up. -/
def psubReset : PSub := { part := none, timed := [], mac := [], last := [], mis := 0, fallback := false }

/-- PORT and SVC at power-up. -/
def netReset : Net :=
  { lanes := [], subs := [], queues := [], waits := [], nonces := [], hostRx := [], hostPos := 0, fwq := [], hostTx := []
    resp := [], weir := [], weirN := (8192, 0), weirP := (16376, 0), kod := (0, 0), icmp := (0, 0), kodDrop := 0
    secDone := [], keyDone := [], slot := none, backlog := 0, ops := [], lockedAt := none, l1Seq := [], sigSeq := []
    gpSync := 0, gpAnn := 0, ssm := [], leapInd := (0, 0), nh := [] }

/-- DSG at power-on. -/
def dsgReset : Dsg :=
  { data := [], byStep := [], keys := [], cycle := false, next := none, beaconAt := none, cycleEnd := none, echoFrom := 0, echoN := 0, echoSum := 0
    calAt := none, won := false, lwSync := 0, lwAnn := 0, pd := [], lwTx := none }

/-- TWN at Boot. -/
def twnReset : Twn :=
  { claim := 0, peerClaim := 0, absent := 2, good := 0, upAt := none, mirroring := false, journal := [], retained := [], sweepPos := none
    checkPos := 0, staged := none, swept := [], newKeys := none, ms := 0, ofs := none, shadow := [], shift := none
    terms := (0, 0, 0), items := none, beyond := 0, within := 0, huntPos := 0, scrubPos := 0, out := [], crcErrs := 0
    sentHello := false, gotHello := none, goneAt := none, peerAt := 0, healthSec := none, huntAt := none, dup := [] }

/-- A core after a start: no bank live, no entry in its TLB. -/
def coreReset : Core := { banks := [], kickAt := 0, tmr := false, failAt := none, downAt := 0, timerExc := false, tlb := [] }

/-- A DMA channel at PD_CTL power-up: Idle, no tokens. -/
def dchReset : DCh := { fetched := [], bad := none, done := 0, credit := none, last := none, tlb := [] }

/-- CTL at PD_CTL power-up. -/
def ctlReset : Ctl := { cores := [], chs := [], served := [], pages := [] }

/-- The device right after power-on reset (R41, R455, R456): every register at its reset value. -/
def Dev.reset : Dev :=
  { regs := []
    latch := []
    held := []
    ram := []
    badWords := []
    flash := []
    resp := []
    spiStatus := 0
    ctr := 0
    tb := tbReset
    lpc := { val := 0, ck := 0, incAt := 0, valid := false, seen := [] }
    evq := evqReset
    log := logReset
    flt := fltReset
    hif := hifReset
    pwr := pwrReset
    meas := measReset
    ref := refReset
    img := imgReset
    bnd := bndReset
    syn := synReset
    gn := gnReset
    key := keyReset
    net := netReset
    dsg := dsgReset
    twn := twnReset
    ctl := ctlReset }

/-- The machine right after reset, with no command waiting. -/
def State.reset : State := { toDev := Dev.reset, pending := [] }

end Sys2Proof.Machine
end

