-- ==== Sys2Proof/Machine/Operands.lean ====
section
/-! DEFINITION. The operand forms of the commands: requesters and their codes, registers behind a selector, the two words of
a 64-bit quantity, domain and unit numbers. -/

namespace Sys2Proof.Machine

open Sys2Proof

/-- The value of register `a` (whatever its access code; R5 applies in the bus operations). -/
def rd (d : Dev) (a : Nat) : Word := cget resetOf d.regs a

/-- `d` with register `a` holding `v`. -/
def wr (a : Nat) (v : Word) (d : Dev) : Dev := { d with regs := cput resetOf d.regs a v }

/-- The value of a field. -/
def fld (d : Dev) (f : Fld) : Nat := bitsOf (rd d f.reg) f.lo f.wd

/-- `d` with a field holding the low bits of `v`. -/
def setF (f : Fld) (v : Nat) (d : Dev) : Dev := wr f.reg (putBits (rd d f.reg) f.lo f.wd v) d

/-- A one-bit field as a Boolean. -/
def flag (d : Dev) (f : Fld) : Bool := fld d f == 1

/-- `d` with a one-bit field set or cleared. -/
def setB (f : Fld) (b : Bool) (d : Dev) : Dev := setF f (b2n b) d

/-- `d` with `n` added to a field that saturates. -/
def satAdd (f : Fld) (n : Nat) (d : Dev) : Dev := setF f (satU f.wd (fld d f + n)) d

/-- `d` with `n` added to a field that wraps. -/
def wrapAdd (f : Fld) (n : Nat) (d : Dev) : Dev := setF f (fld d f + n) d

/-- A register as a number. -/
def rdN (d : Dev) (a : Nat) : Nat := (rd d a).toNat

/-- `d` with register `a` holding the low 32 bits of `v`. -/
def wrN (a v : Nat) (d : Dev) : Dev := wr a (BitVec.ofNat 32 v) d

/-- The 64-bit quantity whose low word is register `a` (R7: the high word follows). -/
def rd64 (d : Dev) (a : Nat) : Nat := rdN d a + 2 ^ 32 * rdN d (a + 4)

/-- `d` with the 64-bit quantity at `a` holding the low 64 bits of `v`, both words in one cycle (R7). -/
def wr64 (a v : Nat) (d : Dev) : Dev := wrN (a + 4) (v / 2 ^ 32) (wrN a v d)

/-- A signed 64-bit quantity. -/
def rdS64 (d : Dev) (a : Nat) : Int := sx 64 (rd64 d a)

/-- `d` with the signed 64-bit quantity at `a` holding `v`, which wraps. -/
def wrS64 (a : Nat) (v : Int) (d : Dev) : Dev := wr64 a (wrapN 64 v) d

/-- A field of 0 that the spec treats as 1. -/
def atLeast1 (n : Nat) : Nat := if n = 0 then 1 else n

/-- The requester code of R62. -/
def reqCode (r : Req) : Nat :=
  match r with
  | .pf0 => 1
  | .pf1 => 2
  | .spi => 3
  | .i2c => 4
  | .fw => 5

/-- The requester that a PCIe function is. -/
def pfReq (f : Pf) : Req :=
  match f with
  | .pf0 => .pf0
  | .pf1 => .pf1

/-- The number of a domain in every PWR register (R450). -/
def domNum (p : Dom) : Nat :=
  match p with
  | .aon => 0
  | .ctl => 1
  | .tb => 2
  | .meas => 3
  | .sya => 4
  | .syb => 5
  | .gnss => 6
  | .pkt => 7
  | .cry => 8
  | .smem => 9
  | .sq0 => 10
  | .sq1 => 11
  | .sq2 => 12
  | .sq3 => 13

/-- The number of a rail in event 0x0C04 (R446, R449): VDD_CORE 0, VDD_SRAM 1, VDD_SDS 2, VDDH_SDS 3. -/
def railNum (x : Rail) : Nat :=
  match x with
  | .core => 0
  | .sram => 1
  | .sds => 2
  | .sdsh => 3

/-- Register `a` of the requester with code `c`: its own copy (R77, R428), beyond every bank of a selector. -/
def own (a c : Nat) : Nat := a + bankSpan * 2 ^ 20 * (c + 1)

/-- The record that a selector register shows: its value, or the value with the port in bits [7:4] for BND_ANCHOR_SEL. -/
def selIndex (d : Dev) (sel : Nat) : Nat :=
  if sel = MEAS_REQ_SEL then fld d MEAS_REQ_SEL_index
  else if sel = MEAS_INL_SEL then fld d MEAS_INL_SEL_code
  else rdN d sel

/-- The register that an access to address `a` reaches: behind a selector, the selected record's own register. -/
def effAddr (d : Dev) (a : Nat) : Nat :=
  match rowOf a with
  | some r => if r.sel = 0 then a else bank a (selIndex d r.sel)
  | none => a

/-- The block number of an address (R11): the first seven 64 KiB windows hold blocks 1 to 7, every later one its own number. -/
def blkNum (a : Nat) : Nat :=
  let b := a % bankSpan / 0x10000
  if b < 7 then b + 1 else b

end Sys2Proof.Machine
end

