-- ==== Sys2Proof/Machine/Ops.lean ====
section
/-! DEFINITION. The named operations that every block uses: the outcome of a command, memories, power domains, time, events
and the recorder's input, resets of registers by class, and the guards on a register write. -/

namespace Sys2Proof.Machine

open Sys2Proof

/-- The outcome of a command whose effect is `f` on the device; the queue is untouched. -/
def State.upd (s : State) (f : Dev → Dev) : Host.Outcome State Fault Refusal :=
  .next { toDev := f s.toDev, pending := s.pending }

/-- `f d` where the condition holds, else `d`. -/
def doIf (b : Bool) (f : Dev → Dev) (d : Dev) : Dev := if b then f d else d

/-- Nothing runs in Off (R41): `f` where VIN is present. -/
def live (f : Dev → Dev) (d : Dev) : Dev := doIf d.pwr.powered f d

/-- The device after `f` for each element of a list, in order. -/
def forEach {α : Type} (l : List α) (f : α → Dev → Dev) (d : Dev) : Dev := l.foldl (fun d x => f x d) d

/-! ### Memories -/

/-- A byte of the QSPI flash; an erased or never written byte reads 0xFF (log entry 9). -/
def flashByte (d : Dev) (a : Nat) : Byte := cget (fun _ => 0xFF#8) d.flash a

/-- `d` with byte `a` of the flash holding `v`. -/
def setFlash (a : Nat) (v : Byte) (d : Dev) : Dev := { d with flash := cput (fun _ => 0xFF#8) d.flash a v }

/-- `n` bytes of flash from `a`. -/
def flashBytes (d : Dev) (a n : Nat) : List Byte := (List.range n).map (fun i => flashByte d (a + i))

/-- `d` with a byte string stored in flash from `a`. -/
def setFlashBytes (a : Nat) (bs : List Byte) (d : Dev) : Dev :=
  (bs.foldl (fun (p : Nat × Dev) b => (p.1 + 1, setFlash p.1 b p.2)) (a, d)).2

/-- The SRAM word at physical byte address `a` (its low two bits ignored); filled with zeros at power-up (R451). -/
def ramWord (d : Dev) (a : Nat) : Word := cget (fun _ => 0#32) d.ram (a / 4)

/-- `d` with the SRAM word at `a` holding `v`, with good parity. -/
def setRam (a : Nat) (v : Word) (d : Dev) : Dev :=
  { d with ram := cput (fun _ => 0#32) d.ram (a / 4) v, badWords := d.badWords.filter (fun x => x != a / 4) }

/-- The parity of the SRAM word at `a` is bad (R40). -/
def ramBad (d : Dev) (a : Nat) : Bool := d.badWords.contains (a / 4)

/-- `d` with words stored in SRAM from `a`. -/
def setRamWords (a : Nat) (ws : List Word) (d : Dev) : Dev :=
  (ws.foldl (fun (p : Nat × Dev) w => (p.1 + 4, setRam p.1 w p.2)) (a, d)).2

/-- The SRAM byte at `a` (R4: little-endian). -/
def ramByte (d : Dev) (a : Nat) : Byte := BitVec.ofNat 8 ((ramWord d a).toNat >>> (8 * (a % 4)))

/-- `d` with the SRAM byte at `a` holding `v`. -/
def setRamByte (a : Nat) (v : Byte) (d : Dev) : Dev := setRam a (putBits (ramWord d a) (8 * (a % 4)) 8 v.toNat) d

/-- `d` with the SRAM from `lo` up to `hi` filled with zeros, parity good (R451). -/
def zeroRam (lo hi : Nat) (d : Dev) : Dev :=
  { d with ram := ckeep (fun a => a * 4 < lo || hi ≤ a * 4) d.ram,
           badWords := d.badWords.filter (fun a => a * 4 < lo || hi ≤ a * 4) }

/-! ### Free values -/

/-- A free value: nothing constrains it (log entry 2). -/
def freeVal (d : Dev) : Nat := Config.freeNat d.ctr

/-- `d` with one more free value drawn. -/
def draw (d : Dev) : Dev := { d with ctr := d.ctr + 1 }

/-- `n` bits of the free value from bit `lo`. -/
def freeBits (d : Dev) (lo n : Nat) : Nat := freeVal d / 2 ^ lo % 2 ^ n

/-- `f` given one bit that is a free value. -/
def withFreeBit (f : Bool → Dev → Dev) (d : Dev) : Dev := f (freeBits d 0 1 == 1) (draw d)

/-! ### Power domains and device state -/

/-- Domain number `n` is on (R450). -/
def domOnN (d : Dev) (n : Nat) : Bool := bitsOf (rd d PWR_DOM_STATUS) n 1 == 1

/-- A domain is on. -/
def domOn (d : Dev) (p : Dom) : Bool := domOnN d (domNum p)

/-- `d` with the status bit of domain number `n` set or cleared. -/
def setDom (n : Nat) (b : Bool) (d : Dev) : Dev := setF ⟨PWR_DOM_STATUS, n, 1⟩ (b2n b) d

/-- The device states of PWR_STATUS.state (R41). -/
def stBoot : Nat := 1

/-- Device state Low water. -/
def stLow : Nat := 2

/-- Device state Standby. -/
def stStandby : Nat := 3

/-- Device state Serve. -/
def stServe : Nat := 4

/-- The device state. -/
def devState (d : Dev) : Nat := fld d PWR_STATUS_state

/-- Device state Standby or Serve. -/
def running (d : Dev) : Bool := devState d == stStandby || devState d == stServe

/-- The presence window is open (R329). -/
def windowOpen (d : Dev) : Bool := flag d KEY_STATUS_window

/-- The domain of a SYN register, by the PLL, output or pulse output it belongs to (R23, R491): 4 PD_SYA, 5 PD_SYB, and 0
for a global register, which either domain holds. -/
def synDomN (a : Nat) : Nat :=
  let o := a % 0x10000
  let half (lo st n : Nat) : Nat := if (o - lo) / st < n then 4 else 5
  if o < 0x30 then 0
  else if o < 0x300 then half 0x100 0x20 2
  else if o < 0x500 then half 0x300 0x20 8
  else if o < 0x600 then half 0x500 4 4
  else if o < 0x1000 then half 0x600 0x20 2
  else if o < 0x2000 then half 0x1000 0x400 2
  else if o < 0x2800 then half 0x2000 0x200 2
  else if o < 0x2810 then half 0x2800 4 2
  else half 0x2810 4 2

/-- The quad whose PD_SQ holds a port block: the quad of its lowest lane (R23, R234). -/
def portQuad (d : Dev) (b : Nat) : Nat := fld d (PORT_STATUS_first_lane b) / 4

/-- The domain of register `a` is on (R23); a port block in no use behaves as a block whose domain is off (R233). -/
def regOn (d : Dev) (a : Nat) : Bool :=
  match rowOf a with
  | none => true
  | some r =>
    match r.dom with
    | .aon => true
    | .ctl => domOn d .ctl
    | .tb => domOn d .tb
    | .meas => domOn d .meas
    | .syn => let n := synDomN a; if n = 0 then domOn d .sya || domOn d .syb else domOnN d n
    | .gnss => domOn d .gnss
    | .pkt => domOn d .pkt
    | .cry => domOn d .cry
    | .smem => domOn d .smem
    | .sq =>
      let b := a % bankSpan / 0x10000 - 0x10
      decide (fld d (PORT_STATUS_mode b) ≠ 0) && domOnN d (10 + portQuad d b)

/-- `d` with every register whose row meets `p` back at its reset value; what requesters hold or have latched of it is gone. -/
def resetRegs (p : Nat → RegRow → Bool) (d : Dev) : Dev :=
  let stays := fun (a : Nat) => match rowOf a with | some r => !(p a r) | none => true
  { d with regs := ckeep stays d.regs, latch := ckeep stays d.latch, held := ckeep stays d.held }

/-! ### Time -/

/-- The effective frequency word of a channel's current group, a signed 48-bit value (R88). -/
def chanF (c : Chan) : Int := satS 48 c.f

/-- The time a channel publishes on its current tick, in units of 2^-54 ns (R87). -/
def chanT (c : Chan) : Nat := c.t + (c.k * ((2 : Int) ^ 56 + chanF c).toNat) / 5

/-- The published time of a channel in units of 2^-16 ns: the sub-fraction is dropped (R86). -/
def chanPub (c : Chan) : Nat := chanT c / 2 ^ 38

/-- Channel `i` of TB. -/
def chan (b : Tb) (i : Nat) : Chan := if i = 0 then b.ch0 else if i = 1 then b.ch1 else b.ch2

/-- TB with channel `i` replaced. -/
def setChan (b : Tb) (i : Nat) (c : Chan) : Tb :=
  if i = 0 then { b with ch0 := c } else if i = 1 then { b with ch1 := c } else { b with ch2 := c }

/-- Channel `i` is fenced (TB_STATUS.fenced). -/
def chanFenced (d : Dev) (i : Nat) : Bool := bitsOf (rd d TB_STATUS) (4 + i) 1 == 1

/-- The channels in service: neither fenced nor in self-test (R103). -/
def inService (d : Dev) : List Nat := (List.range 3).filter (fun i => !(chanFenced d i) && d.tb.odd != some i)

/-- Bitwise two-of-three majority. -/
def maj3 (a b c : Nat) : Nat := (a &&& b) ||| (a &&& c) ||| (b &&& c)

/-- The voted time in units of 2^-16 ns (R103): the majority of three channels, or the lower-numbered of two. -/
def voted (d : Dev) : Nat :=
  match inService d with
  | [_, _, _] => maj3 (chanPub d.tb.ch0) (chanPub d.tb.ch1) (chanPub d.tb.ch2)
  | i :: _ => chanPub (chan d.tb i)
  | [] => chanPub d.tb.ch0

/-- The time on the bus in units of 2^-16 ns: the voted time once TB is seeded, else the low-power counter (R26, R38). -/
def now16 (d : Dev) : Nat :=
  if domOn d .tb && flag d TB_STATUS_seeded then voted d else d.lpc.val / 2 ^ 16

/-- The near time of the bus (R19). -/
def near (d : Dev) : Nat := now16 d % 2 ^ 64

/-- One second in units of 2^-16 ns. -/
def sec16 : Nat := 65536000000000

/-- `span` has passed since time `t`, or a new count of time began before it. -/
def elapsed (t span : Nat) (d : Dev) : Bool := decide (t + span ≤ now16 d) || decide (now16 d < t)

/-- The TAI second of the bus (R18). -/
def taiSec (d : Dev) : Nat := now16 d / sec16

/-- The signed difference target − now of R20. -/
def nearDiff (target now : Nat) : Int := sx 64 (target + 2 ^ 64 - now % 2 ^ 64)

/-- A near-time target is due (R20): the signed difference is not positive. -/
def due (target now : Nat) : Bool := decide (nearDiff target now ≤ 0)

/-! ### Events -/

/-- The list of pending events with `e` in place of any event of its source, in rising source order (R390). -/
def pendPut (l : List EvPend) (e : EvPend) : List EvPend :=
  match l with
  | [] => [e]
  | x :: xs => if x.src = e.src then e :: xs else if e.src < x.src then e :: x :: xs else x :: pendPut xs e

/-- The source lies in a PD_AON block, whose pending events PD_AON latches while PD_CTL is off (R402): HIF, PWR, LOG, DSG, KEY
and the claim bus. -/
def aonSource (src : Nat) : Bool := [0x01, 0x03, 0x06, 0x18, 0x1A].contains (src / 128) || src == 0xD82

/-- The pending bit of a source set with the code, parameter and near time of the raise (R390, R402). -/
def setPending (src code param : Nat) (d : Dev) : Dev :=
  let e : EvPend := { src := src, code := code, param := param % 2 ^ 32, near := near d }
  if domOn d .ctl then { d with evq := { d.evq with pend := pendPut d.evq.pend e } }
  else if aonSource src then { d with evq := { d.evq with pendAon := pendPut d.evq.pendAon e } }
  else d

/-- A recorder weir, full until it is first used (R425). -/
def weir (d : Dev) (i : Nat) : Weir := cget (fun _ => weirReset) d.log.weirs i

/-- `d` with a recorder weir replaced. -/
def setWeir (i : Nat) (w : Weir) (d : Dev) : Dev :=
  { d with log := { d.log with weirs := cput (fun _ => weirReset) d.log.weirs i w } }

/-- The weir index of an event code (R425): (block << 5) | code[4:0]. -/
def weirIndex (code : Nat) : Nat := code / 1024 * 32 + code % 32

/-- The tokens of a weir updated to CK_32K count `ck` (R425). -/
def weirTokens (w : Weir) (rate depth ck : Nat) : Nat :=
  let full := atLeast1 depth * 32768
  if rate = 0 then full else min full (w.tokens + rate * (ck - w.upd))

/-- The record is a priority record (R424). -/
def isPriority (r : LRec) : Bool :=
  (r.code == 0x1001 && decide (2 ≤ r.cls)) || [0x1008, 0x1009, 0x2C01, 0x2C08, 0x1401, 0x1806].contains r.code

/-- The input queue has an entry that the record may use (R424): 64 entries, 16 of them for priority records only. -/
def queueRoom (l : Log) (r : LRec) : Bool :=
  decide (l.inq.length < 64) && (isPriority r || decide ((l.inq.filter (fun x => !(isPriority x))).length < 48))

/-- `d` with a record in the recorder's input queue, or dropped and counted (R423, R424). -/
def enqueue (r : LRec) (d : Dev) : Dev :=
  if queueRoom d.log r then { d with log := { d.log with inq := d.log.inq ++ [r] } }
  else { d with log := { d.log with drop := satU 32 (d.log.drop + 1), dropSec := d.log.dropSec + 1 } }

/-- The suppression record of a weir (R426). -/
def suppRec (w : Weir) (t : Nat) : LRec :=
  { code := 0x1806, cls := 0, sev := Config.severity 0x1806 % 16, inj := false, merged := false, supp := true, t16 := t
    p0 := w.lastCode, p1 := w.sup, p2 := w.firstSec }

/-- A weir brought up to date, with its suppression record written when it may be (R425, R426). -/
def weirSync (i : Nat) (d : Dev) : Dev :=
  let w := weir d i
  let cfg := rd d (bank LOG_WEIR_CFG i)
  let tok := weirTokens w (bitsOf cfg 0 16) (bitsOf cfg 16 8) d.lpc.ck
  let w1 := { w with tokens := tok, upd := d.lpc.ck }
  if decide (0 < w.sup) && decide (32768 ≤ tok) then
    setWeir i { w1 with sup := 0, total := satU 32 (w.total + w.sup) }
      (enqueue (suppRec w (now16 d)) (setPending (evSrc 0x1806 w.lastCode) 0x1806 w.lastCode d))
  else setWeir i w1 d

/-- A record offered to the recorder (R423): a priority record enters the queue; any other passes its weir first (R425). -/
def offer (r : LRec) (d : Dev) : Dev :=
  if isPriority r then enqueue r d
  else
    let i := weirIndex r.code
    let d1 := weirSync i d
    let w := weir d1 i
    if bitsOf (rd d (bank LOG_WEIR_CFG i)) 0 16 = 0 then enqueue r d1
    else if 32768 ≤ w.tokens then enqueue r (setWeir i { w with tokens := w.tokens - 32768 } d1)
    else setWeir i { w with sup := satU 32 (w.sup + 1), lastCode := r.code,
                            firstSec := if w.sup = 0 then r.t16 / sec16 % 2 ^ 32 else w.firstSec }
           { d1 with log := { d1.log with supSig := d1.log.supSig + 1 } }

/-- The recorder record of an event: class from the event table, severity the implementation's (log entry 7). -/
def evRec (code p0 p1 p2 t : Nat) : LRec :=
  { code := code, cls := evCls code, sev := Config.severity code % 16, inj := false, merged := false, supp := false, t16 := t
    p0 := p0 % 2 ^ 32, p1 := p1 % 2 ^ 32, p2 := p2 % 2 ^ 32 }

/-- An event raised with stated record parameters, without the counting of a suppressed record. -/
def raiseRaw (code param p0 p1 p2 : Nat) (d : Dev) : Dev :=
  offer (evRec code p0 p1 p2 (now16 d)) (setPending (evSrc code param) code param d)

/-! ### Performance counters -/

/-- Some performance counter has a configuration (R437). -/
def pmcUsed (d : Dev) : Bool := d.regs.any (fun c => decide (0x060100 ≤ c.1) && decide (c.1 < 0x060680))

/-- General counter `n` wraps unchained (R438): ovf, and event 0x1C01 if it is enabled. -/
def genWrap (n : Nat) (d : Dev) : Dev :=
  doIf (flag d (PMC_GEN_CFG_ovf_ev n)) (raiseRaw 0x1C01 n n 0 0) (setF (PMC_GEN_STATUS_ovf n) 1 d)

/-- The upper counter of a chain steps (R438). -/
def genUpper (n c : Nat) (d : Dev) : Dev :=
  let v := rd64 d (PMC_GEN_LO n) + c
  let d1 := wr64 (PMC_GEN_LO n) (v % 2 ^ 48) d
  doIf (decide (2 ^ 48 ≤ v)) (genWrap n) d1

/-- General counter `n` adds `c` (R437, R438): an even counter with a chained partner carries into it and sets no ovf. -/
def genAdd (n c : Nat) (d : Dev) : Dev :=
  let v := rd64 d (PMC_GEN_LO n) + c
  let d1 := wr64 (PMC_GEN_LO n) (v % 2 ^ 48) d
  if v < 2 ^ 48 then d1
  else if n % 2 = 0 ∧ flag d (PMC_GEN_CFG_chain (n + 1)) then
    doIf (flag d (PMC_GEN_CFG_en (n + 1))) (genUpper (n + 1) (v / 2 ^ 48)) d1
  else genWrap n d1

/-- Privileged counter `p` adds `c` (R439): a wrap sets the sticky ovf and raises event 0x1C02. -/
def privAdd (p c : Nat) (d : Dev) : Dev :=
  let v := rd64 d (PMC_PRIV_LO p) + c
  let d1 := wr64 (PMC_PRIV_LO p) (v % 2 ^ 64) d
  if v < 2 ^ 64 then d1 else raiseRaw 0x1C02 p p 0 0 (setF (PMC_PRIV_STATUS_ovf p) 1 d1)

/-- General counter `n` counts signal `sig`: enabled, selected, and not the upper half of a chain (R437, R438). -/
def genCounts (d : Dev) (n sig : Nat) : Bool :=
  flag d (PMC_GEN_CFG_en n) && fld d (PMC_GEN_CFG_sel n) == sig && !(n % 2 == 1 && flag d (PMC_GEN_CFG_chain n))

/-- `c` counts of signal `sig` reach the performance counters (R437, R439); PMC_FREEZE stops them (R440). -/
def pmcAdd (sig c : Nat) (d : Dev) : Dev :=
  if !(domOn d .ctl) || flag d PMC_FREEZE_freeze || !(pmcUsed d) then d
  else
    forEach (List.range 8) (fun p x =>
      doIf (flag x (PMC_PRIV_CFG_en p) && fld x (PMC_PRIV_CFG_sel p) == sig) (privAdd p c) x)
      (forEach (List.range 64) (fun n x => doIf (genCounts x n sig) (genAdd n c) x) d)

/-- The suppressed records counted (signal 0x02 of block 0x06). -/
def pmcSup (d : Dev) : Dev :=
  if d.log.supSig = 0 then d
  else pmcAdd 0x0602 d.log.supSig { d with log := { d.log with supSig := 0 } }

/-- An event raised with stated record parameters: its source's pending bit is set (R390) and it is offered to the recorder
(R423). -/
def raise3 (code param p0 p1 p2 : Nat) (d : Dev) : Dev := pmcSup (raiseRaw code param p0 p1 p2 d)

/-- An event raised whose record parameters the spec does not state: parameter 0 repeats the event-queue parameter, and the
others are free values (log entry 7). -/
def raise (code param : Nat) (d : Dev) : Dev :=
  raise3 code param param (Config.freeNat d.ctr) (Config.freeNat (d.ctr + 1)) { d with ctr := d.ctr + 2 }

/-- A record that exists only in the recorder (R423). -/
def note (r : LRec) (d : Dev) : Dev := pmcSup (offer r d)

end Sys2Proof.Machine
end

