-- ==== Sys2Proof/Machine/Flags.lean ====
section
/-! DEFINITION. The flags that an access sets and the effect of each access code: HIF_ERR (R63, R78), the guards that every
register access passes (R10, R23, R63, R64, R69), and the generic write of a register (R5, R6, R7, R77). -/

namespace Sys2Proof.Machine

open Sys2Proof

/-- A requester holds full rights (R62). -/
def fullRights (d : Dev) (r : Req) : Bool :=
  match r with
  | .pf0 => true
  | .pf1 => false
  | .spi => flag d HIF_MGMT_CTL_spi_full
  | .i2c => flag d HIF_MGMT_CTL_i2c_full
  | .fw => true

/-- The accesses of a requester reach the device: nothing runs in Off (R41); PCIe needs the endpoint core, PERST_N high and
the link up (R69); firmware needs PD_CTL. -/
def reaches (d : Dev) (r : Req) : Bool :=
  d.pwr.powered &&
  match r with
  | .pf0 => domOn d .ctl && !(flag d HIF_STATUS_perst) && flag d HIF_STATUS_link_up
  | .pf1 => domOn d .ctl && !(flag d HIF_STATUS_perst) && flag d HIF_STATUS_link_up
  | .spi => true
  | .i2c => true
  | .fw => domOn d .ctl

/-- The target code of a requester's own event queue (R63, R389). -/
def ownTarget (r : Req) : Option Nat :=
  match r with
  | .pf0 => some 0
  | .pf1 => some 1
  | .spi => some 2
  | .i2c => some 2
  | .fw => none

/-- The bulk channel that a register address belongs to. -/
def bulkChan (a : Nat) : Option Nat := if 0x100 ≤ a ∧ a < 0x200 then some ((a - 0x100) / 0x20) else none

/-- The owner code of a bulk channel (R79): 0 free. -/
def bulkOwner (d : Dev) (c : Nat) : Nat := fld d (HIF_BULK_SEL_owner c)

/-- What a requester with observation rights may write (R63). -/
def obsMayWrite (d : Dev) (r : Req) (a : Nat) : Bool :=
  a == PMC_SNAP || a == LOG_CUR || a == LOG_RD_CTL ||
  (match ownTarget r with
   | some t => a == EVQ_TGT_CTL t || a == EVQ_TGT_RD t || a == EVQ_TGT_REC_SEL t
   | none => false) ||
  (match bulkChan a with
   | some c => (bulkOwner d c == reqCode r &&
       (a == HIF_BULK_CMD c || a == HIF_BULK_SEL c || [0x1, 0x2, 0x4, 0x5, 0x6].contains (fld d (HIF_BULK_SEL_target c)))) ||
     (a == HIF_BULK_SEL c && bulkOwner d c == 0)
   | none => false)

/-- The parameter of a HIF event (R85): requester code in [2:0], channel or block number in [12:8]. -/
def hifParam (r : Req) (n : Nat) : Nat := reqCode r + n % 32 * 256

/-- `d` with an error bit of HIF_ERR set; `who` takes the requester when no error bit was set before. -/
def hifErr (f : Fld) (r : Req) (d : Dev) : Dev :=
  let first := decide (bitsOf (rd d HIF_ERR) 0 5 = 0)
  doIf first (setF HIF_ERR_who (reqCode r)) (setF f 1 d)

/-- One millisecond in units of 2^-16 ns. -/
def ms16 : Nat := 65536000000

/-- An access to a register whose domain is off (R78): counted with its block, HIF_ERR.off_domain set, event 0x0401 at most
once per 1 ms per requester. -/
def offAccess (r : Req) (a : Nat) (d : Dev) : Dev :=
  let d1 := setF HIF_OFF_ACCESS_block (blkNum a) (satAdd HIF_OFF_ACCESS_count 1 (hifErr HIF_ERR_off_domain r d))
  let last := cget (fun _ => none) d.hif.offAt (reqCode r)
  let now := now16 d
  if (match last with | some t => decide (t ≤ now) && decide (now < t + ms16) | none => false) then d1
  else
    raise 0x0401 (hifParam r (blkNum a))
      { d1 with hif := { d1.hif with offAt := cput (fun _ => none) d1.hif.offAt (reqCode r) (some now) } }

/-- An access to another requester's channel (R79): HIF_ERR.owned and event 0x0402. -/
def ownedErr (r : Req) (c : Nat) (d : Dev) : Dev := raise 0x0402 (hifParam r c) (hifErr HIF_ERR_owned r d)

/-- The bulk channel of address `a`, where another requester owns it (R79). -/
def othersChan (d : Dev) (r : Req) (a : Nat) : Option Nat :=
  match bulkChan a with
  | some c => if bulkOwner d c = 0 ∨ bulkOwner d c = reqCode r then none else some c
  | none => none

/-- A write refused under R63: HIF_ERR.obs_write, HIF_OBS_DROP and event 0x0403; one to another requester's channel meets R79, one to a
domain that is off R78 as well. -/
def obsRefuse (r : Req) (a : Nat) (d : Dev) : Dev :=
  let d1 := raise 0x0403 (hifParam r (blkNum a)) (satAdd HIF_OBS_DROP_count 1 (hifErr HIF_ERR_obs_write r d))
  if !(regOn d a) then offAccess r a d1
  else match othersChan d r a with
    | some c => ownedErr r c d1
    | none => d1

/-- The guards of a register write: it must reach the device (R69), be allowed to its requester (R63), and find the
register's domain on (R23, R78). -/
def guardWrite (r : Req) (a : Nat) (k : Dev → Dev) (d : Dev) : Dev :=
  if !(reaches d r) then d
  else if !(fullRights d r) && !(obsMayWrite d r a) then obsRefuse r a d
  else if !(regOn d a) then offAccess r a d
  else k d

/-- A register read that reaches the device: `k` where the domain is on, else zero with the access counted (R23, R78). -/
def guardRead (r : Req) (a : Nat) (k : Dev → Dev) (d : Dev) : Dev :=
  if !(reaches d r) then d
  else if !(regOn d a) then { offAccess r a d with resp := [0#32] }
  else k d

/-- Every field of the register is RWP (R10): KEY_DEBUG and the fuse registers. -/
def allRwp (a : Nat) : Bool := a == KEY_DEBUG || (decide (0x1A0610 ≤ a) && decide (a ≤ 0x1A0630))

/-- The record of a refused RWP write (R10): KEY_RWP_REFUSED, the counter and event 0x6807. -/
def rwpRefuse (r : Req) (a : Nat) (d : Dev) : Dev :=
  raise 0x6807 (blkNum a + (a % 0x10000) * 65536)
    (satAdd ⟨KEY_CNT 2, 0, 32⟩ 1
      (setF KEY_RWP_REFUSED_requester (reqCode r) (setF KEY_RWP_REFUSED_block (blkNum a) (satAdd KEY_RWP_REFUSED_count 1 d))))

/-- A write outside the presence window that R10 records: a 1 into an RWP field, or any write of a register that is RWP
throughout. -/
def rwpGuard (r : Req) (a : Nat) (v : Word) (d : Dev) : Dev :=
  match rowOf a with
  | some row =>
    doIf (!(windowOpen d) && (decide (v &&& BitVec.ofNat 32 row.rwp ≠ 0#32) || allRwp a)) (rwpRefuse r a) d
  | none => d

/-- What the bits of a register become on a write of `v`, each by its access code (R5). -/
def codeWrite (row : RegRow) (window : Bool) (old v : Word) : Word :=
  let rw := BitVec.ofNat 32 (if window then row.rw ||| row.rwp else row.rw)
  let w1c := BitVec.ofNat 32 row.w1c
  let w1s := BitVec.ofNat 32 row.w1s
  (((old &&& ~~~rw) ||| (v &&& rw)) &&& ~~~(v &&& w1c)) ||| (v &&& w1s)

/-- The low word a requester holds for the 64-bit register at `a` (R77). -/
def heldLow (d : Dev) (a : Nat) (r : Req) : Option Word := cget (fun _ => none) d.held (own a (reqCode r))

/-- `d` with the low word a requester holds for the 64-bit register at `a` set or dropped. -/
def setHeld (a : Nat) (r : Req) (v : Option Word) (d : Dev) : Dev :=
  { d with held := cput (fun _ => none) d.held (own a (reqCode r)) v }

/-- The value of a register latched for a requester (R77). -/
def latched (d : Dev) (a : Nat) (r : Req) : Word := cget (fun _ => 0#32) d.latch (own a (reqCode r))

/-- `d` with register `a` latched for a requester. -/
def setLatch (a : Nat) (r : Req) (v : Word) (d : Dev) : Dev :=
  { d with latch := cput (fun _ => 0#32) d.latch (own a (reqCode r)) v }

/-- The commit of a 64-bit register whose high word is at `a`: the requester's held low word, or the current one, and `hi`,
each under its access codes, in one cycle (R7, R77). -/
def commit64 (r : Req) (a : Nat) (hi : Word) (d : Dev) : Dev :=
  let low := a - 4
  let lo := (heldLow d low r).getD (rd d low)
  match rowOf low, rowOf a with
  | some rl, some rh =>
    setHeld low r none (wr a (codeWrite rh (windowOpen d) (rd d a) hi) (wr low (codeWrite rl (windowOpen d) (rd d low) lo) d))
  | _, _ => d

/-- The write of one register by its access codes, after the guards (R5, R7, R77): a low word is held, a high word commits. -/
def fieldWrite (r : Req) (a : Nat) (v : Word) (d : Dev) : Dev :=
  match rowOf a with
  | none => d
  | some row =>
    let d1 := rwpGuard r a v d
    if row.rw ≠ 0 ∧ row.wide = 1 then setHeld a r (some v) d1
    else if row.rw ≠ 0 ∧ row.wide = 2 then commit64 r a v d1
    else wr a (codeWrite row (windowOpen d) (rd d a) v) d1

/-- The bank of a requester's mark that its latch of a register has not been read yet (R7). -/
def latchMark (r : Req) : Nat := reqCode r + 8

/-- The high word of a 64-bit quantity latched for a requester by its read of the low word (R7, R77). -/
def latchHigh (r : Req) (a : Nat) (v : Word) (d : Dev) : Dev :=
  let d1 := setLatch a r v d
  { d1 with latch := cput (fun _ => 0#32) d1.latch (own a (latchMark r)) 1#32 }

/-- A requester's latch of the high word at `a` waits for its next read (R7). -/
def highLatched (d : Dev) (a : Nat) (r : Req) : Bool := cget (fun _ => 0#32) d.latch (own a (latchMark r)) == 1#32

/-- A read of the high word (R7): the latched value, once; without a latch the current value `v`. -/
def highRead (r : Req) (a : Nat) (v : Word) (d : Dev) : Word × Dev :=
  if highLatched d a r then (latched d a r, { d with latch := cput (fun _ => 0#32) d.latch (own a (latchMark r)) 0#32 })
  else (v, d)

/-- The words that a read must not show: every bit of an RC field cleared (R5). -/
def rcClear (a : Nat) (d : Dev) : Dev :=
  match rowOf a with
  | none => d
  | some row => if row.rc = 0 then d else wr a (rd d a &&& ~~~(BitVec.ofNat 32 row.rc)) d

/-- What a bus read returns for a register: WO bits and reserved bits read 0 because nothing writes them; RWP data words of
the fuse registers read 0. -/
def busValue (d : Dev) (a : Nat) : Word :=
  if 0x1A0610 ≤ a ∧ a ≤ 0x1A0630 then 0 else rd d a

end Sys2Proof.Machine
end

