-- ==== Sys2Proof/Machine/FltOps.lean ====
section
/-! DEFINITION. The fault collector's side of every error: the unit table of R405, a report, the fence of a unit, and the
fatal decision (R405 to R416). Blocks report through these operations; what a fence takes out of a block is in Fence.lean. -/

namespace Sys2Proof.Machine

open Sys2Proof

/-- An essential unit, which cannot be fenced (R405). -/
def unitEssential (u : Nat) : Bool := [0x03, 0x09, 0x0A, 0x0F, 0x3F].contains u

/-- A memory unit, which is never fenced (R405, R413). -/
def unitMemory (u : Nat) : Bool := [0x13, 0x26, 0x27, 0x3B, 0x3C].contains u

/-- A PD_AON unit (R416). -/
def unitAon (u : Nat) : Bool := [0x04, 0x20, 0x32, 0x33, 0x35, 0x3C, 0x3F].contains u

/-- A unit without a targeted self-test (R405: "none"). -/
def unitNoTest (u : Nat) : Bool := unitEssential u

/-- The first reporting unit of a domain in R405, for R451. -/
def firstUnit (n : Nat) : Nat :=
  match n with
  | 1 => 0x10
  | 2 => 0x00
  | 3 => 0x05
  | 4 => 0x0B
  | 5 => 0x0D
  | 6 => 0x11
  | 7 => 0x21
  | 8 => 0x28
  | 9 => 0x26
  | 10 => 0x14
  | 11 => 0x15
  | 12 => 0x16
  | 13 => 0x17
  | _ => 0x04

/-- A unit of FLT. -/
def funit (d : Dev) (u : Nat) : FUnit := cget (fun _ => funitReset) d.flt.units u

/-- `d` with a unit replaced. -/
def setUnit (u : Nat) (x : FUnit) (d : Dev) : Dev :=
  { d with flt := { d.flt with units := cput (fun _ => funitReset) d.flt.units u x } }

/-- `d` with a unit changed by `f`. -/
def modUnit (u : Nat) (f : FUnit → FUnit) (d : Dev) : Dev := setUnit u (f (funit d u)) d

/-- The unit is Fenced (R415). -/
def unitFenced (d : Dev) (u : Nat) : Bool := (funit d u).state == 2

/-- The unit takes no work (R405, R415): Fenced, in a readmission test, or in the self-test of a handling. -/
def unitOut (d : Dev) (u : Nat) : Bool :=
  decide (2 ≤ (funit d u).state) || d.flt.slots.any (fun x => x.unit == u && x.phase == 2)

/-- PWR_STATUS.ring (R25, R405): a domain runs on its ring clock, or PLL_SYS is out of service. -/
def refreshRing (d : Dev) : Dev := setB PWR_STATUS_ring (!d.pwr.ringDoms.isEmpty || unitOut d 0x10) d

/-- FLT counter `i` increments, saturating: 0 corrected, 1 contained, 2 fatal, 3 merged, 4 upsets, 5 lasting, 6 rail,
7 injected, 8 slot_wait. -/
def fltCount (i : Nat) (d : Dev) : Dev := satAdd ⟨FLT_CNT i, 0, 32⟩ 1 d

/-- The number of a class in records (R16). -/
def clsNum (c : FCls) : Nat :=
  match c with
  | .corrected => 1
  | .contained => 2
  | .fatal => 3

/-- The severity of record 0x1001 by class (R417). -/
def clsSev (n : Nat) : Nat := if n = 3 then 15 else if n = 2 then 8 else 4

/-- The cause of a report latched in FLT_LATCH unless one is held (R416). -/
def latchCause (u cause : Nat) (inj : Bool) (d : Dev) : Dev :=
  modUnit u (fun x => if x.valid then x else { x with cause := cause, valid := true, cbr := false, inj := inj }) d

/-- The handling of a unit with the given injected flag, if one is open: in a slot, or waiting for one (R409, R419). -/
def slotOf (d : Dev) (u : Nat) (inj : Bool) : Option FSlot :=
  (d.flt.slots ++ d.flt.waiting).find? (fun x => x.unit == u && x.inj == inj)

/-- The lowest free handling slot (R409). -/
def freeSlot (d : Dev) : Option Nat := (List.range 8).find? (fun i => !(d.flt.slots.any (fun x => x.idx == i)))

/-- `d` with a handling replaced. -/
def putSlot (x : FSlot) (d : Dev) : Dev :=
  { d with flt := { d.flt with
      slots := d.flt.slots.map (fun y => if y.unit == x.unit && y.inj == x.inj then x else y),
      waiting := d.flt.waiting.map (fun y => if y.unit == x.unit && y.inj == x.inj then x else y) } }

/-- A handling taken into a free slot, or put among those that wait (R409). -/
def openSlot (x : FSlot) (d : Dev) : Dev :=
  match freeSlot d with
  | some i => { d with flt := { d.flt with slots := d.flt.slots ++ [{ x with idx := i }] } }
  | none => fltCount 8 { d with flt := { d.flt with waiting := d.flt.waiting ++ [x] } }

/-- The freed slots go to waiting units in unit-ID order (R409). -/
def admitWaiting (d : Dev) : Dev :=
  match freeSlot d, d.flt.waiting with
  | some i, w :: ws =>
    let best := ws.foldl (fun (b : FSlot) x => if x.unit < b.unit then x else b) w
    { d with flt := { d.flt with slots := d.flt.slots ++ [{ best with idx := i }],
                                 waiting := (w :: ws).filter (fun x => !(x.unit == best.unit && x.inj == best.inj)) } }
  | _, _ => d

/-- The rails of a unit return to idle when its last handling ends (R406, R416): a cause not yet read is marked, event 0x1005 once. -/
def railsIdle (u : Nat) (d : Dev) : Dev :=
  let x := funit d u
  if (d.flt.slots ++ d.flt.waiting).any (fun y => y.unit == u) || !x.live then d
  else
    let d1 := modUnit u (fun y => { y with live := false }) d
    if x.valid && !x.cbr then raise 0x1005 (u + x.cause * 256) (modUnit u (fun y => { y with cbr := true }) d1) else d1

/-- A fatal decision (R412): latched, counted, with the FAULT pins fatal; FATAL_DECISION carries it out. -/
def decideWith (x : FFatal) (d : Dev) : Dev :=
  setF FLT_STATUS_fatal_seen 1 (fltCount 2 { d with flt := { d.flt with fatal := d.flt.fatal ++ [x], pinsFatal := true } })

/-- A fatal decision of unit `u` with a cause and no event of the block. -/
def decideFatal (u cause : Nat) (collector : Bool) (d : Dev) : Dev :=
  decideWith { unit := u, cause := cause, ev := 0, evParam := 0, inj := false, collector := collector, seen := none } d

/-- A condition of R412 that block unit `u` finds: reported with the block's event, and fatal at once. -/
def fatalReport (u cause ev param : Nat) (d : Dev) : Dev :=
  decideWith { unit := u, cause := cause, ev := ev, evParam := param, inj := false, collector := false, seen := none }
    (latchCause u cause false (modUnit u (fun x => { x with live := true, reports := satU 16 (x.reports + 1) }) d))

/-- A report taken by the collector (R406, R409, R416, R419): latched; merged into an open handling of the unit, counted for a
Fenced unit, ignored during the unit's own test, fatal by its class (R410), or a handling of its own. An injected fatal report
beside a real handling of its unit opens a handling that decides nothing. -/
def collect (p : FltReport) (inj stFail polled : Bool) (seen : Option Nat) (d : Dev) : Dev :=
  let u := p.unit.val
  let d1 := latchCause u p.cause.toNat inj
    (modUnit u (fun x => { x with live := true, reports := satU 16 (x.reports + 1) }) d)
  if (funit d u).state = 3 then d
  else if (funit d u).state = 2 then railsIdle u d1
  else
    match slotOf d u inj with
    | some x =>
      if x.phase = 2 then d
      else
        fltCount 3 (modUnit u (fun y => { y with merges := satU 16 (y.merges + 1) })
          (putSlot { x with merges := satU 16 (x.merges + 1), lastMerged := p.cause.toNat } d1))
    | none =>
      let x : FSlot := { idx := 8, unit := u, cls := p.cls, cause := p.cause.toNat, ev := p.ev.toNat, evParam := p.evParam.toNat
                         inj := inj, stFail := stFail, merges := 0, lastMerged := 0, polled := polled, phase := 1
                         t0 := near d, seen := seen }
      let d2 := doIf inj (fltCount 7) d1
      if p.cls = .fatal ∧ !(inj && (slotOf d u false).isSome) then
        decideWith { unit := u, cause := x.cause, ev := x.ev, evParam := x.evParam, inj := inj, collector := false, seen := seen } d2
      else openSlot x (modUnit u (fun y => { y with state := 1 }) d2)

/-- A report of a unit on its rails: taken by the collector while PD_CTL is on, else latched in PD_AON with its time for a
PD_AON unit (R39, R406); the rails of a unit whose domain is off are idle. -/
def report (p : FltReport) (d : Dev) : Dev :=
  if domOn d .ctl then collect p false false false none d
  else if unitAon p.unit.val then { d with flt := { d.flt with aonReports := d.flt.aonReports ++ [(p, now16 d)] } }
  else d

/-- A report of unit `u` with cause and class, and the block's event. -/
def reportUnit (u cause : Nat) (cls : FCls) (ev param : Nat) (d : Dev) : Dev :=
  report { unit := Fin.ofNat 64 u, cause := BitVec.ofNat 8 cause, cls := cls, ev := BitVec.ofNat 16 ev
           evParam := BitVec.ofNat 32 param } d

/-- A unit taken out of service (R414, R415): Fenced, counted, event 0x1003. An essential unit is not fenced: the fence due on
it is fatal (R410, R412). A memory unit is never fenced (R413). -/
def fenceUnit (u cause : Nat) (d : Dev) : Dev :=
  if unitEssential u then decideFatal u cause false d
  else if unitMemory u then d
  else if (funit d u).state = 2 then d
  else raise 0x1003 u (modUnit u (fun x => { x with state := 2, fences := satU 16 (x.fences + 1) }) d)

/-- A unit of which some parts are fenced (R414): partial is 1 and event 0x1003 carries it. -/
def partFence (u : Nat) (d : Dev) : Dev :=
  raise 0x1003 (u + 256) (modUnit u (fun x => { x with part := true, fences := satU 16 (x.fences + 1) }) d)

/-- A unit back in service after a passed readmission test (R415): Normal, event 0x1004. -/
def admitUnit (u : Nat) (d : Dev) : Dev := raise 0x1004 u (modUnit u (fun x => { x with state := 0, part := false, byBlock := false }) d)

end Sys2Proof.Machine
end

