-- ==== Sys2Proof/Machine/TbOps.lean ====
section
/-! DEFINITION. The arithmetic of TB: groups and ticks of a channel (R87 to R90), steps and sets (R91 to R98), slews (R99), the
state vectors of the voter (R102), UTC, GPS time and the calendar (R111 to R114). -/

namespace Sys2Proof.Machine

open Sys2Proof

/-- `d` with every channel in service changed by `f`. -/
def mapChans (f : Chan → Chan) (d : Dev) : Dev :=
  forEach (inService d) (fun i x => { x with tb := setChan x.tb i (f (chan x.tb i)) }) d

/-- The channel whose values the registers of TB show: the lowest in service. -/
def leadChan (d : Dev) : Chan := chan d.tb ((inService d).headD 0)

/-- The slew term of the next group (R99): at most the slew limit, reduced so that the sum with `base` does not saturate
(R89). -/
def slewTerm (base rem : Int) (limit : Nat) : Int :=
  let smax : Int := (limit : Int) * 256
  let hi : Int := 2 ^ 47 - 1
  let lo : Int := - 2 ^ 47
  if 0 ≤ rem then min (min smax rem) (max 0 (hi - base)) else max (max (-smax) rem) (min 0 (lo - base))

/-- A channel at the start of a group: the slew term of the group is taken from the remainder, and F is the saturated sum of the terms
(R88, R99). -/
def startGroup (c : Chan) : Chan :=
  let s := slewTerm (c.servo + c.ens) c.rem c.limit
  { c with slew := s, rem := c.rem - s, f := satS 48 (c.servo + c.ens + s) }

/-- A channel at an application boundary: new terms and a slew act from the first group that begins on or after the boundary tick (R88,
R91), so a group that begins on this tick is formed again and a running one finishes with its F. -/
def regroup (c : Chan) : Chan := if c.k = 0 then startGroup { c with rem := c.rem + c.slew } else c

/-- A channel at the end of its group, which is the start of the next (R87). -/
def endGroup (c : Chan) : Chan := startGroup { c with t := c.t + ((2 : Int) ^ 56 + chanF c).toNat, k := 0 }

/-- A channel one tick on (R87). -/
def tickChan (c : Chan) : Chan := if c.k < 4 then { c with k := c.k + 1 } else endGroup c

/-- R89's clamp as a group begins: the servo and ensemble terms alone exceed the range, or the slew term is reduced below what R99
gives. -/
def clampInForce (c : Chan) : Bool :=
  satS 48 (c.servo + c.ens) != c.servo + c.ens ||
    (decide (c.rem ≠ 0) && decide (c.slew.natAbs < min (c.limit * 256) (c.rem + c.slew).natAbs))

/-- TB_STATUS.freq_sat follows the clamp; event 0x2008 at most once per 1 ms epoch (R89). -/
def checkSat (d : Dev) : Dev :=
  let c := leadChan d
  let on := clampInForce c
  let d1 := setB TB_STATUS_freq_sat on d
  if on && !d.tb.satDone then raise 0x2008 (wrapN 48 (chanF c) / 2 ^ 16) { d1 with tb := { d1.tb with satDone := true } } else d1

/-- The remainder of the lead channel is used up with the group that begins (R99). -/
def noteSlew (d : Dev) : Dev :=
  let c := leadChan d
  let last := flag d TB_STATUS_slew_active && decide (c.rem = 0) && decide (c.slew ≠ 0)
  { d with tb := { d.tb with slewEnding := last } }

/-- A group has ended (R97, R99): the slew whose last term it held is complete with event 0x2007; slew_active clears once nothing is left,
without an event for a slew that was cancelled or that added nothing (log entry 125). -/
def endSlew (d : Dev) : Dev :=
  let c := leadChan d
  let ended := flag d TB_STATUS_slew_active && decide (c.rem = 0) && decide (c.slew = 0)
  doIf d.tb.slewEnding (raise 0x2007 0) (doIf ended (setB TB_STATUS_slew_active false) d)

/-- What the start of a group does beside the channels: the slew's end, and the clamp (R89, R99). -/
def groupMarks (d : Dev) : Dev := checkSat (noteSlew (endSlew d))

/-- Two channels in service that publish different near times: fatal on any tick (R103, R106). -/
def checkPair (d : Dev) : Dev :=
  match inService d with
  | [i, j] =>
    if chanPub (chan d.tb i) % 2 ^ 64 = chanPub (chan d.tb j) % 2 ^ 64 || !d.flt.fatal.isEmpty then d
    else fatalReport 0x03 0x06 0x2003 0 (raise 0x2003 0 d)
  | _ => d

/-- One 0.8 ns tick of TB (R87): every channel in service advances. -/
def tickTb (d : Dev) : Dev :=
  let fresh := decide (4 ≤ (leadChan d).k)
  checkPair (doIf fresh groupMarks (mapChans tickChan d))

/-- TB_RESULT written whole: cause and command. -/
def tbResult (cause cmd : Nat) (d : Dev) : Dev := wrN TB_RESULT (cause + cmd * 256) d

/-- A refused step, set or slew: TB_RESULT and event 0x2005 with that value (R95 to R97). -/
def tbRefuse (cause cmd : Nat) (d : Dev) : Dev := raise 0x2005 (cause + cmd * 256) (tbResult cause cmd d)

/-- A step or set is pending (R97). -/
def stepPending (d : Dev) : Bool := flag d TB_STATUS_step_pending || flag d TB_STATUS_set_pending

/-- The step policy permits a step in the current servo state (R95): 0 never, 1 in Free-run or Acquire, 2 always. -/
def policyPermits (d : Dev) : Bool :=
  let p := fld d TB_STATUS_step_policy
  if p = 0 then false else if p = 1 then decide (fld d REF_STATUS_servo ≤ 1) else true

/-- A step of `s` armed, or refused in the order of R95: busy, policy, threshold. -/
def armStep (s : Int) (d : Dev) : Dev :=
  if stepPending d then tbRefuse 0x05 1 d
  else if !(policyPermits d) then tbRefuse 0x01 1 d
  else if s.natAbs ≤ rdN d TB_STEP_THRESH * 65536 then tbRefuse 0x02 1 d
  else
    let d1 := mapChans (fun c => { c with step := some s }) d
    setB TB_STATUS_step_pending true { d1 with tb := { d1.tb with armedAt := near d } }

/-- A set armed from TB_SET, or refused in the order of R95: busy, device state, range. -/
def armSet (d : Dev) : Dev :=
  let ns := rdN d TB_SET_NS
  let sec := rdN d TB_SET_SEC_LO + 2 ^ 32 * rdN d TB_SET_SEC_HI
  if stepPending d then tbRefuse 0x05 2 d
  else if devState d ≠ stStandby then tbRefuse 0x04 2 d
  else if 999999999 < ns then tbRefuse 0x07 2 d
  else
    let v := (sec * 1000000000 + ns) * 65536 + rdN d TB_SET_FRAC
    let d1 := mapChans (fun c => { c with set := some v }) d
    setB TB_STATUS_set_pending true { d1 with tb := { d1.tb with armedAt := near d } }

/-- The pending step or set dropped from the channels and the status. -/
def dropPending (d : Dev) : Dev :=
  setB TB_STATUS_set_pending false (setB TB_STATUS_step_pending false (mapChans (fun c => { c with step := none, set := none }) d))

/-- The command number of what is pending: 1 step, 2 set. -/
def pendCmd (d : Dev) : Nat := if flag d TB_STATUS_set_pending then 2 else 1

/-- A slew is running or waiting (R97). -/
def slewExists (d : Dev) : Bool := flag d TB_STATUS_slew_active || d.tb.slewAdd.isSome

/-- TB_CMD.cancel (R97). -/
def cancelTb (d : Dev) : Dev :=
  let stopSlew := fun (x : Dev) =>
    let y := mapChans (fun c => { c with rem := 0 }) x
    { y with tb := { y.tb with slewAdd := none, slewEnding := false } }
  if stepPending d then
    tbRefuse 0x06 (pendCmd d) (stopSlew (dropPending { d with ref := { d.ref with stepPend := none } }))
  else if slewExists d then tbRefuse 0x06 3 (stopSlew d)
  else d

/-- The channels moved by `s` units of 2^-16 ns (R98). -/
def shiftTime (s : Int) (d : Dev) : Dev :=
  mapChans (fun c => { c with t := ((c.t : Int) + s * 2 ^ 38).toNat }) d

/-- The step that a pending step or set amounts to at this instant (R92). -/
def pendingShift (d : Dev) : Int :=
  match (leadChan d).set with
  | some v => (v : Int) - (now16 d : Int)
  | none => ((leadChan d).step).getD 0

/-- The parameter of events 0x2004 and 0x2006: s saturated to 32 bits (R98). -/
def stepParam (s : Int) : Nat := wrapN 32 (satS 32 s)

/-- A pending step or set applied on the boundary tick (R94, R98): the time moves, the event is raised, a set makes time_valid
1. -/
def applyPending (d : Dev) : Dev :=
  let s := pendingShift d
  let isSet := flag d TB_STATUS_set_pending
  let d1 := dropPending (shiftTime s d)
  let d2 := tbResult 0x00 (pendCmd d) { d1 with tb := { d1.tb with stepCount := d1.tb.stepCount + 1 },
                                                      ref := { d1.ref with stepPend := none, acc := { d1.ref.acc with clean := false } } }
  let d3 := doIf isSet (setB TB_STATUS_time_valid true) d2
  raise (if isSet then 0x2006 else 0x2004) (stepParam s) d3

/-- A waiting slew amount added to the remainder at a boundary (R99). -/
def startSlew (d : Dev) : Dev :=
  match d.tb.slewAdd with
  | none => d
  | some a =>
    let d1 := mapChans (fun c => { c with rem := c.rem + a * 2 ^ 38 }) d
    setB TB_STATUS_slew_active true (tbResult 0x00 3 { d1 with tb := { d1.tb with slewAdd := none } })

/-- Waiting servo and ensemble terms taken at a boundary (R88, R91). -/
def applyTerms (d : Dev) : Dev :=
  let d1 := mapChans (fun c => { c with servo := d.tb.newServo.getD c.servo, ens := d.tb.newEns.getD c.ens }) d
  { d1 with tb := { d1.tb with newServo := none, newEns := none } }

/-- A group that begins on the boundary tick is formed with the new terms and the new remainder (R88, R91). -/
def regroupAll (d : Dev) : Dev :=
  if (leadChan d).k = 0 then checkSat (noteSlew (mapChans regroup d)) else d

/-- Frequency terms and the start of a slew at a boundary (R91). -/
def applyFreq (d : Dev) : Dev := regroupAll (startSlew (applyTerms d))

/-- The channels' slew limit follows TB_SLEW_LIMIT, which a live reload changes (R99). -/
def limitF (d : Dev) : Dev := mapChans (fun c => { c with limit := rdN d TB_SLEW_LIMIT }) d

/-- A step that REF asked for and TB refused (R157): event 0x280B, and a slew of the same amount. -/
def refStepRefused (d : Dev) : Dev :=
  match d.ref.stepPend with
  | none => d
  | some s =>
    let d1 := raise 0x280B (rdN d TB_RESULT) { d with ref := { d.ref with stepPend := none } }
    { d1 with tb := { d1.tb with slewAdd := some (d1.tb.slewAdd.getD 0 + s) } }

/-! ### Alarms -/

/-- The target of alarm `n`. -/
def alarmTgt (d : Dev) (n : Nat) : Nat := rd64 d (TB_ALARM_TGT_LO n)

/-- Alarm `n` is enabled and its target is due (R101). -/
def alarmDue (d : Dev) (n : Nat) : Bool := flag d (TB_ALARM_CTL_enable n) && due (alarmTgt d n) (near d)

/-- How often the target of a periodic alarm advances until it lies after now in the signed sense of R20 (R101), when it is `late` units
past: a period of 2^63 units or more is a step back of 2^64 less the period. -/
def advances (late per : Nat) : Nat := if per < 2 ^ 63 then late / per + 1 else (2 ^ 63 - late) / (2 ^ 64 - per) + 1

/-- Alarm `n` fires (R101). -/
def fireAlarm (byStep : Bool) (n : Nat) (d : Dev) : Dev :=
  let per := rd64 d (TB_ALARM_PER_LO n)
  let d1 := raise 0x200C (n + b2n byStep * 8) (setB (TB_ALARM_CTL_by_step n) byStep (setB (TB_ALARM_CTL_fired n) true d))
  if flag d (TB_ALARM_CTL_periodic n) && decide (per ≠ 0) then
    let late := (- nearDiff (alarmTgt d n) (near d)).toNat
    let m := advances late per
    satAdd (TB_ALARM_CTL_skipped n) (m - 1) (wr64 (TB_ALARM_TGT_LO n) (alarmTgt d n + m * per) d1)
  else setB (TB_ALARM_CTL_enable n) false d1

/-- The alarms due on the tick of a step or set fire with by_step (R100). -/
def fireDueAlarms (d : Dev) : Dev := forEach (List.range 8) (fun n x => doIf (alarmDue x n) (fireAlarm true n) x) d

/-! ### The voter -/

/-- Word `w` of the state vector of a channel (R102), as a list of numbers. -/
def vecWord (c : Chan) (w : Nat) : List Int :=
  match w with
  | 0 => [(chanPub c : Int)]
  | 1 => [(chanT c % 2 ^ 38 : Nat), (c.k : Int)]
  | 2 => [c.servo, c.ens, c.slew]
  | 3 => [c.rem, (c.limit : Int)]
  | 4 => [c.step.getD 0, (b2n c.step.isSome : Int), (c.set.getD 0 : Int), (b2n c.set.isSome : Int)]
  | 5 => [(c.epochs : Int), (c.epochsMs : Int)]
  | _ => [c.ref, (c.refState : Int)]

/-- The first word in which two state vectors differ (R102). -/
def vecDiff (a b : Chan) : Option Nat := (List.range 7).find? (fun w => vecWord a w != vecWord b w)

/-- A channel with one word of its state vector disturbed. -/
def upsetChan (w flip : Nat) (c : Chan) : Chan :=
  match w with
  | 0 => { c with t := c.t ^^^ (flip * 2 ^ 38) }
  | 1 => { c with t := c.t ^^^ (flip % 2 ^ 38) }
  | 2 => { c with servo := c.servo + (flip : Int) }
  | 3 => { c with rem := c.rem + (flip : Int) }
  | 4 => { c with step := if flip = 0 then c.step else some (c.step.getD 0 + (flip : Int)) }
  | 5 => { c with epochs := c.epochs ^^^ flip }
  | _ => { c with ref := c.ref + (flip : Int) }

/-- The servo state that the channels in service hold for REF (R102). -/
def holdServo (d : Dev) : Dev := mapChans (fun c => { c with ref := d.ref.i, refState := fld d REF_STATUS_servo }) d

/-- Channel `i` fenced by TB's own mechanism (R105, R106): the voter is Double, event 0x2002, the unit Fenced. A fence that
would leave fewer than two channels is fatal instead. -/
def fenceChan (i : Nat) (byCount : Bool) (d : Dev) : Dev :=
  if decide (((inService d).filter (fun j => j != i)).length < 2) then decideFatal 0x03 0x06 false d
  else
    let p := i + b2n byCount * 256
    fenceUnit i 0x06 (reportUnit i 0x06 .contained 0x2002 p
      (raise 0x2002 p (setF TB_STATUS_voter 2 (setF ⟨TB_STATUS, 4 + i, 1⟩ 1 { d with tb := { d.tb with odd := none } }))))

/-- Channel `i` loaded from the lowest channel in service (R105, R106). -/
def loadChan (i : Nat) (d : Dev) : Dev := { d with tb := setChan d.tb i (leadChan d) }

/-- The voter state when no channel is in self-test: Triple, or Double with a fenced channel. -/
def settleVoter (d : Dev) : Dev := setF TB_STATUS_voter (if fld d TB_STATUS_fenced = 0 then 0 else 2) d

/-- The repair of odd channel `i`, differing first in word `w` (R104, R105, R107). -/
def repairChan (i w : Nat) (d : Dev) : Dev :=
  let off := (nearDiff (chanPub (chan d.tb i) % 2 ^ 64) (near d)).natAbs
  let df := if w = 0 then satU 32 off else 0
  let d1 := { d with tb := { d.tb with odd := some i, voteMax := max d.tb.voteMax df, repTotal := d.tb.repTotal + 1,
                                       reps := cput (fun _ => 0) d.tb.reps i (cget (fun _ => 0) d.tb.reps i + 1) } }
  let d2 := setF TB_VOTE_LAST_word w (setF TB_VOTE_LAST_channel i (satAdd ⟨TB_VOTE_CNT i, 0, 16⟩ 1 (setF TB_STATUS_voter 1 d1)))
  reportUnit i 0x06 .corrected 0x2001 (i + w * 16) (raise 0x2001 (i + w * 16) d2)

/-- The voter finds no two channels equal, or any difference of two (R104, R106): event 0x2003, fatal. -/
def noMajority (w : Nat) (d : Dev) : Dev :=
  fatalReport 0x03 0x06 0x2003 (w * 16) (raise 0x2003 (w * 16) d)

/-- The comparison at a 1 µs epoch (R104, R106). -/
def compareChans (d : Dev) : Dev :=
  match inService d with
  | [_, _, _] =>
    let a := d.tb.ch0
    let b := d.tb.ch1
    let c := d.tb.ch2
    match vecDiff a b, vecDiff a c, vecDiff b c with
    | none, none, _ => d
    | none, some w, _ => repairChan 2 w d
    | some w, none, _ => repairChan 1 w d
    | some w, some _, none => repairChan 0 w d
    | some w, some _, some _ => noMajority w d
  | [i, j] =>
    match vecDiff (chan d.tb i) (chan d.tb j) with
    | none => d
    | some w => noMajority w d
  | _ => d

/-! ### UTC, leap seconds, GPS time -/

/-- Leap-second table entry `i` (R111). -/
def leapEntry (d : Dev) (i : Nat) : Nat := rdN d (bank LOG_LEAP_LO i) + 2 ^ 32 * rdN d (bank LOG_LEAP_HI i)

/-- The effective TAI second of an entry. -/
def leapE (e : Nat) : Nat := e % 2 ^ 48

/-- The new TAI − UTC offset of an entry, signed. -/
def leapOff (e : Nat) : Int := sx 16 (e / 2 ^ 48)

/-- The offset in force at a TAI second: that of the latest non-empty entry whose effective second has come (R111, R112). -/
def leapAt (d : Dev) (tai : Nat) : Int :=
  (((List.range 64).map (leapEntry d)).filter (fun e => e != 0 && decide (leapE e ≤ tai))).foldl
    (fun (b : Nat × Int) e => if b.1 ≤ leapE e then (leapE e, leapOff e) else b) (0, 0) |>.2

/-- The next entry after a TAI second: the one with the smallest later effective second (R112). -/
def leapNext (d : Dev) (tai : Nat) : Option Nat :=
  (((List.range 64).map (leapEntry d)).filter (fun e => e != 0 && decide (tai < leapE e))).foldl
    (fun (b : Option Nat) e => match b with | none => some e | some x => if leapE e < leapE x then some e else some x) none

/-- TB_UTC_OFFSET and TB_LEAP_NEXT brought up to date with the table (R112). -/
def refreshLeap (d : Dev) : Dev :=
  let tai := taiSec d
  let cur := sx 16 (fld d TB_UTC_OFFSET_offset)
  match leapNext d tai with
  | none => wr64 TB_LEAP_NEXT_LO 0 (setF TB_UTC_OFFSET_dir 0 (setF TB_UTC_OFFSET_pending 0 d))
  | some e =>
    wr64 TB_LEAP_NEXT_LO e (setB TB_UTC_OFFSET_dir (decide (leapOff e < cur)) (setF TB_UTC_OFFSET_pending 1 d))

/-- The last UTC second of the calendar: 2199-12-31 23:59:59 as seconds from 1970 (R114). -/
def calLimit : Int := 7258118399

/-- The proleptic Gregorian date of a day number from 1970-01-01: year, month, day (R114). -/
def civil (day : Int) : Nat × Nat × Nat :=
  let z := day + 719468
  let era := z / 146097
  let doe := (z - era * 146097).toNat
  let yoe := (doe - doe / 1460 + doe / 36524 - doe / 146096) / 365
  let doy := doe - (365 * yoe + yoe / 4 - yoe / 100)
  let mp := (5 * doy + 2) / 153
  let dd := doy - (153 * mp + 2) / 5 + 1
  let mm := if mp < 10 then mp + 3 else mp - 9
  let yy := ((yoe : Int) + era * 400).toNat + (if mm ≤ 2 then 1 else 0)
  (yy, mm, dd)

/-- The UTC label of a TAI second: seconds from 1970 of the label's minute grid and whether it reads 23:59:60 (R112). -/
def utcOf (d : Dev) (tai : Nat) : Int × Bool :=
  let off := sx 16 (fld d TB_UTC_OFFSET_offset)
  let u := (tai : Int) - off
  let held := (min u calLimit, false)
  match leapNext d tai with
  | some e => if u ≤ calLimit ∧ leapE e = tai + 1 ∧ leapOff e = off + 1 then (u - 1, true) else held
  | none => held

/-- TB_UTC_DATE and TB_UTC_TIME for a TAI second. -/
def utcWords (d : Dev) (tai : Nat) : Nat × Nat :=
  let (u, leap) := utcOf d tai
  let sod := (u % 86400).toNat
  let (y, m, dd) := civil (u / 86400)
  (y % 2 ^ 16 + m * 2 ^ 16 + dd * 2 ^ 20,
   sod / 3600 + sod / 60 % 60 * 2 ^ 5 + (if leap then 60 else sod % 60) * 2 ^ 11)

/-- TB_GPS_WEEK and TB_GPS_TOW for a TAI second (R113). -/
def gpsWords (tai : Nat) : Nat × Nat :=
  let g := (tai : Int) - 315964819
  ((g / 604800 % 65536).toNat, (g % 604800).toNat)

/-- The registers that one read of TB_NOW_FRAC or TB_NEAR_LO latches for its requester, with their values (R77). -/
def timeWords (d : Dev) : List (Nat × Nat) :=
  let n := now16 d
  let sec := n / sec16 % 2 ^ 48
  let ns := n / 65536 % 1000000000
  let u := utcWords d (n / sec16)
  let g := gpsWords (n / sec16)
  [(TB_NOW_FRAC, n % 65536), (TB_NOW_NS, ns), (TB_NOW_SEC_LO, sec % 2 ^ 32), (TB_NOW_SEC_HI, sec / 2 ^ 32),
   (TB_NEAR_LO, n % 2 ^ 32), (TB_NEAR_HI, n / 2 ^ 32 % 2 ^ 32), (TB_UTC_DATE, u.1), (TB_UTC_TIME, u.2),
   (TB_GPS_WEEK, g.1), (TB_GPS_TOW, g.2)]

/-- One microsecond in units of 2^-16 ns. -/
def us16 : Nat := 65536000

/-- The first multiple of `p` after the present time. -/
def nextEpoch (p : Nat) (d : Dev) : Nat := (now16 d / p + 1) * p

/-- The epochs follow the timescale from here on (R90, R98). -/
def alignEpochs (d : Dev) : Dev := { d with tb := { d.tb with nextUs := nextEpoch us16 d, nextMs := nextEpoch ms16 d } }

/-- The increment of the low-power counter, in units of 2^-32 ns (R108). -/
def lpcInc (d : Dev) : Nat := rd64 d TB_LPC_INC_LO

/-- One edge of CK_32K in the low-power counter (R108); it does not count while CK_32K has no crystal (R445). -/
def lpcTick (d : Dev) : Dev :=
  if flag d PWR_STATUS_ck_rc then d else { d with lpc := { d.lpc with val := d.lpc.val + lpcInc d, ck := d.lpc.ck + 1 } }

/-- An edge of CK_32K while TB runs: counted, and its voted time recorded (R108). -/
def lpcEdge (d : Dev) : Dev :=
  if flag d PWR_STATUS_ck_rc then d
  else
    let d1 := lpcTick d
    { d1 with lpc := { d1.lpc with seen := (now16 d :: d1.lpc.seen).take 32769 } }

/-- The increment that the recorded edges measure (R108): over the last 32,768 intervals, or all of them while there are fewer. -/
def lpcMeasured (l : List Nat) : Option Nat :=
  match l with
  | new :: _ :: _ =>
    let old := l.getLastD new
    some (wrapN 48 (roundDiv (nearDiff (new % 2 ^ 64) (old % 2 ^ 64) * 2 ^ 16) (l.length - 1)))
  | _ => none

/-- The reload of the low-power counter and of its increment at a 1 ms epoch (R108). -/
def lpcReload (d : Dev) : Dev :=
  match d.lpc.seen with
  | [] => d
  | e :: _ =>
    let d1 := { d with lpc := { d.lpc with val := e * 2 ^ 16 } }
    match lpcMeasured d.lpc.seen with
    | none => d1
    | some inc => if inc = lpcInc d1 then d1 else wr64 TB_LPC_INC_LO inc { d1 with lpc := { d1.lpc with incAt := d1.lpc.ck } }

/-- Seeding of TB (R109): every channel that is not fenced is loaded with the low-power counter and the measured interval
(units of 2^-16 ns), sub-fraction 0, k = 0. -/
def seedTb (meas : Nat) (d : Dev) : Dev :=
  let v := d.lpc.val / 2 ^ 16 + meas
  let d1 := { d with tb := { d.tb with odd := none } }
  let d2 := mapChans (fun _ => { chanReset with t := v * 2 ^ 38, limit := rdN d TB_SLEW_LIMIT }) d1
  let d3 := setB TB_STATUS_seeded true (settleVoter d2)
  let d4 := alignEpochs (doIf (flag d PWR_STATUS_ck_rc) (setB TB_STATUS_time_valid false) d3)
  refreshLeap (setF TB_UTC_OFFSET_offset (wrapN 16 (leapAt d (taiSec d4))) d4)

end Sys2Proof.Machine
end

