-- ==== Sys2Proof/Machine/Log.lean ====
section
/-! DEFINITION. The recorder of spec/18_recorder_counters.md: the writing of a record (R427), the cursors (R428), the weir
sweep (R425) and the life counters (R435, R436). The archive is in Archive.lean. -/

namespace Sys2Proof.Machine

open Sys2Proof

/-- Where the model keeps the recorder SRAM: slot i occupies bytes 32i to 32i + 31 of this place (R427). The spec gives it no
physical address; it lies outside the 40-bit map of R366 (log entry 10). -/
def recBase : Nat := 2 ^ 42

/-- The first seven words of a recorder record (R16). -/
def recBody (r : LRec) : List Nat :=
  let ts := r.t16 % 65536 + (r.t16 / 65536 % 1000000000) * 2 ^ 16 + (r.t16 / sec16) * 2 ^ 48
  [r.code % 2 ^ 16 + (r.cls % 4 * 64 + r.sev % 16) * 2 ^ 16 + (b2n r.inj + b2n r.merged * 2 + b2n r.supp * 4) * 2 ^ 24,
   ts % 2 ^ 32, ts / 2 ^ 32 % 2 ^ 32, ts / 2 ^ 64 % 2 ^ 32, r.p0 % 2 ^ 32, r.p1 % 2 ^ 32, r.p2 % 2 ^ 32]

/-- The eight words of a recorder record, the last its CRC-32C (R16, R17). -/
def recWords (r : LRec) : List Word :=
  let ws := recBody r
  let bs := ws.foldr (fun w acc => leBytes 4 w ++ acc) []
  (ws ++ [crc32c bs]).map (BitVec.ofNat 32)

/-- The oldest sequence number still held (R427). -/
def logOldest (d : Dev) : Nat :=
  let a := (rdN d LOG_WR_SEQ + 2 ^ 32 - 8192) % 2 ^ 32
  if 0 < sx 32 (a + 2 ^ 32 - d.log.firstSeq) then a else d.log.firstSeq

/-- The next record of the input queue written to its slot (R427). -/
def recorderWriteF (d : Dev) : Dev :=
  match d.log.inq with
  | [] => d
  | r :: rest =>
    let s := rdN d LOG_WR_SEQ
    let slot := s % 8192
    let d1 := { d with log := { d.log with inq := rest } }
    pmcSup (pmcAdd 0x0601 1 (wrN LOG_WR_SEQ (s + 1) (setRamWords (recBase + 32 * slot) (recWords r) d1)))

/-- RECORDER_WRITE (R427). -/
def execRecorderWrite (s : State) : Host.Outcome State Fault Refusal := s.upd (fun d => doIf d.pwr.powered recorderWriteF d)

/-- CK_32K has counted `n` seconds since the power-on of PD_AON; on its RC oscillator PD_AON has no exact second (log entry 158). -/
def aonSecond (n : Nat) (d : Dev) : Bool := flag d PWR_STATUS_ck_rc || decide (n * 32768 ≤ d.lpc.ck)

/-- The sweep of every recorder weir (R425, R426), once in 32,768 CK_32K cycles. -/
def weirSweepF (d : Dev) : Dev :=
  doIf (aonSecond (d.log.sweeps + 1) d) (fun x =>
    pmcSup (forEach (List.range 1024) weirSync { x with log := { x.log with sweeps := max (x.log.sweeps + 1) (x.lpc.ck / 32768) } })) d

/-- RECORDER_WEIR_SWEEP (R425). -/
def execRecorderWeirSweep (s : State) : Host.Outcome State Fault Refusal := s.upd (fun d => doIf d.pwr.powered weirSweepF d)

/-- The signed distance from `b` to `a` of two sequence numbers (R427, R428). -/
def seqDiff (a b : Nat) : Int := sx 32 (a + 2 ^ 32 - b % 2 ^ 32)

/-- A requester's cursor. -/
def logCur (d : Dev) (r : Req) : Nat := rdN d (own LOG_CUR (reqCode r))

/-- A requester's cursor moved up to LOG_OLDEST, with the loss recorded (R428). -/
def cursorFloor (r : Req) (d : Dev) : Dev :=
  let c := reqCode r
  let gap := seqDiff (logOldest d) (logCur d r)
  if 0 < gap then
    let st := own LOG_RD_STATUS c
    wrN (own LOG_CUR c) (logOldest d) (setF ⟨st, 1, 1⟩ 1 (satAdd ⟨st, 8, 24⟩ gap.toNat d))
  else d

/-- A read of LOG_REC0 (R428): the record at the cursor is latched whole; at LOG_WR_SEQ all words read 0 and empty is set. -/
def rec0ReadF (r : Req) (d : Dev) : Dev :=
  let c := reqCode r
  let d1 := cursorFloor r d
  let cur := logCur d1 r
  let empty := decide (cur = rdN d1 LOG_WR_SEQ)
  let word := fun (w : Nat) => if empty then (0 : Word) else ramWord d1 (recBase + 32 * (cur % 8192) + 4 * w)
  let d2 := forEach (List.range 8) (fun w x => setLatch (LOG_REC w) r (word w) x) d1
  let d3 := setF ⟨own LOG_RD_STATUS c, 0, 1⟩ (b2n empty) d2
  { d3 with resp := [word 0]
            log := { d3.log with emptyRd := if empty then c :: d3.log.emptyRd.filter (fun x => x != c)
                                             else d3.log.emptyRd.filter (fun x => x != c) } }

/-- LOG_REC0_READ (R428). -/
def execLogRec0Read (r : Req) (s : State) : Host.Outcome State Fault Refusal := s.upd (guardRead r (LOG_REC 0) (rec0ReadF r))

/-- A read of LOG_REC7 (R428): the latched word; auto_inc advances the cursor unless the latching read was empty. -/
def rec7ReadF (r : Req) (d : Dev) : Dev :=
  let c := reqCode r
  let inc := (bitsOf (rd d (own LOG_RD_CTL c)) 0 1 == 1) && !(d.log.emptyRd.contains c)
  let d1 := doIf inc (wrN (own LOG_CUR c) (logCur d r + 1)) d
  { d1 with resp := [latched d (LOG_REC 7) r] }

/-- LOG_REC7_READ (R428). -/
def execLogRec7Read (r : Req) (s : State) : Host.Outcome State Fault Refusal := s.upd (guardRead r (LOG_REC 7) (rec7ReadF r))

/-- A write of LOG_CUR (R428): clamped to LOG_WR_SEQ. -/
def logCurWriteF (r : Req) (v : Nat) (d : Dev) : Dev :=
  wrN (own LOG_CUR (reqCode r)) (if 0 < seqDiff v (rdN d LOG_WR_SEQ) then rdN d LOG_WR_SEQ else v) d

/-- LOG_CUR_WRITE (R428). -/
def execLogCurWrite (r : Req) (d : Word) (s : State) : Host.Outcome State Fault Refusal :=
  s.upd (guardWrite r LOG_CUR (logCurWriteF r d.toNat))

/-! ### Life counters -/

/-- Life counter `i` adds `n` (R435). -/
def lifeAdd (i n : Nat) (d : Dev) : Dev := wr64 (LOG_LIFE_LO i) (rd64 d (LOG_LIFE_LO i) + n) d

/-- The thermal cycle detector takes a reading (R436). -/
def thermalCycle (t : Int) (d : Dev) : Dev :=
  let swing : Int := (atLeast1 (fld d LOG_TC_SWING_degC) : Nat)
  match d.log.tcHigh with
  | some h =>
    if t ≤ h - swing then { d with log := { d.log with tcHigh := none, tcLow := some t } }
    else { d with log := { d.log with tcHigh := some (max h t) } }
  | none =>
    let l := d.log.tcLow.getD t
    if l + swing ≤ t then lifeAdd 8 1 { d with log := { d.log with tcLow := none, tcHigh := some t } }
    else { d with log := { d.log with tcLow := some (min l t) } }

/-- The lanes in powered quads (R435). -/
def lanesPowered (d : Dev) : Nat := 4 * ((List.range 4).filter (fun q => domOnN d (10 + q))).length

/-- The records dropped in the last second (R424): event 0x1801 with their number (log entry 158). -/
def dropEvent (d : Dev) : Dev :=
  let n := d.log.dropSec
  doIf (decide (0 < n)) (raise 0x1801 n) { d with log := { d.log with dropSec := 0 } }

/-- The sample of one second (R435, R436): die temperature and the activity of the oscillator inputs. The archive's page budget
refills at LOG_ARCH_BUDGET an hour (R431). -/
def secondSample (t : Int) (osc : Nat) (d0 : Dev) : Dev :=
  let d := dropEvent { d0 with log := { d0.log with samples := d0.log.samples + 1 } }
  let d1 := lifeAdd 0 1 d
  let d2 := doIf (devState d == stServe) (lifeAdd 1 1) d1
  let d3 := doIf (devState d == stLow) (lifeAdd 2 1) d2
  let d4 := forEach (List.range 4) (fun i x => doIf (osc / 2 ^ i % 2 == 1) (lifeAdd (3 + i) 1) x) d3
  let d5 := lifeAdd 7 (lanesPowered d) d4
  let d6 := doIf (decide (95 ≤ t)) (lifeAdd 9 1) d5
  let d7 := doIf (decide (105 < t)) (lifeAdd 10 1) d6
  let pages := fld d LOG_ARCH_BUDGET_pages
  thermalCycle t { d7 with log := { d7.log with dieTemp := t, budget := min (pages * 3600) (d7.log.budget + pages) } }

/-- The sample is taken once per second of CK_32K (R436). -/
def thermalSampleF (t : Int) (osc : Nat) (d : Dev) : Dev := doIf (aonSecond (d.log.samples + 1) d) (secondSample t osc) d

/-- THERMAL_SAMPLE (R436). -/
def execThermalSample (temp : Int) (osc : Fin 16) (s : State) : Host.Outcome State Fault Refusal :=
  s.upd (fun d => doIf d.pwr.powered (thermalSampleF temp osc.val) d)

end Sys2Proof.Machine
end

