-- ==== Sys2Proof/Machine/Archive.lean ====
section
/-! DEFINITION. The archive in flash (spec/18_recorder_counters.md, R429 to R433): sectors and pages, the state block, the leap
pages, recorder pages within their budget, and the restore after Off. -/

namespace Sys2Proof.Machine

open Sys2Proof

/-- The flash address of an archive page (R83, R429). -/
def archAddr (sector page : Nat) : Nat := 0x01000000 + sector * 65536 + page * 256

/-- Sector and page of the head: where the next page goes; page 0 means that the head has yet to enter the sector. -/
def archSector (d : Dev) : Nat := fld d LOG_ARCH_HEAD_sector

/-- The page of the head. -/
def archPage (d : Dev) : Nat := fld d LOG_ARCH_HEAD_page

/-- A failed program or erase (R432). -/
def archFail (sector page : Nat) (d : Dev) : Dev := raise 0x1803 (sector + page * 256) (setF LOG_STATUS_flash_err 1 d)

/-- The first of `n` sectors from `s` on that is not skipped. -/
def nextSector (bad : List Nat) : Nat → Nat → Nat
  | 0, s => s % 64
  | n + 1, s => if bad.contains (s % 64) then nextSector bad n (s + 1) else s % 64

/-- The head moved to the next page of its sector, or to the next sector. -/
def archNextPage (d : Dev) : Dev :=
  let p := archPage d + 1
  if p < 256 then setF LOG_ARCH_HEAD_page p d
  else setF LOG_ARCH_HEAD_page 0 (setF LOG_ARCH_HEAD_sector (nextSector d.log.badSect 64 (archSector d + 1)) d)

/-- A page of 256 bytes with its CRC-32C in the last four (R429, R430). -/
def withCrc (bs : List Byte) : List Byte :=
  let b := (bs ++ List.replicate 252 0xFF#8).take 252
  b ++ leBytes 4 (crc32c b)

/-- The CRC of a stored page holds. -/
def crcOk (bs : List Byte) : Bool := leNat (sliceOf bs 252 4) == crc32c (bs.take 252)

/-- A page of the archive as stored. -/
def archBytes (d : Dev) (sector page : Nat) : List Byte := flashBytes d (archAddr sector page) 256

/-- Bytes 8 to 11 of a sector header whose magic and CRC hold: its erase count; 0 for any other. -/
def sectErases (d : Dev) (s : Nat) : Nat :=
  let h := archBytes d s 0
  if leNat (h.take 4) == 0x48435241 && crcOk h then leNat (sliceOf h 8 4) else 0

/-- A sector erased and its header written (R432). -/
def sectHeader (s : Nat) (d : Dev) : Dev :=
  let n := sectErases d s + 1
  let q := d.log.sectSeq + 1
  let d1 := { d with flash := ckeep (fun a => decide (a < archAddr s 0) || decide (archAddr s 0 + 65536 ≤ a)) d.flash
                     log := { d.log with sectSeq := q } }
  lifeAdd 11 1 (setFlashBytes (archAddr s 0) (withCrc (leBytes 4 0x48435241 ++ leBytes 4 q ++ leBytes 4 n)) d1)

/-- The page of the head programmed, and the head moved on. -/
def archProgram (bs : List Byte) (d : Dev) : Dev := archNextPage (setFlashBytes (archAddr (archSector d) (archPage d)) bs d)

/-! ### State block and leap pages -/

/-- A timescale value in 12 bytes, as in a record (R16, R18). -/
def timeBytes (t16 : Nat) : List Byte := leBytes 2 t16 ++ leBytes 4 (t16 / 65536 % 1000000000) ++ leBytes 6 (t16 / sec16)

/-- The 202 bytes that a state block holds (R430). -/
def stateBytes (d : Dev) : List Byte :=
  leBytes 4 0x00018001 ++ leBytes 4 d.log.stateSeq ++ timeBytes (now16 d) ++
    ((List.range 16).flatMap (fun i => leBytes 8 (rd64 d (LOG_LIFE_LO i)))) ++ leBytes 4 (rdN d KEY_DLV_CTR) ++
    leBytes 4 (fld d IMG_BOOT_PREF_slot + fld d IMG_LKG_slot * 2 + b2n d.img.lkgValid * 4 + b2n d.img.badA * 8 +
      b2n d.img.badB * 16 + fld d IMG_LKG_TIME_seconds * 65536) ++
    leBytes 1 d.img.attA ++ leBytes 1 d.img.attB ++ leBytes 4 (rdN d BND_TRACE_SEQ) ++ leBytes 4 (rdN d TWN_ALIGN_SEQ) ++
    leBytes 4 (rdN d LOG_WR_SEQ) ++ leBytes 32 (d.img.layout.getD 0)

/-- A state block written at the head, within its sector. -/
def putState (d : Dev) : Dev :=
  let d1 := { d with log := { d.log with stateSeq := d.log.stateSeq + 1, forced := false, blkSect := some (archSector d) } }
  archProgram (withCrc (stateBytes d1)) (wr64 LOG_CAL_ARCH_LO (taiSec d1 % 2 ^ 48) d1)

/-- The bytes of leap page `p` (R429). -/
def leapPage (d : Dev) (p : Nat) : List Byte :=
  leBytes 2 0x8002 ++ leBytes 1 p ++ leBytes 1 0xFF ++ leBytes 4 d.log.leapVer ++
    (List.range 28).flatMap (fun i => let e := 28 * p + i; if e < 64 then leBytes 8 (leapEntry d e) else List.replicate 8 0xFF#8)

/-- A leap page written at the head, within its sector. -/
def putLeap (p : Nat) (d : Dev) : Dev :=
  archProgram (withCrc (leapPage d p)) { d with log := { d.log with leapSect := d.log.leapSect ++ [archSector d] } }

/-- The head enters its sector (R432): erase and header; a newest state block or current leap pages that the sector held are
written again. `ok` false: three erases did not give a header, and the sector is skipped. -/
def enterSector (ok : Bool) (d : Dev) : Dev :=
  let s := archSector d
  if !ok then
    let d1 := archFail s 0 { d with log := { d.log with badSect := d.log.badSect ++ [s] } }
    lifeAdd 11 3 (setF LOG_ARCH_HEAD_sector (nextSector d1.log.badSect 64 (s + 1)) d1)
  else
    let blk := decide (d.log.blkSect = some s)
    let leap := d.log.leapSect.contains s
    let d1 := setF LOG_ARCH_HEAD_page 1 (sectHeader s d)
    let d2 := doIf blk putState d1
    doIf leap (fun x => forEach (List.range 3) putLeap { x with log := { x.log with leapSect := [] } }) d2

/-- The head lies inside a sector. -/
def archReady (d : Dev) : Dev := doIf (archPage d == 0) (enterSector true) d

/-- A program that fails its read-back marks its page as used (R432): the page goes to the next. -/
def archTry (ok : Bool) (d : Dev) : Dev :=
  let d1 := archReady d
  if ok then d1 else archReady (archNextPage (archFail (archSector d1) (archPage d1) d1))

/-- The leap pages that accepted entries wait for (R431). -/
def leapWrite (d : Dev) : Dev :=
  if d.log.leapDirty then
    forEach (List.range 3) (fun p x => putLeap p (archReady x)) { d with log := { d.log with leapDirty := false, leapSect := [] } }
  else d

/-- Archive writes happen only while PD_CTL is on (R431). -/
def archOn (d : Dev) : Bool := domOn d .ctl

/-- A state block at the head (R430, R431). -/
def stateBlock (ok : Bool) (d : Dev) : Dev := doIf (archOn d) (fun x => putState (archTry ok (leapWrite x))) d

/-- The periodic state block (R431): LOG_ARCH_PERIOD seconds after the one before. -/
def periodBlock (ok : Bool) (d : Dev) : Dev :=
  doIf (archOn d && decide (d.log.periodAt + atLeast1 (rdN d LOG_ARCH_PERIOD) * 32768 ≤ d.lpc.ck))
    (fun x => stateBlock ok { x with log := { x.log with periodAt := x.lpc.ck } }) d

/-- STATE_BLOCK_PERIOD (R431). -/
def execStateBlockPeriod (ok : Bool) (s : State) : Host.Outcome State Fault Refusal := s.upd (periodBlock ok)

/-- STATE_NOW (R431). -/
def execStateNow (r : Req) (ok : Bool) (s : State) : Host.Outcome State Fault Refusal :=
  s.upd (guardWrite r LOG_ARCH_CMD (stateBlock ok))

/-- A forced state block (R431): a change waits for it, and the last one was not written within a second. -/
def forcedBlock (ok : Bool) (d : Dev) : Dev :=
  let due' := match d.log.forcedAt with
    | some t => decide (t + 32768 ≤ d.lpc.ck)
    | none => true
  doIf (archOn d && d.log.forced && due') (fun x => stateBlock ok { x with log := { x.log with forcedAt := some x.lpc.ck } }) d

/-- FORCED_STATE_BLOCK (R431). -/
def execForcedStateBlock (ok : Bool) (s : State) : Host.Outcome State Fault Refusal := s.upd (forcedBlock ok)

/-- ARCHIVE_SECTOR_ERASE (R432). -/
def execArchiveSectorErase (ok : Bool) (s : State) : Host.Outcome State Fault Refusal :=
  s.upd (fun d => doIf (archOn d && archPage d == 0) (enterSector ok) d)

/-! ### Recorder pages -/

/-- The eight words of the record with sequence `n`. -/
def recStored (d : Dev) (n : Nat) : List Word := (List.range 8).map (fun w => ramWord d (recBase + 32 * (n % 8192) + 4 * w))

/-- The stored record is a priority record (R424). -/
def storedPriority (ws : List Word) : Bool :=
  let w := ws.getD 0 0
  isPriority { code := bitsOf w 0 16, cls := bitsOf w 22 2, sev := 0, inj := false, merged := false, supp := false, t16 := 0, p0 := 0
               p1 := 0, p2 := 0 }

/-- The time of a stored record (R16). -/
def storedTime (ws : List Word) : Nat :=
  let ts := (ws.getD 1 0).toNat + 2 ^ 32 * (ws.getD 2 0).toNat + 2 ^ 64 * (ws.getD 3 0).toNat
  ts % 65536 + (ts / 2 ^ 16 % 2 ^ 32) * 65536 + ts / 2 ^ 48 * sec16

/-- The sequence numbers of the next recorder page: from the first not archived, or the oldest that is still held. -/
def pageSeqs (d : Dev) : List Nat :=
  let a := if 0 < seqDiff (logOldest d) d.log.archNext then logOldest d else d.log.archNext
  (List.range (min 8 (seqDiff (rdN d LOG_WR_SEQ) a).toNat)).map (fun i => (a + i) % 2 ^ 32)

/-- A stored record has bad parity: event 0x1805, and it is not archived (R428). -/
def recBad (d : Dev) (n : Nat) : Bool := (List.range 8).any (fun w => ramBad d (recBase + 32 * (n % 8192) + 4 * w))

/-- A page of records at the head; the slots that it leaves unused are 0xFF. -/
def putRecords (ok : Bool) (ns : List Nat) (d : Dev) : Dev :=
  if ns.isEmpty then d
  else
    let bs := ns.flatMap (fun n => (recStored d n).flatMap (fun w => leBytes 4 w.toNat))
    archProgram ((bs ++ List.replicate 256 0xFF#8).take 256) (archTry ok d)

/-- Records skipped for want of budget (R431). -/
def archSkip (n : Nat) (d : Dev) : Dev :=
  let d1 := setF LOG_STATUS_budget_empty 1 (satAdd ⟨LOG_ARCH_SKIP, 0, 32⟩ n d)
  let due' := match d.log.budgetAt with
    | some t => elapsed t (3600 * sec16) d
    | none => true
  doIf due' (fun x => raise 0x1804 (rdN x LOG_ARCH_SKIP) { x with log := { x.log with budgetAt := some (now16 x) } }) d1

/-- The page in progress programmed (R431): in sequence order, within the budget. -/
def recordPage (ok : Bool) (d : Dev) : Dev :=
  let ns := pageSeqs d
  if ns.isEmpty then d
  else
    let good := ns.filter (fun n => !(recBad d n))
    let d1 := forEach (ns.filter (recBad d)) (fun n x =>
      reportUnit 0x3C 0x01 .corrected 0x1805 (n % 8192) (raise 0x1805 (n % 8192) x)) d
    let prio := good.filter (fun n => storedPriority (recStored d n))
    let last := ns.getLastD 0
    let d2 := wrN LOG_ARCH_SEQ last { d1 with log := { d1.log with archNext := (last + 1) % 2 ^ 32 } }
    if good.length = prio.length then putRecords ok good d2
    else if 3600 ≤ d2.log.budget then
      putRecords ok good (setF LOG_STATUS_budget_empty 0 { d2 with log := { d2.log with budget := d2.log.budget - 3600 } })
    else putRecords ok prio (archSkip (good.length - prio.length) d2)

/-- The page is full, or its oldest record is LOG_ARCH_FLUSH seconds old (R431). -/
def pageDue (d : Dev) : Bool :=
  match pageSeqs d with
  | [] => false
  | n :: ns => ns.length == 7 ||
      decide (storedTime (recStored d n) + atLeast1 (fld d LOG_ARCH_FLUSH_s) * sec16 ≤ now16 d)

/-- RECORDER_PAGE_PROGRAM (R431). -/
def execRecorderPageProgram (ok : Bool) (s : State) : Host.Outcome State Fault Refusal :=
  s.upd (fun d => doIf (archOn d && pageDue d) (fun x => recordPage ok (leapWrite x)) d)

/-- LOG_ARCH_CMD.flush. -/
def archiveFlushF (ok : Bool) (d : Dev) : Dev := doIf (archOn d) (fun x => recordPage ok (leapWrite x)) d

/-- ARCHIVE_FLUSH (R431). -/
def execArchiveFlush (r : Req) (ok : Bool) (s : State) : Host.Outcome State Fault Refusal :=
  s.upd (guardWrite r LOG_ARCH_CMD (archiveFlushF ok))

/-! ### Restore -/

/-- Sector and page of every archive page whose first byte is stored. -/
def archStored (d : Dev) : List (Nat × Nat) :=
  (d.flash.filter (fun c => decide (0x01000000 ≤ c.1) && decide (c.1 < 0x01400000) && c.1 % 256 == 0)).map
    (fun c => ((c.1 - 0x01000000) / 65536, c.1 / 256 % 256))

/-- The stored pages of a kind whose CRC holds, as bytes with their sector. -/
def archOf (d : Dev) (kind : Nat) : List (Nat × List Byte) :=
  ((archStored d).filter (fun p => p.2 != 0)).filterMap (fun p =>
    let b := archBytes d p.1 p.2
    if leNat (b.take 2) = kind ∧ crcOk b then some (p.1, b) else none)

/-- The element with the largest 32-bit number at byte 4. -/
def newestOf (l : List (Nat × List Byte)) : Option (Nat × List Byte) :=
  l.foldl (fun (m : Option (Nat × List Byte)) x =>
    match m with
    | none => some x
    | some y => if leNat (sliceOf y.2 4 4) < leNat (sliceOf x.2 4 4) then some x else m) none

/-- Head and sequence of the sectors (R433): the sector with the highest sequence, after its last page that is written. -/
def restoreHead (d : Dev) : Dev :=
  let hs := ((archStored d).filter (fun p => p.2 == 0)).filterMap (fun p =>
    let h := archBytes d p.1 0
    if leNat (h.take 4) = 0x48435241 ∧ crcOk h then some (p.1, h) else none)
  match newestOf hs with
  | none => setF LOG_ARCH_HEAD_page 0 (setF LOG_ARCH_HEAD_sector 0 d)
  | some (s, h) =>
    let used := ((archStored d).filter (fun p => p.1 == s)).foldl (fun m p => max m p.2) 0
    let d1 := { d with log := { d.log with sectSeq := leNat (sliceOf h 4 4) } }
    archNextPage (setF LOG_ARCH_HEAD_page used (setF LOG_ARCH_HEAD_sector s d1))

/-- A timescale value of 12 stored bytes. -/
def timeOf (b : List Byte) : Nat := leNat (b.take 2) + leNat (sliceOf b 2 4) * 65536 + leNat (sliceOf b 6 6) * sec16

/-- The values of a state block restored (R430, R433). -/
def restoreBlock (sector : Nat) (b : List Byte) (d : Dev) : Dev :=
  let n := fun (i k : Nat) => leNat (sliceOf b i k)
  let d1 := forEach (List.range 16) (fun i x => wr64 (LOG_LIFE_LO i) (n (20 + 8 * i) 8 + rd64 x (LOG_LIFE_LO i)) x) d
  let d2 := wrN KEY_DLV_CTR (n 148 4) (setF IMG_BOOT_PREF_slot (n 152 1) (setF IMG_LKG_slot (n 152 1 / 2)
    (setF IMG_LKG_TIME_seconds (n 154 2) d1)))
  let seq := (n 166 4 + 8192) % 2 ^ 32
  let lay := n 170 32
  let d3 := wrN BND_TRACE_SEQ (n 158 4) (wrN TWN_ALIGN_SEQ (n 162 4) (wrN LOG_WR_SEQ seq d2))
  wr64 LOG_CAL_ARCH_LO (n 14 6)
    { d3 with
      img := { d3.img with lkgValid := n 152 1 / 4 % 2 == 1, badA := n 152 1 / 8 % 2 == 1, badB := n 152 1 / 16 % 2 == 1
                           attA := n 156 1, attB := n 157 1, layout := if lay = 0 then none else some lay }
      lpc := { d3.lpc with val := timeOf (sliceOf b 8 12) * 2 ^ 16 }
      log := { d3.log with stateSeq := n 4 4, firstSeq := seq, archNext := seq, blkSect := some sector } }

/-- The newest valid leap pages restored (R433). -/
def restoreLeap (d : Dev) : Dev :=
  match newestOf (archOf d 0x8002) with
  | none => d
  | some (_, b) =>
    let v := leNat (sliceOf b 4 4)
    let ps := (archOf d 0x8002).filter (fun x => leNat (sliceOf x.2 4 4) == v)
    let d1 := forEach ps (fun x y =>
      let p := leNat (sliceOf x.2 2 1)
      forEach (List.range 28) (fun i z =>
        let e := 28 * p + i
        if e < 64 then wr64 (bank LOG_LEAP_LO e) (leNat (sliceOf x.2 (8 + 8 * i) 8)) z else z) y) d
    setF LOG_LEAP_COUNT_entries ((List.range 64).filter (fun i => leapEntry d1 i != 0)).length
      { d1 with log := { d1.log with leapVer := v, leapSect := ps.map (fun x => x.1) } }

/-- The restore of Boot after Off (R433). -/
def restoreArchive (d : Dev) : Dev :=
  let d1 := restoreLeap (restoreHead { d with log := { d.log with badSect := [] } })
  match newestOf (archOf d1 0x8001) with
  | none => raise 0x1802 1 (setF LOG_STATUS_arch_blank 1 d1)
  | some (s, b) => raise 0x1802 2 (setF LOG_STATUS_gap 1 (setF LOG_STATUS_restored 1 (restoreBlock s b d1)))

end Sys2Proof.Machine
end

