-- ==== Sys2Proof/Machine/Tb.lean ====
section
/-! DEFINITION. The meanings of the TB commands of spec/04_timebase.md, but for EPOCH_1MS (Epoch.lean). -/

namespace Sys2Proof.Machine

open Sys2Proof

/-- TB runs and the instant of its next epoch, `t`, has been reached (R90). -/
def epochDue (d : Dev) (t : Nat) : Bool := domOn d .tb && flag d TB_STATUS_seeded && decide (t ≤ now16 d)

/-- The end of the odd channel's self-test (R105): on a pass it is loaded and rejoins, unless its repairs since the last whole
second exceed the limit; on a fail it is fenced. -/
def channelSelftestDoneF (pass : Bool) (d : Dev) : Dev :=
  match d.tb.odd with
  | none => d
  | some i =>
    if !pass then fenceChan i false d
    else
      let lim := fld d TB_VOTE_CTL_repair_limit
      let d1 := loadChan i d
      if lim ≠ 0 ∧ lim < cget (fun _ => 0) d.tb.reps i then fenceChan i true d1
      else settleVoter { d1 with tb := { d1.tb with odd := none } }

/-- CHANNEL_SELFTEST_DONE (R105). -/
def execChannelSelftestDone (pass : Bool) (s : State) : Host.Outcome State Fault Refusal := s.upd (live (channelSelftestDoneF pass))

/-- TB_CMD.step: TB_STEP armed (R95). -/
def tbStepF (d : Dev) : Dev := armStep (rdS64 d TB_STEP_LO) d

/-- TB_STEP (R95). -/
def execTbStep (r : Req) (s : State) : Host.Outcome State Fault Refusal := s.upd (guardWrite r TB_CMD tbStepF)

/-- TB_SET (R96). -/
def execTbSet (r : Req) (s : State) : Host.Outcome State Fault Refusal := s.upd (guardWrite r TB_CMD armSet)

/-- TB_CMD.slew: the amount waits for the next boundary (R99). -/
def tbSlewF (d : Dev) : Dev :=
  { d with tb := { d.tb with slewAdd := some (d.tb.slewAdd.getD 0 + rdS64 d TB_SLEW_AMT_LO) } }

/-- TB_SLEW (R99). -/
def execTbSlew (r : Req) (s : State) : Host.Outcome State Fault Refusal := s.upd (guardWrite r TB_CMD tbSlewF)

/-- TB_CANCEL (R97). -/
def execTbCancel (r : Req) (s : State) : Host.Outcome State Fault Refusal := s.upd (guardWrite r TB_CMD cancelTb)

/-- TB_CMD.readmit: the self-test of a fenced channel starts, or cause 0x09 at once (R106). -/
def tbReadmitF (i : Nat) (d : Dev) : Dev :=
  if decide (2 < i) || !(chanFenced d i) || d.tb.readmit.isSome then tbResult 0x09 4 d
  else modUnit i (fun x => { x with state := 3, byBlock := true }) { d with tb := { d.tb with readmit := some i } }

/-- TB_READMIT (R106). -/
def execTbReadmit (r : Req) (ch : BitVec 2) (s : State) : Host.Outcome State Fault Refusal :=
  s.upd (guardWrite r TB_CMD (tbReadmitF ch.toNat))

/-- The end of a readmission test (R106, R415): on a pass the channel is loaded and rejoins with events 0x200E and 0x1004; on a
fail it stays fenced with cause 0x09 (0x02 in FLT_RESULT where FLT_CMD.readmit asked). -/
def tbReadmitDoneF (pass : Bool) (d : Dev) : Dev :=
  match d.tb.readmit with
  | none => d
  | some i =>
    let byTb := (funit d i).byBlock
    let d1 := { d with tb := { d.tb with readmit := none } }
    let d2 := if byTb then tbResult (if pass then 0x00 else 0x09) 4 d1 else setF FLT_RESULT_cause (if pass then 0 else 2) d1
    if pass then admitUnit i (raise 0x200E i (settleVoter (setF ⟨TB_STATUS, 4 + i, 1⟩ 0 (loadChan i d2))))
    else modUnit i (fun x => { x with state := 2, byBlock := false }) d2

/-- TB_READMIT_DONE (R106). -/
def execTbReadmitDone (pass : Bool) (s : State) : Host.Outcome State Fault Refusal := s.upd (live (tbReadmitDoneF pass))

/-- TB_STEP_WAIT milliseconds since the command without a quiet boundary (R93): refused with cause 0x03. The time is measured
on the timescale. -/
def stepWaitExpiryF (d : Dev) : Dev :=
  let wait := atLeast1 (fld d TB_STEP_WAIT_ms) * 1000000 * 65536
  if stepPending d && due (d.tb.armedAt + wait) (near d) then
    refStepRefused (tbRefuse 0x03 (pendCmd d) (dropPending d))
  else d

/-- STEP_WAIT_EXPIRY (R93). -/
def execStepWaitExpiry (s : State) : Host.Outcome State Fault Refusal := s.upd (live stepWaitExpiryF)

/-- The group whose slew term brings the remainder to 0 ends (R99): the next group starts, slew_active clears, event 0x2007. -/
def slewCompleteF (d : Dev) : Dev :=
  if flag d TB_STATUS_slew_active && d.tb.slewEnding then groupMarks (mapChans endGroup d) else d

/-- SLEW_COMPLETE (R99). -/
def execSlewComplete (s : State) : Host.Outcome State Fault Refusal := s.upd (live slewCompleteF)

/-- A read of TB_NOW_FRAC, or of TB_NEAR_LO, latches the registers of one tick for its requester (R77) and returns its own. -/
def timeLatchF (r : Req) (viaNear : Bool) (d : Dev) : Dev :=
  let ws := timeWords d
  let a := if viaNear then TB_NEAR_LO else TB_NOW_FRAC
  let d1 := forEach ws (fun w x => setLatch w.1 r (BitVec.ofNat 32 w.2) x) d
  { d1 with resp := [latched d1 a r] }

/-- TIME_LATCH_READ (R77): a read that does not reach the device has no effect; with PD_TB off it reads 0 and is counted
(R78). -/
def execTimeLatchRead (r : Req) (viaNear : Bool) (s : State) : Host.Outcome State Fault Refusal :=
  s.upd (fun d =>
    if !(reaches d r) then d
    else if !(domOn d .tb) then { offAccess r TB_NOW_FRAC d with resp := [0#32] }
    else timeLatchF r viaNear d)

/-- TB_ALARM_FIRE (R101): an enabled alarm whose target is due fires. -/
def execTbAlarmFire (n : Fin 8) (s : State) : Host.Outcome State Fault Refusal :=
  s.upd (fun d => doIf (domOn d .tb && alarmDue d n.val) (fireAlarm false n.val) d)

/-- The nearest non-empty entry before entry `i` (R111). -/
def leapBefore (d : Dev) (i : Nat) : Option Nat :=
  ((List.range i).map (leapEntry d)).foldl (fun b e => if e = 0 then b else some e) none

/-- The device accepts an entry at index `i` (R111). -/
def leapOk (d : Dev) (i e : Nat) : Bool :=
  match leapBefore d i with
  | none => true
  | some p => decide (leapE p < leapE e) && (leapOff e == leapOff p + 1 || leapOff e == leapOff p - 1)

/-- The number of non-empty entries. -/
def leapCount (d : Dev) : Nat := ((List.range 64).filter (fun i => leapEntry d i != 0)).length

/-- A write of LOG_LEAP_HI submits the entry at LOG_LEAP_SEL (R111): accepted and stored with event 0x2009, or refused with
event 0x200A. An accepted entry's leap pages go to the archive (R431). -/
def leapSubmitF (r : Req) (hi : Word) (d : Dev) : Dev :=
  let i := fld d LOG_LEAP_SEL_index
  let a := bank LOG_LEAP_LO i
  let e := ((heldLow d a r).getD (rd d a)).toNat + 2 ^ 32 * hi.toNat
  let d0 := setHeld a r none d
  if leapOk d i e then
    let d1 := wr64 a e d0
    let d2 := setF LOG_LEAP_COUNT_entries (leapCount d1)
      { d1 with log := { d1.log with leapVer := d1.log.leapVer + 1, leapDirty := true }, tb := { d1.tb with leapSec := taiSec d } }
    refreshLeap (raise 0x2009 i d2)
  else raise 0x200A i d0

/-- LEAP_ENTRY_SUBMIT (R111). -/
def execLeapEntrySubmit (r : Req) (hi : Word) (s : State) : Host.Outcome State Fault Refusal :=
  s.upd (guardWrite r LOG_LEAP_HI (leapSubmitF r hi))

/-- At the whole TAI second where a new offset takes effect, the offset in force changes with event 0x200B (R112). An entry whose second
has passed takes effect at the next whole second after its acceptance (R111). -/
def utcOffsetChangeF (d : Dev) : Dev :=
  let off := leapAt d (taiSec d)
  if domOn d .tb && decide (d.tb.leapSec ≠ taiSec d) && decide (off ≠ sx 16 (fld d TB_UTC_OFFSET_offset)) then
    raise 0x200B (wrapN 32 off) (refreshLeap (setF TB_UTC_OFFSET_offset (wrapN 16 off) d))
  else d

/-- UTC_OFFSET_CHANGE (R112). -/
def execUtcOffsetChange (s : State) : Host.Outcome State Fault Refusal := s.upd utcOffsetChangeF

/-- The UTC calendar reaches its last second: event 0x200D once (R114). -/
def calendarLimitF (d : Dev) : Dev :=
  let u := (taiSec d : Int) - sx 16 (fld d TB_UTC_OFFSET_offset)
  if domOn d .tb && decide (calLimit ≤ u) && !d.tb.calDone then
    raise 0x200D 0 { d with tb := { d.tb with calDone := true } }
  else d

/-- CALENDAR_LIMIT (R114). -/
def execCalendarLimit (s : State) : Host.Outcome State Fault Refusal := s.upd calendarLimitF

end Sys2Proof.Machine
end

