-- ==== Sys2Proof/Machine/EvqOps.lean ====
section
/-! DEFINITION. EVQ: the routing of a source (R399), rings and their records (R15, R393), notification (R396, R397). -/

namespace Sys2Proof.Machine

open Sys2Proof

/-! ### Cores -/

/-- Core `c`. -/
def core (d : Dev) (c : Nat) : Core := cget (fun _ => coreReset) d.ctl.cores c

/-- `d` with a core changed by `f`. -/
def modCore (c : Nat) (f : Core → Core) (d : Dev) : Dev :=
  { d with ctl := { d.ctl with cores := cput (fun _ => coreReset) d.ctl.cores c (f (core d c)) } }

/-- CTL_CORE_STATE of core `c`. -/
def coreState (d : Dev) (c : Nat) : Nat := fld d (CTL_CORE_STATE_state c)

/-- A state of a core in which its target is unavailable (R399): Halted or Fenced. -/
def coreDown (st : Nat) : Bool := st == 1 || st == 4

/-- A core in a new state (R368): CTL_STATUS follows, and event 0x7001 is raised. Its target is unavailable from now on or goes on being
so, and a core that enters Running ends its re-routing (R399). -/
def setCore (c st : Nat) (d : Dev) : Dev :=
  let was := coreState d c
  let d1 := doIf (coreDown st && !(coreDown was)) (modCore c (fun x => { x with downAt := now16 d })) d
  let d2 := doIf (st == 2) (setF ⟨EVQ_STATUS, 15 + c, 1⟩ 0) d1
  if was = st then d
  else
    raise 0x7001 (c + st * 16)
      (setB ⟨CTL_STATUS, c, 1⟩ (st == 2 || st == 3) (setB ⟨CTL_STATUS, 4 + c, 1⟩ (st == 4) (setF (CTL_CORE_STATE_state c) st d2)))

/-- The lockstep pair is formed (R372). -/
def lockstepOn (d : Dev) : Bool := flag d CTL_LS_CTL_en

/-- The cores that act with core `c`: the pair under lockstep. -/
def coreGroup (d : Dev) (c : Nat) : List Nat := if lockstepOn d && (c == 2 || c == 3) then [2, 3] else [c]

/-! ### Routing and rings -/

/-- The target code of a source (EVQ_SRC_TGT, R388). -/
def srcTarget (d : Dev) (src : Nat) : Nat := bitsOf (rd d (EVQ_SRC_TGT (src / 8))) (4 * (src % 8)) 3

/-- `d` with the target of a source set. -/
def setSrcTarget (src t : Nat) (d : Dev) : Dev := setF ⟨EVQ_SRC_TGT (src / 8), 4 * (src % 8), 3⟩ t d

/-- The mask bit of a source. -/
def srcMasked (d : Dev) (src : Nat) : Bool := bitsOf (rd d (EVQ_MASK (src / 32))) (src % 32) 1 == 1

/-- A record of the source lies unread in a ring (R392). -/
def srcActive (d : Dev) (src : Nat) : Bool := d.evq.active.any (fun x => x.src == src)

/-- The ring that takes the records of a source (R399): under lockstep TGT_CORE3 goes to TGT_CORE2; a re-routed core's records
go to TGT_PF0. -/
def routeOf (d : Dev) (src : Nat) : Nat :=
  let t0 := srcTarget d src
  let t := if t0 = 6 ∧ flag d CTL_LS_CTL_en then 5 else t0
  if decide (3 ≤ t) && decide (t ≤ 6) && (bitsOf (rd d EVQ_STATUS) (15 + (t - 3)) 1 == 1) then 0 else t

/-- The source's own target is a re-routed core (R399). -/
def isRerouted (d : Dev) (src : Nat) : Bool := decide (3 ≤ srcTarget d src) && (routeOf d src == 0)

/-- Unread records of ring `t` (R393). -/
def unread (d : Dev) (t : Nat) : Nat := (fld d (EVQ_TGT_WR_index t) + 2048 - fld d (EVQ_TGT_RD_index t)) % 2048

/-- The physical address of record position `pos` of ring `t` (R366, R393). -/
def ringAddr (t pos : Nat) : Nat := 0x40380000 + t * 0x4000 + pos * 16

/-- The four words of an event-queue record (R15). -/
def evqWords (src code param near : Nat) : List Word :=
  [BitVec.ofNat 32 (src + code * 2 ^ 16), BitVec.ofNat 32 near, BitVec.ofNat 32 (near / 2 ^ 32), BitVec.ofNat 32 param]

/-- The moderation timer of a target starts (R396); one that runs starts anew (log entry 155). -/
def startTimer (t : Nat) (d : Dev) : Dev :=
  { d with evq := { d.evq with timers := d.evq.timers.filter (fun x => x.1 != t) ++ [(t, now16 d + fld d (EVQ_TGT_CTL_mod t) * 65536000)] } }

/-- A core in Sleep whose ring takes a record wakes (R396, R368); the lockstep pair wakes as one (R372). -/
def wakeCore (t : Nat) (d : Dev) : Dev :=
  doIf (decide (3 ≤ t) && (coreState d (t - 3) == 3)) (fun x => forEach (coreGroup x (t - 3)) (fun k y => setCore k 2 y) x) d

/-- A record written at the write index of ring `t` (R391, R393, R396): an empty ring starts the target's timer. -/
def ringWrite (t src code param near : Nat) (d : Dev) : Dev :=
  let w := fld d (EVQ_TGT_WR_index t)
  let empty := unread d t == 0
  pmcAdd 0x0501 1 (wakeCore t (doIf empty (startTimer t)
    (setF (EVQ_TGT_WR_index t) (w + 1) (setRamWords (ringAddr t (w % 1024)) (evqWords src code param near) d))))

/-- The pending event of a source removed from EVQ and from the latch of PD_AON. -/
def dropPend (src : Nat) (d : Dev) : Dev :=
  { d with evq := { d.evq with pend := d.evq.pend.filter (fun x => x.src != src),
                               pendAon := d.evq.pendAon.filter (fun x => x.src != src) } }

/-- The source is ready but for the room in its ring (R391). -/
def srcReady (d : Dev) (src : Nat) : Bool := !(srcMasked d src) && !(srcActive d src) && srcTarget d src != 7

/-- Ring `t` holds an overflow record (R398). -/
def hasOver (d : Dev) (t : Nat) : Bool := d.evq.overs.any (fun x => x.1 == t)

/-- The overflow record of ring `t` (R398), written to the ring and to the recorder. -/
def writeOver (t : Nat) (d : Dev) : Dev :=
  let st := fld d (EVQ_TGT_CTL_stall t)
  let idx := fld d (EVQ_TGT_WR_index t)
  let d1 := ringWrite t 0x281 0x1401 st (near d) d
  note (evRec 0x1401 st 0 0 (now16 d)) { d1 with evq := { d1.evq with overs := d1.evq.overs ++ [(t, idx)] } }

/-- One ready source's event delivered to ring `t`, or handled by the overflow rule (R391, R398). -/
def deliver (t : Nat) (e : EvPend) (d : Dev) : Dev :=
  let n := unread d t
  if n < 1023 then
    let idx := fld d (EVQ_TGT_WR_index t)
    let d1 := dropPend e.src (ringWrite t e.src e.code e.param e.near d)
    let d2 := { d1 with evq := { d1.evq with active := d1.evq.active ++ [{ src := e.src, ring := t, idx := idx }] } }
    doIf (isRerouted d e.src) (satAdd (EVQ_TGT_STATUS_rerouted 0) 1) d2
  else
    let d1 := if n = 1023 ∧ !(hasOver d t) then writeOver t d else d
    if fld d (EVQ_TGT_CTL_stall t) = 1 then satAdd (EVQ_TGT_STATUS_dropped t) 1 (dropPend e.src d1) else d1

/-- Delivery runs: PD_CTL is on, EVQ_HOLD.hold is 0 and unit 0x3D is in service (R400, R405). -/
def deliveryOn (d : Dev) : Bool := domOn d .ctl && !(flag d EVQ_HOLD_hold) && !(unitOut d 0x3D)

/-- The read index of ring `t` moved to `new` (R392, R394): every record passed is completed. -/
def moveRead (t new : Nat) (d : Dev) : Dev :=
  let old := fld d (EVQ_TGT_RD_index t)
  let delta := (new + 2048 - old) % 2048
  let passed := fun (i : Nat) => decide ((i + 2048 - old) % 2048 < delta)
  let posPassed := fun (p : Nat) => decide ((p + 2048 - old) % 1024 < delta)
  let d1 := setF (EVQ_TGT_RD_index t) new
    { d with evq := { d.evq with active := d.evq.active.filter (fun x => !(x.ring == t && passed x.idx)),
                                 overs := d.evq.overs.filter (fun x => !(x.1 == t && passed x.2)),
                                 failed := d.evq.failed.filter (fun x => !(x.1 == t && posPassed x.2)) } }
  if unread d1 t = 0 then
    { d1 with evq := { d1.evq with notified := d1.evq.notified.filter (fun x => x != t) } }
  else startTimer t d1

/-- The function whose vector a target uses. -/
def pcieFn (d : Dev) (i : Nat) : PcieFn := if i = 0 then d.hif.f0 else d.hif.f1

/-- `d` with a PCIe function replaced. -/
def setPcieFn (i : Nat) (x : PcieFn) (d : Dev) : Dev :=
  { d with hif := if i = 0 then { d.hif with f0 := x } else { d.hif with f1 := x } }

/-- The function is in D0 (HIF_STATUS). -/
def fnD0 (d : Dev) (i : Nat) : Bool := fld d (if i = 0 then HIF_STATUS_pf0_d else HIF_STATUS_pf1_d) == 0

/-- A message of the function may be sent (R67, R69, R397). -/
def fnMaySend (d : Dev) (i : Nat) : Bool :=
  let f := pcieFn d i
  fnD0 d i && f.msixEn && !f.fmask && !f.vmask && f.bme && !(flag d HIF_STATUS_perst) && flag d HIF_STATUS_link_up &&
    !(unitOut d 0x3E)

/-- A notification of PF `i` (R67, R397): the message is sent, or held in the PBA. -/
def notifyPf (i : Nat) (d : Dev) : Dev :=
  let f := pcieFn d i
  if fnMaySend d i then setPcieFn i { f with sent := f.sent + 1, pba := false } d else setPcieFn i { f with pba := true } d

/-- WAKE_N is driven for a function (R397): in D3 with PME_En set and a message held. -/
def fnWakes (d : Dev) (i : Nat) : Bool := !(fnD0 d i) && (pcieFn d i).pmeEn && (pcieFn d i).pba

/-- WAKE_N is low (R397, R464). -/
def wakeNLow (d : Dev) : Bool := fnWakes d 0 || fnWakes d 1 || d.hif.wakeHost

/-- HOST_INT_N is low (R74, R396, R402). -/
def hostIntLow (d : Dev) : Bool := domOn d .ctl && d.evq.notified.contains 2 && unread d 2 != 0

/-- A target is notified (R396). -/
def notifyTarget (t : Nat) (d : Dev) : Dev :=
  if t < 2 then notifyPf t d
  else if d.evq.notified.contains t then d
  else { d with evq := { d.evq with notified := d.evq.notified ++ [t] } }

/-- A parity error found in a ring record (R401): counted and event 0x1403, once per record. -/
def ringParity (t pos : Nat) (d : Dev) : Dev :=
  if d.evq.failed.contains (t, pos) then d
  else
    reportUnit 0x3D 0x01 .corrected 0x1403 t (raise 0x1403 t (satAdd (EVQ_TGT_STATUS_parity t) 1
      { d with evq := { d.evq with failed := d.evq.failed ++ [(t, pos)] } }))

/-- The ring and position of the record at a physical address (R393). -/
def ringAt (a : Nat) : Option (Nat × Nat) :=
  if 0x40380000 ≤ a ∧ a < 0x4039C000 then some ((a - 0x40380000) / 0x4000, (a - 0x40380000) % 0x4000 / 16) else none

/-- The record at a physical address is marked failed (R401). -/
def ringFailed (d : Dev) (a : Nat) : Bool :=
  match ringAt a with
  | some x => d.evq.failed.contains x
  | none => false

/-- A record of the ring has bad parity, or was found so before. -/
def ringBad (d : Dev) (t pos : Nat) : Bool :=
  let a := ringAddr t pos
  ramBad d a || ramBad d (a + 4) || ramBad d (a + 8) || ramBad d (a + 12)

/-- The words that a window read of a record returns (R394, R401). -/
def ringRead (d : Dev) (t pos : Nat) : List Word :=
  if ringBad d t pos || d.evq.failed.contains (t, pos) then [0, 0, 0, 0]
  else (List.range 4).map (fun w => ramWord d (ringAddr t pos + 4 * w))

end Sys2Proof.Machine
end

