-- ==== Sys2Proof/Machine/FltRec.lean ====
section
/-! DEFINITION. The end of a handling: its record 0x1001 (R417), the counts of R411 and R421, and its action (R410). What a
fence takes out of a block is in Fence.lean. -/

namespace Sys2Proof.Machine

open Sys2Proof

/-- The record of a handling (R417): final class, self-test outcome 0 to 4, escalated. -/
def handlingRec (x : FSlot) (fin test : Nat) (esc collector : Bool) (t : Nat) : LRec :=
  { code := 0x1001, cls := fin, sev := clsSev fin, inj := x.inj, merged := decide (0 < x.merges), supp := false, t16 := t
    p0 := x.ev % 65536 + x.cause % 256 * 2 ^ 16 + x.unit % 64 * 2 ^ 24 + b2n collector * 2 ^ 30
    p1 := x.merges % 65536 + x.lastMerged % 256 * 2 ^ 16 + test % 8 * 2 ^ 24 + b2n x.polled * 2 ^ 27 + b2n esc * 2 ^ 28
    p2 := x.evParam % 2 ^ 32 }

/-- The record and the event 0x1001 of a handling, with the counts by final class (R417, R421, R422). -/
def recordHandling (x : FSlot) (fin test : Nat) (esc : Bool) (d : Dev) : Dev :=
  let d1 := note (handlingRec x fin test esc false (x.seen.getD (now16 d)))
    (setPending 0x201 0x1001 (x.unit % 64 + fin % 4 * 64 + x.cause % 256 * 256) d)
  if fin = 1 then fltCount 0 d1
  else if fin = 2 then setF FLT_STATUS_contained 1 (fltCount 1 d1) else d1

/-- The passes of a unit that lie in the window of FLT_UPSET_WIN seconds (R411). -/
def upsetsIn (d : Dev) (x : FUnit) : List Nat :=
  let w := atLeast1 (fld d FLT_UPSET_WIN_s) * sec16
  x.upsets.filter (fun t => decide (now16 d < t + w))

/-- A passed test counted as an upset of the unit (R411). -/
def countUpset (u : Nat) (d : Dev) : Dev :=
  fltCount 4 (modUnit u (fun x => { x with upsets := upsetsIn d x ++ [now16 d] }) d)

/-- The upset just counted passes the limit of R411. -/
def upsetLimit (d : Dev) (u : Nat) : Bool :=
  let n := fld d FLT_UPSET_LIMIT_n
  decide (0 < n) && decide (n < (upsetsIn d (funit d u)).length)

/-- The next upset of the unit passes the limit of R411. -/
def passOver (d : Dev) (u : Nat) : Bool :=
  let n := fld d FLT_UPSET_LIMIT_n
  decide (0 < n) && decide (n < (upsetsIn d (funit d u)).length + 1)

/-- A report that its block resolves at once by its own test (outcome 4): the record is written, and a pass counts as an upset; a pass
beyond the limit of R411 is treated as a fail. What a fail takes out is the block's. -/
def resolved (u cause : Nat) (cls ev param : Nat) (pass : Bool) (d : Dev) : Dev :=
  let x : FSlot := { idx := 8, unit := u, cls := if cls = 1 then .corrected else .contained, cause := cause, ev := ev
                     evParam := param, inj := false, stFail := false, merges := 0, lastMerged := 0, polled := (funit d u).polled
                     phase := 2, t0 := near d, seen := none }
  let d1 := latchCause u cause false (modUnit u (fun y => { y with live := true, reports := satU 16 (y.reports + 1) }) d)
  let beyond := pass && passOver d1 u
  let ok := pass && !beyond
  let d2 := doIf (!ok) (fltCount 5) (doIf beyond (raise 0x1006 u) (doIf pass (countUpset u) d1))
  railsIdle u (recordHandling x (if ok then cls else 2) 4 (!ok && cls == 1) d2)

end Sys2Proof.Machine
end

