-- ==== Sys2Proof/Machine/KeyOps.lean ====
section
/-! DEFINITION. The operations of KEY (spec/13_keys_crypto.md): credits and engines (R315 to R317), the slots and their states
(R318 to R328), zeroization (R331), deliveries (R321, R322) and fuses (R334, R335). -/

namespace Sys2Proof.Machine

open Sys2Proof

/-- KEY counter `i` increments, saturating: 0 dlv_ok, 1 dlv_refused, 2 rwp_refused, 3 sa_missing, 4 engine_drop,
5 zeroizations, 6 seal_opens, 7 sa_exhausted. -/
def keyCount (i : Nat) (d : Dev) : Dev := satAdd ⟨KEY_CNT i, 0, 32⟩ 1 d

/-- KEY_RESULT written whole: cause, and command 1 KEY_CMD, 2 fuse, 3 debug. -/
def keyResult (cause cmd : Nat) (d : Dev) : Dev := wrN KEY_RESULT (cause + cmd * 256) d

/-! ### Credits and engines -/

/-- The register of a credit term of AES (`sha` false) or SHA-256: 0 free, 1 to 4 pipelines 0 to 3, 5 firmware, 6 fenced
(R316). -/
def crdReg (sha : Bool) (t : Nat) : Nat := (if sha then KEY_CRD_SHA_FREE else KEY_CRD_AES_FREE) + 4 * t

/-- Free credits of a kind; none while PD_CRY is off (R317). -/
def crdFree (d : Dev) (sha : Bool) : Nat := if domOn d .cry then rdN d (crdReg sha 0) else 0

/-- A pipeline may take a credit of a kind: free exceeds the reserve (R316). -/
def crdForPipe (d : Dev) (sha : Bool) : Bool :=
  decide ((if sha then fld d KEY_CRD_RSV_sha else fld d KEY_CRD_RSV_aes) < crdFree d sha)

/-- KEY's own work may take a credit: any that is free (R316). -/
def crdForFw (d : Dev) (sha : Bool) : Bool := decide (0 < crdFree d sha)

/-- `n` credits moved from one term of a kind to another (R316): the sum of the seven terms stays. -/
def crdMove (sha : Bool) (src dst n : Nat) (d : Dev) : Dev :=
  let m := min n (rdN d (crdReg sha src))
  wrN (crdReg sha dst) (rdN d (crdReg sha dst) + m) (wrN (crdReg sha src) (rdN d (crdReg sha src) - m) d)

/-- Credits taken while `k` runs (R316): one of each kind listed goes from free to term `t`, and returns when the jobs are complete. -/
def crdUse (t : Nat) (kinds : List Bool) (k : Dev → Dev) (d : Dev) : Dev :=
  forEach kinds (fun b x => crdMove b t 0 1 x) (k (forEach kinds (fun b x => crdMove b 0 t 1 x) d))

/-- A finished job: its blocks reach the performance counters. The spec does not state how many AES blocks or SHA-256
compressions a job takes, so the count is a free value. -/
def jobDone (sha : Bool) (d : Dev) : Dev := pmcAdd (if sha then 0x1A02 else 0x1A01) (freeVal d) (draw d)

/-- Engine `e` is fenced: 0 to 7 AES, 8 to 23 SHA-256. -/
def engFenced (d : Dev) (e : Nat) : Bool := bitAt (rd d KEY_ENG_FENCED) e

/-- The reporting unit of an engine (R405). -/
def engUnit (e : Nat) : Nat := if e < 8 then 0x28 + e else if e < 16 then 0x30 else 0x31

/-- The engines of a unit. -/
def unitEngines (u : Nat) : List Nat :=
  if 0x28 ≤ u ∧ u < 0x30 then [u - 0x28] else if u = 0x30 then [8, 9, 10, 11, 12, 13, 14, 15]
  else if u = 0x31 then [16, 17, 18, 19, 20, 21, 22, 23] else []

/-- The parameter of event 0x680B: [3:0] engine, [4] SHA-256. -/
def engParam (e : Nat) : Nat := if e < 8 then e else (e - 8) + 16

/-- Credits of an engine (R316). -/
def engCredits (e : Nat) : Nat := if e < 8 then 32 else 4

/-- An engine taken out: its bit is set and its credits move from free to fenced (R317). Jobs are whole within a command, so
none is in flight. -/
def engineOut (e : Nat) (d : Dev) : Dev :=
  if engFenced d e then d
  else
    let d1 := { d with key := { d.key with engOut := e :: d.key.engOut.filter (fun x => x != e) } }
    crdMove (decide (8 ≤ e)) 0 6 (engCredits e) (setF ⟨KEY_ENG_FENCED, e, 1⟩ 1 d1)

/-- An engine back in service: its credits return to free (R317). -/
def engineIn (e : Nat) (d : Dev) : Dev :=
  let d1 := { d with key := { d.key with engOut := d.key.engOut.filter (fun x => x != e) } }
  if engFenced d e then crdMove (decide (8 ≤ e)) 6 0 (engCredits e) (setF ⟨KEY_ENG_FENCED, e, 1⟩ 0 d1) else d1

/-- The engines of a unit in self-test take no job (R405): their credits are with the fenced term. -/
def engineHold (e : Nat) (d : Dev) : Dev :=
  if engFenced d e || d.key.engTest.contains e then d
  else crdMove (decide (8 ≤ e)) 0 6 (engCredits e) { d with key := { d.key with engTest := e :: d.key.engTest } }

/-- The self-test of an engine's unit is over: its credits are free again. -/
def engineFree (e : Nat) (d : Dev) : Dev :=
  if d.key.engTest.contains e then
    crdMove (decide (8 ≤ e)) 6 0 (engCredits e) { d with key := { d.key with engTest := d.key.engTest.filter (fun x => x != e) } }
  else d

/-- An engine fenced by its own known-answer tests (R317): a contained fault with event 0x680B. The fence of a SHA-256 unit
takes the failing engines only (R405). -/
def engineFence (e : Nat) (d : Dev) : Dev :=
  let u := engUnit e
  let d1 := reportUnit u 0x05 .contained 0x680B (engParam e) (raise 0x680B (engParam e) (engineOut e d))
  if (unitEngines u).all (engFenced d1) then fenceUnit u 0x05 d1 else partFence u d1

/-! ### Slots -/

/-- Slots of the layout in force by kind (R318): 0 NTS, 1 association, 2 OSNMA, 3 KEK_V. -/
def keySlots (d : Dev) (kind : Nat) : Nat :=
  match kind with
  | 0 => fld d KEY_LAYOUT_INFO_nts
  | 1 => fld d KEY_LAYOUT_INFO_sa
  | 2 => 4
  | _ => 1

/-- The master key of an NTS slot. -/
def ntsKey (d : Dev) (n : Nat) : Nat := cget (fun _ => 0) d.key.nts n

/-- State of an NTS slot (R324): 0 Empty, 1 Pending, 2 Current, 3 Accepting, 4 Invalid. -/
def ntsState (d : Dev) (n : Nat) : Nat := fld d (KEY_NTS_STATE_state n)

/-- A field of KEY_SA_INFO of association `i`. -/
def saInfo (d : Dev) (i : Nat) (f : Fld) : Nat := fld d ⟨bank KEY_SA_INFO i, f.lo, f.wd⟩

/-- State of an association (R327): 0 Empty, 1 Pending, 2 Active, 3 Invalid. -/
def saState (d : Dev) (i : Nat) : Nat := saInfo d i KEY_SA_INFO_state

/-- An NTS slot empty: zeros (R324). -/
def ntsClear (n : Nat) (d : Dev) : Dev :=
  let d1 := wr64 (KEY_NTS_END_LO n) 0 (wr64 (KEY_NTS_ACT_LO n) 0 (wrN (KEY_NTS_STATE n) 0 (wrN (KEY_NTS_ID n) 0 d)))
  let d2 := { d1 with key := { d1.key with nts := cput (fun _ => 0) d1.key.nts n 0, ntsExp := cput (fun _ => 0) d1.key.ntsExp n 0 } }
  doIf (decide (fld d KEY_NTS_CUR_slot = n)) (wrN KEY_NTS_CUR 0) d2

/-- An association empty. -/
def saClear (i : Nat) (d : Dev) : Dev :=
  let d1 := forEach [KEY_SA_INFO, KEY_SA_KEYID, KEY_SA_SEQ, KEY_SA_ACT_LO, KEY_SA_ACT_HI, KEY_SA_END_LO, KEY_SA_END_HI]
    (fun a x => wrN (bank a i) 0 x) d
  { d1 with key := { d1.key with sa := cput (fun _ => 0) d1.key.sa i 0 } }

/-- An OSNMA slot empty. -/
def osnClear (o : Nat) (d : Dev) : Dev :=
  let d1 := wrN (KEY_OSN_ID o) 0 (wrN (KEY_OSN_STATE o) 0 d)
  { d1 with key := { d1.key with osn := cput (fun _ => []) d1.key.osn o [], osnT := cput (fun _ => (0, 0)) d1.key.osnT o (0, 0) } }

/-- KEK_V empty. -/
def kekClear (d : Dev) : Dev := setF KEY_STATUS_kek_v 0 { d with key := { d.key with kekV := 0, kekT := (0, 0, 0) } }

/-- One slot of a kind empty. -/
def slotClear (kind n : Nat) (d : Dev) : Dev :=
  match kind with
  | 0 => ntsClear n d
  | 1 => saClear n d
  | 2 => osnClear n d
  | _ => kekClear d

/-- The slot of a kind holds nothing. -/
def slotEmpty (d : Dev) (kind n : Nat) : Bool :=
  match kind with
  | 0 => ntsState d n == 0
  | 1 => saState d n == 0
  | 2 => fld d (KEY_OSN_STATE_state n) == 0
  | _ => !(flag d KEY_STATUS_kek_v)

/-- The associations that are not empty. -/
def saUsed (d : Dev) : List Nat := (List.range 1024).filter (fun i => saState d i != 0)

/-- Every volatile slot zeroized (R318, R331). -/
def zeroSlots (d : Dev) : Dev :=
  kekClear (forEach (List.range 4) osnClear (forEach (saUsed d) saClear (forEach (List.range 16) ntsClear d)))

/-- A zeroization starts (R331): the slots are cleared, KEY_STATUS.zeroized is set, and a delivery in process is discarded with
cause 0x0A (R322). `why` is the bit of event 0x6804. -/
def zeroStart (why : Nat) (d : Dev) : Dev :=
  let d1 := keyCount 5 (setF KEY_STATUS_zeroized 1 (zeroSlots d))
  let d2 := { d1 with key := { d1.key with zero := some (d1.key.zero.getD 0 ||| why) } }
  match d2.key.wait with
  | none => d2
  | some c =>
    let d3 := { d2 with key := { d2.key with wait := none, rx := d2.key.rx.filter (fun x => x != c) } }
    raise 0x6806 (0x0A + fld d3 KEY_DLV_STATUS_type * 256)
      (keyCount 1 (setF KEY_DLV_STATUS_cause 0x0A (setF KEY_DLV_STATUS_state 3 d3)))

/-- The presence window closes (R329): event 0x6801 when it was open. -/
def closeWindow (d : Dev) : Dev :=
  if windowOpen d then raise 0x6801 0 (setF KEY_STATUS_window 0 d) else d

/-- The effective end of a key that leaves Current at TAI second `tai` (R324): its expiry, or the grace after it left. -/
def graceEnd (d : Dev) (n tai : Nat) : Nat :=
  let e := cget (fun _ => 0) d.key.ntsExp n
  let g := tai + rdN d KEY_NTS_GRACE
  if e = 0 then g else min e g

/-- An NTS slot goes to Accepting at TAI second `tai`. -/
def toAccepting (n tai : Nat) (d : Dev) : Dev :=
  wr64 (KEY_NTS_END_LO n) (graceEnd d n tai) (setF (KEY_NTS_STATE_state n) 3 d)

/-- NTS slot `n` is the Current one, with its own expiry as its end. -/
def setCurrent (n : Nat) (d : Dev) : Dev :=
  setF KEY_NTS_CUR_valid 1 (setF KEY_NTS_CUR_slot n
    (wr64 (KEY_NTS_END_LO n) (cget (fun _ => 0) d.key.ntsExp n) (setF (KEY_NTS_STATE_state n) 2 d)))

/-- NTS slot `n` becomes Current at TAI second `tai` (R324, R325): the key that was Current goes to Accepting; event 0x6808. -/
def makeCurrent (n tai : Nat) (d : Dev) : Dev :=
  let had := flag d KEY_NTS_CUR_valid
  let old := fld d KEY_NTS_CUR_slot
  let d3 := setCurrent n (doIf had (toAccepting old tai) d)
  if had then raise 0x6808 (n + old * 256) d3 else raise 0x6808 (n + freeVal d3 % 256 * 256) (draw d3)

/-- `a` is preferred to `b` among slots that reach activation together (R325): the later activation, then the higher slot. -/
def laterKey (d : Dev) (a b : Nat) : Bool :=
  let x := rd64 d (KEY_NTS_ACT_LO a)
  let y := rd64 d (KEY_NTS_ACT_LO b)
  decide (y < x) || (decide (x = y) && decide (b < a))

/-- The preferred slot of a list. -/
def bestKey (d : Dev) (l : List Nat) : Option Nat :=
  l.foldl (fun b n => match b with | none => some n | some x => if laterKey d n x then some n else some x) none

/-- An activation time is reached (R325): 0 always, another only while the time is valid. -/
def activated (d : Dev) (act tai : Nat) : Bool := act == 0 || (flag d TB_STATUS_time_valid && decide (act ≤ tai))

/-- An end is reached: enforced only while the time is valid (R325). -/
def ended (d : Dev) (e tai : Nat) : Bool := flag d TB_STATUS_time_valid && e != 0 && decide (e ≤ tai)

/-- The slots whose activation counts at this epoch: all at the first 1 ms epoch of a TAI second, at the others those delivered with an
activation of 0 or in the past (R325). -/
def countsNow (d : Dev) (kind n : Nat) : Bool := decide (now16 d % sec16 < ms16) || d.key.fresh.contains (kind, n)

/-- The NTS activations of an evaluation (R325). -/
def ntsActivate (tai : Nat) (d : Dev) : Dev :=
  let ready := (List.range 16).filter (fun n =>
    ntsState d n == 1 && countsNow d 0 n && activated d (rd64 d (KEY_NTS_ACT_LO n)) tai)
  match bestKey d ready with
  | none => d
  | some n => forEach (ready.filter (fun x => x != n)) (fun x y => toAccepting x tai y) (makeCurrent n tai d)

/-- The NTS ends of an evaluation: Current or Accepting to Empty, event 0x6809 (R324). -/
def ntsEnd (tai : Nat) (d : Dev) : Dev :=
  forEach (List.range 16) (fun n x =>
    doIf ((ntsState x n == 2 || ntsState x n == 3) && ended x (rd64 x (KEY_NTS_END_LO n)) tai)
      (fun y => raise 0x6809 (n * 65536) (ntsClear n y)) x) d

/-- The associations of an evaluation (R327): Pending to Active, and any that has expired to Empty. -/
def saEvaluate (tai : Nat) (d : Dev) : Dev :=
  let first := decide (now16 d % sec16 < ms16)
  forEach (saUsed d) (fun i x =>
    let y := doIf (saState x i == 1 && countsNow x 1 i && activated x (rd64 x (bank KEY_SA_ACT_LO i)) tai)
      (setF ⟨bank KEY_SA_INFO i, 18, 2⟩ 2) x
    doIf (first && saState y i == 2 && ended y (rd64 y (bank KEY_SA_END_LO i)) tai)
      (fun z => raise 0x6809 (1 + i * 65536) (saClear i z)) y) d

/-- The evaluation of activations and expiries (R325): whole at the first 1 ms epoch of a TAI second; at the others only deliveries with an
activation of 0 or in the past are acted on. -/
def keyEvaluate (d : Dev) : Dev :=
  let tai := taiSec d
  let d1 := saEvaluate tai (doIf (decide (now16 d % sec16 < ms16)) (ntsEnd tai) (ntsActivate tai d))
  { d1 with key := { d1.key with fresh := d1.key.fresh.filter (fun p => if p.1 = 0 then ntsState d1 p.2 == 1 else saState d1 p.2 == 1) } }

/-- The association of a pair (SPP, keyID) that is Active and meets `p` (R327). -/
def saFind (d : Dev) (spp keyId : Nat) (p : Nat → Bool) : Option Nat :=
  (saUsed d).find? (fun i => saState d i == 2 && saInfo d i KEY_SA_INFO_spp == spp &&
    decide (rdN d (bank KEY_SA_KEYID i) = keyId) && p i)

/-- An association may seal a message: Active, transmit, not exhausted (R327, R328). -/
def saCanSend (d : Dev) (i : Nat) : Bool :=
  saState d i == 2 && saInfo d i KEY_SA_INFO_tx == 1 && saInfo d i KEY_SA_INFO_exhausted == 0

/-- The sequenceNo of an association taken for one sealed message (R328): at 0xFFFF_FFFF the association is exhausted. -/
def saNext (i : Nat) (d : Dev) : Dev :=
  let s := rdN d (bank KEY_SA_SEQ i) + 1
  let d1 := wrN (bank KEY_SA_SEQ i) (min s 0xFFFFFFFF) d
  if 0xFFFFFFFF ≤ s then raise 0x6810 i (keyCount 7 (setF ⟨bank KEY_SA_INFO i, 20, 1⟩ 1 d1)) else d1

/-- A new Active of a twin pair leaves a gap in every sequenceNo that is not exhausted (R328, R349). -/
def saGap (d : Dev) : Dev :=
  forEach ((saUsed d).filter (fun i => saInfo d i KEY_SA_INFO_exhausted == 0)) (fun i x =>
    let s := rdN x (bank KEY_SA_SEQ i) + rdN x KEY_SA_GAP
    if 0xFFFFFFFF ≤ s then raise 0x6810 i (keyCount 7 (setF ⟨bank KEY_SA_INFO i, 20, 1⟩ 1 (wrN (bank KEY_SA_SEQ i) 0xFFFFFFFF x)))
    else wrN (bank KEY_SA_SEQ i) s x) d

/-- The slots that KEY_DIGEST covers (R320): key ID, state, activation, end of every non-empty slot, in slot order. -/
def digestSlots (d : Dev) : List (Nat × Nat × Nat × Nat) :=
  ((List.range 16).filter (fun n => ntsState d n != 0)).map
      (fun n => (rdN d (KEY_NTS_ID n), ntsState d n, rd64 d (KEY_NTS_ACT_LO n), cget (fun _ => 0) d.key.ntsExp n)) ++
    (saUsed d).map (fun i => (rdN d (bank KEY_SA_KEYID i), saState d i, rd64 d (bank KEY_SA_ACT_LO i), rd64 d (bank KEY_SA_END_LO i))) ++
    ((List.range 4).filter (fun o => fld d (KEY_OSN_STATE_state o) != 0)).map
      (fun o => let t := cget (fun _ => (0, 0)) d.key.osnT o; (rdN d (KEY_OSN_ID o), fld d (KEY_OSN_STATE_state o), t.1, t.2)) ++
    (if flag d KEY_STATUS_kek_v then [(d.key.kekT.1, 1, d.key.kekT.2.1, d.key.kekT.2.2)] else [])

/-- KEY_DIGEST as a number of 256 bits. -/
def keyDigest (d : Dev) : Nat := Config.keyDigest (digestSlots d) % 2 ^ 256

/-! ### Fuses -/

/-- Bit `i` of fuse word 40 (R334). -/
def fuseBit (d : Dev) (i : Nat) : Bool := bitAt (rd d KEY_FUSE_STATUS) i

/-- KEK_F is programmed and not revoked. -/
def kekFValid (d : Dev) : Bool := fuseBit d 8 && !(fuseBit d 9)

/-- KEK_F revoked, as far as it is programmed (R331 step 4). -/
def blowKekRevoke (d : Dev) : Dev := setF ⟨KEY_FUSE_STATUS, 9, 1⟩ 1 d

/-- A hash slot is programmed and unrevoked. -/
def hashValid (d : Dev) (s : Nat) : Bool := fuseBit d s && !(fuseBit d (4 + s))

/-- A hash slot is used for image checks: programmed, and not revoked as of the last Boot (R335). -/
def hashInUse (d : Dev) (s : Nat) : Bool := fuseBit d s && d.key.revBoot / 2 ^ s % 2 == 0

/-- The SHA-256 value in a hash slot, the first word lowest (R334). -/
def fuseHash (d : Dev) (s : Nat) : Nat := (List.range 8).foldr (fun w acc => rdN d (KEY_FUSE_HASH s w) + 2 ^ 32 * acc) 0

/-- The eight words of KEY_FUSE_DATA as a number, the first word lowest. -/
def wordsNat (ws : List Word) : Nat := ws.foldr (fun w acc => w.toNat + 2 ^ 32 * acc) 0

/-- An access to an RWP command (R10): in the window `k` runs; outside it the write is recorded and nothing else happens. -/
def rwpDo (r : Req) (a : Nat) (k : Dev → Dev) (d : Dev) : Dev :=
  guardWrite r a (fun d => if windowOpen d then k d else rwpRefuse r a d) d

/-- A fuse command starts (R335): refused while busy (cause 0x04) or while the fuse controller is out of service (R405). -/
def fuseStart (cmd slot : Nat) (d : Dev) : Dev :=
  if unitOut d 0x33 then keyResult (freeVal d % 256) 2 (draw d)
  else if flag d KEY_FUSE_STATUS_busy then keyResult 0x04 2 d
  else
    setF KEY_FUSE_STATUS_busy 1
      { d with key := { d.key with fuse := some { cmd := cmd, slot := slot, cut := false,
                                                  data := (List.range 8).map (fun w => rd d (KEY_FUSE_DATA w)) } } }

/-- Word `w` of the fuses that a command programs: a hash slot, or KEK_F. -/
def fuseWord (d : Dev) (o : FuseOp) (w : Nat) : Word :=
  if bitAt (BitVec.ofNat 32 o.cmd) 0 then rd d (KEY_FUSE_HASH o.slot w) else BitVec.ofNat 32 (d.key.kekF / 2 ^ (32 * w))

/-- `d` with word `w` of the fuses of a command holding `v`. -/
def setFuseWord (o : FuseOp) (w : Nat) (v : Word) (d : Dev) : Dev :=
  if bitAt (BitVec.ofNat 32 o.cmd) 0 then wr (KEY_FUSE_HASH o.slot w) v d
  else
    let old := fuseWord d o w
    { d with key := { d.key with kekF := d.key.kekF + v.toNat * 2 ^ (32 * w) - old.toNat * 2 ^ (32 * w) } }

/-- The bit of word 40 that a command sets on success (R334, R335). -/
def fuseMark (o : FuseOp) : Nat :=
  if o.cmd % 2 = 1 then o.slot
  else if o.cmd / 2 % 2 = 1 then 4 + o.slot
  else if o.cmd / 4 % 2 = 1 then 8
  else if o.cmd / 8 % 2 = 1 then 9
  else 10

/-- The command programs data words (program_hash, program_kek). -/
def fuseHasData (o : FuseOp) : Bool := o.cmd % 2 == 1 || o.cmd / 4 % 2 == 1

/-! ### Deliveries -/

/-- The key of a delivery byte in the buffer of its channel. -/
def dlvAt (c off : Nat) : Nat := c * 4096 + off

/-- Byte `off` of the delivery on channel `c`. -/
def dlvByte (d : Dev) (c off : Nat) : Byte := cget (fun _ => 0#8) d.key.dlv (dlvAt c off)

/-- `n` bytes of the delivery from `off`. -/
def dlvBytes (d : Dev) (c off n : Nat) : List Byte := (List.range n).map (fun i => dlvByte d c (off + i))

/-- A little-endian field of the delivery (R321). -/
def dlvNat (d : Dev) (c off n : Nat) : Nat := leNat (dlvBytes d c off n)

/-- A byte of a delivery arrives on channel `c` (R322): it is collected only. -/
def keyCollect (c off : Nat) (b : Byte) (d : Dev) : Dev :=
  let d1 := { d with key := { d.key with dlv := cput (fun _ => 0#8) d.key.dlv (dlvAt c off) b
                                         rx := if d.key.rx.contains c then d.key.rx else d.key.rx ++ [c] } }
  doIf (d1.key.wait.isNone) (setF KEY_DLV_STATUS_state 1) d1

/-- The delivery of channel `c` dropped from its buffer. -/
def dlvDrop (c : Nat) (d : Dev) : Dev :=
  { d with key := { d.key with dlv := ckeep (fun a => a / 4096 != c) d.key.dlv, rx := d.key.rx.filter (fun x => x != c)
                               wait := if d.key.wait = some c then none else d.key.wait } }

/-- The end of a delivery in KEY_DLV_STATUS. -/
def dlvDone (type cause slot : Nat) (d : Dev) : Dev := wrN KEY_DLV_STATUS (3 + type % 32 * 4 + cause * 256 + slot % 1024 * 65536) d

/-- A delivery refused (R322): no slot changes, event 0x6806, counted. -/
def dlvRefuse (c cause : Nat) (d : Dev) : Dev :=
  let type := dlvNat d c 4 1 % 32
  raise 0x6806 (cause + type * 256) (keyCount 1 (dlvDone type cause (dlvNat d c 5 2) (dlvDrop c d)))

/-- The kind of slot that a delivery type writes (R321). -/
def dlvKind (type : Nat) : Option Nat :=
  if type = 1 then some 0 else if type = 2 then some 1 else if type = 3 then some 2 else if type = 0x10 then some 3 else none

/-- The wrapping key of a delivery is present and not revoked (R322 step 5): for type 0x10 the wrap field is 0xFF. -/
def wrapOk (d : Dev) (type wrap : Nat) : Bool :=
  if type = 0x10 then wrap == 0xFF
  else if wrap = 0 then flag d KEY_STATUS_kek_v else if wrap = 1 then kekFValid d else false

/-- The format of an unwrapped body (R323). -/
def bodyOk (type : Nat) (b : List Byte) : Bool :=
  let at' := fun i => (b.getD i 0#8).toNat
  match type with
  | 1 => b.length == 32
  | 2 => (at' 1 == 0 || at' 1 == 2) && (at' 2 == 16 || at' 2 == 32) && b.length == 8 + at' 2
  | 3 => decide (at' 0 ≤ 2) && at' 1 == 0 && at' 2 == 0 && at' 3 == 0 &&
      b.length == 4 + (if at' 0 = 0 then 32 else if at' 0 = 1 then 65 else 133)
  | _ => b.length == 32

/-- The key ID is already in another non-empty slot of the same type (R322 step 10). -/
def keyIdUsed (d : Dev) (kind slot keyId : Nat) : Bool :=
  match kind with
  | 0 => (List.range 16).any (fun n => n != slot && ntsState d n != 0 && decide (rdN d (KEY_NTS_ID n) = keyId))
  | 1 => (saUsed d).any (fun i => i != slot && decide (rdN d (bank KEY_SA_KEYID i) = keyId))
  | 2 => (List.range 4).any (fun o => o != slot && fld d (KEY_OSN_STATE_state o) != 0 && decide (rdN d (KEY_OSN_ID o) = keyId))
  | _ => false

/-- A delivery whose activation is 0, or has passed, is acted on at the next 1 ms epoch (R325). -/
def markFresh (kind slot act : Nat) (d : Dev) : Dev :=
  let l := d.key.fresh.filter (fun p => p != (kind, slot))
  { d with key := { d.key with fresh := if activated d act (taiSec d) then (kind, slot) :: l else l } }

/-- A delivery written into its slot (R323): NTS keys and associations start Pending. -/
def dlvWrite (kind slot keyId act exp : Nat) (b : List Byte) (d : Dev) : Dev :=
  let at' := fun i => (b.getD i 0#8).toNat
  match kind with
  | 0 =>
    let d1 := wr64 (KEY_NTS_END_LO slot) exp (wr64 (KEY_NTS_ACT_LO slot) act (setF (KEY_NTS_STATE_state slot) 1
      (wrN (KEY_NTS_ID slot) keyId d)))
    markFresh 0 slot act { d1 with key := { d1.key with nts := cput (fun _ => 0) d1.key.nts slot (leNat b)
                                                        ntsExp := cput (fun _ => 0) d1.key.ntsExp slot exp } }
  | 1 =>
    let info := at' 0 + at' 1 * 2 ^ 8 + at' 3 % 4 * 2 ^ 16 + 1 * 2 ^ 18 + b2n (at' 2 == 32) * 2 ^ 21
    let d1 := wrN (bank KEY_SA_SEQ slot) (leNat (sliceOf b 4 4)) (wrN (bank KEY_SA_KEYID slot) keyId
      (wrN (bank KEY_SA_INFO slot) info d))
    let d2 := wr64 (bank KEY_SA_END_LO slot) exp (wr64 (bank KEY_SA_ACT_LO slot) act d1)
    markFresh 1 slot act { d2 with key := { d2.key with sa := cput (fun _ => 0) d2.key.sa slot (leNat (b.drop 8)) } }
  | 2 =>
    let d1 := wrN (KEY_OSN_ID slot) keyId (wrN (KEY_OSN_STATE slot) (1 + at' 0 % 4 * 4) d)
    { d1 with key := { d1.key with osn := cput (fun _ => []) d1.key.osn slot (b.drop 4)
                                   osnT := cput (fun _ => (0, 0)) d1.key.osnT slot (act, exp) } }
  | _ => setF KEY_STATUS_kek_v 1 { d with key := { d.key with kekV := leNat b, kekT := (keyId, act, exp) } }

/-- The checks after the SIV check, and the acceptance of a delivery (R322 steps 9 and 10). -/
def dlvFinish (c type kind slot keyId : Nat) (b : List Byte) (d : Dev) : Dev :=
  if !(bodyOk type b) then dlvRefuse c 0x0C d
  else if keyIdUsed d kind slot keyId then dlvRefuse c 0x09 d
  else
    let d1 := dlvWrite kind slot keyId (dlvNat d c 16 6) (dlvNat d c 22 6) b d
    let d2 := wrN KEY_DLV_CTR (dlvNat d c 12 4) { d1 with log := { d1.log with forced := true } }
    raise 0x6805 (type + slot * 65536) (keyCount 0 (dlvDone type 0 slot (dlvDrop c d2)))

/-- The first check of R322 that a delivery fails before its SIV check, in the order of the rule. -/
def dlvCheck (d : Dev) (c : Nat) : Option Nat :=
  let type := dlvNat d c 4 1
  let slot := dlvNat d c 5 2
  let len := dlvNat d c 28 2
  let act := dlvNat d c 16 6
  let exp := dlvNat d c 22 6
  if dlvNat d c 0 4 ≠ 0x594C444B ∨ len < 48 ∨ 4096 < len ∨ dlvNat d c 30 2 ≠ 0 then some 0x01
  else
    match dlvKind type with
    | none => some 0x02
    | some k =>
      if keySlots d k ≤ slot then some 0x02
      else if !(slotEmpty d k slot) then some 0x03
      else if dlvNat d c 12 4 ≤ rdN d KEY_DLV_CTR then some 0x04
      else if !(wrapOk d type (dlvNat d c 7 1)) then some 0x05
      else if type = 0x10 ∧ !(windowOpen d) then some 0x07
      else if exp ≠ 0 ∧ (exp ≤ act ∨ exp ≤ taiSec d) then some 0x08
      else none

/-- A delivery processed (R322): refused at its first failed check; the SIV check takes one firmware AES credit and waits while
none is free (R316, R281). -/
def dlvProcess (c : Nat) (d : Dev) : Dev :=
  match dlvCheck d c with
  | some cause => dlvRefuse c cause d
  | none =>
    let type := dlvNat d c 4 1
    let kind := (dlvKind type).getD 0
    let len := dlvNat d c 28 2
    let body := dlvBytes d c 48 (len - 48)
    if type = 0x10 then dlvFinish c type kind (dlvNat d c 5 2) (dlvNat d c 8 4) body d
    else if !(crdForFw d false) then
      setF KEY_DLV_STATUS_type (type % 32) (setF KEY_DLV_STATUS_state 2 { d with key := { d.key with wait := some c } })
    else
      let key := if dlvNat d c 7 1 = 0 then d.key.kekV else d.key.kekF
      let d1 := jobDone false d
      crdUse 5 [false] (fun x =>
        match Config.sivOpen key [dlvBytes d c 0 32] (dlvBytes d c 32 16 ++ body) with
        | none => dlvRefuse c 0x06 x
        | some b => dlvFinish c type kind (dlvNat d c 5 2) (dlvNat d c 8 4) b x) d1

/-- The cursor of channel `c` has reached the end of its delivery (R322), or the delivery waits for a credit. -/
def dlvComplete (d : Dev) (c : Nat) : Bool :=
  decide (d.key.wait = some c) || (d.key.rx.contains c && decide (max 32 (dlvNat d c 28 2) ≤ rdN d (HIF_BULK_CURSOR c)))

/-- A delivery whose channel is released or aborted before its length is reached is discarded with cause 0x0B (R322); one whose length
was reached is processed all the same. -/
def dlvDiscard (c : Nat) (d : Dev) : Dev :=
  if dlvComplete d c then doIf (d.key.wait.isNone) (dlvProcess c) d else doIf (d.key.rx.contains c) (dlvRefuse c 0x0B) d

/-- The random source stops (R336): rng_ok is 0. -/
def rngStop (d : Dev) : Dev := setF KEY_STATUS_rng_ok 0 d

end Sys2Proof.Machine
end

