-- ==== Sys2Proof/Machine/CtlOps.lean ====
section
/-! DEFINITION. The operations of CTL (spec/15_control_complex.md): core states, the physical map, table walks and TLBs, descriptor
tokens and the states of the DMA channels. -/

namespace Sys2Proof.Machine

open Sys2Proof

/-! ### Cores -/

/-- Core `c` starts with a cause (R368): no bank is live and its watchdog begins again. -/
def startCore (c cause : Nat) (d : Dev) : Dev :=
  setCore c 2 (setF (CTL_CORE_CAUSE_cause c) cause
    (modCore c (fun x => { x with banks := [], timerExc := false, kickAt := now16 d }) d))

/-- A restart of a core that halted (R369, R370, R372), counted. -/
def restartCore (c cause : Nat) (d : Dev) : Dev :=
  startCore c cause (satAdd (CTL_CORE_CAUSE_restarts c) 1 (setCore c 1 d))

/-- Every core is Fenced (R368). -/
def allFenced (d : Dev) : Bool := (List.range 4).all (fun c => coreState d c == 4)

/-- A core out of service (R368, R405); the last one is fatal (R412). -/
def coreOut (c cause : Nat) (d : Dev) : Dev :=
  if coreState d c = 0 ∨ coreState d c = 4 then d
  else
    let d1 := setCore c 4 d
    doIf (allFenced d1) (decideFatal (0x36 + c) cause false) d1

/-- Lockstep off. -/
def lockstepOff (d : Dev) : Dev := setF CTL_STATUS_lockstep 0 (setF CTL_LS_CTL_en 0 d)

/-- A double fault or watchdog expiry (R368 to R370): the core restarts, the lockstep pair as one, or it is Fenced by the second within
10 s; the other core of a pair then restarts alone (log entry 45). -/
def coreFail (c restart cause : Nat) (d : Dev) : Dev :=
  let again := match (core d c).failAt with
    | some t => !(elapsed t (10 * sec16) d)
    | none => false
  let g := coreGroup d c
  let d1 := modCore c (fun x => { x with failAt := some (now16 d), banks := [] }) d
  if again then
    let d2 := coreOut c cause (fenceUnit (0x36 + c) cause d1)
    forEach (g.filter (fun k => k != c)) (fun k x => restartCore k restart (lockstepOff x)) d2
  else forEach g (fun k => restartCore k restart) d1

/-- A contained fault of a core with its event (R368 to R370). -/
def coreReport (c cause ev : Nat) (d : Dev) : Dev := reportUnit (0x36 + c) cause .contained ev c (raise ev c d)

/-- An exception finds both banks live (R369). -/
def doubleFault (c : Nat) (d : Dev) : Dev := coreFail c 3 0x02 (coreReport c 0x02 0x7003 (setCore c 1 d))

/-- The lockstep pair, or the one core, changed by `f` (R372): both cores run the same instruction stream. -/
def modGroup (c : Nat) (f : Core → Core) (d : Dev) : Dev := forEach (coreGroup d c) (fun k => modCore k f) d

/-- An exception taken (R369): the save bank that is free takes pc, status and fault address. -/
def takeExc (c pc status addr : Nat) (d : Dev) : Dev :=
  if (core d c).banks.length < 2 then modGroup c (fun x => { x with banks := x.banks ++ [(pc, status, addr)] }) d
  else doubleFault c d

/-- A kick of a core's watchdog (R370). -/
def kickCore (c : Nat) (d : Dev) : Dev := modGroup c (fun x => { x with kickAt := now16 d }) d

/-! ### The physical map -/

/-- What an access to a physical address finds (R366, R367). -/
inductive PhysAt where
  | sram | rom | regs | off | none
  deriving DecidableEq, Repr

/-- The map of R366, with the domains of its ranges. -/
def physAt (d : Dev) (a : Nat) : PhysAt :=
  let at' (lo hi : Nat) : Bool := decide (lo ≤ a) && decide (a < hi)
  let on (b : Bool) : PhysAt := if b then .sram else .off
  if at' 0 0x800000 then on (domOn d .ctl)
  else if at' 0x10000000 0x11000000 then on (domOn d .pkt)
  else if at' 0x20000000 0x20C00000 then on (domOn d .smem)
  else if at' 0x30000000 0x30800000 then on (domOn d .gnss)
  else if at' 0x40000000 0x40400000 then (if Config.keySlotAddr a then .none else .sram)
  else if at' 0xF0000000 0xF0020000 then .rom
  else if at' 0x100000000 0x104000000 then .regs
  else .none

/-! ### Translation -/

/-- A translation: a physical address, or a fault with its cause and level (R375). -/
inductive Xlat where
  | ok (pa : Nat)
  | fault (cause level : Nat)
  deriving DecidableEq, Repr

/-- A field of a table entry (R375). -/
def entBit (e i : Nat) : Bool := (e >>> i) % 2 == 1

/-- The physical page of an entry. -/
def entPage (e : Nat) : Nat := (e >>> 12) % 2 ^ 28 * 4096

/-- A reserved bit of an entry is set. -/
def entReserved (e : Nat) : Bool := (e >>> 7) % 32 != 0 || (e >>> 40) % 2 ^ 24 != 0

/-- A table entry read from memory (R374): the entry, or the cause of the fault. -/
def readEntry (d : Dev) (a : Nat) : Nat ⊕ Nat :=
  if physAt d a ≠ .sram then .inr 4
  else if ramBad d a || ramBad d (a + 4) then .inr 5
  else .inl ((ramWord d a).toNat + 2 ^ 32 * (ramWord d (a + 4)).toNat)

/-- The walk of R374 from the table at `t`, with `n` levels left: leaf entry and page size, or cause and level of the
fault. -/
def walkFrom (d : Dev) (va : Nat) : Nat → Nat → (Nat × Nat) ⊕ (Nat × Nat)
  | 0, _ => .inr (3, 3)
  | n + 1, t =>
    let lvl := 3 - n
    match readEntry d (t + 8 * ((va >>> (12 + 9 * n)) % 512)) with
    | .inr c => .inr (c, lvl)
    | .inl e =>
      if !(entBit e 0) then .inr (1, lvl)
      else if entReserved e then .inr (3, lvl)
      else if entBit e 1 then
        if n = 0 then .inl (e, 4096)
        else if n = 1 ∧ entPage e % 0x200000 = 0 then .inl (e, 0x200000)
        else .inr (3, lvl)
      else if n = 0 then .inr (3, lvl)
      else walkFrom d va n (entPage e)

/-- The pages of the user ranges before range `i`. -/
def userBefore (d : Dev) (i : Nat) : Nat :=
  (List.range i).foldl (fun n j => n + if flag d (CTL_USER_RANGE_BASE_valid j) then fld d (CTL_USER_RANGE_PAGES_pages j) else 0) 0

/-- A user page lies within a range of CTL_USER_RANGE and within CTL_USER_LIMIT pages, counted through the ranges in order
(R373). -/
def userPageOk (d : Dev) (base size : Nat) : Bool :=
  flag d CTL_STATUS_user_ok && (List.range 4).any (fun i =>
    let lo := fld d (CTL_USER_RANGE_BASE_page i) * 4096
    let n := fld d (CTL_USER_RANGE_PAGES_pages i)
    flag d (CTL_USER_RANGE_BASE_valid i) && decide (lo ≤ base) && decide (base + size ≤ lo + n * 4096) &&
      decide (userBefore d i + (base + size - lo) / 4096 ≤ fld d CTL_USER_LIMIT_pages))

/-- The checks of a leaf against an access (R373, R375): the cause of the fault, or 0. -/
def leafCheck (d : Dev) (e size : Nat) (acc : MemAcc) (user : Bool) : Nat :=
  if entBit e 4 && !(userPageOk d (entPage e) size) then 2
  else if user && !(entBit e 4) then 2
  else if acc = .write ∧ !(entBit e 2) then 2
  else if acc = .fetch ∧ !(entBit e 3) then 2
  else if 0x100000000 ≤ entPage e ∧ entPage e < 0x104000000 ∧ !(entBit e 6) then 3
  else 0

/-- A pointer is canonical (R374): bits [63:48] equal bit 47. -/
def canonical (va : Nat) : Bool := va < 2 ^ 47 || (decide (2 ^ 64 - 2 ^ 47 ≤ va) && decide (va < 2 ^ 64))

/-- The TLB entry that serves an access (R376). -/
def tlbHit (l : List TlbE) (asid va : Nat) : Option TlbE :=
  l.find? (fun e => (e.global || e.asid == asid) && e.vpn == va % 2 ^ 48 / e.size)

/-- A TLB of `cap` entries with a new entry; a full one loses an entry that the spec does not name: a free value. -/
def tlbPut (d : Dev) (cap : Nat) (l : List TlbE) (e : TlbE) : List TlbE :=
  if l.length < cap then l ++ [e] else (l.eraseIdx (freeVal d % cap)) ++ [e]

/-- A leaf in use for an access. -/
def useLeaf (d : Dev) (va e size : Nat) (acc : MemAcc) (user : Bool) : Xlat :=
  match leafCheck d e size acc user with
  | 0 => .ok (entPage e + va % size)
  | c => .fault c (if size = 4096 then 3 else 2)

/-- An address translated (R374 to R376; a top table outside control SRAM is a bus error at level 0, log entry 41) for an agent with TLB `l` of `cap` entries, the tables at `base`, and an ASID: the result and
the TLB after it; whether a walk was made. -/
def translate (d : Dev) (cap : Nat) (l : List TlbE) (base asid va : Nat) (acc : MemAcc) (user : Bool) :
    Xlat × List TlbE × Bool :=
  if !(canonical va) then (.fault 1 0, l, false)
  else
    match tlbHit l asid va with
    | some t => (useLeaf d va t.leaf t.size acc user, l, false)
    | none =>
      match if base < 0x800000 then walkFrom d va 4 base else .inr (4, 0) with
      | .inr (c, lvl) => (.fault c lvl, l, true)
      | .inl (e, size) =>
        match useLeaf d va e size acc user with
        | .fault c lvl => (.fault c lvl, l, true)
        | .ok pa =>
          (.ok pa, tlbPut d cap l { asid := asid, global := entBit e 5, vpn := va % 2 ^ 48 / size, size := size, leaf := e }, true)

/-- The number of an access in CTL_MMU_FAULT_INFO. -/
def accNum (a : MemAcc) : Nat :=
  match a with
  | .fetch => 0
  | .read => 1
  | .write => 2

/-- An access of core `c` translated. -/
def coreXlat (c va : Nat) (acc : MemAcc) (user : Bool) (d : Dev) : Xlat × Dev :=
  let r := translate d 64 (core d c).tlb (rd64 d (CTL_MMU_BASE_LO c) % 2 ^ 40 / 4096 * 4096) (fld d (CTL_MMU_ASID_asid c)) va acc user
  (r.1, doIf r.2.2 (pmcAdd 0x1C09 1) (modCore c (fun x => { x with tlb := r.2.1 }) (draw d)))

/-- A fault of a core in CTL_MMU_FAULT_INFO and CTL_MMU_FAULT_VA (R375); a user permission fault raises event 0x700B. -/
def mmuFault (c cause level va : Nat) (acc : MemAcc) (user : Bool) (d : Dev) : Dev :=
  let d1 := wrN (CTL_MMU_FAULT_INFO c) (cause + level % 4 * 16 + accNum acc * 64) (wr64 (CTL_MMU_FAULT_VA_LO c) (va % 2 ^ 48) d)
  doIf (user && cause == 2) (raise 0x700B c) d1

/-- The fault of a core's access, if it has one (R367, R375, R377): cause and level. -/
def accessFault (d : Dev) (x : Xlat) (acc : MemAcc) : Option (Nat × Nat) :=
  match x with
  | .fault c l => some (c, l)
  | .ok pa =>
    match physAt d pa with
    | .sram => if acc ≠ .write ∧ (ramBad d pa || ringFailed d pa) then some (5, 3) else none
    | .rom => if acc = .write then some (4, 3) else none
    | .regs => none
    | _ => some (4, 3)

/-- An access of a core (R367, R375, R377): where it faults, the fault is reported and the exception taken. -/
def coreAccess (c va pc status : Nat) (acc : MemAcc) (user : Bool) (d : Dev) : Dev :=
  let r := coreXlat c va acc user d
  match accessFault r.2 r.1 acc with
  | none => r.2
  | some (cause, lvl) => takeExc c pc status va (mmuFault c cause lvl va acc user r.2)

/-- The TLB entries that CTL_TLB_INV leaves (R376): scope 0 VA and ASID, 1 ASID, 2 all. -/
def tlbLeave (scope asid va : Nat) (l : List TlbE) : List TlbE :=
  l.filter (fun e => !(
    scope == 2 || (scope == 1 && (e.global || e.asid == asid)) ||
    (scope == 0 && (e.global || e.asid == asid) && e.vpn == va % 2 ^ 48 / e.size)))

/-! ### DMA channels -/

/-- Channel `ch`. -/
def dch (d : Dev) (ch : Nat) : DCh := cget (fun _ => dchReset) d.ctl.chs ch

/-- `d` with a channel changed by `f`. -/
def modDch (ch : Nat) (f : DCh → DCh) (d : Dev) : Dev :=
  { d with ctl := { d.ctl with chs := cput (fun _ => dchReset) d.ctl.chs ch (f (dch d ch)) } }

/-- CTL_DMA_STATE.state of a channel: 0 Idle, 1 Active, 2 Paused, 3 Parked. -/
def dmaState (d : Dev) (ch : Nat) : Nat := fld d (CTL_DMA_STATE_state ch)

/-- `n` tokens moved from the free term to a channel (R385). -/
def tokTake (ch n : Nat) (d : Dev) : Dev :=
  let k := fld d (CTL_TOK_CH_tokens ch) + n
  setF (CTL_DMA_STATE_tokens ch) k (setF (CTL_TOK_CH_tokens ch) k (setF CTL_TOK_FREE_tokens (fld d CTL_TOK_FREE_tokens - n) d))

/-- `n` tokens of a channel back in the free term (R385). -/
def tokGive (ch n : Nat) (d : Dev) : Dev :=
  let m := min n (fld d (CTL_TOK_CH_tokens ch))
  let k := fld d (CTL_TOK_CH_tokens ch) - m
  setF (CTL_DMA_STATE_tokens ch) k (setF (CTL_TOK_CH_tokens ch) k (setF CTL_TOK_FREE_tokens (fld d CTL_TOK_FREE_tokens + m) d))

/-- The entries of a channel's ring (R378): CTL_DMA_RING_SIZE lies in 1 to 12. -/
def ringLen (d : Dev) (ch : Nat) : Nat := 2 ^ (min 12 (atLeast1 (fld d (CTL_DMA_RING_SIZE_log2 ch))))

/-- Head and tail of a channel within its ring. -/
def dmaHead (d : Dev) (ch : Nat) : Nat := fld d (CTL_DMA_HEAD_index ch) % ringLen d ch

/-- The tail of a channel within its ring. -/
def dmaTail (d : Dev) (ch : Nat) : Nat := fld d (CTL_DMA_TAIL_index ch) % ringLen d ch

/-- The ring index that the channel fetches next. -/
def dmaNext (d : Dev) (ch : Nat) : Nat := (dmaTail d ch + (dch d ch).fetched.length) % ringLen d ch

/-- The DMA unit is in service (R405). -/
def dmaOn (d : Dev) : Bool := domOn d .ctl && !(unitOut d 0x3A)

/-- An Idle channel with work becomes Active (R384). -/
def dmaActivate (ch : Nat) (d : Dev) : Dev :=
  doIf (dmaOn d && dmaState d ch == 0 && flag d (CTL_DMA_CFG_enable ch) && decide (dmaHead d ch ≠ dmaTail d ch))
    (setF (CTL_DMA_STATE_state ch) 1) d

/-- The credit of a channel returned (R379). -/
def dmaCredit (ch : Nat) (d : Dev) : Dev :=
  match (dch d ch).credit with
  | some sha => jobDone sha (crdMove sha 5 0 1 (modDch ch (fun x => { x with credit := none }) d))
  | none => d

/-- A channel parked (R382): the resume record is written and event 0x7006 raised. -/
def dmaParkOp (ch cause : Nat) (side memBoth : Bool) (va : Nat) (d : Dev) : Dev :=
  let c := dch d ch
  let idx := dmaTail d ch
  let rep := if c.last = some (idx, c.done, cause) then satU 8 (bitsOf (rd d (CTL_DMA_RES ch 0)) 24 8 + 1) else 0
  let resume := decide (1 ≤ cause) && decide (cause ≤ 6) && memBoth
  let d1 := wrN (CTL_DMA_RES ch 0) (idx + cause * 2 ^ 16 + b2n side * 2 ^ 20 + b2n resume * 2 ^ 21 + rep * 2 ^ 24)
    (wrN (CTL_DMA_RES ch 1) c.done (wr64 (CTL_DMA_RES ch 2) (va % 2 ^ 48) d))
  raise 0x7006 (ch + cause * 16)
    (setF (CTL_DMA_STATE_state ch) 3 (modDch ch (fun x => { x with last := some (idx, x.done, cause) }) d1))

/-- The oldest descriptor of a channel. -/
def dmaFront (d : Dev) (ch : Nat) : Option (Nat × List Word) := (dch d ch).fetched.head?

/-- A 64-bit field of a descriptor (R378). -/
def desc64 (ws : List Word) (i : Nat) : Nat := (ws.getD i 0).toNat + 2 ^ 32 * (ws.getD (i + 1) 0).toNat

/-- Source, destination, length, kinds, flags, tag and operation of a descriptor (R378). -/
def descSrc (ws : List Word) : Nat := desc64 ws 0

/-- The destination of a descriptor. -/
def descDst (ws : List Word) : Nat := desc64 ws 2

/-- The length of a descriptor in bytes. -/
def descLen (ws : List Word) : Nat := (ws.getD 4 0).toNat

/-- The source kind of a descriptor. -/
def descSk (ws : List Word) : Nat := bitsOf (ws.getD 5 0) 0 4

/-- The destination kind of a descriptor. -/
def descDk (ws : List Word) : Nat := bitsOf (ws.getD 5 0) 4 4

/-- The flags of a descriptor. -/
def descFlags (ws : List Word) : Nat := bitsOf (ws.getD 5 0) 8 8

/-- The tag of a descriptor. -/
def descTag (ws : List Word) : Nat := bitsOf (ws.getD 5 0) 16 16

/-- A descriptor keeps R378 and R379. -/
def descOk (ws : List Word) : Bool :=
  let n := descLen ws
  decide (4 ≤ n) && decide (n ≤ 16777212) && n % 4 == 0 && decide (descFlags ws < 4) && decide (descSk ws ≤ 2) &&
    decide (descDk ws ≤ 2) && (descSk ws == 0 || descDk ws == 0) &&
    (descSk ws != 0 || descSrc ws % 4 == 0) && (descDk ws != 0 || descDst ws % 4 == 0)

/-- Memory on both sides of the descriptor that a channel works on (R382). -/
def memBoth (d : Dev) (ch : Nat) : Bool :=
  match dmaFront d ch with
  | some (_, ws) => descSk ws == 0 && descDk ws == 0
  | none => true

/-- An address of a channel translated. -/
def dmaXlat (ch va : Nat) (acc : MemAcc) (d : Dev) : Xlat × Dev :=
  let r := translate d 16 (dch d ch).tlb (rd64 d (CTL_DMA_TBASE_LO ch) % 2 ^ 40 / 4096 * 4096) (fld d (CTL_DMA_CFG_asid ch)) va acc
    (flag d (CTL_DMA_CFG_user ch))
  (r.1, doIf r.2.2 (pmcAdd 0x1C09 1) (modDch ch (fun x => { x with tlb := r.2.1 }) (draw d)))

/-- The cause of R382 that a fault of a translation parks with: a format fault counts as a translation fault. -/
def parkCause (c : Nat) : Nat := if c = 2 then 2 else if c = 4 then 5 else if c = 5 then 3 else 1

/-- The tail moves past the oldest descriptor, whose token returns (R378, R385). -/
def dmaPop (ch : Nat) (d : Dev) : Dev :=
  let t := (dmaTail d ch + 1) % ringLen d ch
  let d1 := dmaCredit ch d
  let d2 := tokGive ch 1 (modDch ch (fun x => { x with fetched := x.fetched.drop 1, bad := none, done := 0, last := none }) d1)
  setF (CTL_DMA_TAIL_index ch) t d2

/-- Status word of a retired descriptor (R378). -/
def descStatus (result done : Nat) : Nat := 1 + result * 2 + satU 24 (done / 4) * 256

/-- The status of the oldest descriptor stored in its ring entry; where its address does not translate to memory, nothing is
stored. -/
def storeStatus (ch result : Nat) (d : Dev) : Dev :=
  let r := dmaXlat ch (rd64 d (CTL_DMA_RING_LO ch) % 2 ^ 48 / 32 * 32 + 32 * dmaTail d ch + 28) .write d
  match r.1 with
  | .ok pa => if physAt r.2 pa = .sram then setRam pa (BitVec.ofNat 32 (descStatus result (dch d ch).done)) r.2 else r.2
  | .fault _ _ => r.2

/-- The oldest descriptor retires (R378): status, token, event 0x7005 if flagged, event 0x7007 in error. -/
def dmaRetire (ch result cause : Nat) (d : Dev) : Dev :=
  let ws := match dmaFront d ch with
    | some (_, w) => w
    | none => []
  let d1 := dmaPop ch (storeStatus ch result d)
  let d2 := doIf (descFlags ws % 2 == 1) (raise 0x7005 (ch + result * 256 + descTag ws * 65536)) d1
  doIf (result == 3) (raise 0x7007 (ch + cause * 16)) d2

/-- A channel goes on after a retirement: Idle on an empty ring, else Active (R384). -/
def dmaGoOn (ch : Nat) (d : Dev) : Dev :=
  setF (CTL_DMA_STATE_state ch) (if dmaHead d ch = dmaTail d ch then 0 else 1) d

/-- A channel aborted (R383): every fetched descriptor retires with result 1, and the channel is Idle. -/
def dmaAbortOp (ch : Nat) (d : Dev) : Dev :=
  setF (CTL_DMA_STATE_state ch) 0 (forEach (dch d ch).fetched (fun _ x => dmaRetire ch 1 0 x) d)

/-- enable := 0 (R384): the channel is Idle and holds no token; what it had fetched stays in the ring. -/
def dmaDisable (ch : Nat) (d : Dev) : Dev :=
  setF (CTL_DMA_STATE_state ch) 0
    (tokGive ch 8 (modDch ch (fun x => { x with fetched := [], bad := none, done := 0 }) (dmaCredit ch d)))

/-- The DMA unit out of service (R405): every channel aborted; its tokens wait in the fenced term, so new descriptors wait. -/
def dmaOut (d : Dev) : Dev :=
  let d1 := forEach (List.range 16) dmaAbortOp d
  setF CTL_TOK_FREE_tokens 0 (setF CTL_TOK_FENCED_tokens (fld d1 CTL_TOK_FENCED_tokens + fld d1 CTL_TOK_FREE_tokens) d1)

/-- The DMA unit back in service. -/
def dmaIn (d : Dev) : Dev :=
  setF CTL_TOK_FREE_tokens (fld d CTL_TOK_FREE_tokens + fld d CTL_TOK_FENCED_tokens) (setF CTL_TOK_FENCED_tokens 0 d)

end Sys2Proof.Machine
end

