-- ==== Sys2Proof/Machine/Ctl.lean ====
section
/-! DEFINITION. The commands of CTL (spec/15_control_complex.md) but the DMA beat, which is in Dma.lean. -/

namespace Sys2Proof.Machine

open Sys2Proof

/-- CTL_RESULT. -/
def ctlResult (cause : Nat) (d : Dev) : Dev := setF CTL_RESULT_cause cause d

/-- A requester of core commands (R368): firmware, or full rights while debug is unlocked. -/
def coreCmdBy (d : Dev) (r : Req) : Bool := r == .fw || flag d KEY_STATUS_debug

/-- A core command of an allowed requester in a state that it fits (R368). -/
def coreCmd (r : Req) (fits : Dev → Bool) (f : Dev → Dev) (d : Dev) : Dev :=
  if !(coreCmdBy d r) then ctlResult 1 d else if !(fits d) then ctlResult 3 d else f d

/-- CTL_CORE_CMD.start. -/
def coreStartOp (r : Req) (c : Nat) (d : Dev) : Dev :=
  coreCmd r (fun x => coreState x c == 1) (fun x => ctlResult 0 (forEach (coreGroup x c) (fun k y => startCore k 1 y) x)) d

/-- CORE_START (R368). -/
def execCoreStart (r : Req) (c : Fin 4) (s : State) : Host.Outcome State Fault Refusal :=
  s.upd (guardWrite r (CTL_CORE_CMD c.val) (coreStartOp r c.val))

/-- CTL_CORE_CMD.halt. -/
def coreHaltOp (r : Req) (c : Nat) (d : Dev) : Dev :=
  coreCmd r (fun x => coreState x c == 2) (fun x => ctlResult 0 (forEach (coreGroup x c) (fun k y => setCore k 1 y) x)) d

/-- CORE_HALT (R368). -/
def execCoreHalt (r : Req) (c : Fin 4) (s : State) : Host.Outcome State Fault Refusal :=
  s.upd (guardWrite r (CTL_CORE_CMD c.val) (coreHaltOp r c.val))

/-- CTL_CORE_CMD.readmit: the unit is Testing until READMIT_TEST_COMPLETE (R415). -/
def coreReadmitOp (r : Req) (c : Nat) (d : Dev) : Dev :=
  coreCmd r (fun x => coreState x c == 4 && (funit x (0x36 + c)).state == 2)
    (modUnit (0x36 + c) (fun x => { x with state := 3, byBlock := true })) d

/-- CORE_READMIT (R368, R415). -/
def execCoreReadmit (r : Req) (c : Fin 4) (s : State) : Host.Outcome State Fault Refusal :=
  s.upd (guardWrite r (CTL_CORE_CMD c.val) (coreReadmitOp r c.val))

/-- The readmission test of a core ends (R368, R415). -/
def coreTested (c : Nat) (pass : Bool) (d : Dev) : Dev := if pass then setCore c 1 d else d

/-- A core executes sleep (R368): with a record in its queue or its timer exception raised it goes on at once. -/
def sleepOp (c : Nat) (d : Dev) : Dev :=
  if coreState d c ≠ 2 ∨ (coreGroup d c).any (fun k => unread d (3 + k) != 0 || (core d k).timerExc) then d
  else forEach (coreGroup d c) (fun k x => setCore k 3 x) d

/-- SLEEP_INSTRUCTION (R368). -/
def execSleepInstruction (c : Fin 4) (s : State) : Host.Outcome State Fault Refusal :=
  s.upd (fun d => doIf (domOn d .ctl) (sleepOp c.val) d)

/-- An exception of a running core (R369, R373, R375). -/
def exceptionOp (c : Nat) (x : CoreExc) (d : Dev) : Dev :=
  let d0 := modGroup c (fun k => { k with banks := k.banks.take (k.banks.length - x.returns) }) d
  match x.kind with
  | .access va acc user => coreAccess c va x.pc x.status acc user d0
  | .illegal => takeExc c x.pc x.status (freeVal d0) (draw d0)
  | .userEntry => if flag d CTL_STATUS_user_ok then d0 else takeExc c x.pc x.status (freeVal d0) (draw d0)
  | .timer =>
    if (core d0 c).timerExc then
      takeExc c x.pc x.status (freeVal d0) (modCore c (fun k => { k with timerExc := false }) (draw d0))
    else d0
  | .other => takeExc c x.pc x.status (freeVal d0) (draw d0)

/-- CORE_EXCEPTION (R369). -/
def execCoreException (c : Fin 4) (x : CoreExc) (s : State) : Host.Outcome State Fault Refusal :=
  s.upd (fun d => doIf (domOn d .ctl && coreState d c.val == 2) (exceptionOp c.val x) d)

/-- WATCHDOG_KICK (R370): by firmware of its own core, with the key. -/
def execWatchdogKick (src : Fin 4) (c : Fin 4) (v : Word) (s : State) : Host.Outcome State Fault Refusal :=
  s.upd (fun d => doIf (domOn d .ctl && src == c && v == 0x0000C0DE#32) (kickCore c.val) d)

/-- The watchdog of a running core expires (R370): its period has passed since the last kick. -/
def watchdogOp (c : Nat) (d : Dev) : Dev :=
  let ms := fld d CTL_WDOG_CFG_ms
  if coreState d c ≠ 2 || ms == 0 || !(elapsed (core d c).kickAt (ms * 65536000000) d) then d
  else coreFail c 2 0x08 (coreReport c 0x08 0x7002 (setCore c 1 d))

/-- WATCHDOG_EXPIRY (R370). -/
def execWatchdogExpiry (c : Fin 4) (s : State) : Host.Outcome State Fault Refusal :=
  s.upd (fun d => doIf (domOn d .ctl) (watchdogOp c.val) d)

/-- The comparator of a core fires once its near time is due (R20, R371): it disarms, raises the local timer exception and wakes the
core. -/
def coreTimerOp (c : Nat) (d : Dev) : Dev :=
  if !((core d c).tmr) || !(due (rd64 d (CTL_CORE_TMR_LO c)) (near d)) then d
  else
    let d1 := modCore c (fun x => { x with tmr := false, timerExc := true }) d
    doIf (coreState d1 c == 3) (fun y => forEach (coreGroup y c) (fun k x => setCore k 2 x) y) d1

/-- CORE_TIMER_FIRE (R371). -/
def execCoreTimerFire (c : Fin 4) (s : State) : Host.Outcome State Fault Refusal :=
  s.upd (fun d => doIf (domOn d .ctl) (coreTimerOp c.val) d)

/-- The write of CTL_CORE_TMR_HI commits the near time and arms the comparator (R7, R371). -/
def coreTimerWrite (r : Req) (c : Nat) (hi : Word) (d : Dev) : Dev :=
  modCore c (fun x => { x with tmr := true }) (commit64 r (CTL_CORE_TMR_HI c) hi d)

/-- A write of CTL_LS_CTL (R372). -/
def lockstepOp (v : Word) (d : Dev) : Dev :=
  if coreState d 2 = 1 ∧ coreState d 3 = 1 then
    setB CTL_STATUS_lockstep (bitAt v 0) (setB CTL_LS_CTL_en (bitAt v 0) (ctlResult 0 d))
  else ctlResult 2 d

/-- LOCKSTEP_ENABLE_WRITE (R372). -/
def execLockstepEnableWrite (r : Req) (v : Word) (s : State) : Host.Outcome State Fault Refusal :=
  s.upd (guardWrite r CTL_LS_CTL (lockstepOp v))

/-- A core that failed its test, or passed beyond the limit of R411, is Fenced, with its record (R372, R410). -/
def lockstepFence (c : Nat) (pass : Bool) (out : Nat) (d : Dev) : Dev :=
  coreOut c 0x06 (fenceUnit (0x36 + c) 0x06 (resolved (0x36 + c) 0x06 (if pass then 1 else 2) 0x7004 out pass d))

/-- The record of a core that passed its test (R372, R411). -/
def lockstepPass (c out : Nat) (d : Dev) : Dev := resolved (0x36 + c) 0x06 1 0x7004 out true d

/-- A mismatch of the pair, with the results of the two self-tests (R372). -/
def mismatchOp (pass2 pass3 : Bool) (d : Dev) : Dev :=
  let halted := setCore 3 1 (setCore 2 1 d)
  match pass2 && !(passOver d 0x38), pass3 && !(passOver d 0x39) with
  | true, true => restartCore 3 4 (restartCore 2 4 (lockstepPass 3 0 (lockstepPass 2 0 (raise 0x7004 0 halted))))
  | false, true => restartCore 3 4 (lockstepFence 2 pass2 1 (lockstepPass 3 1 (lockstepOff (raise 0x7004 1 halted))))
  | true, false => restartCore 2 4 (lockstepFence 3 pass3 1 (lockstepPass 2 1 (lockstepOff (raise 0x7004 1 halted))))
  | false, false => lockstepFence 3 pass3 2 (lockstepFence 2 pass2 2 (lockstepOff (raise 0x7004 2 halted)))

/-- LOCKSTEP_MISMATCH (R372). -/
def execLockstepMismatch (pass2 pass3 : Bool) (s : State) : Host.Outcome State Fault Refusal :=
  s.upd (fun d => doIf (domOn d .ctl && lockstepOn d && coreState d 2 == 2) (mismatchOp pass2 pass3) d)

/-- A write of CTL_TLB_INV (R376): every core TLB and every channel TLB. Beats are whole within a command, so busy is 0 again
after it. -/
def tlbInvOp (v : Word) (d : Dev) : Dev :=
  let f := tlbLeave (bitsOf v 0 2) (fld d CTL_TLB_INV_ASID_asid) (rd64 d CTL_TLB_INV_VA_LO)
  forEach (List.range 16) (fun ch x => modDch ch (fun k => { k with tlb := f k.tlb }) x)
    (forEach (List.range 4) (fun c x => modCore c (fun k => { k with tlb := f k.tlb }) x) d)

/-- TLB_INVALIDATE (R376). -/
def execTlbInvalidate (r : Req) (v : Word) (s : State) : Host.Outcome State Fault Refusal :=
  s.upd (guardWrite r CTL_TLB_INV (tlbInvOp v))

/-- The words of a byte string, little-endian (R4). -/
def wordsOf : List Byte → List Word
  | a :: b :: c :: e :: l => BitVec.ofNat 32 (leNat [a, b, c, e]) :: wordsOf l
  | _ => []

/-- A reload refused (R377). -/
def reloadRefuse (page n : Nat) (d : Dev) : Dev := raise 0x7009 (page + n * 65536) (setF CTL_RELOAD_CMD_result n d)

/-- CTL_RELOAD_CMD.go (R377): the read-only page comes back from the running flash slot. -/
def pageReloadOp (d : Dev) : Dev :=
  let page := fld d CTL_RELOAD_ADDR_page
  if fld d IMG_STATUS_source = 2 then reloadRefuse page 1 d
  else
    match cget (fun _ => none) d.ctl.pages page with
    | none => reloadRefuse page 2 d
    | some (a, h) =>
      let bs := flashBytes d a 4096
      if Config.sha256 bs ≠ h then reloadRefuse page 3 d
      else raise 0x7008 page (setF CTL_RELOAD_CMD_result 0 (setRamWords (page * 4096) (wordsOf bs) d))

/-- PAGE_RELOAD (R377). -/
def execPageReload (r : Req) (s : State) : Host.Outcome State Fault Refusal := s.upd (guardWrite r CTL_RELOAD_CMD pageReloadOp)

/-- A parity error of the control complex (R365, R376, R377); the other regions are in Parity.lean. -/
def ctlParity (c : Nat) (site : ParitySite) (pc status : Nat) (d : Dev) : Dev :=
  match site with
  | .sram va acc user =>
    let r := coreXlat c va acc user d
    let at' := match r.1 with
      | .ok pa => ringAt pa
      | .fault _ _ => none
    match accessFault r.2 r.1 acc with
    | some (5, lvl) =>
      let d1 := match at' with
        | some (t, pos) => ringParity t pos r.2
        | none => reportUnit 0x3B 0x01 .corrected 0 0 r.2
      takeExc c pc status va (mmuFault c 5 lvl va acc user d1)
    | some (cause, lvl) => takeExc c pc status va (mmuFault c cause lvl va acc user r.2)
    | none => r.2
  | .icache => reportUnit 0x3B 0x01 .corrected 0 0 (satAdd CTL_CACHE_CNT_icache 1 d)
  | .dcache => reportUnit 0x3B 0x01 .corrected 0 0 (satAdd CTL_CACHE_CNT_dcache 1 d)
  | .tlb i =>
    reportUnit (0x36 + c) 0x01 .corrected 0x700A c (raise 0x700A c (modCore c (fun x => { x with tlb := x.tlb.eraseIdx i }) d))
  | .dmaTlb ch i =>
    reportUnit 0x3A 0x01 .corrected 0x700A 4 (raise 0x700A 4 (modDch ch.val (fun x => { x with tlb := x.tlb.eraseIdx i }) d))
  | _ => d

/-! ### DMA -/

/-- A write of CTL_DMA_HEAD (R378, R384). -/
def dmaHeadOp (ch : Nat) (v : Word) (d : Dev) : Dev := dmaActivate ch (setF (CTL_DMA_HEAD_index ch) v.toNat d)

/-- DMA_HEAD_WRITE (R378). -/
def execDmaHeadWrite (r : Req) (ch : Fin 16) (v : Word) (s : State) : Host.Outcome State Fault Refusal :=
  s.upd (guardWrite r (CTL_DMA_HEAD ch.val) (dmaHeadOp ch.val v))

/-- A write of CTL_DMA_CFG (R384): enable := 0 makes the channel Idle. -/
def dmaCfgOp (r : Req) (ch : Nat) (v : Word) (d : Dev) : Dev :=
  let d1 := fieldWrite r (CTL_DMA_CFG ch) v d
  if bitAt v 0 then dmaActivate ch d1 else doIf (dmaState d ch != 0) (dmaDisable ch) d1

/-- The oldest descriptor is complete, or was found invalid: it retires (R378). -/
def retireOp (ch : Nat) (d : Dev) : Dev :=
  match dmaFront d ch, (dch d ch).bad with
  | some _, some cause => dmaGoOn ch (dmaRetire ch 3 cause d)
  | some (_, ws), none => if (dch d ch).done = descLen ws then dmaGoOn ch (dmaRetire ch 0 0 d) else d
  | none, _ => d

/-- DESCRIPTOR_RETIRE (R378). -/
def execDescriptorRetire (ch : Fin 16) (s : State) : Host.Outcome State Fault Refusal :=
  s.upd (fun d => doIf (dmaOn d && dmaState d ch.val == 1) (retireOp ch.val) d)

/-- DMA_PARK (R382): an error that the data does not show, such as bad parity in the channel's own state or a failed job. -/
def execDmaPark (ch : Fin 16) (cause : Fin 16) (side : Bool) (va : Nat) (s : State) : Host.Outcome State Fault Refusal :=
  s.upd (fun d => doIf (dmaOn d && dmaState d ch.val == 1 && decide (1 ≤ cause.val) && decide (cause.val ≤ 10))
    (dmaParkOp ch.val cause.val side (memBoth d ch.val) va) d)

/-- A CTL_DMA_CMD command that fits the state of its channel (R383). -/
def dmaCmd (fits : Bool) (f : Dev → Dev) (d : Dev) : Dev := if fits then f (ctlResult 0 d) else ctlResult 3 d

/-- CTL_DMA_CMD.resume: a parked channel whose record is resumable, or a paused one. -/
def dmaResumeOp (ch : Nat) (d : Dev) : Dev :=
  dmaCmd ((dmaState d ch == 3 && bitAt (rd d (CTL_DMA_RES ch 0)) 21) || dmaState d ch == 2) (setF (CTL_DMA_STATE_state ch) 1) d

/-- DMA_RESUME (R383). -/
def execDmaResume (r : Req) (ch : Fin 16) (s : State) : Host.Outcome State Fault Refusal :=
  s.upd (guardWrite r (CTL_DMA_CMD ch.val) (dmaResumeOp ch.val))

/-- CTL_DMA_CMD.pause. -/
def dmaPauseOp (ch : Nat) (d : Dev) : Dev := dmaCmd (dmaState d ch == 1) (setF (CTL_DMA_STATE_state ch) 2) d

/-- DMA_PAUSE (R381). -/
def execDmaPause (r : Req) (ch : Fin 16) (s : State) : Host.Outcome State Fault Refusal :=
  s.upd (guardWrite r (CTL_DMA_CMD ch.val) (dmaPauseOp ch.val))

/-- CTL_DMA_CMD.skip: the parked descriptor retires with result 2; one that could not be fetched is passed over. -/
def dmaSkipOp (ch : Nat) (d : Dev) : Dev :=
  dmaCmd (dmaState d ch == 3) (fun x => dmaGoOn ch (dmaRetire ch 2 0 x)) d

/-- DMA_SKIP (R383). -/
def execDmaSkip (r : Req) (ch : Fin 16) (s : State) : Host.Outcome State Fault Refusal :=
  s.upd (guardWrite r (CTL_DMA_CMD ch.val) (dmaSkipOp ch.val))

/-- CTL_DMA_CMD.abort. -/
def dmaAbortCmd (ch : Nat) (d : Dev) : Dev := dmaCmd (dmaState d ch != 0) (dmaAbortOp ch) d

/-- DMA_ABORT (R383). -/
def execDmaAbort (r : Req) (ch : Fin 16) (s : State) : Host.Outcome State Fault Refusal :=
  s.upd (guardWrite r (CTL_DMA_CMD ch.val) (dmaAbortCmd ch.val))

end Sys2Proof.Machine
end

