-- ==== Sys2Proof/Machine/BndOps.lean ====
section
/-! DEFINITION. What a frame carries of the error bound (spec/07_error_bound.md): the bound with a path component, the
clockAccuracy codes (R178), the root dispersion (R179), the bound body (R180) and its TLV (R181). The ledger's own epoch
step is in Ledger.lean. -/

namespace Sys2Proof.Machine

open Sys2Proof

/-- A bound at this value is unknown (R164). -/
def boundMax : Nat := 2 ^ 48 - 1

/-- BND_PATH_DSG: a field of 0 selects the reset value. -/
def dsgPath (d : Dev) (cal : Bool) : Nat :=
  let v := fld d (if cal then BND_PATH_DSG_cal else BND_PATH_DSG_uncal)
  if v = 0 then (if cal then 5000 else 20000) else v

/-- BND_SUM. -/
def bndSum (d : Dev) : Nat := rd64 d BND_SUM_LO % 2 ^ 48

/-- The bound is unknown (R164). -/
def bndUnknown (d : Dev) : Bool := flag d BND_STATUS_unknown || decide (bndSum d = boundMax)

/-- B_PATH of entry `p` at the last epoch (R173). -/
def pathNow (d : Dev) (p : Nat) : Nat := (d.bnd.paths[p]?).getD (rdN d (BND_PATH p))

/-- The bound with B_PATH of entry `p` (0 to 7 a port, 8 the drive segment): the sum plus the path, saturated (R164, R173). -/
def boundOn (d : Dev) (p : Nat) : Nat :=
  if bndUnknown d then boundMax else satU 48 (bndSum d + pathNow d p)

/-- The limits of R178 in units of 0.1 ps, with their codes in order from 0x17. -/
def accLimits : List Nat :=
  [10, 25, 100, 250, 1000, 2500, 10000, 25000, 100000, 250000, 1000000, 2500000, 10000000, 25000000, 100000000,
   250000000, 1000000000, 2500000000, 10000000000, 25000000000, 100000000000, 250000000000, 1000000000000, 2500000000000,
   10000000000000, 100000000000000]

/-- The first code from `c` whose limit is at least the bound of `b` tenths of a picosecond; 0x31 above them all. -/
def accFrom (b c : Nat) : List Nat → Nat
  | [] => 0x31
  | l :: ls => if b ≤ l then c else accFrom b (c + 1) ls

/-- clockAccuracy of a bound in picoseconds (R178): 0xFE while it is unknown. -/
def accuracyOf (unknown : Bool) (ps : Nat) : Nat :=
  if unknown || decide (boundMax ≤ ps) then 0xFE else accFrom (10 * ps) 0x17 accLimits

/-- NTP root dispersion of a bound in picoseconds (R179). -/
def rootDispersion (unknown : Bool) (ps : Nat) : Nat :=
  if unknown || decide (boundMax ≤ ps) then 0xFFFFFFFF else max 1 (ceilDiv (ps * 65536) (10 ^ 12))

/-- clockClass as advertised: the numerically larger of REF's class and the demand (R162, R175). -/
def advClass (d : Dev) : Nat := max (fld d REF_STATUS_class) (fld d BND_STATUS_demand)

/-- The active slot is Suspect. -/
def activeSuspect (d : Dev) : Bool :=
  flag d REF_STATUS_active_valid && decide (fld d (REF_SLOT_STATE_state (fld d REF_STATUS_active_slot)) = 3)

/-- The flags byte of the bound body (R180). -/
def boundFlags (d : Dev) (p : Nat) : Nat :=
  b2n (flag d BND_STATUS_holdover) + b2n (flag d TB_STATUS_time_valid) * 2 + b2n (activeSuspect d) * 4 +
    b2n (flag d BND_STATUS_aged) * 8 + b2n (decide (rdS64 d BND_FREEBOARD_LO < 0)) * 16 +
    b2n (flag d BND_STATUS_saturated) * 32 + b2n (decide (boundOn d p = boundMax)) * 64

/-- The 48-byte bound body of a frame on path entry `p` (R180), in network byte order. -/
def boundBody (d : Dev) (p : Nat) : List Byte :=
  beBytes 1 1 ++ beBytes 1 (boundFlags d p) ++ beBytes 1 (fld d BND_STATUS_advertised) ++ beBytes 1 0 ++
    beBytes 8 (boundOn d p) ++
    ([BND_B_REF_LO, BND_B_SERVO_LO, BND_B_HOLD_LO, BND_B_VOTE_LO, BND_B_TWIN_LO].flatMap
      (fun a => beBytes 4 (satU 32 (rd64 d a % 2 ^ 48)))) ++
    beBytes 4 (satU 32 (pathNow d p)) ++ beBytes 8 (rd64 d BND_EPOCH_LO) ++ beBytes 4 (rdN d BND_TRACE_SEQ)

end Sys2Proof.Machine
end

