-- ==== Sys2Proof/Machine/MeasOps.lean ====
section
/-! DEFINITION. The arithmetic and the scheduler of MEAS (spec/05_measurement.md): event stamps (R117), statistics (R123),
publication (R124) and the choice of channels (R125 to R128). -/

namespace Sys2Proof.Machine

open Sys2Proof

/-- A request's accumulators. -/
def mreq (d : Dev) (q : Nat) : MReq := cget (fun _ => mreqReset) d.meas.reqs q

/-- `d` with a request's accumulators replaced. -/
def setMreq (q : Nat) (x : MReq) (d : Dev) : Dev :=
  { d with meas := { d.meas with reqs := cput (fun _ => mreqReset) d.meas.reqs q x } }

/-- Register `a` of request `q`. -/
def reqReg (d : Dev) (a q : Nat) : Nat := rdN d (bank a q)

/-- Bits of MEAS_REQ_CFG of request `q`. -/
def reqCfg (d : Dev) (q lo n : Nat) : Nat := bitsOf (rd d (bank MEAS_REQ_CFG q)) lo n

/-- Class of a request (R125). -/
def reqClass (d : Dev) (q : Nat) : Nat := reqCfg d q 2 3

/-- State of a request: 0 Idle, 1 Waiting, 2 Running, 3 Held. -/
def reqState (d : Dev) (q : Nat) : Nat := bitsOf (rd d (bank MEAS_REQ_STATE q)) 0 2

/-- The requests. -/
def allReqs : List Nat := List.range 96

/-- Classes that are served now (R134): in Low water only 0, 1 and 3, class 0 in a GNSS wake. -/
def classServed (d : Dev) (p : Nat) : Bool :=
  if devState d = stLow then p == 1 || p == 3 || (p == 0 && d.pwr.wakeGnss) else true

/-- Request `q` waits for a channel: Waiting or Held, its due time reached (R126). -/
def reqWaits (d : Dev) (q : Nat) : Bool :=
  (reqState d q == 1 || reqState d q == 3) && due (mreq d q).due (near d) && classServed d (reqClass d q)

/-- Channel time added to a class. -/
def loadAdd (l : Cells Nat) (p n : Nat) : Cells Nat := cput (fun _ => 0) l p (cget (fun _ => 0) l p + n)

/-- The channel time of R129 counted up to now: a running request is granted its channel and demands it, one that waits demands it since
its due time. -/
def loadSync (d : Dev) : Dev :=
  let t := now16 d
  let span := t - d.meas.loadAt
  if t = d.meas.loadAt then d
  else
    let run := allReqs.filter (fun q => reqState d q == 2)
    let wait := allReqs.filter (reqWaits d)
    let g := run.foldl (fun l q => loadAdd l (reqClass d q) span) d.meas.loadG
    let dm := wait.foldl (fun l q => loadAdd l (reqClass d q) (min span (nearDiff (near d) (mreq d q).due).toNat))
      (run.foldl (fun l q => loadAdd l (reqClass d q) span) d.meas.loadD)
    { d with meas := { d.meas with loadG := g, loadD := dm, loadAt := t } }

/-- `d` with the state of a request set. -/
def setReqState (q st : Nat) (d : Dev) : Dev := setF ⟨bank MEAS_REQ_STATE q, 0, 2⟩ st (loadSync d)

/-- A 64-bit quantity of request `q`. -/
def reqReg64 (d : Dev) (a q : Nat) : Nat := rd64 d (bank a q)

/-- MEAS is in service: on, neither of its whole-block units Fenced or in test (R32, R405). -/
def measOn (d : Dev) : Bool :=
  domOn d .meas && !(unitOut d 5) && !(unitOut d 6)

/-- The domain of a source code delivers edges (R120, R23): 0x00 and unlisted codes deliver none. -/
def srcOn (d : Dev) (c : Nat) : Bool :=
  if 1 ≤ c ∧ c ≤ 8 then true
  else if 0x10 ≤ c ∧ c ≤ 0x13 then true
  else if 0x20 ≤ c ∧ c ≤ 0x2F then (if c < 0x28 then domOn d .sya else domOn d .syb)
  else if 0x30 ≤ c ∧ c ≤ 0x33 then (if c < 0x32 then domOn d .sya else domOn d .syb)
  else if 0x40 ≤ c ∧ c ≤ 0x5F then domOnN d (10 + c % 16 / 4)
  else if 0x60 ≤ c ∧ c ≤ 0x63 then domOn d .gnss
  else if c = 0x68 then domOn d .tb
  else if c = 0x70 ∨ c = 0x71 then domOn d .tb
  else if c = 0x78 ∨ c = 0x7F then true
  else if c = 0x7C ∨ c = 0x7D then domOn d .tb
  else false

/-- The event stamp of a capture of phase code `c` on channel `ch` from source `src` at the current tick (R117). Units of
2^-110 ns inside, rounded to the nearest 2^-16 ns with ties toward plus infinity. -/
def stampOf (d : Dev) (ch src c : Nat) : Nat :=
  let live := domOn d .tb && flag d TB_STATUS_seeded
  let tk := if live then chanT (leadChan d) else d.meas.tick * 2 ^ 56 / 5
  let f := if live then chanF (leadChan d) else 0
  let pos := fld d ⟨bank MEAS_INL_POS c, 0, 16⟩
  let dsrc : Int := (fld d (MEAS_SRC_DLY_d_src src) : Nat)
  let dch := sx 16 (fld d (MEAS_SKEW_d_ch ch))
  let scaled : Int := (tk : Int) * 2 ^ 18 - (pos : Int) * (2 ^ 56 + f) - (dsrc + dch) * 2 ^ 56
  wrapN 64 (roundDiv scaled (2 ^ 56))

/-- The residual of a stamp against the grid P (R122): in [−P/2, P/2), or the plain difference with P = 0. -/
def residual (stamp anchor p : Nat) : Int :=
  let df := nearDiff stamp anchor
  if p = 0 then df else let r := df % (p : Int); if (p : Int) ≤ 2 * r then r - p else r

/-- `a / b` rounded to nearest, ties away from zero. -/
def divAway (a : Int) (b : Nat) : Int :=
  if 0 ≤ a then (2 * a + b) / (2 * (b : Int)) else - ((2 * -a + b) / (2 * (b : Int)))

/-- The mean of the accumulators (R123). -/
def mreqMean (x : MReq) : Int := if x.n = 0 then 0 else divAway x.sum x.n

/-- The standard deviation of the accumulators (R123): exact before rounding, 0 when n is 1, saturated to 32 bits. -/
def mreqStd (x : MReq) : Nat :=
  if x.n ≤ 1 then 0
  else
    let num := ((x.n * x.sq : Nat) : Int) - x.sum * x.sum
    min ((isqrt ((4 * num.toNat) / (x.n * (x.n - 1))) + 1) / 2) (2 ^ 32 - 1)

/-- A sample added to request `q` (R122, R123): outside the 48-bit range it is counted as over-range and excluded. -/
def addSample (q : Nat) (x : Int) (stamp : Nat) (d : Dev) : Dev :=
  let r := mreq d q
  if satS 48 x ≠ x then setMreq q { r with ovf := true } d
  else
    let seq := rdN d MEAS_CAL_SEQ
    pmcAdd 0x0901 1 (setMreq q
      { r with n := r.n + 1, sum := r.sum + x, sq := r.sq + (x * x).toNat
               mn := if r.n = 0 then x else min r.mn x
               mx := if r.n = 0 then x else max r.mx x
               age := stamp, cal := seq, cal0 := if r.n = 0 then seq else r.cal0
               uncal := r.uncal || !(flag d MEAS_STATUS_cal_valid) } d)

/-- The result of request `q` published with its flags (R123, R124, R133). -/
def publish (q : Nat) (step preempted : Bool) (d : Dev) : Dev :=
  let r := mreq d q
  let flags := b2n (decide (0 < r.n)) + b2n step * 2 + b2n preempted * 4 + b2n (r.cal != r.cal0) * 8 +
    b2n (r.uncal || !(flag d MEAS_STATUS_cal_valid)) * 16 +
    b2n r.timeout * 32 + b2n r.ovf * 64
  let d1 := wrN (bank MEAS_RES_FLAGS q) flags (wrN (bank MEAS_RES_REQN q) r.reqN (wrN (bank MEAS_RES_CNT q) r.n d))
  let d2 := wrS64 (bank MEAS_RES_MEAN_LO q) (mreqMean r) (wrN (bank MEAS_RES_STD q) (mreqStd r) d1)
  let d3 := wrS64 (bank MEAS_RES_MIN_LO q) r.mn (wrS64 (bank MEAS_RES_MAX_LO q) r.mx d2)
  let d4 := wrN (bank MEAS_RES_CAL q) r.cal (wr64 (bank MEAS_RES_AGE_LO q) r.age d3)
  setMreq q { r with lastRes := near d, starved := false } d4

/-- Accumulators cleared for the next run, with the N in force then (R125); an N of 0 is taken as 1 (log entry 131). -/
def clearAcc (q : Nat) (d : Dev) : Dev :=
  let r := mreq d q
  setMreq q { mreqReset with due := r.due, lastRes := r.lastRes, starved := r.starved, chan := r.chan, startNo := r.startNo
                             stopping := r.stopping, stopBy := r.stopBy, reqN := atLeast1 (reqReg d MEAS_REQ_N q) } d

/-- The channel of a request given back (R126). -/
def releaseChan (q : Nat) (d : Dev) : Dev :=
  match (mreq d q).chan with
  | none => d
  | some c =>
    let d1 := setMreq q { mreq d q with chan := none, stopping := false, pend := none } d
    doIf (fld d (MEAS_CH_OWN_state c) == 1) (fun x => setF (MEAS_CH_OWN_state c) 0 (setF (MEAS_CH_OWN_req c) 0
      (setF (MEAS_CH_OWN_class c) 0 x))) d1

/-- A request after its published result: Waiting at its next due time, or Idle with enable cleared when repeat is 0
(R128). -/
def afterResult (q : Nat) (d : Dev) : Dev :=
  let rep := reqReg64 d MEAS_REQ_REPEAT_LO q
  let d1 := clearAcc q (releaseChan q d)
  if rep = 0 then setF ⟨bank MEAS_REQ_CFG q, 0, 1⟩ 0 (setReqState q 0 d1)
  else setReqState q 1 (setMreq q { mreq d1 q with due := ((mreq d1 q).due + rep) % 2 ^ 64 } d1)

/-- A request enabled: Waiting, due now (R128). Its age limit counts from here until a result is published (log entry 131). -/
def reqEnable (q : Nat) (d : Dev) : Dev :=
  setReqState q 1 (setMreq q { mreqReset with due := near d, lastRes := near d, reqN := atLeast1 (reqReg d MEAS_REQ_N q) }
    (setF ⟨bank MEAS_REQ_CFG q, 0, 1⟩ 1 d))

/-- A request disabled: Idle. -/
def reqDisable (q : Nat) (d : Dev) : Dev :=
  setF ⟨bank MEAS_REQ_CFG q, 0, 1⟩ 0 (setReqState q 0 (setMreq q mreqReset (releaseChan q d)))

/-- A client's request posted from its own configuration (R31, R122): mode, class, sources, prescaler, N, repeat period and
owner. -/
def postReq (q owner mode cls src stop presc n rep : Nat) (d : Dev) : Dev :=
  let cfg := mode * 2 + cls * 4 + src * 2 ^ 8 + stop * 2 ^ 16 + owner * 2 ^ 24 + reqCfg d q 0 1
  let d1 := wrN (bank MEAS_REQ_CFG q) cfg (wrN (bank MEAS_REQ_PRESC q) presc (wrN (bank MEAS_REQ_N q) n d))
  let d2 := wr64 (bank MEAS_REQ_REPEAT_LO q) rep d1
  doIf (reqCfg d q 0 1 == 0) (reqEnable q) d2

/-! ### The scheduler -/

/-- The running requests of a class. -/
def grantedTo (d : Dev) (p : Nat) : Nat := (allReqs.filter (fun q => reqState d q == 2 && reqClass d q == p)).length

/-- The channels that may be granted: free, with no skew run due (R132). -/
def freeChans (d : Dev) : List Nat :=
  (List.range 24).filter (fun c => fld d (MEAS_CH_OWN_state c) == 0 && !(d.meas.skewDue.contains c) &&
    !(unitOut d (if c < 12 then 0x07 else 0x08)))

/-- Channels that MEAS_RESERVE keeps for other classes than `p` and that those do not yet hold (R126). -/
def reservedFor (d : Dev) (p : Nat) : Nat :=
  ((List.range 8).filter (fun c => c != p)).foldl (fun acc c => acc + (fld d (MEAS_RESERVE_channels c) - grantedTo d c)) 0

/-- A channel may be granted to class `p`. -/
def chanFor (d : Dev) (p : Nat) : Option Nat :=
  if reservedFor d p < (freeChans d).length then (freeChans d).head? else none

/-- `a` is served before `b` (R126): lower class, then earlier due time by R20, then lower index. -/
def reqBefore (d : Dev) (a b : Nat) : Bool :=
  let df := nearDiff (mreq d a).due (mreq d b).due
  if reqClass d a ≠ reqClass d b then decide (reqClass d a < reqClass d b)
  else if df ≠ 0 then decide (df < 0) else decide (a < b)

/-- `q` put into a list in the order of `before`. -/
def insertReq (before : Nat → Nat → Bool) (q : Nat) : List Nat → List Nat
  | [] => [q]
  | x :: xs => if before q x then q :: x :: xs else x :: insertReq before q xs

/-- The requests that wait, first served first (R126). -/
def waitList (d : Dev) : List Nat := (allReqs.filter (reqWaits d)).foldl (fun l q => insertReq (reqBefore d) q l) []

/-- The waiting request that is served next, with its channel: the first for which a channel may be granted (R126). -/
def nextGrant (d : Dev) : Option (Nat × Nat) := (waitList d).findSome? (fun q => (chanFor d (reqClass d q)).map (fun c => (q, c)))

/-- The requests of SYN's calibrations. -/
def isCalReq (q : Nat) : Bool := decide (36 ≤ q ∧ q < 56)

/-- Channel `c` granted to request `q` (R126, R128): a Held request goes on with its accumulators. A calibration request that starts takes the
whole second before as its anchor (R201). -/
def grant (q c : Nat) (d0 : Dev) : Dev :=
  let d := doIf (isCalReq q && reqState d0 q != 3) (wr64 (bank MEAS_REQ_ANCHOR_LO q) (now16 d0 / sec16 * sec16 % 2 ^ 64)) d0
  let d1 := if reqState d q = 3 then d else clearAcc q d
  let d2 := setMreq q { mreq d1 q with chan := some c, startNo := d.meas.grants, stopping := false, pend := none } d1
  let d3 := { d2 with meas := { d2.meas with grants := d2.meas.grants + 1 } }
  setReqState q 2 (setF (MEAS_CH_OWN_state c) 1 (setF (MEAS_CH_OWN_class c) (reqClass d q) (setF (MEAS_CH_OWN_req c) q d3)))

/-- A running request that preemption has marked and that has not stopped yet. -/
def stoppingReqs (d : Dev) : List Nat := allReqs.filter (fun q => reqState d q == 2 && (mreq d q).stopping)

/-- The running request that class `p` preempts (R127): the highest class above `p`, of those the one that started last. -/
def victim (d : Dev) (p : Nat) : Option Nat :=
  (allReqs.filter (fun q => reqState d q == 2 && !((mreq d q).stopping) && decide (p < reqClass d q))).foldl
    (fun b q => match b with
      | none => some q
      | some x =>
        if reqClass d x < reqClass d q then some q
        else if reqClass d x = reqClass d q ∧ (mreq d x).startNo < (mreq d q).startNo then some q else some x) none

/-- A preempted request that has finished its sample goes to Held (R127); a completed one keeps its result. -/
def holdIfStopping (q : Nat) (d : Dev) : Dev :=
  let r := mreq d q
  if r.stopping && decide (r.n < r.reqN) then setReqState q 3 (releaseChan q d) else d

/-- Request `q` preempted (R127): an INTERVAL request without a start that waits has no sample to finish and stops at once; a STAMP request
stops with its next source edge, within one source period. -/
def preempt (q : Nat) (d : Dev) : Dev :=
  let r := mreq d q
  let d1 := pmcAdd 0x0902 1 (setMreq q { r with stopping := true, stopBy := (near d + reqReg64 d MEAS_REQ_P_LO q) % 2 ^ 64 } d)
  doIf (reqCfg d q 1 1 == 1 && r.pend.isNone) (holdIfStopping q) d1

/-- The preempted STAMP requests whose source period has passed stop (R127). -/
def stopLate (d : Dev) : Dev :=
  forEach ((stoppingReqs d).filter (fun q => reqCfg d q 1 1 == 0 && due (mreq d q).stopBy (near d))) holdIfStopping d

/-- Skew runs start on the free channels whose skew is due (R132), on all of them at once (log entry 131). -/
def startSkews (d : Dev) : Dev :=
  forEach (d.meas.skewDue.filter (fun c => fld d (MEAS_CH_OWN_state c) == 0)) (fun c x => setF (MEAS_CH_OWN_state c) 2 x) d

/-- One decision of the scheduler (R126, R127, R132): a grant, or a preemption for the first waiting request that no stopping request
already makes room for. -/
def schedule (d : Dev) : Dev :=
  let d1 := startSkews (stopLate d)
  if d1.meas.initCal then d1
  else
    match nextGrant d1 with
    | some (q, c) => grant q c d1
    | none =>
      match (waitList d1)[(stoppingReqs d1).length]? with
      | none => d1
      | some q =>
        match victim d1 (reqClass d1 q) with
        | none => d1
        | some v => preempt v d1

/-- A channel fenced (R124, R132, R405): the request that ran on it waits again with its accumulators cleared. -/
def fenceMch (c : Nat) (d : Dev) : Dev :=
  let q := fld d (MEAS_CH_OWN_req c)
  let d1 := doIf (fld d (MEAS_CH_OWN_state c) == 1) (fun x => setReqState q 1 (clearAcc q (releaseChan q x))) d
  setF (MEAS_CH_OWN_state c) 3 { d1 with meas := { d1.meas with
    out := c :: d1.meas.out.filter (fun x => x != c), skewDue := d1.meas.skewDue.filter (fun x => x != c) } }

/-- A channel gives its request back while its unit is in self-test (R405, R410). -/
def pauseMch (c : Nat) (d : Dev) : Dev :=
  let q := fld d (MEAS_CH_OWN_req c)
  doIf (fld d (MEAS_CH_OWN_state c) == 1) (fun x => setReqState q 1 (clearAcc q (releaseChan q x))) d

/-- A fenced channel back in service. -/
def admitMch (c : Nat) (d : Dev) : Dev :=
  doIf (fld d (MEAS_CH_OWN_state c) == 3) (setF (MEAS_CH_OWN_state c) 0)
    { d with meas := { d.meas with out := d.meas.out.filter (fun x => x != c) } }

/-- PD_MEAS lost or fenced (R134): every request is Waiting with cleared accumulators, no result is published. -/
def measLoss (d : Dev) : Dev :=
  let d1 := forEach allReqs (fun q x =>
    if reqState x q = 0 then x else setReqState q 1 (clearAcc q (releaseChan q x))) d
  { d1 with meas := { d1.meas with shadow := none, holdEnd := [], startAt := [], skewDue := [], initCal := true } }

/-- The first time on a repeating request's grid after now (R134). -/
def nextOnGrid (due0 rep now : Nat) : Nat :=
  let late := - nearDiff due0 now
  if late < 0 then due0 else (due0 + (late.toNat / rep + 1) * rep) % 2 ^ 64

/-- PD_MEAS back in service (R133, R134): a fast INL run and a skew run of every channel that is not fenced, and the due times moved on. -/
def measReturn (d0 : Dev) : Dev :=
  let d := forEach d0.meas.out (fun c => setF (MEAS_CH_OWN_state c) 3) d0
  let d1 := forEach allReqs (fun q x =>
    let rep := reqReg64 x MEAS_REQ_REPEAT_LO q
    if reqState x q = 0 ∨ rep = 0 then x
    else setMreq q { mreq x q with due := nextOnGrid (mreq x q).due rep (near x) } x) d
  setF MEAS_STATUS_cal_busy 1 { d1 with meas := { d1.meas with
    initCal := true, fullRun := false, skewDue := (List.range 24).filter (fun c => !(d1.meas.out.contains c))
    loadD := [], loadG := [], loadAt := now16 d, loadSec := taiSec d, inlAt := now16 d } }

/-- `n` ticks pass for MEAS. -/
def measTick (n : Nat) (d : Dev) : Dev := doIf (domOn d .meas) (fun x => { x with meas := { x.meas with tick := x.meas.tick + n } }) d

/-- The effect of a step or set on the measurements (R119): running STAMP accumulations end and are to be published with
step = 1 (their requests are returned); a start that waits for its stop is discarded. -/
def stepEnds (d : Dev) : List Nat × Dev :=
  let running := allReqs.filter (fun q => reqState d q == 2)
  (running.filter (fun q => reqCfg d q 1 1 == 0),
   forEach (running.filter (fun q => reqCfg d q 1 1 == 1)) (fun q x => setMreq q { mreq x q with pend := none } x) d)

/-! ### Calibration -/

/-- The INL table of a code-density run (R130): pos[c] := round(52,428.8 × (Σ_(j<c) h[j] + h[c]/2) / H). -/
def inlTable (h : Nat) : Nat → List Nat → List Nat
  | _, [] => []
  | acc, x :: xs => ((524288 * (2 * acc + x) + 10 * h) / (20 * h)) :: inlTable h (acc + x) xs

/-- The largest |INL| over all codes in units of 2^-16 ns, rounded to nearest (R130): the INL of code c is pos[c] − c × 204.8. -/
def inlPeak (pos : List Nat) : Nat :=
  (pos.foldl (fun (p : Nat × Nat) x => (p.1 + 1, max p.2 (((5 * x : Nat) : Int) - (1024 * p.1 : Nat)).natAbs)) (0, 0)).2 |>
    fun m => (2 * m + 5) / 10

end Sys2Proof.Machine
end

