-- ==== Sys2Proof/Machine/RefOps.lean ====
section
/-! DEFINITION. REF (spec/06_references_holdover.md): results and qualification (R139 to R142), selection (R143 to R145),
disagreement (R146, R147), history and prediction (R148 to R152), servo, steering and clock class (R153 to R162). -/

namespace Sys2Proof.Machine

open Sys2Proof

/-! ### Rationals -/

/-- `num / den` rounded to nearest, ties away from zero. -/
def Ratio.away (x : Ratio) : Int := divAway x.num x.den

/-- `num / den` rounded to nearest, ties toward zero (R151). -/
def Ratio.toZero (x : Ratio) : Int :=
  if 0 ≤ x.num then (2 * x.num + x.den - 1) / (2 * (x.den : Int)) else - ((2 * -x.num + x.den - 1) / (2 * (x.den : Int)))

/-- |num / den| exceeds `w` × 10^-12. -/
def Ratio.above (x : Ratio) (w : Nat) : Bool := decide (w * x.den < x.num.natAbs * 10 ^ 12)

/-- |num / den| is at most `w` × 10^-12 / `k`. -/
def Ratio.within (x : Ratio) (w k : Nat) : Bool := decide (k * x.num.natAbs * 10 ^ 12 ≤ w * x.den)

/-- The difference of two fractions. -/
def Ratio.sub (x y : Ratio) : Ratio := { num := x.num * y.den - y.num * x.den, den := x.den * y.den }

/-! ### Slots -/

/-- Hidden state of a slot. -/
def rslot (d : Dev) (s : Nat) : RSlot := cget (fun _ => rslotReset) d.ref.slots s

/-- `d` with a slot's hidden state replaced. -/
def setRslot (s : Nat) (x : RSlot) (d : Dev) : Dev :=
  { d with ref := { d.ref with slots := cput (fun _ => rslotReset) d.ref.slots s x } }

/-- Kind of a slot (R136). -/
def slotKind (d : Dev) (s : Nat) : Nat := fld d (REF_SLOT_CFG_kind s)

/-- The kind is time-capable (R136). -/
def timeCapable (k : Nat) : Bool := [2, 4, 5, 6].contains k

/-- State of a slot: 0 Disqualified, 1 Qualifying, 2 Qualified, 3 Suspect (R141). -/
def slotState (d : Dev) (s : Nat) : Nat := fld d (REF_SLOT_STATE_state s)

/-- A slot is active. -/
def refActive (d : Dev) : Option Nat :=
  if flag d REF_STATUS_active_valid then some (fld d REF_STATUS_active_slot) else none

/-- The grid P of a slot of kinds 0x1 to 0x3, held in its MEAS request (R137). -/
def slotP (d : Dev) (s : Nat) : Nat := reqReg64 d MEAS_REQ_P_LO s

/-- The prescale that keeps the accepted edge rate at or below 1 MHz (R137). -/
def slotPresc (d : Dev) (s : Nat) : Nat := min 65536 (max 1 (ceilDiv 65536000 (atLeast1 (slotP d s))))

/-- The servo bandwidth in mHz, 1 to 10,000. -/
def servoBw (d : Dev) : Nat := min (max (fld d REF_SERVO_BW_mhz) 1) 10000

/-- The update interval τ in ms (R137). -/
def tauMs (d : Dev) : Nat :=
  let t := max (min 1000 (50000 / servoBw d)) 1
  match refActive d with
  | some s => if 1 ≤ slotKind d s ∧ slotKind d s ≤ 3 then max t (ceilDiv (slotPresc d s * slotP d s) ms16) else t
  | none => t

/-- The MEAS source of a slot (R120, R136): REFIN pins from 0x01, lane recovered clocks from 0x40. -/
def slotSrc (d : Dev) (s : Nat) : Nat :=
  let x := fld d (REF_SLOT_CFG_source s)
  if slotKind d s = 3 then 0x40 + x % 16 else 1 + x % 8

/-- REF posts the request of a slot of kinds 0x1 to 0x3 (R137): class 1 with one result per τ for the active slot, class 4
with one result per second over 100 ms of edges otherwise. The request of slot s is request s (log entry 11). -/
def postSlot (s : Nat) (d : Dev) : Dev :=
  let k := slotKind d s
  if k = 0 ∨ 3 < k then d
  else
    let edge := slotPresc d s * slotP d s
    let act := refActive d == some s
    let span := if act then tauMs d else 100
    let rep := if act then tauMs d else 1000
    let n := max 1 (span * ms16 / atLeast1 edge)
    postReq s 0x0A 0 (if act then 1 else 4) (slotSrc d s) 0 (slotPresc d s) n (rep * ms16) d

/-- The seconds that REF_SLOT_STATE.qual_left shows when the Qualifying timer stands at `m` ms: the part rounded up, saturated to the field. -/
def qualLeft (d : Dev) (m : Nat) : Nat := min (ceilDiv (fld d REF_QUAL_qual_time * 1000 - m) 1000) 0xFFF

/-- A slot moves to a state with a cause (R141): event 0x2801. The Qualifying timer starts at 0, the time in Suspect at the current epoch. -/
def slotTo (s st cause : Nat) (d : Dev) : Dev :=
  let x := rslot d s
  let x1 := { x with qualMs := 0, susMs := if st = 3 then d.ref.ms else x.susMs, causeMs := if st = 3 then d.ref.ms else x.causeMs }
  let d1 := setF (REF_SLOT_STATE_cause s) cause (setF (REF_SLOT_STATE_state s) st (setRslot s x1 d))
  let d2 := setF (REF_SLOT_STATE_qual_left s) (if st = 1 then qualLeft d 0 else 0) d1
  let freq := (cause == 2 || cause == 3) && (st == 0 || st == 3) && refActive d == some s
  let mark := if x.hasOnset then rd64 d (REF_SLOT_ONSET_LO s) else d.ref.activeAt
  raise 0x2801 (s + st * 256 + cause * 4096)
    (doIf freq (fun y => { y with ref := { y.ref with rewind := some mark } }) d2)

/-! ### The prediction (R151) -/

/-- One second in units of 2^-16 ns as a divisor. -/
def secD : Nat := 65536000000000

/-- The prediction's source and its value at near time `t` (R151): 1 firmware model, 2 hardware fit, 3 summary. -/
def predict (d : Dev) (t : Nat) : Nat × Option Ratio :=
  match d.ref.model with
  | some (f0, f1, tf) => (1, some { num := f0 * secD + f1 * nearDiff t tf, den := secD })
  | none =>
    match d.ref.fit with
    | some f =>
      let dt := nearDiff t f.base * f.n2 - f.tb2
      if f.bd ≤ 0 then (2, some { num := f.s2, den := f.n2 })
      else (2, some { num := f.s2 * f.bd + f.bn * dt, den := f.n2 * f.bd.toNat })
    | none =>
      if flag d REF_HOLD_SUM_CTL_valid && fld d REF_HOLD_SUM_CTL_osc == fld d REF_TICK_SEL_current then
        (3, some { num := rdS64 d REF_HOLD_SUM_F0_LO * secD + sx 32 (rdN d REF_HOLD_SUM_F1) * nearDiff t (rd64 d REF_HOLD_SUM_T_LO)
                   den := secD })
      else (0, none)

/-- p(t), rounded and saturated (R151). -/
def predAt (d : Dev) (t : Nat) : Option Int := (predict d t).2.map (fun r => satS 48 r.toZero)

/-- An arbiter exists (R147). -/
def arbiter (d : Dev) : Bool :=
  flag d REF_ENS_CTL_valid || (flag d (REF_OSC_CFG_atomic (fld d REF_TICK_SEL_current)) && (predAt d (near d)).isSome)

/-! ### SyncE quality (R142) -/

/-- The order of SSM codes of a ql_option, best first. -/
def qlOrder (opt : Bool) : List Nat := if opt then [0x1, 0x0, 0x7, 0x4, 0xD, 0xA, 0xC, 0xE, 0xF] else [0x2, 0x4, 0x8, 0xB, 0xF]

/-- The place of a code in its order; a code that is not in it counts as the last. -/
def qlRank (opt : Bool) (q : Nat) : Nat := (qlOrder opt).findIdx (fun x => x == q)

/-- The slot fails the SyncE quality test (R140): below ql_min, or DNU or DUS. -/
def qlBad (d : Dev) (s : Nat) : Bool :=
  let opt := flag d (REF_SLOT_CFG_ql_option s)
  let q := qlRank opt (fld d (REF_SLOT_STATE_ql s))
  slotKind d s == 3 && (decide (qlRank opt (fld d (REF_SLOT_CFG_ql_min s)) < q) || decide ((qlOrder opt).length ≤ q + 1))

/-- The SSM of a received ESMC PDU, or none for 5 s, written (R142): a change raises event 0x280C, and a quality below ql_min is a hard cause. -/
def setQl (s q : Nat) (d : Dev) : Dev :=
  if fld d (REF_SLOT_STATE_ql s) = q % 16 then d
  else
    let d1 := raise 0x280C (s + q % 16 * 256) (setF (REF_SLOT_STATE_ql s) q d)
    if qlBad d1 s then setRslot s { rslot d1 s with hard := if (rslot d1 s).hard = 0 then 7 else (rslot d1 s).hard } d1 else d1

/-! ### The servo (R153 to R157) -/

/-- The slew remainder in units of 2^-16 ns, truncated toward 0 (TB_SLEW_REM). -/
def slewRem (d : Dev) : Int := (leadChan d).rem.tdiv (2 ^ 38)

/-- 2π × 10^40, truncated. -/
def twoPi40 : Nat := 62831853071795864769252867665590057683943

/-- √2 × 10^40, truncated. -/
def sqrt2_40 : Nat := 14142135623730950488016887242096980785696

/-- The mantissa of a gain num/den at exponent `e` (R154): round(K × 2^(e − 16)). -/
def gainM (num den e : Nat) : Nat := (2 * num * 2 ^ e + den * 2 ^ 16) / (2 * den * 2 ^ 16)

/-- The largest exponent, up to 31, at which the mantissa does not exceed 65,536 − 1 (R154). -/
def gainE (num den : Nat) : Nat → Nat
  | 0 => 0
  | e + 1 => if gainM num den (e + 1) ≤ 65535 then e + 1 else gainE num den e

/-- A gain as its code: mantissa and exponent (R154). -/
def gainCode (num den : Nat) : Nat := let e := gainE num den 31; min 65535 (gainM num den e) + e * 2 ^ 16

/-- Kp and Ki of R154 as codes, from REF_SERVO_BW and τ. -/
def derivedGains (d : Dev) : Nat × Nat :=
  let f := servoBw d
  (gainCode (f * sqrt2_40 * twoPi40 * 2 ^ 40) (10 ^ 80 * 2058 * 10 ^ 9),
   gainCode (twoPi40 * twoPi40 * f * f * tauMs d * 2 ^ 40) (10 ^ 80 * 2058 * 2058 * 10 ^ 12))

/-- REF_SERVO_KP and REF_SERVO_KI brought up to date, unless they are manual (R154). -/
def refreshGains (d : Dev) : Dev :=
  if flag d REF_SERVO_KP_manual then d else wrN REF_SERVO_KI (derivedGains d).2 (wrN REF_SERVO_KP (derivedGains d).1 d)

/-- round(K × e) for a gain code, K = M × 2^(16 − E) (R153): ties away from zero. -/
def gainMul (code : Nat) (e : Int) : Int := divAway (((code % 65536 : Nat) : Int) * e * 2 ^ 16) (2 ^ (code / 65536 % 32))

/-- The DAC of the tick oscillator: none with efc = 0 or a gain of 0 (R155). -/
def tickDac (d : Dev) : Option Nat :=
  let e := fld d (REF_OSC_CFG_efc (fld d REF_TICK_SEL_current))
  if e = 0 ∨ 2 < e then none else if rdN d (REF_EFC_GAIN (e - 1)) = 0 then none else some (e - 1)

/-- The code that DAC `n` takes at the next boundary. -/
def efcNext (d : Dev) (n : Nat) : Nat :=
  match d.ref.efcPend.find? (fun x => x.1 == n) with
  | some x => x.2
  | none => fld d (REF_EFC_CODE_code n)

/-- A code for DAC `n` at the next application boundary (R155). -/
def efcAt (n code : Nat) (d : Dev) : Dev :=
  { d with ref := { d.ref with efcPend := (n, code) :: d.ref.efcPend.filter (fun x => x.1 != n) } }

/-- `u` driven through DAC `n` (R155): the code for the next boundary and what remains for the frequency word. The event comes when the
code reaches its limit, not again while it stays there (log entry 136). -/
def driveDac (n : Nat) (u : Int) (d : Dev) : Int × Dev :=
  let g := sx 32 (rdN d (REF_EFC_GAIN n))
  let nom : Int := (fld d (REF_EFC_NOM_nom n) : Nat)
  let want := nom + (if 0 ≤ g then divAway u g.natAbs else - divAway u g.natAbs)
  let code := max 0 (min (2 ^ 24 - 1) want)
  let d1 := efcAt n code.toNat d
  if code = want then (0, d1)
  else (u - (code - nom) * g, doIf (efcNext d n != code.toNat) (raise 0x2809 n) (setF REF_STATUS_efc_clamp 1 d1))

/-- The servo output passed to the timescale by the steer mode (R155): it takes effect at the next application boundary. -/
def steer (i term : Int) (d : Dev) : Dev :=
  let put := fun (f : Int) (x : Dev) => { x with tb := { x.tb with newServo := some (satS 48 f) }, ref := { x.ref with servoOut := term } }
  match fld d REF_CTL_steer, tickDac d with
  | 1, some n => let r := driveDac n term d; put r.1 r.2
  | 2, some n => let r := driveDac n i d; put (term - i + r.1) r.2
  | _, _ => put term d

/-- The servo term in force (F_servo of R139). -/
def fServo (d : Dev) : Int := (leadChan d).servo

/-- A Standby follows (R352): its mirror is Valid or Held and TWN_CTL.follow_en is 1. -/
def follows (d : Dev) : Bool :=
  flag d TWN_CTL_en && flag d TWN_CTL_follow_en && decide (fld d TWN_STATUS_state = 1) && decide (2 ≤ fld d TWN_STATUS_mirror)

/-- The servo term is not the loop's: REF_CTL.direct, or the follow term of R352 in its place. -/
def directOn (d : Dev) : Bool := flag d REF_CTL_direct || follows d

/-- The PI loop on e_c (R153). -/
def servoUpdate (eC : Int) (d : Dev) : Dev :=
  let i0 := d.ref.iPend.getD d.ref.i
  let d0 := { d with ref := { d.ref with i := i0, iPend := none } }
  if !(flag d REF_CTL_servo_en) then d0
  else if directOn d then d0
  else
    let d1 := refreshGains d0
    let i1 := if flag d TB_STATUS_freq_sat then i0 else satS 48 (i0 - gainMul (rdN d1 REF_SERVO_KI) eC)
    let term := satS 48 (i1 - gainMul (rdN d1 REF_SERVO_KP) eC)
    steer i1 term (wrS64 REF_SERVO_I_LO i1 { d1 with ref := { d1.ref with i := i1 } })

/-- A slew amount added by REF (R99, R157). -/
def refSlew (a : Int) (d : Dev) : Dev := { d with tb := { d.tb with slewAdd := some (d.tb.slewAdd.getD 0 + a) } }

/-- The first phase error of a new active slot (R157): a step when the policy and the threshold permit it, else a slew; no
phase action while the chip follows (R352). -/
def phaseAction (e : Int) (d : Dev) : Dev :=
  let pol := fld d TB_STATUS_step_policy
  if follows d then d
  else if decide (1 ≤ pol) && decide (rdN d TB_STEP_THRESH * 65536 < e.natAbs) then
    let d1 := armStep (-e) { d with ref := { d.ref with stepPend := some (-e) } }
    if flag d1 TB_STATUS_step_pending && !(stepPending d) then d1 else refStepRefused d1
  else refSlew (-e) d

/-- A result of the active slot reaches the servo (R153, R156, R157): e_c, the lock window and the PI loop at each result, the phase action
on the first one of a time-capable slot in Acquire. -/
def servoResult (s : Nat) (e : Int) (d : Dev) : Dev :=
  let st := fld d REF_STATUS_servo
  let d0 := { d with ref := { d.ref with hasResult := true, lastUnc := fld d (REF_SLOT_UNC_unc s) } }
  if !(st == 1 || st == 2) then d0
  else
    let freq := !(timeCapable (slotKind d s))
    let first := if d.ref.phase then e else d.ref.eFirst
    let eN := if freq then e - first else e
    let rem := slewRem d
    let eC := eN + rem
    let win := fld d REF_LOCK_win * 65536
    let ok := decide (eC.natAbs * 1000 ≤ win) && decide (rem = 0)
    let bad := if 4 * win < eC.natAbs * 1000 then d.ref.bad + 1 else 0
    let good := if ok then some (d.ref.good.getD d.ref.ms) else none
    servoUpdate eC (wrS64 REF_OFFSET_LO eC (doIf (d.ref.phase && !freq) (phaseAction e)
      { d0 with ref := { d0.ref with phase := false, eFirst := first, eN := eN, eC := eC, good := good, bad := bad } }))

/-! ### Results (R139 to R141) -/

/-- The hard cause of a result, 0 for none (R140). -/
def hardCause (d : Dev) (s : Nat) (dv : Option Ratio) (e : Int) (jitNum jitDen : Nat) (invalid : Bool) : Nat :=
  let fh := rdN d (REF_SLOT_FHARD s)
  let ph := fld d (REF_SLOT_PWIN_hard s)
  let jw := fld d (REF_SLOT_JWIN_jitter s)
  if decide (fh ≠ 0) && (match dv with | some r => r.above fh | none => false) then 3
  else if timeCapable (slotKind d s) && decide (ph ≠ 0) && decide (ph * 65536 < e.natAbs) then 5
  else if jw ≠ 0 ∧ jw * jitDen < jitNum then 6
  else if qlBad d s then 7
  else if invalid then 10
  else 0

/-- The soft cause of a result, 0 for none (R140). -/
def softCause (d : Dev) (s : Nat) (dv : Option Ratio) (e : Int) (suspect : Bool) : Nat :=
  let fs := rdN d (REF_SLOT_FSOFT s)
  let ps := fld d (REF_SLOT_PWIN_soft s)
  if decide (fs ≠ 0) && (match dv with | some r => r.above fs | none => false) then 2
  else if timeCapable (slotKind d s) && decide (ps ≠ 0) && decide (ps * 65536 < e.natAbs) then 4
  else if suspect then 9
  else 0

/-- Δ wrapped into [−P/2, P/2) for kinds 0x1 to 0x3 (R139). -/
def wrapP (x : Int) (p : Nat) : Int := if p = 0 then x else let r := x % (p : Int); if (p : Int) ≤ 2 * r then r - p else r

/-- A new result of the active slot for the ledger: the unrequested step is measured (R168), and a result of full count without
flags ends a kept B_HOLD (R170). -/
def bndResult (info : RefInfo) (d : Dev) : Dev :=
  { d with bnd := { d.bnd with stepAdd := 0,
                               frozen := if decide (info.reqn ≤ info.count) && !info.flagged then none else d.bnd.frozen } }

/-- The fields of priority entry `i`: enable, slot, rank (R143). -/
def prioSlot (d : Dev) (i : Nat) : Option (Nat × Nat) :=
  if flag d (REF_PRIO_enable i) then some (fld d (REF_PRIO_slot i), fld d (REF_PRIO_rank i)) else none

/-- The best rank under which an enabled entry names slot `s` (R143). -/
def slotRank (d : Dev) (s : Nat) : Option Nat :=
  ((List.range 16).filterMap (prioSlot d)).foldl
    (fun b p => if p.1 = s then (match b with | none => some p.2 | some r => some (min r p.2)) else b) none

/-- |y_a − y_b| exceeds REF_DISAGREE_WIN (R146). -/
def disagrees (d : Dev) (a b : Nat) : Bool :=
  match (rslot d a).y, (rslot d b).y with
  | some ya, some yb => (ya.sub yb).above (rdN d REF_DISAGREE_WIN)
  | _, _ => false

/-- A result of slot `s` that agrees ends the time for which a pair of it has disagreed (R146: on every result). -/
def agreeNow (s : Nat) (d : Dev) : Dev :=
  { d with ref := { d.ref with apart := d.ref.apart.filter (fun p => !(p.1 == s || p.2.1 == s) || disagrees d p.1 p.2.1) } }

/-- A result or a fed sample of slot `s` (R139 to R141): e, Δ, y, d, the tests, the onset mark and the servo. The jitter
measure is jitNum / jitDen ps. -/
def takeResult (s : Nat) (e : Int) (t : Nat) (jitNum jitDen : Nat) (info : RefInfo) (step suspect invalid : Bool)
    (d : Dev) : Dev :=
  let x := rslot d s
  let pair := x.prevE.isSome && !step && decide (x.prevSteps = d.tb.stepCount) && decide (0 < nearDiff t x.prevT)
  let k := slotKind d s
  let dl0 := e - x.prevE.getD 0
  let dl := if 1 ≤ k ∧ k ≤ 3 then wrapP dl0 (slotP d s) else dl0
  let dt := (nearDiff t x.prevT).toNat
  let y : Option Ratio := if pair then some { num := -dl, den := dt } else none
  let dv : Option Ratio :=
    if pair then
      match predAt d t with
      | some p => some { num := -dl * 2 ^ 56 + (fServo d - p) * dt, den := dt * 2 ^ 56 }
      | none => y
    else none
  let hard := hardCause d s dv e jitNum jitDen invalid
  let soft := softCause d s dv e suspect
  let fs := rdN d (REF_SLOT_FSOFT s)
  let w := if fs = 0 then rdN d (REF_SLOT_FHARD s) else fs
  let onset := decide (w ≠ 0) && (match dv with | some r => r.within w 4 | none => false)
  let x1 := { x with prevE := if step then none else some e, prevT := t, prevSteps := d.tb.stepCount
                     y := if pair then y else x.y, d := if pair then dv else x.d
                     hard := if x.hard = 0 then hard else x.hard, soft := if x.soft = 0 then soft else x.soft
                     softLast := soft, pass2 := x.pass2 || (pair && hard == 0 && soft == 0)
                     lastMs := d.ref.ms, feedIv := d.ref.ms - x.lastMs, hasOnset := x.hasOnset || onset, info := some info }
  let d1 := agreeNow s (setRslot s x1 d)
  let d2 := match dv with
    | some r => wrN (REF_SLOT_DEV s) (wrapN 32 (satS 32 (divAway (r.num * 10 ^ 12) r.den))) d1
    | none => d1
  let d3 := wrN (REF_SLOT_ERR s) (wrapN 32 (satS 32 e)) (setF (REF_SLOT_STD_std s) (satU 24 ((2 * jitNum + jitDen) / (2 * jitDen))) d2)
  let d4 := doIf onset (wr64 (REF_SLOT_ONSET_LO s) t) d3
  doIf (refActive d == some s && !(flag d REF_STATUS_forced_hold)) (fun z => servoResult s e (doIf (!(follows z)) (bndResult info) z)) d4

/-- The published result of slot `s`'s MEAS request taken by REF (R139): e is the mean less REF_SLOT_OFS. -/
def slotResult (s : Nat) (d : Dev) : Dev :=
  let n := reqReg d MEAS_RES_CNT s
  let fl := reqReg d MEAS_RES_FLAGS s
  let d0 := postSlot s d
  if n = 0 then d0
  else
    let std := reqReg d MEAS_RES_STD s
    let e := sx 64 (reqReg64 d MEAS_RES_MEAN_LO s) - sx 32 (rdN d (REF_SLOT_OFS s))
    let t := reqReg64 d MEAS_RES_AGE_LO s
    let info : RefInfo := { std := std, u := 0, fed := false, count := n, reqn := reqReg d MEAS_RES_REQN s, age := t
                            calSeq := reqReg d MEAS_RES_CAL s, uncal := decide (fl / 16 % 2 = 1)
                            flagged := decide (fl / 2 ≠ 0) }
    takeResult s e t (std * 1000) 65536 info (decide (fl / 2 % 2 = 1)) false false d0

/-- A fed sample of slot `s` (R138): phase error, uncertainty in ps and flags. -/
def feedSample (s : Nat) (e : Int) (u : Nat) (suspect invalid : Bool) (d : Dev) : Dev :=
  let t := near d
  let info : RefInfo := { std := 0, u := u, fed := true, count := 1, reqn := 1, age := t, calSeq := rdN d MEAS_CAL_SEQ
                          uncal := false, flagged := suspect || invalid }
  takeResult s e t u 1 info false suspect invalid d

/-! ### Slot states at the epoch (R141, R144 step 1) -/

/-- The result interval of slot `s` in ms: of its MEAS request, or between the last two samples of a fed slot; 0 where there is none. -/
def resultIv (d : Dev) (s : Nat) : Nat :=
  let k := slotKind d s
  if 1 ≤ k ∧ k ≤ 3 then (if refActive d == some s then tauMs d else 1000) else (rslot d s).feedIv

/-- Ms since the last result of slot `s`. -/
def resultAge (d : Dev) (s : Nat) : Nat := d.ref.ms - (rslot d s).lastMs

/-- No result of slot `s` for 10 × its result interval (R141). -/
def unmeasured (d : Dev) (s : Nat) : Bool := decide (0 < resultIv d s) && decide (10 * resultIv d s ≤ resultAge d s)

/-- The disagreement that made slot `s` Suspect goes on (R147): with an arbiter |d| is beyond half the window, without one a pair of it still
disagrees. -/
def stillApart (d : Dev) (s : Nat) : Bool :=
  if arbiter d then (match (rslot d s).d with | some r => !(r.within (rdN d REF_DISAGREE_WIN) 2) | none => true)
  else d.ref.apart.any (fun p => p.1 == s || p.2.1 == s)

/-- The cause of a Suspect slot is present (R141). -/
def causeNow (d : Dev) (s : Nat) : Bool :=
  (rslot d s).softLast != 0 || unmeasured d s || (fld d (REF_SLOT_STATE_cause s) == 8 && stillApart d s)

/-- The timers of slot `s` at an epoch (R141): Qualifying runs while results arrive (log entry 137), and the last epoch at which a Suspect
slot's cause was present is kept. -/
def slotTimers (s : Nat) (d : Dev) : Dev :=
  let x := rslot d s
  let st := slotState d s
  if st = 1 then
    if resultAge d s ≤ 2 * resultIv d s then
      setF (REF_SLOT_STATE_qual_left s) (qualLeft d (x.qualMs + 1)) (setRslot s { x with qualMs := x.qualMs + 1 } d)
    else d
  else if st = 3 then (if causeNow d s then setRslot s { x with causeMs := d.ref.ms } d else d)
  else d

/-- The state of slot `s` after the results of the epoch (R141). -/
def slotStep (s : Nat) (d : Dev) : Dev :=
  let x := rslot d s
  let st := slotState d s
  let hard := if flag d (REF_SLOT_CFG_enable s) then x.hard else 0xB
  let d1 := setRslot s { x with hard := 0, soft := 0, pass2 := false } d
  if slotKind d s = 0 then d
  else if hard ≠ 0 then (if st = 0 then (if x = { x with hard := 0, soft := 0, pass2 := false } then d else d1) else slotTo s 0 hard d1)
  else if st = 0 then (if x.pass2 && x.soft == 0 then slotTo s 1 0 d1 else d1)
  else if x.soft ≠ 0 then (if st = 1 then slotTo s 0 x.soft d1 else if st = 2 then slotTo s 3 x.soft d1 else d1)
  else d1

/-! ### Arbitration (R146, R147) -/

/-- The arbiter judges a pair (R147): each slot within half the window returns to Qualified. -/
def judgePair (a b : Nat) (d : Dev) : Dev :=
  forEach [a, b] (fun s x =>
    match (rslot x s).d with
    | some r => doIf (slotState x s == 3 && r.within (rdN x REF_DISAGREE_WIN) 2) (slotTo s 2 0) x
    | none => x) d

/-- The entry of a pair in the list of disagreements. -/
def setDisagree (p : Disagree) (d : Dev) : Dev :=
  { d with ref := { d.ref with disagrees := d.ref.disagrees.map (fun q => if q.a = p.a ∧ q.b = p.b then p else q) } }

/-- Arbitration of one disagreement (R147): judged once by an arbiter, or the selection held with event 0x2805 once. -/
def arbitrate (p : Disagree) (d : Dev) : Dev :=
  if arbiter d then
    if p.judged then d else judgePair p.a p.b (setDisagree { p with judged := true } d)
  else if p.held then d
  else raise 0x2805 (p.a + p.b * 256) (setDisagree { p with held := true } d)

/-- The slot is Qualified or Suspect under an enabled entry. -/
def disagreeable (d : Dev) (a : Nat) : Bool := decide (2 ≤ slotState d a) && (slotRank d a).isSome

/-- A pair that R146 compares disagrees. -/
def pairApart (d : Dev) (a b : Nat) : Bool :=
  a != b && disagreeable d a && disagreeable d b && slotRank d a == slotRank d b && disagrees d a b

/-- The pairs that disagree now, each with the epoch count since which it has on every result (R146). -/
def apartStep (d : Dev) : Dev :=
  let l := (List.range 32).filter (disagreeable d)
  let now := l.flatMap (fun a => (l.filter (fun b => decide (a < b) && pairApart d a b)).map (fun b => (a, b)))
  { d with ref := { d.ref with
      apart := now.map (fun p => (p.1, p.2, match d.ref.apart.find? (fun q => q.1 == p.1 && q.2.1 == p.2) with
        | some q => q.2.2
        | none => d.ref.ms)) } }

/-- Disagreement and arbitration at the epoch (R144 step 2): pairs of which a slot left Suspect are over. -/
def disagreeStep (d0 : Dev) : Dev :=
  let d := apartStep d0
  let d1 := forEach d.ref.disagrees arbitrate d
  let live := d1.ref.disagrees.filter (fun p => slotState d1 p.a == 3 && slotState d1 p.b == 3)
  let d2 := { d1 with ref := { d1.ref with disagrees := live } }
  setB REF_STATUS_disagree_hold (live.any (fun p => p.held)) (setB REF_STATUS_arbiter (arbiter d) d2)

/-! ### Selection (R143 to R145) -/

/-- The candidates as (rank, entry, slot), in entry order (R143). -/
def candidates (d : Dev) : List (Nat × Nat × Nat) :=
  (List.range 16).filterMap (fun i =>
    match prioSlot d i with
    | some (s, r) =>
      if slotState d s = 2 ∧ slotKind d s ≠ 0 ∧ (timeCapable (slotKind d s) ∨ flag d TB_STATUS_time_valid) then some (r, i, s) else none
    | none => none)

/-- The best-ranked candidate, ties to the lower entry index (R144). -/
def bestCand (l : List (Nat × Nat × Nat)) : Option (Nat × Nat × Nat) :=
  l.foldl (fun b c => match b with | none => some c | some x => if c.1 < x.1 then some c else some x) none

/-- The revert mode of an entry resolves to revertive (R143). -/
def revertive (d : Dev) (i : Nat) : Bool :=
  let r := fld d (REF_PRIO_revert i)
  if r = 0 then d.img.revertive else r == 1

/-- The active entry changed (R144): event 0x2802; the requests' classes are exchanged at the next scheduling decision. -/
def setActive (n : Option (Nat × Nat)) (d : Dev) : Dev :=
  let old := fld d REF_STATUS_active_prio
  let oldS := refActive d
  let same := match n, oldS with
    | some (e, s), some s0 => e == old && s == s0
    | none, none => true
    | _, _ => false
  if same then d
  else
    let e := match n with | some (e, _) => e | none => 0
    let s := match n with | some (_, s) => s | none => 0
    let d1 := setB REF_STATUS_active_valid n.isSome (setF REF_STATUS_active_prio e (setF REF_STATUS_active_slot s d))
    let cls := fun (q c : Nat) (x : Dev) =>
      doIf (decide (1 ≤ slotKind x q) && decide (slotKind x q ≤ 3)) (setF ⟨bank MEAS_REQ_CFG q, 2, 3⟩ c) x
    let d2 := match oldS with | some q => cls q 4 d1 | none => d1
    let d3 := match n with | some (_, q) => cls q 1 d2 | none => d2
    raise 0x2802 (old + e * 16 + b2n n.isNone * 256)
      { d3 with ref := { d3.ref with changed := true, activeAt := near d3 } }

/-- The selection of an epoch (R144, R145, R147). -/
def selectStep (d : Dev) : Dev :=
  let e := fld d REF_STATUS_active_prio
  let act : Option Nat := match refActive d with
    | some s => if (prioSlot d e).map (·.1) = some s then some s else none
    | none => none
  let st : Nat := match act with | some s => slotState d s | none => 0
  let d1 := doIf (decide (st ≠ 2)) (setF REF_STATUS_manual 0) d
  if flag d1 REF_STATUS_disagree_hold && decide (st ≠ 0) then d1
  else
    let cs := candidates d1
    match act with
    | none => setActive ((bestCand cs).map (fun c => (c.2.1, c.2.2))) d1
    | some s =>
      if st = 0 then setActive ((bestCand cs).map (fun c => (c.2.1, c.2.2))) d1
      else if st = 3 then
        match bestCand cs with
        | some c => setActive (some (c.2.1, c.2.2)) d1
        | none => d1
      else if flag d1 REF_STATUS_manual then d1
      else
        let r := (slotRank d1 s).getD 16
        match bestCand (cs.filter (fun c => decide (c.1 < r) && c.2.2 != s)) with
        | some c => if revertive d1 c.2.1 then setActive (some (c.2.1, c.2.2)) d1 else d1
        | none => d1

/-! ### History (R148 to R152) -/

/-- Word `w` of ring entry number `n`. -/
def histWord (d : Dev) (n w : Nat) : Word := rd d (bank (REF_HIST_W w) (n % 4096))

/-- The entry is clean (R148: byte 23 bit 0). -/
def histClean (d : Dev) (n : Nat) : Bool := bitsOf (histWord d n 5) 24 1 == 1

/-- Near time of an entry. -/
def histTime (d : Dev) (n : Nat) : Nat := (histWord d n 0).toNat + 2 ^ 32 * (histWord d n 1).toNat

/-- Mean servo term of an entry (bytes 8–13). -/
def histServo (d : Dev) (n : Nat) : Int := sx 48 ((histWord d n 2).toNat + 2 ^ 32 * bitsOf (histWord d n 3) 0 16)

/-- Mean EFC code of an entry (bytes 20–22). -/
def histEfc (d : Dev) (n : Nat) : Nat := bitsOf (histWord d n 5) 0 24

/-- The first entry number still in the ring. -/
def histFirst (d : Dev) : Nat := d.ref.histN - 4096

/-- The newest clean entry at or below `lim`, searched over `k` entries. -/
def newestClean (d : Dev) : Nat → Nat → Option Nat
  | 0, _ => none
  | k + 1, lim => if histClean d lim then some lim else if lim = 0 then none else newestClean d k (lim - 1)

/-- The prediction window W (R151): even, 2 to 4,096. -/
def histWindow (d : Dev) : Nat := min 4096 (max 2 (fld d REF_HOLD_CTL_window / 2 * 2))

/-- The pointer after a new entry (R149). -/
def movePointer (d : Dev) : Dev :=
  let newest := d.ref.histN - 1
  let mark := match d.ref.histMark with
    | some m => if m + histWindow d ≤ newest then none else some m
    | none => none
  let g := fld d REF_HIST_CTL_guard
  let ptr :=
    if newest < g then none
    else
      let lim := match mark with | some m => min m (newest - g) | none => newest - g
      newestClean d (lim + 1 - histFirst d) lim
  setF REF_HIST_PTR_newest newest (setF REF_HIST_PTR_pointer (ptr.getD 0)
    { d with ref := { d.ref with histMark := mark, histPtr := ptr } })

/-- Sums over the clean entries of a half window: count, servo terms, times from `base`, EFC codes. -/
def halfSums (d : Dev) (base : Nat) (l : List Nat) : Nat × Int × Int × Nat :=
  l.foldl (fun (a : Nat × Int × Int × Nat) n =>
    if histClean d n then
      (a.1 + 1, a.2.1 + histServo d n, a.2.2.1 + nearDiff (histTime d n) base, a.2.2.2 + histEfc d n)
    else a) (0, 0, 0, 0)

/-- The hardware fit over the window that ends at the pointer (R151). -/
def refit (d : Dev) : Dev :=
  match d.ref.histPtr with
  | none => setF REF_HIST_CLEAN_count 0 { d with ref := { d.ref with fit := none } }
  | some p =>
    let w := histWindow d
    let base := histTime d p
    let all := (List.range w).filterMap (fun i => if p < i + histFirst d then none else some (p - i))
    let a := halfSums d base (all.filter (fun n => decide (p < n + w / 2)))
    let b := halfSums d base (all.filter (fun n => decide (n + w / 2 ≤ p)))
    let cnt := a.1 + b.1
    let drift := flag d REF_HOLD_CTL_drift && decide (w ≤ 8 * a.1) && decide (w ≤ 8 * b.1)
    let fit : Option HistFit :=
      if decide (cnt < fld d REF_HOLD_CTL_min_clean) || decide (a.1 = 0) then none
      else some { base := base, s2 := a.2.1, tb2 := a.2.2.1, n2 := a.1
                  bn := if drift then a.2.1 * b.1 - b.2.1 * a.1 else 0
                  bd := if drift then a.2.2.1 * b.1 - b.2.2.1 * a.1 else 0
                  efc := a.2.2.2 / a.1 }
    setF REF_HIST_CLEAN_count cnt { d with ref := { d.ref with fit := fit } }

/-- The EFC code that Holdover keeps: the mean of the newer half, or the summary's (R152, R158). -/
def holdEfc (d : Dev) : Nat := match d.ref.fit with | some f => f.efc | none => fld d REF_HOLD_SUM_CTL_efc

/-- The slope of the prediction in 2^-56 units per second. -/
def predSlope (d : Dev) : Int :=
  match d.ref.model, d.ref.fit with
  | some m, _ => m.2.1
  | none, some f => if f.bd ≤ 0 then 0 else divAway (f.bn * secD) f.bd.toNat
  | none, none => sx 32 (rdN d REF_HOLD_SUM_F1)

/-- REF_HOLD_SUM takes the prediction in use (R152). -/
def copySum (d : Dev) : Dev :=
  let lag := match d.ref.histPtr with | some p => d.ref.histN - 1 - p | none => 4096
  let may := decide (lag ≤ 2 * fld d REF_HIST_CTL_guard) || fld d REF_STATUS_servo == 3
  match predAt d (near d) with
  | none => d
  | some p =>
    if !may then d
    else
      let ctl := 1 + fld d REF_TICK_SEL_current * 2 + holdEfc d * 256
      wrN REF_HOLD_SUM_F1 (wrapN 32 (satS 32 (predSlope d)))
        (wr64 REF_HOLD_SUM_T_LO (near d) (wrS64 REF_HOLD_SUM_F0_LO p (wrN REF_HOLD_SUM_CTL ctl d)))

/-- A history entry written at the end of its interval (R148, R149, R151, R152). -/
def writeHistory (d : Dev) : Dev :=
  let a := d.ref.acc
  let n := atLeast1 a.n
  let sv := wrapN 48 (satS 48 (divAway a.servo n))
  let en := wrapN 48 (satS 48 (divAway a.ens n))
  let clean := a.clean && decide (0 < a.n)
  let b23 := b2n clean + b2n a.hold * 2 + b2n a.sus * 4 + fld d REF_STATUS_servo * 16
  let slot := (refActive d).getD 0
  let ec := wrapN 32 (satS 32 (divAway a.ec n))
  let idx := d.ref.histN % 4096
  let t := near d
  let ws := [t % 2 ^ 32, t / 2 ^ 32, sv % 2 ^ 32, sv / 2 ^ 32 + en % 2 ^ 16 * 2 ^ 16, en / 2 ^ 16 % 2 ^ 32,
             a.efc / n % 2 ^ 24 + b23 * 2 ^ 24, slot % 32 + fld d REF_TICK_SEL_current * 256, ec]
  let d1 := (ws.foldl (fun (p : Nat × Dev) w => (p.1 + 1, wrN (bank (REF_HIST_W p.1) idx) w p.2)) (0, d)).2
  let d2 := { d1 with ref := { d1.ref with acc := histAccReset, histN := d1.ref.histN + 1,
                                           lastClean := if clean then t else d1.ref.lastClean } }
  copySum (refit (movePointer d2))

/-- An entry loses its clean bit. -/
def unclean (n : Nat) (d : Dev) : Dev := setF ⟨bank (REF_HIST_W 5) (n % 4096), 24, 1⟩ 0 d

/-- The time of the newest clean entry of the ring, 0 for none (R161). -/
def lastCleanOf (d : Dev) : Nat :=
  match newestClean d (min d.ref.histN 4096) (d.ref.histN - 1) with
  | some n => histTime d n
  | none => 0

/-- The ring word of an entry holds a parity error (R148): bit 3 of byte 23 is set, the entry is no longer clean, and R40 applies to its page:
a writable page is reported to firmware. -/
def histParity (i : Nat) (d : Dev) : Dev :=
  let d1 := unclean i (setF ⟨bank (REF_HIST_W 5) i, 27, 1⟩ 1 d)
  reportUnit 0x3B 0x01 .corrected 0 0 { d1 with ref := { d1.ref with lastClean := lastCleanOf d1 } }

/-- The rewind before an onset mark (R150). -/
def rewindTo (mark : Nat) (d : Dev) : Dev :=
  let nums := (List.range (min d.ref.histN 4096)).map (fun i => d.ref.histN - 1 - i)
  let ptr := nums.find? (fun n => histClean d n && decide (nearDiff (histTime d n) mark < 0))
  let later := nums.filter (fun n => histClean d n && (match ptr with | some p => decide (p < n) | none => true))
  let d1 := forEach later unclean d
  let p1 := match ptr, d.ref.histPtr with
    | some p, some q => some (min p q)
    | _, q => if ptr.isNone then none else q
  let d2 := { d1 with ref := { d1.ref with histPtr := p1, histMark := some (ptr.getD 0), lastClean := lastCleanOf d1 } }
  raise 0x2806 later.length (refit (setF REF_HIST_PTR_pointer (p1.getD 0) d2))

/-- One millisecond added to the running history interval (R148). -/
def accumulate (d : Dev) : Dev :=
  let a := d.ref.acc
  let act := refActive d
  let st := match act with | some s => slotState d s | none => 0
  let cap := match act with | some s => timeCapable (slotKind d s) || flag d TB_STATUS_time_valid | none => false
  let ok := fld d REF_STATUS_servo == 2 && st == 2 && cap
  let efc := match tickDac d with | some n => fld d (REF_EFC_CODE_code n) | none => 0
  { d with ref := { d.ref with acc := { n := a.n + 1, servo := a.servo + fServo d, ens := a.ens + (leadChan d).ens
                                        efc := a.efc + efc, ec := a.ec + d.ref.eC, clean := a.clean && ok
                                        hold := a.hold || fld d REF_STATUS_servo == 3, sus := a.sus || st == 3 } } }

/-! ### Servo states, Holdover and class (R156 to R162) -/

/-- The coefficients a0, a1, a2 that a Holdover takes (R161): until firmware writes a0, it is the declared uncertainty of the
last active slot plus |last e_c|. -/
def holdCoefs (d : Dev) : Nat × Nat × Nat :=
  (if d.ref.a0Set then rdN d REF_HOLD_UNC_A0 else d.ref.lastUnc + ceilDiv (d.ref.eC.natAbs * 1000) 65536,
   rdN d REF_HOLD_UNC_A1, rdN d REF_HOLD_UNC_A2)

/-- a0 + a1·t + a2·t²/2 in units of 10^-6 ps / 2 at t seconds: 2·10^6·a0 + 2·10^3·a1·t + a2·t² (R162). -/
def holdCurve (a0 a1 a2 t : Nat) : Nat := 2000000 * a0 + 2000 * a1 * t + a2 * t * t

/-- The last second, found bit by bit, at which the curve is within the limit. -/
def etaGo (a0 a1 a2 lim : Nat) : Nat → Nat → Nat
  | 0, t => t
  | b + 1, t => if holdCurve a0 a1 a2 (t + 2 ^ b) ≤ lim then etaGo a0 a1 a2 lim b (t + 2 ^ b) else etaGo a0 a1 a2 lim b t

/-- REF_HOLD_ETA (R162): whole seconds rounded down; all ones for never. -/
def holdEta (a0 a1 a2 ns : Nat) : Nat := etaGo a0 a1 a2 (2000000 * 1000 * ns) 32 0

/-- The time in the current Holdover in ms. -/
def holdMs (d : Dev) : Nat := (now16 d - d.ref.holdT0) / ms16

/-- The servo enters a state (R156): event 0x2803, with 0x2807 or 0x2808 of the same epoch. -/
def servoTo (new : Nat) (d : Dev) : Dev :=
  let old := fld d REF_STATUS_servo
  let d0 :=
    if new = 1 then
      { d with ref := { d.ref with phase := true, eFirst := 0, good := none, bad := 0, hasResult := false
                                   acqFrom := if old = 1 then d.ref.acqFrom else old
                                   acqClass := if old = 1 then d.ref.acqClass else fld d REF_STATUS_class
                                   i := if old = 3 then fServo d else d.ref.i } }
    else d
  if old = new then d0
  else
    let d1 := raise 0x2803 (old + new * 4) (setF REF_STATUS_servo new d0)
    if new = 3 then
      let c := holdCoefs d
      let d2 := { d1 with ref := { d1.ref with holdT0 := now16 d, holdA0 := c.1, holdA1 := c.2.1, holdA2 := c.2.2 } }
      raise 0x2807 (predict d (near d)).1
        (wrN REF_HOLD_TIME 0 (wrN REF_HOLD_ETA (holdEta c.1 c.2.1 c.2.2 (rdN d REF_HOLD_SPEC)) d2))
    else if new = 0 then
      raise 0x2808 0 { d1 with ref := { d1.ref with i := 0 }, tb := { d1.tb with newServo := some 0 } }
    else if new = 2 then
      let tl := d1.ref.timeLock || (match refActive d1 with | some s => timeCapable (slotKind d1 s) | none => false)
      doIf tl (setB TB_STATUS_time_valid true) { d1 with ref := { d1.ref with timeLock := tl } }
    else d1

/-- Holdover, or Free-run without a prediction (R156). -/
def loseServo (d : Dev) : Dev := servoTo (if (predAt d (near d)).isSome then 3 else 0) d

/-- The servo state of an epoch, after selection (R144 step 5, R156). -/
def servoStep (d : Dev) : Dev :=
  let st := fld d REF_STATUS_servo
  let forced := flag d REF_STATUS_forced_hold
  let d0 := { d with ref := { d.ref with changed := false } }
  if forced then (if st = 3 then d0 else if st = 0 && (predAt d (near d)).isNone then d0 else loseServo d0)
  else
    match refActive d with
    | some _ => if d.ref.changed || st == 0 || st == 3 then refreshGains (servoTo 1 d0)
                else if st = 2 ∧ 3 ≤ d.ref.bad then servoTo 1 d0 else d0
    | none => if st = 1 ∨ st = 2 then loseServo d0 else d0

/-- The servo term that Holdover and the direct mode write at each epoch (R153, R158). -/
def servoDrive (d : Dev) : Dev :=
  let st := fld d REF_STATUS_servo
  if directOn d then
    let f := satS 48 (if follows d then rdS64 d TWN_FOLLOW_LO else rdS64 d REF_FREQ_DIRECT_LO)
    steer f f (wrS64 REF_SERVO_I_LO f { d with ref := { d.ref with i := f, iPend := none } })
  else if st = 3 then
    match predAt d (near d) with
    | some p =>
      let d1 := { d with tb := { d.tb with newServo := some p } }
      match fld d REF_CTL_steer, tickDac d with
      | 0, _ => d1
      | _, some n => efcAt n (holdEfc d) d1
      | _, none => d1
    | none => d
  else if st = 0 then
    match fld d REF_CTL_steer, tickDac d with
    | 0, _ => d
    | _, some n => efcAt n (fld d (REF_EFC_NOM_nom n)) d
    | _, none => d
  else d

/-- The clock class of R162. -/
def classNow (d : Dev) : Nat :=
  let free := fld d REF_CLASS_CFG_free
  let st := fld d REF_STATUS_servo
  if !(flag d TB_STATUS_time_valid) then free
  else if st = 2 then
    match refActive d with
    | some s => if timeCapable (slotKind d s) then fld d (REF_SLOT_CFG_class s) else fld d REF_CLASS_CFG_hold_in
    | none => fld d REF_CLASS_CFG_hold_in
  else if st = 1 then (if d.ref.acqFrom = 0 then free else d.ref.acqClass)
  else if st = 3 then
    let t := holdMs d
    if 2 * 10 ^ 12 * d.ref.holdA0 + 2 * 10 ^ 6 * d.ref.holdA1 * t + d.ref.holdA2 * t * t ≤ 2 * 10 ^ 15 * rdN d REF_HOLD_SPEC then
      fld d REF_CLASS_CFG_hold_in
    else fld d REF_CLASS_CFG_hold_out
  else free

/-- The class published, with event 0x280A on a change (R162). -/
def classStep (d : Dev) : Dev :=
  let old := fld d REF_STATUS_class
  let new := classNow d
  if old = new then d else raise 0x280A (old + new * 256) (setF REF_STATUS_class new d)

/-- The ensemble term of the epoch (R159): a committed term, or the rate added. -/
def ensembleStep (d : Dev) : Dev :=
  match d.ref.ensPend with
  | some (t, r) => { d with tb := { d.tb with newEns := some (satS 48 t) }, ref := { d.ref with ensPend := none, ensRate := r } }
  | none =>
    if d.ref.ensRate = 0 then d
    else { d with tb := { d.tb with newEns := some (satS 48 ((leadChan d).ens + d.ref.ensRate)) } }

/-- The DAC codes that wait take effect at the application boundary (R155). -/
def applyEfc (d : Dev) : Dev :=
  forEach d.ref.efcPend (fun p x => setF (REF_EFC_CODE_code p.1) p.2 x) { d with ref := { d.ref with efcPend := [] } }

/-- REF's work at a 1 ms epoch (R144). -/
def refEpoch (d0 : Dev) : Dev :=
  let d := { d0 with ref := { d0.ref with ms := d0.ref.ms + 1 } }
  let d1 := forEach (List.range 32) slotTimers (forEach (List.range 32) slotStep d)
  let d2 := disagreeStep d1
  let d3 := match d2.ref.rewind with
    | some m => rewindTo m { d2 with ref := { d2.ref with rewind := none } }
    | none => d2
  let d4 := servoStep (selectStep d3)
  let d5 := accumulate (servoDrive d4)
  let d6 := doIf (fld d5 REF_STATUS_servo == 3) (wrN REF_HOLD_TIME (holdMs d5 / 1000)) d5
  setF REF_STATUS_pred_src (predict d6 (near d6)).1 (classStep d6)

end Sys2Proof.Machine
end

