-- ==== Sys2Proof/Machine/SynOps.lean ====
section
/-! DEFINITION. SYN (spec/08_synthesis_outputs.md): targets and steering (R184, R185), bands and the hop cache (R187 to R189),
PLL states (R192, R193), clock outputs (R194 to R197), pulse outputs (R198, R200) and their calibration (R201, R202). -/

namespace Sys2Proof.Machine

open Sys2Proof

/-- Hidden state of PLL `p`. -/
def spll (d : Dev) (p : Nat) : SPll := cget (fun _ => spllReset) d.syn.plls p

/-- `d` with the hidden state of PLL `p` replaced. -/
def setSpll (p : Nat) (x : SPll) (d : Dev) : Dev :=
  { d with syn := { d.syn with plls := cput (fun _ => spllReset) d.syn.plls p x } }

/-- Hidden state of a clock output, or of a divider group at 16 and above. -/
def sout (d : Dev) (o : Nat) : SOut := cget (fun _ => soutReset) d.syn.outs o

/-- `d` with the hidden state of a clock output replaced. -/
def setSout (o : Nat) (x : SOut) (d : Dev) : Dev :=
  { d with syn := { d.syn with outs := cput (fun _ => soutReset) d.syn.outs o x } }

/-- Hidden state of pulse output `q`. -/
def spps (d : Dev) (q : Nat) : SPps := cget (fun _ => sppsReset) d.syn.pps q

/-- `d` with the hidden state of pulse output `q` replaced. -/
def setSpps (q : Nat) (x : SPps) (d : Dev) : Dev :=
  { d with syn := { d.syn with pps := cput (fun _ => sppsReset) d.syn.pps q x } }

/-- The domain number of the half that holds a PLL, a clock output and a pulse output (R23). -/
def pllDom (p : Nat) : Nat := if p < 2 then 4 else 5

/-- State of a PLL: 0 Off, 1 Band search, 2 Acquiring, 3 Locked, 4 Coasting (R192). -/
def pllState (d : Dev) (p : Nat) : Nat := fld d (SYN_PLL_STATUS_state p)

/-- SYN_PLL_RESULT holds a cause. -/
def pllResult (p c : Nat) (d : Dev) : Dev := setF (SYN_PLL_RESULT_cause p) c d

/-! ### Targets -/

/-- The divider of the registers in units of 2^-32. -/
def pllN (d : Dev) (p : Nat) : Nat := fld d (SYN_PLL_NINT_nint p) * 2 ^ 32 + rdN d (SYN_PLL_NFRAC p)

/-- Nominal frequency of the reference of a PLL in Hz (R184): 0 selects the tick oscillator. -/
def pllFref (d : Dev) (p : Nat) : Nat :=
  let r := fld d (SYN_PLL_CFG_ref p)
  fld d (SYN_OSC_FNOM_hz (if r = 0 then fld d REF_TICK_SEL_current else (r - 1) % 4))

/-- f_vco × 2^32 in Hz for a divider (R184). -/
def vcoOf (d : Dev) (p n : Nat) : Nat := pllFref d p * n

/-- The target is in range (R184): NINT 80 to 13,000 and f_vco 10.0 GHz to 13.0 GHz. -/
def vcoOk (d : Dev) (p n : Nat) : Bool :=
  decide (80 * 2 ^ 32 ≤ n) && decide (n < 13001 * 2 ^ 32) && decide (10000000000 * 2 ^ 32 ≤ vcoOf d p n) &&
    decide (vcoOf d p n ≤ 13000000000 * 2 ^ 32)

/-- The PLL follows the timescale (R185). -/
def pllSteers (d : Dev) (p : Nat) : Bool := flag d (SYN_PLL_CFG_steer p) && fld d (SYN_PLL_CFG_ref p) == 0

/-- The divider word of a Locked PLL brought up to date with F (R185): N_app rounds to nearest, ties toward zero, and the
residue is carried. A PLL that is not steered uses N × 2^16; a coasting one keeps its word. -/
def steerPll (p : Nat) (d : Dev) : Dev :=
  let x := spll d p
  let f := chanF (leadChan d)
  if pllState d p ≠ 3 then d
  else if !(pllSteers d p) then setSpll p { x with nApp := x.n * 2 ^ 16, res := 0, lastF := f, steered := false } d
  else if x.steered && decide (x.lastF = f) then d
  else
    let exact : Int := ((x.n * 2 ^ 16 : Nat) : Int) * (2 ^ 56 + f) + (if x.steered then x.res else 0)
    let app := Ratio.toZero { num := exact, den := 2 ^ 56 }
    setSpll p { x with nApp := app.toNat, res := exact - app * 2 ^ 56, lastF := f, steered := true } d

/-- Every PLL's divider word brought up to date. -/
def steerPlls (d : Dev) : Dev := forEach (List.range 4) steerPll d

/-! ### Bands and the cache -/

/-- Band `b` is valid and contains a target of f_vco × 2^32 = `v` (R187). -/
def bandHas (d : Dev) (p v b : Nat) : Bool :=
  flag d (SYN_BAND_MIN_valid p b) && decide (fld d (SYN_BAND_MIN_fmin p b) * 100000 * 2 ^ 32 ≤ v) &&
    decide (v ≤ fld d (SYN_BAND_MAX_fmax p b) * 100000 * 2 ^ 32)

/-- Twice the distance of a target from the centre of band `b`. -/
def bandDist (d : Dev) (p v b : Nat) : Nat :=
  let c : Int := ((fld d (SYN_BAND_MIN_fmin p b) + fld d (SYN_BAND_MAX_fmax p b)) * 100000 * 2 ^ 32 : Nat)
  (2 * (v : Int) - c).natAbs

/-- The valid band that contains the target and whose centre is nearest, a tie going to the lower band (R188). -/
def chooseBand (d : Dev) (p v : Nat) : Option Nat :=
  ((List.range 128).filter (bandHas d p v)).foldl
    (fun b x => match b with | none => some x | some y => if bandDist d p v x < bandDist d p v y then some x else some y) none

/-- The die temperature in units of 0.5 °C (R189): the last reading of R436 (log entry 12). -/
def dieHalf (d : Dev) : Int := 2 * d.log.dieTemp

/-- Cache entry `e` holds the target. -/
def hopIs (d : Dev) (p n e : Nat) : Bool :=
  flag d (SYN_HOP_CTL_valid p e) && fld d (SYN_HOP_N_nint p e) == n / 2 ^ 32 && rdN d (SYN_HOP_NFRAC p e) == n % 2 ^ 32

/-- The cache entry that a target may use (R189): within 20 °C of the current die temperature. -/
def hopHit (d : Dev) (p n : Nat) : Option Nat :=
  (List.range 32).find? (fun e => hopIs d p n e && decide ((sx 8 (fld d (SYN_HOP_CTL_temp p e)) - dieHalf d).natAbs ≤ 40))

/-- An entry becomes the most recently used. -/
def touchHop (p e : Nat) (d : Dev) : Dev :=
  let x := spll d p
  setSpll p { x with lru := e :: x.lru.filter (fun y => y != e) } d

/-- The entry that a new target replaces (R189): its own stale entry, a free one, else the least recently used that is not
pinned. -/
def hopVictim (d : Dev) (p n : Nat) : Option Nat :=
  match (List.range 32).find? (hopIs d p n) with
  | some e => some e
  | none =>
    match (List.range 32).find? (fun e => !(flag d (SYN_HOP_CTL_valid p e))) with
    | some e => some e
    | none => (spll d p).lru.reverse.find? (fun e => !(flag d (SYN_HOP_CTL_pin p e)))

/-- A successful search writes its cache entry (R189). -/
def writeHop (p n band tune : Nat) (d : Dev) : Dev :=
  match hopVictim d p n with
  | none => d
  | some e =>
    let d1 := wrN (SYN_HOP_NFRAC p e) (n % 2 ^ 32) (wrN (SYN_HOP_N p e) (n / 2 ^ 32 % 2 ^ 14) d)
    let d2 := setF (SYN_HOP_TUNE_band p e) band (setF (SYN_HOP_TUNE_tune p e) tune d1)
    touchHop p e (setF (SYN_HOP_CTL_temp p e) (wrapN 8 (satS 8 (dieHalf d))) (setF (SYN_HOP_CTL_valid p e) 1 d2))

/-! ### Outputs -/

/-- The chip's clock stages with claim = 1 may drive (R203, R346): TWN is disabled, or the claim comparison is won and there is no side conflict. -/
def claimDrives (d : Dev) : Bool := !(flag d TWN_CTL_en) || (d.syn.claimWin && !(flag d TWN_BUS_STATUS_side_conflict))

/-- Output `i` (0 to 15 clocks, 16 to 19 pulses): its running, driving and claim bits. -/
def runBit (i : Nat) : Fld := if i < 16 then SYN_OUT_STATUS_running i else SYN_PPS_STATUS_running (i - 16)
def driveBit (i : Nat) : Fld := if i < 16 then SYN_OUT_STATUS_driving i else SYN_PPS_STATUS_driving (i - 16)
def claimBit (i : Nat) : Fld := if i < 16 then SYN_OUT_CFG_claim i else SYN_PPS_CFG_claim (i - 16)

/-- The stage of output `i` may drive: it runs, and the claim rules allow it (R203). -/
def mayDrive (d : Dev) (i : Nat) : Bool := flag d (runBit i) && (!(flag d (claimBit i)) || claimDrives d)

/-- The stage of output `i` drives or is high impedance: event 0x3009 where that changes (R204). -/
def setDriving (i : Nat) (on : Bool) (d : Dev) : Dev :=
  if on == flag d (driveBit i) then d else raise 0x3009 (i + b2n on * 256) (setB (driveBit i) on d)

/-- Output `i` runs or stands low; its stage follows. -/
def runOut (i : Nat) (b : Bool) (d : Dev) : Dev :=
  let d1 := setB (runBit i) b d
  setDriving i (mayDrive d1 i) d1

/-- The claim drops to 0 with a fatal fault (R38, R204): while the claim comparison applies, the stages that it rules release. -/
def dropClaim (d : Dev) : Dev :=
  let d1 := { d with syn := { d.syn with claimWin := false } }
  forEach (List.range 20) (fun i x => doIf (flag x (claimBit i)) (setDriving i (mayDrive x i)) x) d1

/-- PLL of clock output `o`. -/
def outPll (d : Dev) (o : Nat) : Nat := o / 8 * 2 + fld d (SYN_OUT_CFG_pll o)

/-- The clock outputs of PLL `p`. -/
def pllOuts (d : Dev) (p : Nat) : List Nat := (List.range 16).filter (fun o => outPll d o == p)

/-- The shared-divider mode is in force (R195). -/
def sharedMode (d : Dev) : Bool := !(flag d SYN_STATUS_mode)

/-- The group of an output in shared-divider mode (R195). -/
def outGroup (d : Dev) (o : Nat) : Nat := 2 * outPll d o + fld d (SYN_OUT_CFG_group o)

/-- Key of the hidden state that shapes output `o`: its group's in shared-divider mode. -/
def outKey (d : Dev) (o : Nat) : Nat := if sharedMode d then 16 + outGroup d o else o

/-- The register that holds the delay or phase of output `o`: its own, or its group's behind bank `group` of the first output of the
group's half, whose domain it lies in. -/
def outReg (d : Dev) (f : Nat → Nat) (o : Nat) : Nat := if sharedMode d then bank (f (o / 8 * 8)) (outGroup d o) else f o

/-- The divider of output `o` in force. -/
def outDiv (d : Dev) (o : Nat) : Nat :=
  if sharedMode d then fld d (SYN_GRP_DIV_d (outGroup d o)) else fld d (SYN_OUT_DIV_d o)

/-- The divider that shapes a PLL's VCO: the one it runs on, else its registers'. -/
def pllNow (d : Dev) (p : Nat) : Nat := if pllState d p = 0 then pllN d p else (spll d p).n

/-- f_vco / D may be used (R194), for f_vco × 2^32 = `v`: D from 8 to 16,777,215 and at most 1.6 GHz. -/
def divFits (v div : Nat) : Bool := decide (8 ≤ div) && decide (v ≤ 1600000000 * 2 ^ 32 * div)

/-- f_vco / D may be used on the PLL as it stands. -/
def divOk (d : Dev) (p v : Nat) : Bool := divFits (vcoOf d p (pllNow d p)) v

/-- f_vco / D is a whole number of hertz (R196). -/
def alignFits (v div : Nat) : Bool := decide (v % (2 ^ 32 * div) = 0)

/-- Align is possible (R196): f_vco / D is a whole number of hertz and the PLL is steered. -/
def alignOk (d : Dev) (p v : Nat) : Bool := pllSteers d p && alignFits (vcoOf d p (pllNow d p)) v

/-- Why the outputs of PLL `p` do not allow f_vco × 2^32 = `v` (R194, R196): cause 0x07 above 1.6 GHz on an output whose divider is set, 0x09 on
an aligned output that could not stay aligned. -/
def outsCause (d : Dev) (p v : Nat) : Option Nat :=
  let l := pllOuts d p
  if l.any (fun o => (flag d (SYN_OUT_CFG_enable o) || decide (8 ≤ outDiv d o)) && !(divFits v (outDiv d o))) then some 7
  else if l.any (fun o => flag d (SYN_OUT_CFG_align o) && !(pllSteers d p && alignFits v (outDiv d o))) then some 9
  else none

/-- Clock output `o` runs or stands low. -/
def outRun (o : Nat) (b : Bool) (d : Dev) : Dev := runOut o b d

/-- Pulse output `q` runs or stands low. -/
def ppsRun (q : Nat) (b : Bool) (d : Dev) : Dev := runOut (16 + q) b d

/-- The calibration fields of output `i` (0 to 15 clocks, 16 to 19 pulses). -/
def calValid (i : Nat) : Fld := if i < 16 then SYN_OUT_STATUS_cal_valid i else SYN_PPS_STATUS_cal_valid (i - 16)

/-- The age field of output `i`. -/
def calAge (i : Nat) : Fld := if i < 16 then SYN_OUT_STATUS_cal_age i else SYN_PPS_STATUS_cal_age (i - 16)

/-- The low bits of err in events 0x3006 and 0x3007, saturated to 16 bits. -/
def errSat (d : Dev) (i : Nat) : Nat := wrapN 16 (satS 16 (if i < 16 then sx 32 (rdN d (SYN_OUT_ERR i)) else (spps d (i - 16)).err))

/-- The calibration of output `i` loses its validity (R202): event 0x3007 with the reason 1 age, 2 hop, 3 coast. -/
def calInvalid (reason i : Nat) (d : Dev) : Dev :=
  if flag d (calValid i) then raise 0x3007 (i + reason * 256 + errSat d i * 65536) (setF (calValid i) 0 d) else d

/-- The outputs of a PLL stop and hold low. -/
def stopOuts (p : Nat) (d : Dev) : Dev := forEach (pllOuts d p) (fun o => outRun o false) d

/-! ### Calibration requests (R201; the request of output i is 36 + i, log entry 11) -/

/-- The MEAS request of output `i`. -/
def calReq (i : Nat) : Nat := 36 + i

/-- The period of clock output `o` as a fraction: D × 2^48 × 10^9 / (f_ref × N) units of 2^-16 ns. -/
def outPeriod (d : Dev) (o : Nat) : Nat × Nat :=
  let num := outDiv d o * 2 ^ 48 * 1000000000
  let den := atLeast1 (vcoOf d (outPll d o) (pllNow d (outPll d o)))
  let g := atLeast1 (Nat.gcd num den)
  (num / g, den / g)

/-- The frequency in thousandths of a hertz, rounded down. -/
def outMilliHz (d : Dev) (o : Nat) : Nat := vcoOf d (outPll d o) (pllNow d (outPll d o)) * 1000 / (2 ^ 32 * atLeast1 (outDiv d o))

/-- The prescale of R201: the smallest multiple of P / T_out for which it spans at least 125 ticks of the physical period. -/
def outPresc (d : Dev) (o : Nat) : Nat :=
  let per := outPeriod d o
  let f := if pllSteers d (outPll d o) then chanF (leadChan d) else 0
  let phys := per.1 * 2 ^ 56
  per.2 * max 1 (ceilDiv (6553600 * (2 ^ 56 + f).toNat) (atLeast1 phys))

/-- SYN posts the calibration request of output `i` (R201): class 6, STAMP, tap source, grid, prescale, N and repeat; the anchor is set when
a channel is granted (`grant`). -/
def postCal (i : Nat) (d : Dev) : Dev :=
  let rep := atLeast1 (fld d SYN_CAL_PERIOD_s) * sec16
  let q := calReq i
  if i < 16 then
    postReq q 0x0C 0 6 (0x20 + i) 0 (min 65536 (outPresc d i)) 65536 rep
      (wr64 (bank MEAS_REQ_P_LO q) ((outPeriod d i).1) d)
  else
    postReq q 0x0C 0 6 (0x30 + (i - 16)) 0 1 16 rep (wr64 (bank MEAS_REQ_P_LO q) ((spps d (i - 16)).per) d)

/-- Output `i` is enabled with cal_en = 1. -/
def calWanted (d : Dev) (i : Nat) : Bool :=
  if i < 16 then flag d (SYN_OUT_CFG_enable i) && flag d (SYN_OUT_CFG_cal_en i)
  else (spps d (i - 16)).en && flag d (SYN_PPS_CFG_cal_en (i - 16))

/-- The request of output `i` posted or withdrawn. -/
def calRequest (i : Nat) (d : Dev) : Dev :=
  if calWanted d i then postCal i d else if reqState d (calReq i) = 0 then d else reqDisable (calReq i) d

/-- `a × b⁻¹` codes of 102.4 units, rounded to nearest, ties away from zero. -/
def toCodes (err : Int) : Int := divAway (10 * err) 1024

/-- A clock's new target (R201): beyond 1,024 to 15,360 the coarse phase moves by one VCO cycle and the target is compensated. -/
def moveTarget (o : Nat) (t : Int) (d : Dev) : Dev :=
  let v := atLeast1 (vcoOf d (outPll d o) (pllNow d (outPll d o)))
  let cyc : Int := divAway (((2 ^ 48 * 1000000000 * 10 : Nat) : Int)) (1024 * v)
  let ph := rdN d (outReg d SYN_OUT_PHASE o)
  let k := outKey d o
  let put := fun (x : Int) (y : Dev) => setSout k { sout y k with target := (max 0 (min 16383 x)).toNat } y
  if 15360 < t then put (t - cyc) (wrN (outReg d SYN_OUT_PHASE o) ((ph + 1) % 2 ^ 24) d)
  else if t < 1024 then put (t + cyc) (wrN (outReg d SYN_OUT_PHASE o) ((ph + 2 ^ 24 - 1) % 2 ^ 24) d)
  else put t d

/-- The published result of output `i`'s request (R201, R202): discarded when it is flagged step or preempted or holds no
sample; else err corrects the target code, or the pulse latency. -/
def outputResult (i : Nat) (d : Dev) : Dev :=
  let q := calReq i
  let fl := reqReg d MEAS_RES_FLAGS q
  let d0 := doIf (calWanted d i) (postCal i) d
  if reqReg d MEAS_RES_CNT q = 0 || fl / 2 % 4 ≠ 0 || !(calWanted d i) then d0
  else
    let m := residual (reqReg64 d MEAS_RES_MEAN_LO q) 0 (reqReg64 d MEAS_REQ_P_LO q)
    let d1 := setF (calAge i) 0 (setF (calValid i) 1 { d0 with syn := { d0.syn with calHas := i :: d0.syn.calHas.filter (fun x => x != i) } })
    if i < 16 then
      let err := m + sx 32 (rdN d (SYN_OUT_BOARD i))
      let d2 := moveTarget i (((sout d (outKey d i)).target : Int) - toCodes err) d1
      let d3 := wrN (SYN_OUT_CALSEQ i) (reqReg d MEAS_RES_CAL q) (wrN (SYN_OUT_ERR i) (wrapN 32 (satS 32 err)) d2)
      raise 0x3006 (i + errSat d3 i * 65536) d3
    else
      let p := i - 16
      let lat := wrapN 32 (satS 32 (sx 32 (rdN d (SYN_PPS_LAT p)) + m))
      let d2 := wrN (SYN_PPS_LAT p) lat (setSpps p { spps d1 p with err := m } d1)
      raise 0x3006 (i + errSat d2 i * 65536) d2

/-- One millisecond of stretching and of fine-delay movement of the running output `o` (R197, R201): each high and low phase is extended by at
most SYN_REALIGN_MAX VCO cycles until none is left, and the delay moves by at most SYN_CAL_CTL.rate codes in each output cycle toward the
target. -/
def slideDelay (o : Nat) (d : Dev) : Dev :=
  let k := outKey d o
  let x := sout d k
  let c := x.cyc + outMilliHz d o
  let n := c / 1000000
  let most := n * fld d SYN_CAL_CTL_rate
  let code := rdN d (outReg d SYN_OUT_DELAY o)
  let new := if code ≤ x.target then min x.target (code + most) else max x.target (code - most)
  let d1 := setSout k { x with cyc := c % 1000000, left := x.left - n * 2 * atLeast1 (fld d SYN_REALIGN_MAX_cycles) } d
  doIf (flag d (SYN_OUT_CFG_cal_en o) || flag d (SYN_OUT_STATUS_realigning o)) (wrN (outReg d SYN_OUT_DELAY o) new) d1

/-- The running output by which a divider and its fine delay move: the first one of its group in shared-divider mode. -/
def leadsGroup (d : Dev) (o : Nat) : Bool :=
  flag d (SYN_OUT_STATUS_running o) &&
    !((List.range o).any (fun x => flag d (SYN_OUT_STATUS_running x) && outKey d x == outKey d o))

/-- A 1 ms epoch of the clock outputs, with the tick that it falls on. -/
def outEpoch (d : Dev) : Dev :=
  forEach (List.range 16) (fun o x => doIf (leadsGroup x o) (slideDelay o) x)
    { d with syn := { d.syn with msTick := some d.meas.tick } }

/-- A whole second: the ages of the applied calibrations grow (R202). -/
def calSecond (d : Dev) : Dev := forEach d.syn.calHas (fun i x => satAdd (calAge i) 1 x) d

/-! ### PLL states -/

/-- A PLL enters a state (R192): the bits of SYN_STATUS follow, and a change raises event 0x3001 for Locked, 0x3002 for any other state (log
entry 143). -/
def pllTo (p st : Nat) (d : Dev) : Dev :=
  let d1 := setB ⟨SYN_STATUS, 4 + p, 1⟩ (st == 4) (setB ⟨SYN_STATUS, p, 1⟩ (st == 3) (setF (SYN_PLL_STATUS_state p) st d))
  if pllState d p = st then d1
  else if st = 3 then raise 0x3001 p d1
  else raise 0x3002 (p + b2n (flag d (SYN_PLL_STATUS_ref_lost p)) * 4) d1

/-- The first instant at or after time `t` that is a whole multiple of the period of output `o`, counted from the whole TAI second (R196). -/
def alignedEdge (d : Dev) (o t : Nat) : Nat :=
  let per := outPeriod d o
  let sec := t / sec16 * sec16
  sec + ceilDiv ((t - sec) * per.2) per.1 * per.1 / per.2

/-- Clock output `o` starts with a full high phase at the first rising edge of its divider; an aligned one at an aligned instant (R195, R196). -/
def startOut (o : Nat) (d : Dev) : Dev :=
  if flag d (SYN_OUT_STATUS_running o) then d
  else
    let first := if flag d (SYN_OUT_CFG_align o) then some (alignedEdge d o (now16 d)) else none
    calRequest o (outRun o true (setF (SYN_OUT_STATUS_squelched o) 0 (setSout o { sout d o with startAt := first } d)))

/-- The enabled outputs of a PLL that keep `ok` start. -/
def startOuts (p : Nat) (ok : Dev → Nat → Bool) (d : Dev) : Dev :=
  forEach (pllOuts d p) (fun o x => doIf (flag x (SYN_OUT_CFG_enable o) && ok x o) (startOut o) x) d

/-- The squelch of R191 holds output `o` while its PLL coasts. -/
def squelches (d : Dev) (o : Nat) : Bool := flag d (SYN_OUT_CFG_squelch o) && flag d (SYN_PLL_STATUS_mon_out (outPll d o))

/-- Clock output `o` may start now (R191, R192, R205): its PLL is Locked and waits for no 1 µs epoch, or it runs on after a loss of lock and the
squelch does not hold the output. -/
def outMay (d : Dev) (o : Nat) : Bool :=
  let p := outPll d o
  let st := pllState d p
  let x := spll d p
  (st == 3 && !x.restart) || ((st == 4 || (st == 2 && x.coasted)) && !(squelches d o))

/-- The first 1 µs epoch after lock (R192, R193, R205): the dividers of a hopped PLL restart together, aligned and squelched outputs start;
event 0x3005 completes a hop. -/
def restartPll (p : Nat) (d : Dev) : Dev :=
  let x := spll d p
  if !x.restart || pllState d p ≠ 3 then d
  else
    let d1 := startOuts p (fun _ _ => true) (setSpll p { x with restart := false, hop := false } d)
    doIf x.hop (raise 0x3005 (p + b2n (flag d (SYN_PLL_STATUS_hit p)) * 4)) d1

/-- A PLL begins to work on target `n` (R188, R189, R192): Acquiring on a cache hit, else Band search. -/
def seekPll (p n : Nat) (d : Dev) : Dev :=
  let d1 := setSpll p { spll d p with n := n, steered := false, coasted := false, restart := false, monDone := false } d
  match hopHit d p n with
  | some e =>
    touchHop p e (pllTo p 2 (setF (SYN_PLL_STATUS_hit p) 1
      (setF (SYN_PLL_STATUS_band p) (fld d (SYN_HOP_TUNE_band p e)) (wrN (SYN_PLL_TUNE p) (fld d (SYN_HOP_TUNE_tune p e)) d1))))
  | none => pllTo p 1 (setF (SYN_PLL_STATUS_hit p) 0 d1)

/-- Why PLL `p` cannot take target `n` (R184, R187, R194, R196). -/
def targetCause (d : Dev) (p n : Nat) : Option Nat :=
  if !(vcoOk d p n) then some 0x02
  else if (chooseBand d p (vcoOf d p n)).isNone then some 0x01
  else outsCause d p (vcoOf d p n)

/-- PLL `p` is no more one that OUTPUT_MODE still has to start. -/
def forgetAuto (p : Nat) (d : Dev) : Dev := { d with syn := { d.syn with autoLeft := d.syn.autoLeft.filter (fun x => x != p) } }

/-- SYN_PLL_CMD.start (R192): refused while the PLL is not Off, and for the causes of its target. -/
def startPll (p : Nat) (d0 : Dev) : Dev :=
  let d := forgetAuto p d0
  let n := pllN d p
  if pllState d p ≠ 0 then pllResult p 0x04 d
  else
    match targetCause d p n with
    | some c => pllResult p c d
    | none => pllResult p 0x00 (seekPll p n d)

/-- The band table of a PLL that OUTPUT_MODE starts covers its target (R205): the PLL enters Band search, once for each power-up. -/
def autoStart (p : Nat) (d : Dev) : Dev :=
  doIf (d.syn.autoLeft.contains p && pllState d p == 0 && (chooseBand d p (vcoOf d p (pllN d p))).isSome) (startPll p) d

/-- A quad that the SerDes reference PLL feeds is powered (R193). -/
def quadsPowered (d : Dev) : Bool := (List.range 4).any (fun q => domOnN d (10 + q))

/-- A hop to divider `n` begins (R193): outputs stop low, then the cache entry or a search. -/
def beginHop (p n : Nat) (d : Dev) : Dev :=
  let d1 := forEach (pllOuts d p) (calInvalid 2) (stopOuts p d)
  pllResult p 0x00 (seekPll p n (setSpll p { spll d1 p with hop := true } d1))

/-- SYN_PLL_CMD.hop to divider `n` (R193): from Locked only, and not on the SerDes reference PLL while a quad is powered. -/
def hopPll (p n : Nat) (d : Dev) : Dev :=
  if (spll d p).hop || pllState d p != 3 then pllResult p 0x04 d
  else if fld d SYN_STATUS_serdes_pll == p && quadsPowered d then pllResult p 0x03 d
  else
    match targetCause d p n with
    | some c => pllResult p c d
    | none => beginHop p n d

/-- The hop that the device itself makes when the tick oscillator changes (R186), in any state but Off: the registers take the new divider. A
target out of range or without a band leaves the PLL as it is, with its cause (log entry 144). -/
def deviceHop (p n : Nat) (d : Dev) : Dev :=
  let d1 := wrN (SYN_PLL_NFRAC p) (n % 2 ^ 32) (setF (SYN_PLL_NINT_nint p) (n / 2 ^ 32) d)
  if pllState d p = 0 then d
  else if !(vcoOk d1 p n) then pllResult p 0x02 d
  else if (chooseBand d1 p (vcoOf d1 p n)).isNone then pllResult p 0x01 d
  else beginHop p n d1

/-- A PLL turned off (R192): its outputs hold low. -/
def offPll (p : Nat) (d : Dev) : Dev :=
  let x := { spll d p with hop := false, steered := false, coasted := false, restart := false, monDone := false }
  pllTo p 0 (setF (SYN_PLL_STATUS_ref_lost p) 0 (stopOuts p (setSpll p x d)))

/-- The tune codes of a search in turn (R188): out of range, the search moves one band toward the centre of the tune range;
the first in range ends it. The result is the band and the tune code. -/
def searchBands : Nat → Nat → List Nat → Option (Nat × Nat)
  | 0, _, _ => none
  | _, _, [] => none
  | k + 1, b, c :: cs =>
    if 0x2000 ≤ c ∧ c ≤ 0xE000 then some (b, c)
    else searchBands k (if 0xE000 < c then min 127 (b + 1) else b - 1) cs

/-- What output `o` must move, in units of 2^-16 ns times f_vco × 2^32: `delta` modulo its period (R197). -/
def realignBy (o : Nat) (delta : Int) (d : Dev) : Dev :=
  let v := atLeast1 (vcoOf d (outPll d o) (pllNow d (outPll d o)))
  let cyc := 2 ^ 48 * 1000000000
  let dv := (delta % ((atLeast1 (outDiv d o) * cyc : Nat) : Int)).toNat
  let n := ceilDiv dv cyc
  let codes := divAway (10 * ((dv : Int) - (n * cyc : Nat))) (1024 * v)
  let k := outKey d o
  moveTarget o (((sout d k).target : Int) + codes) (setSout k { sout d k with left := ((sout d k).left + n) % atLeast1 (outDiv d o) } d)

/-- The aligned running outputs that keep `moves` realign (R197): each is stretched by whole VCO cycles that cover δ, and the fine delay
takes the remainder; members of a group move together. -/
def realign (moves : Dev → Nat → Bool) (delta : Dev → Nat → Int) (d : Dev) : Dev :=
  let l := (List.range 16).filter (fun o => flag d (SYN_OUT_CFG_align o) && flag d (SYN_OUT_STATUS_running o) && moves d o)
  let d1 := forEach (l.filter (leadsGroup d)) (fun o x => realignBy o (delta d o) x) d
  forEach l (fun o => setF (SYN_OUT_STATUS_realigning o) 1) d1

/-- Aligned running outputs of a PLL realign after Coasting (R197): how far each has moved is a free value. -/
def realignOuts (p : Nat) (d : Dev) : Dev := draw (realign (fun y o => outPll y o == p) (fun y _ => freeVal y) d)

/-- A PLL is declared Locked (R190, R192, R193): event 0x3001. Outputs that need no alignment start, the others wait for the 1 µs epoch; after
Coasting aligned outputs that ran on realign. -/
def lockPll (p : Nat) (d : Dev) : Dev :=
  let x := spll d p
  let d1 := pllTo p 3 (setF (SYN_PLL_STATUS_ref_lost p) 0 d)
  let d2 := steerPll p (setSpll p { spll d1 p with restart := true, coasted := false, monDone := false } d1)
  let d3 := doIf (!x.hop) (startOuts p (fun y o => !(flag y (SYN_OUT_CFG_align o)) && !(flag y (SYN_OUT_STATUS_squelched o)))) d2
  doIf x.coasted (realignOuts p) d3

/-- A Locked PLL loses lock or its reference and coasts (R25, R190): event 0x3002; its outputs' calibrations are void. -/
def coastPll (p : Nat) (refLost : Bool) (d : Dev) : Dev :=
  let d1 := pllTo p 4 (setB (SYN_PLL_STATUS_ref_lost p) refLost (setSpll p { spll d p with coasted := true, restart := false } d))
  forEach (pllOuts d p) (calInvalid 3) d1

/-- The frequency monitor of PLL `p` at a 1 ms epoch, in 0.01 ppm (R191). The first epoch of a coasting that finds it beyond 100 ppm stops the
outputs with squelch = 1 and is a contained fault with event 0x3003; the answer says that it does. -/
def monitorPll (p : Nat) (mon : Int) (d : Dev) : Dev × Bool :=
  let m := satS 16 mon
  let out := decide (10000 < m.natAbs)
  let st := pllState d p
  if st = 0 then (d, false)
  else
    let d1 := setB (SYN_PLL_STATUS_mon_out p) out (setF (SYN_PLL_STATUS_mon p) (wrapN 16 m) d)
    if st = 4 && out && !((spll d p).monDone) then
      let d2 := forEach (pllOuts d1 p) (fun o x =>
        doIf (flag x (SYN_OUT_CFG_squelch o) && flag x (SYN_OUT_STATUS_running o))
          (fun y => outRun o false (setF (SYN_OUT_STATUS_squelched o) 1 y)) x) (setSpll p { spll d1 p with monDone := true } d1)
      let par := p + wrapN 16 m * 65536
      (reportUnit (0x0B + p) 0x04 .contained 0x3003 par (raise 0x3003 par d2), true)
    else (doIf (!out) (fun x => setSpll p { spll x p with monDone := false } x) d1, false)

/-! ### Pulse outputs -/

/-- The settings of a pulse output are in range (R198): P 2 ms to 1,000 s, w 8 ns to P − 1.001 ms, φ below P. -/
def ppsOk (p w phi : Nat) : Bool :=
  decide (2 * ms16 ≤ p) && decide (p ≤ 1000 * sec16) && decide (8 ≤ w) && decide (w * 65536 + 65601536000 ≤ p) && decide (phi < p)

/-- The PLL whose result register reports for pulse output `q` (R198). -/
def ppsPll (q : Nat) : Nat := if q < 2 then 0 else 2

/-- The place of time `t` in the period of a pulse output. -/
def ppsPos (x : SPps) (t : Nat) : Nat := ((t : Int) - x.phi).toNat % atLeast1 x.per

/-- Pulse output settings are quiet at time `t` (R92): w ≤ (t − φ) mod P ≤ P − 1 µs. -/
def ppsQuietAt (x : SPps) (t : Int) : Bool :=
  let pos := ((t - x.phi) % (atLeast1 x.per : Int)).toNat
  decide (x.wid * 65536 ≤ pos) && decide (pos + 65536000 ≤ x.per)

/-- Every enabled pulse output is quiet before and after a step of `s` (R92). -/
def allQuiet (s : Int) (d : Dev) : Bool :=
  (List.range 4).all (fun q => let x := spps d q; !x.en || (ppsQuietAt x (now16 d) && ppsQuietAt x (now16 d + s)))

/-- The rising edges of a pulse output after time `a` up to time `b`. -/
def ppsEdges (x : SPps) (a b : Int) : Nat :=
  let p : Int := atLeast1 x.per
  ((b - x.phi) / p - (a - x.phi) / p).toNat

/-- The edges that a step `s` applied at time `t` skips or repeats (R94): counted, with event 0x3008. -/
def stepPulses (t : Nat) (s : Int) (d : Dev) : Dev :=
  forEach (List.range 4) (fun q x =>
    let z := spps x q
    let k := if 0 ≤ s then ppsEdges z t (t + s) else ppsEdges z (t + s) t
    if z.en && decide (0 < k) then
      raise 0x3008 (q + min k 255 * 256) (satAdd (if 0 ≤ s then SYN_PPS_SKIP_skipped q else SYN_PPS_SKIP_repeated q) k x)
    else x) d

/-- Aligned running outputs realign after a step `s` that is not a whole number of their periods (R197). -/
def stepAligned (s : Int) (d : Dev) : Dev :=
  realign (fun y o => let per := outPeriod y o; decide (s * (per.2 : Int) % (atLeast1 per.1 : Int) ≠ 0))
    (fun y o => -s * (atLeast1 (vcoOf y (outPll y o) (pllNow y (outPll y o))) : Int)) d

/-- A waiting change of a pulse output put in force on a quiet 1 ms epoch (R200). An edge of the new settings that is due
within 1 µs is not emitted and is counted. -/
def ppsApply (q : Nat) (d : Dev) : Dev :=
  let x := spps d q
  let t : Int := now16 d
  let y := match x.newSet with
    | some v => { x with per := v.1, wid := v.2.1, phi := v.2.2, newSet := none }
    | none => x
  let z := { y with en := x.newEn.getD x.en, newEn := none }
  let dist := ((z.phi - t) % (atLeast1 z.per : Int)).toNat
  let skip := z.en && decide (dist < 65536000)
  let z1 := { z with mute := if skip then some (t + dist).toNat else none }
  let d1 := calRequest (16 + q) (ppsRun q z.en (setF (SYN_PPS_STATUS_pending q) 0 (setSpps q z1 d)))
  doIf skip (fun w => raise 0x3008 (q + 256) (satAdd (SYN_PPS_SKIP_skipped q) 1 w)) d1

/-- The edge of pulse output `q` that fires in the tick from `t0` to `t1`, both in units of 2^-54 ns: its instant t_e and the fine delay code
(R199). t_fire is counted in tenths of 2^-16 ns, in which 4,096 × 102.4 is whole. -/
def ppsFire (d : Dev) (q t0 t1 : Nat) : Option (Nat × Nat) :=
  let x := spps d q
  let lat : Int := 10 * sx 32 (rdN d (SYN_PPS_LAT q)) + 4194304
  let unit : Int := 2 ^ 38
  let from16 : Int := -((-(10 * (t0 : Int) + lat * unit)) / (10 * unit))
  let te := from16 + (x.phi - from16) % (atLeast1 x.per : Int)
  let fire := (10 * te - lat) * unit
  if x.en && decide (fire < 10 * (t1 : Int)) && x.mute != some te.toNat then
    some (te.toNat, (4096 + (2 * (fire - 10 * (t0 : Int)) + 1024 * unit) / (2048 * unit)).toNat)
  else none

/-- The pulse outputs over one tick that began at `t0`: an edge that fires in it is kept with its code (R199). -/
def ppsTick (t0 : Nat) (d : Dev) : Dev :=
  let t1 := chanT (leadChan d)
  forEach (List.range 4) (fun q x =>
    match ppsFire x q t0 t1 with
    | some e => setSpps q { spps x q with edge := some e, mute := none } x
    | none => x) d

end Sys2Proof.Machine
end

