-- ==== Sys2Proof/Machine/NetOps.lean ====
section
/-! DEFINITION. What PORT, DSG and SVC share (spec/10 to spec/12): CRC-32 and internet checksums, Ethernet headers, the receive
tests of R237 and R240, statistics counters (R254), and the buffer ledger (R241, R310). -/

namespace Sys2Proof.Machine

open Sys2Proof

/-! ### Check sums -/

/-- One bit of the reflected CRC-32 of IEEE 802.3. -/
def crc32Bit (c : Nat) : Nat := if c % 2 = 1 then (c / 2) ^^^ 0xEDB88320 else c / 2

/-- One byte of CRC-32. -/
def crc32Byte (c : Nat) (b : Byte) : Nat :=
  crc32Bit (crc32Bit (crc32Bit (crc32Bit (crc32Bit (crc32Bit (crc32Bit (crc32Bit (c ^^^ b.toNat))))))))

/-- CRC-32 of a byte string (R237). -/
def crc32 (bs : List Byte) : Nat := (bs.foldl crc32Byte 0xFFFFFFFF) ^^^ 0xFFFFFFFF

/-- The FCS of a frame, as its four last bytes. -/
def fcsOf (bs : List Byte) : List Byte := leBytes 4 (crc32 bs)

/-- The FCS of a received frame is correct. -/
def fcsOk (bs : List Byte) : Bool := decide (4 ≤ bs.length) && bs.drop (bs.length - 4) == fcsOf (bs.take (bs.length - 4))

/-- The sum of a byte string as 16-bit words in network order, an odd last byte padded with zero. -/
def sum16 : List Byte → Nat
  | [] => 0
  | [a] => a.toNat * 256
  | a :: b :: l => a.toNat * 256 + b.toNat + sum16 l

/-- One folding of carries. -/
def fold16 (n : Nat) : Nat := n % 65536 + n / 65536

/-- The internet checksum of a byte string: the complement of its ones' complement sum. -/
def inetSum (bs : List Byte) : Nat := 0xFFFF - fold16 (fold16 (fold16 (sum16 bs)))

/-! ### Ethernet -/

/-- The bytes `n` from position `i` of a frame as a number in network order. -/
def beAt (bs : List Byte) (i n : Nat) : Nat := beNat (sliceOf bs i n)

/-- An Ethernet header: addresses, VIDs of the tags, EtherType and the offset of what follows it. -/
structure Eth where
  da : List Byte
  sa : List Byte
  vids : List Nat
  etype : Nat
  off : Nat
  deriving DecidableEq, Repr

/-- A VLAN tag's EtherType. -/
def isTag (t : Nat) : Bool := t == 0x8100 || t == 0x88A8

/-- The header of a frame; at most three tags are looked at. -/
def ethOf (bs : List Byte) : Eth :=
  let t0 := beAt bs 12 2
  if !(isTag t0) then { da := bs.take 6, sa := sliceOf bs 6 6, vids := [], etype := t0, off := 14 }
  else
    let v0 := beAt bs 14 2 % 4096
    let t1 := beAt bs 16 2
    if !(isTag t1) then { da := bs.take 6, sa := sliceOf bs 6 6, vids := [v0], etype := t1, off := 18 }
    else { da := bs.take 6, sa := sliceOf bs 6 6, vids := [v0, beAt bs 18 2 % 4096], etype := beAt bs 20 2, off := 22 }

/-- The 6 bytes of an address held as a number, first byte lowest. -/
def macBytes (n : Nat) : List Byte := leBytes 6 n

/-- A MAC address given as a number in reading order. -/
def macBE (n : Nat) : List Byte := beBytes 6 n

/-- The broadcast address. -/
def macBcast : List Byte := macBE 0xFFFFFFFFFFFF

/-- The address is a group address. -/
def isGroup (da : List Byte) : Bool := (da.getD 0 0#8).toNat % 2 == 1

/-- What a receiver accepts (R240, R263). -/
structure RxCfg where
  mac : List Byte
  bcast : Bool
  l2 : Bool
  v4 : Bool
  v6 : Bool
  vlanEn : Bool
  untagged : Bool
  vlans : List Nat
  groups : List (List Byte)
  mcast : List (List Byte)
  max : Nat
  avail : Nat
  dsType : Option Nat
  deriving DecidableEq, Repr

/-- The destination address filter (R240). -/
def daPasses (c : RxCfg) (da : List Byte) : Bool :=
  da == c.mac || (c.bcast && da == macBcast) ||
  (c.l2 && (da == macBE 0x011B19000000 || da == macBE 0x0180C200000E)) ||
  (c.v4 && (da == macBE 0x01005E000181 || da == macBE 0x01005E00006B)) ||
  (c.v6 && (da == macBE 0x333300000181 || da == macBE 0x33330000006B || da == macBE 0x333300000001 || c.groups.contains da)) ||
  c.mcast.contains da

/-- The VLAN filter (R240). -/
def vlanPasses (c : RxCfg) (vids : List Nat) : Bool :=
  match vids with
  | [] => c.untagged
  | [v] => if v = 0 then c.untagged else !c.vlanEn || c.vlans.contains v
  | _ => false

/-- Buffers of a frame of length `n` to be sent, with maximum length `m` (R239). -/
def bufsOf (n m : Nat) : Nat := ceilDiv (min n m) 256

/-- Buffers that a frame has taken once `n` of its bytes have come, with maximum length `m` (R237, R239): the first at byte 64, a further
one at each byte 64 + 256 × j, and ceil(m / 256) at byte m. -/
def bufsAt (n m : Nat) : Nat := if n < 64 then 0 else if m ≤ n then ceilDiv m 256 else 1 + (n - 64) / 256

/-- The outcome counter of a frame of which `bs` has come (R237, R238): the first failing test decides, none while every test so far
passes. 1 rx_ok, 3 rx_runt, 4 rx_oversize, 5 rx_fcs, 6 rx_pcs, 7 rx_filtered, 8 rx_mac_ctl, 9 rx_no_buffer. The filters act once the bytes
of a second tag can be seen. -/
def rxOutcome (c : RxCfg) (start err more : Bool) (held : Nat) (bs : List Byte) : Option Nat :=
  let n := bs.length
  let e := ethOf bs
  let raw := beAt bs 12 2
  let seen := decide (18 ≤ n) || (!more && decide (16 ≤ n))
  if !start then some 6
  else if seen ∧ !(daPasses c e.da) then some 7
  else if seen ∧ raw = 0x8808 ∧ c.dsType ≠ some raw then some 8
  else if seen ∧ !(vlanPasses c e.vids) then some 7
  else if c.avail < bufsAt n c.max - held then some 9
  else if c.max < n then some 4
  else if more then none
  else if n < 64 then some 3
  else if err then some 6
  else if !(fcsOk bs) then some 5
  else some 1

/-- The length bin of an accepted frame (R254, counters 14 to 21). -/
def lenBin (n : Nat) : Nat :=
  if n ≤ 64 then 14 else if n ≤ 127 then 15 else if n ≤ 255 then 16 else if n ≤ 511 then 17 else if n ≤ 1023 then 18
  else if n ≤ 1518 then 19 else if n ≤ 2047 then 20 else 21

/-! ### Internet headers -/

/-- A parsed internet packet: version, source and destination (16 bytes, IPv4 as ::ffff:a.b.c.d), protocol, payload, and
whether the IPv4 header checksum holds; `odd` for a header the pipelines do not take (R277). -/
structure Ip where
  v6 : Bool
  src : List Byte
  dst : List Byte
  proto : Nat
  body : List Byte
  sumOk : Bool
  odd : Bool
  deriving DecidableEq, Repr

/-- An IPv4 address in the 16-byte form. -/
def v4Mapped (a : List Byte) : List Byte := List.replicate 10 0#8 ++ [0xFF#8, 0xFF#8] ++ a

/-- The internet packet of a frame, if its EtherType is IPv4 or IPv6; `bs` ends before the FCS. -/
def ipOf (e : Eth) (bs : List Byte) : Option Ip :=
  let p := bs.drop e.off
  if e.etype = 0x0800 then
    let ihl := beAt p 0 1 % 16 * 4
    let len := beAt p 2 2
    let frag := beAt p 6 2
    some { v6 := false, src := v4Mapped (sliceOf p 12 4), dst := v4Mapped (sliceOf p 16 4), proto := beAt p 9 1
           body := sliceOf p ihl (len - ihl)
           sumOk := beAt p 0 1 / 16 == 4 && decide (20 ≤ ihl) && decide (ihl ≤ len) && decide (len ≤ p.length) &&
             inetSum (p.take ihl) == 0
           odd := decide (20 < ihl) || frag % 0x4000 != 0 }
  else if e.etype = 0x86DD then
    let len := beAt p 4 2
    let nh := beAt p 6 1
    some { v6 := true, src := sliceOf p 8 16, dst := sliceOf p 24 16, proto := nh, body := sliceOf p 40 len
           sumOk := beAt p 0 1 / 16 == 6 && decide (40 + len ≤ p.length)
           odd := [0, 43, 44, 50, 51, 60, 135, 139, 140].contains nh }
  else none

/-- The pseudo header of a checksum over an upper layer. -/
def pseudo (v6 : Bool) (src dst : List Byte) (proto len : Nat) : List Byte :=
  if v6 then src ++ dst ++ beBytes 4 len ++ beBytes 4 proto
  else src.drop 12 ++ dst.drop 12 ++ beBytes 2 proto ++ beBytes 2 len

/-- A UDP datagram: ports, payload, checksum verdict (a zero checksum passes over IPv4 only). -/
structure Udp where
  sport : Nat
  dport : Nat
  data : List Byte
  sumOk : Bool
  deriving DecidableEq, Repr

/-- The UDP datagram of a packet. -/
def udpOf (ip : Ip) : Option Udp :=
  if ip.proto = 17 then
    let len := beAt ip.body 4 2
    let dg := ip.body.take len
    some { sport := beAt ip.body 0 2, dport := beAt ip.body 2 2, data := sliceOf ip.body 8 (len - 8)
           sumOk := decide (8 ≤ len) && decide (len ≤ ip.body.length) &&
             ((!ip.v6 && beAt ip.body 6 2 == 0) || inetSum (pseudo ip.v6 ip.src ip.dst 17 len ++ dg) == 0) }
  else none

/-- A UDP datagram with its checksum (R279: computed for every frame sent, over IPv4 and IPv6 alike). -/
def udpBytes (v6 : Bool) (src dst : List Byte) (sport dport : Nat) (data : List Byte) : List Byte :=
  let len := 8 + data.length
  let hdr := fun (c : Nat) => beBytes 2 sport ++ beBytes 2 dport ++ beBytes 2 len ++ beBytes 2 c
  let s := inetSum (pseudo v6 src dst 17 len ++ hdr 0 ++ data)
  hdr (if s = 0 then 0xFFFF else s) ++ data

/-- An internet packet around an upper-layer body; DSCP and TTL or hop limit as given. The IPv4 identification is 0 with
don't-fragment set (log entry 17). -/
def ipBytesTtl (ttl : Nat) (v6 : Bool) (src dst : List Byte) (dscp proto : Nat) (body : List Byte) : List Byte :=
  if v6 then beBytes 4 (6 * 2 ^ 28 + dscp * 2 ^ 22) ++ beBytes 2 body.length ++ beBytes 1 proto ++ beBytes 1 ttl ++ src ++ dst ++ body
  else
    let hdr := fun (c : Nat) =>
      beBytes 1 0x45 ++ beBytes 1 (dscp * 4) ++ beBytes 2 (20 + body.length) ++ beBytes 2 0 ++ beBytes 2 0x4000 ++
        beBytes 1 ttl ++ beBytes 1 proto ++ beBytes 2 c ++ src.drop 12 ++ dst.drop 12
    hdr (inetSum (hdr 0)) ++ body

/-- An internet packet with the TTL or hop limit 64, which the spec does not state (log entry 17). -/
def ipBytes (v6 : Bool) (src dst : List Byte) (dscp proto : Nat) (body : List Byte) : List Byte :=
  ipBytesTtl 64 v6 src dst dscp proto body

/-! ### Duplicates -/

/-- A key's answer to sequence number `q` (R271): accepted, reset, and its new state. -/
def dupStep (k : DupKey) (q : Nat) : Bool × Bool × DupKey :=
  let df := sx 16 (q + 65536 - k.h % 65536)
  if 0 < df then (true, false, { k with h := q, map := (k.map * 2 ^ df.toNat + 1) % 2 ^ 64 })
  else if -64 < df then
    if k.map / 2 ^ (-df).toNat % 2 = 1 then (false, false, k) else (true, false, { k with map := k.map + 2 ^ (-df).toNat })
  else (true, true, { k with h := q, map := 1 })

/-- A frame at a duplicate discard of `n` keys, replaced least recently used (R271, R363): accepted, reset, and the keys, latest
first. -/
def dupCheck (n : Nat) (l : List DupKey) (id : List Byte) (type q : Nat) : Bool × Bool × List DupKey :=
  match l.find? (fun k => k.id == id && k.type == type) with
  | some k =>
    let r := dupStep k q
    (r.1, r.2.1, r.2.2 :: l.filter (fun x => !(x.id == id && x.type == type)))
  | none => (true, false, ({ id := id, type := type, h := q, map := 1 } :: l).take n)

/-! ### Counters -/

/-- `n` added to a wrapping 32-bit counter (R253, R254): when bit 31 changes, its half-range bit is set and the event is raised
with [6] the new bit 31. -/
def cntBump (a half bit code param n : Nat) (d : Dev) : Dev :=
  let v := rdN d a
  let w := (v + n) % 2 ^ 32
  let d1 := wrN a w d
  if v / 2 ^ 31 = w / 2 ^ 31 then d1 else raise code (param + w / 2 ^ 31 * 64) (setF ⟨half, bit, 1⟩ 1 d1)

/-- Counter `i` of a subport. Frames accepted and sent are signals 1 and 2 of the block (R437). -/
def portCnt (p s i n : Nat) (d : Dev) : Dev :=
  let d1 := cntBump (PORT_CNT p s i) (PORT_STAT_HALF p s) i ((0x10 + p) * 1024 + 1) (i + s * 32) n d
  if i = 1 then pmcAdd ((0x10 + p) * 256 + 1) n d1 else if i = 24 then pmcAdd ((0x10 + p) * 256 + 2) n d1 else d1

/-- Counter `i` of SVC; a number above 35 names none. -/
def svcCnt (i n : Nat) (d : Dev) : Dev :=
  if 35 < i then d else cntBump (SVC_CNT i) (if i < 32 then SVC_STAT_HALF_LO else SVC_STAT_HALF_HI) (i % 32) 0x6401 i n d

/-- Counter `i` of DSG. -/
def dsgCnt (i n : Nat) (d : Dev) : Dev := cntBump (DSG_CNT i) DSG_STAT_HALF i 0x6001 i n d

/-! ### Buffers -/

/-- Buffers in the pool: none while PD_PKT is off. -/
def poolFree (d : Dev) : Nat := if domOn d .pkt then rdN d SVC_BUF_FREE else 0

/-- `n` buffers moved between two terms of the ledger (R310): their sum stays. -/
def bufMove (src dst n : Nat) (d : Dev) : Dev :=
  let m := min n (rdN d src)
  wrN dst (rdN d dst + m) (wrN src (rdN d src - m) d)

/-! ### Hidden state -/

/-- The key of a subport: 16 is the drive segment. -/
def subKey (p s : Nat) : Nat := if p = 8 then 16 else p * 2 + s

/-- A subport's hidden state. -/
def psub (d : Dev) (p s : Nat) : PSub := cget (fun _ => psubReset) d.net.subs (subKey p s)

/-- `d` with a subport's hidden state changed. -/
def modPsub (p s : Nat) (f : PSub → PSub) (d : Dev) : Dev :=
  { d with net := { d.net with subs := cput (fun _ => psubReset) d.net.subs (subKey p s) (f (psub d p s)) } }

/-- A lane's hidden state. -/
def plane (d : Dev) (l : Nat) : PLane := cget (fun _ => planeReset) d.net.lanes l

/-- `d` with a lane's hidden state changed. -/
def modPlane (l : Nat) (f : PLane → PLane) (d : Dev) : Dev :=
  { d with net := { d.net with lanes := cput (fun _ => planeReset) d.net.lanes l (f (plane d l)) } }

/-- The event stamp of a latch that captured phase code `c` on the current tick, with a lane delay (R117, R243). -/
def latchStamp (d : Dev) (c : Nat) (dly : Int) : Nat :=
  let l := leadChan d
  let pos := fld d ⟨bank MEAS_INL_POS c, 0, 16⟩
  wrapN 64 (roundDiv ((chanT l : Int) * 2 ^ 18 - (pos : Int) * (2 ^ 56 + chanF l) - dly * 2 ^ 56) (2 ^ 56))

/-- TB's count of applied steps and sets, modulo 256 (R244). -/
def stepMod (d : Dev) : Nat := d.tb.stepCount % 256

/-- A frame appended to a subport's MAC queue (R242). -/
def macPut (p s : Nat) (f : TxFrame) (d : Dev) : Dev := modPsub p s (fun x => { x with mac := x.mac ++ [f] }) d

/-! ### Frames in progress (R237 to R241) -/

/-- The ledger term of a receiver's frames in progress. -/
def rxTerm (p : Nat) : Nat := if p = 8 then DSG_BUF_RX else PORT_BUF_RX p

/-- Counter `i` of a receiver. -/
def rxCnt (p s i n : Nat) (d : Dev) : Dev := if p = 8 then dsgCnt i n d else portCnt p s i n d

/-- A frame counted with its outcome (R238). -/
def rxCount (p s out : Nat) (d : Dev) : Dev := rxCnt p s out 1 (rxCnt p s 0 1 d)

/-- The next bytes of a frame at a receiver (R237, R239, R241): buffers taken as its bytes come, and returned where it fails. The answer is
the outcome, if it is decided now, with the frame as it then stands; `stamp` is a new frame's timestamp, cal_seq and step count, and no
buffer is taken with `pool` false. -/
def rxTake (p s : Nat) (c : RxCfg) (pool : Bool) (stamp : Nat × Nat × Nat) (o : RxObs) (d : Dev) : Option (Nat × RxPart) × Dev :=
  let set := fun (x : Option RxPart) (y : Dev) => modPsub p s (fun z => { z with part := x }) y
  let x := (psub d p s).part.getD { bytes := [], start := o.startOk, err := false, tRx := stamp.1, calSeq := stamp.2.1, steps := stamp.2.2
                                    held := 0, done := false }
  if x.done then (none, set (if o.more then some x else none) d)
  else
    let y := { x with bytes := x.bytes ++ o.bytes, err := x.err || o.err }
    match rxOutcome c y.start y.err o.more y.held y.bytes with
    | some 1 | none =>
      let k := if pool then bufsAt y.bytes.length c.max - y.held else 0
      let z := { y with held := y.held + k }
      let d1 := bufMove SVC_BUF_FREE (rxTerm p) k d
      if o.more then (none, set (some z) d1) else (some (1, z), set none d1)
    | some out =>
      let d1 := doIf (decide (0 < y.held)) (bufMove (rxTerm p) SVC_BUF_FREE y.held) d
      (some (out, y), set (if o.more then some { y with bytes := [], held := 0, done := true } else none) d1)

/-- A frame in progress ends here with an outcome, and its buffers return (R238, R249). -/
def rxCut (p s out : Nat) (d : Dev) : Dev :=
  match (psub d p s).part with
  | none => d
  | some x =>
    let d1 := modPsub p s (fun z => { z with part := none }) d
    if x.done then d1
    else rxCount p s out (doIf (decide (0 < x.held)) (bufMove (rxTerm p) SVC_BUF_FREE x.held) d1)

/-- The buffers of a frame that will not be sent return to the pool. -/
def txFree (f : TxFrame) (d : Dev) : Dev := bufMove SVC_BUF_TX SVC_BUF_FREE f.bufs d

end Sys2Proof.Machine
end

