-- ==== Sys2Proof/Machine/PortOps.lean ====
section
/-! DEFINITION. The operations of PORT (spec/10_network_ports.md): lanes and modes (R233, R234), link states (R236), wire stamps
(R244, R245), transmit prediction (R245, R248), and the running calibration (R251). -/

namespace Sys2Proof.Machine

open Sys2Proof

/-! ### Modes and lanes -/

/-- The mode of a port block. -/
def portMode (d : Dev) (p : Nat) : Nat := fld d (PORT_STATUS_mode p)

/-- A port block is in use and its quad is on (R233). -/
def portOn (d : Dev) (p : Nat) : Bool := regOn d (PORT_STATUS p)

/-- Subports of a port block. -/
def portSubs (d : Dev) (p : Nat) : List Nat := if flag d (PORT_STATUS_two_sub p) then [0, 1] else [0]

/-- Lanes of a port block, counted within the block (R233). -/
def portLanes (d : Dev) (p : Nat) : List Nat :=
  match portMode d p with
  | 0 => []
  | 1 => [0, 1]
  | 2 => [0, 1, 2, 3]
  | _ => [0, 1]

/-- The subport that lane `j` of a block carries. -/
def laneSub (d : Dev) (p j : Nat) : Nat := if flag d (PORT_STATUS_two_sub p) then j else 0

/-- The lanes of a subport. -/
def subLanes (d : Dev) (p s : Nat) : List Nat := (portLanes d p).filter (fun j => laneSub d p j == s)

/-- The number of lane `j` of block `p` among the sixteen. -/
def laneNo (d : Dev) (p j : Nat) : Nat := fld d (PORT_STATUS_first_lane p) + j

/-- Unit intervals in a lane word by mode (R234). -/
def wordUI (mode : Nat) : Nat := if mode = 1 then 68 else if mode = 5 then 10 else 66

/-- The symbol rate by mode in units of 10 kBd (R234). -/
def baudOf (mode : Nat) : Nat :=
  match mode with
  | 1 => 2656250
  | 2 => 2578125
  | 3 => 2578125
  | 4 => 1031250
  | _ => 125000

/-- The word period by mode in units of 2^-16/25 ns, in which it is whole (R234): 2.56 ns, 6.4 ns, 8.0 ns. -/
def wordPeriod (mode : Nat) : Nat := if mode = 4 then 10485760 else if mode = 5 then 13107200 else 4194304

/-- `b` unit intervals in units of 2^-16 ns, rounded to nearest with ties toward plus infinity (R244). -/
def uiUnits (mode b : Nat) : Int := roundDiv (((b * 6553600000 : Nat) : Int)) (baudOf mode)

/-! ### Wire stamps -/

/-- The receive timestamp of a point at UI position `b` of a word whose edge gave capture code `c` on lane `j` (R244). -/
def rxStamp (d : Dev) (p s j b c : Nat) : Nat :=
  let m := portMode d p
  let tw := latchStamp d c (sx 24 (fld d (PORT_LANE_DLY_RX_dly p j)))
  wrapN 64 ((tw : Int) - sx 32 (rdN d (PORT_LANE_LAT_RX p j)) - (uiUnits m (wordUI m) - uiUnits m b) -
    sx 32 (rdN d (PORT_BOARD_RX p s)))

/-- What R245 adds to the time of the transmit word edge. -/
def txOffset (d : Dev) (p s j b : Nat) : Int :=
  sx 32 (rdN d (PORT_LANE_LAT_TX p j)) + uiUnits (portMode d p) b + sx 32 (rdN d (PORT_BOARD_TX p s))

/-- The edge of the transmit word, as its latch stamps it (R245). -/
def txEdge (d : Dev) (p j c : Nat) : Nat := latchStamp d c (sx 24 (fld d (PORT_LANE_DLY_TX_dly p j)))

/-- The transmit timestamp that belongs to a word edge (R245). -/
def txStamp (d : Dev) (p s j b tw : Nat) : Nat := wrapN 64 ((tw : Int) + txOffset d p s j b)

/-- The SerDes reference PLL (R24). -/
def serdesPll (d : Dev) : Nat := fld d SYN_STATUS_serdes_pll

/-- The transmit words stand at a known phase to the timescale (R245): the SerDes reference PLL is Locked and steered. -/
def predOn (d : Dev) : Bool := pllState d (serdesPll d) == 3 && pllSteers d (serdesPll d)

/-- The predicted time of the edge of transmit word `m` after the whole TAI second (R245), to the nearest unit. -/
def predictEdge (d : Dev) (p j m : Nat) : Nat :=
  let pw := wordPeriod (portMode d p)
  let anchor := now16 d / sec16 * sec16
  (anchor + (2 * (m * pw + (plane d (laneNo d p j)).phi) + 25) / 50) % 2 ^ 64

/-- φ_tx of lane `j` of a block set, in units of 2^-16/25 ns modulo the word period, with PORT_LANE_TXPH to the nearest unit. -/
def setPhi (p j : Nat) (v : Int) (d : Dev) : Dev :=
  let x := (v % (wordPeriod (portMode d p) : Int)).toNat
  wrN (PORT_LANE_TXPH p j) ((2 * x + 25) / 50) (modPlane (laneNo d p j) (fun l => { l with phi := x }) d)

/-- A step or set of `s` units moves φ_tx of every lane (R248). -/
def stepPhi (s : Int) (d : Dev) : Dev :=
  forEach (List.range 8) (fun p x => forEach (portLanes x p) (fun j y =>
    setPhi p j (((plane y (laneNo y p j)).phi : Int) - 25 * s) y) x) d

/-- pred_valid of every subport of a block brought up to date (R245, R249): event 0x008 on a change. -/
def refreshPred (p : Nat) (d : Dev) : Dev :=
  if !(portOn d p) then d
  else
    let on := predOn d
    let was := flag d (PORT_SUB_STATUS_pred_valid p 0)
    let d1 := forEach (portSubs d p) (fun s x => setB (PORT_SUB_STATUS_pred_valid p s) on x) d
    doIf (on != was) (raise ((0x10 + p) * 1024 + 8) (b2n on)) d1

/-- pred_valid of every port block brought up to date. -/
def refreshPreds (d : Dev) : Dev := forEach (List.range 8) refreshPred d

/-! ### Link states (R236) -/

/-- Link state of a subport: 0 Off, 1 Calibrating, 2 Training, 3 Up, 4 Fenced. -/
def subLink (d : Dev) (p s : Nat) : Nat := fld d (PORT_SUB_STATUS_link p s)

/-- Frames that can no longer be sent are dropped and counted, their buffers return (R242). -/
def dropTx (p s : Nat) (d : Dev) : Dev :=
  let x := psub d p s
  let all := x.mac ++ x.timed
  let d1 := forEach all txFree (modPsub p s (fun y => { y with mac := [], timed := [] }) d)
  doIf (decide (0 < all.length)) (portCnt p s 27 all.length) d1

/-- The request of a lane's transmit word clock, and with `true` of its receive clock (log entry 11). -/
def laneReq (l : Nat) (rx : Bool) : Nat := 56 + 2 * l + b2n rx

/-- The two requests of R251 of lane `j` of a block: class 5, STAMP, N = 4,096. The grid is the smallest whole number of units
that is a multiple of P_w, and the prescale the smallest multiple of that many words that spans 100 ns (log entry 18). -/
def postLane (p j : Nat) (d : Dev) : Dev :=
  let m := portMode d p
  let l := laneNo d p j
  let k := if m = 4 then 5 else if m = 5 then 1 else 25
  let grid := wordPeriod m * k / 25
  let presc := k * ceilDiv (ceilDiv 163840000 (wordPeriod m)) k
  let rep := atLeast1 (fld d (PORT_CAL_PERIOD_s p)) * sec16
  forEach [false, true] (fun rx x =>
    let q := laneReq l rx
    postReq q (0x10 + p) 0 5 ((if rx then 0x40 else 0x50) + l) 0 presc 4096 rep
      (wr64 (bank MEAS_REQ_P_LO q) grid (wr64 (bank MEAS_REQ_ANCHOR_LO q) (now16 x / sec16 * sec16 % 2 ^ 64) x))) d

/-- The requests of a subport's lanes withdrawn. -/
def dropLaneReqs (p s : Nat) (d : Dev) : Dev :=
  forEach (subLanes d p s) (fun j x => forEach [false, true] (fun rx y =>
    let q := laneReq (laneNo y p j) rx
    if reqState y q = 0 then y else reqDisable q y) x) d

/-- A subport leaves Up for state `st` (R236): link_down counts the exit, event 0x002; frames handed to the MAC are dropped. A frame in
progress counts in rx_fenced where the subport is fenced (R249), else in rx_pcs. -/
def leaveUp (p s st : Nat) (d : Dev) : Dev :=
  if subLink d p s = 3 then
    let d0 := rxCut p s (if st = 4 then 10 else 6) d
    let d1 := setF (PORT_SUB_STATUS_an_done p s) 0 (setF (PORT_SUB_STATUS_link p s) st (dropLaneReqs p s d0))
    raise ((0x10 + p) * 1024 + 2) s (portCnt p s 31 1 (dropTx p s d1))
  else setF (PORT_SUB_STATUS_link p s) st d

/-- The word-alignment slip of a lane as the link trained it (PORT_LANE_SLIP): a free value. -/
def laneSlip (p j : Nat) (d : Dev) : Dev := setF (PORT_LANE_SLIP_slip p j) (freeVal d) (draw d)

/-- A subport enters Up (R236, R251): event 0x003, and the running calibration of its lanes begins; the slip of
each lane is as it trained. -/
def enterUp (p s : Nat) (an : Bool) (d : Dev) : Dev :=
  let d1 := setB (PORT_SUB_STATUS_an_done p s) an (setF (PORT_SUB_STATUS_link p s) 3 d)
  raise ((0x10 + p) * 1024 + 3) (s + portMode d p * 2)
    (forEach (subLanes d1 p s) (fun j x => postLane p j (laneSlip p j x)) d1)

/-- The lanes of a block forget their latency calibration. -/
def clearLat (p : Nat) (d : Dev) : Dev :=
  forEach (portLanes d p) (fun j x => modPlane (laneNo x p j) (fun l => { l with latOk := false }) x) d

/-- PORT_STATUS.calibrated (R252): latency calibration passed and one result of R251 applied, on every lane. -/
def portCalibrated (d : Dev) (p : Nat) : Bool :=
  (portLanes d p).all (fun j =>
    let l := plane d (laneNo d p j)
    l.latOk && (l.rxAt.isSome || l.txAt.isSome)) && portMode d p != 0

/-- The flag brought up to date. -/
def refreshCal (p : Nat) (d : Dev) : Dev := setB (PORT_STATUS_calibrated p) (portCalibrated d p) d

/-- Both subports of a block go to Calibrating (R236). -/
def toCalibrating (p : Nat) (d : Dev) : Dev :=
  refreshCal p (clearLat p (forEach (portSubs d p) (fun s x => leaveUp p s 1 x) d))

/-- A block whose subports are Off starts to calibrate once its quad is on and the SerDes reference PLL is Locked (R236). -/
def startPort (p : Nat) (d : Dev) : Dev :=
  if portOn d p && subLink d p 0 == 0 && pllState d (serdesPll d) == 3 then refreshPred p (toCalibrating p d) else d

/-- The blocks of a quad. -/
def quadPorts (q : Nat) : List Nat := [2 * q, 2 * q + 1]

/-- A port block goes to Fenced with a cause of event 0x007: 1 latency calibration, 2 quad fenced (R236, R249). -/
def fencePort (p cause : Nat) (d : Dev) : Dev :=
  if !(portOn d p) || flag d (PORT_STATUS_fenced p) then d
  else
    let d1 := forEach (portSubs d p) (fun s x => dropTx p s (leaveUp p s 4 x)) d
    raise ((0x10 + p) * 1024 + 7) cause (setF (PORT_STATUS_fenced p) 1 d1)

/-- The age of a lane in whole milliseconds (R252): the time since its last applied result; all ones while it has none. -/
def laneAge (d : Dev) (l : Nat) : Nat :=
  match (plane d l).rxAt, (plane d l).txAt with
  | some a, some b => min 0xFFFFFFFF (min (now16 d - a) (now16 d - b) / ms16)
  | some a, none => min 0xFFFFFFFF ((now16 d - a) / ms16)
  | none, some b => min 0xFFFFFFFF ((now16 d - b) / ms16)
  | none, none => 0xFFFFFFFF

/-! ### Running calibration -/

/-- A signed value into a 24-bit delay register; the spec states no value outside its range, which is free then. -/
def putDly (f : Fld) (v : Int) (d : Dev) : Dev := if satS 24 v = v then setF f (wrapN 24 v) d else setF f (freeVal d) (draw d)

/-- The published result of a lane's request (R251), with the latch's own mean of the same edges, against the same grid: the delay
takes the value that makes the two means equal, and for the transmit clock φ_tx := MEAS's mean. Results flagged preempted or
step, or without a sample, are discarded. -/
def laneResult (q : Nat) (latch : Int) (d : Dev) : Dev :=
  let l := (q - 56) / 2
  let rx := q % 2 == 1
  let fl := reqReg d MEAS_RES_FLAGS q
  match (List.range 8).find? (fun p => portOn d p && (portLanes d p).any (fun j => laneNo d p j == l)) with
  | none => d
  | some p =>
    let j := l - fld d (PORT_STATUS_first_lane p)
    if reqReg d MEAS_RES_CNT q = 0 || fl / 2 % 4 ≠ 0 || reqState d q = 0 then d
    else
      let mean := sx 64 (reqReg64 d MEAS_RES_MEAN_LO q)
      let f := if rx then PORT_LANE_DLY_RX_dly p j else PORT_LANE_DLY_TX_dly p j
      let d1 := putDly f (sx 24 (fld d f) + (latch - mean)) d
      let d2 := if rx then modPlane l (fun x => { x with rxAt := some (now16 d) }) d1
        else setPhi p j (25 * mean) (modPlane l (fun x => { x with txAt := some (now16 d) }) d1)
      let d3 := forEach (portSubs d2 p) (fun s x => modPsub p s (fun y => { y with mis := 0 }) x) d2
      let seq := (rdN d (PORT_CAL_SEQ p) + 1) % 2 ^ 32
      let d4 := refreshCal p (wrN (PORT_CAL_SEQ p) seq d3)
      raise3 ((0x10 + p) * 1024 + 4) seq seq (l + (if rx then 256 else 512)) (reqReg d MEAS_RES_CAL q) d4

end Sys2Proof.Machine
end

