-- ==== Sys2Proof/Machine/ImgOps.lean ====
section
/-! DEFINITION. The layout of an image (R46 to R50): header fields, section directory, interface table, tested-with list. -/

namespace Sys2Proof.Machine

open Sys2Proof

/-- `n` little-endian bytes of an image from `i` as a number. -/
def imgAt (b : List Byte) (i n : Nat) : Nat := leNat (sliceOf b i n)

/-- A section directory entry. -/
structure Sect where
  type : Nat
  live : Bool
  bytes : List Byte
  inside : Bool
  deriving DecidableEq, Repr

/-- Build identifier, length, and counts of the header. -/
def imgBuild (b : List Byte) : Nat := imgAt b 8 4

/-- Total bytes, signature included. -/
def imgLen (b : List Byte) : Nat := imgAt b 12 4

/-- The section directory of an image (R46). -/
def sectsOf (b : List Byte) : List Sect :=
  (List.range (imgAt b 16 2)).map (fun i =>
    let e := 64 + 16 * i
    let o := imgAt b (e + 4) 4
    let n := imgAt b (e + 8) 4
    { type := imgAt b e 2, live := imgAt b (e + 2) 2 % 2 == 1, bytes := sliceOf b o n, inside := decide (o + n ≤ imgLen b) })

/-- An interface table entry (R49). -/
structure Iface where
  id : Nat
  requires : Bool
  optional : Bool
  lo : Nat
  hi : Nat
  entry : Nat
  vers : Nat
  deriving DecidableEq, Repr

/-- The interface entries of 8-byte records. Byte 2 requires where its low bit is 1: the spec gives 0x00 and 0x01 only (DESIGN CHOICE,
log entry 122). -/
def ifacesAt (b : List Byte) (off n : Nat) : List Iface :=
  (List.range n).map (fun i =>
    let e := off + 8 * i
    { id := imgAt b e 2, requires := imgAt b (e + 2) 1 % 2 == 1, optional := imgAt b (e + 3) 1 % 2 == 1
      lo := imgAt b (e + 4) 2, hi := imgAt b (e + 6) 2, entry := imgAt b e 4, vers := imgAt b (e + 4) 4 })

/-- The interface table of an image. -/
def ifacesOf (b : List Byte) : List Iface := ifacesAt b (imgAt b 24 4) (imgAt b 18 2)

/-- The tested-with list of an image (R50): kind and build identifier. -/
def testedOf (b : List Byte) : List (Nat × Nat) :=
  (List.range (imgAt b 20 2)).map (fun i => let e := imgAt b 28 4 + 8 * i; (imgAt b e 1, imgAt b (e + 4) 4))

/-- The version at which a party of a set provides an interface (R49). -/
def providedBy (parties : List (List Iface)) (id : Nat) : Option Nat :=
  (parties.flatten.find? (fun e => e.id == id && !e.requires)).map (fun e => e.lo)

end Sys2Proof.Machine
end

