-- ==== Sys2Proof/Machine/TwnOps.lean ====
section
/-! DEFINITION. The operations of TWN (spec/14_twin_redundancy.md): claim numbers (R343), who speaks (R347, R348), the link
(R340), the journal (R354) and the two-way alignment (R351). -/

namespace Sys2Proof.Machine

open Sys2Proof

/-! ### Claims and speaking -/

/-- Twin operation is on. -/
def twnEn (d : Dev) : Bool := flag d TWN_CTL_en

/-- Reporting units that are Fenced. -/
def fencedUnits (d : Dev) : Nat := ((List.range 64).filter (unitFenced d)).length

/-- Bits [11:10] of a claim (R343). -/
def claimTime (d : Dev) : Nat :=
  if !(flag d TB_STATUS_time_valid) then 0
  else
    match fld d REF_STATUS_servo with
    | 2 => match refActive d with | some s => if timeCapable (slotKind d s) then 3 else 2 | none => 2
    | 1 => 2
    | 3 => 1
    | _ => 0

/-- The claim that the chip computes now (R343): 0 outside Serve, with claim_en = 0, or with a fatal fault in progress. -/
def claimNow (d : Dev) : Nat :=
  if devState d ≠ stServe || !(flag d TWN_CTL_claim_en) || d.flt.pinsFatal then 0
  else if flag d TWN_BUS_STATUS_yielding then 0x8000
  else 0x8000 + (7 - min 7 (fencedUnits d)) * 4096 + claimTime d * 1024 + b2n (fld d TWN_STATUS_state == 0) * 512 +
    b2n (!(flag d TWN_STATUS_hunt)) * 256 + fld d TWN_PRIO_prio

/-- Claims are compared over Millrace (R346, R405): the bus is faulted, or unit 0x35 has released the drivers. -/
def overLink (d : Dev) : Bool := flag d TWN_BUS_STATUS_bus_fault || unitOut d 0x35

/-- An Orphan speaks (R347): the bus is free of fault, or the chip's TWN_SIDE strap is high. -/
def orphanSpeaks (d : Dev) : Bool := !(overLink d) || flag d TWN_BUS_STATUS_side

/-- The chip holds the right to claim-ruled outputs and traffic (R346, R347): Active, or an Orphan that speaks. -/
def speaking (d : Dev) : Bool :=
  !(twnEn d) || (!(flag d TWN_BUS_STATUS_side_conflict) &&
    (fld d TWN_STATUS_state == 0 || (fld d TWN_STATUS_state == 2 && orphanSpeaks d)))

/-- The chip sends the traffic of the first row of R348: in dual-send both chips, the Standby while its mirror is Valid or Held
and no step of the Active waits; else the chip that speaks. -/
def speaksDual (d : Dev) : Bool :=
  speaking d || (twnEn d && !(flag d TWN_BUS_STATUS_side_conflict) && decide (fld d TWN_CTL_pkt_mode = 1) &&
    decide (fld d TWN_STATUS_state = 1) && decide (2 ≤ fld d TWN_STATUS_mirror) && d.twn.shift.isNone)

/-- The Standby runs its wheel in shadow (R358). -/
def shadows (d : Dev) : Bool := twnEn d && decide (fld d TWN_STATUS_state = 1) && decide (2 ≤ fld d TWN_STATUS_mirror)

/-- The twin state changes (R347): event 0x6C02, a takeover counted when it becomes Active. -/
def twinTo (st : Nat) (d : Dev) : Dev :=
  let old := fld d TWN_STATUS_state
  if old = st then d
  else
    let d1 := setF TWN_STATUS_state st d
    let d2 := doIf (st == 0) (satAdd ⟨TWN_CNT 7, 0, 32⟩ 1) d1
    raise 0x6C02 (old + st * 4) d2

/-- TWN counter `i` increments, saturating. -/
def twnCount (i n : Nat) (d : Dev) : Dev := satAdd ⟨TWN_CNT i, 0, 32⟩ n d

/-- TWN_RESULT written whole: cause, and command 0 pairing, 1 TWN_CMD, 2 TWN_CTL. -/
def twnResult (cause cmd : Nat) (d : Dev) : Dev := wrN TWN_RESULT (cause + cmd * 256) d

/-! ### Link and frames -/

/-- `d` with TWN's hidden state changed. -/
def modTwn (f : Twn → Twn) (d : Dev) : Dev := { d with twn := f d.twn }

/-- The frames that a command puts on the link (R339); none while it is not Up, but the hello of Training. -/
def sendMr (l : List MrBody) (d : Dev) : Dev :=
  modTwn (fun t => { t with out := l.map (fun b =>
    { active := fld d TWN_STATUS_state == 0, epoch := rdN d TWN_EPOCH, body := b }) }) d

/-- The link is Up. -/
def linkUp (d : Dev) : Bool := fld d TWN_STATUS_link == 2

/-- The requests of R350 on the marker sources: 88 on 0x70, 89 on 0x71 (log entry 11). -/
def postMarkers (d : Dev) : Dev :=
  forEach [88, 89] (fun q x =>
    postReq q 0x1B 0 2 (q - 88 + 0x70) 0 1 (atLeast1 (fld x TWN_ALIGN_N_n)) (fld x TWN_ALIGN_PERIOD_ms * 65536000000)
      (wr64 (bank MEAS_REQ_P_LO q) 65536000 (wr64 (bank MEAS_REQ_ANCHOR_LO q) (now16 x / sec16 * sec16 % 2 ^ 64) x))) d

/-- The marker requests withdrawn. -/
def dropMarkers (d : Dev) : Dev := forEach [88, 89] (fun q x => if reqState x q = 0 then x else reqDisable q x) d

/-- The link changes its state (R340): 0 Down, which it keeps while unit 0x34 is out (R405), 1 Training, 2 Up; event 0x6C01. Losing it holds a Valid mirror and ends a sweep
(R357). -/
def linkTo (link : Nat) (d : Dev) : Dev :=
  let st := if unitOut d 0x34 then 0 else link
  let old := fld d TWN_STATUS_link
  if old = st then d
  else
    let d1 := setF TWN_STATUS_link st (modTwn (fun t => { t with sentHello := false, gotHello := none }) d)
    let m := fld d TWN_STATUS_mirror
    let d2 :=
      if old = 2 then
        dropMarkers (setF TWN_STATUS_mirror (if m = 2 then 3 else if m = 1 then 0 else m) (setF TWN_STATUS_paired_ok 0
          (modTwn (fun t => { t with upAt := some (now16 d), mirroring := t.mirroring && t.sweepPos.isNone, sweepPos := none }) d1)))
      else if st = 2 then postMarkers d1 else d1
    raise 0x6C01 (old + st * 4) d2

/-- The chip is paired for R172: the link has been Up within the last TWN_UNPAIR_TIME seconds. -/
def twnPaired (d : Dev) : Bool :=
  twnEn d && (linkUp d ||
    (match d.twn.upAt with
     | some t => decide (now16 d - t ≤ fld d TWN_UNPAIR_TIME_s * sec16)
     | none => false))

/-- The chip keeps a mirror: Active, since a sweep was started; while the link is lost, as long as retention lasts (R356). -/
def mirrors (d : Dev) : Bool := twnEn d && d.twn.mirroring && decide (fld d TWN_STATUS_state = 0)

/-- A change for the journal of the running epoch (R354, R355). -/
def journalAdd (r : JRec) (d : Dev) : Dev := doIf (mirrors d) (modTwn (fun t => { t with journal := t.journal ++ [r] })) d

/-- A sweep starts (R357): the Active sends the store from its beginning, the Standby's mirror is Sweeping; event 0x6C06. -/
def startSweep (d : Dev) : Dev :=
  let d1 := raise 0x6C06 0 (twnCount 4 1 d)
  if fld d TWN_STATUS_state = 0 then modTwn (fun t => { t with mirroring := true, sweepPos := some 0, retained := [], journal := [] }) d1
  else setF TWN_STATUS_mirror 1 (modTwn (fun t => { t with swept := [], newKeys := none, staged := none, ofs := none }) d1)

/-- TWN_ALIGN_SEQ names a new alignment set-up (R353): the record 0x6C05. -/
def alignRecord (d : Dev) : Dev :=
  let seq := (rdN d TWN_ALIGN_SEQ + 1) % 2 ^ 32
  raise3 0x6C05 seq seq (rdN d TWN_ASYM) (rdN d MEAS_CAL_SEQ) (wrN TWN_ALIGN_SEQ seq d)

/-! ### Alignment -/

/-- The published result of marker request `q` may be used (R350). -/
def markerOk (d : Dev) (q : Nat) : Bool :=
  reqReg d MEAS_RES_CNT q != 0 && reqReg d MEAS_RES_FLAGS q / 2 % 4 == 0

/-- The chip's own results (R350). -/
def ownAlign (d : Dev) : AlignMsg :=
  let mean := fun q => sx 64 (reqReg64 d MEAS_RES_MEAN_LO q)
  { txMean := mean 88, txStd := reqReg d MEAS_RES_STD 88, txN := reqReg d MEAS_RES_CNT 88, txAge := reqReg64 d MEAS_RES_AGE_LO 88
    rxMean := mean 89, rxStd := reqReg d MEAS_RES_STD 89, rxN := reqReg d MEAS_RES_CNT 89, rxAge := reqReg64 d MEAS_RES_AGE_LO 89 }

/-- The partner's results are within half a period of the chip's own (R351). -/
def agesNear (d : Dev) (a b : AlignMsg) : Bool :=
  let h := fld d TWN_ALIGN_PERIOD_ms * 32768000000
  [(a.txAge, b.txAge), (a.txAge, b.rxAge), (a.rxAge, b.txAge), (a.rxAge, b.rxAge)].all
    (fun p => decide ((nearDiff p.1 p.2).natAbs ≤ h))

/-- σ of R351 in fs: ½ × sqrt(Σ std²/n) over the four results, to the nearest femtosecond, saturated to 24 bits. -/
def alignSigma (l : List (Nat × Nat)) : Nat :=
  let den := l.foldl (fun acc p => acc * atLeast1 p.2) 1
  let num := l.foldl (fun acc p => acc + p.1 * p.1 * (den / atLeast1 p.2)) 0
  min (2 ^ 24 - 1) ((isqrt (4 * 10 ^ 12 * num / (4 * 2 ^ 32 * den)) + 1) / 2)

/-- What R352 and R362 do with a new θ: the trim of a Standby that follows and is not Held, and the hunt. -/
def alignUse (theta : Int) (d : Dev) : Dev :=
  let trim := roundDiv (-theta * 2 ^ 40) (atLeast1 (fld d TWN_TRIM_TC_s) * 10 ^ 9)
  let d1 := doIf (follows d && decide (fld d TWN_STATUS_mirror = 2)) (wrS64 TWN_TRIM_VAL_LO trim) d
  if !(flag d TWN_CTL_bist_en) || fld d TWN_STATUS_state ≠ 1 then d1
  else
    let far := decide (fld d TWN_TIME_LIMIT_ps * 65536 < theta.natAbs * 1000)
    let beyond := if far then d.twn.beyond + 1 else 0
    let bad := decide (3 ≤ beyond) || decide (rdN d TWN_TRIM_LIMIT < (rdS64 d1 TWN_TRIM_VAL_LO).natAbs)
    let within := if far || bad then 0 else d.twn.within + 1
    let d2 := modTwn (fun t => { t with beyond := beyond, within := within }) d1
    if bad && !(flag d TWN_STATUS_hunt) then raise 0x6C0B (wrapN 32 (satS 32 theta)) (setF TWN_STATUS_hunt 1 d2)
    else if decide (100 ≤ within) then setF TWN_STATUS_hunt 0 d2 else d2

/-- The chip's own results combined with the partner's (R351): θ, delay and σ, and what follows from them. -/
def alignCombine (r : AlignMsg) (d : Dev) : Dev :=
  let l := ownAlign d
  if !(flag d TWN_STATUS_paired_ok) || !(markerOk d 88) || !(markerOk d 89) || !(agesNear d l r) then d
  else
    let mIn := l.rxMean - r.txMean
    let mOut := r.rxMean - l.txMean
    let lat := fun a => sx 32 (rdN d a)
    let asym := sx 32 (rdN d TWN_ASYM) + (lat TWN_LAT_TX + lat TWN_PEER_LAT_RX) - (lat TWN_PEER_LAT_TX + lat TWN_LAT_RX)
    let theta := roundDiv (mIn - mOut + asym) 2
    let sigma := alignSigma [(l.txStd, l.txN), (l.rxStd, l.rxN), (r.txStd, r.txN), (r.rxStd, r.rxN)]
    let d1 := wrN TWN_ALIGN_STD sigma (wrN TWN_ALIGN_DLY (wrapN 32 (roundDiv (mIn + mOut) 2)) (wrS64 TWN_ALIGN_OFS_LO theta d))
    alignUse theta (wr64 TWN_ALIGN_AGE_LO l.rxAge d1)

/-- A published marker result: the chip sends its results (R350); after a refused pairing the link serves health reports only (R342). -/
def alignResult (q : Nat) (d : Dev) : Dev := doIf (linkUp d && flag d TWN_STATUS_paired_ok && markerOk d q) (fun x => sendMr [.align (ownAlign x)] x) d

/-- The follow term of R352. -/
def followTerm (d : Dev) : Int :=
  d.twn.terms.1 + d.twn.terms.2.1 + d.twn.terms.2.2 - (leadChan d).ens + rdS64 d TWN_TRIM_VAL_LO

/-- SHA-256 of IMG_BUILD_STRUCT followed by IMG_SECT_HASH of every live section (R360). -/
def configDigest (d : Dev) : Nat :=
  Config.sha256 (leBytes 4 (rdN d IMG_BUILD_STRUCT) ++
    ((List.range 256).filter (fun i => bitsOf (rd d (bank IMG_SECT_INFO i)) 16 1 == 1)).flatMap
      (fun i => (List.range 8).flatMap (fun w => leBytes 4 (rdN d (bank (IMG_SECT_HASH w) i))))) % 2 ^ 256

/-- The version of the Millrace mirror interface that the running set provides (R342). -/
def mirrorVersion (d : Dev) : Nat := (providedBy (d.img.run.map ifacesOf) 0x0040).getD 0

end Sys2Proof.Machine
end

