-- ==== Sys2Proof/Machine/SvcOps.lean ====
section
/-! DEFINITION. The operations of SVC (spec/12_time_service.md): when it serves (R275), routing to pipelines (R278), served
addresses, the session store (R291 to R293), the client weir (R302 to R305), launches (R306) and the queues (R308, R310). -/

namespace Sys2Proof.Machine

open Sys2Proof

/-! ### Serving -/

/-- SVC's shared unit works and the device is in Serve. -/
def svcLive (d : Dev) : Bool := devState d == stServe && !(unitOut d 0x25)

/-- NTP, unicast PTP and Signaling are answered (R275, R348). -/
def servesNtp (d : Dev) : Bool := svcLive d && flag d SVC_CTL_nts_en && speaking d

/-- Unicast PTP and Signaling are served. -/
def servesUc (d : Dev) : Bool := svcLive d && flag d SVC_CTL_ptp_en && speaking d

/-- Multicast PTP is served: also by the Standby in dual-send. -/
def servesMc (d : Dev) : Bool := svcLive d && flag d SVC_CTL_ptp_en && speaksDual d

/-- SVC_STATUS.serving as its conditions stand. -/
def servesAny (d : Dev) : Bool := domOn d .pkt && (servesNtp d || servesUc d || servesMc d)

/-- SVC_STATUS.serving follows its conditions (R275): event 0x640B. -/
def refreshServing (d : Dev) : Dev :=
  let on := servesAny d
  if on == flag d SVC_STATUS_serving then d else raise 0x640B (b2n on) (setB SVC_STATUS_serving on d)

/-! ### Time values -/

/-- The timescale value of a near time (R286): the one within ±2^47 ns of the current time. -/
def fullTime (d : Dev) (t : Nat) : Nat := ((now16 d : Int) + nearDiff t (near d)).toNat

/-- A PTP timestamp of a timescale value: 6 bytes of seconds, 4 of nanoseconds (R286). -/
def ptpStamp (v : Nat) : List Byte := beBytes 6 (v / sec16) ++ beBytes 4 (v % sec16 / 65536)

/-- The fraction below a nanosecond, in the units of correctionField. -/
def fracOf (v : Nat) : Nat := v % 65536

/-- The leap indicator in force for a lead time of `lead` seconds (R289): 0 none, 1 insertion, 2 deletion. -/
def leapInd (d : Dev) (lead : Nat) : Nat :=
  let now := taiSec d
  match leapNext d now with
  | none => 0
  | some e =>
    let at' := leapE e
    if at' ≤ now + lead ∧ now < at' then
      (if leapAt d now < leapOff e then 1 else if leapOff e < leapAt d now then 2 else 0)
    else 0

/-- NTP seconds of a timescale value (R300): UTC seconds since 1900, the seconds of 23:59:59 repeated in an inserted second. -/
def ntpSec (d : Dev) (v : Nat) : Nat :=
  let tai := v / sec16
  let ins := match leapNext d tai with
    | some e => decide (leapE e = tai + 1) && decide (leapAt d tai < leapOff e)
    | none => false
  wrapN 32 ((tai : Int) - leapAt d tai + 2208988800 - b2n ins)

/-- The NTP timestamp of a timescale value. -/
def ntpStamp (d : Dev) (v : Nat) : List Byte := beBytes 4 (ntpSec d v) ++ beBytes 4 (v % sec16 * 2 ^ 32 / sec16)

/-! ### Addresses -/

/-- The address of entry `e`, 16 bytes; IPv4 in ADDR3 as ::ffff:a.b.c.d. -/
def svcIp (d : Dev) (e : Nat) : List Byte :=
  if flag d (SVC_IP_CFG_ipv6 e) then (List.range 4).flatMap (fun w => leBytes 4 (rdN d (SVC_IP_ADDR e w)))
  else v4Mapped (leBytes 4 (rdN d (SVC_IP_ADDR e 3)))

/-- The valid entries whose port mask holds port block `p`. -/
def ipEntries (d : Dev) (p : Nat) : List Nat :=
  (List.range 16).filter (fun e => flag d (SVC_IP_CFG_valid e) && decide (fld d (SVC_IP_CFG_ports e) / 2 ^ p % 2 = 1))

/-- The entry that serves an address on a port block. -/
def servedBy (d : Dev) (p : Nat) (v6 : Bool) (a : List Byte) : Option Nat :=
  (ipEntries d p).find? (fun e => flag d (SVC_IP_CFG_ipv6 e) == v6 && svcIp d e == a)

/-- The solicited-node groups of the served IPv6 addresses, as MAC addresses (R240). -/
def solicited (d : Dev) (p : Nat) : List (List Byte) :=
  ((ipEntries d p).filter (fun e => flag d (SVC_IP_CFG_ipv6 e))).map
    (fun e => [0x33#8, 0x33#8, 0xFF#8] ++ (svcIp d e).drop 13)

/-- The PTP group addresses (R240). -/
def ptpGroup (v6 : Bool) (a : List Byte) : Bool :=
  if v6 then a == [0xFF#8, 0x02#8] ++ List.replicate 12 0#8 ++ [0x01#8, 0x81#8] ||
    a == [0xFF#8, 0x02#8] ++ List.replicate 12 0#8 ++ [0x00#8, 0x6B#8]
  else a == v4Mapped [224#8, 0#8, 1#8, 129#8] || a == v4Mapped [224#8, 0#8, 0#8, 107#8]

/-- The MAC address of a subport, or of the drive segment. -/
def ownMac (d : Dev) (p s : Nat) : List Byte :=
  if p = 8 then macBytes (rd64 d DSG_RX_MAC_LO % 2 ^ 48) else macBytes (rd64 d (PORT_MAC_LO p s) % 2 ^ 48)

/-- The maximum frame length of a port (R237), and of the drive segment (R256). -/
def maxFrame (d : Dev) (p : Nat) : Nat := if p = 8 then 1522 else fld d (PORT_MAX_FRAME_m p)

/-! ### Pipelines -/

/-- The pipelines of a protocol, 0 NTS or 1 PTP (R278, R414). -/
def eligible (d : Dev) (proto : Nat) : List Nat :=
  (List.range 4).filter (fun p => decide (fld d SVC_STATUS_split / 2 ^ (2 * p + proto) % 2 = 1) && !(unitOut d (0x21 + p)))

/-- The pipeline that a source selects. -/
def pipeFor (d : Dev) (proto : Nat) (src : List Byte) : Option Nat :=
  let l := eligible d proto
  if l.isEmpty then none else some (l.getD (Config.routeHash src % l.length) 0)

/-- The input queue of a pipeline. -/
def pipeQ (d : Dev) (p : Nat) : List PItem := cget (fun _ => []) d.net.queues p

/-- `d` with the input queue of a pipeline replaced. -/
def setPipeQ (p : Nat) (l : List PItem) (d : Dev) : Dev :=
  { d with net := { d.net with queues := cput (fun _ => []) d.net.queues p l } }

/-- An item appended to the input queue of a pipeline. -/
def pipePut (p : Nat) (x : PItem) (d : Dev) : Dev := setPipeQ p (pipeQ d p ++ [x]) d

/-- The frames in the input queue of a pipeline: the 256 places of R278 are theirs; wheel entries and owed Follow_Ups take none
(log entry 160). -/
def pipeDepth (d : Dev) (p : Nat) : Nat :=
  ((pipeQ d p).filter (fun x => match x.msg with | .rx _ => true | _ => false)).length

/-- A received frame for a pipeline (R278): a full queue drops it. Its buffers are in SVC_BUF_PIPE. -/
def pipeFrame (p : Nat) (f : RxDesc) (d : Dev) : Dev :=
  if 256 ≤ pipeDepth d p then svcCnt 23 1 (bufMove SVC_BUF_PIPE SVC_BUF_FREE f.bufs d)
  else pipePut p { msg := .rx f, slot := none, late := false, again := false } d

/-- The 32-bit nonce counter of a pipeline taken once (R299): the 16-byte nonce. -/
def takeNonce (p : Nat) (d : Dev) : List Byte × Dev :=
  let n := cget (fun _ => 0) d.net.nonces p
  (beBytes 8 (near d) ++ beBytes 1 p ++ beBytes 3 0 ++ beBytes 4 n,
   { d with net := { d.net with nonces := cput (fun _ => 0) d.net.nonces p ((n + 1) % 2 ^ 32) } })

/-- An operation of R311. -/
def opDone (p : Nat) (d : Dev) : Dev :=
  pmcAdd (0x1902 + p) 1 (pmcAdd 0x1901 1 (svcCnt 0 1
    { d with net := { d.net with ops := cput (fun _ => 0) d.net.ops p (cget (fun _ => 0) d.net.ops p + 1) } }))

/-- An event that may be raised once in a second. -/
def onceSec (code param : Nat) (d : Dev) : Dev :=
  if d.net.secDone.contains code then d
  else raise code param { d with net := { d.net with secDone := code :: d.net.secDone } }

/-! ### Launch -/

/-- A MAC takes frames: the subport is Up, or the drive segment's link is not Off. -/
def macReady (d : Dev) (p s : Nat) : Bool :=
  if p = 8 then fld d DSG_STATUS_link != 0 else portOn d p && subLink d p s == 3

/-- A frame handed to the MAC (R242): dropped where the subport is not Up. Its buffers are in SVC_BUF_TX. -/
def launch (p s : Nat) (f : TxFrame) (d : Dev) : Dev :=
  if macReady d p s then macPut p s f d
  else doIf (decide (p < 8) && portOn d p) (portCnt p s 27 1) (txFree f d)

/-- A frame that its pipeline built, of a request that held `had` buffers (R279, R310). -/
def launchBuilt (p s had : Nat) (f : TxFrame) (d : Dev) : Dev :=
  let n := bufsOf (f.bytes.length + 4) (maxFrame d p)
  let d1 := bufMove SVC_BUF_PIPE SVC_BUF_TX (min had n) d
  let d2 := bufMove SVC_BUF_PIPE SVC_BUF_FREE (had - n) d1
  let extra := min (n - had) (poolFree d2)
  launch p s { f with bufs := min had n + extra } (bufMove SVC_BUF_FREE SVC_BUF_TX extra d2)

/-- A frame for `bytes` without more: built at the step count in force. -/
def builtFrame (d : Dev) (pipe : Nat) (bytes : List Byte) : TxFrame :=
  { bytes := bytes, bufs := 0, steps := some (stepMod d), target := none, pred := none, report := none, follow := none, pipe := pipe }

/-- `f` placed among frames that wait, in target order (R306). -/
def timedIns (now : Nat) (l : List TxFrame) (f : TxFrame) : List TxFrame :=
  match l with
  | [] => [f]
  | x :: xs => if nearDiff (f.target.getD 0) now < nearDiff (x.target.getD 0) now then f :: x :: xs else x :: timedIns now xs f

/-- A timed launch (R306): a target already due launches at once and is not late; too far ahead, or beyond 64 waiting frames, is refused. -/
def launchAt (p s : Nat) (f : TxFrame) (d : Dev) : Dev :=
  match f.target with
  | none => launch p s f d
  | some t =>
    let df := nearDiff t (near d)
    if df ≤ 0 then launch p s { f with target := none } d
    else if decide ((fld d SVC_LAUNCH_MAX_ms * 65536000000 : Int) < df) || decide (64 ≤ (psub d p s).timed.length) then
      raise 0x6405 (p + s * 16) (svcCnt 26 1 (txFree f d))
    else modPsub p s (fun x => { x with timed := timedIns (near d) x.timed f }) d

/-! ### Host and firmware queues -/

/-- A record of the host receive queue (R308): `kind` 1 a frame, 2 a transmit report. -/
def hostRecord (kind p s reason t len steps : Nat) (tail : List Byte) : List Byte :=
  let n := 16 + tail.length
  leBytes 2 n ++ leBytes 1 kind ++ leBytes 1 (p + s * 16 + reason * 32) ++ leBytes 8 t ++ leBytes 2 len ++ leBytes 1 steps ++
    leBytes 1 0 ++ tail ++ List.replicate ((4 - n % 4) % 4) 0#8

/-- A frame for the host receive queue, of buffers in SVC_BUF_PIPE (R308). -/
def toHost (f : RxDesc) (reason : Nat) (d : Dev) : Dev :=
  if fld d SVC_HOSTQ_QUOTA_buffers ≤ rdN d SVC_BUF_HOSTQ then
    onceSec 0x6408 (rdN d SVC_BUF_HOSTQ) (svcCnt 28 1 (bufMove SVC_BUF_PIPE SVC_BUF_FREE f.bufs d))
  else
    let rec' := hostRecord 1 f.port f.sub reason f.tRx f.bytes.length f.steps f.bytes
    let d1 := svcCnt 27 1 (bufMove SVC_BUF_PIPE SVC_BUF_HOSTQ f.bufs d)
    { d1 with net := { d1.net with hostRx := d1.net.hostRx ++ [{ bytes := rec', bufs := f.bufs }] } }

/-- A transmit report (R309): it holds no buffer. -/
def reportTx (p s tag tTx : Nat) (d : Dev) : Dev :=
  let r := hostRecord 2 p s 0 tTx 0 0 (leBytes 4 tag)
  { d with net := { d.net with hostRx := d.net.hostRx ++ [{ bytes := r, bufs := 0 }] } }

/-- A frame for the firmware frame queue (R296), in the format of the host queue. -/
def toFirmware (f : RxDesc) (d : Dev) : Dev :=
  let r := hostRecord 1 f.port f.sub 0 f.tRx f.bytes.length f.steps f.bytes
  let d1 := bufMove SVC_BUF_PIPE SVC_BUF_HOSTQ f.bufs d
  { d1 with net := { d1.net with fwq := d1.net.fwq ++ [{ bytes := r, bufs := f.bufs }] } }

/-- A frame whose buffers return to the pool. -/
def rxFree (f : RxDesc) (d : Dev) : Dev := bufMove SVC_BUF_PIPE SVC_BUF_FREE f.bufs d

/-! ### The session store -/

/-- A session (R291). -/
structure Sess where
  cid : List Byte
  portNo : Nat
  ip : List Byte
  port : Nat
  sub : Nat
  nh : Nat
  domain : Nat
  ann : Bool
  sync : Bool
  dresp : Bool
  oneStep : Bool
  auth : Bool
  v6 : Bool
  logA : Nat
  logS : Nat
  logD : Nat
  spp : Nat
  seqA : Nat
  seqS : Nat
  expiry : Nat
  phase : Nat
  keyId : Nat
  deriving DecidableEq, Repr

/-- Physical address of session `i` in the session store. -/
def sessAddr (i : Nat) : Nat := 0x20000000 + 48 * i

/-- The twelve words of session `i`. -/
def sessWords (d : Dev) (i : Nat) : List Word := (List.range 12).map (fun w => ramWord d (sessAddr i + 4 * w))

/-- A session from its 48 bytes. -/
def sessOf (ws : List Word) : Sess :=
  let b := ws.flatMap (fun w => leBytes 4 w.toNat)
  let w26 := imgAt b 26 2
  let f := imgAt b 29 1
  { cid := b.take 8, portNo := imgAt b 8 2, ip := sliceOf b 10 16, port := w26 % 8, sub := w26 / 8 % 2, nh := w26 / 16
    domain := imgAt b 28 1, ann := f % 2 == 1, sync := f / 2 % 2 == 1, dresp := f / 4 % 2 == 1, oneStep := f / 8 % 2 == 1
    auth := f / 16 % 2 == 1, v6 := f / 32 % 2 == 1, logA := imgAt b 30 1, logS := imgAt b 31 1, logD := imgAt b 32 1
    spp := imgAt b 33 1, seqA := imgAt b 34 2, seqS := imgAt b 36 2, expiry := imgAt b 38 4, phase := imgAt b 42 2
    keyId := imgAt b 44 4 }

/-- The words of a valid session. -/
def sessPack (x : Sess) : List Word :=
  let f := b2n x.ann + b2n x.sync * 2 + b2n x.dresp * 4 + b2n x.oneStep * 8 + b2n x.auth * 16 + b2n x.v6 * 32 + 64
  let b := x.cid ++ leBytes 2 x.portNo ++ x.ip ++ leBytes 2 (x.port + x.sub * 8 + x.nh * 16) ++ leBytes 1 x.domain ++
    leBytes 1 f ++ leBytes 1 x.logA ++ leBytes 1 x.logS ++ leBytes 1 x.logD ++ leBytes 1 x.spp ++ leBytes 2 x.seqA ++
    leBytes 2 x.seqS ++ leBytes 4 x.expiry ++ leBytes 2 x.phase ++ leBytes 4 x.keyId
  (List.range 12).map (fun w => BitVec.ofNat 32 (imgAt b (4 * w) 4))

/-- Session `i` is valid. -/
def sessValid (d : Dev) (i : Nat) : Bool := bitAt (ramWord d (sessAddr i + 28)) 14

/-- Session `i`. -/
def sess (d : Dev) (i : Nat) : Sess := sessOf (sessWords d i)

/-- The valid sessions in index order: those whose word 7 lists the valid bit. -/
def sessAll (d : Dev) : List Nat :=
  (d.ram.filter (fun c => decide (0x08000000 ≤ c.1) && decide (c.1 < 0x08000000 + 12 * 262144) && decide (c.1 % 12 = (0x08000000 + 7) % 12) &&
    bitAt c.2 14)).map (fun c => (c.1 - 0x08000000) / 12)

/-- The unicast instance that owns session index `i` (SESSION_PART). -/
def sessInst (d : Dev) (i : Nat) : Option Nat :=
  (List.range 16).find? (fun u => decide (fld d (SVC_UC_BASE_base u) ≤ i) && decide (i < fld d (SVC_UC_BASE_base u) + fld d (SVC_UC_SIZE_size u)))

/-- SVC_UC_COUNT of the instance of session `i`, counted again. -/
def recount (i : Nat) (d : Dev) : Dev :=
  match sessInst d i with
  | none => d
  | some u => wrN (SVC_UC_COUNT u) ((sessAll d).filter (fun k => sessInst d k == some u)).length d

/-- The words of session `i` stored, and sent to the twin (R355). -/
def sessStore (i : Nat) (ws : List Word) (d : Dev) : Dev := recount i (journalAdd (.session i ws) (setRamWords (sessAddr i) ws d))

/-- A session stored. -/
def sessPut (i : Nat) (x : Sess) (d : Dev) : Dev := sessStore i (sessPack x) d

/-- A session whose sequenceIds alone changed; they travel in checkpoints. -/
def sessSeq (i : Nat) (x : Sess) (d : Dev) : Dev := setRamWords (sessAddr i) (sessPack x) d

/-- A next-hop entry set, and sent to the twin. -/
def setNh (i : Nat) (m : Option Nat) (d : Dev) : Dev :=
  journalAdd (.nextHop i m) { d with net := { d.net with nh := cput (fun _ => none) d.net.nh i m } }

/-- The source MAC address of a next-hop entry. -/
def nhMac (d : Dev) (i : Nat) : Option Nat := cget (fun _ => none) d.net.nh i

/-- Session `i` ends; its next-hop entry is free once no session names it. -/
def sessEnd (i : Nat) (d : Dev) : Dev :=
  let h := (sess d i).nh
  let d1 := sessStore i (List.replicate 12 0#32) d
  if (sessAll d1).any (fun k => (sess d1 k).nh == h) then d1 else setNh h none d1

/-- The bytes that the keyed hashes of R292 cover: client portIdentity, address and domain. -/
def sessKey (cid : List Byte) (portNo : Nat) (ip : List Byte) (domain : Nat) : List Byte :=
  cid ++ beBytes 2 portNo ++ ip ++ beBytes 1 domain

/-- One of the hash keys drawn at Boot: 0 and 1 the buckets of R292, 2 the phase of R294, 3 the weir of R302. -/
def hashKey (d : Dev) (k : Nat) : Nat := d.key.hashKeys.getD k 0

/-- The four entries of each of the two buckets of a client (R292). -/
def sessBuckets (d : Dev) (u : Nat) (key : List Byte) : List Nat × List Nat :=
  let n := atLeast1 (fld d (SVC_UC_SIZE_size u) / 4)
  let b := fun k => (List.range 4).map (fun i => fld d (SVC_UC_BASE_base u) + 4 * (Config.keyedHash (hashKey d k) key % n) + i)
  (b 0, b 1)

/-- The session of a client (R292). -/
def sessFind (d : Dev) (u : Nat) (cid : List Byte) (portNo : Nat) (ip : List Byte) (domain : Nat) : Option Nat :=
  let b := sessBuckets d u (sessKey cid portNo ip domain)
  if fld d (SVC_UC_SIZE_size u) = 0 then none
  else
    (b.1 ++ b.2).find? (fun i =>
      let x := sess d i
      sessValid d i && x.cid == cid && x.portNo == portNo && x.ip == ip && x.domain == domain)

/-- The entry of a new session (R292): the first free one of the bucket that holds fewer sessions, the first on a tie. -/
def sessFree (d : Dev) (u : Nat) (key : List Byte) : Option Nat :=
  let b := sessBuckets d u key
  let used := fun (l : List Nat) => (l.filter (sessValid d)).length
  let l := if used b.1 ≤ used b.2 then b.1 else b.2
  if fld d (SVC_UC_SIZE_size u) = 0 then none else l.find? (fun i => !(sessValid d i))

/-- The next-hop entry for a MAC address: the one that holds it, or a free one. -/
def nhFor (d : Dev) (mac : Nat) : Option Nat :=
  match d.net.nh.find? (fun c => c.2 == some mac) with
  | some c => some c.1
  | none => (List.range 4096).find? (fun i => (nhMac d i).isNone)

/-- TAI seconds have passed an expiry of 32 bits (R293). -/
def sessExpired (d : Dev) (x : Sess) : Bool := decide (sx 32 (x.expiry + 2 ^ 32 - taiSec d % 2 ^ 32) < 0)

/-! ### The client weir -/

/-- Rate and depth of a protocol: half 0 NTP, 1 PTP (R303). -/
def weirRate (d : Dev) (h : Nat) : Nat × Nat :=
  if h = 0 then (fld d SVC_WEIR_NTP_rate, fld d SVC_WEIR_NTP_depth) else (fld d SVC_WEIR_PTP_rate, fld d SVC_WEIR_PTP_depth)

/-- The weir's clock: ticks of 2^18 ns, modulo 2^18 (R302). -/
def weirTick (d : Dev) : Nat := near d / 2 ^ 34 % 2 ^ 18

/-- A bucket brought up to date (R303): tokens and update, units issued, units lost. -/
def weirFill (rate depth tick : Nat) (b : Nat × Nat) : (Nat × Nat) × Nat × Nat :=
  let e := (tick + 2 ^ 18 - b.2) % 2 ^ 18
  let u := rate * e * 2097152 / 10 ^ 9
  let took := if u = 0 then 0 else ceilDiv (u * 10 ^ 9) (rate * 2097152)
  let t := b.1 + u
  ((min t (depth * 8), (b.2 + took) % 2 ^ 18), u, t - depth * 8)

/-- The ledger's terms after a change (R305). -/
def weirLedger (issued used excess : Nat) (d : Dev) : Dev :=
  let add := fun (a n : Nat) (x : Dev) => wr64 a ((rd64 x a + n) % 2 ^ 64) x
  wr64 SVC_WEIR_HELD_LO ((rd64 d SVC_WEIR_HELD_LO + issued + 2 ^ 64 - (used + excess) % 2 ^ 64) % 2 ^ 64)
    (add SVC_WEIR_ISSUED_LO issued (add SVC_WEIR_USED_LO used (add SVC_WEIR_OVER_LO excess d)))

/-- A bucket: those never used share one pair a half. -/
def bucket (d : Dev) (i : Nat) : Nat × Nat :=
  (cget (fun _ => none) d.net.weir i).getD (if i < 262144 then d.net.weirN else d.net.weirP)

/-- `d` with a bucket replaced. -/
def setBucket (i : Nat) (b : Nat × Nat) (d : Dev) : Dev :=
  { d with net := { d.net with weir := cput (fun _ => none) d.net.weir i (some b) } }

/-- A parity error in bucket `i` (R303): full depth, counted, event 0x640C, a corrected fault. -/
def bucketParity (i : Nat) (d : Dev) : Dev :=
  let full := (weirRate d (i / 262144)).2 * 8
  let b := bucket d i
  let d1 := setBucket i (full, b.2) (weirLedger (full - b.1) 0 (b.1 - full) d)
  reportUnit 0x3C 0x01 .corrected 0x640C i (raise 0x640C i (svcCnt 33 1 d1))

/-- The bucket that a source selects in the half of its protocol (R302). -/
def bucketOf (d : Dev) (h : Nat) (src : List Byte) : Nat := h * 262144 + Config.keyedHash (hashKey d 3) src % 262144

/-- What identifies a source to the weir (R302): IPv6 address or /64, IPv4 address, or MAC address. -/
def weirSource (d : Dev) (ip : Option Ip) (mac : List Byte) : List Byte :=
  match ip with
  | none => mac
  | some p => if p.v6 then (if flag d SVC_WEIR_CFG_v6_64 then p.src.take 8 else p.src) else p.src.drop 12

/-- One request of a source at the weir (R303, R304): true where the bucket holds 8 units, which are used. -/
def weirUse (h : Nat) (src : List Byte) (bad : Bool) (d : Dev) : Bool × Dev :=
  let i := bucketOf d h src
  let d0 := doIf bad (bucketParity i) d
  let r := weirRate d0 h
  let x := weirFill r.1 r.2 (weirTick d0) (bucket d0 i)
  if 8 ≤ x.1.1 then (true, setBucket i (x.1.1 - 8, x.1.2) (weirLedger x.2.1 8 x.2.2 d0))
  else (false, setBucket i x.1 (weirLedger x.2.1 0 x.2.2 d0))

/-- The sweep of every bucket (R303). -/
def weirSweepAll (bad : List Nat) (d : Dev) : Dev :=
  let d0 := forEach bad bucketParity d
  let t := weirTick d0
  let d1 := forEach (d0.net.weir.map (fun c => c.1)) (fun i x =>
    let r := weirRate x (i / 262144)
    let y := weirFill r.1 r.2 t (bucket x i)
    setBucket i y.1 (weirLedger y.2.1 0 y.2.2 x)) d0
  let half := fun (h : Nat) (x : Dev) =>
    let n := 262144 - (x.net.weir.filter (fun c => decide (c.1 / 262144 = h))).length
    let r := weirRate x h
    let y := weirFill r.1 r.2 t (if h = 0 then x.net.weirN else x.net.weirP)
    let z := weirLedger (n * y.2.1) 0 (n * y.2.2) x
    if h = 0 then { z with net := { z.net with weirN := y.1 } } else { z with net := { z.net with weirP := y.1 } }
  half 1 (half 0 d1)

/-- Every bucket filled at PD_PKT power-up (R305): C from the depths in force. -/
def weirPower (d : Dev) : Dev :=
  let t := weirTick d
  let c := 262144 * 8 * ((weirRate d 0).2 + (weirRate d 1).2)
  let d1 := { d with net := { d.net with weir := [], weirN := ((weirRate d 0).2 * 8, t), weirP := ((weirRate d 1).2 * 8, t) } }
  wr64 SVC_WEIR_CONST_LO c (wr64 SVC_WEIR_HELD_LO c (wr64 SVC_WEIR_ISSUED_LO 0 (wr64 SVC_WEIR_USED_LO 0 (wr64 SVC_WEIR_OVER_LO 0 d1))))

/-- One token of a device-wide weir of `rate` per second with a depth of one second (R304, R307). The state holds tokens × one
second and the time of its last use. -/
def tokenTake (rate now : Nat) (b : Nat × Nat) : Bool × Nat × Nat :=
  let acc := min (rate * sec16) (b.1 + rate * (now - b.2))
  if sec16 ≤ acc then (true, acc - sec16, now) else (false, acc, now)

end Sys2Proof.Machine
end

