-- ==== Sys2Proof/Machine/PtpOps.lean ====
section
/-! DEFINITION. The PTP messages of SVC (spec/12_time_service.md, R282 to R293): headers and timestamps, TLVs, authentication,
scheduled messages, answers and unicast negotiation. The layouts that the spec names and does not restate are those of IEEE
1588-2019 (log entry 21). -/

namespace Sys2Proof.Machine

open Sys2Proof

/-! ### Headers -/

/-- The device's clockIdentity, first byte in bits [7:0] of SVC_CLOCK_ID. -/
def clockId (d : Dev) : List Byte := leBytes 8 (rd64 d SVC_CLOCK_ID_LO)

/-- sourcePortIdentity of a subport, port block 8 the drive segment (R284). -/
def portIdent (d : Dev) (p s : Nat) : List Byte := clockId d ++ beBytes 2 (2 * p + s + 1)

/-- The active slot's kind. -/
def activeKind (d : Dev) : Option Nat := (refActive d).map (slotKind d)

/-- flagField octet 1 (R285, R289). -/
def ptpFlags1 (d : Dev) : Nat :=
  let tv := flag d TB_STATUS_time_valid
  let l := leapInd d (rdN d SVC_LEAP_PTP)
  let cls := tv && decide (fld d BND_STATUS_advertised ≤ 7)
  b2n (l == 1) + b2n (l == 2) * 2 + b2n (tv && fld d LOG_LEAP_COUNT_entries != 0) * 4 + 8 + b2n cls * 16 +
    b2n (cls || (tv && activeKind d == some 3)) * 32 +
    b2n (!tv || fld d REF_STATUS_servo == 1 || flag d BND_STATUS_over || bndUnknown d) * 64

/-- What a message carries in its header (R285). -/
structure PtpHdr where
  gptp : Bool
  type : Nat
  domain : Nat
  unicast : Bool
  twoStep : Bool
  corr : Int
  port : Nat
  sub : Nat
  seq : Nat
  logInt : Nat
  deriving DecidableEq, Repr

/-- controlField by message type (R285). -/
def ptpControl (type : Nat) : Nat := match type with | 0 => 0 | 8 => 2 | 9 => 3 | _ => 5

/-- The 34 bytes of the common header for a message of `n` bytes (R285). -/
def ptpHeader (d : Dev) (h : PtpHdr) (n : Nat) : List Byte :=
  beBytes 1 (b2n h.gptp * 16 + h.type) ++ beBytes 1 0x12 ++ beBytes 2 n ++ beBytes 1 h.domain ++ beBytes 1 0 ++
    beBytes 1 (b2n h.twoStep * 2 + b2n h.unicast * 4) ++ beBytes 1 (ptpFlags1 d) ++ beBytes 8 (wrapN 64 h.corr) ++ beBytes 4 0 ++
    portIdent d h.port h.sub ++ beBytes 2 h.seq ++ beBytes 1 (ptpControl h.type) ++ beBytes 1 h.logInt

/-- The bound TLV (R181): 58 bytes. -/
def boundTlv (d : Dev) (p : Nat) : List Byte :=
  beBytes 2 d.img.tlvType ++ beBytes 2 54 ++ beBytes 3 d.img.org ++ beBytes 3 d.img.orgSub ++ boundBody d p

/-! ### Authentication (R288, R327) -/

/-- The association seals with AES-GMAC. -/
def saGmac (d : Dev) (i : Nat) : Bool := saInfo d i KEY_SA_INFO_method == 2

/-- The ICV of association `i` over the message up to it; the IV of AES-GMAC is the sender's clockIdentity and sequenceNo. -/
def icvOf (d : Dev) (i : Nat) (msg : List Byte) (seq : Nat) : List Byte :=
  let key := cget (fun _ => 0) d.key.sa i
  if saGmac d i then
    beBytes 16 (Config.gmac (if saInfo d i KEY_SA_INFO_key256 = 1 then 32 else 16) key (beAt msg 20 8 * 2 ^ 32 + seq) msg % 2 ^ 128)
  else beBytes 16 (Config.hmacSha256 key msg % 2 ^ 256 / 2 ^ 128)

/-- Bytes of the AUTHENTICATION TLV (R288). -/
def authBytes (d : Dev) (i : Nat) : Nat := if saGmac d i then 30 else 26

/-- A message with its TLVs: the bound TLV where asked, then the AUTHENTICATION TLV of association `sa` (R288). -/
def ptpMessage (h : PtpHdr) (body : List Byte) (bound : Bool) (sa : Option Nat) (d : Dev) : List Byte × Dev :=
  let b := if bound then boundTlv d h.port else []
  match sa with
  | none => (ptpHeader d h (34 + body.length + b.length) ++ body ++ b, d)
  | some i =>
    let n := authBytes d i
    let seq := rdN d (bank KEY_SA_SEQ i)
    let pre := ptpHeader d h (34 + body.length + b.length + n) ++ body ++ b ++ beBytes 2 0x8009 ++ beBytes 2 (n - 4) ++
      beBytes 1 (saInfo d i KEY_SA_INFO_spp) ++ beBytes 1 (saInfo d i KEY_SA_INFO_method) ++
      beBytes 4 (rdN d (bank KEY_SA_KEYID i)) ++ (if saGmac d i then beBytes 4 seq else [])
    let d1 := if saGmac d i then (fun x => journalAdd (.assoc i (rdN x (bank KEY_SA_SEQ i))) x) (saNext i d) else d
    (pre ++ icvOf d i pre seq, jobDone (!(saGmac d i)) d1)

/-- The association that a message under (SPP, keyID) is sealed with: none without an SPP; `some none` where it is missing. -/
def sendSa (d : Dev) (spp keyId : Nat) : Option (Option Nat) :=
  if spp = 0 then none else some (saFind d spp keyId (saCanSend d))

/-- The TLVs of a message from offset `o`: type and value. -/
def tlvsOf : Nat → List Byte → List (Nat × List Byte)
  | 0, _ => []
  | k + 1, bs =>
    if bs.length < 4 then []
    else
      let n := beAt bs 2 2
      (beAt bs 0 2, sliceOf bs 4 n) :: tlvsOf k (bs.drop (4 + n))

/-- Offset of the AUTHENTICATION TLV in a message whose TLVs start at `o`. -/
def authAt : Nat → List Byte → Nat → Option Nat
  | 0, _, _ => none
  | k + 1, bs, o =>
    if bs.length < o + 4 then none else if beAt bs o 2 = 0x8009 then some o else authAt k bs (o + 4 + beAt bs (o + 2) 2)

/-- The association that a received TLV at `o` names: Active, receive = 1 (R327). -/
def recvSa (d : Dev) (msg : List Byte) (o : Nat) : Option Nat :=
  saFind d (beAt msg (o + 4) 1) (beAt msg (o + 6) 4) (fun i => saInfo d i KEY_SA_INFO_rx == 1)

/-- The check of a received message whose TLVs start at `o`: none without the TLV, else whether its ICV holds. -/
def authOk (d : Dev) (msg : List Byte) (o : Nat) : Option Bool :=
  match authAt 16 msg o with
  | none => none
  | some a =>
    match recvSa d msg a with
    | none => some false
    | some i =>
      let g := saGmac d i
      let at' := a + (if g then 14 else 10)
      some (beAt msg (a + 5) 1 == saInfo d i KEY_SA_INFO_method && decide (at' + 16 ≤ msg.length) &&
        sliceOf msg at' 16 == icvOf d i (msg.take at') (if g then beAt msg (a + 10) 4 else 0))

/-! ### Instances -/

/-- A field of SVC_MC_PRIO or SVC_UC_CFG read as a signed byte. -/
def s8 (n : Nat) : Int := sx 8 n

/-- The multicast instance of a port, subport, transport and domain (R277, R284). -/
def mcFor (d : Dev) (p s transport domain : Nat) : Option Nat :=
  (List.range 32).find? (fun i => flag d (SVC_MC_CFG_en i) && decide (fld d (SVC_MC_CFG_port i) = p) && decide (fld d (SVC_MC_CFG_sub i) = s) &&
    decide (fld d (SVC_MC_CFG_transport i) = transport) && decide (fld d (SVC_MC_CFG_domain i) = domain))

/-- The unicast instance of a port and domain (R284). -/
def ucFor (d : Dev) (p domain : Nat) : Option Nat :=
  (List.range 16).find? (fun u => flag d (SVC_UC_CFG_en u) && decide (fld d (SVC_UC_CFG_domain u) = domain) &&
    (if p = 7 then flag d (SVC_UC_PORT7_port7 u) else decide (fld d (SVC_UC_CFG_ports u) / 2 ^ p % 2 = 1)))

/-- A served PTP address of a family on a port, for a source address. -/
def ptpEntry (d : Dev) (p : Nat) (v6 : Bool) : Option Nat :=
  (ipEntries d p).find? (fun e => flag d (SVC_IP_CFG_ipv6 e) == v6 && flag d (SVC_IP_CFG_ptp e))

/-! ### Frames -/

/-- UDP port of a message type: event messages 319, general ones 320. -/
def ptpPort (type : Nat) : Nat := if type ≤ 3 then 319 else 320

/-- An Ethernet header without tags. -/
def ethHdr (da sa : List Byte) (etype : Nat) : List Byte := da ++ sa ++ beBytes 2 etype

/-- A PTP message in a frame to a given MAC and address (R282): `ip` none for Layer 2, else version, entry of the source address
and destination. -/
def ptpFrame (d : Dev) (p s : Nat) (da : List Byte) (ip : Option (Bool × Nat × List Byte)) (type : Nat) (msg : List Byte) : List Byte :=
  match ip with
  | none => ethHdr da (ownMac d p s) 0x88F7 ++ msg
  | some (v6, e, dst) =>
    ethHdr da (ownMac d p s) (if v6 then 0x86DD else 0x0800) ++
      ipBytes v6 (svcIp d e) dst (fld d (SVC_IP_CFG_dscp e)) 17 (udpBytes v6 (svcIp d e) dst (ptpPort type) (ptpPort type) msg)

/-- The multicast destination of instance `i` (R282): none where a UDP instance has no address to send from. -/
def mcDest (d : Dev) (i : Nat) : Option (List Byte × Option (Bool × Nat × List Byte)) :=
  let p := fld d (SVC_MC_CFG_port i)
  match fld d (SVC_MC_CFG_transport i) with
  | 0 => some (macBE (if fld d (SVC_MC_CFG_profile i) = 5 then 0x0180C200000E else 0x011B19000000), none)
  | 1 => (ptpEntry d p false).map (fun e => (macBE 0x01005E000181, some (false, e, v4Mapped [224#8, 0#8, 1#8, 129#8])))
  | _ => (ptpEntry d p true).map (fun e => (macBE 0x333300000181,
      some (true, e, [0xFF#8, 0x02#8] ++ List.replicate 12 0#8 ++ [0x01#8, 0x81#8])))

/-- The destination of a session's messages (R291): its next hop. -/
def sessDest (d : Dev) (x : Sess) : Option (List Byte × Option (Bool × Nat × List Byte)) :=
  match nhMac d x.nh, ptpEntry d x.port x.v6 with
  | some m, some e => some (macBytes m, some (x.v6, e, x.ip))
  | _, _ => none

/-- A prediction is offered on a subport (R245); the drive segment's grid is known while PD_TB is on (R264). -/
def predValid (d : Dev) (p s : Nat) : Bool := if p = 8 then domOn d .tb else flag d (PORT_SUB_STATUS_pred_valid p s)

/-- The predicted edge and transmit timestamp (R245). -/
def predicted (d : Dev) (p s : Nat) (w : WirePos) : Nat × Nat :=
  let e := predictEdge d p w.lane w.word
  (e, txStamp d p s w.lane w.ui e)

/-- The one-step fallback of a subport follows its prediction (R287): event 0x640A on a change. -/
def setFallback (p s : Nat) (on : Bool) (d : Dev) : Dev :=
  if (psub d p s).fallback == on then d
  else raise 0x640A (p + s * 16 + b2n on * 32) (modPsub p s (fun x => { x with fallback := on }) d)

/-! ### Scheduled messages -/

/-- What a stream of scheduled messages is sent with: a multicast instance or a session. -/
structure Stream where
  port : Nat
  sub : Nat
  gptp : Bool
  domain : Nat
  unicast : Bool
  twoStep : Bool
  logS : Nat
  logA : Nat
  bound : Nat
  spp : Nat
  keyId : Nat
  prio : Nat × Nat
  dest : Option (List Byte × Option (Bool × Nat × List Byte))

/-- The stream of multicast instance `i`. -/
def mcStream (d : Dev) (i : Nat) : Stream :=
  { port := fld d (SVC_MC_CFG_port i), sub := fld d (SVC_MC_CFG_sub i), gptp := fld d (SVC_MC_CFG_profile i) == 5
    domain := fld d (SVC_MC_CFG_domain i), unicast := false
    twoStep := flag d (SVC_MC_CFG_two_step i) || fld d (SVC_MC_CFG_profile i) == 5, logS := fld d (SVC_MC_RATE_logSync i)
    logA := fld d (SVC_MC_RATE_logAnnounce i), bound := fld d (SVC_MC_CFG_bound_msgs i), spp := fld d (SVC_MC_PRIO_spp i)
    keyId := rdN d (SVC_MC_KEYID i), prio := (fld d (SVC_MC_PRIO_priority1 i), fld d (SVC_MC_PRIO_priority2 i)), dest := mcDest d i }

/-- The stream of session `s`; the priorities of a unicast instance have no register and are 128 (log entry 21). -/
def ucStream (d : Dev) (s : Nat) : Stream :=
  let x := sess d s
  let u := (sessInst d s).getD 0
  { port := x.port, sub := x.sub, gptp := false, domain := x.domain, unicast := true, twoStep := !x.oneStep, logS := x.logS
    logA := x.logA, bound := fld d (SVC_UC_CFG_bound_msgs u), spp := x.spp, keyId := x.keyId, prio := (128, 128), dest := sessDest d x }

/-- −logSync of DSG_GPTP as a signed byte. -/
def gpLogSync (d : Dev) : Nat := wrapN 8 (-(fld d DSG_GPTP_logSync : Int))

/-- The gPTP stream of the drive segment (R269). -/
def gpStream (d : Dev) : Stream :=
  { port := 8, sub := 0, gptp := true, domain := fld d DSG_GPTP_domain, unicast := false, twoStep := true, logS := gpLogSync d
    logA := fld d DSG_GPTP_logAnnounce, bound := b2n (flag d DSG_CFG_bound_tlv) * 2, spp := 0, keyId := 0, prio := (128, 128)
    dest := some (macBE 0x0180C200000E, none) }

/-- A message of a stream built, sealed and handed to the MAC (R279 stages 4 to 6): nothing is sent without a destination, or
while its association is missing (R327). `pos` is the bound_msgs bit and `cnt` the counter: 36 counts the
operation alone, 37 nothing. -/
def sendStream (pipe : Nat) (x : Stream) (h : PtpHdr) (body : List Byte) (pos : Nat) (pred : Option Nat) (fu : Option (FuSrc × Nat))
    (cnt : Nat) (d : Dev) : Dev :=
  match x.dest with
  | none => d
  | some dst =>
    let go := fun (sa : Option Nat) =>
      let m := ptpMessage h body (decide (x.bound / 2 ^ pos % 2 = 1)) sa d
      let f := { builtFrame m.2 pipe (ptpFrame m.2 x.port x.sub dst.1 dst.2 h.type m.1) with pred := pred, follow := fu }
      doIf (decide (cnt ≤ 36)) (opDone pipe) (svcCnt cnt 1 (launchBuilt x.port x.sub 0 f m.2))
    match sendSa d x.spp x.keyId with
    | none => go none
    | some (some i) => go (some i)
    | some none => keyCount 3 d

/-- Sync of a stream (R286, R287). -/
def sendSync (pipe : Nat) (x : Stream) (seq : Nat) (src : FuSrc) (w : WirePos) (d : Dev) : Dev :=
  let pv := predValid d x.port x.sub
  let two := x.twoStep || !pv
  let d1 := doIf (!x.twoStep && decide (x.port < 8)) (setFallback x.port x.sub (!pv)) d
  let d2 := doIf (!x.twoStep && !pv) (svcCnt 34 1) d1
  let pr := predicted d2 x.port x.sub w
  let v := if two then now16 d2 else fullTime d2 pr.2
  let h : PtpHdr := { gptp := x.gptp, type := 0, domain := x.domain, unicast := x.unicast, twoStep := two,
                      corr := if two then 0 else (fracOf v : Int), port := x.port, sub := x.sub, seq := seq, logInt := x.logS }
  sendStream pipe { x with bound := if two then 0 else x.bound } h (ptpStamp v) 0 (if pv && decide (x.port < 8) then some pr.1 else none)
    (if two then some (src, seq) else none) 8 d2

/-- Follow_Up of a stream with the latched timestamp (R286). -/
def sendFollow (pipe : Nat) (x : Stream) (seq tTx : Nat) (d : Dev) : Dev :=
  let v := fullTime d tTx
  let h : PtpHdr := { gptp := x.gptp, type := 8, domain := x.domain, unicast := x.unicast, twoStep := false, corr := (fracOf v : Int),
                      port := x.port, sub := x.sub, seq := seq, logInt := x.logS }
  sendStream pipe x h (ptpStamp v) 1 none none 9 d

/-- timeSource (R285). -/
def timeSource (d : Dev) : Nat :=
  match activeKind d with
  | some k => fld d (SVC_TSRC_src k)
  | none => if flag d (REF_OSC_CFG_atomic (fld d REF_TICK_SEL_current)) then 0x10 else 0xA0

/-- clockClass and accuracy of an Announce on a path entry; 248 and 0xFE while the time is not valid (R276, R285). -/
def announceQuality (d : Dev) (p : Nat) : Nat × Nat :=
  if flag d TB_STATUS_time_valid then (fld d BND_STATUS_advertised, accuracyOf (bndUnknown d) (boundOn d p)) else (248, 0xFE)

/-- Announce of a stream (R285). -/
def sendAnnounce (pipe : Nat) (x : Stream) (seq : Nat) (d : Dev) : Dev :=
  let q := announceQuality d x.port
  let body := ptpStamp (now16 d) ++ beBytes 2 (fld d TB_UTC_OFFSET_offset) ++ beBytes 1 0 ++ beBytes 1 x.prio.1 ++ beBytes 1 q.1 ++
    beBytes 1 q.2 ++ beBytes 2 (if q.1 ≤ 7 then 0x4E5D else 0xFFFF) ++ beBytes 1 x.prio.2 ++ clockId d ++ beBytes 2 0 ++
    beBytes 1 (timeSource d)
  let h : PtpHdr := { gptp := x.gptp, type := 0xB, domain := x.domain, unicast := x.unicast, twoStep := false, corr := 0,
                      port := x.port, sub := x.sub, seq := seq, logInt := x.logA }
  sendStream pipe x h body 3 none none 10 d

/-- L1_SYNC Signaling of multicast instance `i` (R282): TCR 1, RCR 0, isTxCoherent while the transmit grid follows the
timescale. -/
def sendL1 (pipe i : Nat) (d : Dev) : Dev :=
  let x := mcStream d i
  let seq := cget (fun _ => 0) d.net.l1Seq i
  let d1 := { d with net := { d.net with l1Seq := cput (fun _ => 0) d.net.l1Seq i ((seq + 1) % 65536) } }
  let body := List.replicate 10 0xFF#8 ++ beBytes 2 0x8001 ++ beBytes 2 2 ++ beBytes 1 1 ++ beBytes 1 (b2n (predOn d))
  let h : PtpHdr := { gptp := x.gptp, type := 0xC, domain := x.domain, unicast := false, twoStep := false, corr := 0, port := x.port,
                      sub := x.sub, seq := seq, logInt := 0x7F }
  match x.dest with
  | none => d1
  | some _ => sendStream pipe { x with bound := 0 } h body 0 none none 36 d1

/-! ### Answers -/

/-- The transport of a received packet: 0 Layer 2, 1 IPv4, 2 IPv6. -/
def transportOf (ip : Option Ip) : Nat := match ip with | none => 0 | some x => if x.v6 then 2 else 1

/-- A frame that answers another (R291): to its source MAC address with its tags, from the address that it was sent to. -/
def answerFrame (d : Dev) (f : RxDesc) (e : Eth) (ip : Option Ip) (sport dport : Nat) (msg : List Byte) : List Byte :=
  let head := e.sa ++ ownMac d f.port f.sub ++ sliceOf f.bytes 12 (e.off - 12)
  match ip with
  | none => head ++ msg
  | some x =>
    let ent := (servedBy d f.port x.v6 x.dst).orElse (fun _ => ptpEntry d f.port x.v6)
    let src := match ent with | some k => svcIp d k | none => x.dst
    head ++ ipBytes x.v6 src x.src (match ent with | some k => fld d (SVC_IP_CFG_dscp k) | none => 0) 17
      (udpBytes x.v6 src x.src sport dport msg)

/-- A PTP answer built, sealed and handed to the MAC; where its association is missing nothing is sent (R327) and the request's
buffers return. -/
def sendAnswer (pipe : Nat) (f : RxDesc) (e : Eth) (ip : Option Ip) (h : PtpHdr) (body : List Byte) (bound : Bool) (spp keyId : Nat)
    (pred : Option Nat) (fu : Option (FuSrc × Nat)) (cnt : Nat) (d : Dev) : Dev :=
  let go := fun (sa : Option Nat) =>
    let m := ptpMessage h body bound sa d
    let x := { builtFrame m.2 pipe (answerFrame m.2 f e ip (ptpPort h.type) (ptpPort h.type) m.1) with pred := pred, follow := fu }
    opDone pipe (svcCnt cnt 1 (launchBuilt f.port f.sub f.bufs x m.2))
  match sendSa d spp keyId with
  | none => go none
  | some (some i) => go (some i)
  | some none => keyCount 3 (rxFree f d)

/-- Delay_Resp (R286): receiveTimestamp t_rx, correctionField of the Delay_Req less the fraction. -/
def sendDelayResp (pipe : Nat) (f : RxDesc) (e : Eth) (ip : Option Ip) (msg : List Byte) (unicast : Bool) (logInt mask spp keyId : Nat)
    (d : Dev) : Dev :=
  let v := fullTime d f.tRx
  let h : PtpHdr := { gptp := false, type := 9, domain := beAt msg 4 1, unicast := unicast, twoStep := false,
                      corr := sx 64 (beAt msg 8 8) - fracOf v, port := f.port, sub := f.sub, seq := beAt msg 30 2, logInt := logInt }
  sendAnswer pipe f e ip h (ptpStamp v ++ sliceOf msg 20 10) (decide (mask / 4 % 2 = 1)) spp keyId none none 11 d

/-- Pdelay_Resp (R286): t2 truncated, its fraction in correctionField; the Follow_Up is owed. -/
def sendPdelay (pipe : Nat) (f : RxDesc) (e : Eth) (msg : List Byte) (spp keyId : Nat) (d : Dev) : Dev :=
  let v := fullTime d f.tRx
  let h : PtpHdr := { gptp := true, type := 3, domain := beAt msg 4 1, unicast := false, twoStep := true, corr := (fracOf v : Int),
                      port := f.port, sub := f.sub, seq := beAt msg 30 2, logInt := 0x7F }
  sendAnswer pipe f e none h (ptpStamp v ++ sliceOf msg 20 10) false spp keyId none (some (.pdelay { f with bufs := 0 }, beAt msg 30 2)) 12 d

/-- Pdelay_Resp_Follow_Up (R286): t3 truncated, its fraction in correctionField. -/
def sendPdelayFollow (pipe : Nat) (f : RxDesc) (tTx spp keyId : Nat) (d : Dev) : Dev :=
  let e := ethOf f.bytes
  let msg := f.bytes.drop e.off
  let v := fullTime d tTx
  let h : PtpHdr := { gptp := true, type := 0xA, domain := beAt msg 4 1, unicast := false, twoStep := false, corr := (fracOf v : Int),
                      port := f.port, sub := f.sub, seq := beAt msg 30 2, logInt := 0x7F }
  sendAnswer pipe f e none h (ptpStamp v ++ sliceOf msg 20 10) false spp keyId none none 12 d

/-! ### Unicast negotiation (R290) -/

/-- The client of a Signaling message. -/
structure Client where
  inst : Nat
  cid : List Byte
  portNo : Nat
  ip : List Byte
  v6 : Bool
  domain : Nat
  port : Nat
  sub : Nat
  mac : Nat
  /-- SPP and keyID of a message that passed its check. -/
  auth : Option (Nat × Nat)
  deriving DecidableEq, Repr

/-- The client's session. -/
def clientSess (d : Dev) (c : Client) : Option Nat := sessFind d c.inst c.cid c.portNo c.ip c.domain

/-- The duration granted (R290). -/
def grantTime (d : Dev) (u req : Nat) : Nat := max (min req (fld d (SVC_UC_DUR_max u))) (fld d (SVC_UC_DUR_min u))

/-- A session with a grant extended to the latest end. -/
def extend (d : Dev) (x : Sess) (dur : Nat) : Sess :=
  let e := (taiSec d + dur) % 2 ^ 32
  { x with expiry := if sx 32 (e + 2 ^ 32 - x.expiry) ≤ 0 then x.expiry else e }

/-- A GRANT_UNICAST_TRANSMISSION TLV; renewal 1. -/
def grantTlv (type logInt dur : Nat) : List Byte :=
  beBytes 2 5 ++ beBytes 2 8 ++ beBytes 1 (type * 16) ++ beBytes 1 logInt ++ beBytes 4 dur ++ beBytes 1 0 ++ beBytes 1 1

/-- The answer of one request denied. -/
def denyGrant (type logInt : Nat) (d : Dev) : List Byte × Dev := (grantTlv type logInt 0, svcCnt 15 1 d)

/-- A new session (R290 to R292), or none without an entry or a next hop. -/
def newSession (c : Client) (logInt dur : Nat) (d : Dev) : Option Dev :=
  match sessFree d c.inst (sessKey c.cid c.portNo c.ip c.domain), nhFor d c.mac with
  | some i, some h =>
    let x : Sess := { cid := c.cid, portNo := c.portNo, ip := c.ip, port := c.port, sub := c.sub, nh := h, domain := c.domain,
                      ann := true, sync := false, dresp := false, oneStep := flag d (SVC_UC_CFG_one_step_ok c.inst),
                      auth := c.auth.isSome, v6 := c.v6, logA := logInt, logS := 0, logD := 0, spp := (c.auth.getD (0, 0)).1, seqA := 0,
                      seqS := 0, expiry := (taiSec d + dur) % 2 ^ 32,
                      phase := Config.keyedHash (hashKey d 2) (leBytes 4 i) % 65536, keyId := (c.auth.getD (0, 0)).2 }
    some (sessPut i x (if nhMac d h = some c.mac then d else setNh h (some c.mac) d))
  | _, _ => none

/-- One REQUEST_UNICAST_TRANSMISSION TLV answered (R290). -/
def grantOne (c : Client) (v : List Byte) (d : Dev) : List Byte × Dev :=
  let type := beAt v 0 1 / 16
  let logInt := beAt v 1 1
  let dur := grantTime d c.inst (beAt v 2 4)
  let lim := if type = 0xB then fld d (SVC_UC_LIM_logAnnounce c.inst) else if type = 0 then fld d (SVC_UC_LIM_logSync c.inst)
    else fld d (SVC_UC_LIM_logDelay c.inst)
  if !([0, 9, 0xB].contains type) || decide (s8 logInt < s8 lim) then denyGrant type logInt d
  else
    match clientSess d c with
    | none =>
      if type ≠ 0xB then denyGrant type logInt d
      else
        match newSession c logInt dur d with
        | some d1 => (grantTlv type logInt dur, svcCnt 14 1 d1)
        | none => let r := denyGrant type logInt d; (r.1, onceSec 0x6402 c.inst r.2)
    | some i =>
      let x := extend d (sess d i) dur
      let y := if type = 0xB then { x with ann := true, logA := logInt }
        else if type = 0 then { x with sync := true, logS := logInt } else { x with dresp := true, logD := logInt }
      (grantTlv type logInt dur, svcCnt 14 1 (sessPut i y d))

/-- One CANCEL_UNICAST_TRANSMISSION TLV answered. -/
def cancelOne (c : Client) (v : List Byte) (d : Dev) : List Byte × Dev :=
  let type := beAt v 0 1 / 16
  let ack := beBytes 2 7 ++ beBytes 2 2 ++ beBytes 1 (type * 16) ++ beBytes 1 0
  match clientSess d c with
  | none => (ack, d)
  | some i =>
    let x := sess d i
    (ack, if type = 0xB then sessEnd i d else if type = 0 then sessPut i { x with sync := false } d
      else if type = 9 then sessPut i { x with dresp := false } d else d)

/-- The TLVs of a Signaling message answered in order. -/
def answerTlvs (c : Client) : List (Nat × List Byte) → Dev → List Byte × Dev
  | [], d => ([], d)
  | t :: ts, d =>
    let r := if t.1 = 4 then grantOne c t.2 d else if t.1 = 6 then cancelOne c t.2 d else ([], d)
    let q := answerTlvs c ts r.2
    (r.1 ++ q.1, q.2)

/-- The sequenceId of Signaling to a session, by session index; 2^20 for a client without one. -/
def sigSeq (k : Nat) (d : Dev) : Nat × Dev :=
  let q := cget (fun _ => 0) d.net.sigSeq k
  (q, { d with net := { d.net with sigSeq := cput (fun _ => 0) d.net.sigSeq k ((q + 1) % 65536) } })

/-- CANCEL_UNICAST_TRANSMISSION for every granted type of a session (R293). -/
def sendCancels (i : Nat) (d : Dev) : Dev :=
  let x := sess d i
  let types := (if x.ann then [0xB] else []) ++ (if x.sync then [0] else []) ++ (if x.dresp then [9] else [])
  let tlvs := types.flatMap (fun t => beBytes 2 6 ++ beBytes 2 2 ++ beBytes 1 (t * 16) ++ beBytes 1 0)
  let q := sigSeq i d
  let s := ucStream d i
  let h : PtpHdr := { gptp := false, type := 0xC, domain := x.domain, unicast := true, twoStep := false, corr := 0, port := x.port,
                      sub := x.sub, seq := q.1, logInt := 0x7F }
  match pipeFor d 1 x.ip with
  | none => d
  | some p => sendStream p { s with bound := 0 } h (x.cid ++ beBytes 2 x.portNo ++ tlvs) 0 none none 37 q.2

end Sys2Proof.Machine
end

