-- ==== Sys2Proof/Machine/NtpOps.lean ====
section
/-! DEFINITION. NTP with NTS (spec/12_time_service.md, R297 to R301, R304): the checks of a request, cookies, replies, NAK and
RATE answers. The layouts that the spec names and does not restate are those of RFC 5905, RFC 7822 and RFC 8915 (log entry
21). -/

namespace Sys2Proof.Machine

open Sys2Proof

/-- An extension field: type, whole length, body. -/
structure Ext where
  type : Nat
  len : Nat
  body : List Byte
  at' : Nat
  deriving DecidableEq, Repr

/-- The extension fields from offset `o` of a message; none where a length is wrong or more than `k` fields stand there. -/
def extsAt : Nat → List Byte → Nat → Option (List Ext)
  | k, bs, o =>
    if bs.length ≤ o then some []
    else
      match k with
      | 0 => none
      | k + 1 =>
        let n := beAt bs (o + 2) 2
        if bs.length < o + 4 ∨ n % 4 ≠ 0 ∨ n < 16 ∨ bs.length < o + n then none
        else
          match extsAt k bs (o + n) with
          | none => none
          | some l => some ({ type := beAt bs o 2, len := n, body := sliceOf bs (o + 4) (n - 4), at' := o } :: l)

/-- A request that passed the checks of R297 and R298 on its form. -/
structure NtsReq where
  uid : Ext
  cookie : Option (List Byte)
  holders : Nat
  nonce : List Byte
  ct : List Byte
  ad : List Byte
  bound : Bool
  deriving DecidableEq, Repr

/-- The outcome of the checks of R297: bad, plain (no Authenticator), or NTS, with extension fields that R298 checks. -/
inductive NtpForm where
  | bad | plain | nts
  deriving DecidableEq, Repr

/-- The form of an NTP request (R297): version 3 or 4, mode 3, at least 48 bytes. It is plain where its extension fields can be
walked and hold no Authenticator; fields that cannot be walked are R298's first row (log entry 160). -/
def ntpForm (m : List Byte) : NtpForm :=
  let b0 := beAt m 0 1
  if m.length < 48 ∨ b0 % 8 ≠ 3 ∨ (b0 / 8 % 8 ≠ 3 ∧ b0 / 8 % 8 ≠ 4) then .bad
  else
    match extsAt 16 m 48 with
    | none => .nts
    | some l => if l.any (fun e => e.type == 0x0404) then .nts else .plain

/-- The extension fields of a request checked in stage 2 (R298), the first failing row deciding: none is a drop counted in ntp_bad,
and a request without its one cookie is answered by a NAK. -/
def ntsFields (d : Dev) (m : List Byte) : Option NtsReq :=
  match extsAt 16 m 48 with
  | none => none
  | some l =>
    let a := l.getLast?.getD { type := 0, len := 0, body := [], at' := 0 }
    let uids := l.filter (fun e => e.type == 0x0104)
    let cks := l.filter (fun e => e.type == 0x0204)
    let phs := l.filter (fun e => e.type == 0x0304)
    let nl := beAt a.body 0 2
    let cl := beAt a.body 2 2
    let np := (nl + 3) / 4 * 4
    match uids with
    | [u] =>
      if a.type ≠ 0x0404 ∨ (l.filter (fun e => e.type == 0x0404)).length ≠ 1 ∨ u.body.length < 32 ∨ 64 < u.body.length then none
      else
        let ck := match cks with | [c] => if c.body.length = 104 then some c.body else none | _ => none
        if ck.isSome ∧ (7 < phs.length ∨ phs.any (fun e => e.body.length != 104) ∨ nl ≠ 16 ∨ cl < 16 ∨ 256 < cl ∨
            a.body.length < 4 + np + cl) then none
        else some { uid := u, cookie := ck, holders := phs.length, nonce := sliceOf a.body 4 16, ct := sliceOf a.body (4 + np) cl
                    ad := m.take a.at', bound := l.any (fun e => e.type == d.img.ntpField && e.len == 52) }
    | _ => none

/-- The slot of a master key that opens cookies: Current or Accepting, with the cookie's key ID (R326). -/
def cookieSlot (d : Dev) (id : Nat) : Option Nat :=
  (List.range 16).find? (fun n => (ntsState d n == 2 || ntsState d n == 3) && decide (rdN d (KEY_NTS_ID n) = id))

/-- The keys in a cookie, C2S and S2C, under the master key of slot `n` (R299): none where the SIV check fails or the AEAD ID is
not 15. -/
def cookieOpen (d : Dev) (n : Nat) (c : List Byte) : Option (Nat × Nat) :=
  match Config.sivOpen (ntsKey d n) [c.take 4, sliceOf c 4 16] (c.drop 20) with
  | none => none
  | some p => if beAt p 0 2 = 15 then some (leNat (sliceOf p 4 32), leNat (sliceOf p 36 32)) else none

/-- A new cookie under the Current key of slot `n` (R299), with its nonce. -/
def cookieSeal (d : Dev) (n : Nat) (nonce : List Byte) (c2s s2c : Nat) : List Byte :=
  let id := beBytes 4 (rdN d (KEY_NTS_ID n))
  id ++ nonce ++ Config.sivSeal (ntsKey d n) [id, nonce] (beBytes 2 15 ++ beBytes 2 0 ++ leBytes 32 c2s ++ leBytes 32 s2c)

/-- `k` new NTS Cookie fields, each with a nonce of its own. -/
def newCookies (pipe n c2s s2c : Nat) : Nat → Dev → List Byte × Dev
  | 0, d => ([], d)
  | k + 1, d =>
    let t := takeNonce pipe d
    let r := newCookies pipe n c2s s2c k (jobDone false t.2)
    (beBytes 2 0x0204 ++ beBytes 2 108 ++ cookieSeal d n t.1 c2s s2c ++ r.1, r.2)

/-- Four characters in the order of SVC_REFID, as a number. -/
def refInit : Nat := 0x494E4954

/-- The reference ID "HOLD". -/
def refHold : Nat := 0x484F4C44

/-- The reference IDs of kiss-o'-death answers: "NTSN" and "RATE". -/
def refNtsn : Nat := 0x4E54534E

/-- "RATE". -/
def refRate : Nat := 0x52415445

/-- The Reference ID of a reply (R276, R300). -/
def ntpRef (d : Dev) : Nat :=
  if !(flag d TB_STATUS_time_valid) then refInit
  else match activeKind d with | some k => rdN d (SVC_REFID k) | none => refHold

/-- The Reference Timestamp (R300): 0 if the servo never was Locked. -/
def ntpRefTime (d : Dev) : List Byte := match d.net.lockedAt with | some v => ntpStamp d v | none => List.replicate 8 0#8

/-- The LI of a reply (R276, R289). -/
def ntpLi (d : Dev) : Nat := if flag d TB_STATUS_time_valid then leapInd d (rdN d SVC_LEAP_NTP) else 3

/-- The 48-byte header of a reply to request `m` on path entry `p` (R300). -/
def ntpHead (d : Dev) (m : List Byte) (p li stratum poll refid : Nat) (rx tx : List Byte) : List Byte :=
  beBytes 1 (li * 64 + beAt m 0 1 / 8 % 8 * 8 + 4) ++ beBytes 1 stratum ++ beBytes 1 poll ++ beBytes 1 (fld d SVC_NTP_CFG_precision) ++
    beBytes 4 0 ++ beBytes 4 (rootDispersion (bndUnknown d) (boundOn d p)) ++ beBytes 4 refid ++ ntpRefTime d ++ sliceOf m 40 8 ++ rx ++ tx

/-- The Unique Identifier field echoed. -/
def uidField (r : NtsReq) : List Byte := beBytes 2 0x0104 ++ beBytes 2 r.uid.len ++ r.uid.body

/-- The NTSN NAK (R298). The spec states stratum, reference ID and the echoed field; the rest is as in a reply with LI 0b11 (log
entry 21). -/
def ntpNak (d : Dev) (m : List Byte) (r : NtsReq) (p : Nat) (rx tx : List Byte) : List Byte :=
  ntpHead d m p 3 0 (beAt m 2 1) refNtsn rx tx ++ uidField r

/-- The bytes of a reply before its Authenticator (R300, R301, R304). -/
def ntpPlain (d : Dev) (m : List Byte) (r : NtsReq) (p : Nat) (rate : Bool) (rx tx : List Byte) : List Byte :=
  let zero := List.replicate 8 0#8
  let head := if rate then ntpHead d m p 3 0 (max (beAt m 2 1) (fld d SVC_NTP_CFG_kod_poll)) refRate zero zero
    else ntpHead d m p (ntpLi d) (if flag d TB_STATUS_time_valid then 1 else 16) (beAt m 2 1) (ntpRef d) rx tx
  head ++ uidField r ++ (if r.bound then beBytes 2 d.img.ntpField ++ beBytes 2 52 ++ boundBody d p else [])

/-- The Authenticator and Encrypted Extension Fields field (R300): nonce, and the cookies sealed under the S2C key. -/
def ntpSeal (s2c : Nat) (plain nonce cookies : List Byte) : List Byte :=
  let ct := Config.sivSeal s2c [plain, nonce] cookies
  let body := beBytes 2 16 ++ beBytes 2 ct.length ++ nonce ++ ct
  plain ++ beBytes 2 0x0404 ++ beBytes 2 (4 + body.length) ++ body

end Sys2Proof.Machine
end

