-- ==== Sys2Proof/Machine/PipeOps.lean ====
section
/-! DEFINITION. The work of SVC's classifiers and pipelines (spec/12_time_service.md): routing of accepted frames (R277), the
stages of an operation (R279 to R281), the wheel (R294, R295), and the non-timing responder (R307). -/

namespace Sys2Proof.Machine

open Sys2Proof

/-! ### Routing (R277) -/

/-- The PTP message of a frame: EtherType 0x88F7, or UDP port 319 or 320. -/
def ptpMsg (e : Eth) (bs : List Byte) (u : Option Udp) : Option (List Byte) :=
  if e.etype = 0x88F7 then some (bs.drop e.off)
  else match u with | some x => if x.dport = 319 ∨ x.dport = 320 then some x.data else none | none => none

/-- The upstream entry that a PTP message matches (R277, R296). -/
def upEntry (d : Dev) (f : RxDesc) (ip : Option Ip) (msg : List Byte) : Option Nat :=
  (List.range 4).find? (fun e => flag d (SVC_UP_en e) && decide (fld d (SVC_UP_port e) = f.port) && decide (fld d (SVC_UP_sub e) = f.sub) &&
    decide (fld d (SVC_UP_transport e) = transportOf ip) && decide (fld d (SVC_UP_domain e) = beAt msg 4 1))

/-- An instance that a PTP message is for. -/
inductive Inst where
  | mc (i : Nat)
  | uc (u : Nat)
  | gp
  deriving DecidableEq, Repr

/-- The enabled instance of a PTP message (R277, R284, R269): over UDP to a served address with ptp = 1, or to a PTP group
address (log entry 20). -/
def ptpInst (d : Dev) (f : RxDesc) (ip : Option Ip) (msg : List Byte) : Option Inst :=
  let dom := beAt msg 4 1
  if f.port = 8 then
    if ip.isNone && flag d DSG_CFG_gptp_en && decide (fld d DSG_GPTP_domain = dom) then some .gp else none
  else
    match ip with
    | none => (mcFor d f.port f.sub 0 dom).map .mc
    | some x =>
      let mc := (mcFor d f.port f.sub (transportOf ip) dom).map Inst.mc
      if ptpGroup x.v6 x.dst then mc
      else
        match servedBy d f.port x.v6 x.dst with
        | none => none
        | some k => if flag d (SVC_IP_CFG_ptp k) then ((ucFor d f.port dom).map Inst.uc).orElse (fun _ => mc) else none

/-- A frame for the non-timing responder (R277): ARP or Neighbor Solicitation for a served address, or an echo request to one. -/
def forResponder (d : Dev) (f : RxDesc) (e : Eth) (bs : List Byte) (ip : Option Ip) : Bool :=
  let p := bs.drop e.off
  if e.etype = 0x0806 then beAt p 6 2 == 1 && (servedBy d f.port false (v4Mapped (sliceOf p 24 4))).isSome
  else
    match ip with
    | none => false
    | some x =>
      let t := beAt x.body 0 1
      if x.v6 && x.proto == 58 && t == 135 then (servedBy d f.port true (sliceOf x.body 8 16)).isSome
      else (if x.v6 then x.proto == 58 && t == 128 else x.proto == 1 && t == 8) && (servedBy d f.port x.v6 x.dst).isSome

/-- An upstream message (R296, R363): duplicates are discarded where TWN_UP_DUP asks for it, the rest goes to firmware. -/
def toUpstream (e : Nat) (f : RxDesc) (msg : List Byte) (d : Dev) : Dev :=
  if fld d TWN_UP_DUP_en / 2 ^ e % 2 = 0 then toFirmware f d
  else
    let r := dupCheck 16 (cget (fun _ => []) d.twn.dup e) (sliceOf msg 20 10) (beAt msg 0 1 % 16) (beAt msg 30 2)
    let d1 := modTwn (fun t => { t with dup := cput (fun _ => []) t.dup e r.2.2 }) d
    if r.1 then toFirmware f d1 else twnCount 11 1 (rxFree f d1)

/-- A frame for a pipeline of a protocol; with no eligible pipeline the protocol is not served (R414). -/
def toPipe (proto : Nat) (src : List Byte) (f : RxDesc) (d : Dev) : Dev :=
  match pipeFor d proto src with
  | some p => pipeFrame p f d
  | none => svcCnt 22 1 (rxFree f d)

/-- An accepted frame at the classifier, its buffers in SVC_BUF_PIPE (R277): the first matching row decides. -/
def svcAccept (f : RxDesc) (d : Dev) : Dev :=
  let bs := f.bytes.take (f.bytes.length - 4)
  let e := ethOf bs
  let ip := ipOf e bs
  let u := ip.bind udpOf
  let msg := ptpMsg e bs u
  let src := match ip with | some x => x.src | none => e.sa
  if unitOut d 0x25 then rxFree f d
  else
    match msg.bind (fun m => (upEntry d f ip m).map (fun k => (k, m))) with
    | some (k, m) => toUpstream k f m d
    | none =>
      if e.etype = 0x8809 ∧ beAt bs e.off 1 = 0x0A then toFirmware f d
      else if (match ip with | some x => x.odd | none => false) then toHost f 1 d
      else if (match ip, u with
          | some x, some y => y.dport == 123 && (match servedBy d f.port x.v6 x.dst with | some k => flag d (SVC_IP_CFG_nts k) | none => false)
          | _, _ => false) then toPipe 0 src f d
      else if (msg.bind (ptpInst d f ip)).isSome then toPipe 1 src f d
      else if forResponder d f e bs ip then { d with net := { d.net with resp := d.net.resp ++ [f] } }
      else if flag d SVC_CTL_hostq_en then toHost f 0 d
      else svcCnt 28 1 (rxFree f d)

/-! ### NTP operations -/

/-- An NTP answer handed to the MAC. -/
def ntpSend (pipe : Nat) (f : RxDesc) (e : Eth) (ip : Ip) (u : Udp) (msg : List Byte) (edge cnt : Nat) (d : Dev) : Dev :=
  let x := { builtFrame d pipe (answerFrame d f e (some ip) 123 u.sport msg) with pred := some edge }
  opDone pipe (svcCnt cnt 1 (launchBuilt f.port f.sub f.bufs x d))

/-- A request that waits for its answer to be built: dropped by a step or without a prediction (R280, R300), else `k` runs. -/
def ntpBuild (f : RxDesc) (k : Dev → Dev) (d : Dev) : Dev :=
  if f.steps ≠ stepMod d then svcCnt 21 1 (rxFree f d)
  else if !(predValid d f.port f.sub) then svcCnt 7 1 (rxFree f d)
  else k d

/-- An unknown key ID (R298): event 0x6406 at most once a second per key ID. -/
def unknownKey (id : Nat) (d : Dev) : Dev :=
  if d.net.keyDone.contains id then d else raise 0x6406 id { d with net := { d.net with keyDone := id :: d.net.keyDone } }

/-- Stages 2 to 6 of an NTP request whose fields are good (R298 to R301, R304). While no key is Current every request gets a NAK (R319). -/
def ntpReply (pipe : Nat) (f : RxDesc) (e : Eth) (ip : Ip) (u : Udp) (r : NtsReq) (rate : Bool) (o : PipeObs) (d : Dev) : Dev :=
  let m := u.data
  let pr := predicted d f.port f.sub o.pos
  let rx := ntpStamp d (fullTime d f.tRx)
  let tx := ntpStamp d (fullTime d pr.2)
  let nak := ntpBuild f (fun y => ntpSend pipe f e ip u (ntpNak y m r f.port rx tx) pr.1 2 y)
  match r.cookie with
  | none => nak d
  | some c =>
    let id := beAt c 0 4
    match cookieSlot d id with
    | none => nak (unknownKey id d)
    | some n =>
      let d1 := jobDone false d
      if !(flag d KEY_NTS_CUR_valid) then nak d else
      match cookieOpen d1 n c with
      | none => nak d1
      | some (c2s, s2c) =>
        let d2 := jobDone false d1
        match Config.sivOpen c2s [r.ad, r.nonce] r.ct with
        | none => nak d2
        | some _ =>
          ntpBuild f (fun y =>
            let plain := ntpPlain y m r f.port rate rx tx
            let ck := newCookies pipe (fld y KEY_NTS_CUR_slot) c2s s2c (1 + r.holders) y
            let t := takeNonce pipe (jobDone false ck.2)
            ntpSend pipe f e ip u (ntpSeal s2c plain t.1 ck.1) pr.1 (if rate then 3 else 1) t.2) d2

/-- Stage 2 begins with the extension fields (R298). -/
def ntpAnswer (pipe : Nat) (f : RxDesc) (e : Eth) (ip : Ip) (u : Udp) (rate : Bool) (o : PipeObs) (d : Dev) : Dev :=
  match ntsFields d u.data with
  | none => svcCnt 6 1 (rxFree f d)
  | some r => ntpReply pipe f e ip u r rate o d

/-- An over-rate NTP request (R304): a KoD token lets it be answered, else it is dropped with event 0x6407. -/
def kodToken (d : Dev) : Bool × Dev :=
  let r := tokenTake (fld d SVC_KOD_RATE_per_s) (now16 d) d.net.kod
  (r.1, { d with net := { d.net with kod := r.2 } })

/-- An NTP request without a token dropped (R304); the drops of the second are reported at its end (log entry 160). -/
def kodDrop (f : RxDesc) (d : Dev) : Dev :=
  svcCnt 4 1 (rxFree f { d with net := { d.net with kodDrop := d.net.kodDrop + 1 } })

/-- An NTP request through its pipeline (R279, R297). -/
def ntpOp (pipe : Nat) (f : RxDesc) (e : Eth) (ip : Ip) (u : Udp) (o : PipeObs) (d : Dev) : Dev :=
  if !(servesNtp d) then svcCnt 22 1 (rxFree f d)
  else if !ip.sumOk || !u.sumOk then svcCnt 6 1 (rxFree f d)
  else
    match ntpForm u.data with
    | .bad => svcCnt 6 1 (rxFree f d)
    | .plain => svcCnt 5 1 (rxFree f d)
    | .nts =>
      let w := weirUse 0 (weirSource d (some ip) e.sa) o.weirBad d
      if w.1 then ntpAnswer pipe f e ip u false o w.2
      else
        let t := kodToken w.2
        if t.1 then ntpAnswer pipe f e ip u true o t.2 else kodDrop f t.2

/-! ### PTP operations -/

/-- Least length of a message type that the device answers. -/
def ptpMin (type : Nat) : Nat := match type with | 1 => 44 | 2 => 54 | 0xC => 44 | _ => 34

/-- A message is well formed: version 2, its length within the datagram and long enough for its type. -/
def ptpOk (m : List Byte) : Bool :=
  decide (34 ≤ m.length) && beAt m 1 1 % 16 == 2 && decide (beAt m 2 2 ≤ m.length) && decide (ptpMin (beAt m 0 1 % 16) ≤ beAt m 2 2)

/-- An instance asks for authentication, by kind. -/
def instAuth (d : Dev) (i : Inst) : Bool :=
  match i with
  | .mc k => flag d (SVC_MC_CFG_auth_req k)
  | .uc u => flag d (SVC_UC_CFG_auth_req u)
  | .gp => false

/-- The client of a message to unicast instance `u`. -/
def clientOf (u : Nat) (f : RxDesc) (e : Eth) (ip : Ip) (m : List Byte) (auth : Option (Nat × Nat)) : Client :=
  { inst := u, cid := sliceOf m 20 8, portNo := beAt m 28 2, ip := ip.src, v6 := ip.v6, domain := beAt m 4 1, port := f.port, sub := f.sub
    mac := leNat e.sa, auth := auth }

/-- A Signaling message of a client (R290): answered where it asks for something. -/
def signalOp (pipe : Nat) (f : RxDesc) (e : Eth) (ip : Ip) (c : Client) (m : List Byte) (d : Dev) : Dev :=
  let tlvs := tlvsOf 64 (sliceOf m 44 (beAt m 2 2 - 44))
  let d1 := svcCnt 13 1 d
  if !(tlvs.any (fun t => t.1 == 4 || t.1 == 6)) then rxFree f d1
  else
    let a := answerTlvs c tlvs d1
    let s := clientSess a.2 c
    let q := sigSeq (s.getD (2 ^ 20)) a.2
    let sa := match s with | some i => ((sess a.2 i).spp, (sess a.2 i).keyId) | none => c.auth.getD (0, 0)
    let h : PtpHdr := { gptp := false, type := 0xC, domain := c.domain, unicast := true, twoStep := false, corr := 0, port := f.port,
                        sub := f.sub, seq := q.1, logInt := 0x7F }
    sendAnswer pipe f e (some ip) h (sliceOf m 20 10 ++ a.1) false sa.1 sa.2 none none 36 q.2

/-- A request of the PTP path past its checks (R286, R290, R269). -/
def ptpAnswer (pipe : Nat) (f : RxDesc) (e : Eth) (ip : Option Ip) (i : Inst) (m : List Byte) (auth : Option (Nat × Nat)) (d : Dev) : Dev :=
  let type := beAt m 0 1 % 16
  if f.steps ≠ stepMod d then svcCnt 21 1 (rxFree f d)
  else
    match i, ip with
    | .mc k, _ =>
      let spp := fld d (SVC_MC_PRIO_spp k)
      let key := rdN d (SVC_MC_KEYID k)
      let p5 := decide (fld d (SVC_MC_CFG_profile k) = 5)
      if type = 1 ∧ !p5 then
        sendDelayResp pipe f e ip m false (fld d (SVC_MC_RATE_logMinDelayReq k)) (fld d (SVC_MC_CFG_bound_msgs k)) spp key d
      else if type = 2 ∧ p5 then sendPdelay pipe f e m spp key d
      else if type = 0xC then svcCnt 13 1 (rxFree f d)
      else svcCnt 20 1 (rxFree f d)
    | .gp, _ => if type = 2 then sendPdelay pipe f e m 0 0 d else svcCnt 20 1 (rxFree f d)
    | .uc u, some x =>
      let c := clientOf u f e x m auth
      if type = 0xC then signalOp pipe f e x c m d
      else if type = 1 then
        match clientSess d c with
        | none => svcCnt 17 1 (rxFree f d)
        | some s =>
          let y := sess d s
          if y.dresp then sendDelayResp pipe f e ip m true y.logD (fld d (SVC_UC_CFG_bound_msgs u)) y.spp y.keyId d
          else svcCnt 17 1 (rxFree f d)
      else svcCnt 20 1 (rxFree f d)
    | .uc _, none => svcCnt 19 1 (rxFree f d)

/-- A PTP message through its pipeline (R279, R283, R288, R304). Messages that a time transmitter does not answer are ignored. -/
def ptpOp (pipe : Nat) (f : RxDesc) (e : Eth) (ip : Option Ip) (u : Option Udp) (i : Inst) (m : List Byte) (o : PipeObs) (d : Dev) : Dev :=
  let serves := match i with | .uc _ => servesUc d | _ => servesMc d
  let type := beAt m 0 1 % 16
  let sums := (match ip with | some x => x.sumOk | none => true) && (match u with | some x => x.sumOk | none => true)
  if !serves then svcCnt 22 1 (rxFree f d)
  else if !sums || !(ptpOk m) then svcCnt 19 1 (rxFree f d)
  else if !([1, 2, 0xC].contains type) then svcCnt 20 1 (rxFree f d)
  else
    let w := weirUse 1 (weirSource d ip e.sa) o.weirBad d
    if !w.1 then svcCnt 18 1 (rxFree f w.2)
    else
      let msg := m.take (beAt m 2 2)
      let start := ptpMin type
      let a := authAt 16 msg start
      let d1 := match a.bind (recvSa w.2 msg) with | some k => jobDone (!(saGmac w.2 k)) w.2 | none => w.2
      let ok := authOk d1 msg start
      let who := match a, ok with | some x, some true => some (beAt msg (x + 4) 1, beAt msg (x + 6) 4) | _, _ => none
      if instAuth d1 i && ok != some true then svcCnt 16 1 (rxFree f d1) else ptpAnswer pipe f e ip i msg who d1

/-! ### The stages -/

/-- Sync or Announce of a multicast instance takes its sequenceId (R285). -/
def takeMc (f : Fld) (d : Dev) : Nat × Dev := (fld d f, wrapAdd f 1 d)

/-- A received frame of a pipeline (R279). -/
def rxOp (pipe : Nat) (f : RxDesc) (o : PipeObs) (d : Dev) : Dev :=
  let bs := f.bytes.take (f.bytes.length - 4)
  let e := ethOf bs
  let ip := ipOf e bs
  let u := ip.bind udpOf
  match ip, u with
  | some x, some y =>
    if y.dport = 123 then ntpOp pipe f e x y o d
    else match ptpInst d f ip y.data with | some i => ptpOp pipe f e ip u i y.data o d | none => svcCnt 19 1 (rxFree f d)
  | _, _ =>
    match ptpInst d f none (bs.drop e.off) with
    | some i => ptpOp pipe f e none none i (bs.drop e.off) o d
    | none => svcCnt 19 1 (rxFree f d)

/-- Session `s` is valid and granted a type: 0 Sync, 1 Announce. -/
def ucGranted (d : Dev) (s type : Nat) : Bool := sessValid d s && (if type = 0 then (sess d s).sync else (sess d s).ann)

/-- One operation of a pipeline on a message (R279). -/
def msgOp (pipe : Nat) (m : Msg) (o : PipeObs) (d : Dev) : Dev :=
  match m with
  | .rx f => rxOp pipe f o d
  | .mcSync i =>
    doIf (servesMc d && flag d (SVC_MC_CFG_en i)) (fun x => let q := takeMc (SVC_MC_SEQ_sync i) x; sendSync pipe (mcStream x i) q.1 (.mc i) o.pos q.2) d
  | .mcAnnounce i =>
    doIf (servesMc d && flag d (SVC_MC_CFG_en i)) (fun x => let q := takeMc (SVC_MC_SEQ_announce i) x; sendAnnounce pipe (mcStream x i) q.1 q.2) d
  | .mcL1 i => doIf (servesMc d && flag d (SVC_MC_CFG_en i)) (sendL1 pipe i) d
  | .ucSync s =>
    doIf (servesUc d && ucGranted d s 0) (fun x =>
      let y := sess x s
      sendSync pipe (ucStream x s) y.seqS (.uc s) o.pos (sessSeq s { y with seqS := (y.seqS + 1) % 65536 } x)) d
  | .ucAnnounce s =>
    doIf (servesUc d && ucGranted d s 1) (fun x =>
      let y := sess x s
      sendAnnounce pipe (ucStream x s) y.seqA (sessSeq s { y with seqA := (y.seqA + 1) % 65536 } x)) d
  | .gpSync =>
    doIf (servesMc d && flag d DSG_CFG_gptp_en) (fun x =>
      sendSync pipe (gpStream x) x.net.gpSync .gp o.pos { x with net := { x.net with gpSync := (x.net.gpSync + 1) % 65536 } }) d
  | .gpAnnounce =>
    doIf (servesMc d && flag d DSG_CFG_gptp_en) (fun x =>
      sendAnnounce pipe (gpStream x) x.net.gpAnn { x with net := { x.net with gpAnn := (x.net.gpAnn + 1) % 65536 } }) d
  | .follow src seq t =>
    match src with
    | .mc i => doIf (servesMc d) (sendFollow pipe (mcStream d i) seq t) d
    | .uc s => doIf (servesUc d && ucGranted d s 0) (sendFollow pipe (ucStream d s) seq t) d
    | .gp => doIf (servesMc d) (sendFollow pipe (gpStream d) seq t) d
    | .pdelay f =>
      let e := ethOf f.bytes
      let i := match mcFor d f.port f.sub 0 (beAt (f.bytes.drop e.off) 4 1) with | some k => k | none => 32
      if f.port = 8 || 32 ≤ i then sendPdelayFollow pipe f t 0 0 d
      else sendPdelayFollow pipe f t (fld d (SVC_MC_PRIO_spp i)) (rdN d (SVC_MC_KEYID i)) d

/-- The kind of credit that a job under an association needs: false AES, true SHA-256. -/
def saKind (d : Dev) (s : Option (Option Nat)) : List Bool := match s with | some (some i) => [!(saGmac d i)] | _ => []

/-- The kind of credit that sealing a message of multicast instance `i` needs. -/
def mcKind (d : Dev) (i : Nat) : List Bool := saKind d (sendSa d (fld d (SVC_MC_PRIO_spp i)) (rdN d (SVC_MC_KEYID i)))

/-- The kind of credit that sealing a message of session `s` needs. -/
def ucKind (d : Dev) (s : Nat) : List Bool := saKind d (sendSa d (sess d s).spp (sess d s).keyId)

/-- The credits that an NTP request needs to pass stages 2 to 5: AES, where its checks lead to a job at all. -/
def ntpNeeds (o : PipeObs) (e : Eth) (ip : Ip) (u : Udp) (d : Dev) : List Bool :=
  let serves := servesNtp d && ip.sumOk && u.sumOk && ntpForm u.data == .nts
  let passes := (weirUse 0 (weirSource d (some ip) e.sa) o.weirBad d).1 || (kodToken d).1
  let slot := (ntsFields d u.data).bind (fun r => r.cookie.bind (fun c => cookieSlot d (beAt c 0 4)))
  if serves && passes && slot.isSome && flag d KEY_NTS_CUR_valid then [false] else []

/-- The credits that a PTP message needs: for its own check and for the seal of its answer. -/
def ptpNeeds (o : PipeObs) (f : RxDesc) (e : Eth) (ip : Option Ip) (u : Option Udp) (i : Inst) (m : List Byte) (d : Dev) : List Bool :=
  let serves := match i with | .uc _ => servesUc d | _ => servesMc d
  let sums := (match ip with | some x => x.sumOk | none => true) && (match u with | some x => x.sumOk | none => true)
  let passes := (weirUse 1 (weirSource d ip e.sa) o.weirBad d).1
  if !(serves && sums && ptpOk m && [1, 2, 0xC].contains (beAt m 0 1 % 16) && passes) then []
  else
    let check := saKind d ((authAt 16 (m.take (beAt m 2 2)) (ptpMin (beAt m 0 1 % 16))).map (recvSa d (m.take (beAt m 2 2))))
    match i, ip with
    | .mc k, _ => check ++ mcKind d k
    | .uc n, some x => check ++ (match clientSess d (clientOf n f e x m none) with | some s => ucKind d s | none => [])
    | _, _ => check

/-- The kinds of credit that a message needs before it can pass stages 3 and 5 (R281): false AES, true SHA-256. -/
def credNeeds (o : PipeObs) (m : Msg) (d : Dev) : List Bool :=
  match m with
  | .rx f =>
    let bs := f.bytes.take (f.bytes.length - 4)
    let e := ethOf bs
    let ip := ipOf e bs
    let u := ip.bind udpOf
    match ip, u with
    | some x, some y =>
      if y.dport = 123 then ntpNeeds o e x y d
      else match ptpInst d f ip y.data with | some i => ptpNeeds o f e ip u i y.data d | none => []
    | _, _ =>
      match ptpInst d f none (bs.drop e.off) with
      | some i => ptpNeeds o f e none none i (bs.drop e.off) d
      | none => []
  | .mcSync i | .mcAnnounce i | .mcL1 i | .follow (.mc i) _ _ => mcKind d i
  | .ucSync s | .ucAnnounce s | .follow (.uc s) _ _ => ucKind d s
  | _ => []

/-- A job of the message at the head of a queue was lost with its engine (R317): a request is dropped and counted; a scheduled message
is resubmitted once. -/
def jobLost (p : Nat) (x : PItem) (xs : List PItem) (d : Dev) : Dev :=
  match x.msg with
  | .rx f => keyCount 4 (rxFree f (setPipeQ p xs d))
  | _ => if x.again then keyCount 4 (setPipeQ p xs d) else setPipeQ p ({ x with again := true } :: xs) d

/-- The head of a pipeline's queue waits for a credit (R281), since the time given. -/
def setWait (p : Nat) (t : Option Nat) (d : Dev) : Dev :=
  { d with net := { d.net with waits := cput (fun _ => none) d.net.waits p t } }

/-- One operation of pipeline `p` (R279): nothing for an empty queue or a fenced pipeline; the head waits while a credit that it
needs is not to be had, and holds what it needs while it runs (R316). A job can be lost only with an engine that is fenced. -/
def pipeOp (p : Nat) (o : PipeObs) (d : Dev) : Dev :=
  match pipeQ d p with
  | [] => d
  | x :: xs =>
    let needs := (credNeeds o x.msg d).eraseDups
    if unitOut d (0x21 + p) then d
    else if needs.any (fun k => !(crdForPipe d k)) then
      match cget (fun _ => none) d.net.waits p with
      | some _ => d
      | none => setWait p (some (near d)) d
    else if o.lost && needs.any (fun k => (List.range 24).any (fun e => decide (8 ≤ e) == k && engFenced d e)) then
      jobLost p x xs (setWait p none d)
    else crdUse (p + 1) needs (msgOp p x.msg o) (setWait p none (setPipeQ p xs d))

/-! ### The wheel -/

/-- Slots between two messages of interval 2^p s (R294). -/
def wheelPer (logInt : Nat) : Nat := let p := s8 logInt; if 0 ≤ p then 16384 * 2 ^ p.toNat else max 1 (16384 / 2 ^ (-p).toNat)

/-- The slot of the timescale: 4,000,000,000 units each, counted from the epoch (R294). -/
def slotNow (d : Dev) : Nat := now16 d / 4000000000

/-- The messages of multicast instances and of the drive segment due in absolute slot `a`: phase 0, Announce half a Sync
interval later (R294). -/
def mcDue (d : Dev) (a : Nat) : List Msg :=
  ((List.range 32).filter (fun i => flag d (SVC_MC_CFG_en i))).flatMap (fun i =>
    let ps := wheelPer (fld d (SVC_MC_RATE_logSync i))
    let pa := wheelPer (fld d (SVC_MC_RATE_logAnnounce i))
    let pl := wheelPer (fld d (SVC_MC_RATE_logL1Sync i))
    (if a % ps = 0 then [Msg.mcSync i] else []) ++ (if a % pa = ps / 2 % pa then [Msg.mcAnnounce i] else []) ++
      (if fld d (SVC_MC_CFG_profile i) = 2 ∧ a % pl = 0 then [Msg.mcL1 i] else [])) ++
  (if flag d DSG_CFG_gptp_en then
    let ps := wheelPer (gpLogSync d)
    let pa := wheelPer (fld d DSG_GPTP_logAnnounce)
    (if a % ps = 0 then [Msg.gpSync] else []) ++ (if a % pa = ps / 2 % pa then [Msg.gpAnnounce] else [])
  else [])

/-- The messages of session `s` due in slot `a` (R294). -/
def ucDue (d : Dev) (a s : Nat) : List Msg :=
  let x := sess d s
  let ps := wheelPer x.logS
  let pa := wheelPer x.logA
  (if x.sync ∧ a % ps = x.phase * ps / 65536 then [Msg.ucSync s] else []) ++
    (if x.ann ∧ a % pa = x.phase * pa / 65536 then [Msg.ucAnnounce s] else [])

/-- A wheel entry issued to its pipeline (R278, R294). -/
def issue (a : Nat) (m : Msg) (d : Dev) : Dev :=
  let src := match m with
    | .mcSync i | .mcAnnounce i | .mcL1 i => beBytes 1 i
    | .ucSync s | .ucAnnounce s => (sess d s).ip
    | _ => beBytes 1 32
  match pipeFor d 1 src with
  | none => d
  | some p => pipePut p { msg := m, slot := some a, late := false, again := false } d

/-- A wheel entry that the Standby issues in shadow (R358): its sequenceId advances. -/
def shadowIssue (m : Msg) (d : Dev) : Dev :=
  let tag := fun (k : Nat) (x : Dev) => modTwn (fun t => { t with shadow := t.shadow ++ [(k, t.ms)] }) x
  match m with
  | .mcSync i => tag (2 ^ 20 + 2 * i) (wrapAdd (SVC_MC_SEQ_sync i) 1 d)
  | .mcAnnounce i => tag (2 ^ 20 + 2 * i + 1) (wrapAdd (SVC_MC_SEQ_announce i) 1 d)
  | .ucSync s => let x := sess d s; tag (2 * s) (sessSeq s { x with seqS := (x.seqS + 1) % 65536 } d)
  | .ucAnnounce s => let x := sess d s; tag (2 * s + 1) (sessSeq s { x with seqA := (x.seqA + 1) % 65536 } d)
  | .gpSync => tag (2 ^ 21) { d with net := { d.net with gpSync := (d.net.gpSync + 1) % 65536 } }
  | .gpAnnounce => tag (2 ^ 21 + 1) { d with net := { d.net with gpAnn := (d.net.gpAnn + 1) % 65536 } }
  | _ => d

/-- Entries of earlier slots still in a queue are late (R295): counted once, event 0x6404 at most once a second. -/
def countLate (a : Nat) (d : Dev) : Dev :=
  let isLate := fun (x : PItem) => !x.late && (match x.slot with | some k => k != a | none => false)
  let n := ((List.range 4).map (fun p => ((pipeQ d p).filter isLate).length)).foldl (· + ·) 0
  if n = 0 then d
  else
    let d1 := forEach (List.range 4) (fun p x => setPipeQ p ((pipeQ x p).map (fun y => if isLate y then { y with late := true } else y)) x) d
    onceSec 0x6404 n (svcCnt 25 n { d1 with net := { d1.net with backlog := max d1.net.backlog n } })

/-- Expired sessions end at their wheel visit and in the sweep (R293). -/
def expire (s : Nat) (d : Dev) : Dev := doIf (sessExpired d (sess d s)) (fun x => svcCnt 35 1 (sessEnd s x)) d

/-- The messages of a slot issued (R294), or advanced in shadow (R358): the chip sends what R348 lets it send. A Standby that
holds back for a step of the Active counts its dual-send messages in step_drop. -/
def wheelSlot (d : Dev) : Dev :=
  let a := slotNow d
  if d.net.slot = some a then d
  else
    let d0 := setF SVC_WHEEL_STAT_slot (a % 16384) (countLate a { d with net := { d.net with slot := some a } })
    let mc := mcDue d0 a
    let held := twnEn d0 && decide (fld d0 TWN_STATUS_state = 1) && d0.twn.shift.isSome && decide (fld d0 TWN_CTL_pkt_mode = 1)
    let d1 := if servesMc d0 then forEach mc (issue a) d0
      else doIf (shadows d0) (forEach mc shadowIssue) (doIf (held && svcLive d0 && flag d0 SVC_CTL_ptp_en) (svcCnt 21 mc.length) d0)
    if !(domOn d1 .smem) then d1
    else
      forEach (sessAll d1) (fun s x =>
        let due := ucDue x a s
        if due.isEmpty then x
        else
          let y := expire s x
          if !(sessValid y s) then y
          else if servesUc y then forEach due (issue a) y
          else doIf (shadows y) (forEach due shadowIssue) y) d1

/-! ### The non-timing responder (R307) -/

/-- A frame that the responder sends: no operation, no step count. -/
def respSend (f : RxDesc) (bytes : List Byte) (cnt : Nat) (d : Dev) : Dev :=
  svcCnt cnt 1 (launchBuilt f.port f.sub f.bufs { builtFrame d 0 bytes with steps := none } d)

/-- The bytes of an ARP packet for Ethernet and IPv4. -/
def arpBytes (op : Nat) (sha spa tha tpa : List Byte) : List Byte :=
  beBytes 2 1 ++ beBytes 2 0x0800 ++ beBytes 1 6 ++ beBytes 1 4 ++ beBytes 2 op ++ sha ++ spa ++ tha ++ tpa

/-- An ICMPv6 message in its packet, with hop limit 255. -/
def icmp6 (src dst body : List Byte) (dscp ttl : Nat) : List Byte :=
  let z := body.take 2 ++ beBytes 2 0 ++ body.drop 4
  let s := inetSum (pseudo true src dst 58 z.length ++ z)
  ipBytesTtl ttl true src dst dscp 58 (body.take 2 ++ beBytes 2 s ++ body.drop 4)

/-- A Neighbor Advertisement for a target, with the override flag and, in answer to a solicitation, the solicited flag. -/
def nbrAdv (target mac : List Byte) (solicited : Bool) : List Byte :=
  beBytes 1 136 ++ beBytes 1 0 ++ beBytes 2 0 ++ beBytes 4 (0x20000000 + b2n solicited * 0x40000000) ++ target ++ beBytes 1 2 ++ beBytes 1 1 ++ mac

/-- The all-nodes group. -/
def allNodes : List Byte := [0xFF#8, 0x02#8] ++ List.replicate 13 0#8 ++ [1#8]

/-- An ARP request or a Neighbor Solicitation answered. -/
def answerArp (f : RxDesc) (e : Eth) (p : List Byte) (d : Dev) : Dev :=
  let mac := ownMac d f.port f.sub
  respSend f (sliceOf p 8 6 ++ mac ++ sliceOf f.bytes 12 (e.off - 12) ++ arpBytes 2 mac (sliceOf p 24 4) (sliceOf p 8 6) (sliceOf p 14 4)) 30 d

/-- A Neighbor Solicitation answered: to all nodes where it came from the unspecified address. -/
def answerNs (f : RxDesc) (e : Eth) (x : Ip) (d : Dev) : Dev :=
  let mac := ownMac d f.port f.sub
  let t := sliceOf x.body 8 16
  let dad := decide (x.src = List.replicate 16 0#8)
  let dst := if dad then allNodes else x.src
  respSend f ((if dad then macBE 0x333300000001 else e.sa) ++ mac ++ sliceOf f.bytes 12 (e.off - 12) ++
    icmp6 t dst (nbrAdv t mac (!dad)) 0 255) 30 d

/-- An echo request answered: up to 1,500 bytes, to an address with ping = 1, within SVC_ICMP_RATE. -/
def answerEcho (f : RxDesc) (e : Eth) (x : Ip) (d : Dev) : Dev :=
  match servedBy d f.port x.v6 x.dst with
  | none => rxFree f d
  | some k =>
    let len := x.body.length + (if x.v6 then 40 else 20)
    if !(flag d (SVC_IP_CFG_ping k)) || decide (1500 < len) || !x.sumOk then rxFree f d
    else
      let t := tokenTake (fld d SVC_ICMP_RATE_per_s) (now16 d) d.net.icmp
      let d1 := { d with net := { d.net with icmp := t.2 } }
      if !t.1 then rxFree f d1
      else
        let dscp := fld d (SVC_IP_CFG_dscp k)
        let head := e.sa ++ ownMac d f.port f.sub ++ sliceOf f.bytes 12 (e.off - 12)
        let pkt := if x.v6 then icmp6 x.dst x.src ([129#8] ++ x.body.drop 1) dscp 64
          else
            let z := [0#8, 0#8, 0#8, 0#8] ++ x.body.drop 4
            ipBytes false x.dst x.src dscp 1 (z.take 2 ++ beBytes 2 (inetSum z) ++ z.drop 4)
        respSend f (head ++ pkt) 31 d1

/-- The responder's answer to its oldest frame (R307): in Standby and Serve, while the chip speaks (R348). -/
def respond (d : Dev) : Dev :=
  match d.net.resp with
  | [] => d
  | f :: fs =>
    let d1 := { d with net := { d.net with resp := fs } }
    let bs := f.bytes.take (f.bytes.length - 4)
    let e := ethOf bs
    if !(running d1) || !(speaking d1) || unitOut d1 0x25 then rxFree f d1
    else if e.etype = 0x0806 then answerArp f e (bs.drop e.off) d1
    else
      match ipOf e bs with
      | none => rxFree f d1
      | some x => if x.v6 && beAt x.body 0 1 == 135 then answerNs f e x d1 else answerEcho f e x d1

/-- A frame of the device's own on a subport: buffers from the pool. -/
def ownSend (p s : Nat) (bytes : List Byte) (d : Dev) : Dev :=
  launchBuilt p s 0 { builtFrame d 0 bytes with steps := none } d

/-- The gratuitous ARP and unsolicited Neighbor Advertisements of a takeover (R349). -/
def announceAddrs (d : Dev) : Dev :=
  forEach (List.range 8) (fun p x => forEach (portSubs x p) (fun s y =>
    if !(macReady y p s) then y
    else forEach (ipEntries y p) (fun e z =>
      let a := svcIp z e
      let mac := ownMac z p s
      if flag z (SVC_IP_CFG_ipv6 e) then
        ownSend p s (ethHdr (macBE 0x333300000001) mac 0x86DD ++ icmp6 a allNodes (nbrAdv a mac false) 0 255) z
      else ownSend p s (ethHdr macBcast mac 0x0806 ++ arpBytes 1 mac (a.drop 12) (List.replicate 6 0#8) (a.drop 12)) z) y) x) d

end Sys2Proof.Machine
end

