-- ==== Sys2Proof/Machine/DsgOps.lean ====
section
/-! DEFINITION. The operations of DSG (spec/11_drive_segment.md): modes and link states (R259, R260), the role in a twin pair
(R272), the symbol clock (R257, R258), stamps (R264), the launch queue (R266 to R268), and the Low water sender (R273). -/

namespace Sys2Proof.Machine

open Sys2Proof

/-- `d` with DSG's hidden state changed. -/
def modDsg (f : Dsg → Dsg) (d : Dev) : Dev := { d with dsg := f d.dsg }

/-- Link state: 0 Off, 1 Silent, 2 PLCA, 3 CSMA (R260). -/
def dsgLink (d : Dev) : Nat := fld d DSG_STATUS_link

/-- The link changes its state (R260): event 0x6002. A frame in progress ends with the receiver. -/
def dsgLinkTo (st : Nat) (d : Dev) : Dev :=
  let old := dsgLink d
  if old = st then d else raise 0x6002 (old + st * 16) (setF DSG_STATUS_link st (doIf (decide (st = 0)) (rxCut 8 0 6) d))

/-- The mode in force: that of DSG_CFG, or with twin_role the one that the claim comparison gives (R272). -/
def dsgMode (d : Dev) : Nat :=
  let m := fld d DSG_CFG_mode
  if m ≠ 0 && flag d DSG_CFG_twin_role && twnEn d then (if d.dsg.won then 1 else 2) else m

/-- DSG_STATUS.coordinator follows the mode and the link. -/
def dsgCoord (d : Dev) : Dev := setB DSG_STATUS_coordinator (decide (dsgMode d = 1) && decide (dsgLink d ≠ 0)) d

/-- A DSG_CFG value is accepted (R259): node_id by mode, node_count not 0 in mode 1; with twin_role both roles' values hold. -/
def dsgCfgOk (v : Word) : Bool :=
  let mode := bitsOf v 0 2
  let id := bitsOf v 8 8
  let n := bitsOf v 16 8
  if bitsOf v 6 1 = 1 ∧ mode ≠ 0 then 1 ≤ id && id ≤ 254 && n != 0
  else if mode = 1 then id == 0 && n != 0
  else if mode = 2 then 1 ≤ id && id ≤ 254
  else true

/-- No cycle is in progress, nor its ledger (R262). -/
def endCycle (d : Dev) : Dev := wrN DSG_TO_LEDGER 0 (modDsg (fun x => { x with cycle := false }) d)

/-- A DSG_CFG takes effect (R259, R260): a changed mode sends the link to Silent, mode 0 to Off. -/
def dsgApply (v : Word) (d : Dev) : Dev :=
  let old := dsgMode d
  let d1 := wr DSG_CFG v (modDsg (fun x => { x with next := none }) d)
  let new := dsgMode d1
  let d2 :=
    if new = 0 then dsgLinkTo 0 (endCycle d1)
    else if old ≠ new || dsgLink d1 == 0 then dsgLinkTo 1 (modDsg (fun x => { x with beaconAt := none }) (endCycle d1))
    else d1
  dsgCoord d2

/-- The end of the cycle in progress (R259): a DSG_CFG that waits takes effect. The ledger keeps its terms until the next
beacon. -/
def cycleEnds (d : Dev) : Dev :=
  let d1 := modDsg (fun x => { x with cycle := false, cycleEnd := some (now16 d) }) d
  match d1.dsg.next with
  | some v => dsgApply v d1
  | none => d1

/-- The claim comparison gives the segment's role (R272): event 0x6008 where the chip's role changes. -/
def dsgRole (won : Bool) (d : Dev) : Dev :=
  if d.dsg.won == won then d
  else
    let d1 := modDsg (fun x => { x with won := won }) d
    if flag d DSG_CFG_twin_role && decide (fld d DSG_CFG_mode ≠ 0) && (twnEn d || !(domOn d .tb)) then
      raise 0x6008 (b2n won) (dsgCoord (if won then modDsg (fun x => { x with cycle := false, cycleEnd := none }) d1 else endCycle d1))
    else d1

/-! ### The symbol clock -/

/-- |F| is below 50 ppm, so that the symbol edges follow the timescale (R257). -/
def dsgFollows (d : Dev) : Bool := decide ((chanF (leadChan d)).natAbs * 1000000 < 50 * 2 ^ 56)

/-- DSG_STATUS.locked brought up to date: event 0x6003 on a change. -/
def dsgLocked (d : Dev) : Dev :=
  let on := domOn d .tb && !(flag d DSG_STATUS_lw_src) && !(flag d DSG_STATUS_realigning) && dsgFollows d
  if on == flag d DSG_STATUS_locked then d else raise 0x6003 (b2n on) (setB DSG_STATUS_locked on d)

/-- A step or set of `s` units moves the symbol grid (R258). -/
def dsgShift (s : Int) (d : Dev) : Dev :=
  if domOn d .tb && decide (s % 2621440 ≠ 0) then dsgLocked (setF DSG_STATUS_realigning 1 d) else d

/-! ### Stamps -/

/-- The stamp of a symbol edge (R257, R264): the latch's with PD_TB on, else the low-power counter with `k` cycles of 40 ns since
its last CK_32K edge. -/
def dsgStamp (d : Dev) (c k : Nat) : Nat := if domOn d .tb then latchStamp d c 0 else (near d + k * 2621440) % 2 ^ 64

/-- t_rx of an edge stamp (R264). -/
def dsgRx (d : Dev) (t : Nat) : Nat := wrapN 64 ((t : Int) - sx 32 (rdN d DSG_LAT_RX) - sx 32 (rdN d DSG_BOARD_RX))

/-- t_tx of an edge stamp (R264). -/
def dsgTx (d : Dev) (t : Nat) : Nat := wrapN 64 ((t : Int) + sx 32 (rdN d DSG_LAT_TX) + sx 32 (rdN d DSG_BOARD_TX))

/-- The time from the start of a frame to its timestamp point: 64 bit times (R264). -/
def pointAfter : Nat := 6400 * 65536

/-- An echo of an own frame (R265): the difference of its stamps. -/
def dsgEcho (r : Option Int) (d : Dev) : Dev :=
  match r with
  | none => d
  | some x => if domOn d .tb then modDsg (fun y => { y with echoN := y.echoN + 1, echoSum := y.echoSum + x }) d else d

/-- A frame padded to 60 bytes, with its FCS (R242). -/
def padFcs (bs : List Byte) : List Byte :=
  let b := bs ++ List.replicate (60 - bs.length) 0#8
  b ++ fcsOf b

/-- A frame on the segment's wire: counted, and held as the last frame sent. -/
def dsgWire (bs : List Byte) (d : Dev) : Dev :=
  dsgCnt 13 1 (modPsub 8 0 (fun x => { x with last := padFcs bs }) d)

/-- The segment carries frames: PLCA or CSMA, unit 0x20 in service. -/
def dsgSends (d : Dev) : Bool := decide (2 ≤ dsgLink d) && !(unitOut d 0x20)

/-! ### The launch queue (R266 to R268) -/

/-- State of launch entry `e`: 0 Free, 1 Queued, 2 Launching, 3 Done. -/
def qState (d : Dev) (e : Nat) : Nat := bitsOf (rd d (bank DSG_Q_STATUS e)) 0 2

/-- A field of DSG_Q_CTL of entry `e`. -/
def qCtl (d : Dev) (e lo n : Nat) : Nat := bitsOf (rd d (bank DSG_Q_CTL e)) lo n

/-- Target of entry `e`. -/
def qTgt (d : Dev) (e : Nat) : Nat := rd64 d (bank DSG_Q_TGT_LO e)

/-- Length of entry `e`. -/
def qLen (d : Dev) (e : Nat) : Nat := bitsOf (rd d (bank DSG_Q_LEN e)) 0 11

/-- Bytes of an inserted field (R268). -/
def tsLen (fmt : Nat) : Nat := match fmt with | 0 => 0 | 1 => 10 | 2 => 8 | _ => 12

/-- The inserted field for a near time (R268), in network byte order. -/
def tsField (d : Dev) (fmt t : Nat) : List Byte :=
  let v := fullTime d t
  match fmt with
  | 0 => []
  | 1 => ptpStamp v
  | 2 => beBytes 8 t
  | _ => beBytes 6 (v / sec16) ++ beBytes 4 (v % sec16 / 65536) ++ beBytes 2 (v % 65536)

/-- `bs` with `f` written over it from offset `o`. -/
def overlayBytes (bs : List Byte) (o : Nat) (f : List Byte) : List Byte := bs.take o ++ f ++ bs.drop (o + f.length)

/-- The frame of entry `e`, of its length. -/
def qFrame (d : Dev) (e : Nat) : List Byte :=
  let b := cget (fun _ => []) d.dsg.data e
  (b ++ List.replicate (qLen d e) 0#8).take (qLen d e)

/-- DSG_Q_STATUS of an entry written whole. -/
def qStatus (e st result : Nat) (byStep : Bool) (lateNs : Nat) (d : Dev) : Dev :=
  wrN (bank DSG_Q_STATUS e) (st + result * 4 + b2n byStep * 32 + satU 24 lateNs * 256) d

/-- An entry dropped (R267): counted, event 0x6007. -/
def qDrop (e result : Nat) (d : Dev) : Dev := raise 0x6007 (e + result * 16) (dsgCnt 15 1 (qStatus e 3 result false 0 d))

/-- Entry `e` is queued (R266): mirrored where dual = 1 (R270). -/
def qPut (e : Nat) (d : Dev) : Dev :=
  let d1 := qStatus e 1 0 false 0 d
  doIf (qCtl d e 14 1 == 1) (journalAdd (.launch e (qLen d e) (rd d (bank DSG_Q_CTL e)) (qTgt d e) (qFrame d e))) d1

/-- Entry `e` is the next to launch: Queued, and no Queued entry has an earlier target, or the same with a lower number
(R266). -/
def qFirst (d : Dev) (e : Nat) : Bool :=
  qState d e == 1 && (List.range 16).all (fun k => qState d k != 1 ||
    (let df := nearDiff (qTgt d k) (qTgt d e); decide (0 < df) || (decide (df = 0) && decide (e ≤ k))))

/-- The late tolerance in units of 2^-16 ns. -/
def lateTol (d : Dev) : Int := fld d DSG_LATE_TOL_ns * 65536

/-- The first symbol edge at or after time `t` (R257): on the grid of 40 ns while the clock follows it. -/
def symEdge (d : Dev) (t : Nat) : Nat := if flag d DSG_STATUS_locked then ceilDiv t 2621440 * 2621440 else t

/-- Entry `e` starts `delay` units from now (R267, R268): t_tx inserted, late or on time. -/
def qStart (e delay : Nat) (echo : Option Int) (d : Dev) : Dev :=
  let byStep := d.dsg.byStep.contains e
  let start := symEdge d (now16 d + delay) % 2 ^ 64
  let late := nearDiff start (qTgt d e)
  let isLate := !byStep && decide (lateTol d < late)
  if isLate && qCtl d e 13 1 == 1 then qDrop e 3 d
  else
    let t := (start + pointAfter) % 2 ^ 64
    let fmt := qCtl d e 0 2
    let bs := overlayBytes (qFrame d e) (qCtl d e 2 11) (tsField d fmt t)
    let ns := (late / 65536).toNat
    let d1 := dsgEcho echo (dsgWire bs (wr64 (bank DSG_Q_TX_LO e) t (qStatus e 3 (if isLate then 2 else 1) byStep ns d)))
    let d2 := modDsg (fun x => { x with byStep := x.byStep.filter (fun k => k != e) }) d1
    doIf isLate (fun x => raise 0x6006 (e + satU 24 ns * 256) (dsgCnt 14 1 x)) d2

/-- An entry Free again (R267). -/
def qFree (e : Nat) (d : Dev) : Dev :=
  wrN (bank DSG_Q_STATUS e) 0 (modDsg (fun x => { x with data := cput (fun _ => []) x.data e [] }) d)

/-- Queued entries that a forward step made due are marked (R267). -/
def qStepped (before : Nat) (d : Dev) : Dev :=
  modDsg (fun x => { x with byStep := (List.range 16).filter (fun e =>
    qState d e == 1 && due (qTgt d e) (near d) && (x.byStep.contains e || !(due (qTgt d e) before))) }) d

/-! ### The Low water sender (R273) -/

/-- The 256 bytes of DSG_LW_TPL. -/
def tplBytes (d : Dev) : List Byte := (List.range 64).flatMap (fun w => leBytes 4 (rdN d (DSG_LW_TPL w)))

/-- Offset and length of template `k`: 0 Sync, 1 Follow_Up, 2 Announce, one after another on 4-byte bounds, each an Ethernet
header and a PTP message whose length is in it (log entry 22). -/
def tplAt (b : List Byte) : Nat → Nat × Nat
  | 0 => (0, 14 + beAt b 16 2)
  | k + 1 => let p := tplAt b k; let o := (p.1 + p.2 + 3) / 4 * 4; (o, 14 + beAt b (o + 16) 2)

/-- Template `k`; none where firmware loaded none. -/
def tpl (d : Dev) (k : Nat) : Option (List Byte) :=
  let b := tplBytes d
  let p := tplAt b k
  if 48 ≤ p.2 ∧ p.1 + p.2 ≤ 256 then some (sliceOf b p.1 p.2) else none

/-- The Low water bound in ps (R273). -/
def lowBound (d : Dev) : Nat :=
  let t := (now16 d - d.bnd.t0) / ms16
  rd64 d BND_HOLD_BASE_LO + ceilDiv (rdN d BND_HOLD_A1 * t) (10 ^ 6) + ceilDiv (rdN d BND_HOLD_A2 * t * t) (2 * 10 ^ 12) +
    dsgPath d false + 40000

/-- A sequenceId written into a template message. -/
def withSeq (bs : List Byte) (q : Nat) : List Byte := overlayBytes bs 44 (beBytes 2 q)

/-- The template sender may run: PD_TB off, the link kept, templates loaded. -/
def lwSends (d : Dev) : Bool := !(domOn d .tb) && dsgSends d && flag d DSG_CFG_lw_keep && flag d DSG_CFG_gptp_en

/-- Follow_Up of the template sender: the last Sync's t_tx, and in a bound TLV the Low water bound with the Holdover flag. -/
def lwFollow (bs : List Byte) (t : Nat) (d : Dev) : List Byte :=
  let v := fullTime d t
  let m := overlayBytes (overlayBytes (withSeq bs ((d.dsg.lwSync + 65535) % 65536)) 48 (ptpStamp v)) 22 (beBytes 8 (fracOf v))
  if bs.length < 14 + 44 + 58 then m
  else
    let o := 14 + 44 + 10
    overlayBytes (overlayBytes m (o + 1) (beBytes 1 (beAt m (o + 1) 1 ||| 1))) (o + 4) (beBytes 8 (satU 48 (lowBound d)))

/-- The sender's activity changes: event 0x600A. -/
def lwActive (on : Bool) (d : Dev) : Dev :=
  if flag d DSG_STATUS_lw_tx == on then d else raise 0x600A (b2n on) (setB DSG_STATUS_lw_tx on d)

/-- One message of the template sender, `delay` units from now. -/
def lwSend (k delay : Nat) (d : Dev) : Dev :=
  match tpl d k with
  | none => d
  | some bs =>
    let d1 := lwActive true d
    match k with
    | 0 =>
      let t := (symEdge d1 (now16 d1 + delay) + pointAfter) % 2 ^ 64
      dsgWire (withSeq bs d1.dsg.lwSync) (modDsg (fun x => { x with lwSync := (x.lwSync + 1) % 65536, lwTx := some t }) d1)
    | 1 => match d1.dsg.lwTx with | some t => dsgWire (lwFollow bs t d1) d1 | none => d1
    | _ =>
      let cls := if lowBound d1 ≤ rd64 d1 DSG_LW_LIMIT_LO % 2 ^ 48 then fld d1 DSG_LW_CLASS_in else fld d1 DSG_LW_CLASS_out
      dsgWire (overlayBytes (withSeq bs d1.dsg.lwAnn) 62 (beBytes 1 cls)) (modDsg (fun x => { x with lwAnn := (x.lwAnn + 1) % 65536 }) d1)

/-- A Pdelay answer of the hardware responder (R273): the message of `type` with a timestamp. -/
def lwPdelay (f : RxDesc) (type t : Nat) (d : Dev) : List Byte :=
  let e := ethOf f.bytes
  let msg := f.bytes.drop e.off
  let v := fullTime d t
  let h : PtpHdr := { gptp := true, type := type, domain := beAt msg 4 1, unicast := false, twoStep := type == 3, corr := (fracOf v : Int),
                      port := 8, sub := 0, seq := beAt msg 30 2, logInt := 0x7F }
  ethHdr (macBE 0x0180C200000E) (ownMac d 8 0) 0x88F7 ++ (ptpMessage h (ptpStamp v ++ sliceOf msg 20 10) false none d).1

end Sys2Proof.Machine
end

