-- ==== Sys2Proof/Machine/Dsg.lean ====
section
/-! DEFINITION. The commands of DSG (spec/11_drive_segment.md). -/

namespace Sys2Proof.Machine

open Sys2Proof

/-- The drive segment works: PD_AON is on (R256). -/
def dsgAlive (d : Dev) : Bool := d.pwr.powered

/-- A cause in DSG_STATUS. -/
def dsgCause (c : Nat) (d : Dev) : Dev := setF DSG_STATUS_cause c d

/-- A write of DSG_CFG (R259): refused with cause 1; else it takes effect at the end of the cycle in progress, or at once. With
unit 0x20 out of service the link stays Off (R405). -/
def dsgModeF (v : Word) (d : Dev) : Dev :=
  match rowOf DSG_CFG with
  | none => d
  | some row =>
    let w := codeWrite row (windowOpen d) (rd d DSG_CFG) v
    if !(dsgCfgOk w) then dsgCause 1 d
    else if unitOut d 0x20 then dsgCause 0 (wr DSG_CFG w d)
    else if d.dsg.cycle then dsgCause 0 (modDsg (fun x => { x with next := some w }) d)
    else dsgCause 0 (dsgApply w d)

/-- DSG_MODE_WRITE (R259). -/
def execDsgModeWrite (r : Req) (d : Word) (s : State) : Host.Outcome State Fault Refusal := s.upd (guardWrite r DSG_CFG (dsgModeF d))

/-- The grid instants between two times, the later one not counted (R261): in units of 2^-16 ns from the epoch; a period divides
the second, so instants of the second are instants of the timescale. -/
def gridBetween (per a b : Nat) : Nat := b / (per * 5242880) - a / (per * 5242880) - 1

/-- With bcn_lock, a grid instant has come at or after the end of the last cycle (R261). With PD_TB off the low-power counter does not
resolve the grid, and the command is taken at its word. -/
def gridReached (d : Dev) (per : Nat) : Bool :=
  match d.dsg.cycleEnd with
  | some e => !(flag d DSG_CFG_bcn_lock) || !(domOn d .tb) || decide (e ≤ now16 d / (per * 5242880) * (per * 5242880)) || decide (now16 d < e)
  | none => true

/-- The coordinator starts a beacon (R260 to R262): only in mode 1, with no cycle in progress. The ledger starts with node_count
opportunities; the grid instants that passed are counted. -/
def beaconStart (d : Dev) : Dev :=
  let per := atLeast1 (fld d DSG_BCN_PERIOD_period)
  if !(dsgAlive d) || dsgMode d ≠ 1 || dsgLink d == 0 || unitOut d 0x20 || d.dsg.cycle || !(gridReached d per) then d
  else
    let n := match d.dsg.beaconAt with
      | some b => if flag d DSG_CFG_bcn_lock then gridBetween per ((now16 d : Int) + nearDiff b (near d)).toNat (now16 d) else 0
      | none => 0
    let d1 := dsgCnt 17 1 (modDsg (fun x => { x with cycle := true, beaconAt := some (near d) }) d)
    let d2 := doIf (decide (0 < n)) (dsgCnt 18 n) d1
    dsgCoord (wrN DSG_TO_LEDGER (fld d2 DSG_CFG_node_count) (dsgLinkTo 2 d2))

/-- DSG_BEACON_START (R261). -/
def execDsgBeaconStart (s : State) : Host.Outcome State Fault Refusal := s.upd beaconStart

/-- A follower receives a beacon (R260, R261): it ends the cycle in progress and begins the next, unless a DSG_CFG that waited takes
effect (R259). -/
def beaconReceived (code cyc : Nat) (d : Dev) : Dev :=
  if !(dsgAlive d) || dsgMode d ≠ 2 || dsgLink d == 0 || unitOut d 0x20 then d
  else
    let d1 := cycleEnds (wr64 DSG_BCN_RX_LO (dsgRx d (dsgStamp d code cyc)) d)
    doIf (d.dsg.next.isNone) (fun x => dsgLinkTo 2 (modDsg (fun y => { y with cycle := true }) x)) d1

/-- DSG_BEACON_RECEIVED (R260). -/
def execDsgBeaconReceived (code cyc : Nat) (s : State) : Host.Outcome State Fault Refusal := s.upd (beaconReceived code cyc)

/-- A transmit opportunity passes (R262): from remaining to own, other or silent; the last one ends the cycle. -/
def opportunity (k : ToKind) (d : Dev) : Dev :=
  let left := fld d DSG_TO_LEDGER_remaining
  if !(d.dsg.cycle) || left = 0 then d
  else
    let f := match k with | .own => DSG_TO_LEDGER_own | .other => DSG_TO_LEDGER_other | .silent => DSG_TO_LEDGER_silent
    let d1 := wrapAdd f 1 (setF DSG_TO_LEDGER_remaining (left - 1) d)
    doIf (left == 1) cycleEnds d1

/-- DSG_TRANSMIT_OPPORTUNITY (R262). -/
def execDsgTransmitOpportunity (k : ToKind) (s : State) : Host.Outcome State Fault Refusal := s.upd (live (opportunity k))

/-- PLCA_FALLBACK_TIMEOUT (R260): a follower in PLCA goes to CSMA. -/
def execPlcaFallbackTimeout (s : State) : Host.Outcome State Fault Refusal :=
  s.upd (fun d => doIf (dsgAlive d && dsgMode d == 2 && dsgLink d == 2) (fun x => dsgLinkTo 3 (dsgCnt 19 1 x)) d)

/-- CSMA_SILENCE (R260): mode 3 leaves Silent for CSMA. -/
def execCsmaSilence (s : State) : Host.Outcome State Fault Refusal :=
  s.upd (fun d => doIf (dsgAlive d && dsgMode d == 3 && dsgLink d == 1) (dsgLinkTo 3) d)

/-- The symbol clock follows PD_TB at a symbol boundary (R257), and is realigned (R258). -/
def clockSource (d : Dev) : Dev :=
  let low := !(domOn d .tb)
  if !(dsgAlive d) || flag d DSG_STATUS_lw_src == low then d
  else dsgLocked (setF DSG_STATUS_realigning 1 (setB DSG_STATUS_lw_src low d))

/-- DSG_CLOCK_SOURCE_CHANGE (R257). -/
def execDsgClockSourceChange (s : State) : Host.Outcome State Fault Refusal := s.upd clockSource

/-- DSG_REALIGN_DONE (R258): the correction waits while |F| is 50 ppm or more. -/
def execDsgRealignDone (s : State) : Host.Outcome State Fault Refusal :=
  s.upd (live (fun d => doIf (flag d DSG_STATUS_realigning && (!(domOn d .tb) || dsgFollows d))
    (fun x => raise 0x6009 0 (dsgLocked (setF DSG_STATUS_realigning 0 x))) d))

/-- What the segment's receiver accepts (R263). -/
def dsgRxCfg (d : Dev) : RxCfg :=
  { mac := ownMac d 8 0, bcast := flag d DSG_RX_CTL_accept_bcast, l2 := flag d DSG_RX_CTL_ptp_l2, v4 := false, v6 := false
    vlanEn := flag d DSG_RX_CTL_vlan_en, untagged := flag d DSG_RX_CTL_untagged_ok, vlans := [], groups := [], mcast := []
    max := 1522, avail := if domOn d .pkt then min (fld d DSG_BUF_QUOTA_buffers - rdN d DSG_BUF_RX) (poolFree d) else 65536
    dsType := some (fld d DSG_DS_ETYPE_etype) }

/-- The duplicate key of a frame (R271): identity, message type and sequence number. The spec does not say where a drive-sync
frame has its type and number: they are free values (log entry 23). -/
def dsgKey (d : Dev) (bs : List Byte) : Option (List Byte × Nat × Nat) × Dev :=
  let e := ethOf bs
  let msg := bs.drop e.off
  if e.etype = 0x88F7 then (some (sliceOf msg 20 10, beAt msg 0 1 % 16, beAt msg 30 2), d)
  else if e.etype = fld d DSG_DS_ETYPE_etype then
    (some (sliceOf bs (fld d DSG_DS_SRC_OFS_ofs) 8, Config.freeNat d.ctr % 16, Config.freeNat (d.ctr + 1) % 65536), { d with ctr := d.ctr + 2 })
  else (none, d)

/-- The duplicate discard of a received frame (R271): true where it passes. -/
def dsgDup (bs : List Byte) (d : Dev) : Bool × Dev :=
  if !(flag d DSG_CFG_dup_en) then (true, d)
  else
    let k := dsgKey d bs
    match k.1 with
    | none => (true, k.2)
    | some (id, type, q) =>
      let r := dupCheck 32 k.2.dsg.keys id type q
      let d1 := modDsg (fun x => { x with keys := r.2.2 }) k.2
      let d2 := doIf r.2.1 (dsgCnt 12 1) d1
      if r.1 then (true, d2) else (false, dsgCnt 11 1 d2)

/-- A Pdelay_Req: EtherType 0x88F7 and message type 2. -/
def isPdelayReq (bs : List Byte) : Bool :=
  let e := ethOf bs
  e.etype == 0x88F7 && beAt bs e.off 1 % 16 == 2

/-- A frame that passed the tests of R263, past the duplicate discard of R271: to SVC, or to the Low water responder. -/
def dsgAccept (toLow : Bool) (x : RxPart) (d : Dev) : Dev :=
  let f : RxDesc := { port := 8, sub := 0, bytes := x.bytes, tRx := x.tRx, calSeq := x.calSeq, steps := x.steps, bufs := x.held }
  let r := dsgDup x.bytes (dsgCnt 2 x.bytes.length d)
  if !r.1 then bufMove DSG_BUF_RX SVC_BUF_FREE x.held r.2
  else if toLow then modDsg (fun y => { y with pd := y.pd ++ [f] }) r.2
  else svcAccept f (bufMove DSG_BUF_RX SVC_BUF_PIPE x.held r.2)

/-- What the bytes of a frame give on the segment (R263). -/
def dsgTake (o : RxObs) (d : Dev) : Option (Nat × RxPart) × Dev :=
  rxTake 8 0 (dsgRxCfg d) (domOn d .pkt) (dsgRx d (dsgStamp d o.code o.ui), rdN d MEAS_CAL_SEQ, stepMod d) o d

/-- The segment receives (R260, R405). -/
def dsgHears (d : Dev) : Bool := dsgAlive d && dsgLink d != 0 && !(unitOut d 0x20)

/-- The frame is an accepted drive-sync frame addressed to DSG_RX_MAC (R464). -/
def dsgWakes (o : RxObs) (d : Dev) : Bool :=
  dsgHears d &&
    match (dsgTake o d).1 with
    | some (out, x) => decide (out = 1) && decide ((ethOf x.bytes).etype = fld d DSG_DS_ETYPE_etype) && (ethOf x.bytes).da == ownMac d 8 0
    | none => false

/-- Bytes of a frame on the segment (R263, R264, R271): counted with its outcome once that is decided; with PD_PKT off an accepted frame
counts in rx_no_buffer, but for a Pdelay_Req. -/
def dsgReceive (o : RxObs) (d : Dev) : Dev :=
  if !(dsgHears d) then d
  else
    let pkt := domOn d .pkt
    let r := dsgTake o d
    match r.1 with
    | none => r.2
    | some (out, x) =>
      let toLow := !pkt && isPdelayReq x.bytes
      let fin := if out = 1 ∧ !pkt ∧ !toLow then 9 else out
      doIf (decide (fin = 1)) (dsgAccept toLow x) (rxCount 8 0 fin r.2)

/-- DSG_CAL_PERIOD has passed since the running period began (R265); a period of 0 is 1. -/
def echoDue (d : Dev) : Bool :=
  decide (d.dsg.echoFrom + atLeast1 (fld d DSG_CAL_PERIOD_s) * sec16 ≤ now16 d) || decide (now16 d < d.dsg.echoFrom)

/-- The end of a calibration period (R265). -/
def echoPeriod (d : Dev) : Dev :=
  let n := d.dsg.echoN
  let d1 := modDsg (fun x => { x with echoFrom := now16 d, echoN := 0, echoSum := 0 }) d
  if !(dsgAlive d) || !(echoDue d) then d
  else if !(domOn d .tb) || n < 8 then d1
  else
    let tx0 := sx 32 (resetOf DSG_LAT_TX).toNat
    let r0 := tx0 + sx 32 (resetOf DSG_LAT_RX).toNat
    let r := roundDiv d.dsg.echoSum n
    let d2 := wrN DSG_ECHO_MEAN (wrapN 32 r) d1
    if 131072 < (r - r0).natAbs then raise 0x6005 (wrapN 32 (satS 32 (r - r0))) (setF DSG_STATUS_calibrated 0 d2)
    else
      let tx := tx0 + roundDiv (fld d2 DSG_SPLIT_sigma * (r - r0)) 65536
      let seq := (rdN d2 DSG_CAL_SEQ + 1) % 2 ^ 32
      let d3 := wrN DSG_CAL_SEQ seq (wrN DSG_LAT_RX (wrapN 32 (r - tx)) (wrN DSG_LAT_TX (wrapN 32 tx) d2))
      raise3 0x6004 seq seq n (rdN d3 MEAS_CAL_SEQ)
        (setF DSG_STATUS_calibrated 1 (modDsg (fun x => { x with calAt := some (now16 d3) }) d3))

/-- DSG_ECHO_CAL_PERIOD (R265). -/
def execDsgEchoCalPeriod (s : State) : Host.Outcome State Fault Refusal := s.upd (live echoPeriod)

/-- A write of DSG_Q_TGT_HI (R266): refused with cause 3 for an entry that is not Free and with cause 4 for an insertion beyond the
length (R268); else the entry is queued. -/
def queueEntry (r : Req) (hi : Word) (d : Dev) : Dev :=
  let e := fld d DSG_Q_SEL_entry
  let fmt := qCtl d e 0 2
  if qState d e ≠ 0 then dsgCause 3 d
  else
    let d1 := commit64 r (bank DSG_Q_TGT_HI e) hi d
    if fmt ≠ 0 ∧ qLen d e < qCtl d e 2 11 + tsLen fmt then dsgCause 4 d1
    else dsgCause 0 (qPut e d1)

/-- DSG_QUEUE_ENTRY (R266). -/
def execDsgQueueEntry (r : Req) (hi : Word) (s : State) : Host.Outcome State Fault Refusal :=
  s.upd (guardWrite r DSG_Q_TGT_HI (queueEntry r hi))

/-- The next entry of the queue is due and the node may transmit, `delay` units from now (R266, R267). -/
def entryDue (e : Nat) (delay collisions : Nat) (parity : Bool) (echo : Option Int) (d : Dev) : Dev :=
  if !(dsgAlive d) || !(qFirst d e) || !(due (qTgt d e) (near d)) || !(dsgSends d) then d
  else if parity then reportUnit 0x3C 0x01 .corrected 0x6007 (e + 80) (qDrop e 5 d)
  else if dsgLink d = 3 ∧ 16 ≤ collisions then qDrop e 4 (dsgCnt 16 16 d)
  else qStart e delay echo (doIf (dsgLink d == 3 && decide (0 < collisions)) (dsgCnt 16 collisions) d)

/-- DSG_ENTRY_DUE (R267). -/
def execDsgEntryDue (e : Fin 16) (delay collisions : Nat) (parity : Bool) (echo : Option Int) (s : State) :
    Host.Outcome State Fault Refusal := s.upd (entryDue e.val delay collisions parity echo)

/-- An entry with drop_late that has not started by target + DSG_LATE_TOL (R267). -/
def lateDrop (e : Nat) (d : Dev) : Dev :=
  doIf (dsgAlive d && qState d e == 1 && qCtl d e 13 1 == 1 && !(d.dsg.byStep.contains e) &&
    due ((qTgt d e + (lateTol d).toNat) % 2 ^ 64) (near d)) (qDrop e 3) d

/-- DSG_LATE_DROP (R267). -/
def execDsgLateDrop (e : Fin 16) (s : State) : Host.Outcome State Fault Refusal := s.upd (lateDrop e.val)

/-- A read of DSG_Q_STATUS (R267): in Done it frees the entry; with observation rights it clears nothing (R64). -/
def qStatusRead (r : Req) (d : Dev) : Dev :=
  let e := fld d DSG_Q_SEL_entry
  let d1 := { d with resp := [rd d (bank DSG_Q_STATUS e)] }
  doIf (qState d e == 3 && fullRights d r) (qFree e) d1

/-- DSG_Q_STATUS_READ (R267). -/
def execDsgQStatusRead (r : Req) (s : State) : Host.Outcome State Fault Refusal := s.upd (guardRead r DSG_Q_STATUS (qStatusRead r))

/-- DSG_LW_TEMPLATE_SEND (R273). -/
def execDsgLwTemplateSend (k : Fin 3) (delay : Nat) (s : State) : Host.Outcome State Fault Refusal :=
  s.upd (fun d => doIf (dsgAlive d && lwSends d) (lwSend k.val delay) d)

/-- The hardware responder answers its oldest Pdelay_Req (R273): Pdelay_Resp, and its Follow_Up with the time at which
the response left. -/
def pdelayResponse (delay : Nat) (d : Dev) : Dev :=
  match d.dsg.pd with
  | [] => d
  | f :: fs =>
    if !(dsgAlive d) || !(dsgSends d) then d
    else
      let t3 := (near d + delay + pointAfter) % 2 ^ 64
      let d1 := dsgWire (lwPdelay f 3 f.tRx d) (modDsg (fun x => { x with pd := fs }) d)
      dsgWire (lwPdelay f 0xA t3 d1) d1

/-- DSG_PDELAY_RESPONSE (R273). -/
def execDsgPdelayResponse (delay : Nat) (s : State) : Host.Outcome State Fault Refusal := s.upd (live (pdelayResponse delay))

/-- DSG_SIGNAL_LOSS (R260): the link returns to Silent for PHY training. -/
def execDsgSignalLoss (s : State) : Host.Outcome State Fault Refusal :=
  s.upd (fun d => doIf (dsgAlive d && decide (2 ≤ dsgLink d))
    (fun x => dsgLinkTo 1 (modDsg (fun y => { y with beaconAt := none }) (endCycle x))) d)

end Sys2Proof.Machine
end

