-- ==== Sys2Proof/Machine/Evq.lean ====
section
/-! DEFINITION. The meanings of the EVQ commands of spec/16_events_interrupts.md. -/

namespace Sys2Proof.Machine

open Sys2Proof

/-- An event raised from a source of its own block (R390, R492): pending, and offered to the recorder (R423). -/
def eventRaiseF (src code param : Nat) (d : Dev) : Dev :=
  if d.pwr.powered && sourceExists src && decide (code / 1024 = src / 128) && decide (code % 1024 ≠ 0) then
    note (evRec code param (Config.freeNat d.ctr) (Config.freeNat (d.ctr + 1)) (now16 d))
      { setPending src code param d with ctr := d.ctr + 2 }
  else d

/-- EVENT_RAISE (R390). -/
def execEventRaise (src : BitVec 12) (code : BitVec 16) (param : Word) (s : State) : Host.Outcome State Fault Refusal :=
  s.upd (eventRaiseF src.toNat code.toNat param.toNat)

/-- One cycle's delivery to target `t` (R391): its ready source with the lowest ID. -/
def recordDeliveryF (t : Nat) (d : Dev) : Dev :=
  if deliveryOn d then
    match d.evq.pend.find? (fun e => srcReady d e.src && routeOf d e.src == t) with
    | some e => deliver t e d
    | none => d
  else d

/-- RECORD_DELIVERY (R391). -/
def execRecordDelivery (t : Fin 7) (s : State) : Host.Outcome State Fault Refusal := s.upd (live (recordDeliveryF t.val))

/-- A write of EVQ_TGT_RD (R394): accepted within the unread range, else cause 0x01. -/
def tgtRdWriteF (t v : Nat) (d : Dev) : Dev :=
  let new := v % 2048
  if (new + 2048 - fld d (EVQ_TGT_RD_index t)) % 2048 ≤ unread d t then setF EVQ_RESULT_cause 0 (moveRead t new d)
  else setF EVQ_RESULT_cause 0x01 d

/-- EVQ_TGT_RD_WRITE (R394). -/
def execEvqTgtRdWrite (r : Req) (t : Fin 7) (d : Word) (s : State) : Host.Outcome State Fault Refusal :=
  s.upd (guardWrite r (EVQ_TGT_RD t.val) (tgtRdWriteF t.val d.toNat))

/-- A read of EVQ_TGT_REC0 (R394, R401): the selected record is latched for the requester; a record with bad parity reads as
zeros and is counted once. -/
def recordReadF (r : Req) (t : Nat) (d : Dev) : Dev :=
  let pos := fld d (EVQ_TGT_REC_SEL_index t)
  let ws := ringRead d t pos
  let d1 := doIf (ringBad d t pos) (ringParity t pos) d
  let d2 := setLatch (EVQ_TGT_REC t 3) r (ws.getD 3 0) (setLatch (EVQ_TGT_REC t 2) r (ws.getD 2 0)
    (setLatch (EVQ_TGT_REC t 1) r (ws.getD 1 0) d1))
  { d2 with resp := [ws.getD 0 0] }

/-- EVQ_RECORD_READ (R394). -/
def execEvqRecordRead (r : Req) (t : Fin 7) (s : State) : Host.Outcome State Fault Refusal :=
  s.upd (guardRead r (EVQ_TGT_REC t.val 0) (recordReadF r t.val))

/-- A running moderation timer expires once EVQ_TGT_CTL.mod µs have passed (R396): a non-empty ring notifies its target. -/
def moderationExpiryF (t : Nat) (d : Dev) : Dev :=
  let expired := d.evq.timers.any (fun x => x.1 == t && decide (x.2 ≤ now16 d))
  if domOn d .ctl && expired then
    doIf (unread d t != 0) (notifyTarget t) { d with evq := { d.evq with timers := d.evq.timers.filter (fun x => x.1 != t) } }
  else d

/-- MODERATION_EXPIRY (R396). -/
def execModerationExpiry (t : Fin 7) (s : State) : Host.Outcome State Fault Refusal := s.upd (moderationExpiryF t.val)

/-- One source's target set (R399): code 7 is refused with cause 0x03 while the source is active. -/
def retarget (src t : Nat) (d : Dev) : Dev :=
  if t = 7 ∧ srcActive d src then setF EVQ_RESULT_cause 0x03 d else setSrcTarget src t d

/-- A write of EVQ_RETARGET (R399): cause 0x02 for a source that is not in use. -/
def retargetWriteF (v : Word) (d : Dev) : Dev :=
  let src := bitsOf v 0 12
  if sourceExists src then retarget src (bitsOf v 12 3) (setF EVQ_RESULT_cause 0 d) else setF EVQ_RESULT_cause 0x02 d

/-- EVQ_RETARGET_WRITE (R399). -/
def execEvqRetargetWrite (r : Req) (d : Word) (s : State) : Host.Outcome State Fault Refusal :=
  s.upd (guardWrite r EVQ_RETARGET (retargetWriteF d))

/-- A write of EVQ_SRC_TGT (R399): eight targets, each checked on its own; the bits of sources that no block uses are ignored
(R388). -/
def srcTgtWriteF (v : Nat) (w : Word) (d : Dev) : Dev :=
  forEach (List.range 8) (fun i x => doIf (sourceExists (8 * v + i)) (retarget (8 * v + i) (bitsOf w (4 * i) 3)) x)
    (setF EVQ_RESULT_cause 0 d)

/-- EVQ_SRC_TGT_WRITE (R399). -/
def execEvqSrcTgtWrite (r : Req) (v : Fin 512) (d : Word) (s : State) : Host.Outcome State Fault Refusal :=
  s.upd (guardWrite r (EVQ_SRC_TGT v.val) (srcTgtWriteF v.val d))

/-- A core has been Halted or Fenced for EVQ_RETARGET_TO ms without a break (R399). -/
def coreUnavailable (d : Dev) (c : Nat) : Bool :=
  coreDown (coreState d c) && elapsed (core d c).downAt (atLeast1 (fld d EVQ_RETARGET_TO_ms) * 65536000000) d

/-- A core unavailable for EVQ_RETARGET_TO ms (R399): its records are re-routed to TGT_PF0 from now on, event 0x1402. -/
def retargetTimeoutF (c : Nat) (d : Dev) : Dev :=
  if domOn d .ctl && coreUnavailable d c && bitsOf (rd d EVQ_STATUS) (15 + c) 1 == 0 then
    raise 0x1402 c (setF ⟨EVQ_STATUS, 15 + c, 1⟩ 1 d)
  else d

/-- RETARGET_TIMEOUT (R399). -/
def execRetargetTimeout (c : Fin 4) (s : State) : Host.Outcome State Fault Refusal := s.upd (retargetTimeoutF c.val)

/-- EVQ_HOLD_WRITE (R400). -/
def execEvqHoldWrite (r : Req) (d : Word) (s : State) : Host.Outcome State Fault Refusal :=
  s.upd (guardWrite r EVQ_HOLD (setF EVQ_HOLD_hold (bitsOf d 0 1)))

/-- The first access that finds the parity of the record at position `pos` of ring `t` bad (R401); its first word is taken as
the failing one. -/
def recordParityF (t pos : Nat) (d : Dev) : Dev :=
  if domOn d .ctl then
    ringParity t pos { d with badWords := if ringBad d t pos then d.badWords else d.badWords ++ [ringAddr t pos / 4] }
  else d

/-- EVQ_RECORD_PARITY (R401). -/
def execEvqRecordParity (t : Fin 7) (pos : Fin 1024) (s : State) : Host.Outcome State Fault Refusal :=
  s.upd (recordParityF t.val pos.val)

end Sys2Proof.Machine
end

