-- ==== Sys2Proof/Machine/GnOps.lean ====
section
/-! DEFINITION. GN (spec/09_gnss_baseband.md): streams (R207 to R209), signals (R210), the snapshot buffer (R212 to R215), the
tracking channels (R218 to R222) and the measurement epoch (R223 to R225). -/

namespace Sys2Proof.Machine

open Sys2Proof

/-- A channel's hidden state. -/
def gch (d : Dev) (c : Nat) : GCh := cget (fun _ => gchReset) d.gn.chs c

/-- `d` with a channel's hidden state replaced. -/
def setGch (c : Nat) (x : GCh) (d : Dev) : Dev := { d with gn := { d.gn with chs := cput (fun _ => gchReset) d.gn.chs c x } }

/-- GN_RESULT holds a cause and its block: 1 stream, 2 snapshot, 3 job, 4 channel, 5 feed. -/
def gnResult (cause blk : Nat) (d : Dev) : Dev := wrN GN_RESULT (cause + blk * 256) d

/-! ### Samples (R208) -/

/-- The value of one component: 2-bit sign and magnitude, of which only bits 1 and 0 count, or 4-bit two's complement. -/
def compVal (fmt : Bool) (v : Nat) : Int :=
  if fmt then sx 4 (v % 16)
  else
    let m : Int := if v % 2 = 1 then 3 else 1
    if v / 2 % 2 = 1 then -m else m

/-- The complex sample that the data pins code: I3 to I0 in bits [3:0], Q3 to Q0 in bits [7:4]. -/
def sampleVal (fmt : Bool) (pins : Byte) : Int × Int := (compVal fmt (pins.toNat % 16), compVal fmt (pins.toNat / 16))

/-- A large component (R209): magnitude bit 1 in the 2-bit format, |value| ≥ 4 in the 4-bit format. -/
def largeVal (fmt : Bool) (v : Int) : Bool := if fmt then decide (4 ≤ v.natAbs) else decide (v.natAbs = 3)

/-- The large components of a list of samples, I and Q together (R209). -/
def largeCount (fmt : Bool) (l : List Byte) : Nat :=
  l.foldl (fun n p => n + b2n (largeVal fmt (sampleVal fmt p).1) + b2n (largeVal fmt (sampleVal fmt p).2)) 0

/-- The two pins of each component that the 2-bit format uses: I in bits [1:0], Q in bits [3:2] (R212). -/
def nibbleOf (pins : Byte) : Nat := pins.toNat % 4 + pins.toNat / 16 % 4 * 4

/-- Samples packed into bytes (R212): one a byte in the 4-bit format; two a byte in the 2-bit format, the earlier in bits [3:0]. -/
def packSamples (fmt : Bool) : List Byte → List Byte
  | [] => []
  | [a] => if fmt then [a] else [BitVec.ofNat 8 (nibbleOf a)]
  | a :: b :: l => if fmt then a :: packSamples fmt (b :: l) else BitVec.ofNat 8 (nibbleOf a + nibbleOf b * 16) :: packSamples fmt l

/-- Sample `j` of packed bytes as the pins that coded it; the pins that the 2-bit format ignores read 0. -/
def packedPins (fmt : Bool) (byteAt : Nat → Byte) (j : Nat) : Byte :=
  if fmt then byteAt j
  else
    let n := (byteAt (j / 2)).toNat / 16 ^ (j % 2) % 16
    BitVec.ofNat 8 (n % 4 + n / 4 * 16)

/-! ### Streams -/

/-- A stream is enabled. -/
def gsOn (d : Dev) (n : Nat) : Bool := flag d (GN_STREAM_CFG_enable n)

/-- A stream is lost (R209). -/
def gsLost (d : Dev) (n : Nat) : Bool := flag d (GN_STREAM_CFG_lost n)

/-- Nominal rate of a stream. -/
def gsFs (d : Dev) (n : Nat) : Nat := fld d (GN_STREAM_FS_hz n)

/-- The rate lies in the stream's range (R207). -/
def fsOk (n hz : Nat) : Bool := decide ((if n % 2 = 0 then 8000000 else 20460000) ≤ hz) && decide (hz ≤ 128000000)

/-- GN_STATUS.up and running brought up to date. -/
def gnCount (d : Dev) : Dev :=
  let up := ((List.range 4).map (fun n => b2n (gsOn d n && !(gsLost d n)) * 2 ^ n)).foldl (· + ·) 0
  let run := ((List.range 192).filter (fun c => fld d (GN_CH_STATE_state c) == 2)).length
  setF GN_STATUS_running run (setF GN_STATUS_up up d)

/-- Epochs per second by GN_EPOCH_CTL.rate (R223): 0 off. -/
def gnRate (d : Dev) : Nat :=
  match fld d GN_EPOCH_CTL_rate with
  | 1 => 1
  | 2 => 5
  | 3 => 10
  | 4 => 20
  | 5 => 50
  | _ => 0

/-- GN posts the class 0 request of each enabled stream (R223), or withdraws it. The request of stream n is 32 + n (log
entry 11). -/
def gnRequests (d : Dev) : Dev :=
  let hz := gnRate d
  forEach (List.range 4) (fun n x =>
    if decide (hz ≠ 0) && gsOn x n then
      postReq (32 + n) 0x0D 1 0 0x68 (0x60 + n) 1 1 (sec16 / atLeast1 hz) (wr64 (bank MEAS_REQ_ANCHOR_LO (32 + n)) 0 x)
    else if reqState x (32 + n) = 0 then x
    else reqDisable (32 + n) x) d

/-! ### Signals (R210) -/

/-- Chips of a millisecond of a signal. -/
def msChips (sig : Nat) : Nat := if [0x3, 0x5, 0x7, 0xA].contains sig then 10230 else 1023

/-- Milliseconds of the primary period of a signal (M of R216). -/
def sigMs (sig : Nat) : Nat := if sig = 4 then 4 else if [0x2, 0x6, 0x9].contains sig then 10 else 1

/-- Chips of the primary period. -/
def sigChips (sig : Nat) : Nat := msChips sig * sigMs sig

/-- The PRN range of a signal. -/
def prnOk (sig prn : Nat) : Bool :=
  if sig ≤ 3 then decide (1 ≤ prn) && decide (prn ≤ 32)
  else if sig ≤ 5 then decide (1 ≤ prn) && decide (prn ≤ 36)
  else if sig ≤ 7 then decide (19 ≤ prn) && decide (prn ≤ 63)
  else decide (193 ≤ prn) && decide (prn ≤ 202)

/-- A signal code is supported, on a stream of its band, with a PRN in range. -/
def signalOk (stream sig prn : Nat) : Bool :=
  decide (1 ≤ sig) && decide (sig ≤ 10) && (decide (stream % 2 = 1) == ([0x3, 0x5, 0x7, 0xA].contains sig)) && prnOk sig prn

/-- Signals tracked as BOC(1,1) (R210, R211). -/
def isBoc (sig : Nat) : Bool := [0x2, 0x4, 0x6, 0x9].contains sig

/-- Signals with a data component beside the pilot (R210, R219). -/
def hasData (sig : Nat) : Bool := !([0x1, 0x8].contains sig)

/-- The replica (R211) at a code phase in units of 2^-48 chips: the chip of the primary code, with the square wave of BOC(1,1), whose
first half chip is positive. -/
def replica (sig prn comp : Nat) (phase : Int) : Int :=
  let per : Int := (sigChips sig * 2 ^ 48 : Nat)
  let t := (phase % per).toNat
  let neg := Config.primaryCode sig prn comp (t / 2 ^ 48)
  if (neg != (isBoc sig && decide (2 ^ 47 ≤ t % 2 ^ 48))) then -1 else 1

/-- A sample times the conjugate of the carrier at a phase in units of 2^-48 cycles, by the 64-level table (R218). -/
def wiped (x : Int × Int) (carr : Int) : Int × Int :=
  let w := Config.wipe (carr % 2 ^ 48 / 2 ^ 42).toNat
  (x.1 * w.1 + x.2 * w.2, x.2 * w.1 - x.1 * w.2)

/-- The correlation of samples with a replica (R216, R218): the code phase and the carrier of sample `j` are given. -/
def correlate (sig prn comp : Nat) (code carr : Nat → Int) (l : List (Int × Int)) : Int × Int :=
  (l.foldl (fun (a : Nat × Int × Int) x =>
    let w := wiped x (carr a.1)
    let r := replica sig prn comp (code a.1)
    (a.1 + 1, a.2.1 + w.1 * r, a.2.2 + w.2 * r)) (0, 0, 0)).2

/-! ### The snapshot buffer -/

/-- Physical base of the snapshot buffer (R366). -/
def snapBase : Nat := 0x30000000

/-- State of the buffer: 0 Free, 1 Armed, 2 Capturing, 3 Full, 4 Locked (R214). -/
def snapState (d : Dev) : Nat := fld d GN_STATUS_snap

/-- Bytes that a stream takes in a capture of `ms` milliseconds (R212). -/
def snapBytes (d : Dev) (n ms : Nat) : Nat :=
  if flag d (GN_STREAM_CFG_fmt n) then ceilDiv (gsFs d n * ms) 1000 else ceilDiv (gsFs d n * ms) 2000

/-- A length rounded up to 4 KiB. -/
def roundPage (n : Nat) : Nat := ceilDiv n 4096 * 4096

/-- The streams of a mask, in order. -/
def maskList (m : Nat) : List Nat := (List.range 4).filter (fun n => m / 2 ^ n % 2 == 1)

/-- Offset of a stream's region: the rounded regions of the streams before it (R212). -/
def snapOfs (d : Dev) (mask ms n : Nat) : Nat :=
  ((maskList mask).filter (fun k => decide (k < n))).foldl (fun acc k => acc + roundPage (snapBytes d k ms)) 0

/-- All of a capture's regions. -/
def snapTotal (d : Dev) (mask ms : Nat) : Nat := (maskList mask).foldl (fun acc k => acc + roundPage (snapBytes d k ms)) 0

/-- The bulk channels that hold target 0x4 (R214). -/
def snapClaims (d : Dev) : Nat :=
  ((List.range 8).filter (fun c => bulkOwner d c != 0 && fld d (HIF_BULK_SEL_target c) == 4 && !(d.hif.refused.contains c))).length

/-- The locks on the buffer and its state between Full and Locked brought up to date (R214). -/
def snapSettle (d : Dev) : Dev :=
  let st := snapState d
  if !(domOn d .gnss) then d
  else if st < 3 then setF GN_SNAP_STATUS_locks 0 d
  else
    let n := snapClaims d + d.gn.jobs.length
    setF GN_SNAP_STATUS_locks (min 15 n) (setF GN_STATUS_snap (if n = 0 then 3 else 4) d)

/-- The regions of a capture, with the format and rate of each of its streams (R212). -/
def snapRegions (mask ms : Nat) (d : Dev) : Dev :=
  let d1 := forEach (List.range 4) (fun n x =>
    let inc := (maskList mask).contains n
    setF (GN_SNAP_LEN_bytes n) (if inc then snapBytes d n ms else 0)
      (setF (GN_SNAP_OFS_bytes n) (if inc then snapOfs d mask ms n else 0) x)) d
  let fmts := (maskList mask).foldl (fun m n => m + b2n (flag d (GN_STREAM_CFG_fmt n)) * 2 ^ n) 0
  let fs := (List.range 4).foldl (fun m n => cput (fun _ => 0) m n (gsFs d n)) []
  { d1 with gn := { d1.gn with capFmt := fmts, capFs := fs } }

/-- Why a capture is refused (R212): 0x04 a stream that is not enabled, 0x02 more than the buffer or a length outside 1 to 20 ms. -/
def capCause (d : Dev) (mask ms : Nat) : Nat :=
  if mask = 0 ∨ (maskList mask).any (fun n => !(gsOn d n)) then 0x04
  else if ms = 0 ∨ 20 < ms ∨ 8388608 < snapTotal d mask ms then 0x02
  else 0x00

/-- The buffer armed for a capture of `ms` milliseconds of the streams of a mask (R213, R214). -/
def snapArm (mask ms trig : Nat) (d : Dev) : Dev :=
  setF GN_STATUS_snap 1 { d with gn := { d.gn with capMask := mask, capMs := ms, capTrig := trig, trigNow := false, capWait := [] } }

/-- The 4-bit format was in force in the capture. -/
def capFmt (d : Dev) (n : Nat) : Bool := d.gn.capFmt / 2 ^ n % 2 == 1

/-- The packed samples of each captured stream stored from its offset (R212). -/
def snapStore (pins : List (List Byte)) (d : Dev) : Dev :=
  forEach (maskList d.gn.capMask) (fun n x =>
    let len := fld x (GN_SNAP_LEN_bytes n)
    ((packSamples (capFmt d n) (pins.getD n [])).take len).foldl (fun (p : Nat × Dev) b => (p.1 + 1, setRamByte p.1 b p.2))
      (snapBase + fld x (GN_SNAP_OFS_bytes n), x) |>.2) d

/-- Half a sample period of a stream in units of 2^-16 ns (R224), rounded to nearest. -/
def halfSample (d : Dev) (n : Nat) : Int := roundDiv (65536 * 1000000000) (2 * atLeast1 (gsFs d n))

/-- The request of MEAS that stamps the first sample of stream `n` of a capture (log entry 11). -/
def capReq (n : Nat) : Nat := 90 + n

/-- The strobe of a capture at time `t` (R213, R231): Capturing, and one class 0 INTERVAL sample for each stream from the start source to
its first sample. -/
def snapStrobe (src t : Nat) (d : Dev) : Dev :=
  let l := maskList d.gn.capMask
  let d1 := setF ⟨GN_SNAP_STATUS, 0, 4⟩ 0 (setF GN_STATUS_snap 2 d)
  forEach l (fun n x => postReq (capReq n) 0x0D 1 0 src (0x60 + n) 1 1 0 (reqDisable (capReq n)
    (wr64 (bank MEAS_REQ_ANCHOR_LO (capReq n)) 0 x))) { d1 with gn := { d1.gn with capAt := t, capWait := l } }

/-- The near time of the first sample of a captured stream (R213, R231): the trigger's time plus the measured interval, or half a sample
period with the stream marked coarse. -/
def snapStamp (n : Nat) (v : Option Int) (d : Dev) : Dev :=
  if !(d.gn.capWait.contains n) then d
  else
    let d1 := { d with gn := { d.gn with capWait := d.gn.capWait.filter (fun k => k != n) } }
    setB ⟨GN_SNAP_STATUS, n, 1⟩ v.isNone (wr64 (GN_SNAP_T0_LO n) (wrapN 64 ((d.gn.capAt : Int) + v.getD (halfSample d n))) d1)

/-- The instant of `t` lies more than 200 µs back (R213, R224). -/
def latchLate (t : Nat) (d : Dev) : Bool := decide (t + 200 * us16 < now16 d)

/-- The capture discarded (R214): event 0x340B with bit 8. -/
def snapDiscard (d : Dev) : Dev := raise 0x340B 256 (setF GN_STATUS_snap 0 d)

/-! ### Channels -/

/-- A channel becomes Stalled (R222): event 0x340D. -/
def stallCh (c : Nat) (d : Dev) : Dev := raise 0x340D c (setF (GN_CH_STATE_state c) 3 d)

/-- Every armed or running channel on a stream becomes Stalled. -/
def stallStream (n : Nat) (d : Dev) : Dev :=
  forEach ((List.range 192).filter (fun c => fld d (GN_CH_CFG_stream c) == n && (fld d (GN_CH_STATE_state c) == 1 ||
    fld d (GN_CH_STATE_state c) == 2))) stallCh d

/-- A stream is lost (R209, R214): event 0x3401, its channels stall, a capture of it in progress is discarded. -/
def loseStream (n : Nat) (d : Dev) : Dev :=
  let d1 := gnCount (stallStream n (raise 0x3401 n (setF (GN_STREAM_CFG_lost n) 1 d)))
  let d2 := { d1 with gn := { d1.gn with good := cput (fun _ => 0) d1.gn.good n 0 } }
  doIf (snapState d2 == 2 && (maskList d2.gn.capMask).contains n) snapDiscard d2

/-- The deviation of the edges of a millisecond from the nominal rate in ppm, as a fraction (R209). -/
def streamDev (d : Dev) (n edges : Nat) : Int × Nat :=
  ((((edges * 1000 : Nat) : Int) - (gsFs d n : Nat)) * 1000000, atLeast1 (gsFs d n))

/-- The monitor of one stream at a 1 ms epoch (R209): its edges counted against the nominal rate, and the share of large samples. The
sample index advances by the edges. The rounding of both shown values is log entry 152. -/
def monitorStream (n : Nat) (pins : List Byte) (d : Dev) : Dev :=
  if !(gsOn d n) then d
  else
    let edges := pins.length
    let dev := streamDev d n edges
    let mag := largeCount (flag d (GN_STREAM_CFG_fmt n)) pins * 1024 / atLeast1 (2 * edges)
    let d0 := wr64 (GN_STREAM_IDX_LO n) ((rd64 d (GN_STREAM_IDX_LO n) + edges) % 2 ^ 64) d
    let d1 := setF (GN_STREAM_STAT_dev n) (wrapN 16 (satS 16 (roundDiv dev.1 dev.2))) (setF (GN_STREAM_STAT_mag n) (min mag 1023) d0)
    let bad := decide (edges = 0) || decide (1000 * dev.2 < dev.1.natAbs) || unitOut d 0x11
    if gsLost d n then
      let g := if bad then 0 else cget (fun _ => 0) d.gn.good n + 1
      let d2 := { d1 with gn := { d1.gn with good := cput (fun _ => 0) d1.gn.good n (if 10 ≤ g then 0 else g) } }
      if 10 ≤ g then gnCount (raise 0x3402 n (setF (GN_STREAM_CFG_lost n) 0 d2)) else d2
    else doIf bad (loseStream n) d1

/-- The sample index of a stream is at least `i`: a sample that a channel has taken has come (R222). -/
def idxReach (n i : Nat) (d : Dev) : Dev :=
  doIf (decide (0 < sx 64 (i + 2 ^ 64 - rd64 d (GN_STREAM_IDX_LO n)))) (wr64 (GN_STREAM_IDX_LO n) (i % 2 ^ 64)) d

/-- Signal of a channel. -/
def chSig (d : Dev) (c : Nat) : Nat := fld d (GN_CH_CFG_signal c)

/-- The code phase after `k` samples (R218): it wraps at the primary period of `p` chips, counting periods. -/
def advCode (code rho k p periods : Nat) : Nat × Nat :=
  let t := code + rho * k
  let per := atLeast1 p * 2 ^ 48
  (t % per, (periods + t / per) % 2 ^ 32)

/-- The 80-bit carrier accumulator. -/
def wrapCarr (x : Int) : Int := sx 80 (wrapN 80 x)

/-- The NCOs advanced by `k` samples at the rates in force (R218). -/
def advCh (p k : Nat) (x : GCh) : GCh :=
  if k = 0 then x
  else
    let a := advCode x.code x.rho k p x.periods
    { x with idx := (x.idx + k) % 2 ^ 64, code := a.1, periods := a.2, carr := wrapCarr (x.carr + x.om * k)
             rhoIn := x.rho, omIn := x.om }

/-- A channel starts at its start index with the values of its registers (R222). -/
def loadCh (c : Nat) (d : Dev) : GCh :=
  let rho := rd64 d (GN_CH_KRATE_LO c) % 2 ^ 48
  let om := sx 48 (rd64 d (GN_CH_CRATE_LO c))
  { gchReset with
      idx := rd64 d (GN_CH_START_LO c)
      code := rd64 d (GN_CH_KPH_LO c) % 2 ^ 62 % (atLeast1 (sigChips (chSig d c)) * 2 ^ 48)
      carr := wrapCarr (sx 64 (rd64 d (GN_CH_CPH_LO c)) * 2 ^ 16)
      rho := rho, om := om, rhoIn := rho, omIn := om, first := true, steps := d.tb.stepCount }

/-- GN_CH_CMD.start (R210, R222): refused with cause 0x06; else Armed while the start index lies ahead, or Running from it. -/
def startCh (c : Nat) (d : Dev) : Dev :=
  let n := fld d (GN_CH_CFG_stream c)
  if !(signalOk n (chSig d c) (fld d (GN_CH_CFG_prn c))) then gnResult 0x06 4 d
  else
    let x := loadCh c d
    let late := sx 64 (rd64 d (GN_STREAM_IDX_LO n) + 2 ^ 64 - x.idx)
    let d1 := gnResult 0x00 4 (setB (GN_CH_STATE_late c) (decide (0 < late)) d)
    if unitOut d 0x12 then stallCh c d1
    else if late < 0 then gnCount (setF (GN_CH_STATE_state c) 1 (setGch c x d1))
    else gnCount (setF (GN_CH_STATE_state c) 2 (setGch c (advCh (sigChips (chSig d c)) late.toNat x) d1))

/-- Samples until the code phase next crosses a whole millisecond of chips (R220); none at rate 0. -/
def toDump (sig : Nat) (x : GCh) : Option Nat :=
  if x.rho = 0 then none
  else
    let ms := msChips sig * 2 ^ 48
    some (ceilDiv ((x.code / ms + 1) * ms - x.code) x.rho)

/-- The commits that wait take effect for the next integration (R221). -/
def applyCommits (p : Nat) (x : GCh) : GCh :=
  let adj := x.newAdj.getD 0
  let per : Int := (atLeast1 p * 2 ^ 48 : Nat)
  let t : Int := (x.code : Int) + adj * 2 ^ 16
  { x with rho := x.newRho.getD x.rho, om := x.newOm.getD x.om, code := (t % per).toNat
           periods := wrapN 32 ((x.periods : Int) + t / per), newRho := none, newOm := none, newAdj := none
           changed := x.newRho.isSome || x.newOm.isSome || x.newAdj.isSome }

/-- floor(1,000 × log10(1,000 × a / b)), from 0 to 65,535: the largest k with 10^k × b^1000 ≤ (1,000 × a)^1000, bit by bit. -/
def log10Floor (a b : Nat) : Nat :=
  (List.range 16).foldr (fun j k => if 10 ^ (k + 2 ^ j) * b ^ 1000 ≤ (1000 * a) ^ 1000 then k + 2 ^ j else k) 0

/-- C/N0 over the last `win` dumps in units of 0.01 dB-Hz (R225): 10 log10((|P|² − |N|²) / (|N|² × 1 ms)), 0 when the numerator is not
positive. Its rounding is log entry 13. -/
def cn0Of (ps : List (Nat × Nat)) (win : Nat) : Nat :=
  let l := ps.take win
  let p := (l.map (fun x => x.1)).foldl (· + ·) 0
  let n := (l.map (fun x => x.2)).foldl (· + ·) 0
  if p ≤ n then 0
  else if n = 0 then min 65535 (Config.cn0NoNoise p)
  else min 65535 (log10Floor (p - n) n + b2n (Config.cn0Up (p - n) n))

/-- The offsets of the taps VE, E, P, L, VL, P2 and N from prompt in units of 1/64 chip, with the component of each (R219): el held to 1 to
32 and vel to el + 1 to 63 (log entry 152). -/
def tapList (d : Dev) (c : Nat) : List (Int × Nat) :=
  let el := max 1 (min 32 (fld d (GN_CH_SPC_el c)))
  let vel := max (el + 1) (min 63 (fld d (GN_CH_SPC_vel c)))
  [((vel : Nat), 0), ((el : Nat), 0), (0, 0), (-(el : Int), 0), (-(vel : Int), 0), (0, 1), (((fld d (GN_CH_SPC_nofs c) * 64 : Nat) : Int), 0)]

/-- I and Q of the seven taps over the samples of an integration that began in `x` (R218, R219): sample `j` meets code and carrier `j`
increments on. P2 is 0 for a signal without a data component. -/
def tapSums (d : Dev) (c : Nat) (x : GCh) (l : List (Int × Int)) : List Int :=
  let sig := chSig d c
  ((tapList d c).map (fun t =>
    if t.2 = 1 ∧ !(hasData sig) then [0, 0]
    else
      let s := correlate sig (fld d (GN_CH_CFG_prn c)) t.2 (fun j => (x.code : Int) + x.rho * j + t.1 * 2 ^ 42) (fun j => x.carr + x.om * j) l
      [s.1, s.2])).flatten

/-- The 16 words of a dump record (R220). -/
def dumpWords (c sig : Nat) (x : GCh) (step : Bool) (iq : List Int) : List Nat :=
  let ms := x.code / (msChips sig * 2 ^ 48)
  let fl := b2n x.first + b2n x.changed * 2 + b2n step * 4
  (c + x.seq % 256 * 2 ^ 16 + fl * 2 ^ 24) :: ((ms % 16 + x.periods % 2 ^ 28 * 16) ::
    (List.range 14).map (fun i => wrapN 32 (iq.getD i 0)))

/-- The dump ring of a channel is full (R220). -/
def ringFull (d : Dev) (r : Nat) : Bool :=
  decide (2 ^ fld d (GN_RING_SIZE_log2 r) ≤ (fld d (GN_RING_WR_index r) + 65536 - fld d (GN_RING_RD_index r)) % 65536)

/-- The words written to RAM from address `a`. -/
def putWords (a : Nat) (ws : List Nat) (d : Dev) : Dev := setRamWords a (ws.map (BitVec.ofNat 32)) d

/-- A dump closes on a running channel (R219 to R221). A record dropped on a full ring is counted. -/
def dumpRecord (c k : Nat) (iq : List Int) (d : Dev) : Dev :=
  let sig := chSig d c
  let x := advCh (sigChips sig) k (gch d c)
  let r := fld d (GN_CH_CFG_ring c)
  let step := x.steps != d.tb.stepCount
  let pw := ((iq.getD 4 0).natAbs ^ 2 + (iq.getD 5 0).natAbs ^ 2, (iq.getD 12 0).natAbs ^ 2 + (iq.getD 13 0).natAbs ^ 2)
  let y := applyCommits (sigChips sig) { x with seq := (x.seq + 1) % 256, steps := d.tb.stepCount
                                                powers := (pw :: x.powers).take 255 }
  let d1 := idxReach (fld d (GN_CH_CFG_stream c)) x.idx (setF ⟨GN_CH_CN0 c, 0, 16⟩ (cn0Of y.powers (fld d ⟨GN_CH_CN0 c, 16, 8⟩)) d)
  if ringFull d r then
    let d2 := setGch c { y with first := true, lost := true } d1
    let d3 := { d2 with gn := { d2.gn with dropped := cput (fun _ => 0) d2.gn.dropped r (cget (fun _ => 0) d2.gn.dropped r + 1) } }
    if d.gn.ringDone.contains r then d3
    else raise 0x3406 (r + c % 256 * 256) { d3 with gn := { d3.gn with ringDone := r :: d3.gn.ringDone } }
  else
    let wr := fld d (GN_RING_WR_index r)
    let a := fld d (GN_RING_BASE_addr r) + wr % 2 ^ fld d (GN_RING_SIZE_log2 r) * 64
    setF (GN_RING_WR_index r) (wr + 1) (putWords a (dumpWords c sig x step iq) (setGch c { y with first := false } d1))

/-- The samples of the running integration have come (R220): the dump closes once they reach the next whole millisecond of chips. -/
def dumpCh (c : Nat) (pins : List Byte) (d : Dev) : Dev :=
  match toDump (chSig d c) (gch d c) with
  | none => d
  | some k =>
    let fmt := flag d (GN_STREAM_CFG_fmt (fld d (GN_CH_CFG_stream c)))
    doIf (decide (k ≤ pins.length)) (fun x => dumpRecord c k (tapSums d c (gch d c) ((pins.take k).map (sampleVal fmt))) x) d

/-! ### The measurement epoch -/

/-- The period of the measurement epoch (R223). -/
def gnPeriod (d : Dev) : Nat := sec16 / atLeast1 (gnRate d)

/-- The measurement epochs follow the timescale from here on (R98, R223). -/
def alignGn (d : Dev) : Dev := { d with gn := { d.gn with nextTe := nextEpoch (gnPeriod d) d } }

/-- The NCO state of a channel on the sample of index `i` of its stream (R224). -/
def chAt (d : Dev) (c i : Nat) : GCh := advCh (sigChips (chSig d c)) (sx 64 (i + 2 ^ 64 - (gch d c).idx)).toNat (gch d c)

/-- The strobe at epoch instant t_e (R223, R224): every Running channel of an enabled stream is latched on the latch sample,
whose index in each stream is given. -/
def strobe (idx : List Nat) (d : Dev) : Dev :=
  let te := d.gn.nextTe
  let run := (List.range 192).filter (fun c => fld d (GN_CH_STATE_state c) == 2 && gsOn d (fld d (GN_CH_CFG_stream c)))
  let latched := run.foldl (fun (m : Cells (Option GLatch)) c =>
    let x := chAt d c (idx.getD (fld d (GN_CH_CFG_stream c)) 0)
    cput (fun _ => none) m c (some { code := x.code, carr := x.carr, periods := x.periods, rhoIn := x.rhoIn, omIn := x.omIn })) []
  let d2 := forEach (List.range 4) (fun n x => doIf (gsOn x n) (idxReach n (idx.getD n 0)) x) d
  let ep : GEpoch := { te := te, o := now16 d - te, x := [], coarse := 0, latched := latched, step := d.gn.steps != d.tb.stepCount }
  alignGn { d2 with gn := { d2.gn with ep := some ep, strobed := true, steps := d.tb.stepCount } }

/-- The interval of stream `n` of an epoch taken (R224). -/
def epochX (n : Nat) (v : Int) (coarse : Bool) (d : Dev) : Dev :=
  match d.gn.ep with
  | none => d
  | some e =>
    if (cget (fun _ => none) e.x n).isSome then d
    else { d with gn := { d.gn with ep := some { e with x := cput (fun _ => none) e.x n (some v)
                                                        coarse := if coarse then e.coarse ||| 2 ^ n else e.coarse } } }

/-- The interval that request `q` published: none where the sample is missing or was discarded (R119). -/
def intervalOf (d : Dev) (q : Nat) : Option Int :=
  if reqReg d MEAS_RES_CNT q = 0 || reqReg d MEAS_RES_FLAGS q / 2 % 2 = 1 then none else some (sx 64 (reqReg64 d MEAS_RES_MEAN_LO q))

/-- The published result of stream `n`'s request (R224): a discarded or missing sample leaves the stream coarse. -/
def streamResult (n : Nat) (d : Dev) : Dev :=
  match intervalOf d (32 + n) with
  | some v => epochX n v false d
  | none => epochX n (halfSample d n) true d

/-- The published result of the request that stamps the first sample of stream `n` of a capture (R213, R231). -/
def captureResult (n : Nat) (d : Dev) : Dev := snapStamp n (intervalOf d (capReq n)) d

/-- Δ of a stream (R224). -/
def epochDelta (e : GEpoch) (n : Nat) : Int := e.o + (cget (fun _ => none) e.x n).getD 0

/-- Δs of a stream in units of 2^-32 samples (R224): ties toward plus infinity. -/
def epochDs (d : Dev) (e : GEpoch) (n : Nat) : Int := roundDiv (epochDelta e n * (gsFs d n * 2 ^ 32 : Nat)) (65536 * 1000000000)

/-- Code phase and periods of a latch referred back by Δs (R224), borrowing from the periods. -/
def backCode (p : Nat) (l : GLatch) (ds : Int) : Nat × Nat :=
  let t : Int := (l.code : Int) - roundDiv ((l.rhoIn : Int) * ds) (2 ^ 32)
  let per : Int := (atLeast1 p * 2 ^ 48 : Nat)
  ((t % per).toNat, wrapN 32 ((l.periods : Int) + t / per))

/-- The eight words of a channel's epoch record (R225). -/
def epochRec (d : Dev) (e : GEpoch) (c : Nat) : List Nat :=
  let n := fld d (GN_CH_CFG_stream c)
  let sig := chSig d c
  let x := gch d c
  let l := cget (fun _ => none) e.latched c
  let ds := epochDs d e n
  let cp := match l with | some v => backCode (sigChips sig) v ds | none => (x.code, x.periods)
  let ca := match l with | some v => v.carr - roundDiv (v.omIn * ds) (2 ^ 32) | none => x.carr
  let om := match l with | some v => v.omIn | none => x.om
  let dop := roundDiv ((om * (gsFs d n : Int) - sx 32 (rdN d (GN_STREAM_IF n)) * 2 ^ 48) * 2 ^ 8) (2 ^ 48)
  let fl := n + b2n l.isSome * 4 + (e.coarse / 2 ^ n % 2) * 8 + b2n e.step * 16 + b2n (gsLost d n) * 32 + b2n x.lost * 64
  let carr := wrapN 64 (ca / 2 ^ 16)
  [c + sig * 2 ^ 16 + fld d (GN_CH_CFG_prn c) * 2 ^ 24, fl + fld d ⟨GN_CH_CN0 c, 0, 16⟩ * 2 ^ 16, cp.2,
   cp.1 % 2 ^ 32, cp.1 / 2 ^ 32, carr % 2 ^ 32, carr / 2 ^ 32, wrapN 32 (satS 32 dop)]

/-- The epoch's header and records written to the half that the sequence number selects (R225). -/
def writeEpoch (d : Dev) : Dev :=
  match d.gn.ep with
  | none => d
  | some e0 =>
    let d0 := forEach (List.range 4) (fun n x => doIf (gsOn x n) (epochX n (halfSample x n) true) x) d
    let e := d0.gn.ep.getD e0
    let seq := (rdN d GN_EPOCH_SEQ + 1) % 2 ^ 32
    let old := if seq % 2 = 0 then d.gn.half0 else d.gn.half1
    let overrun := match old with | some s => decide (sx 32 (rdN d GN_EPOCH_ACK + 2 ^ 32 - s) < 0) | none => false
    let a := fld d GN_EPOCH_BASE_addr + seq % 2 * 6176
    let te := e.te % 2 ^ 64
    let head := [te % 2 ^ 32, te / 2 ^ 32] ++ (List.range 4).map (fun n => if gsOn d n then wrapN 32 (epochDelta e n) else 0) ++
      [seq, e.coarse]
    let d1 := putWords a (head ++ ((List.range 192).map (epochRec d0 e)).flatten) d0
    let d2 := forEach (List.range 192) (fun c x => doIf (gch x c).lost (setGch c { gch x c with lost := false }) x) d1
    let g := { d2.gn with ep := none, strobed := false, lastCoarse := e.coarse, overruns := d2.gn.overruns + b2n overrun
                          half0 := if seq % 2 = 0 then some seq else d2.gn.half0
                          half1 := if seq % 2 = 1 then some seq else d2.gn.half1 }
    let d3 := wrN GN_EPOCH_SEQ seq { d2 with gn := g }
    let d4 := doIf overrun (raise 0x3405 seq) (doIf (decide (e.coarse ≠ 0)) (raise 0x3404 e.coarse) d3)
    raise 0x3403 seq d4

/-! ### The feed (R227) -/

/-- The lowest-numbered slot of kind 0x5. -/
def gnssSlot (d : Dev) : Option Nat := (List.range 32).find? (fun s => slotKind d s == 5)

/-- The OSNMA verdict in force forces suspect (R227, R228). -/
def osnmaSuspect (d : Dev) : Bool :=
  let v := fld d GN_STATUS_osnma
  fld d GN_OSNMA_CTL_mode == 2 && (v == 0 || v == 2 || (v == 3 && flag d GN_OSNMA_CTL_strict))

/-- The direction verdict forces suspect. -/
def dirSuspect (d : Dev) : Bool := flag d GN_DIR_CTL_en && fld d GN_STATUS_dir == 2

/-- The addition to u for the coarsest used coarse stream (R227): ceil(5 × 10^11 / f_s) ps. -/
def coarseAdd (d : Dev) : Nat :=
  ((maskList (fld d GN_FEED_U_streams)).filter (fun n => d.gn.lastCoarse / 2 ^ n % 2 == 1)).foldl
    (fun m n => max m (ceilDiv 500000000000 (atLeast1 (gsFs d n)))) 0

/-- A feed dropped with a cause (R227). -/
def feedDrop (cause : Nat) (f : Fld) (d : Dev) : Dev := raise 0x3408 cause (satAdd f 1 (gnResult cause 5 d))

/-- A committed GNSS feed (R227). -/
def gnFeed (d : Dev) : Dev :=
  if d.gn.strobed then feedDrop 0x09 GN_FEED_CNT_late d
  else
    match gnssSlot d with
    | none => feedDrop 0x07 GN_FEED_CNT_refused d
    | some s =>
      let lost := (maskList (fld d GN_FEED_U_streams)).any (gsLost d)
      gnResult 0x00 5 (feedSample s (rdS64 d GN_FEED_E_LO) (fld d GN_FEED_U_u + coarseAdd d)
        (flag d GN_FEED_U_suspect || osnmaSuspect d || dirSuspect d) (flag d GN_FEED_U_invalid || lost) d)

end Sys2Proof.Machine
end

