-- ==== Sys2Proof/Machine/Key.lean ====
section
/-! DEFINITION. The meanings of the KEY commands of spec/13_keys_crypto.md. Nothing runs in Off (R41). -/

namespace Sys2Proof.Machine

open Sys2Proof

/-- A step of KEY's own that needs power. -/
def keyLive (f : Dev → Dev) (s : State) : Host.Outcome State Fault Refusal := s.upd (fun d => doIf d.pwr.powered f d)

/-- KEY_DELIVERY (R322). -/
def execKeyDelivery (c : Fin 8) (s : State) : Host.Outcome State Fault Refusal :=
  keyLive (fun d => doIf (dlvComplete d c.val) (dlvProcess c.val) d) s

/-- KEY_DELIVERY_DISCARD (R322). -/
def execKeyDeliveryDiscard (c : Fin 8) (s : State) : Host.Outcome State Fault Refusal :=
  keyLive (fun d => doIf (!(dlvComplete d c.val)) (dlvDiscard c.val) d) s

/-- KEY_CMD.close (R329). -/
def keyCloseF (d : Dev) : Dev := keyResult 0x00 1 (closeWindow d)

/-- KEY_CLOSE (R329). -/
def execKeyClose (r : Req) (s : State) : Host.Outcome State Fault Refusal := s.upd (guardWrite r KEY_CMD keyCloseF)

/-- KEY_CMD.zeroize acts as step 3 of R331. -/
def keyZeroizeF (d : Dev) : Dev := keyResult 0x00 1 (zeroStart 4 d)

/-- KEY_ZEROIZE (R331). -/
def execKeyZeroize (r : Req) (s : State) : Host.Outcome State Fault Refusal := s.upd (guardWrite r KEY_CMD keyZeroizeF)

/-- KEY_CMD.erase of a slot (R323): outside the layout cause 0x01, empty cause 0x02. -/
def keyEraseF (kind slot : Nat) (d : Dev) : Dev :=
  if keySlots d kind ≤ slot then keyResult 0x01 1 d
  else if slotEmpty d kind slot then keyResult 0x02 1 d
  else keyResult 0x00 1 (slotClear kind slot d)

/-- KEY_ERASE (R323). -/
def execKeyErase (r : Req) (kind : Fin 4) (slot : BitVec 10) (s : State) : Host.Outcome State Fault Refusal :=
  s.upd (guardWrite r KEY_CMD (keyEraseF kind.val slot.toNat))

/-- KEY_CMD.clear_opened (R331). -/
def keyClearOpenedF (d : Dev) : Dev := keyResult 0x00 1 (setF KEY_STATUS_opened 0 d)

/-- KEY_CLEAR_OPENED (R331): RWP. -/
def execKeyClearOpened (r : Req) (s : State) : Host.Outcome State Fault Refusal := s.upd (rwpDo r KEY_CMD keyClearOpenedF)

/-- The presence window may open (R329, R493): the seal is Intact, seal_en is 0, or PD_AON holds no accepted layout; unit 0x33 is
in service (R405). -/
def windowMayOpen (d : Dev) : Bool :=
  !(windowOpen d) && !(unitOut d 0x33) &&
    (d.img.layout.isNone || !(flag d KEY_LAYOUT_INFO_seal_en) || !(flag d KEY_STATUS_seal))

/-- The presence window opens for 60 s, counted in cycles of CK_32K (R329): event 0x6801 with parameter 1. -/
def presenceAssertF (d : Dev) : Dev :=
  doIf (windowMayOpen d) (fun x =>
    raise 0x6801 1 (satAdd KEY_PRESENCE_opens 1 (setF KEY_STATUS_window 1
      { x with key := { x.key with winEnd := x.lpc.ck + 60 * 32768 } }))) d

/-- PRESENCE_WINDOW_EXPIRY (R329): the window closes once 60 s of CK_32K have passed since it opened. -/
def execPresenceWindowExpiry (s : State) : Host.Outcome State Fault Refusal :=
  keyLive (fun d => doIf (decide (d.key.winEnd ≤ d.lpc.ck)) closeWindow d) s

/-- The zeroize policy in force (R318). -/
def zeroPolicy (d : Dev) : Nat := fld d KEY_LAYOUT_INFO_zeroize

/-- The seal changes from Intact to Open (R331): the window closes, opened latches, and the policy acts. A fuse command in
progress programs no further word (R332). -/
def sealOpenF (d : Dev) : Dev :=
  let pol := zeroPolicy d
  let d1 := setF KEY_STATUS_opened 1 (closeWindow (setF KEY_SEAL_state 1 (setF KEY_STATUS_seal 1 d)))
  let d2 := lifeAdd 15 1 (keyCount 6 (satAdd KEY_SEAL_opens 1 d1))
  let d3 := raise 0x6802 pol { d2 with key := { d2.key with fuse := d2.key.fuse.map (fun o => { o with cut := true }) } }
  let d4 := doIf (pol == 1 || pol == 2) (zeroStart 1) d3
  if pol = 2 then { d4 with key := { d4.key with zeroKek := true } } else d4

/-- The seal is Intact again (R330): event 0x6803. -/
def sealIntactF (d : Dev) : Dev := raise 0x6803 0 (setF KEY_SEAL_state 0 (setF KEY_STATUS_seal 0 d))

/-- SEAL_INTACT (R330). -/
def execSealIntact (s : State) : Host.Outcome State Fault Refusal :=
  keyLive (fun d => doIf (flag d KEY_LAYOUT_INFO_seal_en && flag d KEY_STATUS_seal && !(unitOut d 0x33)) sealIntactF d) s

/-- The clear engine has finished (R331): under policy 2 the KEK_F revoke fuse is blown; event 0x6804. -/
def zeroizationCompleteF (d : Dev) : Dev :=
  match d.key.zero with
  | none => d
  | some why =>
    let d1 := doIf d.key.zeroKek blowKekRevoke { d with key := { d.key with zero := none, zeroKek := false } }
    raise 0x6804 (why + b2n d.key.zeroKek * 8) d1

/-- ZEROIZATION_COMPLETE (R331). -/
def execZeroizationComplete (s : State) : Host.Outcome State Fault Refusal := keyLive zeroizationCompleteF s

/-- KEY_ACTIVATION_EVALUATION (R325): it needs the timescale. -/
def execKeyActivationEvaluation (s : State) : Host.Outcome State Fault Refusal :=
  keyLive (fun d => doIf (domOn d .tb) keyEvaluate d) s

/-- A parity error in a slot (R319): Invalid, event 0x680A, a corrected fault of unit 0x32. If the Current NTS key is lost, the
Accepting key with the latest activation becomes Current. -/
def keySlotParityF (kind n : Nat) (d : Dev) : Dev :=
  if slotEmpty d kind n || decide (keySlots d kind ≤ n) then d
  else
    let cur := kind == 0 && ntsState d n == 2
    let d1 :=
      match kind with
      | 0 => setF (KEY_NTS_STATE_state n) 4 d
      | 1 => setF ⟨bank KEY_SA_INFO n, 18, 2⟩ 3 d
      | 2 => setF (KEY_OSN_STATE_state n) 2 d
      | _ => kekClear d
    let p := kind + n * 65536
    let d2 := reportUnit 0x32 0x01 .corrected 0x680A p (raise 0x680A p d1)
    if !cur then d2
    else
      let d3 := wrN KEY_NTS_CUR 0 d2
      match bestKey d3 ((List.range 16).filter (fun m => ntsState d3 m == 3)) with
      | none => d3
      | some m => raise 0x6808 (m + n * 256) (setCurrent m d3)

/-- KEY_SLOT_PARITY (R319). -/
def execKeySlotParity (kind : Fin 4) (slot : Fin 1024) (s : State) : Host.Outcome State Fault Refusal :=
  keyLive (keySlotParityF kind.val slot.val) s

/-- KEY_FUSE_CMD.program_hash (R335): into a slot that is neither programmed nor partial (cause 0x06). -/
def programHashF (slot : Nat) (d : Dev) : Dev :=
  if !(flag d KEY_FUSE_STATUS_busy) && (fuseBit d slot || fuseBit d (11 + slot)) then keyResult 0x06 2 d
  else fuseStart (1 + slot * 64) slot d

/-- PROGRAM_HASH (R335): RWP. -/
def execProgramHash (r : Req) (slot : Fin 4) (s : State) : Host.Outcome State Fault Refusal :=
  s.upd (rwpDo r KEY_FUSE_CMD (programHashF slot.val))

/-- KEY_FUSE_CMD.revoke_hash (R335): unless it would leave no slot that is programmed and unrevoked (cause 0x03). -/
def revokeHashF (slot : Nat) (d : Dev) : Dev :=
  if !(flag d KEY_FUSE_STATUS_busy) && !((List.range 4).any (fun s => s != slot && hashValid d s)) then keyResult 0x03 2 d
  else fuseStart (2 + slot * 64) slot d

/-- REVOKE_HASH (R335): RWP. -/
def execRevokeHash (r : Req) (slot : Fin 4) (s : State) : Host.Outcome State Fault Refusal :=
  s.upd (rwpDo r KEY_FUSE_CMD (revokeHashF slot.val))

/-- KEY_FUSE_CMD.program_kek (R335). -/
def programKekF (d : Dev) : Dev :=
  if !(flag d KEY_FUSE_STATUS_busy) && fuseBit d 8 then keyResult 0x06 2 d else fuseStart 4 0 d

/-- PROGRAM_KEK (R335): RWP. -/
def execProgramKek (r : Req) (s : State) : Host.Outcome State Fault Refusal := s.upd (rwpDo r KEY_FUSE_CMD programKekF)

/-- REVOKE_KEK (R335): RWP. -/
def execRevokeKek (r : Req) (s : State) : Host.Outcome State Fault Refusal := s.upd (rwpDo r KEY_FUSE_CMD (fuseStart 8 0))

/-- DISABLE_DEBUG (R335): RWP. -/
def execDisableDebug (r : Req) (s : State) : Host.Outcome State Fault Refusal := s.upd (rwpDo r KEY_FUSE_CMD (fuseStart 16 0))

/-- The end of a fuse command (R332, R335): bits change only from 0 to 1, and only those that took (`got` for the data words,
`mark` for the bit of word 40). Verified by read-back: success sets the mark with event 0x680C; a failure, or a command of data words
cut short by the seal, marks a hash slot partial with event 0x680D. A command of one word completes over the seal's opening. -/
def fuseCompleteF (got : List Word) (mark : Bool) (d : Dev) : Dev :=
  match d.key.fuse with
  | none => d
  | some o =>
    let d0 := setF KEY_FUSE_STATUS_busy 0 { d with key := { d.key with fuse := none } }
    let d1 := if fuseHasData o then
        forEach (List.range 8) (fun w x =>
          setFuseWord o w (fuseWord x o w ||| (o.data.getD w 0#32 &&& got.getD w 0#32)) x) d0
      else d0
    let wordsOk := !(fuseHasData o) || (List.range 8).all (fun w => fuseWord d1 o w == o.data.getD w 0#32)
    if wordsOk && mark && !(o.cut && fuseHasData o) then
      raise 0x680C o.cmd (keyResult 0x00 2 (setF ⟨KEY_FUSE_STATUS, fuseMark o, 1⟩ 1 d1))
    else
      let d2 := doIf (o.cmd % 2 == 1) (setF ⟨KEY_FUSE_STATUS, 11 + o.slot, 1⟩ 1) d1
      raise 0x680D o.cmd (keyResult 0x07 2 d2)

/-- FUSE_COMMAND_COMPLETE (R335). -/
def execFuseCommandComplete (got : List Word) (mark : Bool) (s : State) : Host.Outcome State Fault Refusal :=
  keyLive (fuseCompleteF got mark) s

/-- KEY_DEBUG.unlock (R333): refused with cause 0x05 once debug_off is blown; else every volatile slot is zeroized, debug access
opens until the next Boot, and event 0x680E is raised. -/
def debugUnlockF (d : Dev) : Dev :=
  if fuseBit d 10 then keyResult 0x05 3 d
  else if flag d KEY_STATUS_debug then keyResult 0x00 3 d
  else raise 0x680E 0 (keyResult 0x00 3 (setF KEY_DEBUG_unlock 1 (setF KEY_STATUS_debug 1 (zeroStart 2 d))))

/-- DEBUG_UNLOCK (R333): RWP. -/
def execDebugUnlock (r : Req) (s : State) : Host.Outcome State Fault Refusal := s.upd (rwpDo r KEY_DEBUG debugUnlockF)

/-- The known-answer tests that a power-up of PD_CRY calls for (R317): the engines that fail them are fenced. -/
def engineTests (failed : List Nat) (d : Dev) : Dev :=
  forEach failed (fun e x => doIf (!(engFenced x e)) (engineFence e) x) { d with key := { d.key with katDue := false } }

/-- ENGINE_SELFTEST (R317): at the power-up of PD_CRY. -/
def execEngineSelftest (failed : List (Fin 24)) (s : State) : Host.Outcome State Fault Refusal :=
  keyLive (fun d => doIf (domOn d .cry && d.key.katDue) (engineTests (failed.map (fun e => e.val))) d) s

/-- KEY_ENG_CMD.readmit (R317): the tests repeat; a pass returns the engine's credits to free, and the unit is Normal once none
of its engines is fenced (R415). -/
def engineReadmitF (e : Nat) (pass : Bool) (d : Dev) : Dev :=
  if !(engFenced d e) || !pass then d
  else
    let d1 := engineIn e d
    let u := engUnit e
    if (unitEngines u).any (engFenced d1) then modUnit u (fun x => { x with state := 0, part := true }) d1
    else admitUnit u d1

/-- ENGINE_READMIT (R317). -/
def execEngineReadmit (r : Req) (e : Fin 24) (pass : Bool) (s : State) : Host.Outcome State Fault Refusal :=
  s.upd (guardWrite r KEY_ENG_CMD (engineReadmitF e.val pass))

/-- KEY_RNG_CTL.reseed (R336): the DRBG is reseeded; a stopped one stays stopped. -/
def rngReseedF (d : Dev) : Dev := doIf (flag d KEY_STATUS_rng_ok) (fun x => { x with key := { x.key with rngReq := 0 } }) d

/-- RNG_RESEED (R336). -/
def execRngReseed (r : Req) (s : State) : Host.Outcome State Fault Refusal := s.upd (guardWrite r KEY_RNG_CTL rngReseedF)

/-- A health test of the random source fails (R336): counted; the DRBG stops, a contained fault of unit 0x32. The keys in use are
kept. -/
def rngFailF (d : Dev) : Dev :=
  let d1 := satAdd KEY_RNG_CTL_failures 1 (rngStop d)
  reportUnit 0x32 0x05 .contained 0x680F 0 (raise 0x680F 0 d1)

/-- RNG_HEALTH_FAILURE (R336). -/
def execRngHealthFailure (s : State) : Host.Outcome State Fault Refusal := keyLive rngFailF s

end Sys2Proof.Machine
end

