-- ==== Sys2Proof/Machine/Port.lean ====
section
/-! DEFINITION. The commands of PORT (spec/10_network_ports.md), and the launch of the oldest frame handed to a MAC, which the
drive segment's MAC shares. -/

namespace Sys2Proof.Machine

open Sys2Proof

/-- PORT_RESULT. -/
def portResult (p cause : Nat) (d : Dev) : Dev := setF (PORT_RESULT_cause p) cause d

/-- PORT_CMD.lat_cal (R236): Training and Up go to Calibrating; the result is written when the calibration ends. -/
def portLatCal (p : Nat) (d : Dev) : Dev :=
  doIf (subLink d p 0 == 2 || subLink d p 0 == 3 || subLink d p 1 == 3) (toCalibrating p) d

/-- PORT_LAT_CAL (R236). -/
def execPortLatCal (r : Req) (p : Fin 8) (s : State) : Host.Outcome State Fault Refusal :=
  s.upd (guardWrite r (PORT_CMD p.val) (portLatCal p.val))

/-- PORT_CMD.restart of one subport (R236): Up goes to Training, where the link trains again. -/
def portRestart (p s : Nat) (d : Dev) : Dev :=
  if !((portSubs d p).contains s) then portResult p 4 d
  else portResult p 0 (doIf (subLink d p s == 3) (leaveUp p s 2) d)

/-- PORT_RESTART (R236). -/
def execPortRestart (r : Req) (p : Fin 8) (s : Fin 2) (st : State) : Host.Outcome State Fault Refusal :=
  st.upd (guardWrite r (PORT_CMD p.val) (portRestart p.val s.val))

/-- PORT_CMD.readmit (R236, R415): a Fenced block calibrates again, which is its readmission test. -/
def portReadmit (p : Nat) (d : Dev) : Dev :=
  if !(flag d (PORT_STATUS_fenced p)) then portResult p 3 d
  else
    doIf (unitFenced d (0x18 + p)) (modUnit (0x18 + p) (fun x => { x with state := 3, byBlock := true })) (toCalibrating p (setF (PORT_STATUS_fenced p) 0 d))

/-- PORT_READMIT (R236). -/
def execPortReadmit (r : Req) (p : Fin 8) (s : State) : Host.Outcome State Fault Refusal :=
  s.upd (guardWrite r (PORT_CMD p.val) (portReadmit p.val))

/-- R0 of a lane, from fuses (R250). -/
def laneR0 (p j : Nat) : Int := sx 32 (resetOf (PORT_LANE_LAT_TX p j)).toNat + sx 32 (resetOf (PORT_LANE_LAT_RX p j)).toNat

/-- The loopback mean of a lane sets its latencies (R250), unless it fails. -/
def laneLat (p j : Nat) (r : Int) (d : Dev) : Dev :=
  if 13107 < (r - laneR0 p j).natAbs then d
  else
    let tx := sx 32 (resetOf (PORT_LANE_LAT_TX p j)).toNat +
      roundDiv (fld d (PORT_LANE_SPLIT_sigma p j) * (r - laneR0 p j)) 65536
    modPlane (laneNo d p j) (fun l => { l with latOk := true })
      (wrN (PORT_LANE_LAT_RX p j) (wrapN 32 (r - tx)) (wrN (PORT_LANE_LAT_TX p j) (wrapN 32 tx) d))

/-- Parameter of event 0x005: lane and R − R0 saturated. -/
def latParam (l : Nat) (df : Int) : Nat := l + wrapN 16 (satS 16 df) * 65536

/-- The pad loopback calibration of a block ends with the mean of each lane (R250): all pass, or the block is Fenced. -/
def latencyDone (p : Nat) (rs : List Int) (d : Dev) : Dev :=
  if !(portOn d p) || subLink d p 0 ≠ 1 then d
  else
    let lanes := portLanes d p
    let r := fun (j : Nat) => rs.getD j (laneR0 p j)
    let bad := lanes.filter (fun j => decide (13107 < (r j - laneR0 p j).natAbs))
    let d1 := forEach lanes (fun j x => laneLat p j (r j) x) d
    let testing := (funit d1 (0x18 + p)).state == 3
    match bad with
    | [] =>
      let d2 := forEach (portSubs d1 p) (fun s x => setF (PORT_SUB_STATUS_link p s) 2 x) d1
      doIf testing (admitUnit (0x18 + p)) (refreshCal p (portResult p 0 d2))
    | j :: _ =>
      let d2 := doIf testing (modUnit (0x18 + p) (fun x => { x with state := 2, byBlock := false })) d1
      let d3 := forEach bad (fun k x => raise ((0x10 + p) * 1024 + 5) (latParam (laneNo x p k) (r k - laneR0 p k)) x) d2
      fenceUnit (0x18 + p) 0x07 (fencePort p 1 (portResult p 2
        (reportUnit (0x18 + p) 0x07 .contained ((0x10 + p) * 1024 + 5) (latParam (laneNo d p j) (r j - laneR0 p j)) d3)))

/-- LATENCY_CAL_COMPLETE (R250). -/
def execLatencyCalComplete (p : Fin 8) (rs : List Int) (s : State) : Host.Outcome State Fault Refusal := s.upd (live (latencyDone p.val rs))

/-- LINK_UP (R236). -/
def execLinkUp (p : Fin 8) (s : Fin 2) (an : Bool) (st : State) : Host.Outcome State Fault Refusal :=
  st.upd (live (fun d => doIf (portOn d p.val && (portSubs d p.val).contains s.val && subLink d p.val s.val == 2) (enterUp p.val s.val an) d))

/-- LINK_DOWN (R236). -/
def execLinkDown (p : Fin 8) (s : Fin 2) (st : State) : Host.Outcome State Fault Refusal :=
  st.upd (live (fun d => doIf (portOn d p.val && subLink d p.val s.val == 3) (leaveUp p.val s.val 2) d))

/-- The VIDs of the valid entries of a subport. -/
def portVids (d : Dev) (p s : Nat) : List Nat :=
  (List.range 4).flatMap (fun v =>
    (if flag d (PORT_VLAN_valid_a p s v) then [fld d (PORT_VLAN_vid_a p s v)] else []) ++
    (if flag d (PORT_VLAN_valid_b p s v) then [fld d (PORT_VLAN_vid_b p s v)] else []))

/-- The valid PORT_MCAST addresses of a subport. -/
def portMcast (d : Dev) (p s : Nat) : List (List Byte) :=
  ((List.range 8).filter (fun e => flag d (PORT_MCAST_HI_valid p e) && decide (fld d (PORT_MCAST_HI_sub p e) = s))).map
    (fun e => macBytes (rd64 d (PORT_MCAST_LO p e) % 2 ^ 48))

/-- What a subport accepts (R240, R241). -/
def portRxCfg (d : Dev) (p s : Nat) : RxCfg :=
  { mac := ownMac d p s, bcast := flag d (PORT_RX_CTL_accept_bcast p s), l2 := flag d (PORT_RX_CTL_ptp_l2 p s)
    v4 := flag d (PORT_RX_CTL_ptp_ipv4 p s), v6 := flag d (PORT_RX_CTL_ptp_ipv6 p s), vlanEn := flag d (PORT_RX_CTL_vlan_en p s)
    untagged := flag d (PORT_RX_CTL_untagged_ok p s), vlans := portVids d p s, groups := solicited d p, mcast := portMcast d p s
    max := maxFrame d p, avail := min (fld d (PORT_BUF_QUOTA_buffers p) - rdN d (PORT_BUF_RX p)) (poolFree d), dsType := none }

/-- The counters of an accepted frame beside rx_ok (R254). -/
def acceptCounts (p s : Nat) (bs : List Byte) (d : Dev) : Dev :=
  let n := bs.length
  let e := ethOf bs
  let u := (ipOf e (bs.take (n - 4))).bind udpOf
  let dst := fun (k : Nat) => match u with | some x => x.dport == k | none => false
  let cast := if e.da = macBcast then 13 else if isGroup e.da then 12 else 11
  let d1 := portCnt p s (lenBin n) 1 (portCnt p s cast 1 (portCnt p s 2 n d))
  let d2 := doIf (e.etype == 0x88F7 || dst 319 || dst 320) (portCnt p s 22 1) d1
  doIf (dst 123) (portCnt p s 23 1) d2

/-- An accepted frame goes to SVC with its descriptor (R237, R241, R244, R254). -/
def portAccept (p s : Nat) (x : RxPart) (d : Dev) : Dev :=
  let f : RxDesc := { port := p, sub := s, bytes := x.bytes, tRx := x.tRx, calSeq := x.calSeq, steps := x.steps, bufs := x.held }
  svcAccept f (bufMove (PORT_BUF_RX p) SVC_BUF_PIPE x.held (wr64 (PORT_TS_RX_LAST_LO p) x.tRx (acceptCounts p s x.bytes d)))

/-- Bytes of a frame on a subport that is Up (R237 to R244): counted with its outcome once that is decided. -/
def portReceive (p s : Nat) (o : RxObs) (d : Dev) : Dev :=
  if !(portOn d p) || !((portSubs d p).contains s) || subLink d p s ≠ 3 then d
  else
    let d0 := doIf (decide (0 < o.fecU)) (portCnt p s 30 o.fecU) (doIf (decide (0 < o.fecC)) (portCnt p s 29 o.fecC) d)
    let r := rxTake p s (portRxCfg d0 p s) true (rxStamp d0 p s o.lane o.ui o.code, rdN d0 MEAS_CAL_SEQ, stepMod d0) o d0
    match r.1 with
    | none => r.2
    | some (out, x) => doIf (decide (out = 1)) (portAccept p s x) (rxCount p s out r.2)

/-- RX_FRAME (R237). -/
def execRxFrame (p : Fin 8) (s : Fin 2) (o : RxObs) (st : State) : Host.Outcome State Fault Refusal := st.upd (live (portReceive p.val s.val o))

/-- The latch value of a transmitted frame compared with its prediction (R247). -/
def txCompare (p s tw : Nat) (pred : Option Nat) (d : Dev) : Dev :=
  match pred with
  | none => d
  | some e =>
    let df := nearDiff tw e
    if df.natAbs ≤ fld d (PORT_TS_TOL_units p) then d
    else
      let v := wrapN 32 (satS 32 df)
      raise ((0x10 + p) * 1024 + 6) v
        (modPsub p s (fun x => { x with mis := x.mis + df.natAbs }) (wrN (PORT_TS_TX_ERR p) v (portCnt p s 28 1 d)))

/-- What follows a launch (R242, R254, R287, R309): the buffers return, a requested report and an owed Follow_Up are made. -/
def txAfter (p s t : Nat) (f : TxFrame) (d : Dev) : Dev :=
  let d1 := txFree f d
  let d2 := match f.report with | some tag => reportTx p s tag t d1 | none => d1
  match f.follow with
  | some (src, seq) => pipePut f.pipe { msg := .follow src seq t, slot := none, late := false, again := false } d2
  | none => d2

/-- The frame as it goes out on port `p`, counted and stamped (R242, R245). -/
def portTransmit (p s : Nat) (f : TxFrame) (o : TxObs) (d : Dev) : Dev :=
  let bs := padFcs f.bytes
  let tw := txEdge d p o.pos.lane o.code
  let t := txStamp d p s o.pos.lane o.pos.ui tw
  let pred := match f.pred with
    | some e => some e
    | none => if predValid d p s then some (predictEdge d p o.pos.lane o.pos.word) else none
  let late := match f.target with
    | some g => decide ((wordPeriod (portMode d p) : Int) < 25 * nearDiff t g)
    | none => false
  let d1 := modPsub p s (fun x => { x with last := bs }) (portCnt p s 25 bs.length (portCnt p s 24 1 d))
  txAfter p s t f (doIf late (portCnt p s 26 1) (txCompare p s tw pred (wr64 (PORT_TS_TX_LAST_LO p) t d1)))

/-- The frame as it goes out on the drive segment: late beyond DSG_LATE_TOL. -/
def dsgTransmit (f : TxFrame) (o : TxObs) (d : Dev) : Dev :=
  let t := dsgTx d (dsgStamp d o.code o.pos.ui)
  let late := match f.target with
    | some g => decide (lateTol d < nearDiff t g)
    | none => false
  txAfter 8 0 t f (doIf late (dsgCnt 14 1) (dsgEcho o.echo (dsgWire f.bytes d)))

/-- The MAC of a subport, or of the drive segment, may send. -/
def txReady (d : Dev) (p s : Nat) : Bool :=
  if p = 8 then dsgSends d && s == 0 else macReady d p s

/-- The oldest frame handed to a MAC is launched (R242): one that was built before a step is discarded (R280). -/
def transmit (p s : Nat) (o : TxObs) (d : Dev) : Dev :=
  match (psub d p s).mac with
  | [] => d
  | f :: fs =>
    if !(txReady d p s) then d
    else
      let d1 := modPsub p s (fun x => { x with mac := fs }) d
      let stale := match f.steps with | some n => decide (n ≠ stepMod d1) | none => false
      if stale then svcCnt 21 1 (txFree f d1)
      else if p = 8 then dsgTransmit f o d1
      else portTransmit p s f o d1

/-- TX_FRAME (R242). -/
def execTxFrame (p : Fin 9) (s : Fin 2) (o : TxObs) (st : State) : Host.Outcome State Fault Refusal := st.upd (live (transmit p.val s.val o))

end Sys2Proof.Machine
end

