-- ==== Sys2Proof/Machine/Svc.lean ====
section
/-! DEFINITION. The commands of SVC (spec/12_time_service.md). -/

namespace Sys2Proof.Machine

open Sys2Proof

/-- PIPELINE_OPERATION (R279). -/
def execPipelineOperation (p : Fin 4) (o : PipeObs) (s : State) : Host.Outcome State Fault Refusal :=
  s.upd (fun d => doIf (domOn d .pkt) (pipeOp p.val o) d)

/-- A request that has waited for a credit longer than SVC_CRY_WAIT is dropped (R281); a scheduled message waits on. -/
def creditTimeout (p : Nat) (d : Dev) : Dev :=
  match pipeQ d p, cget (fun _ => none) d.net.waits p with
  | { msg := .rx f, .. } :: xs, some t =>
    if fld d SVC_CRY_WAIT_us * 65536000 < nearDiff (near d) t then svcCnt 24 1 (rxFree f (setWait p none (setPipeQ p xs d))) else d
  | _, _ => d

/-- CRYPTO_CREDIT_TIMEOUT (R281). -/
def execCryptoCreditTimeout (p : Fin 4) (s : State) : Host.Outcome State Fault Refusal :=
  s.upd (fun d => doIf (domOn d .pkt) (creditTimeout p.val) d)

/-- WHEEL_SLOT (R294). -/
def execWheelSlotStart (s : State) : Host.Outcome State Fault Refusal :=
  s.upd (fun d => doIf (domOn d .pkt && !(unitOut d 0x25)) wheelSlot d)

/-- SESSION_SWEEP (R293). -/
def execSessionSweep (s : State) : Host.Outcome State Fault Refusal :=
  s.upd (fun d => doIf (domOn d .pkt && domOn d .smem) (fun x => forEach (sessAll x) expire x) d)

/-- WEIR_SWEEP (R303): the buckets named have bad parity. -/
def execWeirSweep (bad : List (Fin 524288)) (s : State) : Host.Outcome State Fault Refusal :=
  s.upd (fun d => doIf (domOn d .pkt) (weirSweepAll (bad.map (fun i => i.val))) d)

/-- A parity error in session `i` (R293): cancels are sent when bytes 0 to 27 passed, then the session is dropped. -/
def sessionParity (i : Nat) (addrOk : Bool) (d : Dev) : Dev :=
  if !(sessValid d i) then d
  else
    let d1 := sessEnd i (doIf (addrOk && domOn d .pkt) (sendCancels i) d)
    reportUnit 0x26 0x01 .corrected 0x6403 i (raise 0x6403 i (doIf (domOn d .pkt) (svcCnt 32 1) d1))

/-- SESSION_PARITY (R293). -/
def execSessionParity (i : Fin 262144) (addrOk : Bool) (s : State) : Host.Outcome State Fault Refusal :=
  s.upd (fun d => doIf (domOn d .smem) (sessionParity i.val addrOk) d)

/-- The first waiting frame of a subport launches when its target is due (R306); one built before a step is discarded (R280). -/
def timedDue (p s : Nat) (d : Dev) : Dev :=
  match (psub d p s).timed with
  | [] => d
  | f :: fs =>
    if !(due (f.target.getD 0) (near d)) then d
    else
      let d1 := modPsub p s (fun x => { x with timed := fs }) d
      let stale := match f.steps with | some n => decide (n ≠ stepMod d1) | none => false
      if stale then svcCnt 21 1 (txFree f d1) else launch p s f d1

/-- TIMED_LAUNCH (R306). -/
def execTimedLaunch (p : Fin 9) (s : Fin 2) (st : State) : Host.Outcome State Fault Refusal :=
  st.upd (fun d => doIf (domOn d .pkt) (timedDue p.val s.val) d)

/-- A host record keeps the limits of R309: the port exists, and 60 bytes up to the maximum without FCS. -/
def hostRecOk (d : Dev) (p s n : Nat) : Bool :=
  (if p = 8 then s == 0 else decide (p < 8) && portOn d p && (portSubs d p).contains s) && decide (60 ≤ n) &&
    decide (n + 4 ≤ maxFrame d p)

/-- The frame of a host record handed on, with buffers from the pool (R309). -/
def hostFrame (p s : Nat) (f : TxFrame) (d : Dev) : Dev :=
  let n := min (bufsOf (f.bytes.length + 4) (maxFrame d p)) (poolFree d)
  launchAt p s { f with bufs := n } (bufMove SVC_BUF_FREE SVC_BUF_TX n (svcCnt 29 1 d))

/-- The first complete record of the host transmit queue is taken (R309). A length below the header's leaves no way to find the next
record: the bytes queued are discarded. -/
def hostTransmit (d : Dev) : Dev :=
  let q := d.net.hostTx
  let len := leNat (q.take 2)
  let size := len + (4 - len % 4) % 4
  if q.length < 16 then d
  else if len < 16 then svcCnt 28 1 { d with net := { d.net with hostTx := [] } }
  else if q.length < size then d
  else
    let d1 := { d with net := { d.net with hostTx := q.drop size } }
    let fl := leNat (sliceOf q 2 1)
    let where_ := leNat (sliceOf q 3 1)
    let p := where_ % 16
    let s := where_ / 16 % 2
    let bytes := sliceOf q 16 (len - 16)
    if !(hostRecOk d1 p s bytes.length) then svcCnt 28 1 d1
    else
      hostFrame p s { bytes := bytes, bufs := 0, steps := some (stepMod d1)
                      target := if fl % 2 = 1 then some (leNat (sliceOf q 4 8)) else none
                      pred := none, report := if fl / 2 % 2 = 1 then some (leNat (sliceOf q 12 4)) else none
                      follow := none, pipe := 0 } d1

/-- HOST_TRANSMIT_RECORD (R309). -/
def execHostTransmitRecord (s : State) : Host.Outcome State Fault Refusal := s.upd (fun d => doIf (domOn d .pkt) hostTransmit d)

/-- NONTIMING_RESPONSE (R307). -/
def execNontimingResponse (s : State) : Host.Outcome State Fault Refusal := s.upd (fun d => doIf (domOn d .pkt) respond d)

/-- An ESMC PDU of ITU-T G.8264 (R296): slow protocol address, subtype 0x0A, version 1, event flag, and the QL TLV (log entry
21). -/
def esmcBytes (mac : List Byte) (event : Bool) (ssm : Nat) : List Byte :=
  ethHdr (macBE 0x0180C2000002) mac 0x8809 ++ beBytes 1 0x0A ++ beBytes 3 0x0019A7 ++ beBytes 2 1 ++ beBytes 1 (16 + b2n event * 8) ++
    beBytes 3 0 ++ beBytes 1 1 ++ beBytes 2 4 ++ beBytes 1 ssm

/-- An ESMC PDU leaves a subport (R296): an event PDU where the SSM has changed since the last one, an information PDU once in a
TAI second. -/
def esmcSend (p s : Nat) (d : Dev) : Dev :=
  if !(flag d (SVC_ESMC_en p s)) || !(macReady d p s) then d
  else
    let v := fld d (SVC_ESMC_ssm p s)
    let last := cget (fun _ => none) d.net.ssm (subKey p s)
    let event := match last with | some x => decide (x.1 ≠ v) | none => false
    let again := match last with | some x => decide (x.2 = taiSec d) | none => false
    let sec := if event then (last.map (fun x => x.2)).getD (taiSec d) else taiSec d
    if !event && again then d
    else
      ownSend p s (esmcBytes (ownMac d p s) event v)
        { d with net := { d.net with ssm := cput (fun _ => none) d.net.ssm (subKey p s) (some (v, sec)) } }

/-- ESMC_SEND (R296). -/
def execEsmcSend (p : Fin 8) (s : Fin 2) (st : State) : Host.Outcome State Fault Refusal :=
  st.upd (fun d => doIf (domOn d .pkt) (esmcSend p.val s.val) d)

/-- The leap indicators follow the time before the next leap entry (R289): event 0x6409 on a change. -/
def refreshLeapInd (d : Dev) : Dev :=
  let a := leapInd d (rdN d SVC_LEAP_PTP)
  let b := leapInd d (rdN d SVC_LEAP_NTP)
  if d.net.leapInd = (a, b) then d
  else
    raise 0x6409 (b2n (decide (a ≠ 0)) + b2n (decide (b ≠ 0)) * 2 + b2n (decide (a = 2 ∨ b = 2)) * 4)
      (setB SVC_STATUS_leap_ntp (decide (b ≠ 0)) (setB SVC_STATUS_leap_ptp (decide (a ≠ 0))
        { d with net := { d.net with leapInd := (a, b) } }))

/-- LEAP_INDICATOR_CHANGE (R289). -/
def execLeapIndicatorChange (s : State) : Host.Outcome State Fault Refusal := s.upd (fun d => doIf (domOn d .pkt) refreshLeapInd d)

/-- SERVING_CHANGE (R275). -/
def execServingChange (s : State) : Host.Outcome State Fault Refusal := s.upd (fun d => doIf (domOn d .pkt) refreshServing d)

end Sys2Proof.Machine
end

