-- ==== Sys2Proof/Machine/HifOps.lean ====
section
/-! DEFINITION. The bulk window of HIF (spec/03_host_interface.md, R79 to R84): targets and their rights, the data port, the page
buffer and the flash operations. -/

namespace Sys2Proof.Machine

open Sys2Proof

/-- The store key of byte `a` of the staging area of R82: control SRAM of its own place, which the spec does not give (log entry
10). -/
def stageBase : Nat := 2 ^ 41

/-- The word of the staging area at byte `a`: as written, else undefined after a Boot that ran from flash (R82), else zero from
the fill of PD_CTL (R451). -/
def stageWordAt (d : Dev) (a : Nat) : Word :=
  match cget (fun _ => none) d.img.stage (a / 4) with
  | some w => w
  | none =>
    match d.img.stageGen with
    | some n => BitVec.ofNat 32 (Config.stageWord n (a / 4))
    | none => 0#32

/-- The parity of a staged word is bad (R82). -/
def stageBad (d : Dev) (a : Nat) : Bool := ramBad d (stageBase + a)

/-- `d` with the staged word at `a` written, with good parity. -/
def setStage (a : Nat) (v : Word) (d : Dev) : Dev :=
  { d with img := { d.img with stage := cput (fun _ => none) d.img.stage (a / 4) (some v) }
           badWords := d.badWords.filter (fun x => x != (stageBase + a) / 4) }

/-- The size of a bulk target in bytes (R81); the queue targets are unbounded. -/
def bulkSize (d : Dev) (t : Nat) : Nat :=
  match t with
  | 0x1 => if devState d = stBoot then 0x500000 else if running d then 0x100000 else 0
  | 0x2 => d.hif.flashSize
  | 0x3 => 4096
  | 0x4 => 0x800000
  | 0x5 => 0x40000
  | _ => 0

/-- A queue target (R81). -/
def bulkIsQueue (t : Nat) : Bool := t == 0x6 || t == 0x7

/-- A requester of a host queue: PF0, SPI or I2C with full rights (R81). -/
def hostReq (d : Dev) (r : Req) : Bool :=
  match r with
  | .pf0 => true
  | .spi => fullRights d .spi
  | .i2c => fullRights d .i2c
  | _ => false

/-- The claim of the channel was not allowed (R81): no data access of it is served until the next claim. -/
def claimRefused (d : Dev) (c : Nat) : Bool := d.hif.refused.contains c

/-- `d` with the claim of a channel marked refused, or not. -/
def setRefused (c : Nat) (b : Bool) (d : Dev) : Dev :=
  { d with hif := { d.hif with refused := (if b then [c] else []) ++ d.hif.refused.filter (fun x => x != c) } }

/-- Another channel is owned with the queue target `t` (R81: one owner at a time). -/
def queueTaken (d : Dev) (c t : Nat) : Bool :=
  (List.range 8).any (fun x => x != c && bulkOwner d x != 0 && fld d (HIF_BULK_SEL_target x) == t && !(claimRefused d x))

/-- The target and direction of a HIF_BULK_SEL write are allowed to the requester (R81). -/
def bulkAllowed (d : Dev) (r : Req) (c t : Nat) (w : Bool) : Bool :=
  match t with
  | 0x1 => fullRights d r
  | 0x2 => !w || fullRights d r
  | 0x3 => w && fullRights d r
  | 0x4 => !w
  | 0x5 => !w
  | 0x6 => !w && hostReq d r && !(queueTaken d c 0x6)
  | 0x7 => w && hostReq d r && !(queueTaken d c 0x7)
  | _ => false

/-- A channel sets err (R80, R85): HIF_ERR.bulk and event 0x0404. An err that is set is kept until an abort or a write of HIF_BULK_SEL, so a
later error leaves it and raises nothing (log entry 124). -/
def chanErr (r : Req) (c n : Nat) (d : Dev) : Dev :=
  if fld d (HIF_BULK_STATUS_err c) ≠ 0 then d
  else raise 0x0404 (hifParam r c) (hifErr HIF_ERR_bulk r (setF (HIF_BULK_STATUS_err c) n d))

/-- The cursor of a channel. -/
def bulkCursor (d : Dev) (c : Nat) : Nat := rdN d (HIF_BULK_CURSOR c)

/-- The target of a channel. -/
def bulkTarget (d : Dev) (c : Nat) : Nat := fld d (HIF_BULK_SEL_target c)

/-- The bytes that channel `c` holds in its write buffer (R84): of pages being filled, and of pages that wait for the flash. -/
def pageBytes (d : Dev) (c : Nat) : Nat :=
  (d.hif.pageBuf.filter (fun x => x.1 / 2 ^ 32 == c)).length +
    ((d.hif.flashOps.filter (fun o => o.chan == c)).drop 1).foldl (fun n o => n + (o.data.filter Option.isSome).length) 0

/-- A flash operation of the channel runs (HIF_BULK_STATUS.busy). -/
def bulkBusy (d : Dev) (c : Nat) : Bool := d.hif.flashOps.any (fun o => o.chan == c)

/-- An erase of the channel runs. -/
def bulkErasing (d : Dev) (c : Nat) : Bool := d.hif.flashOps.any (fun o => o.chan == c && o.erase)

/-- Bytes that wait in the host receive queue: of its head, those not read yet (R308). -/
def hostWaiting (d : Dev) : Nat := (d.net.hostRx.foldl (fun n x => n + x.bytes.length) 0) - d.net.hostPos

/-- The end of the range that a channel may move: the lower of HIF_BULK_LIMIT and the size of the target (R80). -/
def bulkEnd (d : Dev) (c : Nat) : Nat := min (rdN d (HIF_BULK_LIMIT c)) (bulkSize d (bulkTarget d c))

/-- HIF_BULK_STATUS.avail: words ready to read. The prefetch of a memory target is complete between two commands; a target
whose domain is off has none. -/
def bulkAvail (d : Dev) (c : Nat) : Nat :=
  let t := bulkTarget d c
  if bulkOwner d c = 0 ∨ claimRefused d c ∨ flag d (HIF_BULK_SEL_dir c) then 0
  else if t = 0x6 then (if domOn d .pkt then min 128 (hostWaiting d / 4) else 0)
  else if t = 0x4 ∧ (!(domOn d .gnss) ∨ snapState d < 3) then 0
  else min 128 (ceilDiv (bulkEnd d c - bulkCursor d c) 4)

/-- HIF_BULK_STATUS.space: words free in the write buffer. A running erase leaves none; a running program leaves what the
following pages have not filled (R84). -/
def bulkSpace (d : Dev) (c : Nat) : Nat :=
  if bulkErasing d c then 0
  else if bulkTarget d c = 0x7 ∧ !(domOn d .pkt) then 0
  else if bulkBusy d c then 128 - min 128 (pageBytes d c / 4)
  else 128

/-! ### Flash operations -/

/-- A flash address of the archive, which host writes may not reach (R83). -/
def inArchive (a : Nat) : Bool := decide (0x01000000 ≤ a) && decide (a < 0x01400000)

/-- The slot that holds a flash address: 0 A, 1 B (R83). -/
def slotAt (a : Nat) : Option Nat := if a < 0x800000 then some 0 else if a < 0x1000000 then some 1 else none

/-- An erase or program at `a` in the slot named by IMG_LKG clears lkg_valid (R84), and a state block follows (R431). -/
def touchSlot (a : Nat) (d : Dev) : Dev :=
  if slotAt a = some (fld d IMG_LKG_slot) ∧ d.img.lkgValid then
    { d with img := { d.img with lkgValid := false }, log := { d.log with forced := true } }
  else d

/-- The bytes that the page buffer holds for a page. -/
def pageData (d : Dev) (c base : Nat) : List (Option Byte) :=
  (List.range 256).map (fun i => cget (fun _ => none) d.hif.pageBuf (c * 2 ^ 32 + base + i))

/-- The page at `base` of a channel's page buffer goes to the flash (R84). -/
def startProgram (c base : Nat) (d : Dev) : Dev :=
  let op : FlashOp := { chan := c, base := base, data := pageData d c base, erase := false }
  touchSlot base { d with hif := { d.hif with
    flashOps := d.hif.flashOps ++ [op],
    pageBuf := ckeep (fun k => !(decide (c * 2 ^ 32 + base ≤ k) && decide (k < c * 2 ^ 32 + base + 256))) d.hif.pageBuf } }

/-- The page of the oldest byte in a channel's page buffer. -/
def firstPage (d : Dev) (c : Nat) : Option Nat :=
  (d.hif.pageBuf.find? (fun x => x.1 / 2 ^ 32 == c)).map (fun x => x.1 % 2 ^ 32 / 256 * 256)

/-- A page that the cursor has left is programmed once no operation of the channel runs (R84). -/
def programLeft (c : Nat) (d : Dev) : Dev :=
  match firstPage d c with
  | some b => if bulkBusy d c || decide (b = bulkCursor d c / 256 * 256) then d else startProgram c b d
  | none => d

/-- A word stored in the page buffer at the cursor. -/
def pagePut (c : Nat) (v : Word) (d : Dev) : Dev :=
  let k := c * 2 ^ 32 + bulkCursor d c
  let put := fun (m : Cells (Option Byte)) (i : Nat) => cput (fun _ => none) m (k + i) (some (BitVec.ofNat 8 (v.toNat >>> (8 * i))))
  { d with hif := { d.hif with pageBuf := put (put (put (put d.hif.pageBuf 0) 1) 2) 3 } }

/-- The operations without the programs of channel `c` that still wait behind another of its operations. -/
def runningOps (c : Nat) (l : List FlashOp) : List FlashOp :=
  match l.find? (fun o => o.chan == c) with
  | none => l
  | some h => l.filter (fun o => o.chan != c || o.erase || o == h)

/-- The channel's write buffer emptied: what was not programmed is lost. -/
def dropPages (c : Nat) (d : Dev) : Dev :=
  { d with hif := { d.hif with pageBuf := ckeep (fun k => k / 2 ^ 32 != c) d.hif.pageBuf, flashOps := runningOps c d.hif.flashOps } }

/-! ### The data port -/

/-- The cursor moves on by a word (R80); the cursor of a queue target counts and wraps. -/
def bulkStep (c : Nat) (d : Dev) : Dev := wrN (HIF_BULK_CURSOR c) (bulkCursor d c + 4) d

/-- A word of the host receive queue taken; a record read whole returns its buffers (R308, R310). -/
def hostTake (d : Dev) : Word × Dev :=
  match d.net.hostRx with
  | [] => (0#32, d)
  | x :: xs =>
    let w := BitVec.ofNat 32 (leNat (sliceOf x.bytes d.net.hostPos 4))
    if x.bytes.length ≤ d.net.hostPos + 4 then
      (w, bufMove SVC_BUF_HOSTQ SVC_BUF_FREE x.bufs { d with net := { d.net with hostRx := xs, hostPos := 0 } })
    else (w, { d with net := { d.net with hostPos := d.net.hostPos + 4 } })

/-- A word read of a memory target at the cursor. A parity error in the staging area sets err 6 (R82); the word that a read with
bad parity returns is not stated: a free value. -/
def bulkMem (r : Req) (c : Nat) (d : Dev) : Word × Dev :=
  let a := bulkCursor d c
  match bulkTarget d c with
  | 0x1 =>
    if stageBad d a then (BitVec.ofNat 32 (freeVal d), chanErr r c 6 (draw d)) else (stageWordAt d a, d)
  | 0x2 => (BitVec.ofNat 32 (leNat (flashBytes d a 4)), d)
  | 0x4 => (ramWord d (snapBase + a), d)
  | _ => (ramWord d (recBase + a), d)

/-- The word that the owner's read of the data port returns, and the device after it (R80). -/
def bulkGet (r : Req) (c : Nat) (d : Dev) : Word × Dev :=
  let t := bulkTarget d c
  if claimRefused d c then (0#32, chanErr r c 3 d)
  else if !(bulkIsQueue t) && decide (bulkEnd d c ≤ bulkCursor d c) then (0#32, chanErr r c 3 d)
  else if bulkAvail d c = 0 then (0#32, chanErr r c 1 d)
  else
    let x := if t = 0x6 then hostTake d else bulkMem r c d
    (x.1, bulkStep c x.2)

/-- A word written to a target at the cursor, which then moves on. -/
def bulkStore (c : Nat) (v : Word) (d : Dev) : Dev :=
  let a := bulkCursor d c
  match bulkTarget d c with
  | 0x1 => bulkStep c (setStage a v d)
  | 0x2 => programLeft c (bulkStep c (pagePut c v d))
  | 0x3 =>
    bulkStep c (forEach (List.range 4) (fun i x => keyCollect c (a + i) (BitVec.ofNat 8 (v.toNat >>> (8 * i))) x) d)
  | _ => bulkStep c { d with net := { d.net with hostTx := d.net.hostTx ++ leBytes 4 v.toNat } }

/-- The owner's write of the data port (R80, R83). -/
def bulkPut (r : Req) (c : Nat) (v : Word) (d : Dev) : Dev :=
  let t := bulkTarget d c
  if claimRefused d c then chanErr r c 3 d
  else if !(flag d (HIF_BULK_SEL_dir c)) then d
  else if !(bulkIsQueue t) && decide (bulkEnd d c ≤ bulkCursor d c) then chanErr r c 3 d
  else if t = 0x2 ∧ inArchive (bulkCursor d c) then chanErr r c 4 d
  else if bulkSpace d c = 0 then chanErr r c 2 d
  else bulkStore c v d

/-! ### Channel registers -/

/-- A channel aborted (R79, R308): its buffers are empty and err is clear; the rest of a record being read is discarded, and a
delivery that is not complete is refused (R322). -/
def bulkAbortOp (c : Nat) (d : Dev) : Dev :=
  let d1 := dropPages c (setF (HIF_BULK_STATUS_err c) 0 d)
  let d2 := doIf (bulkTarget d c == 0x3) (dlvDiscard c) d1
  if bulkTarget d c = 0x6 ∧ 0 < d2.net.hostPos then
    match d2.net.hostRx with
    | [] => d2
    | x :: xs => bufMove SVC_BUF_HOSTQ SVC_BUF_FREE x.bufs { d2 with net := { d2.net with hostRx := xs, hostPos := 0 } }
  else d2

/-- A channel aborted and freed (R79). -/
def bulkReleaseOp (c : Nat) (d : Dev) : Dev := snapSettle (setRefused c false (wrN (HIF_BULK_SEL c) 0 (bulkAbortOp c d)))

/-- `f` where the channel is free or the requester's own; another requester's channel is refused (R79). What an access to a free channel does
beside a claim is the model's choice (log entry 124). -/
def onChannel (r : Req) (c : Nat) (f : Dev → Dev) (d : Dev) : Dev :=
  if bulkOwner d c = 0 ∨ bulkOwner d c = reqCode r then f d else ownedErr r c d

/-- A write of HIF_BULK_SEL (R79, R81): it claims a free channel, or aborts the owner's; what is not allowed sets err 4. Without own a free
channel takes target and direction from a requester with full rights; an observer may only claim (R63). A claim leaves cursor and
limit (DESIGN CHOICE, log entry 124). -/
def bulkSelOp (r : Req) (c : Nat) (v : Word) (d : Dev) : Dev :=
  let t := bitsOf v 0 4
  let w := bitAt v 4
  let mine := bulkOwner d c != 0
  if mine || bitAt v 5 then
    let d1 := doIf mine (bulkAbortOp c) d
    let d2 := wrN (HIF_BULK_SEL c) (t + b2n w * 16 + b2n (bitAt v 5) * 32 + reqCode r * 256) d1
    let ok := bulkAllowed d2 r c t w
    snapSettle (doIf (!ok) (chanErr r c 4) (setRefused c (!ok) (setF (HIF_BULK_STATUS_err c) 0 d2)))
  else if fullRights d r then wrN (HIF_BULK_SEL c) (t + b2n w * 16) d
  else obsRefuse r (HIF_BULK_SEL c) d

/-- A write of HIF_BULK_CURSOR (R80): bits [1:0] are dropped. A page that the cursor leaves is programmed (R84). -/
def bulkCursorOp (c : Nat) (v : Word) (d : Dev) : Dev :=
  doIf (bulkTarget d c == 0x2) (programLeft c) (wrN (HIF_BULK_CURSOR c) (v.toNat / 4 * 4) d)

/-- Every page in a channel's page buffer, in rising order. -/
def pagesOf (d : Dev) (c : Nat) : List Nat :=
  ((d.hif.pageBuf.filter (fun x => x.1 / 2 ^ 32 == c)).map (fun x => x.1 % 2 ^ 32 / 256 * 256)).eraseDups

/-- HIF_BULK_CMD.flush (R84): what the page buffer holds is programmed, behind an operation of the channel that still runs. -/
def bulkFlushOp (c : Nat) (d : Dev) : Dev := doIf (bulkTarget d c == 0x2) (fun x => forEach (pagesOf x c) (startProgram c) x) d

/-- HIF_BULK_CMD.erase (R83, R84): the 64 KiB sector that holds the cursor; a sector of the archive is refused. Each erase counts in
life counter 12 (R435). An erase of a channel that does not write flash is ignored, one beyond the flash sets err 3 (DESIGN CHOICE, log
entry 124). -/
def bulkEraseOp (r : Req) (c : Nat) (d : Dev) : Dev :=
  let a := bulkCursor d c
  if bulkTarget d c ≠ 0x2 ∨ !(flag d (HIF_BULK_SEL_dir c)) ∨ claimRefused d c then d
  else if bulkSize d 0x2 ≤ a then chanErr r c 3 d
  else if inArchive a then chanErr r c 4 d
  else
    let op : FlashOp := { chan := c, base := a / 65536 * 65536, data := [], erase := true }
    lifeAdd 12 1 (touchSlot a { d with hif := { d.hif with flashOps := d.hif.flashOps ++ [op] } })

/-- The running operation of a channel, its oldest, taken off the list where it is of the given kind. -/
def takeOp (c : Nat) (er : Bool) (d : Dev) : Option (FlashOp × Dev) :=
  match d.hif.flashOps.find? (fun o => o.chan == c) with
  | none => none
  | some o => if o.erase = er then some (o, { d with hif := { d.hif with flashOps := d.hif.flashOps.erase o } }) else none

/-- The requester that owns a channel. -/
def ownerReq (d : Dev) (c : Nat) : Req :=
  match bulkOwner d c with
  | 1 => .pf0
  | 2 => .pf1
  | 3 => .spi
  | 4 => .i2c
  | _ => .fw

/-- A page program ends (R84): programming clears bits and never sets one; a read-back that differs from a byte that was to be programmed
sets err 5. The next page that the cursor has left follows. `readBack` is what the page then holds. -/
def programDone (c : Nat) (readBack : List Byte) (d : Dev) : Dev :=
  match takeOp c false d with
  | none => d
  | some (o, d1) =>
    let want := fun (i : Nat) => o.data.getD i none
    let got := fun (i : Nat) => readBack.getD i (((want i).getD 0xFF#8) &&& flashByte d1 (o.base + i))
    let d2 := setFlashBytes o.base ((List.range 256).map got) d1
    let bad := (List.range 256).any (fun i => match want i with | some b => got i != b | none => false)
    programLeft c (doIf (bad && bulkOwner d2 c != 0) (chanErr (ownerReq d2 c) c 5) d2)

/-- A sector erase ends (R84). -/
def eraseDone (c : Nat) (d : Dev) : Dev :=
  match takeOp c true d with
  | none => d
  | some (o, d1) =>
    programLeft c { d1 with flash := ckeep (fun a => decide (a < o.base) || decide (o.base + 65536 ≤ a)) d1.flash }

end Sys2Proof.Machine
end

