-- ==== Sys2Proof/Machine/Image.lean ====
section
/-! DEFINITION. The images of spec/02_structure_image.md: where they are read from, the verification of one (R47, R48), the check of a
set (R52), and the register fields that a structure image holds (R488). The commands are in Img.lean. -/

namespace Sys2Proof.Machine

open Sys2Proof

/-! ### Reading images -/

/-- The maximum length of an image by kind (R47). -/
def imgLimit (kind : Nat) : Nat := if kind = 2 then 0x300000 else 0x100000

/-- The place of an image within a slot, and within the staging area (R53, R82). -/
def imgPlace (kind : Nat) : Nat := if kind = 1 then 0 else if kind = 2 then 0x100000 else 0x400000

/-- The flash offset of a slot (R53). -/
def slotBase (s : Nat) : Nat := if s = 0 then 0 else 0x800000

/-- An image of a flash slot: as many bytes as its header says, or the header alone where that passes the limit. -/
def flashImage (d : Dev) (s kind : Nat) : List Byte :=
  let a := slotBase s + imgPlace kind
  let n := leNat (flashBytes d (a + 12) 4)
  flashBytes d a (if n ≤ imgLimit kind then max 64 n else 64)

/-- The staged length of an image of a kind (R57). -/
def stageLen (d : Dev) (kind : Nat) : Nat := bitsOf (rd d (bank IMG_STAGE_LEN kind)) 0 23

/-- A byte of the staging area. -/
def stageByte (d : Dev) (a : Nat) : Byte := BitVec.ofNat 8 ((stageWordAt d a).toNat >>> (8 * (a % 4)))

/-- A staged image: the bytes that IMG_STAGE_LEN gives it (R57). -/
def stageImage (d : Dev) (kind : Nat) : List Byte := (List.range (stageLen d kind)).map (fun i => stageByte d (imgPlace kind + i))

/-- A staged image holds a word of bad parity (R82). -/
def stageParity (d : Dev) (kind : Nat) : Bool :=
  d.badWords.any (fun w => decide (stageBase + imgPlace kind ≤ w * 4) && decide (w * 4 < stageBase + imgPlace kind + stageLen d kind))

/-! ### Sections -/

/-- The section types of R48. -/
def sectTypes : List Nat := [1, 2, 3, 4, 5, 6, 7, 8, 9, 0x10, 0x11, 0x12, 0x13]

/-- The mandatory sections of R48. -/
def sectNeeded : List Nat := [1, 2, 3, 4, 5, 6, 7, 9, 0x10, 0x11, 0x12]

/-- The live sections of R48. -/
def sectLive (t : Nat) : Bool := decide (0x10 ≤ t)

/-- The section of a type, if the image has one. -/
def sectOf (b : List Byte) (t : Nat) : Option (List Byte) := ((sectsOf b).find? (fun x => x.type == t)).map (fun x => x.bytes)

/-- The key of a value that no register holds, for Config.imageField: beyond every register address. -/
def noReg (n : Nat) : Nat := 2 ^ 40 + n

/-- A value that a section holds for the model's own state. -/
def sectValue (b : List Byte) (t n : Nat) : Nat := match sectOf b t with | some x => Config.imageField x (noReg n) 0 | none => 0

/-- The optional domains (R48: PD_SYA, PD_SYB, PD_GNSS, PD_SQ0 to PD_SQ3), one bit each. -/
def optionalDoms : Nat := 0x3C70

/-- The domains that DOMAINS declares. -/
def declaredOf (b : List Byte) : Nat := sectValue b 4 4 &&& optionalDoms

/-- The image declares PD_GNSS (R52). -/
def hasGnss (b : List Byte) : Bool := declaredOf b / 64 % 2 == 1

/-- POLICY_BOOT.untested_ok. -/
def untestedOk (b : List Byte) : Bool := sectValue b 9 9 % 2 == 1

/-- SHA-256 of the KEY_LAYOUT section (R52). -/
def layoutHash (b : List Byte) : Nat := Config.sha256 ((sectOf b 7).getD []) % 2 ^ 256

/-- The register fields that a section holds (R48, R488). -/
def sectFlds (t : Nat) : List Fld :=
  match t with
  | 0x01 =>
    (List.range 8).flatMap (fun b =>
      [PORT_STATUS_mode b, PORT_STATUS_fec b, PORT_MAX_FRAME_m b])
  | 0x02 =>
    (List.range 32).flatMap (fun s =>
      [REF_SLOT_CFG_kind s, REF_SLOT_CFG_source s, REF_SLOT_CFG_enable s, REF_SLOT_CFG_ql_option s, REF_SLOT_CFG_ql_min s,
       REF_SLOT_CFG_class s, ⟨REF_SLOT_FSOFT s, 0, 32⟩, ⟨REF_SLOT_FHARD s, 0, 32⟩, REF_SLOT_PWIN_soft s, REF_SLOT_PWIN_hard s,
       REF_SLOT_JWIN_jitter s, REF_SLOT_JWIN_timeout s, ⟨REF_SLOT_OFS s, 0, 32⟩, REF_SLOT_UNC_unc s]) ++
    (List.range 4).flatMap (fun o => [REF_OSC_CFG_present o, REF_OSC_CFG_atomic o, REF_OSC_CFG_efc o]) ++
    [REF_TICK_SEL_current, REF_TICK_SEL_next, ⟨REF_EFC_GAIN 0, 0, 32⟩, ⟨REF_EFC_GAIN 1, 0, 32⟩]
  | 0x03 =>
    [SYN_STATUS_mode, SYN_STATUS_serdes_pll] ++ (List.range 4).map SYN_OSC_FNOM_hz ++
    (List.range 4).flatMap (fun p => [SYN_PLL_CFG_ref p, SYN_PLL_CFG_steer p, SYN_PLL_NINT_nint p, ⟨SYN_PLL_NFRAC p, 0, 32⟩]) ++
    (List.range 16).flatMap (fun o =>
      [SYN_OUT_CFG_pll o, SYN_OUT_CFG_align o, SYN_OUT_CFG_claim o, SYN_OUT_CFG_group o, SYN_OUT_CFG_fmt o, SYN_OUT_DIV_d o]) ++
    (List.range 8).map SYN_GRP_DIV_d ++ (List.range 4).map SYN_PPS_CFG_claim
  | 0x05 => [SVC_STATUS_split]
  | 0x06 =>
    (List.range 16).flatMap (fun u => [SVC_UC_BASE_base u, SVC_UC_SIZE_size u]) ++
    [⟨SVC_CLOCK_ID_LO, 0, 32⟩, ⟨SVC_CLOCK_ID_HI, 0, 32⟩]
  | 0x07 => [KEY_LAYOUT_INFO_nts, KEY_LAYOUT_INFO_sa, KEY_LAYOUT_INFO_seal_en, KEY_LAYOUT_INFO_zeroize]
  | 0x08 =>
    (List.range 4).flatMap (fun i => [CTL_USER_RANGE_BASE_page i, CTL_USER_RANGE_BASE_valid i, CTL_USER_RANGE_PAGES_pages i]) ++
    [CTL_USER_LIMIT_pages]
  | 0x09 => [TB_STATUS_step_policy]
  | 0x10 =>
    [⟨BND_LIMIT_LO, 0, 32⟩, BND_LIMIT_HI_ps, ⟨BND_WARN, 0, 32⟩, REF_QUAL_qual_time, ⟨TB_SLEW_LIMIT, 0, 32⟩, ⟨TB_STEP_THRESH, 0, 32⟩,
     REF_SERVO_BW_mhz, ⟨REF_HOLD_SPEC, 0, 32⟩]
  | 0x12 => (List.range 16).flatMap (fun i => [REF_PRIO_slot i, REF_PRIO_rank i, REF_PRIO_enable i, REF_PRIO_revert i])
  | 0x13 => [SVC_WEIR_NTP_rate, SVC_WEIR_NTP_depth, SVC_WEIR_PTP_rate, SVC_WEIR_PTP_depth]
  | _ => []

/-- The value that a section gives a field; both halves of REF_TICK_SEL start as the tick oscillator. -/
def sectField (sect : List Byte) (f : Fld) : Nat :=
  if f = REF_TICK_SEL_next then Config.imageField sect REF_TICK_SEL 0 else Config.imageField sect f.reg f.lo

/-- The values that the owning chapters allow a field to take: port modes and maximum frame sizes (R234, PORT_MAX_FRAME), slot kinds,
DACs and revert modes (REF_SLOT_CFG, REF_OSC_CFG, REF_PRIO), oscillators up to 125 MHz, feedback and output dividers, references and
formats of SYN (R184, R194, R477), pipeline assignments (R278), store sizes (R292), the key layout (R318), limits of user pages (R373),
step policy and threshold (R94, R95), slew limit (R99), servo bandwidth (REF_SERVO_BW) and weir depths (SVC_WEIR_PTP, and the 14-bit
tokens of R302). Every other field takes whatever its width holds. -/
def fieldInRange (f : Fld) (v : Nat) : Bool :=
  let is (l : List Fld) := l.contains f
  let ports := List.range 8
  if is (ports.map PORT_STATUS_mode) then decide (v ≤ 5)
  else if is (ports.map PORT_MAX_FRAME_m) then decide (2048 ≤ v) && decide (v ≤ 9216)
  else if is ((List.range 32).map REF_SLOT_CFG_kind) then decide (v ≤ 6)
  else if is ((List.range 4).map REF_OSC_CFG_efc) || is ((List.range 16).map REF_PRIO_revert) then decide (v ≤ 2)
  else if is ((List.range 4).map SYN_OSC_FNOM_hz) then decide (v ≤ 125000000)
  else if is ((List.range 4).map SYN_PLL_CFG_ref) then decide (v ≤ 4)
  else if is ((List.range 4).map SYN_PLL_NINT_nint) then decide (80 ≤ v) && decide (v ≤ 13000)
  else if is ((List.range 16).map SYN_OUT_DIV_d) || is ((List.range 8).map SYN_GRP_DIV_d) then decide (8 ≤ v)
  else if is ((List.range 16).map SYN_OUT_CFG_fmt) then decide (v ≤ 4)
  else if f = SVC_STATUS_split then (List.range 4).all (fun i => decide (v / 4 ^ i % 4 ≠ 0))
  else if is ((List.range 16).map SVC_UC_SIZE_size) then decide (v % 4 = 0)
  else if f = KEY_LAYOUT_INFO_nts then decide (2 ≤ v) && decide (v ≤ 16)
  else if f = KEY_LAYOUT_INFO_sa then decide (16 ≤ v) && decide (v ≤ 1024)
  else if f = KEY_LAYOUT_INFO_zeroize || f = TB_STATUS_step_policy then decide (v ≤ 2)
  else if f = ⟨TB_SLEW_LIMIT, 0, 32⟩ then decide (1 ≤ v)
  else if f = ⟨TB_STEP_THRESH, 0, 32⟩ then decide (1 ≤ v) && decide (v ≤ 1000000000)
  else if f = REF_SERVO_BW_mhz then decide (1 ≤ v) && decide (v ≤ 10000)
  else if f = SVC_WEIR_NTP_depth || f = SVC_WEIR_PTP_depth then decide (v ≤ 2047)
  else true

/-- The relations between the fields of one section: PORT 2q + 1 is unused beside 100GbE NRZ and never 100GbE NRZ itself (R233); the
source of a pin or SyncE slot exists (R136); a session range lies in the store (R292); a user range lies in control SRAM (R373); TLV
type as R181 lists it. -/
def sectRelations (t : Nat) (x : List Byte) : Bool :=
  let v := sectField x
  match t with
  | 0x01 => (List.range 4).all (fun q =>
      v (PORT_STATUS_mode (2 * q + 1)) != 2 && (v (PORT_STATUS_mode (2 * q)) != 2 || v (PORT_STATUS_mode (2 * q + 1)) == 0))
  | 0x02 => (List.range 32).all (fun s =>
      let k := v (REF_SLOT_CFG_kind s)
      let src := v (REF_SLOT_CFG_source s)
      if k = 1 ∨ k = 2 then decide (src ≤ 7) else k != 3 || decide (src ≤ 15))
  | 0x06 => (List.range 16).all (fun u => decide (v (SVC_UC_BASE_base u) + v (SVC_UC_SIZE_size u) ≤ 262144))
  | 0x08 => (List.range 4).all (fun i =>
      v (CTL_USER_RANGE_BASE_valid i) != 1 || decide (v (CTL_USER_RANGE_BASE_page i) + v (CTL_USER_RANGE_PAGES_pages i) ≤ 2048))
  | 0x11 => [0x0003, 0x4000, 0x8000].contains (Config.imageField x (noReg 0x112) 0)
  | _ => true

/-- Every value of a section fits its field, lies in its range, and agrees with the others of its section (R48, R488). -/
def sectRangesOk (t : Nat) (x : List Byte) : Bool :=
  (sectFlds t).all (fun f => decide (sectField x f < 2 ^ f.wd) && fieldInRange f (sectField x f)) && sectRelations t x

/-- Every value of a structure image lies in the range that the owning chapter gives it (R48, R488). -/
def imgRangesOk (b : List Byte) : Bool :=
  sectTypes.all (fun t => match sectOf b t with | some x => sectRangesOk t x | none => true)

/-! ### Verification -/

/-- The public key of an image hashes to the fuse slot that it names, and the slot is not revoked (R47). -/
def imgKeyOk (d : Dev) (b : List Byte) : Bool :=
  let k := imgAt b 7 1
  decide (k < 4) && hashInUse d k && decide (Config.sha256 (sliceOf b 32 32) % 2 ^ 256 = fuseHash d k)

/-- The signature of an image over everything before it is valid (R47). -/
def imgSigOk (b : List Byte) : Bool := Config.ed25519 (sliceOf b 32 32) (b.take (imgLen b - 64)) (b.drop (imgLen b - 64))

/-- Every section lies inside the image with a known type, no mandatory one is missing, every value is in its range, the build
identifier is legal and the tested-with list holds no wildcard (R46 to R48, R51). Firmware section types are not listed. -/
def imgSectsOk (kind : Nat) (b : List Byte) : Bool :=
  let l := sectsOf b
  (kind != 1 || imgRangesOk b) && l.all (fun x => x.inside && (kind != 1 || sectTypes.contains x.type)) &&
    (kind != 1 || sectNeeded.all (fun t => l.any (fun x => x.type == t))) &&
    imgBuild b != 0 && imgBuild b != 0xFFFFFFFF && (testedOf b).all (fun t => t.2 != 0xFFFFFFFF)

/-- The cause with which an image fails verification, 0 when it is verified (R47, R48). A length below header and signature is
illegal. -/
def verifyImage (d : Dev) (kind : Nat) (readErr : Bool) (b : List Byte) : Nat :=
  if readErr then 0x05
  else if imgAt b 0 4 ≠ 0x31584453 ∨ imgAt b 4 2 ≠ 1 ∨ imgAt b 6 1 ≠ kind then 0x01
  else if imgLen b < 128 ∨ imgLimit kind < imgLen b ∨ imgLen b ≠ b.length then 0x02
  else if !(imgKeyOk d b) then 0x03
  else if !(imgSigOk b) then 0x04
  else if !(imgSectsOk kind b) then 0x0C
  else 0

/-! ### The check of a set -/

/-- What the check of a set finds: cause, pair, interface and the builds of the pair for IMG_CAUSE and its event (R61); the first
pair that is not tested together, with its builds. -/
structure SetCheck where
  cause : Nat
  pair : Nat
  iface : Nat
  builds : Option (Nat × Nat)
  untested : Option (Nat × Nat × Nat)
  deriving DecidableEq, Repr

/-- A check that fails with a cause. -/
def setFails (cause : Nat) : SetCheck := { cause := cause, pair := 0, iface := 0, builds := none, untested := none }

/-- A party of a set (R49, R50): kind, build, interface table, tested-with list. -/
structure Party where
  kind : Nat
  build : Nat
  ifaces : List Iface
  tested : List (Nat × Nat)
  deriving DecidableEq, Repr

/-- The build identifier of the hardware (R50). -/
def hwBuild : Nat := 0xB0

/-- The boot ROM as the hardware's party (R51): its list carries the wildcard for each image kind. -/
def romParty (d : Dev) : Party :=
  { kind := 0, build := hwBuild, ifaces := ifacesAt d.img.rom 0 (d.img.rom.length / 8)
    tested := [(1, 0xFFFFFFFF), (2, 0xFFFFFFFF), (3, 0xFFFFFFFF)] }

/-- An image as a party. -/
def imgParty (kind : Nat) (b : List Byte) : Party :=
  { kind := kind, build := imgBuild b, ifaces := ifacesOf b, tested := testedOf b }

/-- The parties of a set of images by kind. -/
def partiesOf (d : Dev) (l : List (Nat × List Byte)) : List Party := romParty d :: l.map (fun x => imgParty x.1 x.2)

/-- A party names another on its list; the wildcard means any build whose own list names the hardware (R51). -/
def names (a b : Party) : Bool :=
  a.tested.any (fun t => t.1 == b.kind && (t.2 == b.build || (t.2 == 0xFFFFFFFF && b.tested.contains (0, hwBuild))))

/-- The pair number of IMG_CAUSE (R52): 1 hardware and structure, 2 hardware and core, 3 hardware and baseband, 4 structure and
core, 5 structure and baseband, 6 core and baseband. -/
def pairNo (a b : Nat) : Nat := if a = 0 then b else if a = 1 then b + 2 else 6

/-- The pairs of a set in their order. -/
def pairsOf : List Party → List (Party × Party)
  | [] => []
  | p :: ps => ps.map (fun q => (p, q)) ++ pairsOf ps

/-- The first pair that is not tested together (R50, R52). -/
def firstUntested (ps : List Party) : Option (Nat × Nat × Nat) :=
  ((pairsOf ps).find? (fun x => !(names x.1 x.2 && names x.2 x.1))).map (fun x => (pairNo x.1.kind x.2.kind, x.1.build, x.2.build))

/-- A requirement is met (R49): some party provides the interface at a version in its range, or it is optional and no party provides
the interface. -/
def requirementMet (ps : List Party) (e : Iface) : Bool :=
  let given := (ps.flatMap (fun p => p.ifaces)).filter (fun x => x.id == e.id && !x.requires)
  given.any (fun x => decide (e.lo ≤ x.lo) && decide (x.lo ≤ e.hi)) || (e.optional && given.isEmpty)

/-- The first requirement that is not met. -/
def firstUnmet (ps : List Party) : Option Nat :=
  ((ps.flatMap (fun p => p.ifaces)).find? (fun e => e.requires && !(requirementMet ps e))).map (fun e => e.id)

/-- Steps 2 and 3 of R52 over the parties of a set whose structure image is `s`. IMG_CAUSE names no pair for an unmet requirement
(DESIGN CHOICE, log entry 121). -/
def checkParties (ps : List Party) (s : List Byte) : SetCheck :=
  match firstUnmet ps with
  | some i => { cause := 0x06, pair := 0, iface := i, builds := none, untested := none }
  | none =>
    match firstUntested ps with
    | none => setFails 0
    | some (n, a, b) =>
      if untestedOk s then { cause := 0, pair := 0, iface := 0, builds := none, untested := some (n, a, b) }
      else { cause := 0x07, pair := n, iface := 0, builds := some (a, b), untested := some (n, a, b) }

/-- The images of a set with their kinds: no baseband firmware where DOMAINS declares no PD_GNSS (R52). -/
def setOf (s c b : List Byte) : List (Nat × List Byte) := [(1, s), (2, c)] ++ (if hasGnss s then [(3, b)] else [])

/-- The first cause with which an image of a set fails verification. -/
def verifySet (d : Dev) (errs : List Bool) (l : List (Nat × List Byte)) : Nat :=
  (l.map (fun x => verifyImage d x.1 (errs.getD (x.1 - 1) false) x.2)).find? (fun c => c != 0) |>.getD 0

/-- The check of a set (R52): verification, requirements, tested together, key layout. -/
def checkSet (d : Dev) (errs : List Bool) (l : List (Nat × List Byte)) : SetCheck :=
  let s := (l.headD (0, [])).2
  let v := verifySet d errs l
  if v ≠ 0 then setFails v
  else
    let r := checkParties (partiesOf d l) s
    if r.cause ≠ 0 then r
    else
      match d.img.layout with
      | some h => if h ≠ layoutHash s ∧ !(windowOpen d) then setFails 0x08 else r
      | none => r

/-! ### Events and refusals -/

/-- An IMG event (R61): IMG_CAUSE, and the builds of the pair; where the spec names no pair they are free values. -/
def imgEvent (code : Nat) (builds : Option (Nat × Nat)) (d : Dev) : Dev :=
  let c := rdN d IMG_CAUSE
  match builds with
  | some (a, b) => raise3 code c c a b d
  | none => raise code c d

/-- A refusal written into IMG_CAUSE: cause, pair, source of the refused set, interface. -/
def imgCause (r : SetCheck) (src : Nat) (d : Dev) : Dev :=
  wrN IMG_CAUSE (r.cause + r.pair * 256 + src * 4096 + r.iface % 65536 * 65536) d

/-- A refused set (R54, R61): 0x0803 for an unmet requirement, 0x0804 for an untested set, else 0x0802. -/
def imgRefuse (r : SetCheck) (src : Nat) (d : Dev) : Dev :=
  imgEvent (if r.cause = 0x06 then 0x0803 else if r.cause = 0x07 then 0x0804 else 0x0802) r.builds (imgCause r src d)

/-- Cause 0x0A: command not allowed now, of a set of source `src`; no pair and no interface (IMG_CAUSE). -/
def imgNotNow (src : Nat) (d : Dev) : Dev := imgCause (setFails 0x0A) src d

/-! ### The values of an image -/

/-- What PORT_MAP's modes fix of port block `b` (R233, R234): FEC is on in the 100GbE modes and absent in the 10GbE and 1000BASE-X modes;
two subports below 100GbE; its lowest lane is 4q, or 4q + 2. -/
def portLayout (b : Nat) (d : Dev) : Dev :=
  let m := fld d (PORT_STATUS_mode b)
  let d2 := if m = 3 then d else setB (PORT_STATUS_fec b) (m == 1 || m == 2) d
  setB (PORT_STATUS_two_sub b) (decide (3 ≤ m)) (setF (PORT_STATUS_first_lane b) (2 * b) d2)

/-- `d` with the fields of a section that meet `p` set from it; CTL_STATUS.user_ok shows that USER_TASK is there (R373). -/
def applySect (p : Nat → Bool) (t : Nat) (sect : List Byte) (d : Dev) : Dev :=
  let d1 := forEach ((sectFlds t).filter (fun f => p f.reg)) (fun f x => setF f (sectField sect f) x) d
  let d2 := doIf (t == 1) (forEach ((List.range 8).filter (fun b => p (PORT_STATUS b))) portLayout) d1
  doIf (t == 8 && p CTL_STATUS) (setF CTL_STATUS_user_ok 1) d2

/-- The running structure image; empty where nothing runs. -/
def runImage (d : Dev) : List Byte := d.img.run.headD []

/-- `d` with the image's register fields in force for every register that meets `p` (R488). -/
def applyImage (p : Nat → Bool) (d : Dev) : Dev :=
  forEach sectTypes (fun t x => match sectOf (runImage d) t with | some sect => applySect p t sect x | none => x) d

/-- The values of the live sections that no register holds (R48): revertive default and IDENT. -/
def applyLiveHidden (d : Dev) : Dev :=
  let b := runImage d
  { d with img := { d.img with
      revertive := sectValue b 0x10 0x10 % 2 == 1, org := sectValue b 0x11 0x110 % 2 ^ 24, orgSub := sectValue b 0x11 0x111 % 2 ^ 24
      tlvType := sectValue b 0x11 0x112 % 2 ^ 16, ntpField := sectValue b 0x11 0x113 % 2 ^ 16 } }

/-- The values of the fixed sections that no register holds: declared domains, serve_at_start, the PLLs that OUTPUT_MODE starts. -/
def applyFixedHidden (d : Dev) : Dev :=
  let b := runImage d
  { d with pwr := { d.pwr with declared := declaredOf b }
           img := { d.img with serveAtStart := sectValue b 9 0x90 % 2 == 1 }
           syn := { d.syn with auto := (List.range 4).filter (fun p => sectValue b 3 3 / 2 ^ p % 2 == 1) } }

/-- The register belongs to a live section. -/
def liveReg (a : Nat) : Bool := [0x10, 0x12, 0x13].any (fun t => (sectFlds t).any (fun f => f.reg == a))

/-- Without a WEIR section the SVC defaults apply (R48). -/
def weirDefaults (d : Dev) : Dev :=
  doIf (sectOf (runImage d) 0x13).isNone (fun x => wr SVC_WEIR_NTP (resetOf SVC_WEIR_NTP) (wr SVC_WEIR_PTP (resetOf SVC_WEIR_PTP) x)) d

/-- The live sections of a reloaded image in force (R59, R488): as a write of each field. -/
def applyLive (d : Dev) : Dev := limitF (refreshGains (applyLiveHidden (weirDefaults (applyImage liveReg d))))

/-- The build identifiers of the running set. -/
def putBuilds (d : Dev) : Dev :=
  let n := fun (i : Nat) => match d.img.run[i]? with | some b => imgBuild b | none => 0
  wrN IMG_BUILD_BB (n 2) (wrN IMG_BUILD_CORE (n 1) (wrN IMG_BUILD_STRUCT (n 0) d))

/-- A change of what the archive must keep: a forced state block follows within 1 s (R431). -/
def forceBlock (d : Dev) : Dev := { d with log := { d.log with forced := true } }

/-- A slot marked bad (R55): cause 0x0B, event 0x080A. -/
def markBad (s : Nat) (d : Dev) : Dev :=
  let d1 := forceBlock { d with img := if s = 0 then { d.img with badA := true } else { d.img with badB := true } }
  imgEvent 0x080A none (imgCause (setFails 0x0B) s d1)

/-- A slot is marked bad. -/
def slotBad (d : Dev) (s : Nat) : Bool := if s = 0 then d.img.badA else d.img.badB

/-- The boot-attempt counter of a slot (R55). -/
def slotAttempts (d : Dev) (s : Nat) : Nat := if s = 0 then d.img.attA else d.img.attB

/-- `d` with the attempt counter of a slot set. -/
def setAttempts (s n : Nat) (d : Dev) : Dev :=
  { d with img := if s = 0 then { d.img with attA := n } else { d.img with attB := n } }

/-- A Boot that runs a slot counts an attempt; the third without a confirmation marks the slot bad (R55). -/
def countAttempt (s : Nat) (d : Dev) : Dev :=
  let d1 := setAttempts s (satU 8 (slotAttempts d s + 1)) d
  doIf (decide (3 ≤ slotAttempts d1 s)) (markBad s) d1

/-- A set accepted as the running one (R52 step 4, R54, R55, R61): its layout becomes the accepted layout, archived by a forced state
block; a changed layout zeroizes every volatile slot first (R318). -/
def acceptSet (r : SetCheck) (src : Nat) (l : List (Nat × List Byte)) (d : Dev) : Dev :=
  let h := layoutHash ((l.headD (0, [])).2)
  let changed := match d.img.layout with | some x => decide (x ≠ h) | none => false
  let d1 := doIf changed (zeroStart 0) d
  let d2 := { d1 with img := { d1.img with run := l.map (fun x => x.2), layout := some h }
                      log := { d1.log with forced := d1.log.forced || decide (d1.img.layout ≠ some h) } }
  let d3 := doIf (decide (src < 2)) (countAttempt src) d2
  let d4 := putBuilds (setB IMG_STATUS_untested r.untested.isSome (setF IMG_STATUS_source src d3))
  let d5 := imgEvent 0x0801 none d4
  match r.untested with
  | some (_, a, b) => imgEvent 0x0805 (some (a, b)) d5
  | none => d5

/-- The candidate slots of R54, duplicates removed. -/
def candidates54 (d : Dev) : List Nat :=
  let p := fld d IMG_BOOT_PREF_slot
  ([p] ++ (if d.img.lkgValid then [fld d IMG_LKG_slot] else []) ++ [1 - p]).eraseDups

/-- The images of a flash slot with their kinds. -/
def slotSet (d : Dev) (s : Nat) : List (Nat × List Byte) := setOf (flashImage d s 1) (flashImage d s 2) (flashImage d s 3)

/-- The candidates tried in order (R54, R55): a slot marked bad is skipped, one that fails is refused, with event 0x0806 when it is the preferred slot and another candidate follows. -/
def trySlots (errs : List Bool) : List Nat → Dev → Dev
  | [], d => d
  | s :: rest, d =>
    if slotBad d s then trySlots errs rest d
    else
      let more := s == fld d IMG_BOOT_PREF_slot && rest.any (fun x => !(slotBad d x))
      let r := checkSet d (sliceOf errs (3 * s) 3) (slotSet d s)
      if r.cause = 0 then acceptSet r s (slotSet d s) d
      else trySlots errs rest (doIf more (imgEvent 0x0806 r.builds) (imgRefuse r s d))

end Sys2Proof.Machine
end

