-- ==== Sys2Proof/Machine/Ledger.lean ====
section
/-! DEFINITION. The ledger of BND (spec/07_error_bound.md): the epoch sum and its components (R164 to R173), freeboard and demanded
class (R174 to R176), trace records (R182). -/

namespace Sys2Proof.Machine

open Sys2Proof

/-! ### Inputs -/

/-- y_dis of R167 for slot `s`, in units of 10^-12 rounded up: the largest |y_a − y_b| of a disagreement that involves it, or |d|
when the cause is not a disagreement. -/
def yDis (d : Dev) (s : Nat) : Nat :=
  let up := fun (r : Ratio) => ceilDiv (r.num.natAbs * 10 ^ 12) (atLeast1 r.den)
  if fld d (REF_SLOT_STATE_cause s) = 8 then
    (d.ref.disagrees.filter (fun p => p.a == s || p.b == s)).foldl (fun m p =>
      match (rslot d p.a).y, (rslot d p.b).y with
      | some a, some b => max m (up (a.sub b))
      | _, _ => m) 0
  else match (rslot d s).d with | some r => up r | none => 0

/-- The chip's own items of R161. -/
def ownItems (d : Dev) : RefItems :=
  let c := holdCoefs d
  let held := fld d REF_STATUS_servo == 3
  { active := (refActive d).map (fun s => (slotKind d s, fld d (REF_SLOT_UNC_unc s)))
    info := (refActive d).bind (fun s => (rslot d s).info)
    suspect := match refActive d with | some s => slotState d s == 3 | none => false
    disMax := match refActive d with | some s => yDis d s | none => 0
    servo := fld d REF_STATUS_servo
    eN := d.ref.eC - slewRem d
    a0 := if held then d.ref.holdA0 else c.1
    a1 := if held then d.ref.holdA1 else c.2.1
    a2 := if held then d.ref.holdA2 else c.2.2
    lastClean := d.ref.lastClean
    holdSum := [REF_HOLD_SUM_CTL, REF_HOLD_SUM_F0_LO, REF_HOLD_SUM_F0_HI, REF_HOLD_SUM_F1, REF_HOLD_SUM_T_LO, REF_HOLD_SUM_T_HI].map (rd d)
    holdT0 := d.bnd.t0
    holdBase := rd64 d BND_HOLD_BASE_LO
    holdA := (rdN d BND_HOLD_A0, rdN d BND_HOLD_A1, rdN d BND_HOLD_A2) }

/-- What REF passes to the ledger: a Standby that follows passes the Active's items (R352). -/
def refItems (d : Dev) : RefItems := if follows d then d.twn.items.getD (ownItems d) else ownItems d

/-- `n` units of 2^-16 ns in ps, rounded up (R164). -/
def psUp (n : Nat) : Nat := ceilDiv (n * 1000) 65536

/-- Saturation of a component (R164). -/
def sat48 (n : Nat) : Nat := min boundMax n

/-- a of R166 in ms: the age of an input of `age` units beyond twice its interval of `iv` units. -/
def lateMs (age iv : Nat) : Nat := (age / ms16) - (2 * iv + ms16 - 1) / ms16

/-- The age term of R166 in ps, for a rate in ps/s. -/
def ageTerm (rate a : Nat) : Nat := ceilDiv (rate * a) 1000

/-- The least integer whose square is at least num / den. -/
def ceilSqrt (num den : Nat) : Nat :=
  let q := ceilDiv num (atLeast1 den)
  let r := isqrt q
  if r * r < q then r + 1 else r

/-- BND_CFG.k. -/
def bndK (d : Dev) : Nat := atLeast1 (fld d BND_CFG_k)

/-- A slot is active and the servo is in Acquire or Locked. -/
def refInForce (x : RefItems) : Bool := x.active.isSome && (x.servo == 1 || x.servo == 2)

/-- The age of the active slot's last result beyond twice τ, in ms. -/
def refLate (x : RefItems) (d : Dev) : Nat :=
  match x.info with
  | some i => if refInForce x then lateMs (nearDiff (near d) i.age).toNat (tauMs d * ms16) else 0
  | none => 0

/-- B_REF (R167), with the age term of the active slot (R166). -/
def bRef (x : RefItems) (d : Dev) : Nat :=
  match x.active with
  | none => 0
  | some (kind, unc) =>
    if !(refInForce x) then 0
    else
      let i : RefInfo := x.info.getD { std := 0, u := 0, fed := false, count := 1, reqn := 1, age := 0, calSeq := 0, uncal := false, flagged := false }
      let m :=
        if kind = 2 then unc + ceilSqrt ((bndK d * i.std * 1000) ^ 2) (atLeast1 i.count * 2 ^ 32)
        else if kind = 1 ∨ kind = 3 then
          d.bnd.freqB0 + unc + ceilDiv (rdN d BND_FREQ_UNC * (now16 d - d.bnd.freqT0)) sec16
        else unc + i.u
      let sus := match d.bnd.susSince with | some t => ceilDiv (d.bnd.disMax * (now16 d - t)) sec16 | none => 0
      sat48 (m + sus + ageTerm (rdN d BND_WC_RATE_REF) (refLate x d))

/-- B_SERVO (R168), with the age term of the active slot (R166). For a fed kind σ is u, which REF_SLOT_STD holds. -/
def bServo (x : RefItems) (d : Dev) : Nat :=
  match x.active, x.info with
  | some (kind, _), some i =>
    if !(refInForce x) then 0
    else
      let e := if kind = 1 ∨ kind = 3 then 0 else psUp x.eN.natAbs
      let sg := if i.fed then bndK d * i.u else ceilDiv (bndK d * i.std * 1000) 65536
      let tdc := if i.uncal then fld d BND_TDC_TERM_uncal else fld d BND_TDC_TERM_cal
      sat48 (e + sg + tdc + psUp d.bnd.stepAdd + ageTerm (rdN d BND_WC_RATE_REF) (refLate x d))
  | _, _ => 0

/-- B_VOTE (R172): the largest repair difference of the last 1,000 epochs, and the term of a Double voter. -/
def bVote (d : Dev) : Nat :=
  let dmax := d.bnd.votes.foldl (fun m p => max m p.2) 0
  sat48 (psUp dmax + (if (inService d).length = 2 then fld d BND_VOTE_DOUBLE_ps else 0))

/-- The age of the last alignment result beyond twice its interval, in ms. -/
def twinLate (d : Dev) : Nat :=
  if rd64 d TWN_ALIGN_AGE_LO = 0 then 0
  else lateMs (nearDiff (near d) (rd64 d TWN_ALIGN_AGE_LO)).toNat (fld d TWN_ALIGN_PERIOD_ms * ms16)

/-- B_TWIN (R172): BND_TWIN_INIT before the first result. -/
def bTwin (d : Dev) : Nat :=
  if !(twnPaired d) then 0
  else if rd64 d TWN_ALIGN_AGE_LO = 0 then sat48 (rdN d BND_TWIN_INIT)
  else
    sat48 (psUp (rdS64 d TWN_ALIGN_OFS_LO).natAbs + ceilDiv (bndK d * rdN d TWN_ALIGN_STD) 1000 +
      ageTerm (rdN d BND_WC_RATE_TWIN) (twinLate d))

/-! ### Holdover -/

/-- The values of a Holdover fixed (R169): record 0x2C08 with the entry count. -/
def fixHold (t0 base a0 a1 a2 : Nat) (d : Dev) : Dev :=
  let n := d.bnd.holdN + 1
  let d1 := { d with bnd := { d.bnd with t0 := t0, holdN := n, frozen := none, wasHold := true } }
  let d2 := wr64 BND_HOLD_BASE_LO (sat48 base) (wr64 BND_HOLD_T0_LO (t0 % 2 ^ 64) d1)
  raise3 0x2C08 n a0 a1 a2 (wrN BND_HOLD_A0 a0 (wrN BND_HOLD_A1 a1 (wrN BND_HOLD_A2 a2 d2)))

/-- Milliseconds since t0. -/
def bndHoldMs (d : Dev) : Nat := (now16 d - d.bnd.t0) / ms16

/-- The age of the oscillator comparisons beyond twice their intervals, in ms: of the oldest whose request is enabled; 0 without a valid
ensemble (R169). -/
def oscLate (d : Dev) : Nat :=
  if !(flag d REF_ENS_CTL_valid) then 0
  else d.bnd.osc.foldl (fun m x => if reqState d x.1 = 0 then m else max m (lateMs (now16 d - x.2.1) x.2.2)) 0

/-- B_HOLD in Holdover (R169). -/
def holdBound (d : Dev) : Nat :=
  let t := bndHoldMs d
  sat48 (rd64 d BND_HOLD_BASE_LO + ceilDiv (rdN d BND_HOLD_A1 * t) (10 ^ 6) + ceilDiv (rdN d BND_HOLD_A2 * t * t) (2 * 10 ^ 12) +
    ageTerm (rdN d BND_WC_RATE_HOLD) (oscLate d))

/-- The holdover part of an epoch (R169, R170): B_HOLD, with the values that an entry fixes. -/
def holdStep (x : RefItems) (d : Dev) : Nat × Dev :=
  let prev := d.bnd.prevSum
  if x.servo = 3 then
    let d1 :=
      if d.bnd.wasHold then d
      else if follows d then fixHold x.holdT0 x.holdBase x.holdA.1 x.holdA.2.1 x.holdA.2.2 d
      else fixHold (now16 d) (max x.a0 prev) x.a0 x.a1 x.a2 d
    (holdBound d1, wr64 BND_HOLD_T_LO (bndHoldMs d1) d1)
  else
    let d1 := { d with bnd := { d.bnd with
      wasHold := false, frozen := if d.bnd.wasHold && x.servo == 1 then some (rd64 d BND_B_HOLD_LO % 2 ^ 48) else d.bnd.frozen } }
    if x.servo = 0 then
      let entered := decide (d.bnd.wasServo ≠ 0)
      let d2 := { d1 with bnd := { d1.bnd with
        frozen := none
        freeT0 := if entered || d1.bnd.setNew then now16 d else d1.bnd.freeT0
        freeBase := if d1.bnd.setNew then rdN d BND_SET_UNC else if entered then bndSum d else d1.bnd.freeBase } }
      (if flag d TB_STATUS_time_valid then
        sat48 (d2.bnd.freeBase + ceilDiv (rdN d BND_FREE_RATE * (now16 d - d2.bnd.freeT0)) sec16) else 0, d2)
    else (d1.bnd.frozen.getD 0, d1)

/-! ### The path -/

/-- The calibrated base of a port mode (R173). -/
def pathBase (d : Dev) (p : Nat) : Nat :=
  let m := portMode d p
  if m = 1 ∨ m = 2 ∨ (m = 3 ∧ flag d (PORT_STATUS_fec p)) then 60 else 50

/-- The age of a subport's oldest lane result beyond twice the calibration period, in ms; a lane without a result has no age (R166). -/
def subLate (d : Dev) (p s : Nat) : Nat :=
  (subLanes d p s).foldl (fun m j =>
    let a := laneAge d (laneNo d p j)
    if a = 0xFFFFFFFF then m else max m (a - 2 * atLeast1 (fld d (PORT_CAL_PERIOD_s p)) * 1000)) 0

/-- The age of the segment's last calibration result beyond twice its period, in ms. -/
def dsgLate (d : Dev) : Nat :=
  match d.dsg.calAt with
  | some t => lateMs (now16 d - t) (atLeast1 (fld d DSG_CAL_PERIOD_s) * sec16)
  | none => 0

/-- B_PATH of entry `p` (R173, R247, R252): the larger of a block's subports. -/
def bPath (d : Dev) (p : Nat) : Nat :=
  let r := rdN d BND_WC_RATE_PATH
  if p = 8 then
    sat48 (dsgPath d (flag d DSG_STATUS_calibrated) + ageTerm r (dsgLate d))
  else if !(portOn d p) then 1000
  else
    (portSubs d p).foldl (fun m s =>
      let base := if flag d (PORT_STATUS_calibrated p) then pathBase d p else 1000
      max m (sat48 (base + ageTerm r (subLate d p s) + psUp (psub d p s).mis))) 0

/-- Entry `p` counts for the freeboard: a port in use whose domain is on; the segment, which lies in PD_AON (R174). -/
def pathOn (d : Dev) (p : Nat) : Bool := p == 8 || portOn d p

/-- The inputs that are aged (R166): the index of R182, with 16 × the port for a lane calibration. -/
def agedNow (x : RefItems) (d : Dev) : List Nat :=
  (if 0 < refLate x d then [2] else []) ++ (if x.servo = 3 ∧ 0 < oscLate d then [3] else []) ++
  (if twnPaired d && decide (0 < twinLate d) then [5] else []) ++
  ((List.range 8).filter (fun p => portOn d p && (portSubs d p).any (fun s => decide (0 < subLate d p s)))).map (fun p => 6 + 16 * p) ++
  (if 0 < dsgLate d then [6 + 16 * 8] else [])

/-! ### Trace records (R182) -/

/-- The anchors in force: input index, port, anchor ID. -/
def anchorsNow (x : RefItems) (d : Dev) : List (Nat × Nat × Nat) :=
  (match x.info with | some i => if refInForce x then [(1, 0, i.calSeq)] else [] | none => []) ++
  (match refActive d with | some s => [(2, 0, s + rdN d IMG_BUILD_STRUCT % 2 ^ 24 * 256)] | none => []) ++
  (if 0 < d.bnd.holdN then [(3, 0, d.bnd.holdN)] else []) ++
  (if 0 < d.tb.repTotal then [(4, 0, d.tb.repTotal)] else []) ++
  (if twnPaired d then [(5, 0, rdN d TWN_ALIGN_SEQ)] else []) ++
  ((List.range 8).filter (fun p => portOn d p && decide (0 < rdN d (PORT_CAL_SEQ p)))).map (fun p => (6, p, rdN d (PORT_CAL_SEQ p))) ++
  (if 0 < rdN d DSG_CAL_SEQ then [(6, 8, rdN d DSG_CAL_SEQ)] else [])

/-- The trace record of an anchor (R182). -/
def traceRec (input port id : Nat) (d : Dev) : Dev :=
  let k := input + port * 16
  let seq := (rdN d BND_TRACE_SEQ + 1) % 2 ^ 32
  let d1 := { d with bnd := { d.bnd with swUsed := k :: d.bnd.swUsed.filter (fun x => x != k) } }
  raise3 0x2C01 seq seq (input + port * 256) id
    (wrN (bank BND_ANCHOR_SEQ k) seq (wrN (bank BND_ANCHOR_ID k) id (wrN BND_TRACE_SEQ seq d1)))

/-- A trace record for every input whose anchor has changed. -/
def traceStep (x : RefItems) (d : Dev) : Dev :=
  let d1 := forEach (anchorsNow x d) (fun a y =>
    let k := a.1 + a.2.1 * 16
    doIf (!(y.bnd.swUsed.contains k) || decide (rdN y (bank BND_ANCHOR_ID k) ≠ a.2.2 % 2 ^ 32)) (traceRec a.1 a.2.1 a.2.2) y) d
  doIf d.bnd.setNew (traceRec 7 0 0) d1

/-! ### The epoch -/

/-- The freeboard and what follows from it (R174, R175). -/
def freeboardStep (unknown : Bool) (sum path : Nat) (d : Dev) : Dev :=
  let fb : Int := if unknown then -(2 ^ 63 : Nat) else (rd64 d BND_LIMIT_LO % 2 ^ 48 : Nat) - ((sum + path : Nat) : Int)
  let d0 := wrS64 BND_FREEBOARD_LO fb d
  let warn : Int := rdN d BND_WARN
  let cls := fld d REF_STATUS_class
  let old := max cls (fld d BND_STATUS_demand)
  let d1 := if fb < warn ∧ ¬ (flag d0 BND_STATUS_warn = true) then raise 0x2C02 (wrapN 32 (satS 32 fb)) (setF BND_STATUS_warn 1 d0) else d0
  let d2 :=
    if fb < 0 ∧ ¬ (flag d1 BND_STATUS_over = true) then
      let dem := fld d1 BND_CLASS_CFG_over
      raise 0x2C03 (old + max cls dem * 256) (setF BND_STATUS_demand dem (setF BND_STATUS_over 1 d1))
    else d1
  let ok := if warn ≤ fb then d2.bnd.okMs + 1 else 0
  let d3 := { d2 with bnd := { d2.bnd with okMs := ok } }
  if flag d3 BND_STATUS_warn && decide (atLeast1 (fld d3 BND_RECOVER_s) * 1000 ≤ ok) then
    raise 0x2C04 (max cls (fld d3 BND_STATUS_demand) + cls * 256)
      (setF BND_STATUS_demand 0 (setF BND_STATUS_over 0 (setF BND_STATUS_warn 0 d3)))
  else d3

/-- Step 3 of R29: the ledger is recomputed in full. `other` is the sum of the second adder where it differs (R165). -/
def ledgerStep (other : Option Nat) (d : Dev) : Dev :=
  let x := refItems d
  let n := d.bnd.epochs + 1
  let votes := (if d.tb.voteMax = 0 then d.bnd.votes else (n, d.tb.voteMax) :: d.bnd.votes).filter (fun p => decide (n < p.1 + 1000))
  let sus := x.suspect
  let d1 := { wrN TB_VOTE_DIFF d.tb.voteMax d with
                     tb := { d.tb with voteMax := 0 }
                     bnd := { d.bnd with
                       epochs := n, votes := votes
                       prevSum := rd64 d BND_B_REF_LO % 2 ^ 48 + rd64 d BND_B_SERVO_LO % 2 ^ 48
                       susSince := if sus then some (d.bnd.susSince.getD (now16 d)) else none
                       disMax := if sus then max d.bnd.disMax x.disMax else 0
                       freqT0 := if d.bnd.setNew then now16 d else d.bnd.freqT0
                       freqB0 := if d.bnd.setNew then rdN d BND_SET_UNC else d.bnd.freqB0 } }
  let h := holdStep x d1
  let d2 := h.2
  let r := bRef x d2
  let s := bServo x d2
  let v := bVote d2
  let t := bTwin d2
  let paths := (List.range 9).map (bPath d2)
  let sum0 := sat48 (r + s + h.1 + v + t)
  let sum1 := match other with | some o => max sum0 (sat48 o) | none => sum0
  let differs := match other with | some o => decide (sat48 o ≠ sum0) | none => false
  let unknown := !(flag d2 TB_STATUS_time_valid) || decide (sum1 = boundMax)
  let sum := if unknown then boundMax else sum1
  let path := ((List.range 9).filter (pathOn d2)).foldl (fun m p => max m (paths.getD p 0)) 0
  let d3 := (List.range 9).foldl (fun y p =>
    wrN (BND_PATH_CAL p) (if p = 8 then rdN y DSG_CAL_SEQ else if portOn y p then rdN y (PORT_CAL_SEQ p) else 0)
      (wrN (BND_PATH p) (satU 32 (paths.getD p 0)) y)) d2
  let d4 := wr64 BND_B_REF_LO r (wr64 BND_B_SERVO_LO s (wr64 BND_B_HOLD_LO h.1 (wr64 BND_B_VOTE_LO v (wr64 BND_B_TWIN_LO t d3))))
  let d5 := wr64 BND_SUM_LO sum (wr64 BND_EPOCH_LO (near d4) (setB BND_STATUS_unknown unknown (setB BND_STATUS_holdover (x.servo == 3) d4)))
  let d6 := doIf differs (fun y => reportUnit 0x0A 0x06 .corrected 0x2C07 0 (raise 0x2C07 0 (setF BND_STATUS_mismatch 1 y))) d5
  let satNow := (List.range 6).filterMap (fun k => if ([r, s, h.1, v, t, path].getD k 0) = boundMax then some (k + 1) else none)
  let d7 := forEach (satNow.filter (fun k => !(d6.bnd.sat.contains k))) (fun k y => raise 0x2C05 k y) d6
  let aged := agedNow x d7
  let d8 := forEach (aged.filter (fun k => !(d7.bnd.aged.contains k))) (fun k y => raise 0x2C06 (k % 16) y) d7
  let d9 := setB BND_STATUS_saturated (!satNow.isEmpty) (setB BND_STATUS_aged (!aged.isEmpty) d8)
  let d10 := traceStep x (freeboardStep unknown sum path d9)
  let cap := match x.active with | some (k, _) => timeCapable k | none => false
  let d11 := setF BND_STATUS_accuracy (accuracyOf unknown (sat48 (sum + path))) (setF BND_STATUS_advertised (advClass d10) d10)
  { d11 with bnd := { d11.bnd with
      aged := aged, sat := satNow, paths := paths, wasServo := x.servo, setNew := false
      freqT0 := if cap && refInForce x then now16 d else d11.bnd.freqT0
      freqB0 := if cap && refInForce x then r + s else d11.bnd.freqB0
      copyT := if x.servo = 3 then d11.bnd.copyT else now16 d
      copyBase := if x.servo = 3 then d11.bnd.copyBase else max x.a0 (r + s) } }

/-- Each re-seeding of TB raises the base (R171). -/
def seedBase (d : Dev) : Dev := wr64 BND_HOLD_BASE_LO (sat48 (rd64 d BND_HOLD_BASE_LO + fld d BND_SEED_UNC_ps)) d

end Sys2Proof.Machine
end

