-- ==== Sys2Proof/Machine/Twn.lean ====
section
/-! DEFINITION. The commands of TWN (spec/14_twin_redundancy.md): the Millrace link, the claim bus and the twin states, the mirror of
the Active and of the Standby, health and hunting. -/

namespace Sys2Proof.Machine

open Sys2Proof

/-- TWN works: PD_TB is on and TWN_CTL.en is 1. -/
def twnAlive (d : Dev) : Bool := domOn d .tb && twnEn d

/-- A received frame: with a bad CRC it is discarded and counted (R339), else `k` takes it while the link is Up. -/
def mrFrame (crcOk : Bool) (k : Dev → Dev) (d : Dev) : Dev :=
  if !(twnAlive d) || fld d TWN_STATUS_link == 0 then d
  else if !crcOk then twnCount 5 1 (modTwn (fun t => { t with crcErrs := t.crcErrs + 1 }) d)
  else if !(linkUp d) then d
  else k d

/-! ### The link -/

/-- The hello of the chip (R342). -/
def ownHello (d : Dev) : Hello :=
  { hwId := rdN d IMG_HW_ID, side := flag d TWN_BUS_STATUS_side, buildStruct := rd d IMG_BUILD_STRUCT, buildCore := rd d IMG_BUILD_CORE
    version := mirrorVersion d, latTx := rd d TWN_LAT_TX, latRx := rd d TWN_LAT_RX, epoch := rdN d TWN_EPOCH }

/-- Why a hello is refused (R342), 0 where it is not. -/
def helloCause (h : Hello) (d : Dev) : Nat :=
  if h.hwId ≠ 0xB0 ∨ rdN d IMG_HW_ID ≠ 0xB0 then 0x06
  else if h.buildStruct ≠ rd d IMG_BUILD_STRUCT then 0x03
  else if h.side = flag d TWN_BUS_STATUS_side then 0x04
  else if h.version / 256 ≠ mirrorVersion d / 256 then 0x05
  else 0

/-- An accepted pairing (R342, R357): a Held mirror whose missed epochs are retained is Valid again and asks for them; else a sweep
starts. -/
def pairAccept (h : Hello) (d : Dev) : Dev :=
  let d1 := twnResult 0 0 (setF TWN_STATUS_paired_ok 1 d)
  let own := rdN d TWN_EPOCH
  if fld d TWN_STATUS_state = 0 then
    if d.twn.mirroring && decide (h.epoch ≤ own) && decide (own ≤ h.epoch + d.twn.retained.length) then d1 else startSweep d1
  else if fld d TWN_STATUS_mirror = 3 ∧ own ≤ h.epoch ∧ h.epoch ≤ own + fld d TWN_RETAIN_epochs then
    sendMr (if h.epoch = own then [] else [.again (.epoch (own + 1))]) (setF TWN_STATUS_mirror 2 d1)
  else startSweep d1

/-- The partner's hello (R340, R342, R346): the link is Up whether pairing is accepted or refused. -/
def hello (h : Hello) (d : Dev) : Dev :=
  let c := helloCause h d
  let new := decide (rd d TWN_PEER_LAT_TX ≠ h.latTx) || decide (rd d TWN_PEER_LAT_RX ≠ h.latRx)
  let d1 := wr TWN_PEER_STRUCT h.buildStruct (wr TWN_PEER_CORE h.buildCore (wr TWN_PEER_LAT_TX h.latTx (wr TWN_PEER_LAT_RX h.latRx d)))
  let same := decide (h.side = flag d TWN_BUS_STATUS_side)
  let d2 := doIf (same && !(flag d TWN_BUS_STATUS_side_conflict)) (raise 0x6C0A 2) (setB TWN_BUS_STATUS_side_conflict same d1)
  let d3 := doIf (decide (c = 0) || new) alignRecord (linkTo 2 (modTwn (fun t => { t with peerAt := now16 d }) d2))
  if c = 0 then pairAccept h d3
  else
    let m := doIf (fld d3 TWN_STATUS_mirror ≠ 0) (setF TWN_STATUS_mirror 0) (twnResult c 0 d3)
    raise 0x6C07 (rdN m TWN_RESULT) m

/-- The pad loopback of Training gives mean `r` (R341): beyond 200 ps the link stays in Training and the unit reports a contained
fault; else the latencies are set and the hello goes out. New latencies are an alignment record (R353). -/
def millraceTrain (r : Int) (d : Dev) : Dev :=
  if !(twnAlive d) || fld d TWN_STATUS_link ≠ 1 then d
  else
    let tx0 := sx 32 (resetOf TWN_LAT_TX).toNat
    let df := r - (tx0 + sx 32 (resetOf TWN_LAT_RX).toNat)
    if 13107 < df.natAbs then reportUnit 0x34 0x07 .contained 0 0 d
    else
      let tx := tx0 + roundDiv ((Config.millraceSplit : Nat) * df) 65536
      let d1 := wrN TWN_LAT_RX (wrapN 32 (r - tx)) (wrN TWN_LAT_TX (wrapN 32 tx) d)
      let new := decide (rd d1 TWN_LAT_TX ≠ rd d TWN_LAT_TX) || decide (rd d1 TWN_LAT_RX ≠ rd d TWN_LAT_RX)
      let d2 := doIf new alignRecord d1
      let d3 := sendMr [.hello (ownHello d2)] (modTwn (fun t => { t with sentHello := true }) d2)
      match d.twn.gotHello with
      | none => d3
      | some h => let d4 := hello h d3; modTwn (fun t => { t with out := d3.twn.out ++ (if t.out = d3.twn.out then [] else t.out) }) d4

/-- MILLRACE_LINK_TRAINING (R341). -/
def execMillraceLinkTraining (r : Int) (s : State) : Host.Outcome State Fault Refusal := s.upd (millraceTrain r)

/-- A hello in Training (R340, R342): it is exchanged once the chip's own has been sent; until then it waits. -/
def helloIn (h : Hello) (d : Dev) : Dev :=
  if d.twn.sentHello then hello h d else modTwn (fun t => { t with gotHello := some h }) d

/-- HELLO_RECEIVED (R342). -/
def execHelloReceived (h : Hello) (crcOk : Bool) (s : State) : Host.Outcome State Fault Refusal :=
  s.upd (fun d => if !(twnAlive d) || fld d TWN_STATUS_link ≠ 1 then d else if crcOk then helloIn h d else mrFrame false (fun x => x) d)

/-- The link is lost (R340): 16 CRC errors counted in the running 1 ms epoch lead to Training, a loss of signal to Down, from where the
link trains again while en = 1. -/
def linkLoss (crc : Bool) (d : Dev) : Dev :=
  if !(twnAlive d) || fld d TWN_STATUS_link = 0 then d
  else if crc then
    if linkUp d && decide (16 ≤ d.twn.crcErrs) then linkTo 1 (modTwn (fun t => { t with crcErrs := 0 }) d) else d
  else linkTo 1 (linkTo 0 d)

/-- MILLRACE_LINK_LOSS (R340). -/
def execMillraceLinkLoss (crc : Bool) (s : State) : Host.Outcome State Fault Refusal := s.upd (linkLoss crc)

/-! ### Claims -/

/-- A Standby becomes Active (R349): the staged epoch is discarded, following ends without a jump, every sequenceNo leaves a gap,
and the addresses are announced. On a link that is still paired it commits epochs from then on (R354). -/
def takeover (d : Dev) : Dev :=
  let d1 := match d.twn.staged with
    | some (n, _) => raise 0x6C0D n (twnCount 2 1 (modTwn (fun t => { t with staged := none }) d))
    | none => d
  let d2 := wrS64 REF_SERVO_I_LO (leadChan d1).servo { d1 with ref := { d1.ref with i := (leadChan d1).servo, iPend := none } }
  let on := linkUp d2 && flag d2 TWN_STATUS_paired_ok
  let d3 := setF TWN_STATUS_mirror 0 (modTwn (fun t => { t with
    shift := none, items := none, swept := [], newKeys := none, mirroring := on }) d2)
  doIf (domOn d3 .pkt) announceAddrs (saGap (twinTo 0 d3))

/-- The twin state that a comparison leaves (R347), the partner being present. -/
def twinAfter (won : Bool) (d : Dev) : Dev :=
  let st := fld d TWN_STATUS_state
  if won then
    (if st = 0 then d else if st = 1 then takeover d
     else doIf (linkUp d && flag d TWN_STATUS_paired_ok) startSweep (setF TWN_STATUS_mirror 0 (twinTo 0 d)))
  else if st = 1 then d
  else twinTo 1 (modTwn (fun t => { t with mirroring := false, journal := [], retained := [], sweepPos := none }) d)

/-- A comparison of claims is known (R344, R345): the registers, the right of the claim stages (R203), the role on the drive segment
(R272) and, while PD_TB holds TWN, the twin state. `stage` is the comparison of the claims alone; `src` is 1 where the partner's claim
came over Millrace. -/
def claimKnown (won stage : Bool) (own partner src : Nat) (present : Bool) (d : Dev) : Dev :=
  let was := flag d TWN_BUS_STATUS_won
  let d1 := wrN TWN_BUS (own + partner * 65536) (setF TWN_BUS_STATUS_partner_src src (setB TWN_BUS_STATUS_won won
    (setB TWN_BUS_STATUS_partner_present present d)))
  let d2 := dsgRole won { d1 with syn := { d1.syn with claimWin := stage && !(flag d TWN_BUS_STATUS_side_conflict) } }
  let d3 := doIf (was != won) (raise 0x6C03 (b2n won + partner * 65536)) d2
  doIf (present && twnAlive d3) (twinAfter won) d3

/-- The claim bus of PD_AON runs (R344): a chip on its way through Boot goes on with the rounds; with PD_TB on, TWN_CTL.en decides. -/
def busRuns (d : Dev) : Bool := d.pwr.powered && (twnEn d || !(domOn d .tb))

/-- Claim `own` exceeds claim `theirs`, a tie going to the side strap (R203, R344). -/
def claimBeats (own theirs : Nat) (d : Dev) : Bool := decide (theirs < own) || (decide (theirs = own) && flag d TWN_BUS_STATUS_side)

/-- The end of a claim round (R344 to R347): what the partner drove, and its presence bit. While the bus is faulted the round only
counts toward its end. The claim computed now holds for the next round. -/
def roundEnd (present : Bool) (claim : Nat) (d : Dev) : Dev :=
  if !(busRuns d) then d
  else
    let absent := if present then 0 else min 2 (d.twn.absent + 1)
    let here := decide (absent < 2)
    let own := d.twn.claim
    let faulted := flag d TWN_BUS_STATUS_bus_fault
    let gone := if here then none else some (d.twn.goneAt.getD (now16 d))
    let d1 := modTwn (fun t => { t with absent := absent, good := if faulted then t.good + 1 else 0, goneAt := gone }) d
    let d2 :=
      if overLink d then
        doIf (faulted && decide (8 ≤ d1.twn.good)) (setF TWN_BUS_STATUS_bus_fault 0) (setB TWN_BUS_STATUS_partner_present here d1)
      else
        let theirs := if present then claim else 0
        let won := claimBeats own theirs d || (decide (theirs = own) && !present)
        claimKnown won (claimBeats own theirs d) own (if won then (if here then d1.twn.peerClaim else 0) else theirs) (b2n (won && here)) here d1
    modTwn (fun t => { t with claim := claimNow d2 }) d2

/-- Claims compared over Millrace while the bus is faulted (R346). -/
def claimOver (partner : Nat) (d : Dev) : Dev :=
  if !(overLink d) then d
  else
    let own := claimNow d
    claimKnown (claimBeats own partner d) (claimBeats own partner d) own partner 1 true d

/-- The stage of output `o` (0 to 15 clocks, 16 to 19 pulses) at its low phase (R203, R204): event 0x3009 where it changes. -/
def stageChange (o : Nat) (d : Dev) : Dev := setDriving o (mayDrive d o) d

/-- CLAIM_STAGE_CHANGE (R204). -/
def execClaimStageChange (o : Fin 20) (s : State) : Host.Outcome State Fault Refusal := s.upd (live (stageChange o.val))

/-- CLAIM_BUS_FAULT (R346). -/
def execClaimBusFault (s : State) : Host.Outcome State Fault Refusal :=
  s.upd (fun d => doIf (twnAlive d)
    (fun x => raise 0x6C0A 1 (twnCount 10 1 (setF TWN_BUS_STATUS_bus_fault 1 (modTwn (fun t => { t with good := 0 }) x)))) d)

/-- The partner has been absent and the link not Up for TWN_LOSS_TIME (R347). -/
def partnerLost (d : Dev) : Bool :=
  !(flag d TWN_BUS_STATUS_partner_present) && !(linkUp d) &&
    elapsed (max (d.twn.goneAt.getD 0) (d.twn.upAt.getD 0)) (fld d TWN_LOSS_TIME_ms * 65536000000) d

/-- PARTNER_LOSS_EXPIRY (R347). -/
def execPartnerLossExpiry (s : State) : Host.Outcome State Fault Refusal :=
  s.upd (fun d => doIf (twnAlive d && partnerLost d) (twinTo 2) d)

/-! ### Commands -/

/-- TWN_CMD.yield and unyield (R343). -/
def twnYield (b : Bool) (d : Dev) : Dev := twnResult 0 1 (setB TWN_BUS_STATUS_yielding b d)

/-- TWN_YIELD (R343). -/
def execTwnYield (r : Req) (s : State) : Host.Outcome State Fault Refusal := s.upd (guardWrite r TWN_CMD (twnYield true))

/-- TWN_UNYIELD (R343). -/
def execTwnUnyield (r : Req) (s : State) : Host.Outcome State Fault Refusal := s.upd (guardWrite r TWN_CMD (twnYield false))

/-- TWN_CMD.resync (R357): a Standby asks the Active for a sweep. -/
def resync (d : Dev) : Dev :=
  if !(linkUp d) || !(flag d TWN_STATUS_paired_ok) then twnResult 2 1 d
  else
    let d1 := startSweep (twnResult 0 1 d)
    if fld d TWN_STATUS_state = 0 then d1 else sendMr [.again .store] d1

/-- TWN_RESYNC (R357). -/
def execTwnResync (r : Req) (s : State) : Host.Outcome State Fault Refusal := s.upd (guardWrite r TWN_CMD resync)

/-- TWN_CMD.retrain (R340). -/
def twnRetrain (d : Dev) : Dev := if linkUp d then twnResult 0 1 (linkTo 1 d) else twnResult 2 1 d

/-- TWN_RETRAIN (R340). -/
def execTwnRetrain (r : Req) (s : State) : Host.Outcome State Fault Refusal := s.upd (guardWrite r TWN_CMD twnRetrain)

/-- A write of TWN_ASYM makes an alignment record (R353). -/
def twnAsym (v : Word) (d : Dev) : Dev := alignRecord (wr TWN_ASYM v d)

/-- TWN_ASYM_WRITE (R353). -/
def execTwnAsymWrite (r : Req) (d : Word) (s : State) : Host.Outcome State Fault Refusal := s.upd (guardWrite r TWN_ASYM (twnAsym d))

/-- ALIGNMENT_FRAME (R351). -/
def execAlignmentFrame (a : AlignMsg) (crcOk : Bool) (s : State) : Host.Outcome State Fault Refusal := s.upd (mrFrame crcOk (alignCombine a))

/-! ### The mirror at the Standby -/

/-- A Standby takes the mirror: paired, and its mirror is not Invalid. -/
def mirrorIn (d : Dev) : Bool := fld d TWN_STATUS_state == 1 && flag d TWN_STATUS_paired_ok && fld d TWN_STATUS_mirror != 0

/-- A staged epoch discarded (R356): event 0x6C04, and the epoch is asked for again. -/
def discardEpoch (n : Nat) (d : Dev) : Dev :=
  let d1 := twnCount 3 1 (raise 0x6C04 n (twnCount 2 1 (modTwn (fun t => { t with staged := none }) d)))
  sendMr [.again (.epoch (rdN d1 TWN_EPOCH + 1))] d1

/-- A journal record staged (R356); a record of another epoch than the staged one shows a missing commit. -/
def stageRec (n : Nat) (x : JRec) (d : Dev) : Dev :=
  if !(mirrorIn d) then d
  else
    match d.twn.staged with
    | none => modTwn (fun t => { t with staged := some (n, [x]) }) d
    | some (m, l) =>
      if m = n then modTwn (fun t => { t with staged := some (n, l ++ [x]) }) d
      else modTwn (fun t => { t with staged := some (n, [x]) }) (discardEpoch m d)

/-- JOURNAL_RECORD (R356). -/
def execJournalRecord (n : Nat) (x : JRec) (crcOk : Bool) (s : State) : Host.Outcome State Fault Refusal :=
  s.upd (mrFrame crcOk (stageRec n x))

/-- Shadow issues made for counter `k` since mirror epoch `n` (R358). -/
def shadowSince (d : Dev) (k n : Nat) : Nat :=
  (d.twn.shadow.filter (fun p => p.1 == k && decide ((n : Int) + d.twn.ofs.getD 0 < p.2))).length

/-- The sequenceIds of a checkpoint entry set: the mirrored value plus the shadow issues since (R358). -/
def checkEntry (n : Nat) (e : Nat × Nat × Nat) (d : Dev) : Dev :=
  let i := e.1
  doIf (sessValid d i) (fun x =>
    let y := sess x i
    sessSeq i { y with seqS := (e.2.1 + shadowSince x (2 * i) n) % 65536, seqA := (e.2.2 + shadowSince x (2 * i + 1) n) % 65536 } x) d

/-- The sequenceIds of the multicast instances and of the drive segment (R355, R358). -/
def seqEntry (n : Nat) (mc : List Word) (gpS gpA : Nat) (d : Dev) : Dev :=
  let d1 := if domOn d .pkt then (mc.foldl (fun (p : Nat × Dev) w =>
    (p.1 + 1, setF (SVC_MC_SEQ_announce p.1) (bitsOf w 16 16 + shadowSince p.2 (2 ^ 20 + 2 * p.1 + 1) n)
      (setF (SVC_MC_SEQ_sync p.1) (bitsOf w 0 16 + shadowSince p.2 (2 ^ 20 + 2 * p.1) n) p.2))) (0, d)).2 else d
  { d1 with net := { d1.net with gpSync := (gpS + shadowSince d (2 ^ 21) n) % 65536, gpAnn := (gpA + shadowSince d (2 ^ 21 + 1) n) % 65536 } }

/-- The reference items applied (R352, R355): the summary is held here too, and a new result serves the ledger as the chip's own. -/
def itemsEntry (x : RefItems) (d : Dev) : Dev :=
  let regs := [REF_HOLD_SUM_CTL, REF_HOLD_SUM_F0_LO, REF_HOLD_SUM_F0_HI, REF_HOLD_SUM_F1, REF_HOLD_SUM_T_LO, REF_HOLD_SUM_T_HI]
  let d1 := (x.holdSum.take 6).foldl (fun (p : Nat × Dev) w => (p.1 + 1, wr (regs.getD p.1 REF_HOLD_SUM_CTL) w p.2)) (0, d) |>.2
  let old := d.twn.items.bind (fun y => y.info)
  let d2 := match x.info with | some i => doIf (x.info != old) (bndResult i) d1 | none => d1
  modTwn (fun t => { t with items := some x }) d2

/-- A mirrored launch entry queued (R270): an entry in use keeps its own frame. -/
def launchEntry (e len : Nat) (ctl : Word) (target : Nat) (bytes : List Byte) (d : Dev) : Dev :=
  doIf (decide (e < 16) && qState d e == 0) (fun x =>
    qStatus e 1 0 false 0 (wr64 (bank DSG_Q_TGT_LO e) target (wr (bank DSG_Q_CTL e) ctl (wrN (bank DSG_Q_LEN e) len
      (modDsg (fun y => { y with data := cput (fun _ => []) y.data e bytes }) x))))) d

/-- A mirrored record applied (R355). -/
def applyRec (n : Nat) (r : JRec) (d : Dev) : Dev :=
  match r with
  | .terms a b c shift _ =>
    modTwn (fun t => { t with terms := (a, b, c), shift := match shift with | some s => some (t.shift.getD 0 + s) | none => t.shift }) d
  | .items x => itemsEntry x d
  | .seqs mc s a => seqEntry n mc s a d
  | .session i ws => doIf (domOn d .smem && decide (i < 262144)) (sessStore i (ws.take 12)) d
  | .checkpoint l => doIf (domOn d .smem) (forEach l (checkEntry n)) d
  | .assoc i q => doIf (decide (i < 1024)) (wrN (bank KEY_SA_SEQ i) q) d
  | .launch e len ctl target bytes => launchEntry e len ctl target bytes d
  | .nextHop i m => doIf (decide (i < 4096)) (setNh i m) d
  | .hashKeys ks => modTwn (fun t => { t with newKeys := some ks }) d

/-- A whole epoch applied (R356): acknowledged, and shadow issues that it covers are forgotten (R358). -/
def applyEpoch (n : Nat) (l : List JRec) (d : Dev) : Dev :=
  let now : Int := (d.twn.ms : Int) - n
  let ofs := match d.twn.ofs with | some o => min o now | none => now
  let d1 := modTwn (fun t => { t with staged := none, ofs := some ofs }) d
  let d2 := forEach l (applyRec n) d1
  let d3 := modTwn (fun t => { t with shadow := t.shadow.filter (fun p => decide ((n : Int) + ofs < p.2)) }) d2
  sendMr [.ack n] (twnCount 1 1 (wrN TWN_EPOCH n d3))

/-- The sweep commit (R357): sessions that the sweep did not give end, the hash keys are the Active's, and the mirror is Valid. -/
def sweepDone (d : Dev) : Dev :=
  let gone := if domOn d .smem then (sessAll d).filter (fun i => !(d.twn.swept.contains i)) else []
  let d1 := forEach gone (fun i => sessStore i (List.replicate 12 0#32)) d
  let d2 := match d1.twn.newKeys with | some ks => { d1 with key := { d1.key with hashKeys := ks } } | none => d1
  raise 0x6C06 1 (setF TWN_STATUS_mirror 2 (modTwn (fun t => { t with swept := [], newKeys := none }) d2))

/-- CRC-32C over the payloads of records, in order (R354). -/
def jrecCrc (l : List JRec) : Nat := crc32c (l.flatMap Config.jrecPayload)

/-- A commit of the Active (R346, R354, R356): count and CRC of the staged records must match. -/
def commitIn (c : Commit) (d : Dev) : Dev :=
  let d0 := claimOver c.claim (modTwn (fun t => { t with peerClaim := c.claim }) d)
  if !(mirrorIn d0) then d0
  else if c.sweep then (if fld d0 TWN_STATUS_mirror = 1 then sweepDone d0 else d0)
  else
    let st := d0.twn.staged.getD (c.n, [])
    let first := fld d0 TWN_STATUS_mirror = 1 ∧ d0.twn.ofs = none
    if st.1 = c.n ∧ st.2.length = c.count ∧ jrecCrc st.2 = c.crc ∧ (c.n = rdN d0 TWN_EPOCH + 1 ∨ first) then applyEpoch c.n st.2 d0
    else discardEpoch c.n d0

/-- MIRROR_COMMIT_RECEIVED (R356): with a bad CRC the staged epoch is discarded. -/
def execMirrorCommitReceived (c : Commit) (crcOk : Bool) (s : State) : Host.Outcome State Fault Refusal :=
  s.upd (fun d =>
    let d1 := mrFrame crcOk (commitIn c) d
    doIf (!crcOk && twnAlive d && linkUp d && mirrorIn d) (fun x => discardEpoch (match x.twn.staged with | some p => p.1 | none => rdN x TWN_EPOCH + 1) x) d1)

/-- A sweep record taken (R357): the first one of a sweep that the Active has started finds the mirror in another state and makes it
Sweeping. -/
def sweepIn (x : JRec) (d0 : Dev) : Dev :=
  if fld d0 TWN_STATUS_state ≠ 1 ∨ !(flag d0 TWN_STATUS_paired_ok) then d0
  else
    let d := doIf (decide (fld d0 TWN_STATUS_mirror ≠ 1)) startSweep d0
    match x with
    | .session i _ => modTwn (fun t => { t with swept := i :: t.swept.filter (fun k => k != i) }) (applyRec 0 x d)
    | .nextHop _ _ | .hashKeys _ => applyRec 0 x d
    | _ => d

/-- SWEEP_RECORD (R357). -/
def execSweepRecord (x : JRec) (crcOk : Bool) (s : State) : Host.Outcome State Fault Refusal := s.upd (mrFrame crcOk (sweepIn x))

/-! ### The mirror at the Active -/

/-- MIRROR_ACKNOWLEDGE (R356). -/
def execMirrorAcknowledge (n : Nat) (crcOk : Bool) (s : State) : Host.Outcome State Fault Refusal :=
  s.upd (mrFrame crcOk (modTwn (fun t => { t with retained := t.retained.filter (fun p => decide (n < p.1)) })))

/-- The commit of epoch `n` with its records (R354). -/
def commitOf (n : Nat) (l : List JRec) (d : Dev) : MrBody :=
  .commit { n := n, count := l.length, crc := jrecCrc l, claim := claimNow d, twin := fld d TWN_STATUS_state, sweep := false }

/-- The partner asks for an epoch again (R356): one that is not kept starts a sweep. -/
def resend (n : Nat) (d : Dev) : Dev :=
  if !(mirrors d) then (if fld d TWN_STATUS_state = 0 ∧ flag d TWN_STATUS_paired_ok then startSweep d else d)
  else
    match d.twn.retained.find? (fun p => p.1 == n) with
    | some p => sendMr (p.2.map .journal ++ [commitOf n p.2 d]) d
    | none => if n = rdN d TWN_EPOCH + 1 then d else startSweep d

/-- What the partner asks for again (R356, R357, R362): an epoch, the store, or a session, which goes into the running epoch. -/
def againIn (a : AgainMsg) (d : Dev) : Dev :=
  match a with
  | .epoch n => resend n d
  | .session i => doIf (domOn d .smem && decide (i < 262144)) (journalAdd (.session i (sessWords d i))) d
  | .store => doIf (fld d TWN_STATUS_state == 0 && flag d TWN_STATUS_paired_ok) startSweep d

/-- REQUEST_AGAIN (R356). -/
def execRequestAgain (a : AgainMsg) (crcOk : Bool) (s : State) : Host.Outcome State Fault Refusal := s.upd (mrFrame crcOk (againIn a))

/-- An epoch has waited longer than TWN_RETAIN epochs for its acknowledge (R356): a sweep starts, once the link is Up. -/
def retention (d : Dev) : Dev :=
  if !(mirrors d) || d.twn.retained.length ≤ fld d TWN_RETAIN_epochs then d
  else if linkUp d && flag d TWN_STATUS_paired_ok then startSweep d
  else modTwn (fun t => { t with mirroring := false, retained := [], journal := [] }) d

/-- RETENTION_EXCEEDED (R356). -/
def execRetentionExceeded (s : State) : Host.Outcome State Fault Refusal := s.upd (fun d => doIf (twnAlive d) retention d)

/-- The records that fit into `room` bytes, and the rest, in order (R354). -/
def fitRecs (room : Nat) : List JRec → List JRec × List JRec
  | [] => ([], [])
  | r :: rs =>
    let n := (Config.jrecPayload r).length
    if room < n then ([], r :: rs) else let p := fitRecs (room - n) rs; (r :: p.1, p.2)

/-- The sequenceIds of 4,096 session indices from the checkpoint position (R355). -/
def checkpointNow (d : Dev) : JRec :=
  let p := d.twn.checkPos
  .checkpoint (((if domOn d .smem then sessAll d else []).filter (fun i => decide (p ≤ i) && decide (i < p + 4096))).map
    (fun i => (i, (sess d i).seqS, (sess d i).seqA)))

/-- The sweep records of this epoch, and the position after them (R357): sessions, then next hops and hash keys with the sweep
commit. -/
def sweepNow (d : Dev) : List MrBody × Option Nat :=
  match d.twn.sweepPos with
  | none => ([], none)
  | some p =>
    let k := p + atLeast1 (fld d TWN_SWEEP_RATE_kib) * 1024 / 48
    let ss := (if domOn d .smem then sessAll d else []).filter (fun i => decide (p ≤ i) && decide (i < k))
    let l := ss.map (fun i => MrBody.sweep (.session i (sessWords d i)))
    if k < 262144 then (l, some k)
    else
      (l ++ d.net.nh.map (fun c => .sweep (.nextHop c.1 c.2)) ++ [.sweep (.hashKeys d.key.hashKeys),
        .commit { n := rdN d TWN_EPOCH, count := 0, crc := 0, claim := claimNow d, twin := fld d TWN_STATUS_state, sweep := true }], none)

/-- Step 4 of R29 at the Active (R354): the journal of the epoch and its commit; `shift` is the step or set applied in it. -/
def twinEpoch (shift : Option Int) (d : Dev) : Dev :=
  if !(mirrors d) then d
  else
    let c := leadChan d
    let recs := d.twn.journal ++ [.terms c.servo c.ens c.slew shift d.tb.stepCount, .items (ownItems d),
      .seqs ((List.range 32).map (fun i => rd d (SVC_MC_SEQ i))) d.net.gpSync d.net.gpAnn, checkpointNow d]
    let f := fitRecs 2500000 recs
    let n := (rdN d TWN_EPOCH + 1) % 2 ^ 32
    let sw := sweepNow d
    let d1 := modTwn (fun t => { t with journal := f.2, retained := t.retained ++ [(n, f.1)], checkPos := (t.checkPos + 4096) % 262144
                                        sweepPos := sw.2 }) (wrN TWN_EPOCH n d)
    let d2 := doIf (d.twn.sweepPos.isSome && sw.2.isNone) (raise 0x6C06 1) d1
    if linkUp d2 && flag d2 TWN_STATUS_paired_ok then
      sendMr (f.1.map .journal ++ sw.1 ++ [commitOf n f.1 d2]) (twnCount 0 1 d2)
    else d2

/-! ### Health and hunting -/

/-- The 256 bits of KEY_DIGEST. -/
def keyDigestNow (d : Dev) : Nat := keyDigest d

/-- The health frame of the chip (R360). -/
def ownHealth (d : Dev) : Health :=
  { claim := claimNow d, twin := fld d TWN_STATUS_state, device := devState d, servo := fld d REF_STATUS_servo
    cls := fld d BND_STATUS_advertised, fenced := fencedUnits d, bound := bndSum d, keyDigest := keyDigestNow d
    cfgDigest := configDigest d, passed := rdN d (TWN_CNT 8) - rdN d (TWN_CNT 9), failed := rdN d (TWN_CNT 9) }

/-- The health frame goes out once in a TAI second (R360). -/
def healthOut (d : Dev) : Dev :=
  doIf (linkUp d && decide (d.twn.healthSec ≠ some (taiSec d)))
    (fun x => sendMr [.health (ownHealth x)] (modTwn (fun t => { t with healthSec := some (taiSec x) }) x)) d

/-- HEALTH_FRAME_SEND (R360). -/
def execHealthFrameSend (s : State) : Host.Outcome State Fault Refusal := s.upd (fun d => doIf (twnAlive d) healthOut d)

/-- A digest flag follows its comparison (R361): event 0x6C09 once for each difference. -/
def digestFlag (f : Fld) (bit : Nat) (differs : Bool) (d : Dev) : Dev :=
  doIf (differs && !(flag d f)) (raise 0x6C09 bit) (setB f differs d)

/-- The partner's health frame (R360, R361). -/
def healthIn (h : Health) (d : Dev) : Dev :=
  let d1 := wrN TWN_PEER_STATE (h.twin % 4 + h.device % 8 * 4 + h.servo % 4 * 32 + h.cls % 256 * 256)
    (wr64 TWN_PEER_BOUND_LO (h.bound % 2 ^ 48) (setF TWN_STATUS_health_stale 0 (modTwn (fun t => { t with peerClaim := h.claim, peerAt := now16 d }) d)))
  digestFlag TWN_STATUS_cfg_diff 2 (decide (h.cfgDigest ≠ configDigest d))
    (digestFlag TWN_STATUS_key_diff 1 (decide (h.keyDigest ≠ keyDigestNow d)) d1)

/-- HEALTH_FRAME_RECEIVED (R361). -/
def execHealthFrameReceived (h : Health) (crcOk : Bool) (s : State) : Host.Outcome State Fault Refusal := s.upd (mrFrame crcOk (healthIn h))

/-- Three health frames have been missed (R361): 3 s have passed since the partner's last one, or since its hello. -/
def healthStale (d : Dev) : Dev :=
  doIf (!(flag d TWN_STATUS_health_stale) && elapsed d.twn.peerAt (3 * sec16) d)
    (fun x => raise 0x6C08 3 (twnCount 6 3 (setF TWN_STATUS_health_stale 1 x))) d

/-- HEALTH_STALE (R361). -/
def execHealthStale (s : State) : Host.Outcome State Fault Refusal := s.upd (fun d => doIf (twnAlive d) healthStale d)

/-- The next position of the test cycle from `p` (R362): 0 to 7 AES engines, 8 to 23 SHA-256 engines, 24 to 27 pipelines in claim
mode, 28 the session store. What is fenced is passed over. -/
def huntNext (d : Dev) : Nat → Nat → Nat
  | 0, p => p % 29
  | k + 1, p =>
    let q := p % 29
    if q < 24 then (if domOn d .cry && !(engFenced d q) then q else huntNext d k (q + 1))
    else if q < 28 then
      (if domOn d .pkt && !(unitOut d (0x21 + (q - 24))) && decide (fld d TWN_CTL_pkt_mode = 2) then q else huntNext d k (q + 1))
    else q

/-- The unit that a position tests. -/
def huntUnit (p : Nat) : Nat := if p < 24 then engUnit p else if p < 28 then 0x21 + (p - 24) else 0x26

/-- A failed hunt test (R362): event 0x6C0C, and an error of the unit tested. -/
def huntFail (p : Nat) (d : Dev) : Dev :=
  let u := huntUnit p
  let par := u + p * 256
  reportUnit u 0x05 .contained 0x6C0C par (raise 0x6C0C par (twnCount 9 1 d))

/-- The parity scrub of the next 64 KiB of the session store (R362, R40): sessions with a bad word are dropped, and the Active is asked
to send them again. -/
def scrubStore (d : Dev) : Dev :=
  let lo := 0x20000000 + d.twn.scrubPos * 65536
  let bad := d.badWords.filter (fun w => decide (lo ≤ w * 4) && decide (w * 4 < lo + 65536))
  let d1 := modTwn (fun t => { t with scrubPos := (t.scrubPos + 1) % 192 }) d
  let hit := (bad.map (fun w => (w * 4 - 0x20000000) / 48)).eraseDups
  let d2 := forEach hit (fun i x => if sessValid x i then sessionParity i false x else setRamWords (sessAddr i) (List.replicate 12 0#32) x) d1
  let d3 := doIf (linkUp d2 && flag d2 TWN_STATUS_paired_ok && !(hit.isEmpty)) (sendMr (hit.map (fun i => .again (.session i)))) d2
  if hit.isEmpty then d3 else huntFail 28 d3

/-- A hunt test is due: TWN_BIST_PERIOD has passed since the last one. -/
def huntDue (d : Dev) : Bool :=
  match d.twn.huntAt with
  | some t => elapsed t (fld d TWN_BIST_PERIOD_ms * 65536000000) d
  | none => true

/-- One hunt test (R362): of a Standby with bist_en = 1, the engines under a firmware credit. -/
def hunt (pass : Bool) (d : Dev) : Dev :=
  if !(twnAlive d) || !(flag d TWN_CTL_bist_en) || fld d TWN_STATUS_state ≠ 1 || !(huntDue d) then d
  else
    let p := huntNext d 29 d.twn.huntPos
    let waits := (decide (p < 8) && !(crdForFw d false)) || (decide (8 ≤ p) && decide (p < 24) && !(crdForFw d true))
    if waits then d
    else
      let d1 := twnCount 8 1 (modTwn (fun t => { t with huntPos := (p + 1) % 29, huntAt := some (now16 d) }) d)
      if p = 28 then (if domOn d1 .smem then scrubStore d1 else d1)
      else crdUse 5 (if p < 24 then [decide (8 ≤ p)] else []) (doIf (!pass) (huntFail p)) d1

/-- HUNT_TEST (R362). -/
def execHuntTest (pass : Bool) (s : State) : Host.Outcome State Fault Refusal := s.upd (hunt pass)

end Sys2Proof.Machine
end

