-- ==== Sys2Proof/Machine/PwrOps.lean ====
section
/-! DEFINITION. Domains and Boot (spec/19_power_boot.md): what the power-up and the power-down of a domain do (R451, R452, R455), the
entry into Boot (R38, R41, R456) and the steps of the Boot sequence (R457). -/

namespace Sys2Proof.Machine

open Sys2Proof

/-! ### Registers and memories of a domain -/

/-- The number of the domain that holds a register (R23, R450): 0 PD_AON; 14 a SYN register that either SYN domain holds. -/
def regDomN (a : Nat) (r : RegRow) : Nat :=
  match r.dom with
  | .aon => 0
  | .ctl => 1
  | .tb => 2
  | .meas => 3
  | .syn => if synDomN (a % bankSpan) = 0 then 14 else synDomN (a % bankSpan)
  | .gnss => 6
  | .pkt => 7
  | .cry => 8
  | .smem => 9
  | .sq => 10 + (a % bankSpan / 0x10000 - 0x10) / 2

/-- The register's values go with domain `n`: a global SYN register's with the last SYN domain. -/
def goesWith (d : Dev) (n a : Nat) (r : RegRow) : Bool :=
  let m := regDomN a r
  m == n || (m == 14 && ((n == 4 && !(domOnN d 5)) || (n == 5 && !(domOnN d 4))))

/-- The request table of MEAS: R134 keeps the requests over a power-down of PD_MEAS. -/
def isReqTable (a : Nat) : Bool := decide (MEAS_REQ_CFG ≤ a % bankSpan) && decide (a % bankSpan ≤ MEAS_REQ_STATE)

/-- The registers of domain `n` with a power-up reset at their reset values (R455). FLT_STATUS.fatal_seen is held in PD_AON (R421); the
other fields are reset in ctlUp. -/
def resetDom (n : Nat) (d : Dev) : Dev :=
  resetRegs (fun a r => decide (r.cls = .dom) && a != FLT_STATUS && !(isReqTable a) && goesWith d n a r) d

/-- The image's values for the registers of domain `n` with a power-up reset (R488). -/
def imageDom (n : Nat) (d : Dev) : Dev :=
  applyImage (fun a => match rowOf a with | some r => decide (r.cls = .dom) && goesWith d n a r | none => false) d

/-- The SRAM of a domain filled with zeros (R451). -/
def fillDom (n : Nat) (d : Dev) : Dev :=
  match n with
  | 1 =>
    let d1 := zeroRam 0 0x800000 d
    { d1 with img := { d1.img with stage := [], stageGen := none }
              badWords := d1.badWords.filter (fun w => decide (w * 4 < stageBase) || decide (stageBase + 0x500000 ≤ w * 4)) }
  | 6 => zeroRam 0x30000000 0x30800000 d
  | 7 => zeroRam 0x10000000 0x11000000 d
  | 9 => zeroRam 0x20000000 0x20C00000 d
  | _ => d

/-! ### What a power-up leaves in each block -/

/-- PD_CTL on: cores Halted or Fenced (R368), the collector's slots empty (R409), the latched events and reports of PD_AON taken (R39,
R402). -/
def ctlUp (d : Dev) : Dev :=
  let fatal := fld d FLT_STATUS_fatal_seen
  let d1 := wrN FLT_STATUS (fatal * 2)
    { d with ctl := { ctlReset with pages := d.ctl.pages }
             evq := { evqReset with pend := d.evq.pendAon }
             flt := { d.flt with
               slots := [], waiting := [], injn := none, aonReports := []
               units := d.flt.units.map (fun c => (c.1, { c.2 with
                 state := if c.2.state = 3 then 2 else if c.2.state = 1 then 0 else c.2.state
                 upsets := [], reports := 0, fences := 0
                 cause := if unitAon c.1 then c.2.cause else 0, merges := if unitAon c.1 then c.2.merges else 0
                 valid := c.2.valid && unitAon c.1, live := c.2.live && unitAon c.1
                 cbr := c.2.cbr && unitAon c.1, inj := c.2.inj && unitAon c.1 })) } }
  let d3 := forEach (List.range 4) (fun c x => setCore c (if unitFenced x (0x36 + c) then 4 else 1) x) d1
  forEach d.flt.aonReports (fun p x => collect p.1 false false false (some p.2) x) d3

/-- PD_TB on: the channels that are not fenced wait for their seeding (R109); REF, the ledger and the link start anew, with what lies in
PD_AON kept (R171). With TWN_CTL.en = 1 the link trains (R340). -/
def tbUp (d : Dev) : Dev :=
  let d1 := { d with
    tb := tbReset
    ref := refReset
    bnd := { bndReset with t0 := d.bnd.t0, holdN := d.bnd.holdN, wasHold := d.bnd.wasHold, copyT := d.bnd.copyT, copyBase := d.bnd.copyBase }
    twn := { twnReset with claim := 0, peerClaim := d.twn.peerClaim, absent := d.twn.absent, good := d.twn.good } }
  doIf (twnEn d1) (linkTo 1) (settleVoter (forEach (List.range 3) (fun i x => doIf (unitFenced x i) (setF ⟨TB_STATUS, 4 + i, 1⟩ 1) x) d1))

/-- The state of a SYN half at power-up: PLLs Off, fine delays at rest, pulse outputs at their reset settings (R205). -/
def synHidden (n : Nat) (d : Dev) : Dev :=
  let lo := if n = 4 then 0 else 1
  { d with syn := { d.syn with
      plls := ckeep (fun p => p / 2 != lo) d.syn.plls
      outs := ckeep (fun o => (if o < 16 then o / 8 else (o - 16) / 4) != lo) d.syn.outs
      pps := ckeep (fun q => q / 2 != lo) d.syn.pps
      autoLeft := d.syn.autoLeft.filter (fun p => p / 2 != lo) ++ d.syn.auto.filter (fun p => p / 2 == lo)
      calHas := d.syn.calHas.filter (fun i => (if i < 16 then i / 8 else (i - 16) / 2) != lo) } }

/-- The lanes and subports of a quad at power-up; a fenced quad or block stays Fenced (R236, R414). -/
def quadUp (q : Nat) (d : Dev) : Dev :=
  let d1 := { d with net := { d.net with
    lanes := ckeep (fun l => l / 4 != q) d.net.lanes, subs := ckeep (fun k => k / 4 != q || decide (16 ≤ k)) d.net.subs } }
  forEach (quadPorts q) (fun p x =>
    if unitFenced x (0x14 + q) || unitFenced x (0x18 + p) then
      setF (PORT_STATUS_fenced p) 1 (forEach (portSubs x p) (fun s y => setF (PORT_SUB_STATUS_link p s) 4 y) x)
    else startPort p x) d1

/-- PD_PKT on: queues and buffers empty, the weirs full. The next-hop table lies in PD_AON (R40, R291), and the last Locked epoch is
TB's (R300). -/
def pktUp (d : Dev) : Dev :=
  weirPower { d with net := { netReset with lanes := d.net.lanes, subs := d.net.subs, nh := d.net.nh, lockedAt := d.net.lockedAt } }

/-- PD_CRY on: the credits are whole, and fenced engines keep theirs in the fenced term (R317, R414). -/
def cryUp (d : Dev) : Dev :=
  forEach (List.range 24) (fun e x => doIf (unitFenced x (engUnit e) || x.key.engOut.contains e) (engineOut e) x)
    { d with key := { d.key with katDue := true, engTest := [] } }

/-- What the reset of domain `n` leaves in its block's hidden state. -/
def hiddenUp (n : Nat) (d : Dev) : Dev :=
  match n with
  | 1 => ctlUp d
  | 2 => tbUp d
  | 3 => measReturn { d with meas := { measReset with reqs := d.meas.reqs, out := d.meas.out } }
  | 4 => synHidden 4 d
  | 5 => synHidden 5 d
  | 6 => { d with gn := gnReset }
  | 7 => pktUp d
  | 8 => cryUp d
  | 10 => quadUp 0 d
  | 11 => quadUp 1 d
  | 12 => quadUp 2 d
  | 13 => quadUp 3 d
  | _ => d

/-- A domain powers up (R451): its SRAM is filled, its registers reset, the image's values taken, and its bit set. -/
def powerUp (n : Nat) (d : Dev) : Dev :=
  if domOnN d n then d else hiddenUp n (setDom n true (imageDom n (resetDom n (fillDom n d))))

/-! ### What a power-down takes -/

/-- PD_TB goes off: time goes on in the low-power counter with the validity it has (R38, R110), and a servo that was not in Holdover
counts as holdover from the last epoch (R171). The twin link is down (R340). -/
def tbDown (d0 : Dev) : Dev :=
  let d := doIf (twnEn d0) (linkTo 0) d0
  if !(flag d TB_STATUS_seeded) then d
  else
    let c := holdCoefs d
    let d2 := { d with lpc := { d.lpc with valid := flag d TB_STATUS_time_valid && !(unitFenced d 0x04), seen := [] }
                       pwr := { d.pwr with lwEns := (leadChan d).ens } }
    setF TB_STATUS_seeded 0 (doIf (!d.bnd.wasHold) (fixHold d.bnd.copyT d.bnd.copyBase c.1 c.2.1 c.2.2) d2)

/-- The endpoint core reset as by PERST_N (R69, R489): both functions as after a conventional reset, the link down, the link registers and
every bulk channel of PF0 or PF1 at their reset values, the channel aborted and released. -/
def endpointReset (d : Dev) : Dev :=
  let fresh := fun (f : PcieFn) => { pcieReset with pba := f.pba, sent := f.sent }
  let d1 := { d with hif := { d.hif with f0 := fresh d.hif.f0, f1 := fresh d.hif.f1 } }
  let d2 := setF HIF_STATUS_link_up 0 (setF HIF_STATUS_speed 0 (setF HIF_STATUS_width 0
    (setF HIF_STATUS_pf0_d 0 (setF HIF_STATUS_pf1_d 0 d1))))
  let d3 := wr HIF_LINK_DBG 0 (wr HIF_REPLAY_CNT 0 (wr HIF_RXERR_CNT 0 d2))
  let free := fun (c : Nat) (x : Dev) => wr (HIF_BULK_CURSOR c) 0 (wr (HIF_BULK_LIMIT c) 0 (bulkReleaseOp c x))
  forEach (List.range 8) (fun c x => doIf (bulkOwner x c == 1 || bulkOwner x c == 2) (free c) x) d3

/-- The operations that run in the flash, without those that wait: PD_CTL takes the write buffers with it. -/
def runningAll (l : List FlashOp) : List FlashOp :=
  (List.range 8).filterMap (fun c => l.find? (fun o => o.chan == c))

/-- PD_CTL goes off: pending events of PD_AON sources stay latched, HOST_INT_N is released (R402), the collector's slots are gone;
VDD_CORE is held at 0.75 V (R447). -/
def ctlDown (d0 : Dev) : Dev :=
  let d := setF (PWR_RAIL_V_target 0) 750 (endpointReset d0)
  { d with evq := { d.evq with pend := [], pendAon := d.evq.pend.filter (fun e => aonSource e.src), notified := [] }
           hif := { d.hif with f0 := { d.hif.f0 with pba := false }, f1 := { d.hif.f1 with pba := false }
                               pageBuf := [], refused := [], flashOps := runningAll d.hif.flashOps }
           flt := { d.flt with slots := [], waiting := [], injn := none } }

/-- A SYN half goes off: its outputs stop at once (R205). -/
def synDown (n : Nat) (d : Dev) : Dev :=
  let lo := if n = 4 then 0 else 2
  let d1 := forEach [lo, lo + 1] (fun q x => setSpps q sppsReset (ppsRun q false x)) (forEach [lo, lo + 1] offPll d)
  { d1 with syn := { d1.syn with autoLeft := d1.syn.autoLeft.filter (fun p => p / 2 * 2 != lo) } }

/-- A quad goes off: its subports leave Up and what they hold is returned (R236, R242). -/
def quadDown (q : Nat) (d : Dev) : Dev :=
  forEach (quadPorts q) (fun p x => forEach (portSubs x p) (fun s y => dropTx p s (leaveUp p s 0 y)) x) d

/-- PD_SMEM goes off: every session and its sequence counters are lost (R275), and with them what the next-hop table serves. -/
def smemDown (d : Dev) : Dev :=
  forEach (List.range 16) (fun u x => setF (SVC_UC_COUNT_sessions u) 0 x)
    (zeroRam 0x20000000 0x20C00000 { d with net := { d.net with nh := [], sigSeq := ckeep (fun k => decide (2 ^ 20 ≤ k)) d.net.sigSeq } })

/-- What the power-down of domain `n` takes out of its block. -/
def hiddenDown (n : Nat) (d : Dev) : Dev :=
  match n with
  | 1 => ctlDown d
  | 2 => tbDown d
  | 3 => measLoss d
  | 4 => synDown 4 d
  | 5 => synDown 5 d
  | 9 => smemDown d
  | 10 => quadDown 0 d
  | 11 => quadDown 1 d
  | 12 => quadDown 2 d
  | 13 => quadDown 3 d
  | _ => d

/-- A domain powers down (R451): its clamps hold every output at its reset value. -/
def powerDown (n : Nat) (d : Dev) : Dev :=
  if n = 0 || !(domOnN d n) then d else resetDom n (setDom n false (hiddenDown n d))

/-- The order in which domains power up together (R452). -/
def upOrder : List Nat := [1, 2, 3, 4, 5, 10, 11, 12, 13, 6, 9, 7, 8]

/-- Every domain of a list off, in the reverse order of R452. -/
def allDown (l : List Nat) (d : Dev) : Dev := forEach (upOrder.reverse.filter (fun n => l.contains n)) powerDown d

/-! ### Which domains are called for -/

/-- DOMAINS of the running image declares domain `n`, and PWR_DOM_OFF does not hold it off (R453). -/
def domDeclared (d : Dev) (n : Nat) : Bool := d.pwr.declared / 2 ^ n % 2 == 1 && fld d PWR_DOM_OFF_hold / 2 ^ n % 2 == 0

/-- An image is applied (R43): a set runs and the device is not in Low water. -/
def imageIn (d : Dev) : Bool := !d.img.run.isEmpty && devState d != stLow

/-- R43 and R452 call for domain `n`: a quad waits for the SerDes reference PLL (R452), the packet domains for Standby or Serve. -/
def domWanted (d : Dev) (n : Nat) : Bool :=
  let wake := devState d == stLow && (d.pwr.wakeDisc || d.pwr.wakeGnss)
  match n with
  | 0 => true
  | 1 => devState d != stLow || wake
  | 2 => imageIn d
  | 3 => imageIn d || wake
  | 4 => imageIn d && domDeclared d 4
  | 5 => imageIn d && domDeclared d 5
  | 6 => (imageIn d || (devState d == stLow && d.pwr.wakeGnss)) && domDeclared d 6
  | 7 => running d
  | 8 => running d
  | 9 => running d
  | _ => imageIn d && domDeclared d n && pllState d (serdesPll d) == 3

/-- `d` with every domain that is called for on, and every other off, in the order of R452. -/
def settleDoms (d : Dev) : Dev :=
  let off := (List.range 14).filter (fun n => !(domWanted d n))
  forEach upOrder (fun n x => doIf (domWanted x n) (powerUp n) x) (allDown off d)

/-! ### Entering Boot -/

/-- PWR_STATUS.state changes (R466): event 0x0C01 with the old and the new state. The time in Standby or Serve begins where neither of
them was the state before (R56). -/
def stateTo (st : Nat) (d : Dev) : Dev :=
  let d1 := doIf (!(running d)) (fun x => { x with pwr := { x.pwr with upAt := now16 x } }) d
  raise 0x0C01 (devState d + st * 16) (setF PWR_STATUS_state st d1)

/-- The registers whose values outlive a Boot though their reset is Boot: those that the archive keeps (R430). -/
def keptAtBoot (a : Nat) : Bool := a == BND_TRACE_SEQ || a == TWN_ALIGN_SEQ

/-- Every register with Boot reset at its reset value (R455); IMG_CAUSE.cause comes from the recorder, the cursors start at the oldest
record. -/
def bootRegs (d : Dev) : Dev :=
  let c := fld d IMG_CAUSE_cause
  let d1 := resetRegs (fun a r => (decide (r.cls = .boot) && !(keptAtBoot (a % bankSpan)) && a != PWR_STATUS) || isReqTable a)
    { d with meas := { d.meas with reqs := [] } }
  forEach [1, 2, 3, 4, 5] (fun r x => wrN (own LOG_CUR r) (logOldest x) x) (setF IMG_STATUS_source 3 (setF IMG_CAUSE_cause c d1))

/-- Boot is entered (R38, R41, R456): every domain except PD_AON off, the state changed, the cause recorded, the entry counted in the
life counters (R435), a reload in progress dropped (R60). -/
def enterBoot (cause : Nat) (d : Dev) : Dev :=
  let d1 := allDown upOrder d
  let d2 := { d1 with pwr := { d1.pwr with trans := .none, exitArmed := false, wakeDisc := false, wakeGnss := false, wakeTick := false, refreshTo := none, ringDoms := [], declared := 0 }
                      img := { d1.img with run := [], reload := none } }
  let d3 := bootRegs d2
  let d4 := setF PWR_STATUS_boot_cause cause (setF PWR_STATUS_busy 0 (setF PWR_STATUS_lw 0 (setF PWR_STATUS_lw_wake 0 d3)))
  let d5 := lifeAdd 13 1 d4
  if devState d = stBoot then d5 else raise 0x0C01 (devState d + stBoot * 16) (setF PWR_STATUS_state stBoot d5)

/-! ### The Boot sequence -/

/-- The nominal frequencies of R454, in Hz. -/
def sysNominals : List Nat := [10000000, 12800000, 19200000, 20000000, 25000000, 38400000, 50000000, 100000000, 125000000]

/-- The nominal within ±1,000 ppm of a measured frequency that is nearest to it (R454). -/
def sysNominal (hz : Nat) : Option Nat :=
  (sysNominals.filter (fun (n : Nat) => decide (((hz : Int) - (n : Int)).natAbs * 1000 ≤ n))).foldl
    (fun (b : Option Nat) (n : Nat) => match b with
      | none => some n
      | some m => if ((hz : Int) - (n : Int)).natAbs < ((hz : Int) - (m : Int)).natAbs then some n else some m) none

/-- The stages on or off, with the rails of R446 good or not. -/
def stages (on : Bool) (d : Dev) : Dev :=
  forEach [0, 1, 2] (fun n => setB (PWR_RAIL_STAT_good n) on) { d with pwr := { d.pwr with stagesOff := !on } }

/-- Steps 2 to 4 of R457: stages on, PD_CTL on with core 0 in ROM, PLL_SYS or the ring clock (R454). -/
def bootCtl (o : BootObs) (d : Dev) : Dev :=
  let d1 := startCore 0 0 (powerUp 1 (stages true d))
  let nom := sysNominal o.sysHz
  let d2 := match nom with | some n => setF PWR_SYSREF_nom (Config.sysNominal n) d1 | none => d1
  doIf (nom.isNone || !o.sysLock) (fun x => refreshRing { x with pwr := { x.pwr with ringDoms := [1, 6, 8, 7, 9] } }) d2

/-- The hash keys of a Boot (R336): four requests to the DRBG, which reseeds every 2^20; without a passing health test, or with unit 0x32
out of service, they are derived from the near time and rng_ok is 0. -/
def bootKeys (o : BootObs) (d : Dev) : Dev :=
  match o.hashKeys with
  | some l =>
    if unitOut d 0x32 then
      setF KEY_STATUS_rng_ok 0 { d with key := { d.key with hashKeys := (List.range 4).map (Config.timeKey (near d)) } }
    else setF KEY_STATUS_rng_ok 1 { d with key := { d.key with hashKeys := l, rngReq := (d.key.rngReq + 4) % 2 ^ 20 } }
  | none => setF KEY_STATUS_rng_ok 0 { d with key := { d.key with hashKeys := (List.range 4).map (Config.timeKey (near d)) } }

/-- Step 5: fuses read, the archive restored after Off (R433) with this entry into Boot counted (R435), hash keys drawn (R292, R294,
R302). -/
def bootRead (o : BootObs) (d : Dev) : Dev :=
  let d1 := doIf (fld d PWR_STATUS_boot_cause == 1) (fun x => lifeAdd 13 1 (restoreArchive x)) d
  bootKeys o { d1 with key := { d1.key with revBoot := rdN d1 KEY_FUSE_STATUS / 16 % 16 } }

/-- The images of the set applied (R457 step 7, R488): every register field and hidden value, and the FAULT pins leave fatal (R421). -/
def imagesApplied (d : Dev) : Dev :=
  let d1 := applyFixedHidden (applyLiveHidden (applyImage (fun _ => true) d))
  refreshGains { d1 with flt := { d1.flt with pinsFatal := false } }

/-- The pages of control SRAM that the ROM loads from the core firmware; it records the place and the hash of read-only pages, none for a
set from the host (R377). -/
def loadPages (l : List (Nat × Nat × Bool)) (d : Dev) : Dev :=
  let src := fld d IMG_STATUS_source
  let core := d.img.run.getD 1 []
  forEach l (fun p x =>
    let bs := sliceOf core p.2.1 4096
    let y := setRamWords (p.1 * 4096) (wordsOf bs) x
    let rec0 := if p.2.2 && decide (src < 2) then some (slotBase src + imgPlace 2 + p.2.1, Config.sha256 bs) else none
    { y with ctl := { y.ctl with pages := cput (fun _ => none) y.ctl.pages p.1 rec0 } }) d

/-- TB seeded from the low-power counter (R109, R110, R171): without a crystal edge there is no measured interval. The servo starts in
Holdover with a valid summary, else in Free-run with the bound that the holdover has reached. -/
def seedAll (seed : Nat) (d : Dev) : Dev :=
  let meas := if flag d PWR_STATUS_ck_rc then 0 else seed
  let d1 := seedBase (seedTb meas (setB TB_STATUS_time_valid d.lpc.valid d))
  let has := (predAt d1 (near d1)).isSome
  if has then
    let d2 := servoTo 3 d1
    { d2 with ref := { d2.ref with holdT0 := if d.bnd.wasHold then d.bnd.t0 else d2.ref.holdT0 } }
  else { d1 with bnd := { d1.bnd with freeT0 := now16 d1, freeBase := if d.bnd.wasHold then holdBound d1 else 0 } }

/-- A request posted for each slot of kinds 0x1 to 0x3, enabled or not (R137, R141). -/
def postSlots (d : Dev) : Dev := forEach (List.range 32) postSlot d

/-- Steps 7 to 10 of R457 for an accepted set: images applied, PD_TB on, TB seeded, the other domains on, cores 1 to 3 started, Standby,
and Serve with serve_at_start. PLL_TICK that does not lock leaves the device in Boot (R452). -/
def bootRun (o : BootObs) (d : Dev) : Dev :=
  let d0 := loadPages o.pages (imagesApplied { d with img := { d.img with loads := o.pages } })
  let d1 := doIf (decide (fld d IMG_STATUS_source < 2)) (fun x =>
    draw { x with img := { x.img with stage := [], stageGen := some x.ctr } }) d0
  let d2 := powerUp 2 d1
  if !o.tickLock then d2
  else
    let d3 := seedAll o.seed (powerUp 3 d2)
    let d4 := settleDoms (postSlots (stateTo stStandby d3))
    let d5 := forEach [1, 2, 3] (fun c x => doIf (coreState x c == 1) (startCore c 0) x) d4
    let d6 := doIf d5.img.serveAtStart (stateTo stServe) d5
    refreshServing (refreshPreds d6)

/-- The whole sequence of R457: step 6 stops where no slot passes, and the device waits for a host set (R57). -/
def bootSequenceF (o : BootObs) (d : Dev) : Dev :=
  let d1 := bootRead o (bootCtl o d)
  let d2 := trySlots o.readErrs (candidates54 d1) d1
  if d2.img.run.isEmpty then d2 else bootRun o d2

end Sys2Proof.Machine
end

