-- ==== Sys2Proof/Machine/Fence.lean ====
section
/-! DEFINITION. What the fence of a reporting unit takes out of its block, and what its readmission puts back (R405, R414, R415 of
spec/17_faults.md). -/

namespace Sys2Proof.Machine

open Sys2Proof

/-- A TB channel taken out (R405): the voter is Double. -/
def chanOut (i : Nat) (d : Dev) : Dev := setF TB_STATUS_voter 2 (setF ⟨TB_STATUS, 4 + i, 1⟩ 1 { d with tb := { d.tb with odd := none } })

/-- The fence of unit `u` would leave fewer than two TB channels in service (R106, R412). -/
def tooFewChans (u : Nat) (d : Dev) : Bool := decide (u < 3) && decide (((inService d).filter (fun j => j != u)).length < 2)

/-- A TB channel that passed its readmission test (R106). -/
def chanIn (i : Nat) (d : Dev) : Dev :=
  raise 0x200E i (settleVoter (setF ⟨TB_STATUS, 4 + i, 1⟩ 0 (loadChan i { d with tb := { d.tb with readmit := none } })))

/-- A PLL taken out: Off, its outputs low, and the quads that it feeds fenced (R24, R405). -/
def pllOut (p : Nat) (d : Dev) : Dev :=
  doIf (serdesPll d == p) (forEach (List.range 8) (fun b => fencePort b 2)) (offPll p d)

/-- The blocks of a quad or the one block, back from Fenced to Calibrating (R236). -/
def portsIn (l : List Nat) (d : Dev) : Dev :=
  forEach l (fun p x => doIf (flag x (PORT_STATUS_fenced p)) (fun y => toCalibrating p (setF (PORT_STATUS_fenced p) 0 y)) x) d

/-- The MEAS channels of units 0x07 and 0x08. -/
def unitChans (u : Nat) : List Nat := if u = 0x07 then List.range 12 else (List.range 12).map (fun i => 12 + i)

/-- Units of a number from `a` on. -/
def unitIdx (u a n : Nat) : Option Nat := if a ≤ u ∧ u < a + n then some (u - a) else none

/-- An engine fenced by the collector, with event 0x680B (R317). -/
def engineOutEv (e : Nat) (d : Dev) : Dev := if engFenced d e then d else raise 0x680B (engParam e) (engineOut e d)

/-- What the fence of unit `u` takes out (R405). -/
def takeOut (u cause : Nat) (d : Dev) : Dev :=
  match unitIdx u 0x00 3, unitIdx u 0x0B 4, unitIdx u 0x14 4, unitIdx u 0x18 8, unitIdx u 0x36 4 with
  | some i, _, _, _, _ => chanOut i d
  | _, some p, _, _, _ => pllOut p d
  | _, _, some q, _, _ => forEach (quadPorts q) (fun p => fencePort p 2) d
  | _, _, _, some p, _ => fencePort p 1 d
  | _, _, _, _, some c => coreOut c cause d
  | _, _, _, _, _ =>
    match u with
    | 0x04 => { d with lpc := { d.lpc with valid := false } }
    | 0x05 => measLoss d
    | 0x06 => measLoss d
    | 0x07 => forEach (unitChans 0x07) fenceMch d
    | 0x08 => forEach (unitChans 0x08) fenceMch d
    | 0x10 => refreshRing d
    | 0x11 => forEach (List.range 4) (fun n x => doIf (gsOn x n && !(gsLost x n)) (loseStream n) x) d
    | 0x12 => forEach (List.range 4) stallStream d
    | 0x20 => dsgLinkTo 0 (endCycle (rxCut 8 0 10 d))
    | 0x25 => refreshServing d
    | 0x32 => rngStop d
    | 0x33 => closeWindow d
    | 0x34 => doIf (decide (fld d TWN_STATUS_link ≠ 0)) (linkTo 0) d
    | 0x3A => dmaOut d
    | 0x3E => endpointReset d
    | _ => if 0x21 ≤ u ∧ u ≤ 0x24 then refreshServing d else forEach (unitEngines u) engineOutEv d

/-- What the readmission of unit `u` puts back (R415). -/
def putBack (u : Nat) (d : Dev) : Dev :=
  match unitIdx u 0x00 3, unitIdx u 0x14 4, unitIdx u 0x18 8, unitIdx u 0x36 4 with
  | some i, _, _, _ => chanIn i d
  | _, some q, _, _ => portsIn (quadPorts q) d
  | _, _, some p, _ => portsIn [p] d
  | _, _, _, some c => coreTested c true d
  | _, _, _, _ =>
    match u with
    | 0x05 => doIf (!(unitOut d 0x06)) measReturn d
    | 0x06 => doIf (!(unitOut d 0x05)) measReturn d
    | 0x07 => forEach (unitChans 0x07) admitMch d
    | 0x08 => forEach (unitChans 0x08) admitMch d
    | 0x10 => refreshRing d
    | 0x20 => doIf (decide (dsgMode d ≠ 0)) (dsgLinkTo 1) d
    | 0x25 => refreshServing d
    | 0x32 => setF KEY_STATUS_rng_ok 1 d
    | 0x34 => doIf (twnAlive d) (linkTo 1) d
    | 0x3A => dmaIn d
    | _ => if 0x21 ≤ u ∧ u ≤ 0x24 then refreshServing d else forEach (unitEngines u) engineIn d

/-- A unit fenced by the collector (R410, R414): state, event, and what it takes out. A fence that would leave fewer than two TB channels
is never made: it is fatal of unit 0x03 (R106). -/
def fenceOut (u cause : Nat) (d : Dev) : Dev :=
  if tooFewChans u d then decideFatal 0x03 0x06 false d
  else if unitEssential u || unitMemory u then fenceUnit u cause d else takeOut u cause (fenceUnit u cause d)

/-- Some channels or engines of a unit fenced (R405, R414); all of them fence the unit. -/
def fenceParts (u : Nat) (parts : List Nat) (cause : Nat) (d : Dev) : Dev :=
  if u = 0x07 ∨ u = 0x08 then
    let d1 := forEach (parts.filter (fun c => (unitChans u).contains c)) fenceMch d
    if (unitChans u).all (fun c => fld d1 (MEAS_CH_OWN_state c) == 3) then fenceUnit u cause d1 else partFence u d1
  else
    let d1 := forEach (parts.filter (fun e => (unitEngines u).contains e)) engineOutEv d
    if (unitEngines u).all (engFenced d1) then fenceUnit u cause d1 else partFence u d1

end Sys2Proof.Machine
end

