-- ==== Sys2Proof/Machine/Flt.lean ====
section
/-! DEFINITION. The fault collector's commands (spec/17_faults.md): reports, rail faults and polling, self-tests and handlings, the
fatal path, readmission, latched causes, and injection. -/

namespace Sys2Proof.Machine

open Sys2Proof

/-- The number of the domain of a reporting unit (R405). -/
def unitDomN (d : Dev) (u : Nat) : Nat :=
  if unitAon u then 0
  else if u ≤ 0x03 ∨ u = 0x09 ∨ u = 0x0A ∨ u = 0x0F ∨ u = 0x34 then 2
  else if u ≤ 0x08 then 3
  else if u ≤ 0x0C then 4
  else if u ≤ 0x0E then 5
  else if u = 0x10 then 1
  else if u ≤ 0x13 then 6
  else if u ≤ 0x17 then 10 + (u - 0x14)
  else if u ≤ 0x1F then 10 + portQuad d (u - 0x18)
  else if u ≤ 0x25 ∨ u = 0x27 then 7
  else if u = 0x26 then 9
  else if u ≤ 0x31 then 8
  else 1

/-- The rails of a unit reach the collector or its latch: a unit whose domain is off is clamped to the idle pair (R406). -/
def unitAlive (d : Dev) (u : Nat) : Bool := d.pwr.powered && domOnN d (unitDomN d u)

/-! ### Reports and rails -/

/-- A report of a unit on its rails (R406). -/
def unitReportF (p : FltReport) (d : Dev) : Dev := doIf (unitAlive d p.unit.val) (report p) d

/-- UNIT_REPORT (R406, R409). -/
def execUnitReport (p : FltReport) (s : State) : Host.Outcome State Fault Refusal := s.upd (live (unitReportF p))

/-- A handling without a test of its own. -/
def bareSlot (u cause : Nat) (cls : FCls) (polled : Bool) (d : Dev) : FSlot :=
  { idx := 8, unit := u, cls := cls, cause := cause, ev := 0, evParam := 0, inj := false, stFail := false, merges := 0
    lastMerged := 0, polled := polled, phase := 1, t0 := near d, seen := none }

/-- A rail fault (R407): recorded as contained with cause 0xFE, event 0x1002; the unit is polled from then on. While PD_CTL is off its
latch takes the fault as a report (R39). -/
def railDetect (u : Nat) (high : Bool) (d : Dev) : Dev :=
  if !(unitAlive d u) || (funit d u).polled then d
  else
    let d1 := modUnit u (fun x => { x with stuck := some high, polled := true }) d
    if domOn d .ctl then
      raise 0x1002 u (recordHandling (bareSlot u 0xFE .contained false d1) 2 0 false (fltCount 6 (latchCause u 0xFE false d1)))
    else reportUnit u 0xFE .contained 0 0 d1

/-- RAIL_FAULT_DETECT (R407). -/
def execRailFaultDetect (u : Fin 64) (high : Bool) (s : State) : Host.Outcome State Fault Refusal :=
  s.upd (live (railDetect u.val high))

/-- One poll of a unit (R407): an error found is handled as a rail report with polled = 1; without an answer the unit is fenced, or the
fatal path follows. -/
def pollUnit (u : Fin 64) (o : PollResult) (d : Dev) : Dev :=
  if !(domOn d .ctl) || !(funit d u.val).polled then d
  else
    match o with
    | .quiet => d
    | .noAnswer => fenceOut u.val 0xFE d
    | .found p => collect { p with unit := u } false false true none d

/-- UNIT_POLL (R407). -/
def execUnitPoll (u : Fin 64) (o : PollResult) (s : State) : Host.Outcome State Fault Refusal := s.upd (pollUnit u o)

/-! ### Handlings -/

/-- The handling in slot `i`. -/
def handlingAt (d : Dev) (i : Nat) : Option FSlot := d.flt.slots.find? (fun x => x.idx == i)

/-- Another handling of the unit is open. -/
def otherOpen (d : Dev) (x : FSlot) : Bool :=
  (d.flt.slots ++ d.flt.waiting).any (fun y => y.unit == x.unit && y.inj != x.inj)

/-- The self-test of a handling stops the unit's work (R405, R410), which its block treats as a fence for that time: MEAS or some of its
channels lose their requests, the links of a quad or a port block calibrate, a PLL searches and locks again, PLL_SYS leaves its clocks to
the ring, streams are lost, channels stall, a link goes down, engines return their credits. -/
def testStarts (u : Nat) (d : Dev) : Dev :=
  match unitIdx u 0x0B 4, unitIdx u 0x14 4, unitIdx u 0x18 8 with
  | some p, _, _ => doIf (pllState d p ≠ 0) (startPll p) d
  | _, some q, _ => forEach (quadPorts q) (fun p x => doIf (portOn x p && !(flag x (PORT_STATUS_fenced p))) (toCalibrating p) x) d
  | _, _, some p => doIf (portOn d p && !(flag d (PORT_STATUS_fenced p))) (toCalibrating p) d
  | _, _, _ =>
    match u with
    | 0x05 => measLoss d
    | 0x06 => measLoss d
    | 0x07 => forEach (unitChans 0x07) pauseMch d
    | 0x08 => forEach (unitChans 0x08) pauseMch d
    | 0x10 => refreshRing d
    | 0x11 => forEach (List.range 4) (fun n x => doIf (gsOn x n && !(gsLost x n)) (loseStream n) x) d
    | 0x12 => forEach (List.range 4) stallStream d
    | 0x20 => dsgLinkTo 0 (endCycle (rxCut 8 0 10 d))
    | 0x32 => rngStop d
    | 0x33 => closeWindow d
    | 0x34 => linkTo 0 d
    | 0x3E => endpointReset d
    | _ => if 0x21 ≤ u ∧ u ≤ 0x25 then refreshServing d else forEach (unitEngines u) engineHold d

/-- The unit back in service after a passed test. -/
def testEnds (u : Nat) (d : Dev) : Dev :=
  match u with
  | 0x05 => doIf (domOn d .meas && !(unitOut d 0x05) && !(unitOut d 0x06)) measReturn d
  | 0x06 => doIf (domOn d .meas && !(unitOut d 0x05) && !(unitOut d 0x06)) measReturn d
  | 0x10 => refreshRing d
  | 0x20 => doIf (decide (dsgMode d ≠ 0)) (dsgLinkTo 1) d
  | 0x32 => setF KEY_STATUS_rng_ok 1 d
  | 0x34 => doIf (twnAlive d) (linkTo 1) d
  | _ => doIf (decide (0x21 ≤ u ∧ u ≤ 0x25)) refreshServing d

/-- The self-test of slot `i` starts: the unit holds no work in flight, or 2 µs are over (R410). -/
def testStart (i : Nat) (d : Dev) : Dev :=
  match handlingAt d i with
  | some x =>
    if !(domOn d .ctl) || x.phase ≠ 1 || unitNoTest x.unit then d
    else
      let d1 := putSlot { x with phase := 2 } d
      doIf (!(unitFenced d x.unit)) (testStarts x.unit) d1
  | none => d

/-- SELFTEST_START (R410). -/
def execSelftestStart (i : Fin 8) (s : State) : Host.Outcome State Fault Refusal := s.upd (live (testStart i.val))

/-- A handling ends (R410, R415): its slot is free for the next unit, and the unit is Normal again unless it is fenced or has another
handling open. -/
def closeSlot (x : FSlot) (d : Dev) : Dev :=
  let d1 := { d with flt := { d.flt with slots := d.flt.slots.filter (fun y => y.idx != x.idx) } }
  let busy := (d1.flt.slots ++ d1.flt.waiting).any (fun y => y.unit == x.unit)
  railsIdle x.unit (admitWaiting (doIf (!busy) (modUnit x.unit (fun y => if y.state = 1 then { y with state := 0 } else y)) d1))

/-- A handling whose test failed, or which passes the limit of R411 (R410, R413): contained; the unit is fenced, in the failed parts where
the test names some; a memory unit stays; an essential unit is fatal. -/
def handlingFails (x : FSlot) (parts : List Nat) (test : Nat) (d : Dev) : Dev :=
  if unitEssential x.unit then
    closeSlot x (decideWith { unit := x.unit, cause := x.cause, ev := x.ev, evParam := x.evParam, inj := x.inj, collector := false, seen := x.seen } d)
  else
    let d1 := recordHandling x 2 test (x.cls == .corrected) (fltCount 5 d)
    closeSlot x (if parts.isEmpty then fenceOut x.unit x.cause d1 else fenceParts x.unit parts x.cause d1)

/-- A handling whose test passed (R410, R411). -/
def handlingPasses (x : FSlot) (test : Nat) (d : Dev) : Dev :=
  let d1 := countUpset x.unit d
  if upsetLimit d1 x.unit then raise 0x1006 x.unit (handlingFails x [] test d1)
  else
    let d2 := recordHandling x (clsNum x.cls) test false d1
    testEnds x.unit (closeSlot x d2)

/-- The outcome number of R417 and whether the test passed, with its failed parts. -/
def testOutcome (o : TestResult) : Nat × Bool × List Nat :=
  match o with
  | .ran p => (if p then 1 else 2, p, [])
  | .fromBlock p => (4, p, [])
  | .parts l => (if l.isEmpty then 1 else 2, l.isEmpty, l.map Fin.val)

/-- The self-test of slot `i` ends (R410, R411, R419). An injected handling beside a real one of its unit keeps its class and causes no
action. -/
def testDone (i : Nat) (o : TestResult) (d0 : Dev) : Dev :=
  match handlingAt d0 i with
  | none => d0
  | some x =>
    if !(domOn d0 .ctl) || x.phase ≠ 2 then d0
    else
      let d := forEach (unitEngines x.unit) engineFree d0
      let r := testOutcome o
      let test := if x.stFail then 2 else r.1
      if x.inj && otherOpen d x then closeSlot x (recordHandling x (clsNum x.cls) test false d)
      else if r.2.1 && !x.stFail then handlingPasses x test d
      else handlingFails x r.2.2 test d

/-- SELFTEST_COMPLETE (R410). -/
def execSelftestComplete (i : Fin 8) (o : TestResult) (s : State) : Host.Outcome State Fault Refusal := s.upd (live (testDone i.val o))

/-- 1 µs after the first report of a handling without a test (R410, R411): outcome 0, no upset; a fence due on an essential unit is
fatal. -/
def noTestDone (i : Nat) (d : Dev) : Dev :=
  match handlingAt d i with
  | none => d
  | some x =>
    if !(domOn d .ctl) || !(unitNoTest x.unit) || decide ((near d + 2 ^ 64 - x.t0) % 2 ^ 64 < us16) then d
    else if x.inj && otherOpen d x then closeSlot x (recordHandling x (clsNum x.cls) 0 false d)
    else if x.stFail then handlingFails x [] 2 d
    else closeSlot x (recordHandling x (clsNum x.cls) 0 false d)

/-- HANDLING_NO_TEST_EXPIRY (R410). -/
def execHandlingNoTestExpiry (i : Fin 8) (s : State) : Host.Outcome State Fault Refusal := s.upd (live (noTestDone i.val))

/-! ### The fatal path -/

/-- The records of one fatal decision: 0x1001 with class fatal, then 0x1008, or 0x1009 for the collector's halves (R417, R420). -/
def fatalRecord (x : FFatal) (d : Dev) : Dev :=
  let y : FSlot := { idx := 8, unit := x.unit, cls := .fatal, cause := x.cause, ev := x.ev, evParam := x.evParam, inj := x.inj
                     stFail := false, merges := 0, lastMerged := 0, polled := (funit d x.unit).polled, phase := 1, t0 := near d, seen := x.seen }
  let d1 := note (handlingRec y 3 0 false x.collector (x.seen.getD (now16 d)))
    (setPending 0x201 0x1001 (x.unit % 64 + 3 * 64 + x.cause % 256 * 256) d)
  if x.collector then raise 0x1009 0 d1 else raise 0x1008 (x.unit + x.cause * 256) d1

/-- The collector forgets its handlings; a unit in a readmission test is Fenced again. -/
def forgetSlots (d : Dev) : Dev :=
  { d with flt := { d.flt with
      slots := [], waiting := [], injn := none, fatal := []
      units := d.flt.units.map (fun c => (c.1, { c.2 with
        state := if c.2.state = 3 then 2 else if c.2.state = 1 then 0 else c.2.state })) } }

/-- The records in the recorder's input queue written to its SRAM (R38, R427). -/
def drainRecorder (d : Dev) : Dev := forEach d.log.inq (fun _ => recorderWriteF) d

/-- Steps 1 to 5 of R420: the records of the slots in handling with outcome 3 in slot order, the records of every decision, all of them
written to the recorder SRAM, and only then Boot with cause 3 (R38). -/
def fatalPath (d : Dev) : Dev :=
  let open8 := (List.range 8).filterMap (handlingAt d)
  let d1 := forEach open8 (fun x y => recordHandling x (clsNum x.cls) 3 false y) d
  enterBoot 3 (lifeAdd 14 d.flt.fatal.length (forgetSlots (drainRecorder (forEach d.flt.fatal fatalRecord (dropClaim d1)))))

/-- A fatal decision carried out (R412, R420): one that is not latched yet is latched first. A disagreement of the collector's halves is
unit 0x3F. -/
def fatalDecisionF (u cause : Nat) (collector : Bool) (d : Dev) : Dev :=
  if !(domOn d .ctl) then d
  else
    let v := if collector then 0x3F else u
    let known := d.flt.fatal.any (fun x => x.unit == v && x.cause == cause && x.collector == collector)
    fatalPath (doIf (!known) (decideFatal v cause collector) d)

/-- FATAL_DECISION (R412, R420). -/
def execFatalDecision (u : Fin 64) (cause : Byte) (collector : Bool) (s : State) : Host.Outcome State Fault Refusal :=
  s.upd (fatalDecisionF u.val cause.toNat collector)

/-! ### Readmission and latches -/

/-- FLT_CMD.readmit (R415): a unit that is Fenced or partly fenced goes to Testing; any other is refused with cause 0x01. -/
def readmitF (u : Nat) (d : Dev) : Dev :=
  let x := funit d u
  if x.state = 3 || !(x.state == 2 || x.part) then setF FLT_RESULT_cause 1 d
  else
    let d1 := modUnit u (fun y => { y with state := 3, byBlock := false }) d
    doIf (decide (u < 3)) (fun y => { y with tb := { y.tb with readmit := some u } }) d1

/-- FLT_READMIT (R415). -/
def execFltReadmit (r : Req) (u : Fin 64) (s : State) : Host.Outcome State Fault Refusal :=
  s.upd (guardWrite r FLT_CMD (readmitF u.val))

/-- The result register of a readmission is written once, when the test completes (R415): the block's, or FLT_RESULT. -/
def readmitResult (u : Nat) (pass : Bool) (d : Dev) : Dev :=
  let c := if pass then 0 else 2
  if !(funit d u).byBlock then setF FLT_RESULT_cause c d
  else if 0x36 ≤ u ∧ u < 0x3A then setF CTL_RESULT_cause c d
  else d

/-- A readmission test ends (R415): a TB channel as TB_READMIT_DONE; a port block readmitted by its own command as its latency calibration;
else Normal with event 0x1004, or Fenced again. -/
def readmitDone (u : Nat) (pass : Bool) (d : Dev) : Dev :=
  let x := funit d u
  if !(domOn d .ctl) || x.state ≠ 3 then d
  else if u < 3 then tbReadmitDoneF pass d
  else if decide (0x18 ≤ u) && decide (u < 0x20) && x.byBlock then d
  else
    let d1 := readmitResult u pass d
    if pass then admitUnit u (putBack u (modUnit u (fun y => { y with state := 0 }) d1))
    else modUnit u (fun y => { y with state := if y.part then 0 else 2, byBlock := false }) d1

/-- READMIT_TEST_COMPLETE (R415). -/
def execReadmitTestComplete (u : Fin 64) (pass : Bool) (s : State) : Host.Outcome State Fault Refusal :=
  s.upd (readmitDone u.val pass)

/-- FLT_LATCH of a unit as a word. -/
def latchWord (d : Dev) (u : Nat) : Word :=
  let x := funit d u
  BitVec.ofNat 32 (x.cause % 256 + b2n x.valid * 256 + b2n x.cbr * 512 + b2n x.inj * 1024 + x.merges % 65536 * 65536)

/-- A read of FLT_LATCH (R64, R416): a full-rights read clears it. -/
def latchRead (r : Req) (u : Nat) (d : Dev) : Dev :=
  let d1 := { d with resp := [latchWord d u] }
  doIf (fullRights d r) (modUnit u (fun x => { x with cause := 0, valid := false, cbr := false, inj := false, merges := 0 })) d1

/-- FLT_LATCH_READ (R416). -/
def execFltLatchRead (r : Req) (u : Fin 64) (s : State) : Host.Outcome State Fault Refusal :=
  s.upd (guardRead r (FLT_LATCH u.val) (latchRead r u.val))

/-- Units 0 to 31 or 32 to 63 that meet a predicate, as a word. -/
def unitBits (d : Dev) (high : Bool) (p : FUnit → Bool) : Word :=
  let base := b2n high * 32
  BitVec.ofNat 32 (((List.range 32).filter (fun i => p (funit d (base + i)))).foldl (fun acc i => acc + 2 ^ i) 0)

/-- A read of FLT_RAIL_LO or HI (R407): for full rights, the polling ends of each unit of the word whose pair has read idle for 1 s. -/
def railRead (r : Req) (high : Bool) (idle : List (Fin 64)) (d : Dev) : Dev :=
  let x := if high then highRead r FLT_RAIL_HI (unitBits d true FUnit.polled) d
    else (unitBits d false FUnit.polled, latchHigh r FLT_RAIL_HI (unitBits d true FUnit.polled) d)
  let d1 := { x.2 with resp := [x.1] }
  doIf (fullRights d r)
    (forEach (idle.filter (fun u => decide (32 ≤ u.val) == high)) (fun u => modUnit u.val (fun x => { x with polled := false, stuck := none }))) d1

/-- FLT_RAIL_READ (R407). -/
def execFltRailRead (r : Req) (high : Bool) (idle : List (Fin 64)) (s : State) : Host.Outcome State Fault Refusal :=
  s.upd (guardRead r (if high then FLT_RAIL_HI else FLT_RAIL_LO) (railRead r high idle))

/-! ### Injection -/

/-- The class of FLT_INJ_CFG (R418). -/
def injClass (n : Nat) : FCls := if n = 1 then .corrected else if n = 3 then .fatal else .contained

/-- The unit and cause pairs accepted with in_unit (R418). -/
def injInUnit (u cause : Nat) : Bool :=
  ((cause == 1 || cause == 2) && u != 0x3F) || (cause == 6 && (decide (u ≤ 3) || u == 0x0A || (decide (0x36 ≤ u) && decide (u ≤ 0x39))))

/-- Event 0x1007 at the start and the end of an injection (R418). -/
def injEvent (u : Nat) (active : Bool) (d : Dev) : Dev := raise 0x1007 (u + b2n active * 256) d

/-- The injection ends. -/
def injEnd (d : Dev) : Dev :=
  match d.flt.injn with
  | none => d
  | some x => injEvent x.unit false { d with flt := { d.flt with injn := none } }

/-- FLT_INJ_CMD.go (R418). -/
def injGo (r : Req) (d : Dev) : Dev :=
  let u := fld d FLT_INJ_CFG_unit
  let cause := fld d FLT_INJ_CFG_cause
  let cls := injClass (fld d FLT_INJ_CFG_class)
  if d.flt.injn.isSome then setF FLT_RESULT_cause 4 d
  else if flag d FLT_INJ_CFG_in_unit && !(injInUnit u cause) then setF FLT_RESULT_cause 5 d
  else if (cls == .fatal || unitEssential u) && !(windowOpen d) then setF FLT_RESULT_cause 3 (rwpRefuse r FLT_INJ_CMD d)
  else
    let x : FInj := { unit := u, cause := cause, cls := cls, stFail := flag d FLT_INJ_CFG_st_fail, inUnit := flag d FLT_INJ_CFG_in_unit
                      left := fld d FLT_INJ_REP_count, lastAt := none }
    let d1 := injEvent u true (setF FLT_RESULT_cause 0 { d with flt := { d.flt with injn := some x } })
    doIf (x.left == 0) injEnd d1

/-- FLT_INJECT_GO (R418). -/
def execFltInjectGo (r : Req) (s : State) : Host.Outcome State Fault Refusal := s.upd (guardWrite r FLT_INJ_CMD (injGo r))

/-- FLT_INJECT_STOP (R418). -/
def execFltInjectStop (r : Req) (s : State) : Host.Outcome State Fault Refusal := s.upd (guardWrite r FLT_INJ_CMD injEnd)

/-- The next report of an injection is due (R418): FLT_INJ_REP.gap µs after the one before. -/
def injDue (x : FInj) (d : Dev) : Bool :=
  match x.lastAt with
  | none => true
  | some t => elapsed t (fld d FLT_INJ_REP_gap * us16) d

/-- The next report of an injection is delivered (R418): at the rails the collector sees it whatever the unit does; in a unit whose domain is
off the detector drives nothing (R406). -/
def injReport (d : Dev) : Dev :=
  match d.flt.injn with
  | none => d
  | some x =>
    if !(domOn d .ctl) || !(injDue x d) then d
    else
      let p : FltReport := { unit := Fin.ofNat 64 x.unit, cause := BitVec.ofNat 8 x.cause, cls := x.cls, ev := 0, evParam := 0 }
      let d1 := doIf (!x.inUnit || unitAlive d x.unit) (collect p true x.stFail false none) d
      let d2 := { d1 with flt := { d1.flt with injn := some { x with left := x.left - 1, lastAt := some (now16 d) } } }
      doIf (decide (x.left ≤ 1)) injEnd d2

/-- INJECTED_REPORT (R418, R419). -/
def execInjectedReport (s : State) : Host.Outcome State Fault Refusal := s.upd (live injReport)

end Sys2Proof.Machine
end

