-- ==== Sys2Proof/Machine/BusRead.lean ====
section
/-! DEFINITION. Reading the register map: what each register shows (the fields that mirror other state among them), the
latches of R7 and R77, the reads that have an effect, and the guards of R23, R64, R69 and R78. -/

namespace Sys2Proof.Machine

open Sys2Proof

/-- The index of `a` in an array of `n` registers from `base` at a stride. -/
def idxOf (a base stride n : Nat) : Option Nat :=
  if base ≤ a ∧ (a - base) % stride = 0 ∧ (a - base) / stride < n then some ((a - base) / stride) else none

/-- A word of bits: bit i is set where `p (base + i)` holds. -/
def bitsWord (base : Nat) (p : Nat → Bool) : Word :=
  BitVec.ofNat 32 (((List.range 32).filter (fun i => p (base + i))).foldl (fun acc i => acc + 2 ^ i) 0)

/-- The low or the high word of a signed 64-bit value. -/
def wordOfInt (v : Int) (high : Bool) : Word := BitVec.ofNat 32 (if high then wrapN 64 v / 2 ^ 32 else wrapN 64 v)

/-! ### What registers show, block by block -/

/-- HIF: the presence window (R329) and the state of a bulk channel (R80, R84). -/
def viewHif (d : Dev) (a : Nat) : Word :=
  if a = HIF_STATUS then putBits (rd d a) 11 1 (b2n (windowOpen d))
  else
    match idxOf a 0x10C 0x20 8 with
    | some c => putBits (putBits (putBits (rd d a) 0 8 (bulkAvail d c)) 8 8 (bulkSpace d c)) 16 1 (b2n (bulkBusy d c))
    | none => rd d a

/-- The interface entry that IMG_IFACE_SEL names (R51): party 0 the hardware, 1 to 3 a running image. -/
def ifaceSel (d : Dev) : Option Iface :=
  let p := fld d IMG_IFACE_SEL_party
  let l := if p = 0 then (romParty d).ifaces else (d.img.run.map ifacesOf).getD (p - 1) []
  l[fld d IMG_IFACE_SEL_index]?

/-- The section of the running structure image that IMG_SECT_SEL names. -/
def sectSel (d : Dev) : Option Sect := (sectsOf (runImage d))[fld d IMG_SECT_SEL_index]?

/-- IMG: the marks and counters of PD_AON, and the running image behind its selectors. -/
def viewImg (d : Dev) (a : Nat) : Word :=
  if a = IMG_STATUS then
    let w := putBits (putBits (putBits (rd d a) 5 1 (b2n d.img.badA)) 6 1 (b2n d.img.badB)) 7 1 (b2n d.img.lkgValid)
    if fld d IMG_STATUS_source < 2 then putBits w 8 8 (slotAttempts d (fld d IMG_STATUS_source)) else w
  else if a = IMG_STAGE_LEN then rd d (bank IMG_STAGE_LEN (fld d IMG_STAGE_SEL_kind))
  else if a = IMG_SECT_INFO then
    match sectSel d with
    | some x => BitVec.ofNat 32 (x.type % 65536 + b2n x.live * 65536)
    | none => 0
  else if a = IMG_IFACE_INFO then match ifaceSel d with | some x => BitVec.ofNat 32 x.entry | none => 0
  else if a = IMG_IFACE_VER then match ifaceSel d with | some x => BitVec.ofNat 32 x.vers | none => 0
  else
    match idxOf a 0x011008 4 8 with
    | some w => match sectSel d with | some x => BitVec.ofNat 32 (Config.sha256 x.bytes >>> (32 * w)) | none => 0
    | none => rd d a

/-- PWR: bit 0 of PWR_WAKE_EN reads 1 (R464). -/
def viewPwr (d : Dev) (a : Nat) : Word := if a = PWR_WAKE_EN then rd d a ||| 1 else rd d a

/-- FLT_STATUS (R421): degraded, injecting, units Fenced, pins, slots in use. -/
def viewFltStatus (d : Dev) : Word :=
  let units := List.range 64
  let n := (units.filter (unitFenced d)).length
  let deg := decide (n ≠ 0) || units.any (fun u => (funit d u).part)
  let seen := flag d FLT_STATUS_contained || flag d FLT_STATUS_fatal_seen
  let pins := if d.flt.pinsFatal then 2 else if deg || seen then 1 else 0
  putBits (putBits (putBits (putBits (putBits (rd d FLT_STATUS) 2 1 (b2n deg)) 3 1 (b2n d.flt.injn.isSome)) 4 7 n) 11 2 pins)
    16 4 d.flt.slots.length

/-- The levels of a unit's rail pair (R406, R407): the error pair, or the level of a stuck pair. -/
def railLevel (x : FUnit) (neg : Bool) : Bool :=
  match x.stuck with
  | some b => b
  | none => if neg then !x.live else x.live

/-- FLT_UNIT_STATUS (R415). -/
def viewUnit (d : Dev) (u : Nat) : Word :=
  let x := funit d u
  BitVec.ofNat 32 (x.state % 4 + b2n x.live * 4 + b2n x.polled * 8 + b2n (unitEssential u) * 16 + b2n x.part * 32 +
    satU 8 (upsetsIn d x).length * 256)

/-- FLT_SLOT and FLT_SLOT_AGE (R409). -/
def viewSlot (d : Dev) (i : Nat) (age : Bool) : Word :=
  match handlingAt d i with
  | none => 0
  | some x =>
    if age then BitVec.ofNat 32 (satU 32 ((nearDiff (near d) x.t0).toNat / 65536))
    else BitVec.ofNat 32 (x.unit % 64 + x.phase % 4 * 64 + x.cause % 256 * 256 + x.merges % 65536 * 65536)

/-- FLT. -/
def viewFlt (d : Dev) (a : Nat) : Word :=
  if a = FLT_STATUS then viewFltStatus d
  else if a = FLT_FENCED_LO ∨ a = FLT_FENCED_HI then bitsWord (if a = FLT_FENCED_HI then 32 else 0) (unitFenced d)
  else if a = FLT_RAIL_LO ∨ a = FLT_RAIL_HI then unitBits d (a == FLT_RAIL_HI) FUnit.polled
  else if a = FLT_RAIL_P_LO ∨ a = FLT_RAIL_P_HI then unitBits d (a == FLT_RAIL_P_HI) (fun x => railLevel x false)
  else if a = FLT_RAIL_N_LO ∨ a = FLT_RAIL_N_HI then unitBits d (a == FLT_RAIL_N_HI) (fun x => railLevel x true)
  else if a = FLT_INJ_STATUS then match d.flt.injn with | some x => BitVec.ofNat 32 x.left | none => 0
  else
    match idxOf a 0x030100 0x10 64, idxOf a 0x030104 0x10 64, idxOf a 0x030108 0x10 64 with
    | some u, _, _ => viewUnit d u
    | _, some u, _ => latchWord d u
    | _, _, some u => BitVec.ofNat 32 ((funit d u).reports % 65536 + (funit d u).fences % 65536 * 65536)
    | _, _, _ =>
      match idxOf a 0x031100 8 8, idxOf a 0x031104 8 8 with
      | some i, _ => viewSlot d i false
      | _, some i => viewSlot d i true
      | _, _ => rd d a

/-- EVQ_TGT_STATUS (R393, R397, R398). -/
def viewTgt (d : Dev) (t : Nat) : Word :=
  let w := putBits (rd d (EVQ_TGT_STATUS t)) 0 11 (unread d t)
  putBits (putBits w 11 1 (b2n (decide (t < 2) && (pcieFn d t).pba))) 12 1 (b2n (hasOver d t))

/-- The register of EVQ_MASK that +0x4 and +0x8 set and clear (R6); every other address is its own. -/
def maskBase (a : Nat) : Nat :=
  if 0x040200 ≤ a ∧ a < 0x040A00 ∧ (a % 16 = 4 ∨ a % 16 = 8) then a / 16 * 16 else a

/-- EVQ. -/
def viewEvq (d : Dev) (a : Nat) : Word :=
  if a = EVQ_STATUS then
    let ts := List.range 7
    let ne := (ts.filter (fun t => unread d t != 0)).foldl (fun acc t => acc + 2 ^ t) 0
    let st := (ts.filter (hasOver d)).foldl (fun acc t => acc + 2 ^ t) 0
    putBits (putBits (putBits (rd d a) 0 7 ne) 7 7 st) 14 1 (fld d EVQ_HOLD_hold)
  else
    match idxOf a 0x04004C 0x40 7, idxOf a 0x040A00 4 128, idxOf a 0x040C00 4 128, idxOf a 0x041800 4 128 with
    | some t, _, _, _ => viewTgt d t
    | _, some w, _, _ => bitsWord (32 * w) (fun s => d.evq.pend.any (fun e => e.src == s))
    | _, _, some w, _ => bitsWord (32 * w) (srcActive d)
    | _, _, _, some w => bitsWord (32 * w) (fun s => d.evq.pendAon.any (fun e => e.src == s))
    | _, _, _, _ => rd d (maskBase a)

/-- A field of a sector header, 0 where the header is not valid (R429). -/
def sectField32 (d : Dev) (s off : Nat) : Nat :=
  let h := archBytes d s 0
  if leNat (h.take 4) = 0x48435241 ∧ crcOk h then leNat (sliceOf h off 4) else 0

/-- LOG. The cursor registers are the requester's own (R428). -/
def viewLog (d : Dev) (r : Req) (a : Nat) : Word :=
  if a = LOG_OLDEST then BitVec.ofNat 32 (logOldest d)
  else if a = LOG_CUR ∨ a = LOG_RD_CTL ∨ a = LOG_RD_STATUS then rd d (own a (reqCode r))
  else if a = LOG_DROP then BitVec.ofNat 32 d.log.drop
  else if a = LOG_WEIR_TOKENS then
    let i := fld d LOG_WEIR_SEL_index
    let c := rd d (bank LOG_WEIR_CFG i)
    BitVec.ofNat 32 (weirTokens (weir d i) (bitsOf c 0 16) (bitsOf c 16 8) d.lpc.ck)
  else if a = LOG_WEIR_SUP then BitVec.ofNat 32 (weir d (fld d LOG_WEIR_SEL_index)).sup
  else if a = LOG_WEIR_TOTAL then BitVec.ofNat 32 (weir d (fld d LOG_WEIR_SEL_index)).total
  else if a = LOG_ARCH_SECT_ERASE then BitVec.ofNat 32 (sectField32 d (fld d LOG_ARCH_SECT_SEL_sector) 8)
  else if a = LOG_ARCH_SECT_SEQ then BitVec.ofNat 32 (sectField32 d (fld d LOG_ARCH_SECT_SEL_sector) 4)
  else rd d (effAddr d a)

/-- PMC (R440). -/
def viewPmc (d : Dev) (a : Nat) : Word := if a = PMC_STATUS then putBits (rd d a) 0 1 (fld d PMC_FREEZE_freeze) else rd d a

/-- The channel that TB_CH_SEL names; code 3 names none, and what it shows is a free value. -/
def rawChan (d : Dev) (v : Chan → Nat) : Word :=
  let i := fld d TB_CH_SEL_channel
  BitVec.ofNat 32 (if i < 3 then v (chan d.tb i) else freeVal d)

/-- TB (R86 to R99, R108). -/
def viewTb (d : Dev) (a : Nat) : Word :=
  let c := leadChan d
  if a = TB_FREQ_ADJ_LO ∨ a = TB_FREQ_ADJ_HI then wordOfInt (chanF c) (a == TB_FREQ_ADJ_HI)
  else if a = TB_FREQ_SERVO_LO ∨ a = TB_FREQ_SERVO_HI then wordOfInt c.servo (a == TB_FREQ_SERVO_HI)
  else if a = TB_FREQ_ENS_LO ∨ a = TB_FREQ_ENS_HI then wordOfInt c.ens (a == TB_FREQ_ENS_HI)
  else if a = TB_FREQ_SLEW_LO ∨ a = TB_FREQ_SLEW_HI then wordOfInt c.slew (a == TB_FREQ_SLEW_HI)
  else if a = TB_SLEW_REM_LO ∨ a = TB_SLEW_REM_HI then wordOfInt (slewRem d) (a == TB_SLEW_REM_HI)
  else if a = TB_LPC_NEAR_LO then BitVec.ofNat 32 (d.lpc.val / 2 ^ 16)
  else if a = TB_LPC_NEAR_HI then BitVec.ofNat 32 (d.lpc.val / 2 ^ 48)
  else if a = TB_CH_NEAR_LO then rawChan d chanPub
  else if a = TB_CH_NEAR_HI then rawChan d (fun x => chanPub x / 2 ^ 32)
  else if a = TB_CH_SUB_LO then rawChan d (fun x => chanT x % 2 ^ 38)
  else if a = TB_CH_SUB_HI then rawChan d (fun x => chanT x % 2 ^ 38 / 2 ^ 32)
  else if a = TB_CH_GROUP then rawChan d Chan.k
  else rd d a

/-- MEAS (R126, R132). -/
def viewMeas (d : Dev) (a : Nat) : Word :=
  if a = MEAS_STATUS then
    let n := fun (k : Nat) => ((List.range 24).filter (fun ch => fld d (MEAS_CH_OWN_state ch) == k)).length
    putBits (putBits (rd d a) 4 5 (n 1)) 9 5 (n 3)
  else rd d (effAddr d a)

/-- REF: REF_ENS_STATUS mirrors REF_ENS_CTL. -/
def viewRef (d : Dev) (a : Nat) : Word :=
  if a = REF_ENS_STATUS then rd d REF_ENS_CTL &&& 0xF1
  else if a = REF_HOLD_UNC_A0 then BitVec.ofNat 32 (min (2 ^ 32 - 1) (holdCoefs d).1)
  else rd d (effAddr d a)

/-- SYN: fields of the PLLs of a domain that is off read 0 (R491); a member of a group shows the group's divider, phase and
delay (R195). -/
def viewSyn (d : Dev) (a : Nat) : Word :=
  if a = SYN_STATUS then
    let w := if domOn d .sya then rd d a else putBits (putBits (rd d a) 0 2 0) 4 2 0
    if domOn d .syb then w else putBits (putBits w 2 2 0) 6 2 0
  else if !(sharedMode d) then rd d a
  else
    match idxOf a 0x0C0304 0x20 16, idxOf a 0x0C0308 0x20 16, idxOf a 0x0C0318 0x20 16 with
    | some o, _, _ => BitVec.ofNat 32 (outDiv d o)
    | _, some o, _ => rd d (outReg d SYN_OUT_DELAY o)
    | _, _, some o => rd d (outReg d SYN_OUT_PHASE o)
    | _, _, _ => rd d a

/-- PORT: the age of a lane's calibration (R252). -/
def viewPort (d : Dev) (a : Nat) : Word :=
  let p := a / 0x10000 - 0x10
  match idxOf (a % 0x10000) 0x1018 0x20 4 with
  | some j => BitVec.ofNat 32 (laneAge d (laneNo d p j))
  | none => rd d a

/-- SVC: the mirrors of SVC_STATUS, the selected session and next hop, the pipelines' queues. -/
def viewSvc (d : Dev) (a : Nat) : Word :=
  if a = SVC_STATUS then
    let w := putBits (putBits (rd d a) 1 1 (fld d TB_STATUS_time_valid)) 2 2 (fld d TWN_CTL_pkt_mode)
    putBits (putBits w 4 1 (b2n (speaking d))) 24 8 (fld d BND_STATUS_advertised)
  else if a = SVC_NH_MAC_LO then match nhMac d (fld d SVC_NH_SEL_index) with | some m => BitVec.ofNat 32 m | none => 0
  else if a = SVC_NH_MAC_HI then
    match nhMac d (fld d SVC_NH_SEL_index) with
    | some m => BitVec.ofNat 32 (m / 2 ^ 32 % 2 ^ 16 + 2 ^ 31)
    | none => 0
  else
    match idxOf a 0x191004 4 12, idxOf a 0x191050 4 4 with
    | some w, _ => ramWord d (sessAddr (fld d SVC_SESS_SEL_index) + 4 * w)
    | _, some p => putBits (rd d a) 0 9 (pipeDepth d p)
    | _, _ => rd d a

/-- KEY: the state of KEK_F and the time gate (R325), what is left of the window (R329), the digest of the slots (R320), and the next word
of the selected OSNMA data. -/
def viewKey (d : Dev) (a : Nat) : Word :=
  let left := if windowOpen d then d.key.winEnd - d.lpc.ck else 0
  if a = KEY_STATUS then
    let w := putBits (rd d a) 7 2 (b2n (kekFValid d) + 2 * b2n (!(flag d TB_STATUS_time_valid)))
    putBits w 16 8 (satU 8 ((left + 32767) / 32768))
  else if a = KEY_PRESENCE then putBits (rd d a) 0 16 (satU 16 (left * 1000 / 32768))
  else if a = KEY_OSN_DATA then
    BitVec.ofNat 32 (leNat (sliceOf (cget (fun _ => []) d.key.osn (fld d KEY_OSN_SEL_slot)) (4 * d.key.osnPos) 4))
  else if 0x1A0610 ≤ a ∧ a ≤ 0x1A0630 then 0
  else
    match idxOf a 0x1A0040 4 8 with
    | some w => BitVec.ofNat 32 (keyDigest d / 2 ^ (32 * w))
    | none => rd d (effAddr d a)

/-- TWN: the mirrors of TWN_STATUS, and the staged epoch. -/
def viewTwn (d : Dev) (a : Nat) : Word :=
  if a = TWN_STATUS then
    let w := putBits (putBits (rd d a) 2 1 (fld d TWN_CTL_en)) 8 1 (b2n (follows d))
    putBits (putBits w 9 1 (b2n (speaking d))) 10 2 (fld d TWN_CTL_pkt_mode)
  else if a = TWN_EPOCH_STAGED then
    match d.twn.staged with
    | some x => BitVec.ofNat 32 (satU 16 x.2.length)
    | none => 0
  else rd d a

/-- CTL: the cores in CTL_STATUS (R368). -/
def viewCtl (d : Dev) (a : Nat) : Word :=
  if a = CTL_STATUS then
    let st := fun (c : Nat) => fld d (CTL_CORE_STATE_state c)
    let bits := fun (p : Nat → Bool) => ((List.range 4).filter (fun c => p (st c))).foldl (fun acc c => acc + 2 ^ c) 0
    putBits (putBits (rd d a) 0 4 (bits (fun n => n == 2 || n == 3))) 4 4 (bits (fun n => n == 4))
  else rd d a

/-- What register `a` shows requester `r`, before any effect of the read. An unmapped offset reads 0 (R9). -/
def viewReg (d : Dev) (r : Req) (a : Nat) : Word :=
  if (rowOf (maskBase a)).isNone then 0 else
  match blockOf a with
  | 0x00 => viewHif d a
  | 0x01 => viewImg d a
  | 0x02 => viewPwr d a
  | 0x03 => viewFlt d a
  | 0x04 => viewEvq d a
  | 0x05 => viewLog d r a
  | 0x06 => viewPmc d a
  | 0x08 => viewTb d a
  | 0x09 => viewMeas d a
  | 0x0A => viewRef d a
  | 0x0C => viewSyn d a
  | 0x10 => viewPort d a
  | 0x19 => viewSvc d a
  | 0x1A => viewKey d a
  | 0x1B => viewTwn d a
  | 0x1C => viewCtl d a
  | _ => rd d (effAddr d a)

/-! ### Latches -/

/-- The registers that a read of `a` latches for its requester (R77 and the notes of the register tables). -/
def latchGroup (a : Nat) : List Nat :=
  if a = MEAS_RES_CNT then (List.range 12).map (fun i => MEAS_RES_CNT + 4 + 4 * i)
  else if a = TB_CH_NEAR_LO then (List.range 4).map (fun i => TB_CH_NEAR_LO + 4 + 4 * i)
  else if a = SVC_SESS_W 0 then (List.range 11).map (fun i => SVC_SESS_W 0 + 4 + 4 * i)
  else []

/-- Register `a` shows what a group latch took for the requester. -/
def inLatchGroup (a : Nat) : Bool :=
  (decide (0x091034 ≤ a) && decide (a ≤ 0x091060)) || (decide (0x081028 ≤ a) && decide (a ≤ 0x081034)) ||
  (decide (0x191008 ≤ a) && decide (a ≤ 0x191030)) || (decide (0x050024 ≤ a) && decide (a ≤ 0x050038)) ||
  (decide (0x080014 ≤ a) && decide (a ≤ 0x08001C)) || a == TB_NEAR_HI || (decide (0x080080 ≤ a) && decide (a ≤ 0x08008C)) ||
  (List.range 7).any (fun t => decide (EVQ_TGT_REC t 1 ≤ a) && decide (a ≤ EVQ_TGT_REC t 3))

/-! ### Reads with an effect -/

/-- What the operation of a reading command returned, with the device after it. -/
def viaResp (k : Dev → Dev) (d : Dev) : Word × Dev :=
  let d1 := k d
  (d1.resp.headD 0, { d1 with resp := d.resp })

/-- Units of a word of FLT_RAIL whose pair has read idle for 1 s: where a pair is idle, the time is a free value. -/
def idleUnits (d : Dev) : List (Fin 64) :=
  (List.range 64).filterMap (fun u =>
    let x := funit d u
    if x.polled && !x.live && Config.freeNat d.ctr / 2 ^ u % 2 == 1 then some (Fin.ofNat 64 u) else none)

/-- The RC fields of a register that show other state than `regs` holds. -/
def rcHidden (a : Nat) (d : Dev) : Dev :=
  if a = LOG_DROP then { d with log := { d.log with drop := 0 } }
  else if a = LOG_WEIR_TOTAL then
    setWeir (fld d LOG_WEIR_SEL_index) { weir d (fld d LOG_WEIR_SEL_index) with total := 0 } d
  else
    match idxOf a 0x030108 0x10 64 with
    | some u => if (blockOf a) = 3 then modUnit u (fun x => { x with reports := 0, fences := 0 }) d else d
    | none => d

/-- The read of a register without a rule of its own: the low word of a 64-bit quantity latches the high one, the high word
returns it (R7, R77), a group latch is taken or shown, and RC fields clear unless the requester only observes (R64); the RC fields of
the requester's own copy clear for every requester (R428). -/
def plainRead (r : Req) (a : Nat) (d : Dev) : Word × Dev :=
  let v := viewReg d r a
  if inLatchGroup a then (latched d a r, d)
  else
    let wide := match rowOf a with | some row => row.wide | none => 0
    let d1 := forEach (latchGroup a) (fun x y => setLatch x r (viewReg d r x) y) d
    let x := if wide = 1 then (v, latchHigh r (a + 4) (viewReg d r (a + 4)) d1)
      else if wide = 2 then highRead r a v d1 else (v, d1)
    if a = LOG_RD_STATUS then (x.1, rcClear (own a (reqCode r)) x.2)
    else (x.1, doIf (fullRights d r) (fun y => rcHidden a (rcClear (effAddr d a) y)) x.2)

/-- A read of a register that reaches the device with its domain on. -/
def regRead (r : Req) (a : Nat) (d : Dev) : Word × Dev :=
  if a = TB_NOW_FRAC ∨ a = TB_NEAR_LO then viaResp (timeLatchF r (a == TB_NEAR_LO)) d
  else if a = LOG_REC 0 then viaResp (rec0ReadF r) d
  else if a = LOG_REC 7 then viaResp (rec7ReadF r) d
  else if a = FLT_RAIL_LO ∨ a = FLT_RAIL_HI then viaResp (railRead r (a == FLT_RAIL_HI) (idleUnits d)) (draw d)
  else if a = DSG_Q_STATUS then viaResp (qStatusRead r) d
  else if 0x081024 ≤ a ∧ a ≤ 0x081034 then plainRead r a (draw d)
  else if a = KEY_OSN_DATA then
    (viewReg d r a, doIf (fullRights d r) (fun x => { x with key := { x.key with osnPos := x.key.osnPos + 1 } }) d)
  else
    match idxOf a 0x114 0x20 8, idxOf a 0x030104 0x10 64, idxOf a 0x040054 0x40 7 with
    | some c, _, _ => if bulkOwner d c = 0 then (0, d) else if bulkOwner d c = reqCode r then bulkGet r c d
      else (0, doIf (fullRights d r) (ownedErr r c) d)
    | _, some u, _ => if blockOf a = 3 then viaResp (latchRead r u) d else plainRead r a d
    | _, _, some t => if blockOf a = 4 then viaResp (recordReadF r t) d else plainRead r a d
    | _, _, _ => plainRead r a d

/-- The channel whose sub-aperture holds address `a` (R11, R80). -/
def winChan (a : Nat) : Option Nat := if 0x01000000 ≤ a ∧ a < 0x02000000 then some ((a - 0x01000000) / 0x200000) else none

/-- The register that an access to address `a` is for: the data port of a channel for an address in its sub-aperture (R80). Beyond the
64 MiB of BAR0 (R11) there is no register. -/
def busAddr (a : Nat) : Nat :=
  match winChan a with
  | some c => HIF_BULK_DATA c
  | none => if a < 0x04000000 then a else 0x0FFFFFFC

/-- A read of the map by requester `r` at a word address (R23, R69, R78): the word it returns and the device after it. -/
def busRead (r : Req) (a : Nat) (d : Dev) : Word × Dev :=
  let b := busAddr (a / 4 * 4)
  if !(reaches d r) then (0, d)
  else if !(regOn d (maskBase b)) then (0, offAccess r b d)
  else regRead r b d

end Sys2Proof.Machine
end

