-- ==== Sys2Proof/Machine/Gn.lean ====
section
/-! DEFINITION. The meanings of the GN commands of spec/09_gnss_baseband.md. The samples are operands: the data pins at each edge of a
stream's clock. -/

namespace Sys2Proof.Machine

open Sys2Proof

/-- PD_GNSS is on. -/
def gnOn (d : Dev) : Bool := domOn d .gnss

/-- A refused capture: cause, event 0x340B (R212, R214). -/
def snapRefuse (cause : Nat) (d : Dev) : Dev := raise 0x340B cause (gnResult cause 2 d)

/-- GN_SNAP_CMD.capture (R212, R214): refused while the buffer is busy, for a stream that is not enabled, or beyond 8 MiB. -/
def snapCaptureF (d : Dev) : Dev :=
  let mask := fld d GN_SNAP_CFG_streams
  let ms := fld d GN_SNAP_CFG_ms
  let st := snapState d
  let cause := capCause d mask ms
  if !(st == 0 || (st == 3 && flag d GN_SNAP_CFG_overwrite)) then snapRefuse 0x03 d
  else if cause ≠ 0 then snapRefuse cause d
  else gnResult 0x00 2 (snapArm mask ms (fld d GN_SNAP_CFG_trig) (snapRegions mask ms d))

/-- GN_SNAP_CAPTURE (R212). -/
def execGnSnapCapture (r : Req) (s : State) : Host.Outcome State Fault Refusal := s.upd (guardWrite r GN_SNAP_CMD snapCaptureF)

/-- The capture buffer returns from state `st` to Free (R214): cancel from Armed, free from Full. -/
def snapToFree (st : Nat) (d : Dev) : Dev :=
  gnResult (if snapState d = st then 0x00 else 0x03) 2 (doIf (snapState d == st) (setF GN_STATUS_snap 0) d)

/-- GN_SNAP_CANCEL (R214): Armed returns to Free. -/
def execGnSnapCancel (r : Req) (s : State) : Host.Outcome State Fault Refusal := s.upd (guardWrite r GN_SNAP_CMD (snapToFree 1))

/-- GN_SNAP_FREE (R214): Full returns to Free. -/
def execGnSnapFree (r : Req) (s : State) : Host.Outcome State Fault Refusal := s.upd (guardWrite r GN_SNAP_CMD (snapToFree 3))

/-- The trigger of an Armed capture has come (R213, R231): 0 a 1 µs epoch and 2 a verdict that changed to fail, both noted as they came; 1
its target is due; 3 the front end of a Low water wake has settled, at an edge of CK_32K. -/
def trigReady (d : Dev) : Bool :=
  match d.gn.capTrig with
  | 1 => due (rd64 d GN_SNAP_TGT_LO) (near d)
  | 3 => d.pwr.wakeGnss && !d.pwr.wakeDisc && decide (d.gn.feAt + fld d GN_LW_CTL_settle * ms16 ≤ now16 d)
  | _ => d.gn.trigNow

/-- The capture of a wake begins (R230, R231): the streams that firmware has configured, stamped on the low-power counter. It is refused
as a command would be. -/
def wakeStrobe (d : Dev) : Dev :=
  let cause := capCause d d.gn.capMask d.gn.capMs
  if cause ≠ 0 then snapRefuse cause (setF GN_STATUS_snap 0 d)
  else snapStrobe 0x78 (now16 d) (snapRegions d.gn.capMask d.gn.capMs d)

/-- An Armed capture begins (R213): the strobe stamps the first samples. -/
def captureTriggerF (d : Dev) : Dev :=
  if !(gnOn d) || unitOut d 0x11 || snapState d != 1 || !(trigReady d) then d
  else if d.gn.capTrig = 3 then wakeStrobe d
  else snapStrobe 0x68 (if d.gn.trigNow then d.gn.capAt else now16 d) d

/-- CAPTURE_TRIGGER (R213). -/
def execCaptureTrigger (s : State) : Host.Outcome State Fault Refusal := s.upd captureTriggerF

/-- Trigger 0 (R213): the 1 µs epoch is noted for an Armed capture that waits for it. -/
def capture1us (d : Dev) : Dev :=
  doIf (gnOn d && snapState d == 1 && d.gn.capTrig == 0 && !d.gn.trigNow)
    (fun x => { x with gn := { x.gn with trigNow := true, capAt := now16 x } }) d

/-- A capture is complete (R214): Full, or Locked for a waiting claim; event 0x340A. A stream that MEAS has not stamped is coarse. -/
def captureCompleteF (pins : List (List Byte)) (d : Dev) : Dev :=
  if gnOn d && snapState d == 2 then
    let d1 := forEach (maskList d.gn.capMask) (fun n x => snapStamp n none x) (snapStore pins d)
    raise 0x340A (d.gn.capMask + fld d GN_SNAP_STATUS_retakes * 256) (snapSettle (setF GN_STATUS_snap 3 d1))
  else d

/-- CAPTURE_COMPLETE (R214): by stream, the data pins at each edge of its clock. -/
def execCaptureComplete (pins : List (List Byte)) (s : State) : Host.Outcome State Fault Refusal :=
  s.upd (captureCompleteF pins)

/-- The waiting and running jobs end with state 3 and detected = 0 (R215). -/
def endJobs (d : Dev) : Dev :=
  let d1 := forEach d.gn.jobs (fun j x =>
    setF ⟨bank GN_ACQ_RES_MET j, 28, 2⟩ 3 (setF ⟨bank GN_ACQ_RES_MET j, 26, 1⟩ 0 x)) d
  { d1 with gn := { d1.gn with jobs := [] } }

/-- A parity error in a read of a valid capture (R215): discarded, re-armed with trigger 0, counted; holders of target 0x4 get
err = 6. -/
def snapParityF (d : Dev) : Dev :=
  if !(gnOn d) || decide (snapState d < 3) then d
  else
    let d1 := forEach (List.range 8) (fun c x =>
      doIf (bulkOwner x c != 0 && fld x (HIF_BULK_SEL_target c) == 4) (setF (HIF_BULK_STATUS_err c) 6) x) (endJobs d)
    let d2 := snapSettle (setF GN_STATUS_snap 1 (raise 0x340B 256 d1))
    reportUnit 0x13 0x01 .corrected 0 0
      (satAdd GN_SNAP_STATUS_retakes 1 { d2 with gn := { d2.gn with capTrig := 0, trigNow := false, capWait := [] } })

/-- SNAPSHOT_PARITY (R215). -/
def execSnapshotParity (s : State) : Host.Outcome State Fault Refusal := s.upd snapParityF

/-- The parameters of job `j` are within the limits of R210 and R216. -/
def jobOk (d : Dev) (j : Nat) : Bool :=
  let cfg := rd d (bank GN_ACQ_CFG j)
  let dop := rd d (bank GN_ACQ_DOP j)
  let n := bitsOf cfg 0 2
  let k := bitsOf cfg 14 5
  let w := bitsOf dop 24 8 * 25
  decide (3 ≤ snapState d) && (maskList d.gn.capMask).contains n && decide (1 ≤ k) && decide (k ≤ 20) &&
    decide (bitsOf cfg 19 5 + k ≤ d.gn.capMs) && decide (w ≠ 0) && decide (2 * (bitsOf dop 16 8 * 100 / atLeast1 w) + 1 ≤ 401)

/-- GN_ACQ_CMD.start (R216): the job is queued; the first in the queue runs. -/
def acqStartF (d : Dev) : Dev :=
  let j := fld d GN_ACQ_SEL_job
  let cfg := rd d (bank GN_ACQ_CFG j)
  if !(signalOk (bitsOf cfg 0 2) (bitsOf cfg 2 4) (bitsOf cfg 6 8)) then gnResult 0x06 3 d
  else if !(jobOk d j) || d.gn.jobs.contains j then gnResult 0x05 3 d
  else
    let st := if d.gn.jobs.isEmpty then 2 else 1
    snapSettle (gnResult 0x00 3 (wrN (bank GN_ACQ_RES_MET j) (st * 2 ^ 28)
      { d with gn := { d.gn with jobs := d.gn.jobs ++ [j]
                                 jobPar := cput (fun _ => (0, 0)) d.gn.jobPar j (cfg.toNat, (rd d (bank GN_ACQ_DOP j)).toNat) } }))

/-- GN_ACQ_START (R216). -/
def execGnAcqStart (r : Req) (s : State) : Host.Outcome State Fault Refusal := s.upd (guardWrite r GN_ACQ_CMD acqStartF)

/-- A job leaves the queue: the next one runs and the lock is released (R214, R216). -/
def dropJob (j : Nat) (d : Dev) : Dev :=
  let l := d.gn.jobs.filter (fun x => x != j)
  let d1 := { d with gn := { d.gn with jobs := l } }
  let d2 := match l with | [] => d1 | x :: _ => setF ⟨bank GN_ACQ_RES_MET x, 28, 2⟩ 2 d1
  snapSettle d2

/-- GN_ACQ_CMD.abort (R216): a queued or running job ends as done with detected = 0. -/
def acqAbortF (d : Dev) : Dev :=
  let j := fld d GN_ACQ_SEL_job
  if d.gn.jobs.contains j then
    gnResult 0x00 3 (setF ⟨bank GN_ACQ_RES_MET j, 28, 2⟩ 3 (setF ⟨bank GN_ACQ_RES_MET j, 26, 1⟩ 0 (dropJob j d)))
  else gnResult 0x00 3 d

/-- GN_ACQ_ABORT (R216). -/
def execGnAcqAbort (r : Req) (s : State) : Host.Outcome State Fault Refusal := s.upd (guardWrite r GN_ACQ_CMD acqAbortF)

/-- The parameters with which a job was started (R216). -/
structure AcqJob where
  stream : Nat
  sig : Nat
  prn : Nat
  k : Nat
  s : Nat
  /-- Centre, bin width in Hz and the bins on each side of the centre. -/
  centre : Int
  width : Nat
  side : Nat
  deriving DecidableEq, Repr

/-- The parameters of job `j`. -/
def acqJob (d : Dev) (j : Nat) : AcqJob :=
  let p := cget (fun _ => (0, 0)) d.gn.jobPar j
  let cfg := BitVec.ofNat 32 p.1
  let dop := BitVec.ofNat 32 p.2
  let w := bitsOf dop 24 8 * 25
  { stream := bitsOf cfg 0 2, sig := bitsOf cfg 2 4, prn := bitsOf cfg 6 8, k := bitsOf cfg 14 5, s := bitsOf cfg 19 5
    centre := sx 16 (bitsOf dop 0 16), width := w, side := bitsOf dop 16 8 * 100 / atLeast1 w }

/-- Sample `i` of a captured stream (R208, R212). -/
def capSample (d : Dev) (n i : Nat) : Int × Int :=
  let base := snapBase + fld d (GN_SNAP_OFS_bytes n)
  sampleVal (capFmt d n) (packedPins (capFmt d n) (fun b => ramByte d (base + b)) i)

/-- Rate of a captured stream. -/
def capRate (d : Dev) (n : Nat) : Nat := atLeast1 (cget (fun _ => 0) d.gn.capFs n)

/-- The code phases that a job tries over the primary period, each `1 / acqSteps` chip from the next (R216). -/
def acqPhases (a : AcqJob) : Nat := sigChips a.sig * atLeast1 Config.acqSteps

/-- The cell of a bin and a code phase (R216): the sum over the K blocks of 1 ms of |correlation|². The code phase is the one at the first
sample of the capture; the block of millisecond `m` takes the samples of that millisecond, wiped with the bin's frequency. -/
def acqCell (d : Dev) (a : AcqJob) (bin : Int) (phase : Nat) : Nat :=
  let fs := capRate d a.stream
  let f := sx 32 (rdN d (GN_STREAM_IF a.stream)) + a.centre + bin * a.width
  let chip : Nat := msChips a.sig * 1000
  (List.range a.k).foldl (fun acc b =>
    let i0 := fs * (a.s + b) / 1000
    let i1 := fs * (a.s + b + 1) / 1000
    let c := correlate a.sig a.prn 0
      (fun j => ((phase * 2 ^ 48 / atLeast1 Config.acqSteps + chip * (i0 + j) * 2 ^ 48 / fs : Nat) : Int))
      (fun j => f * ((i0 + j : Nat) : Int) * 2 ^ 48 / (fs : Int))
      ((List.range (i1 - i0)).map (fun j => capSample d a.stream (i0 + j)))
    acc + c.1.natAbs ^ 2 + c.2.natAbs ^ 2) 0

/-- The bins of a job (R216): 2 × side + 1 around the centre. -/
def acqBins (a : AcqJob) : List Int := (List.range (2 * a.side + 1)).map (fun (i : Nat) => (i : Int) - (a.side : Nat))

/-- The peak of a job: cell, bin and code phase; of equal cells the first (R217). -/
def acqPeak (d : Dev) (a : AcqJob) : Nat × Int × Nat :=
  (acqBins a).foldl (fun best bin => (List.range (acqPhases a)).foldl (fun (b : Nat × Int × Nat) ph =>
    let v := acqCell d a bin ph
    if b.1 < v then (v, bin, ph) else b) best) (0, 0, 0)

/-- The cells of the peak's bin that lie more than 1.5 chips from the peak (R217): their sum and their number. -/
def acqFloor (d : Dev) (a : AcqJob) (bin : Int) (ph : Nat) : Nat × Nat :=
  let n := acqPhases a
  ((List.range n).filter (fun x =>
    let far := (x + n - ph) % n
    decide (3 * atLeast1 Config.acqSteps < 2 * min far (n - far)))).foldl (fun s x => (s.1 + acqCell d a bin x, s.2 + 1)) (0, 0)

/-- The vertex of the parabola through a peak and its neighbours, in units of 1/(2 × d): −(r − l) / d with d = l − 2p + r (R217). -/
def vertex (l p r : Nat) : Int × Nat :=
  let num : Int := (l : Int) - r
  let den : Int := (l : Int) - 2 * p + r
  if den = 0 then (0, 1) else if den < 0 then (-num, den.natAbs) else (num, den.natAbs)

/-- What job `j` publishes (R217): the metric, the code phase in 1/16 chip, the Doppler in 2^-4 Hz and C/N0. The corners are log entry
151. -/
def acqResult (d : Dev) (a : AcqJob) : Nat × Nat × Int × Nat :=
  let pk := acqPeak d a
  let n := acqPhases a
  let fl := acqFloor d a pk.2.1 pk.2.2
  let met := if fl.1 = 0 then 0xFFFF else min 0xFFFF (256 * pk.1 * fl.2 / fl.1)
  let vc := vertex (acqCell d a pk.2.1 ((pk.2.2 + n - 1) % n)) pk.1 (acqCell d a pk.2.1 ((pk.2.2 + 1) % n))
  let edge := decide (pk.2.1.natAbs = a.side)
  let vd := if edge then (0, 1) else vertex (acqCell d a (pk.2.1 - 1) pk.2.2) pk.1 (acqCell d a (pk.2.1 + 1) pk.2.2)
  let code := roundDiv (((pk.2.2 * 2 * vc.2 : Nat) + vc.1) * 16) (2 * vc.2 * atLeast1 Config.acqSteps)
  let dop := roundDiv (((a.centre + pk.2.1 * a.width) * (2 * vd.2 : Nat) + vd.1 * a.width) * 16) (2 * vd.2)
  (met, (code % ((sigChips a.sig * 16 : Nat) : Int)).toNat, dop, Config.acqCn0 met a.k)

/-- The results of job `j` in its registers (R217): event 0x3407. -/
def jobPublish (j : Nat) (res : Nat × Nat × Int × Nat) (d : Dev) : Dev :=
  let det := decide (fld d GN_ACQ_THR_thr ≤ res.1)
  let d1 := wrN (bank GN_ACQ_RES_DOP j) (wrapN 32 res.2.2.1) (wrN (bank GN_ACQ_RES_CODE j) (res.2.1 % 2 ^ 18) d)
  let d2 := wrN (bank GN_ACQ_RES_MET j) (res.1 + min res.2.2.2 1023 * 2 ^ 16 + b2n det * 2 ^ 26 + 3 * 2 ^ 28) d1
  raise 0x3407 (j + b2n det * 16) (dropJob j d2)

/-- The running job publishes its results (R216, R217). -/
def jobCompleteF (j : Nat) (d : Dev) : Dev :=
  doIf (gnOn d && !(unitOut d 0x11) && d.gn.jobs.head? == some j) (fun x => jobPublish j (acqResult x (acqJob x j)) x) d

/-- ACQ_JOB_COMPLETE (R217). -/
def execAcqJobComplete (j : Fin 16) (s : State) : Host.Outcome State Fault Refusal := s.upd (jobCompleteF j.val)

/-- GN_CH_START (R222). -/
def execGnChStart (r : Req) (c : Fin 192) (s : State) : Host.Outcome State Fault Refusal :=
  s.upd (guardWrite r (GN_CH_CMD c.val) (startCh c.val))

/-- A channel stopped (R222): Off. -/
def stopCh (c : Nat) (d : Dev) : Dev := gnCount (gnResult 0x00 4 (setF (GN_CH_STATE_state c) 0 d))

/-- GN_CH_STOP (R222). -/
def execGnChStop (r : Req) (c : Fin 192) (s : State) : Host.Outcome State Fault Refusal :=
  s.upd (guardWrite r (GN_CH_CMD c.val) (stopCh c.val))

/-- An Armed channel's start index is reached (R222): Running from its first sample, for which the commits that came while it was Armed
are in force (R221). -/
def startIndexF (c : Nat) (d : Dev) : Dev :=
  if gnOn d && fld d (GN_CH_STATE_state c) == 1 then
    let x := gch d c
    idxReach (fld d (GN_CH_CFG_stream c)) x.idx
      (gnCount (setF (GN_CH_STATE_state c) 2 (setGch c (applyCommits (sigChips (chSig d c)) x) d)))
  else d

/-- CHANNEL_START_INDEX (R222). -/
def execChannelStartIndex (c : Fin 192) (s : State) : Host.Outcome State Fault Refusal := s.upd (startIndexF c.val)

/-- A commit of ρ, ω or the code adjustment (R221): from the next integration on an Armed or Running channel, and in the registers from
which a start loads. -/
def ncoCommitF (r : Req) (c : Nat) (k : NcoReg) (v : Word) (d : Dev) : Dev :=
  let st := fld d (GN_CH_STATE_state c)
  let run := st == 1 || st == 2
  match k with
  | .krate =>
    let d1 := commit64 r (GN_CH_KRATE_HI c) v d
    doIf run (setGch c { gch d1 c with newRho := some (rd64 d1 (GN_CH_KRATE_LO c) % 2 ^ 48) }) d1
  | .crate =>
    let d1 := commit64 r (GN_CH_CRATE_HI c) v d
    doIf run (setGch c { gch d1 c with newOm := some (sx 48 (rd64 d1 (GN_CH_CRATE_LO c))) }) d1
  | .kadj =>
    let d1 := fieldWrite r (GN_CH_KADJ c) v d
    doIf run (setGch c { gch d1 c with newAdj := some (sx 32 v.toNat) }) d1

/-- NCO_COMMIT (R221). -/
def execNcoCommit (r : Req) (c : Fin 192) (k : NcoReg) (v : Word) (s : State) : Host.Outcome State Fault Refusal :=
  s.upd (guardWrite r (match k with | .krate => GN_CH_KRATE_HI c.val | .crate => GN_CH_CRATE_HI c.val | .kadj => GN_CH_KADJ c.val)
    (ncoCommitF r c.val k v))

/-- DUMP_CLOSE (R220): the data pins at each edge of the channel's stream from the first sample of the integration. -/
def execDumpClose (c : Fin 192) (pins : List Byte) (s : State) : Host.Outcome State Fault Refusal :=
  s.upd (fun d => doIf (gnOn d && fld d (GN_CH_STATE_state c.val) == 2) (dumpCh c.val pins) d)

/-- The strobe of a measurement epoch (R223): on the first tick that reaches its instant. -/
def measurementEpochF (idx : List Nat) (d : Dev) : Dev :=
  doIf (gnOn d && domOn d .tb && decide (gnRate d ≠ 0) && decide (d.gn.nextTe ≤ now16 d)) (strobe idx) d

/-- MEASUREMENT_EPOCH (R223): the index of the latch sample in each stream. -/
def execMeasurementEpoch (idx : List Nat) (s : State) : Host.Outcome State Fault Refusal := s.upd (measurementEpochF idx)

/-- No interval within 200 µs of the strobe (R213, R224, R231): half a sample period, coarse. -/
def latchTimeoutF (n : Nat) (d : Dev) : Dev :=
  let d1 := match d.gn.ep with
    | some e => doIf (gsOn d n && latchLate (e.te + e.o) d) (epochX n (halfSample d n) true) d
    | none => d
  doIf (latchLate d1.gn.capAt d1) (snapStamp n none) d1

/-- EPOCH_LATCH_TIMEOUT (R224). -/
def execEpochLatchTimeout (n : Fin 4) (s : State) : Host.Outcome State Fault Refusal :=
  s.upd (fun d => doIf (gnOn d) (latchTimeoutF n.val) d)

/-- EPOCH_RECORDS_WRITE (R225). -/
def execEpochRecordsWrite (s : State) : Host.Outcome State Fault Refusal := s.upd (fun d => doIf (gnOn d) writeEpoch d)

/-- A write of GN_FEED_* or GN_VERDICT by another requester than firmware is discarded with cause 0x08 (R227). -/
def fwOnly (r : Req) (k : Dev → Dev) (d : Dev) : Dev := if r = .fw then k d else gnResult 0x08 5 d

/-- The write of GN_FEED_E_HI forwards the sample (R227). -/
def gnFeedHi (r : Req) (hi : Word) (d : Dev) : Dev := gnFeed (commit64 r GN_FEED_E_HI hi d)

/-- GN_FEED_COMMIT (R227). -/
def execGnFeedCommit (r : Req) (hi : Word) (s : State) : Host.Outcome State Fault Refusal :=
  s.upd (guardWrite r GN_FEED_E_HI (fwOnly r (gnFeedHi r hi)))

/-- A change of a verdict (R213, R229): event 0x3409; a first change of an enabled verdict to fail fires trigger 2. -/
def verdictF (r : Req) (v : Word) (d : Dev) : Dev :=
  let o := bitsOf v 0 2
  let z := bitsOf v 2 2
  let d1 := fieldWrite r GN_VERDICT v d
  let o0 := fld d GN_STATUS_osnma
  let z0 := fld d GN_STATUS_dir
  if o = o0 ∧ z = z0 then d1
  else
    let fails := (o == 2 && o0 != 2 && fld d GN_OSNMA_CTL_mode != 0) || (z == 2 && z0 != 2 && flag d GN_DIR_CTL_en)
    let d2 := setF GN_STATUS_dir z (setF GN_STATUS_osnma o d1)
    let d3 := doIf (fails && snapState d == 1 && d.gn.capTrig == 2) (fun x => { x with gn := { x.gn with trigNow := true, capAt := now16 x } }) d2
    raise 0x3409 (o + z * 4) d3

/-- VERDICT_CHANGE (R229): firmware writes GN_VERDICT. -/
def execVerdictChange (r : Req) (d : Word) (s : State) : Host.Outcome State Fault Refusal :=
  s.upd (guardWrite r GN_VERDICT (fwOnly r (verdictF r d)))

/-! ### Register writes of GN that have a rule of their own -/

/-- A write of GN_STREAM_CFG (R207): an enable with a rate outside the stream's range is refused with cause 0x01. A disabled
stream is not lost. -/
def streamCfgF (r : Req) (n : Nat) (v : Word) (d : Dev) : Dev :=
  if bitAt v 0 && !(fsOk n (gsFs d n)) then gnResult 0x01 1 d
  else
    let d1 := fieldWrite r (GN_STREAM_CFG n) v d
    gnRequests (gnCount (gnResult 0x00 1 (doIf (!(bitAt v 0)) (setF (GN_STREAM_CFG_lost n) 0) d1)))

/-- A write of GN_EPOCH_CTL (R223): the requests follow the rate. -/
def epochCtlF (r : Req) (v : Word) (d : Dev) : Dev := gnRequests (alignGn (fieldWrite r GN_EPOCH_CTL v d))

end Sys2Proof.Machine
end

