-- ==== Sys2Proof/Machine/Pwr.lean ====
section
/-! DEFINITION. The commands of PWR (spec/19_power_boot.md): supply, rails and stages, RESET_N and Boot, domains, device-state requests,
and Low water with its wakes. -/

namespace Sys2Proof.Machine

open Sys2Proof

/-- A meaning of a powered device: nothing runs in Off (R41). -/
def pwrLive (f : Dev → Dev) (s : State) : Host.Outcome State Fault Refusal := s.upd (fun d => doIf d.pwr.powered f d)

/-! ### Supply -/

/-- The fuse array (R493), which lies in no power domain. -/
def isFuse (a : Nat) : Bool := a == KEY_FUSE_STATUS || (decide (KEY_FUSE_HASH 0 0 ≤ a) && decide (a ≤ KEY_FUSE_HASH 3 7))

/-- The straps as registers show them (R73, R346, R454). -/
def showStraps (st : Straps) (d : Dev) : Dev :=
  setB TWN_BUS_STATUS_side st.side (setF PWR_SYSREF_strap st.sysref.val { d with pwr := { d.pwr with straps := st } })

/-- The device without power (R41, R443): only flash, fuses and straps are left. -/
def offDev (d : Dev) : Dev :=
  { Dev.reset with
    regs := ckeep isFuse d.regs
    flash := d.flash
    ctr := d.ctr
    hif := { hifReset with flashSize := d.hif.flashSize }
    pwr := { pwrReset with powered := false, resetLow := d.pwr.resetLow, straps := d.pwr.straps } }

/-- VIN above 4.30 V (R443): Off is left for Boot, with cause power-on. -/
def vinRiseF (d : Dev) : Dev :=
  if d.pwr.powered then d
  else
    let x := offDev d
    showStraps d.pwr.straps { x with pwr := { x.pwr with powered := true } }

/-- VIN_RISE (R443). -/
def execVinRise (s : State) : Host.Outcome State Fault Refusal := s.upd vinRiseF

/-- VIN_FALL (R443). -/
def execVinFall (s : State) : Host.Outcome State Fault Refusal := s.upd (fun d => if d.pwr.powered then offDev d else d)

/-- The 1 ms measurement of VIN (R444): falling below PWR_VIN_WARN raises event 0x0C03 and, with PD_CTL on, writes
a state block at once; whether a page fails its read-back there is a free value. -/
def vinWarnF (mv : Nat) (d : Dev) : Dev :=
  let low := decide (mv < fld d PWR_VIN_WARN_mV)
  let d1 := setB PWR_STATUS_vin_warn low (setF PWR_VIN_mV mv d)
  if low && !(flag d PWR_STATUS_vin_warn) then raise 0x0C03 mv (doIf (domOn d .ctl) (withFreeBit stateBlock) d1) else d1

/-- VIN_WARN (R444). -/
def execVinWarn (mv : BitVec 16) (s : State) : Host.Outcome State Fault Refusal := pwrLive (vinWarnF mv.toNat) s

/-- CK_32K starts or stops on its crystal (R24, R445): event 0x0C0A at each change; a stop is a contained fault of unit 0x3F. -/
def ckSource (crystal : Bool) (d : Dev) : Dev :=
  if flag d PWR_STATUS_ck_rc == !crystal then d
  else
    let d1 := raise 0x0C0A (b2n (!crystal)) (setB PWR_STATUS_ck_rc (!crystal) d)
    doIf (!crystal) (reportUnit 0x3F 0x04 .contained 0x0C0A 1) d1

/-- CK_32K_SOURCE_CHANGE (R445). -/
def execCk32kSourceChange (crystal : Bool) (s : State) : Host.Outcome State Fault Refusal := pwrLive (ckSource crystal) s

/-! ### Rails and stages -/

/-- Event 0x0C04 with the class that R449 gives the rail. -/
def railEvent (n : Nat) (fatal : Bool) (d : Dev) : Dev :=
  let r := evRec 0x0C04 n (freeVal d) (freeVal (draw d)) (now16 d)
  note { r with cls := if fatal then 3 else 2 } (setPending (evSrc 0x0C04 n) 0x0C04 n (draw (draw d)))

/-- A rail out of its window for more than 10 µs (R449). The core and SRAM rails: unit 0x3F, fatal. The SerDes rails: units 0x14 to 0x17;
each powered quad is fenced and the Millrace link goes Down. -/
def railFaultF (x : Rail) (d : Dev) : Dev :=
  let n := railNum x
  let d0 := doIf (decide (n < 3)) (fun y => setF (PWR_RAIL_STAT_good n) 0 (setF (PWR_RAIL_STAT_fault n) 1 y)) d
  if n < 2 then
    let d1 := railEvent n true { d0 with pwr := { d0.pwr with railAt := now16 d0 + 10 * ms16 } }
    if domOn d .ctl then fatalReport 0x3F 0x04 0x0C04 n d1 else reportUnit 0x3F 0x04 .fatal 0x0C04 n d1
  else
    let d1 := railEvent n false d0
    let d2 := forEach (List.range 4) (fun q y =>
      doIf (domOnN y (10 + q)) (fun z => fenceOut (0x14 + q) 0x04 (reportUnit (0x14 + q) 0x04 .contained 0x0C04 n z)) y) d1
    doIf (twnAlive d2) (linkTo 0) d2

/-- RAIL_FAULT (R449). -/
def execRailFault (rail : Rail) (s : State) : Host.Outcome State Fault Refusal := pwrLive (railFaultF rail) s

/-- A rail fault of VDD_CORE or VDD_SRAM holds the device in Boot with PD_CTL off (R449). -/
def coreRailOut (d : Dev) : Bool := flag d (PWR_RAIL_STAT_fault 0) || flag d (PWR_RAIL_STAT_fault 1)

/-- The rails are looked at 10 ms after a fault and then each second (R449): one that is still out turns the stages off; once they are good
the faults are over. On its RC oscillator PD_AON has no exact time (log entry 158). -/
def railRetry (good : Bool) (d : Dev) : Dev :=
  let boot := devState d == stBoot && !(domOn d .ctl)
  if good then forEach [0, 1, 2] (fun n => setF (PWR_RAIL_STAT_fault n) 0) (stages (boot || !d.pwr.stagesOff) d)
  else if boot && coreRailOut d && (flag d PWR_STATUS_ck_rc || decide (d.pwr.railAt ≤ now16 d)) then
    stages false { d with pwr := { d.pwr with railAt := now16 d + sec16 } }
  else d

/-- RAIL_FAULT_RETRY (R449). -/
def execRailFaultRetry (good : Bool) (s : State) : Host.Outcome State Fault Refusal := pwrLive (railRetry good) s

/-- The stages of a rail (R446). -/
def railStages (n : Nat) : List Nat := if n = 0 then [0, 1, 2, 3] else [n + 3]

/-- A stage alert (R448): event 0x0C05. -/
def stageEvent (stage : Nat) (status : BitVec 16) (d : Dev) : Dev := raise 0x0C05 (stage + status.toNat * 65536) d

/-- The active phases of VDD_CORE after a poll: one is added or shed by the current per active phase (R446). -/
def phaseStep (ma : Nat) (d : Dev) : Dev :=
  let m := fld d PWR_PH_ACTIVE_phases
  let n := if m = 15 then 4 else if m = 7 then 3 else if m = 3 then 2 else 1
  let k := if decide (fld d PWR_PH_CFG_add * n < ma) && decide (n < 4) then n + 1
           else if decide (ma < fld d PWR_PH_CFG_shed * n) && decide (1 < n) then n - 1 else n
  setF PWR_PH_ACTIVE_phases (2 ^ k - 1) d

/-- The readings of one poll (R448), by stage: those with a valid address are read. -/
def pmbusF (rs : List StageReading) (d : Dev) : Dev :=
  let live := (List.range 6).filter (fun s => flag d (PWR_STG_ADDR_valid s))
  let get (s : Nat) := rs[s]?
  let d1 := forEach live (fun s x =>
    match get s with
    | none => x
    | some q =>
      doIf (decide (q.status ≠ 0)) (stageEvent s q.status) (setF (PWR_STG_STATUS_status s) q.status.toNat x)) d
  let d2 := forEach [0, 1, 2] (fun n x =>
    let l := ((railStages n).filter (fun s => live.contains s)).filterMap get
    match l with
    | [] => x
    | q :: _ =>
      setF (PWR_RAIL_STAT_temp n) (l.foldl (fun m y => if sx 8 m < sx 8 y.temp.toNat then y.temp.toNat else m) q.temp.toNat)
        (setF (PWR_RAIL_I_mA n) (satU 16 (l.foldl (fun a y => a + y.iout.toNat) 0)) (setF (PWR_RAIL_V_vout n) q.vout.toNat x))) d1
  doIf (!d2.pwr.stagesOff) (phaseStep (fld d2 (PWR_RAIL_I_mA 0))) d2

/-- PMBUS_POLL (R448). -/
def execPmbusPoll (rs : List StageReading) (s : State) : Host.Outcome State Fault Refusal := pwrLive (pmbusF rs) s

/-- STAGE_ALERT (R448). -/
def execStageAlert (stage : Fin 6) (status : BitVec 16) (s : State) : Host.Outcome State Fault Refusal :=
  pwrLive (stageEvent stage.val status) s

/-- One step of the adaptive loop (R447): at most 5 mV, within PWR_AVS.min and max. -/
def avsF (margin : Nat) (m : AvsMove) (d : Dev) : Dev :=
  let t := fld d (PWR_RAIL_V_target 0)
  let v :=
    match m with
    | .up => if t + 5 ≤ fld d PWR_AVS_max * 5 then t + 5 else t
    | .down => if fld d PWR_AVS_min * 5 + 5 ≤ t then t - 5 else t
    | .hold => t
  let d1 := setF PWR_AVS_MON_margin margin d
  doIf (flag d PWR_AVS_en) (setF (PWR_RAIL_V_target 0) v) d1

/-- AVS_STEP (R447): the speed monitors lie in PD_CTL. -/
def execAvsStep (margin : BitVec 16) (move : AvsMove) (s : State) : Host.Outcome State Fault Refusal :=
  pwrLive (fun d => doIf (domOn d .ctl) (avsF margin.toNat move) d) s

/-! ### RESET_N and Boot -/

/-- RESET_N low for 1 µs (R456): Boot with cause 2 from any state. -/
def resetAssert (d : Dev) : Dev :=
  let x := enterBoot 2 d
  { x with pwr := { x.pwr with resetLow := true } }

/-- RESET_N_ASSERT (R456). -/
def execResetNAssert (s : State) : Host.Outcome State Fault Refusal := pwrLive resetAssert s

/-- The rising edge of RESET_N samples the straps (R456). -/
def resetRelease (st : Straps) (d : Dev) : Dev := showStraps st { d with pwr := { d.pwr with resetLow := false } }

/-- RESET_N_RELEASE (R456). -/
def execResetNRelease (st : Straps) (s : State) : Host.Outcome State Fault Refusal := pwrLive (resetRelease st) s

/-- BOOT_SEQUENCE (R457): from Boot with RESET_N high, the rails good and PD_CTL still off. A Boot that waits for a host set is not run again
(R57). -/
def execBootSequence (o : BootObs) (s : State) : Host.Outcome State Fault Refusal :=
  pwrLive (fun d => doIf (devState d == stBoot && !d.pwr.resetLow && !(domOn d .ctl) && !(coreRailOut d)) (bootSequenceF o) d) s

/-! ### Domains -/

/-- A change of a domain is its own step only outside Boot, whose sequence powers the domains itself. -/
def domFree (d : Dev) (n : Nat) : Bool := decide (n ≠ 0) && decide (devState d ≠ stBoot)

/-- DOMAIN_POWER_UP (R451, R452): a domain that is called for. -/
def execDomainPowerUp (p : Dom) (s : State) : Host.Outcome State Fault Refusal :=
  pwrLive (fun d => doIf (domFree d (domNum p) && domWanted d (domNum p)) (powerUp (domNum p)) d) s

/-- DOMAIN_POWER_DOWN (R451, R452): a domain that is not called for. -/
def execDomainPowerDown (p : Dom) (s : State) : Host.Outcome State Fault Refusal :=
  pwrLive (fun d => doIf (domFree d (domNum p) && !(domWanted d (domNum p))) (powerDown (domNum p)) d) s

/-- A power switch without acknowledge (R451): the domain stays off, event 0x0C0B, a contained fault of its first reporting unit. -/
def ackTimeout (n : Nat) (d : Dev) : Dev :=
  if n = 0 || domOnN d n then d else reportUnit (firstUnit n) 0x03 .contained 0x0C0B n (raise 0x0C0B n d)

/-- DOMAIN_ACK_TIMEOUT (R451). -/
def execDomainAckTimeout (p : Dom) (s : State) : Host.Outcome State Fault Refusal := pwrLive (ackTimeout (domNum p)) s

/-- The domains that may be held off (R453). -/
def canHold (d : Dev) (n : Nat) : Bool := [4, 5, 6, 10, 11, 12, 13].contains n && d.pwr.declared / 2 ^ n % 2 == 1

/-- The domain of the SerDes reference PLL. -/
def serdesDom (d : Dev) : Nat := if serdesPll d < 2 then 4 else 5

/-- PWR_DOM_OFF (R453). -/
def domOffF (v : Word) (d : Dev) : Dev :=
  let named := (List.range 14).filter (fun n => bitAt v n)
  let quadStays := [10, 11, 12, 13].any (fun n => domOnN d n && !(named.contains n))
  if !(running d) then setF PWR_RESULT_cause 1 d
  else if named.any (fun n => !(canHold d n)) then setF PWR_RESULT_cause 5 d
  else if named.contains (serdesDom d) && quadStays then setF PWR_RESULT_cause 4 d
  else settleDoms (setF PWR_RESULT_cause 0 (setF PWR_DOM_OFF_hold v.toNat d))

/-- PWR_DOM_OFF_WRITE (R453). -/
def execPwrDomOffWrite (r : Req) (v : Word) (s : State) : Host.Outcome State Fault Refusal :=
  s.upd (guardWrite r PWR_DOM_OFF (domOffF v))

/-! ### Wake sources -/

/-- Source `n` of R464 is enabled; bit 0 cannot be disabled. -/
def wakeEnabled (d : Dev) (n : Nat) : Bool := n == 0 || fld d PWR_WAKE_EN_en / 2 ^ n % 2 == 1

/-- The exit from Low water to Boot (R459, R464): event 0x0C09 reports the sources latched; a wake in progress ends. -/
def lwExit (d : Dev) : Dev :=
  let d1 := doIf (flag d PWR_STATUS_lw_wake) (raise 0x0C06 (1 + b2n d.pwr.wakeGnss * 2)) d
  let d2 := raise 0x0C09 (fld d1 PWR_WAKE_SRC_src) d1
  enterBoot 4 { d2 with hif := { d2.hif with wakeHost := flag d PWR_CTL_wake_host } }

/-- The entry into Low water abandoned by an early wake source (R459): Standby again, event 0x0C02 with cause 0x06. -/
def lwAbandon (d : Dev) : Dev :=
  raise 0x0C02 6 (setF PWR_RESULT_cause 6 (setF PWR_STATUS_busy 0 { d with pwr := { d.pwr with trans := .none } }))

/-- Wake source `n` arrives (R459, R464). -/
def wakeBy (n : Nat) (d : Dev) : Dev :=
  if !(wakeEnabled d n) then d
  else if d.pwr.trans = .toLow then lwAbandon d
  else if devState d = stLow then lwExit (setF ⟨PWR_WAKE_SRC, n, 1⟩ 1 d)
  else d

/-- WAKE_SOURCE (R464). -/
def execWakeSource (src : Fin 9) (s : State) : Host.Outcome State Fault Refusal := pwrLive (wakeBy src.val) s

/-- SEAL_OPEN (R330, R331): while seal_en is 1, the seal is Intact and unit 0x33 is in service (R405). It is a wake source (R464). -/
def execSealOpen (s : State) : Host.Outcome State Fault Refusal :=
  pwrLive (fun d => doIf (flag d KEY_LAYOUT_INFO_seal_en && !(flag d KEY_STATUS_seal) && !(unitOut d 0x33)) (fun x => wakeBy 5 (sealOpenF x)) d) s

/-- PRESENCE_ASSERT (R329): PRESENCE_N asserted is a wake source (R464). -/
def execPresenceAssert (s : State) : Host.Outcome State Fault Refusal := pwrLive (fun d => wakeBy 6 (presenceAssertF d)) s

/-- DSG_RX_FRAME (R263); a drive-sync frame addressed to DSG_RX_MAC is a wake source (R464). -/
def execDsgRxFrame (o : RxObs) (s : State) : Host.Outcome State Fault Refusal :=
  s.upd (fun d => doIf (dsgWakes o d) (wakeBy 7) (dsgReceive o d))

/-- CLAIM_ROUND_END (R344); the round in which the partner becomes absent is a wake source (R345, R464). -/
def execClaimRoundEnd (present : Bool) (claim : BitVec 16) (s : State) : Host.Outcome State Fault Refusal :=
  s.upd (fun d =>
    let d1 := roundEnd present claim.toNat d
    doIf (decide (d.twn.absent < 2) && decide (d1.twn.absent = 2)) (wakeBy 8) d1)

/-- LW_EXIT_TARGET_DUE (R20, R464): the armed target PWR_LW_EXIT is due on the low-power counter. -/
def execLwExitTargetDue (s : State) : Host.Outcome State Fault Refusal :=
  pwrLive (fun d => doIf (d.pwr.exitArmed && due (rd64 d PWR_LW_EXIT_LO) (near d))
    (fun x => wakeBy 2 { x with pwr := { x.pwr with exitArmed := false } }) d) s

/-! ### Requests -/

/-- A refused request (R458): PWR_RESULT and event 0x0C02. -/
def reqRefuse (cause : Nat) (d : Dev) : Dev := raise 0x0C02 cause (setF PWR_RESULT_cause cause d)

/-- An accepted request: the transition waits for the next 1 ms epoch. -/
def reqAccept (t : Trans) (d : Dev) : Dev := setF PWR_STATUS_busy 1 { d with pwr := { d.pwr with trans := t } }

/-- A request for device state `st` (R458). -/
def pwrRequest (st : Nat) (d : Dev) : Dev :=
  if devState d = stLow then wakeBy 0 d
  else if d.pwr.trans ≠ .none then reqRefuse 3 d
  else if !(running d) then reqRefuse 1 d
  else if devState d = st then setF PWR_RESULT_cause 0 d
  else if st = stServe then reqAccept .toServe d
  else if st = stStandby then reqAccept .toStandby d
  else if devState d ≠ stStandby then reqRefuse 1 d
  else if fld d IMG_STATUS_source = 2 then reqRefuse 2 d
  else setF PWR_STATUS_lw 0 (reqAccept .toLow d)

/-- REQ_SERVE (R458). -/
def execReqServe (r : Req) (s : State) : Host.Outcome State Fault Refusal := s.upd (guardWrite r PWR_REQ (pwrRequest stServe))

/-- REQ_STANDBY (R458). -/
def execReqStandby (r : Req) (s : State) : Host.Outcome State Fault Refusal := s.upd (guardWrite r PWR_REQ (pwrRequest stStandby))

/-- REQ_LOW_WATER (R458). -/
def execReqLowWater (r : Req) (s : State) : Host.Outcome State Fault Refusal := s.upd (guardWrite r PWR_REQ (pwrRequest stLow))

/-! ### Low water -/

/-- Dormant again after a wake (R460 step 6): the domains and the stages go off. -/
def wakeEnd (gnss : Bool) (d : Dev) : Dev :=
  let d1 := stages false (allDown [1, 3, 6] d)
  raise 0x0C06 (1 + b2n gnss * 2) (setF PWR_STATUS_lw 1 (setF PWR_STATUS_lw_wake 0
    { d1 with pwr := { d1.pwr with wakeDisc := false, wakeGnss := false, wakeTick := false, refreshTo := none } }))

/-- The firmware of the running slot in flash has the hash recorded at Boot (R460 step 2): the core's, and the baseband's for a GNSS wake. -/
def wakeLoads (gnss : Bool) (d : Dev) : Bool :=
  let ok (i : Nat) : Bool :=
    let now := flashImage d (fld d IMG_STATUS_source) (i + 1)
    let then_ := d.img.run.getD i []
    decide (now = then_) || decide (Config.sha256 now = Config.sha256 then_)
  ok 1 && (!gnss || ok 2)

/-- The GNSS part of a wake begins (R230 steps 1 and 2): PD_GNSS on with GN_FE_EN high, and a capture armed with trigger 3. -/
def gnssBegin (d : Dev) : Dev :=
  let d1 := powerUp 6 d
  snapArm (fld d1 GN_LW_CTL_streams) (fld d1 GN_LW_CTL_ms) 3 { d1 with gn := { d1.gn with feAt := now16 d1 } }

/-- The wakes that are due now, or within 2 s where another runs with them (R460): discipline, GNSS. A period of 0 has none. -/
def wakesDue (d : Dev) : Bool × Bool :=
  let by_ := fun (t : Nat) (m : Nat) => decide (t ≤ now16 d + m)
  let disc := decide (fld d PWR_LW_DISC_s ≠ 0)
  let gn := decide (rdN d GN_LW_PERIOD ≠ 0) && domDeclared d 6
  let any := flag d PWR_STATUS_lw_wake || (disc && by_ d.pwr.nextDisc 0) || (gn && by_ d.pwr.nextGnss 0)
  let m := if any then 2 * sec16 else 0
  (disc && by_ d.pwr.nextDisc m, gn && by_ d.pwr.nextGnss m)

/-- The due wakes join the wake that runs or begins, discipline first, and their next times are set (R460). -/
def wakeJoin (disc gnss : Bool) (d : Dev) : Dev :=
  { d with pwr := { d.pwr with
      wakeDisc := d.pwr.wakeDisc || disc, wakeGnss := d.pwr.wakeGnss || gnss
      nextDisc := if disc then d.pwr.nextDisc + fld d PWR_LW_DISC_s * sec16 else d.pwr.nextDisc
      nextGnss := if gnss then d.pwr.nextGnss + rdN d GN_LW_PERIOD * sec16 else d.pwr.nextGnss } }

/-- Steps 1 to 4 of a wake (R460). A mismatch exits to Boot. The GNSS part waits for the discipline part. -/
def wakeStart (disc gnss load lock : Bool) (d : Dev) : Dev :=
  let d0 := wakeJoin disc gnss { d with pwr := { d.pwr with wakeTick := lock, wakeAt := now16 d } }
  let d1 := raise 0x0C06 (b2n gnss * 2) (satAdd PWR_LW_COUNT_wakes 1 (setF PWR_STATUS_lw 2 (setF PWR_STATUS_lw_wake 1 d0)))
  let d2 := powerUp 1 (stages true d1)
  if !load || !(wakeLoads gnss d2) then lwExit d2
  else doIf (!disc) gnssBegin (powerUp 3 (startCore 0 1 (loadPages d2.img.loads d2)))

/-- A wake of the kind may start (R460): Dormant, or in a wake of the other kind. -/
def wakeReady (d : Dev) : Bool := devState d == stLow && decide (fld d PWR_STATUS_lw ≠ 0)

/-- The discipline part of a wake is over: the GNSS part begins, or the wake ends. -/
def discOver (d : Dev) : Dev :=
  let d1 := { d with pwr := { d.pwr with wakeDisc := false } }
  if d1.pwr.wakeGnss then gnssBegin d1 else wakeEnd false d1

/-- BND_HOLD_BASE increases by `ps`. -/
def addBase (ps : Nat) (d : Dev) : Dev := wr64 BND_HOLD_BASE_LO (sat48 (rd64 d BND_HOLD_BASE_LO + ps)) d

/-- CK_32K edges since the last change of the increment (R461). -/
def incEdges (d : Dev) : Nat := d.lpc.ck - d.lpc.incAt

/-- A discipline wake fails (R462): the increment is kept; it is a wake source when enabled. -/
def discFail (d : Dev) : Dev :=
  let d1 := addBase (ceilDiv (incEdges d * fld d PWR_LW_XTAL_ppb * 1000) 32768) d
  let d2 := raise 0x0C08 1 (satAdd PWR_LW_COUNT_failed 1 d1)
  if wakeEnabled d2 4 then wakeBy 4 d2 else discOver d2

/-- The increment and the added bound of R461 from a measured τ in ns and the frequency word. -/
def discTerms (tau : Nat) (f : Int) (d : Dev) : Nat × Nat :=
  let m := atLeast1 (fld d PWR_LW_CTL_cycles)
  let inc := (roundDiv (tau * ((2 : Int) ^ 56 + f) * 2 ^ 32) (2 ^ 56 * m)).toNat
  (inc, ceilDiv (((inc : Int) - lpcInc d).natAbs * incEdges d * 1000) (2 ^ 33))

/-- The discipline measurement (R461). -/
def discMeasure (tau : Nat) (ok : Bool) (d : Dev) : Dev :=
  match predAt d (near d) with
  | none => discFail d
  | some p =>
    if !ok then discFail d
    else
      let t := discTerms tau (satS 48 (p + d.pwr.lwEns)) d
      let d1 := wr64 TB_LPC_INC_LO t.1 { d with lpc := { d.lpc with incAt := d.lpc.ck } }
      discOver (raise 0x0C07 (min t.2 (2 ^ 31 - 1)) (addBase t.2 d1))

/-- A wake is due (R460, R462): it starts, with the other kind where that is due within 2 s, or joins the wake that runs. PLL_TICK must lock
for the discipline part. -/
def wakeF (gnss load lock : Bool) (d : Dev) : Dev :=
  let w := wakesDue d
  let mine := if gnss then w.2 && !d.pwr.wakeGnss else w.1 && !d.pwr.wakeDisc
  if !(wakeReady d) || !mine then d
  else if flag d PWR_STATUS_lw_wake then
    let d1 := wakeJoin (!gnss) gnss d
    if gnss then doIf (!d1.pwr.wakeDisc) gnssBegin d1 else d1
  else
    let d1 := wakeStart w.1 w.2 load lock d
    if devState d1 = stLow && d1.pwr.wakeDisc && !lock then discFail d1 else d1

/-- DISCIPLINE_WAKE (R460). -/
def execDisciplineWake (load lock : Bool) (s : State) : Host.Outcome State Fault Refusal := pwrLive (wakeF false load lock) s

/-- DISCIPLINE_MEASUREMENT (R461, R462): τ in ns; `ok` is false where the measurement is preempted or carries the step flag. -/
def execDisciplineMeasurement (tau : Nat) (ok : Bool) (s : State) : Host.Outcome State Fault Refusal :=
  pwrLive (fun d => doIf (devState d == stLow && d.pwr.wakeDisc) (discMeasure tau ok) d) s

/-- The Low water bound of R273 without the DSG terms (R463). -/
def lowBoundBare (d : Dev) : Nat := lowBound d - dsgPath d false - 40000

/-- The GNSS part of a wake is over (R230 step 5): GN_FE_EN goes low and PD_GNSS powers down. -/
def gnssOver (d : Dev) : Dev :=
  let d1 := powerDown 6 { d with pwr := { d.pwr with wakeGnss := false, refreshTo := none } }
  if d1.pwr.wakeDisc then d1 else wakeEnd true d1

/-- The stored ephemerides are older than GN_LW_CTL.eph_age hours, or firmware has stored none (R230). -/
def ephOld (d : Dev) : Bool :=
  match d.pwr.ephAt with
  | none => true
  | some t => decide (t + fld d GN_LW_CTL_eph_age * 3600 * sec16 < now16 d)

/-- The result that firmware reports with its write of GN_LW_UNC (R230, R463): event 0x340C with the verdicts in force; valid is forced to 0
where the ephemerides are old. A valid offset beyond the bound raises event 0x0C07 with bit 31 and is a wake source when enabled. The wake
ends, or goes on for up to 90 s of tracking. -/
def gnssDone (v : Word) (d : Dev) : Dev :=
  let valid := bitAt v 31 && !(ephOld d)
  let ofs := rdS64 d GN_LW_OFS_LO
  let d1 := setB GN_LW_UNC_valid valid (setF GN_LW_UNC_ps (bitsOf v 0 24) d)
  let d2 := raise 0x340C (b2n valid + fld d GN_STATUS_osnma * 2 + fld d GN_STATUS_dir * 8) d1
  let far := valid && decide (lowBoundBare d2 * 65536 < ofs.natAbs * 1000)
  let d3 := doIf far (raise 0x0C07 (2 ^ 31)) d2
  if far && wakeEnabled d3 3 then wakeBy 3 d3
  else if d3.pwr.ephBad || (ephOld d3 && flag d3 GN_LW_CTL_refresh) then
    { d3 with pwr := { d3.pwr with refreshTo := some (now16 d3 + 90 * sec16) } }
  else gnssOver d3

/-- A write of GN_LW_OFS or GN_LW_UNC (R230): firmware's in a GNSS wake; another changes nothing. -/
def lwResultF (r : Req) (a : Nat) (v : Word) (d : Dev) : Dev :=
  if !(decide (r = .fw)) || devState d != stLow || !d.pwr.wakeGnss || !(domOn d .gnss) then d
  else if a = GN_LW_OFS_LO then setHeld a r (some v) d
  else if a = GN_LW_OFS_HI then
    setHeld GN_LW_OFS_LO r none (wr a v (wr GN_LW_OFS_LO ((heldLow d GN_LW_OFS_LO r).getD (rd d GN_LW_OFS_LO)) d))
  else gnssDone v d

/-- Firmware has stored new ephemerides (R230): a tracking for them is over. -/
def ephStored (d : Dev) : Dev :=
  let d1 := { d with pwr := { d.pwr with ephAt := some (now16 d), ephBad := false } }
  doIf d1.pwr.refreshTo.isSome gnssOver d1

/-- The 90 s of a tracking for new ephemerides are over (R230). -/
def refreshEnd (d : Dev) : Dev :=
  match d.pwr.refreshTo with
  | some t => doIf (decide (t ≤ now16 d)) gnssOver d
  | none => d

/-- What happens in a GNSS wake (R230, R460). -/
def gnssWakeF (o : GnssWakeObs) (d : Dev) : Dev :=
  match o with
  | .start load lock => wakeF true load lock d
  | .ephemerides => doIf (domOn d .gnss) ephStored d
  | .refreshOver => refreshEnd d

/-- GNSS_WAKE (R230, R460). -/
def execGnssWake (o : GnssWakeObs) (s : State) : Host.Outcome State Fault Refusal := pwrLive (gnssWakeF o) s

/-- A wake longer than PWR_LW_CTL.wake_max seconds is cut (R460): event 0x0C08 with reason 2. -/
def wakeCut (d : Dev) : Dev :=
  doIf (devState d == stLow && flag d PWR_STATUS_lw_wake && decide (d.pwr.wakeAt + fld d PWR_LW_CTL_wake_max * sec16 < now16 d))
    (fun x => wakeEnd x.pwr.wakeGnss (raise 0x0C08 2 x)) d

/-- WAKE_MAX_EXPIRY (R460). -/
def execWakeMaxExpiry (s : State) : Host.Outcome State Fault Refusal := pwrLive wakeCut s

end Sys2Proof.Machine
end

