-- ==== Sys2Proof/Machine/Meas.lean ====
section
/-! DEFINITION. The meanings of the MEAS commands of spec/05_measurement.md, but for those that hand a result or a loss to a
client (REQUEST_COMPLETE, REQUEST_DUE and MEAS_POWER_LOSS: Results.lean). -/

namespace Sys2Proof.Machine

open Sys2Proof

/-- Pin `pin` is in its hold-off window (R121). -/
def inHoldoff (d : Dev) (pin : Nat) : Bool :=
  match cget (fun _ => none) d.meas.holdEnd pin with
  | some t => decide (d.meas.tick < t)
  | none => false

/-- An edge on a REFIN pin (R121): an edge of the other direction is nothing; one in the hold-off window is counted; any other
is accepted and starts the window. -/
def refinEdgeF (pin : Nat) (falling : Bool) (d : Dev) : Dev :=
  if !(measOn d) || flag d (MEAS_IN_CFG_falling pin) != falling then d
  else if inHoldoff d pin then satAdd (MEAS_IN_CFG_sup pin) 1 d
  else
    let n := rdN d (MEAS_IN_HOLDOFF pin)
    { d with meas := { d.meas with
        pinLast := cput (fun _ => none) d.meas.pinLast pin (some (near d))
        pinTick := cput (fun _ => none) d.meas.pinTick pin (some d.meas.tick)
        holdEnd := cput (fun _ => none) d.meas.holdEnd pin (if n = 0 then none else some (d.meas.tick + n)) } }

/-- REFIN_EDGE (R121). -/
def execRefinEdge (pin : Fin 8) (falling : Bool) (s : State) : Host.Outcome State Fault Refusal :=
  s.upd (refinEdgeF pin.val falling)

/-- The window of a pin ends once its ticks have passed (R121). -/
def holdoffOver (pin : Nat) (d : Dev) : Dev :=
  if inHoldoff d pin then d else { d with meas := { d.meas with holdEnd := cput (fun _ => none) d.meas.holdEnd pin none } }

/-- HOLDOFF_EXPIRY (R121). -/
def execHoldoffExpiry (pin : Fin 8) (s : State) : Host.Outcome State Fault Refusal := s.upd (live (holdoffOver pin.val))

/-- A start edge that passed the prescaler comes sooner than 125 ticks after the last accepted one (R118): discarded and
counted; event 0x2405 once per 1 ms for each channel. -/
def chanOverrun (ch : Nat) (d : Dev) : Dev :=
  let d1 := satAdd (MEAS_CH_OWN_ovr ch) 1 d
  if d.meas.ovrDone.contains ch then d1
  else raise 0x2405 ch { d1 with meas := { d1.meas with ovrDone := ch :: d1.meas.ovrDone } }

/-- A start edge on channel `ch` comes sooner than 125 ticks after the last accepted one (R118). -/
def tooSoon (d : Dev) (ch : Nat) : Bool :=
  match cget (fun _ => none) d.meas.startAt ch with
  | some t => decide (d.meas.tick < t + 125)
  | none => false

/-- A start edge that passed the prescaler (R118, R122): a STAMP request takes the residual as its sample, an INTERVAL request waits for
the stop. -/
def startSample (ch q code : Nat) (d0 : Dev) : Dev :=
  if tooSoon d0 ch then chanOverrun ch d0
  else
    let d := { d0 with meas := { d0.meas with startAt := cput (fun _ => none) d0.meas.startAt ch (some d0.meas.tick) } }
    let st := stampOf d ch (reqCfg d q 8 8) code
    if reqCfg d q 1 1 == 1 then setMreq q { mreq d q with pend := some st } d
    else addSample q (residual st (reqReg64 d MEAS_REQ_ANCHOR_LO q) (reqReg64 d MEAS_REQ_P_LO q)) st d

/-- A start edge on a granted channel, after the source (R118, R122, R127): the prescaler keeps one edge in every prescale; an edge that
arrives while a stop is awaited is not counted by it (log entry 131). A preempted STAMP request stops with this edge. -/
def startEdge (ch q code : Nat) (d : Dev) : Dev :=
  let r := mreq d q
  let interval := reqCfg d q 1 1 == 1
  if interval && r.pend.isSome then d
  else
    let pre := atLeast1 (bitsOf (rd d (bank MEAS_REQ_PRESC q)) 0 17)
    let d1 := if r.presc + 1 < pre then setMreq q { r with presc := r.presc + 1 } d
      else startSample ch q code (setMreq q { r with presc := 0 } d)
    doIf (!interval) (holdIfStopping q) d1

/-- A stop edge on a granted channel: the sample of an INTERVAL request whose start waits (R122). -/
def stopEdge (ch q code : Nat) (d : Dev) : Dev :=
  match (mreq d q).pend with
  | none => d
  | some st =>
    let sp := stampOf d ch (reqCfg d q 16 8) code
    let x := nearDiff sp st - sx 64 (reqReg64 d MEAS_REQ_ANCHOR_LO q)
    holdIfStopping q (addSample q x sp (setMreq q { mreq d q with pend := none } d))

/-- The source's edge is there (R121): a REFIN pin accepted an edge on this tick; any other source has no conditioning. -/
def srcEdge (d : Dev) (src : Nat) : Bool :=
  if 1 ≤ src ∧ src ≤ 8 then cget (fun _ => none) d.meas.pinTick (src - 1) == some d.meas.tick else true

/-- A capture on a channel (R117, R118, R121, R122). A channel that is not granted, a source that delivers no edges, and a request
that already has its N samples take none. -/
def channelCaptureF (ch : Nat) (stop : Bool) (code : Nat) (d : Dev) : Dev :=
  let q := fld d (MEAS_CH_OWN_req ch)
  let src := if stop then reqCfg d q 16 8 else reqCfg d q 8 8
  if !(measOn d) || fld d (MEAS_CH_OWN_state ch) != 1 || !(srcOn d src) || !(srcEdge d src) ||
      decide ((mreq d q).reqN ≤ (mreq d q).n) then d
  else if stop then stopEdge ch q code d
  else startEdge ch q code d

/-- CHANNEL_CAPTURE (R117). -/
def execChannelCapture (ch : Fin 24) (stop : Bool) (code : Fin 256) (s : State) : Host.Outcome State Fault Refusal :=
  s.upd (channelCaptureF ch.val stop code.val)

/-- No stop within 2^32 ticks of the start (R122): the start is dropped and counted as a timeout. -/
def intervalTimeoutF (ch : Nat) (d : Dev) : Dev :=
  let q := fld d (MEAS_CH_OWN_req ch)
  if measOn d && fld d (MEAS_CH_OWN_state ch) == 1 && (mreq d q).pend.isSome then
    holdIfStopping q (setMreq q { mreq d q with pend := none, timeout := true } d)
  else d

/-- INTERVAL_TIMEOUT (R122). -/
def execIntervalTimeout (ch : Fin 24) (s : State) : Host.Outcome State Fault Refusal := s.upd (intervalTimeoutF ch.val)

/-- SCHEDULER_GRANT (R126): one decision of the scheduler while MEAS is in service. -/
def execSchedulerGrant (s : State) : Host.Outcome State Fault Refusal := s.upd (fun d => doIf (measOn d) schedule d)

/-- The time since a request's last published result exceeds its age limit (R128): event 0x2404 once for the interval. -/
def requestAgeLimitF (q : Nat) (d : Dev) : Dev :=
  let lim := reqReg d MEAS_REQ_AGELIM q
  let r := mreq d q
  if measOn d && decide (lim ≠ 0) && reqState d q != 0 && !r.starved &&
      decide ((lim * 65536000000 : Nat) < nearDiff (near d) r.lastRes) then
    raise 0x2404 q (setB MEAS_STATUS_starved true (setMreq q { r with starved := true } d))
  else d

/-- REQUEST_AGE_LIMIT (R128). -/
def execRequestAgeLimit (q : Fin 96) (s : State) : Host.Outcome State Fault Refusal := s.upd (requestAgeLimitF q.val)

/-- Channel time in milliseconds. -/
def loadMs (l : Cells Nat) (p : Nat) : Nat := cget (fun _ => 0) l p / ms16

/-- MEAS_LOAD at a whole second (R129): the channel time of each class since the last one; more than 24,000 channel-milliseconds demanded
raises event 0x2406. -/
def measLoadF (d0 : Dev) : Dev :=
  if taiSec d0 = d0.meas.loadSec then d0
  else
    let d := loadSync d0
    let total := ((List.range 8).map (loadMs d.meas.loadD)).foldl (· + ·) 0
    let d1 := forEach (List.range 8) (fun p x =>
      setF (MEAS_LOAD_granted p) (satU 16 (loadMs d.meas.loadG p)) (setF (MEAS_LOAD_demand p) (satU 16 (loadMs d.meas.loadD p)) x)) d
    let d2 := { d1 with meas := { d1.meas with loadD := [], loadG := [], loadSec := taiSec d } }
    doIf (decide (24000 < total)) (fun x => raise 0x2406 total (setB MEAS_STATUS_oversub true x)) d2

/-- MEAS_LOAD_SECOND (R129). -/
def execMeasLoadSecond (s : State) : Host.Outcome State Fault Refusal := s.upd (fun d => doIf (measOn d) measLoadF d)

/-- An INL run starts: full or fast (R130). A start during a run makes that run a full or fast one (log entry 131). -/
def startInl (full : Bool) (d : Dev) : Dev :=
  setB MEAS_STATUS_cal_busy true { d with meas := { d.meas with fullRun := full } }

/-- Every channel that is not fenced has its skew due (R132). -/
def skewAll (d : Dev) : Dev :=
  { d with meas := { d.meas with skewDue := (List.range 24).filter (fun c => fld d (MEAS_CH_OWN_state c) != 3) } }

/-- MEAS_CAL_INL_FULL (R133): a full INL run starts. -/
def execMeasCalInlFull (r : Req) (s : State) : Host.Outcome State Fault Refusal :=
  s.upd (guardWrite r MEAS_CAL_CMD (startInl true))

/-- MEAS_CAL_SKEW_ALL (R133): every channel's skew is due. -/
def execMeasCalSkewAll (r : Req) (s : State) : Host.Outcome State Fault Refusal := s.upd (guardWrite r MEAS_CAL_CMD skewAll)

/-- The temperature at the converter moved more than dtemp × 0.5 °C since the last passing run. -/
def inlTempMoved (temp : Int) (d : Dev) : Bool :=
  let dt := fld d MEAS_CAL_CTL_dtemp
  decide (dt ≠ 0) && (match d.meas.lastTemp with | some t => decide ((5 * dt : Nat) < (temp - t).natAbs) | none => false)

/-- MEAS_CAL_PERIOD in units of 2^-16 ns (R133). -/
def calPeriod (d : Dev) : Nat := atLeast1 (fld d MEAS_CAL_PERIOD_seconds) * sec16

/-- The channels whose skew run is a period old (R133). -/
def skewLate (d : Dev) : List Nat :=
  (List.range 24).filter (fun c => fld d (MEAS_CH_OWN_state c) != 3 && !(d.meas.skewDue.contains c) &&
    decide (cget (fun _ => 0) d.meas.skewAt c + calPeriod d ≤ now16 d))

/-- The reading of a 1 ms epoch (R133): a moved temperature, or MEAS_CAL_PERIOD since the last passing run, starts a full INL run; each
channel's skew is due once per MEAS_CAL_PERIOD. -/
def inlTriggerF (temp : Int) (d : Dev) : Dev :=
  if !(measOn d) then d
  else
    let d1 := { d with meas := { d.meas with skewDue := d.meas.skewDue ++ skewLate d } }
    doIf ((decide (d.meas.inlAt + calPeriod d ≤ now16 d) || inlTempMoved temp d) && !(flag d MEAS_STATUS_cal_busy)) (startInl true) d1

/-- INL_RUN_TRIGGER (R133): the converter's temperature in 0.1 °C. -/
def execInlRunTrigger (temp : Int) (s : State) : Host.Outcome State Fault Refusal := s.upd (inlTriggerF temp)

/-- The first runs after power-up are over: requests are served from now on (R133). -/
def endInitCal (d : Dev) : Dev :=
  let ended := !(flag d MEAS_STATUS_cal_busy) && d.meas.skewDue.isEmpty
  doIf ended (fun x => { x with meas := { x.meas with initCal := false } }) d

/-- The result of an INL run: 1 pass, 2 missing code, 3 INL above the limit (R131). -/
def inlVerdict (hits : List Nat) (peak : Nat) : Nat := if hits.any (fun h => h == 0) then 2 else if 99 < peak then 3 else 1

/-- An INL run ends with its hits by code (R130, R131): a failed run keeps the table with event 0x2402; a passed one waits in
the shadow for the next 1 ms epoch. -/
def inlCompleteF (hits : List Nat) (temp : Int) (d : Dev) : Dev :=
  if !(measOn d) || !(flag d MEAS_STATUS_cal_busy) then d
  else
    let hs := (List.range 256).map (fun c => hits.getD c 0)
    let h := if d.meas.fullRun then 2 ^ 20 else 2 ^ 16
    let pos := inlTable h 0 hs
    let peak := inlPeak pos
    let v := inlVerdict hs peak
    let d1 := forEach (List.range 256) (fun c x => wrN (bank MEAS_INL_HITS c) (hs.getD c 0 % 2 ^ 20) x) d
    let d2 := setF MEAS_CAL_STATUS_last v (setF MEAS_CAL_STATUS_inl_peak peak (setB MEAS_STATUS_cal_busy false d1))
    let d3 :=
      if v = 1 then
        setB MEAS_STATUS_cal_valid true { d2 with meas := { d2.meas with shadow := some (pos, temp), lastTemp := some temp, inlAt := now16 d } }
      else raise 0x2402 v d2
    endInitCal d3

/-- INL_RUN_COMPLETE (R131): the hits of the 256 codes and the converter's temperature in 0.1 °C. -/
def execInlRunComplete (hits : List Nat) (temp : Int) (s : State) : Host.Outcome State Fault Refusal :=
  s.upd (inlCompleteF hits temp)

/-- The skew of a run (R132): the mean of stamp_ch − stamp_MCAL1 over 4,096 edges, MCAL_1's factory offset taken out of its stamps. -/
def skewMean (sum : Int) : Int := divAway (sum + 4096 * Config.mcal1Offset) 4096

/-- A skew run ends (R132): beyond 50 ps the channel is fenced, a contained fault of its unit, which is left partly fenced. -/
def skewCompleteF (ch : Nat) (sum : Int) (d : Dev) : Dev :=
  if !(measOn d) || fld d (MEAS_CH_OWN_state ch) != 2 then d
  else
    let mean := skewMean sum
    let v := wrapN 16 (satS 16 mean)
    let u := if ch < 12 then 0x07 else 0x08
    let d1 := setF (MEAS_SKEW_d_ch ch) v { d with meas := { d.meas with
      skewDue := d.meas.skewDue.filter (fun c => c != ch), skewAt := cput (fun _ => 0) d.meas.skewAt ch (now16 d) } }
    let d2 :=
      if 3277 < mean.natAbs then
        raise 0x2407 (ch + v * 65536) (partFence u (resolved u 0x07 2 0x2407 (ch + v * 65536) false (fenceMch ch d1)))
      else setF (MEAS_CH_OWN_state ch) 0 d1
    endInitCal d2

/-- SKEW_RUN_COMPLETE (R132): the sum of 4,096 differences between the channel's stamps and those of MCAL_1 as captured. -/
def execSkewRunComplete (ch : Fin 24) (sum : Int) (s : State) : Host.Outcome State Fault Refusal :=
  s.upd (skewCompleteF ch.val sum)

/-- The reserves' total after a write of one class. -/
def reserveTotal (d : Dev) (p v : Nat) : Nat :=
  ((List.range 8).map (fun c => if c = p then v else fld d (MEAS_RESERVE_channels c))).foldl (· + ·) 0

/-- A write of MEAS_RESERVE (R126): a total above 24 is refused and the previous reserves stay. -/
def reserveF (r : Req) (p : Nat) (v : Word) (d : Dev) : Dev :=
  doIf (decide (reserveTotal d p (bitsOf v 0 5) ≤ 24)) (fieldWrite r (MEAS_RESERVE p) v) d

/-- MEAS_RESERVE_WRITE (R126). -/
def execMeasReserveWrite (r : Req) (p : Fin 8) (d : Word) (s : State) : Host.Outcome State Fault Refusal :=
  s.upd (guardWrite r (MEAS_RESERVE p.val) (reserveF r p.val d))

end Sys2Proof.Machine
end

