-- ==== Sys2Proof/Machine/Results.lean ====
section
/-! DEFINITION. Published results of MEAS requests (R123, R124, R128 of spec/05_measurement.md) and the clients that take them (R31). The
map from request numbers to clients is log entry 11. -/

namespace Sys2Proof.Machine

open Sys2Proof

/-- A published result goes to the client that posted request `q`: REF slots 0 to 31, GNSS streams 32 to 35, SYN outputs 36 to 55, port
lanes 56 to 87, the twin link 88 and 89, captured GNSS streams 90 to 93; a class 3 request of the pool is an oscillator comparison (R166). `latch` is the mean of the
port's own latch over the same edges (R251). -/
def resultHook (q : Nat) (latch : Int) (d : Dev) : Dev :=
  if q < 32 then slotResult q d
  else if q < 36 then streamResult (q - 32) d
  else if q < 56 then outputResult (q - 36) d
  else if q < 88 then laneResult q latch d
  else if q < 90 then alignResult q d
  else if q < 94 then captureResult (q - 90) d
  else if reqClass d q = 3 && decide (0 < reqReg d MEAS_RES_CNT q) then
    let at16 := now16 d - (nearDiff (near d) (reqReg64 d MEAS_RES_AGE_LO q)).toNat
    { d with bnd := { d.bnd with osc := (q, at16, reqReg64 d MEAS_REQ_REPEAT_LO q) :: d.bnd.osc.filter (fun x => x.1 != q) } }
  else d

/-- The result of request `q` published, the request's next state, and the client's use of it. -/
def resultOut (q : Nat) (step preempted : Bool) (latch : Int) (d : Dev) : Dev :=
  resultHook q latch (afterResult q (publish q step preempted d))

/-- A running request has its N samples (R123, R127, R128). -/
def requestDone (q : Nat) (latch : Int) (d : Dev) : Dev :=
  let r := mreq d q
  if measOn d && (reqState d q == 2 || reqState d q == 3) && decide (r.reqN ≤ r.n) then resultOut q false false latch d else d

/-- REQUEST_COMPLETE (R123). -/
def execRequestComplete (q : Fin 96) (latch : Int) (s : State) : Host.Outcome State Fault Refusal := s.upd (requestDone q.val latch)

/-- A repeating request reaches its next due time (R128): still Waiting, Running or Held, its partial result is published with
preempted = 1 and it starts again; one that waits only for that time joins the queue. -/
def requestDueF (q : Nat) (d : Dev) : Dev :=
  let rep := reqReg64 d MEAS_REQ_REPEAT_LO q
  let r := mreq d q
  if measOn d && reqState d q != 0 && decide (0 < rep) && due ((r.due + rep) % 2 ^ 64) (near d) then resultOut q false true 0 d else d

/-- REQUEST_DUE (R128). -/
def execRequestDue (q : Fin 96) (s : State) : Host.Outcome State Fault Refusal := s.upd (requestDueF q.val)

/-- MEAS_POWER_LOSS (R134, R249): every request Waiting with cleared accumulators; ports keep the values in force. -/
def execMeasPowerLoss (s : State) : Host.Outcome State Fault Refusal := s.upd (live (fun d => doIf (!(measOn d)) measLoss d))

end Sys2Proof.Machine
end

