-- ==== Sys2Proof/Machine/Epoch.lean ====
section
/-! DEFINITION. The 1 ms epoch (R29): pending changes and the step, the ledger, the mirror commit, then what fires; with the reload of
the low-power counter (R108), the monitors, and the device-state transitions that wait for an epoch (R458, R459). -/

namespace Sys2Proof.Machine

open Sys2Proof

/-! ### The 1 µs epoch -/

/-- The 1 µs epoch (R90, R104): the disturbances reach the channels, the epoch counters step, the vectors are compared, and the outputs that
wait for it start (R193). Nothing happens while PD_TB is off or before the instant of the epoch. -/
def epoch1usF (us : List Upset) (d : Dev) : Dev :=
  let d1 := mapChans (fun c => { c with epochs := c.epochs + 1 }) (holdServo d)
  let d2 := forEach us (fun u x => { x with tb := setChan x.tb u.chan.val (upsetChan u.word.val u.flip (chan x.tb u.chan.val)) }) d1
  let d3 := { d2 with tb := { d2.tb with nextUs := nextEpoch us16 d } }
  doIf (epochDue d d.tb.nextUs) (fun _ => pmcAdd 0x0704 1 (capture1us (forEach (List.range 4) restartPll (compareChans d3)))) d

/-- EPOCH_1US (R104). -/
def execEpoch1us (us : List Upset) (s : State) : Host.Outcome State Fault Refusal := s.upd (epoch1usF us)

/-! ### Steps and sets -/

/-- What a step or set of `s` units, applied when the bus read `t`, does to the other blocks (R94, R100, R119, R197, R248, R258, R267):
STAMP accumulations end with step = 1, pulses are counted, aligned outputs, lanes and the symbol grid move; due alarms fire by the
step. -/
def stepEffects (t : Nat) (s : Int) (d : Dev) : Dev :=
  let m := stepEnds d
  let d1 := forEach m.1 (fun q x => resultOut q true false 0 x) m.2
  qStepped (t % 2 ^ 64) (dsgShift s (stepPhi s (stepAligned s (stepPulses t s d1))))

/-- The start times from which durations are counted go with a step or set of `s` units, which is no passage of time (log entry 142). -/
def stepClocks (s : Int) (d : Dev) : Dev :=
  let mv := fun (t : Nat) => ((t : Int) + s).toNat
  { d with
    evq := { d.evq with timers := d.evq.timers.map (fun x => (x.1, mv x.2)) }
    ctl := { d.ctl with
      cores := d.ctl.cores.map (fun c => (c.1, { c.2 with kickAt := mv c.2.kickAt, failAt := c.2.failAt.map mv, downAt := mv c.2.downAt })) }
    flt := { d.flt with units := d.flt.units.map (fun c => (c.1, { c.2 with upsets := c.2.upsets.map mv })) }
    twn := { d.twn with upAt := d.twn.upAt.map mv, goneAt := d.twn.goneAt.map mv, peerAt := mv d.twn.peerAt }
    ref := { d.ref with holdT0 := mv d.ref.holdT0 }
    pwr := { d.pwr with upAt := mv d.pwr.upAt }
    bnd := { d.bnd with t0 := mv d.bnd.t0, freeT0 := mv d.bnd.freeT0, freqT0 := mv d.bnd.freqT0, susSince := d.bnd.susSince.map mv
                        osc := d.bnd.osc.map (fun x => (x.1, mv x.2.1, x.2.2)) } }

/-- TB's own pending step or set at the boundary (R91, R92, R168): applied where every enabled pulse output is quiet. A set is traced as
such, and a step that REF did not ask for stands in B_SERVO until the next result. -/
def ownStep (d : Dev) : Dev × Bool :=
  let s := pendingShift d
  if stepPending d && allQuiet s d then
    let isSet := flag d TB_STATUS_set_pending
    let byRef := d.ref.stepPend.isSome
    let t := now16 d
    let d1 := applyPending d
    let d2 := stepEffects t s (stepClocks s { d1 with bnd := { d1.bnd with setNew := d1.bnd.setNew || isSet } })
    (doIf (!byRef) (fun x => { x with bnd := { x.bnd with stepAdd := x.bnd.stepAdd + s.natAbs } }) d2, true)
  else (d, false)

/-- A step that came with a mirror epoch, at the first boundary where R92 holds (R352): R93 and R95 do not apply, and it counts in TB's step
count. B_SERVO holds |s| until the Active's next result (R168). -/
def mirroredStep (d : Dev) : Dev × Bool :=
  match d.twn.shift with
  | none => (d, false)
  | some s =>
    if allQuiet s d then
      let t := now16 d
      let d1 := shiftTime s { d with twn := { d.twn with shift := none } }
      let d2 := { d1 with tb := { d1.tb with stepCount := d1.tb.stepCount + 1 }, ref := { d1.ref with acc := { d1.ref.acc with clean := false } } }
      let d3 := stepEffects t s (stepClocks s (raise 0x2004 (stepParam s) d2))
      ({ d3 with bnd := { d3.bnd with stepAdd := d3.bnd.stepAdd + s.natAbs } }, true)
    else (d, false)

/-- A slew on a Standby that follows is cancelled, as by TB_CMD.cancel (R97, R352). -/
def followSlew (d : Dev) : Dev :=
  if follows d && slewExists d then
    let d1 := mapChans (fun c => { c with rem := 0 }) d
    tbRefuse 0x06 3 { d1 with tb := { d1.tb with slewAdd := none, slewEnding := false } }
  else d

/-! ### The INL table -/

/-- The shadow table becomes the table in force (R131): cal_seq increments, event 0x2401. -/
def inlSwitch (d : Dev) : Dev :=
  match d.meas.shadow with
  | none => d
  | some (pos, temp) =>
    let d1 := forEach (List.range 256) (fun c x => setF ⟨bank MEAS_INL_POS c, 0, 16⟩ (pos.getD c 0) x) d
    let seq := (rdN d MEAS_CAL_SEQ + 1) % 2 ^ 32
    let d2 := wrN MEAS_CAL_SEQ seq { d1 with meas := { d1.meas with shadow := none } }
    raise3 0x2401 seq seq (fld d2 MEAS_CAL_STATUS_inl_peak) (wrapN 32 temp) d2

/-! ### Monitors -/

/-- The frequency monitors of R191; the SerDes reference PLL beyond 100 ppm fences the quads that it feeds. -/
def pllMonitors (mons : List Int) (d : Dev) : Dev :=
  forEach (List.range 4) (fun p x =>
    match mons[p]? with
    | none => x
    | some m =>
      let r := monitorPll p m x
      if r.2 && serdesPll r.1 == p then
        forEach (List.range 4) (fun q y => doIf (domOnN y (10 + q)) (fenceOut (0x14 + q) 0x04) y) r.1
      else r.1) d

/-- The stream monitors of R209. -/
def streamMonitors (l : List (List Byte)) (d : Dev) : Dev :=
  doIf (domOn d .gnss) (fun x => forEach (List.range 4) (fun n y =>
    match l[n]? with
    | some v => monitorStream n v y
    | none => y) x) d

/-! ### Transitions -/

/-- A set that is still pending when the device leaves Standby is discarded with cause 0x04 (R96). -/
def dropSet (d : Dev) : Dev := if flag d TB_STATUS_set_pending then tbRefuse 0x04 2 (dropPending d) else d

/-- A transition is over. -/
def transDone (d : Dev) : Dev :=
  setF PWR_RESULT_cause 0 (setF PWR_STATUS_busy 0 { d with pwr := { d.pwr with trans := .none } })

/-- The entry into Low water (R459): holdover values fixed (R171), the forced state block, the domains off with PD_CTL last, the stages
off, Dormant. -/
def enterLow (block : Bool) (d0 : Dev) : Dev :=
  let d := dropSet d0
  let c := holdCoefs d
  let d1 := doIf (!d.bnd.wasHold) (fixHold d.bnd.copyT (max c.1 d.bnd.prevSum) c.1 c.2.1 c.2.2) d
  let d2 := stages false (allDown upOrder (stateBlock block d1))
  let nexts := { d2.pwr with nextDisc := now16 d2 + fld d2 PWR_LW_DISC_s * sec16, nextGnss := now16 d2 + rdN d2 GN_LW_PERIOD * sec16 }
  stateTo stLow (setF PWR_STATUS_lw 1 (transDone { d2 with pwr := nexts }))

/-- A device-state transition that waits for the epoch (R458, R459). -/
def transition (block : Bool) (d : Dev) : Dev :=
  match d.pwr.trans with
  | .none => d
  | .toServe => refreshServing (stateTo stServe (transDone (dropSet d)))
  | .toStandby => refreshServing (stateTo stStandby (transDone d))
  | .toLow => enterLow block d

/-! ### The epoch -/

/-- What happens once in a TAI second, at its first epoch: limits of one event a second start anew, ages and countdowns step, and the
statistics of the last second are shown (R105, R141, R202, R279, R295, R311). -/
def wholeSecond (d : Dev) : Dev :=
  let d1 := { d with
    tb := { d.tb with reps := [] } }
  let d3 := calSecond d1
  doIf (domOn d3 .pkt) (fun x =>
    let x1 := forEach (List.range 4) (fun p y => setF (SVC_PIPE_STAT_mops p) (cget (fun _ => 0) y.net.ops p / 1000000) y) x
    let x2 := setF SVC_WHEEL_STAT_backlog_max (satU 16 x1.net.backlog)
      (doIf (decide (0 < x1.net.kodDrop)) (raise 0x6407 x1.net.kodDrop) x1)
    { x2 with net := { x2.net with backlog := 0, ops := [], secDone := [], keyDone := [], kodDrop := 0 } }) d3

/-- A reload was accepted at least 1 µs ago (R59). -/
def reloadWaited (d : Dev) : Bool := decide (d.img.reloadAt + us16 ≤ now16 d) || decide (now16 d < d.img.reloadAt)

/-- Limits of one event in an epoch start anew, the epoch is counted, in the channels and for the twin, and an accepted reload may apply
(R59). -/
def epochMarks (d0 : Dev) : Dev :=
  let d := mapChans (fun c => { c with epochsMs := c.epochsMs + 1 }) d0
  { d with
    tb := { d.tb with satDone := false }
    meas := { d.meas with ovrDone := [] }
    gn := { d.gn with ringDone := [] }
    twn := { d.twn with ms := d.twn.ms + 1, crcErrs := 0 }
    img := { d.img with reloadReady := d.img.reload.isSome && (d.img.reloadReady || reloadWaited d) } }

/-- Step 2 of R29: frequency terms, EFC codes, slew start, the table of R131, then the step or set of TB or of the mirror. The answer holds the
applied shift of TB's own for the mirror, and whether anything was applied. -/
def boundary (d : Dev) : Option Int × Bool × Dev :=
  let d1 := followSlew (inlSwitch (applyEfc (applyFreq (ensembleStep d))))
  let s := pendingShift d1
  let a := ownStep d1
  let b := mirroredStep a.1
  (if a.2 then some s else none, a.2 || b.2, b.1)

/-- REF's work (R144, R352), with the time of the last Locked epoch (R300). -/
def refWork (d : Dev) : Dev :=
  let d1 := doIf (follows d) (fun x => wrS64 TWN_FOLLOW_LO (followTerm x) x) d
  let d2 := refEpoch d1
  if fld d2 REF_STATUS_servo = 2 then { d2 with net := { d2.net with lockedAt := some (now16 d2) } } else d2

/-- The 1 ms epoch (R29, R90): it begins on the first tick that reaches its instant, and an applied step or set realigns the epochs
(R98). -/
def epoch1msF (o : EpochObs) (d : Dev) : Dev :=
  if !(d.pwr.powered) || !(epochDue d d.tb.nextMs) then d
  else
    let b := boundary (epochMarks d)
    let e := if b.2.1 then alignGn (alignEpochs b.2.2) else { b.2.2 with tb := { b.2.2.tb with nextMs := nextEpoch ms16 b.2.2 } }
    let d1 := refWork (lpcReload e)
    let d2 := twinEpoch b.1 (ledgerStep o.adder d1)
    let d3 := streamMonitors o.streams (outEpoch (pllMonitors o.mons d2))
    let d4 := dsgLocked (refreshPreds (doIf b.2.1 fireDueAlarms d3))
    let d5 := doIf (decide (now16 d4 % sec16 < ms16)) wholeSecond d4
    transition o.block d5

/-- EPOCH_1MS (R29). -/
def execEpoch1ms (o : EpochObs) (s : State) : Host.Outcome State Fault Refusal := s.upd (epoch1msF o)

end Sys2Proof.Machine
end

