-- ==== Sys2Proof/Machine/Img.lean ====
section
/-! DEFINITION. The commands of IMG (spec/02_structure_image.md): a set from the host, live reload, confirmation, bad marks. -/

namespace Sys2Proof.Machine

open Sys2Proof

/-- The check of the staged set (R52, R57): a word of bad parity makes its image fail verification with the signature's cause (R82). -/
def checkStaged (d : Dev) (l : List (Nat × List Byte)) : SetCheck :=
  if l.any (fun x => stageParity d x.1) then setFails 0x04 else checkSet d [] l

/-- IMG_CMD.load_host (R57): in Boot, while nothing runs, the staged set is checked and run; elsewhere it is ignored with cause 0x0A. -/
def loadHostF (o : BootObs) (d : Dev) : Dev :=
  if devState d ≠ stBoot ∨ !d.img.run.isEmpty then imgNotNow 2 d
  else
    let l := setOf (stageImage d 1) (stageImage d 2) (stageImage d 3)
    let r := checkStaged d l
    if r.cause = 0 then bootRun o (acceptSet r 2 l d) else imgRefuse r 2 d

/-- IMG_LOAD_HOST (R57). -/
def execImgLoadHost (r : Req) (o : BootObs) (s : State) : Host.Outcome State Fault Refusal := s.upd (guardWrite r IMG_CMD (loadHostF o))

/-- The hash of a fixed section, if the image has it (R58). -/
def fixedHash (b : List Byte) (t : Nat) : Option Nat := (sectOf b t).map (fun x => Config.sha256 x % 2 ^ 256)

/-- Every fixed section of a new image is that of the running one (R58). -/
def fixedSame (a b : List Byte) : Bool := (sectTypes.filter (fun t => !(sectLive t))).all (fun t => fixedHash a t == fixedHash b t)

/-- The parties of the running firmware with a new structure image: the baseband firmware where one runs. -/
def reloadParties (d : Dev) (b : List Byte) : List Party := partiesOf d ((1, b) :: (d.img.run.drop 1).zipIdx.map (fun x => (x.2 + 2, x.1)))

/-- The check of a reload (R58): verification, steps 2 and 3 of R52, fixed sections. -/
def checkReload (d : Dev) (b : List Byte) : SetCheck :=
  let c := if stageParity d 1 then 0x04 else verifyImage d 1 false b
  if c ≠ 0 then setFails c
  else
    let r := checkParties (reloadParties d b) b
    if r.cause ≠ 0 then r else if fixedSame b (runImage d) then r else setFails 0x09

/-- A reload may begin (R58, R59): in Standby or Serve, with none in progress. -/
def reloadMay (d : Dev) : Bool := running d && d.img.reload.isNone && !d.img.run.isEmpty

/-- IMG_CMD.reload (R58): an accepted image waits for its application epoch; a refusal raises event 0x0808. -/
def reloadF (d : Dev) : Dev :=
  if !(reloadMay d) then imgNotNow 2 d
  else
    let b := stageImage d 1
    let r := checkReload d b
    if r.cause = 0 then setF IMG_STATUS_reload_busy 1 { d with img := { d.img with reload := some b, reloadAt := now16 d, reloadReady := false } }
    else imgEvent 0x0808 r.builds (imgCause r 2 d)

/-- IMG_RELOAD (R58). -/
def execImgReload (r : Req) (s : State) : Host.Outcome State Fault Refusal := s.upd (guardWrite r IMG_CMD reloadF)

/-- The reload applied (R59), at the first 1 ms epoch at least 1 µs after its verification: all live sections together; event 0x0807, and 0x0805 for a set that runs untested. A fatal fault before
the epoch discards it (R60). -/
def reloadApplyF (d : Dev) : Dev :=
  match d.img.reload with
  | none => d
  | some b =>
    let d0 := setF IMG_STATUS_reload_busy 0 { d with img := { d.img with reload := none, reloadReady := false } }
    if !d.flt.fatal.isEmpty || !(running d) then d0
    else if !d.img.reloadReady then d
    else
      let u := firstUntested (reloadParties d b)
      let d1 := putBuilds (applyLive { d0 with img := { d0.img with run := b :: d.img.run.drop 1 } })
      let d2 := imgEvent 0x0807 none (setB IMG_STATUS_untested u.isSome d1)
      match u with
      | some (_, x, y) => imgEvent 0x0805 (some (x, y)) d2
      | none => d2

/-- RELOAD_APPLY (R59). -/
def execReloadApply (s : State) : Host.Outcome State Fault Refusal := s.upd (fun d => doIf d.pwr.powered reloadApplyF d)

/-- The running flash slot confirmed (R56): IMG_LKG takes it, its attempts clear, event 0x0809. -/
def confirmSlot (d : Dev) : Dev :=
  let s := fld d IMG_STATUS_source
  let d1 := setAttempts s 0 { d with img := { d.img with lkgValid := true } }
  imgEvent 0x0809 none (forceBlock (setF IMG_STATUS_confirmed 1 (setF IMG_LKG_slot s d1)))

/-- A flash slot runs and is not yet confirmed (R56). -/
def confirmable (d : Dev) : Bool := decide (fld d IMG_STATUS_source < 2) && !(flag d IMG_STATUS_confirmed) && running d

/-- IMG_CMD.confirm (R56, R57): a set from the host, or none, is never confirmed: cause 0x0A with the source of what runs (log entry
50). -/
def confirmF (d : Dev) : Dev :=
  if confirmable d then confirmSlot d
  else if decide (fld d IMG_STATUS_source < 2) && running d then d
  else imgNotNow (fld d IMG_STATUS_source) d

/-- IMG_CONFIRM (R56). -/
def execImgConfirm (r : Req) (s : State) : Host.Outcome State Fault Refusal := s.upd (guardWrite r IMG_CMD confirmF)

/-- IMG_LKG_TIME has passed since Standby or Serve was entered (R56); 0 counts as 1. -/
def lkgWaited (d : Dev) : Bool := elapsed d.pwr.upAt (Nat.max 1 (fld d IMG_LKG_TIME_seconds) * sec16) d

/-- LKG_TIME_EXPIRY (R56): IMG_LKG_TIME seconds in Standby or Serve without a fatal fault. -/
def execLkgTimeExpiry (s : State) : Host.Outcome State Fault Refusal :=
  s.upd (fun d => doIf (d.pwr.powered && confirmable d && lkgWaited d && d.flt.fatal.isEmpty) confirmSlot d)

/-- IMG_CMD.clear_bad (R55): the mark of the named slot clears, and with it the attempts that made it. A slot code that names no slot
gets cause 0x0A (DESIGN CHOICE, log entry 123). -/
def clearBadF (slot : Nat) (d : Dev) : Dev :=
  match slot with
  | 0 => forceBlock (setAttempts 0 0 { d with img := { d.img with badA := false } })
  | 1 => forceBlock (setAttempts 1 0 { d with img := { d.img with badB := false } })
  | _ => imgNotNow 3 d

/-- IMG_CLEAR_BAD (R55). -/
def execImgClearBad (r : Req) (slot : Fin 4) (s : State) : Host.Outcome State Fault Refusal :=
  s.upd (guardWrite r IMG_CMD (clearBadF slot.val))

end Sys2Proof.Machine
end

