-- ==== Sys2Proof/Machine/Pmc.lean ====
section
/-! DEFINITION. Performance counters and the snapshot (R437 to R441 of spec/18_recorder_counters.md). A clock-driven signal is
counted by COUNTER_WRAP, whose operand is the count that the counter adds. -/

namespace Sys2Proof.Machine

open Sys2Proof

/-- The selectors of R437. -/
def knownSel (n : Nat) : Bool :=
  let b := n / 256
  let g := n % 256
  let upTo (k : Nat) : Bool := decide (1 ≤ g) && decide (g ≤ k)
  if b = 0x07 then upTo 4
  else if b = 0x09 ∨ b = 0x06 then upTo 2
  else if b = 0x05 then upTo 1
  else if 0x10 ≤ b ∧ b ≤ 0x17 then upTo 2
  else if b = 0x19 then upTo 6
  else if b = 0x1A then upTo 3
  else if b = 0x1C then upTo 10
  else false

/-- PMC_RESULT. -/
def pmcResult (cause : Nat) (d : Dev) : Dev := setF PMC_RESULT_cause cause d

/-- A write of PMC_GEN_CFG (R437): an unknown selector is refused with cause 0x01. -/
def genCfgF (r : Req) (n : Nat) (v : Word) (d : Dev) : Dev :=
  if !(knownSel (bitsOf v 0 16)) then pmcResult 1 d else pmcResult 0 (fieldWrite r (PMC_GEN_CFG n) v d)

/-- PMC_GEN_CFG_WRITE (R437). -/
def execPmcGenCfgWrite (r : Req) (n : Fin 64) (v : Word) (s : State) : Host.Outcome State Fault Refusal :=
  s.upd (guardWrite r (PMC_GEN_CFG n.val) (genCfgF r n.val v))

/-- The registers that only firmware at supervisor level writes (R439, R440): the privileged counters and PMC_USER_EN. -/
def privReg (a : Nat) : Bool :=
  a == PMC_USER_EN_LO || a == PMC_USER_EN_HI || (decide (0x060600 ≤ a) && decide (a < 0x060680))

/-- The register is the configuration of a privileged counter. -/
def privCfg (a : Nat) : Bool := decide (0x060600 ≤ a) && decide (a < 0x060680) && a % 16 == 0

/-- A write of a privileged register (R439, R440). -/
def privWriteF (r : Req) (user : Bool) (a : Nat) (v : Word) (d : Dev) : Dev :=
  if !(privReg a) then d
  else if r ≠ .fw ∨ user then pmcResult 2 d
  else if privCfg a && !(knownSel (bitsOf v 0 16)) then pmcResult 1 d
  else pmcResult 0 (fieldWrite r a v d)

/-- PMC_PRIV_WRITE (R439, R440): `user` says that the firmware runs at user level. -/
def execPmcPrivWrite (r : Req) (user : Bool) (a : BarAddr) (v : Word) (s : State) : Host.Outcome State Fault Refusal :=
  s.upd (guardWrite r a.toNat (privWriteF r user a.toNat v))

/-- A signal that a clock drives, or the execution of instructions, and that its domain's power lets count (R437); the model counts every
other signal where it happens. -/
def clockSignal (d : Dev) (sel : Nat) : Bool :=
  sel == 0x0701 || (decide (0x1C01 ≤ sel) && decide (sel ≤ 0x1C08)) || ((sel == 0x0702 || sel == 0x1906) && domOn d .pkt) ||
    (sel == 0x1A03 && domOn d .cry)

/-- Counts of a clock-driven signal reach counter `n` (R437 to R439): 0 to 63 general, 64 to 71 privileged. The upper counter of a chain
takes only carries, and a frozen or disabled counter nothing. -/
def counterAdd (n inc : Nat) (d : Dev) : Dev :=
  if !(domOn d .ctl) || flag d PMC_FREEZE_freeze then d
  else if n < 64 then
    doIf (genCounts d n (fld d (PMC_GEN_CFG_sel n)) && clockSignal d (fld d (PMC_GEN_CFG_sel n))) (fun x => pmcSup (genAdd n inc x)) d
  else
    doIf (flag d (PMC_PRIV_CFG_en (n - 64)) && clockSignal d (fld d (PMC_PRIV_CFG_sel (n - 64)))) (fun x => pmcSup (privAdd (n - 64) inc x)) d

/-- COUNTER_WRAP (R438, R439). -/
def execCounterWrap (n : Fin 72) (inc : Nat) (s : State) : Host.Outcome State Fault Refusal := s.upd (counterAdd n.val inc)

/-- The snapshot of R441 begins: sequence, time, and every counter that is copied on its cycle. -/
def snapGo (d : Dev) : Dev :=
  if flag d PMC_STATUS_busy then pmcResult 3 d
  else
    let d1 := wrN PMC_SNAP_DONE 0 (wr64 PMC_SNAP_TIME_LO (near d) (wrN PMC_SNAP_SEQ (rdN d PMC_SNAP_SEQ + 1)
      (setF PMC_STATUS_busy 1 (pmcResult 0 d))))
    let d2 := forEach (List.range 64) (fun n x => wr64 (PMC_GEN_SNAP_LO n) (rd64 x (PMC_GEN_LO n)) x) d1
    let d3 := forEach (List.range 8) (fun p x => wr64 (PMC_PRIV_SNAP_LO p) (rd64 x (PMC_PRIV_LO p)) x) d2
    let d4 := forEach (List.range 8) (fun b x =>
      doIf (regOn x (PORT_CNT b 0 0)) (fun y =>
        forEach [0, 1] (fun s z => forEach (List.range 32) (fun i w => wr (PORT_CNT_SNAP b s i) (rd w (PORT_CNT b s i)) w) z) y) x) d3
    let d5 := forEach (List.range 20) (fun i x => wr (DSG_CNT_SNAP i) (rd x (DSG_CNT i)) x) d4
    doIf (domOn d5 .pkt) (fun x => forEach (List.range 36) (fun i y => wr (SVC_CNT_SNAP i) (rd y (SVC_CNT i)) y) x) d5

/-- PMC_SNAP (R441). -/
def execPmcSnap (r : Req) (s : State) : Host.Outcome State Fault Refusal := s.upd (guardWrite r PMC_SNAP snapGo)

/-- The domain of a ledger of R441 is on: packet buffers and weir PD_PKT, credits PD_CRY, opportunities PD_AON, the others PD_CTL. -/
def ledgerOn (d : Dev) (l : Nat) : Bool :=
  match l with
  | 0 => domOn d .pkt
  | 1 => domOn d .cry
  | 5 => domOn d .pkt
  | _ => true

/-- The terms of a ledger copied at its quiescent cycle (R441). -/
def ledgerTerms (l : Nat) (d : Dev) : Dev :=
  match l with
  | 0 =>
    let d1 := forEach [(0, SVC_BUF_PIPE), (1, SVC_BUF_TX), (2, SVC_BUF_HOSTQ), (3, SVC_BUF_FREE), (12, DSG_BUF_RX)]
      (fun p x => wr (PMC_LED_BUF p.1) (rd x p.2) x) d
    forEach (List.range 8) (fun b x => wr (PMC_LED_BUF (4 + b)) (if regOn x (PORT_BUF_RX b) then rd x (PORT_BUF_RX b) else 0) x) d1
  | 1 => forEach ((List.range 7) ++ (List.range 7).map (fun i => 8 + i)) (fun w x => wr (KEY_CRD_SNAP w) (rd x (KEY_CRD_AES_FREE + 4 * w)) x) d
  | 2 => wr PMC_LED_PLCA (rd d DSG_TO_LEDGER) d
  | 3 =>
    let d1 := wr (CTL_TOK_SNAP 1) (rd d CTL_TOK_FENCED) (wr (CTL_TOK_SNAP 0) (rd d CTL_TOK_FREE) d)
    forEach (List.range 16) (fun ch x => wr (CTL_TOK_SNAP (2 + ch)) (rd x (CTL_TOK_CH ch)) x) d1
  | 4 => forEach (List.range 7) (fun t x => setF (EVQ_SLOT_SNAP_free t) (1024 - unread x t) (setF (EVQ_SLOT_SNAP_unread t) (unread x t) x)) d
  | _ => forEach (List.range 4) (fun i x => wr64 (PMC_LED_WEIR_HELD_LO + 8 * i) (rd64 x (SVC_WEIR_HELD_LO + 8 * i)) x) d

/-- A ledger of the running snapshot is copied, or marked off (R441); with the last of the six the snapshot is complete. -/
def ledgerCopyF (l : Nat) (d : Dev) : Dev :=
  let seen := fld d PMC_SNAP_DONE_done / 2 ^ l % 2 == 1 || fld d PMC_SNAP_DONE_off / 2 ^ l % 2 == 1
  if !(domOn d .ctl) || !(flag d PMC_STATUS_busy) || seen then d
  else
    let d1 := if ledgerOn d l then setF ⟨PMC_SNAP_DONE, l, 1⟩ 1 (ledgerTerms l d) else setF ⟨PMC_SNAP_DONE, 8 + l, 1⟩ 1 d
    doIf (fld d1 PMC_SNAP_DONE_done + fld d1 PMC_SNAP_DONE_off == 63)
      (fun x => raise 0x1C03 (rdN x PMC_SNAP_SEQ) (setF PMC_STATUS_busy 0 x)) d1

/-- LEDGER_COPY (R441). -/
def execLedgerCopy (l : Fin 6) (s : State) : Host.Outcome State Fault Refusal := s.upd (ledgerCopyF l.val)

end Sys2Proof.Machine
end

