-- ==== Sys2Proof/Machine/Ref.lean ====
section
/-! DEFINITION. The meanings of the REF commands of spec/06_references_holdover.md. A command that says that a time has run
out is the decision of that timer; the conditions that it rests on and that the state shows are checked here. -/

namespace Sys2Proof.Machine

open Sys2Proof

/-- REF_RESULT holds a cause. -/
def refResult (c : Nat) (d : Dev) : Dev := setF REF_RESULT_cause c d

/-- PD_TB, where REF lies, is on. -/
def refOn (d : Dev) : Bool := domOn d .tb

/-- A feed may address the slot (R138): host software feeds kind 0x6 only; firmware feeds the kinds that have no pin. -/
def feedAllowed (r : Req) (k : Nat) : Bool := if r = .fw then decide (4 ≤ k ∧ k ≤ 6) else k == 6

/-- A write of REF_FEED_E_HI (R138): the sample is committed, or discarded with cause 0x05. -/
def refFeedF (r : Req) (hi : Word) (d : Dev) : Dev :=
  let d1 := commit64 r REF_FEED_E_HI hi d
  let n := fld d1 REF_FEED_SEL_slot
  if feedAllowed r (slotKind d1 n) then
    refResult 0x00 (feedSample n (rdS64 d1 REF_FEED_E_LO) (fld d1 REF_FEED_U_u) (flag d1 REF_FEED_U_suspect)
      (flag d1 REF_FEED_U_invalid) d1)
  else refResult 0x05 d1

/-- REF_FEED (R138). -/
def execRefFeed (r : Req) (hi : Word) (s : State) : Host.Outcome State Fault Refusal :=
  s.upd (guardWrite r REF_FEED_E_HI (refFeedF r hi))

/-- Slot `n` had no signal for `ms` ms (R140): no edge of the conditioned pin, or no fed sample. The activity of a lane's recovered clock is the
command's word. -/
def slotQuiet (d : Dev) (n ms : Nat) : Bool :=
  let k := slotKind d n
  if k = 1 ∨ k = 2 then
    match cget (fun _ => none) d.meas.pinTick (slotSrc d n - 1) with
    | some t => decide (12500 * ms ≤ d.meas.tick - t)
    | none => true
  else if k = 3 then true
  else decide (ms ≤ resultAge d n)

/-- No pin activity or feed within the slot's timeout (R140; 0 is not tested): hard cause 0x1, decided on the next 1 ms epoch. -/
def slotSignalTimeoutF (n : Nat) (d : Dev) : Dev :=
  let x := rslot d n
  let lim := fld d (REF_SLOT_JWIN_timeout n)
  doIf (refOn d && decide (slotKind d n ≠ 0) && decide (lim ≠ 0) && slotQuiet d n lim) (setRslot n { x with hard := if x.hard = 0 then 1 else x.hard }) d

/-- SLOT_SIGNAL_TIMEOUT (R140). -/
def execSlotSignalTimeout (n : Fin 32) (s : State) : Host.Outcome State Fault Refusal := s.upd (slotSignalTimeoutF n.val)

/-- The Qualifying timer of slot `n` has reached the requalification time (R141). -/
def qualDone (d : Dev) (n : Nat) : Bool := slotState d n == 1 && decide (fld d REF_QUAL_qual_time * 1000 ≤ (rslot d n).qualMs)

/-- QUALIFY_TIMER_EXPIRY (R141): a Qualifying slot becomes Qualified. -/
def execQualifyTimerExpiry (n : Fin 32) (s : State) : Host.Outcome State Fault Refusal :=
  s.upd (fun d => doIf (refOn d && qualDone d n.val) (slotTo n.val 2 0) d)

/-- The cause of Suspect slot `n` has been absent for sus_clear seconds (R141). -/
def suspectDone (d : Dev) (n : Nat) : Bool :=
  slotState d n == 3 && decide ((rslot d n).causeMs + 1000 * fld d REF_QUAL_sus_clear ≤ d.ref.ms)

/-- SUSPECT_CLEAR_EXPIRY (R141): the Suspect slot returns to Qualified. -/
def execSuspectClearExpiry (n : Fin 32) (s : State) : Host.Outcome State Fault Refusal :=
  s.upd (fun d => doIf (refOn d && suspectDone d n.val) (slotTo n.val 2 0) d)

/-- SLOT_RESULT_TIMEOUT (R141): no result of a Qualified slot for ten result intervals: Suspect with cause 0xC. -/
def execSlotResultTimeout (n : Fin 32) (s : State) : Host.Outcome State Fault Refusal :=
  s.upd (fun d => doIf (refOn d && slotState d n.val == 2 && unmeasured d n.val) (slotTo n.val 3 0xC) d)

/-- The pair has disagreed on every result for REF_DISAGREE_TIME seconds (R146). -/
def apartDone (d : Dev) (a b : Nat) : Bool :=
  d.ref.apart.any (fun p => p.1 == min a b && p.2.1 == max a b && decide (p.2.2 + 1000 * fld d REF_DISAGREE_TIME_s ≤ d.ref.ms))

/-- Two slots of equal rank have disagreed for REF_DISAGREE_TIME (R146): both become Suspect with cause 0x8 (a slot that is Suspect already
takes the cause), event 0x2804, and the disagreement goes to arbitration (R147). -/
def disagreeExpiryF (a b : Nat) (d : Dev) : Dev :=
  if refOn d && pairApart d a b && apartDone d a b then
    let susp := fun (n : Nat) (x : Dev) => if slotState x n = 2 then slotTo n 3 0x8 x else setF (REF_SLOT_STATE_cause n) 0x8 x
    let d1 := raise 0x2804 (a + b * 256) (susp b (susp a d))
    let p : Disagree := { a := a, b := b, judged := false, held := false }
    let known := d1.ref.disagrees.any (fun q => q.a == a && q.b == b)
    if known then d1 else arbitrate p { d1 with ref := { d1.ref with disagrees := d1.ref.disagrees ++ [p] } }
  else d

/-- DISAGREE_TIME_EXPIRY (R146). -/
def execDisagreeTimeExpiry (a b : Fin 32) (s : State) : Host.Outcome State Fault Refusal :=
  s.upd (disagreeExpiryF a.val b.val)

/-- e_c was within the lock window with no slew left on every result for REF_LOCK.time seconds (R156). -/
def lockDone (d : Dev) : Bool :=
  match d.ref.good with
  | some m => decide (m + 1000 * fld d REF_LOCK_time ≤ d.ref.ms)
  | none => false

/-- The servo error has stayed within the lock window for REF_LOCK.time (R156): Acquire becomes Locked. -/
def execLockTimeExpiry (s : State) : Host.Outcome State Fault Refusal :=
  s.upd (fun d => doIf (refOn d && fld d REF_STATUS_servo == 1 && lockDone d) (servoTo 2) d)

/-- REF_CMD.switch (R145): a manual selection of a candidate entry, else cause 0x02. -/
def refSwitchF (e : Nat) (d : Dev) : Dev :=
  match (candidates d).find? (fun c => c.2.1 == e) with
  | some c => refResult 0x00 (setB REF_STATUS_manual true (setActive (some (c.2.1, c.2.2)) d))
  | none => refResult 0x02 d

/-- REF_SWITCH (R145). -/
def execRefSwitch (r : Req) (e : Fin 16) (s : State) : Host.Outcome State Fault Refusal :=
  s.upd (guardWrite r REF_CMD (refSwitchF e.val))

/-- REF_CMD.auto (R145): the manual selection ends. -/
def refAutoF (d : Dev) : Dev := refResult 0x00 (setB REF_STATUS_manual false d)

/-- REF_AUTO (R145). -/
def execRefAuto (r : Req) (s : State) : Host.Outcome State Fault Refusal := s.upd (guardWrite r REF_CMD refAutoF)

/-- REF_CMD.hold (R145): Holdover is forced whatever the candidates. -/
def refHoldF (d : Dev) : Dev := refResult 0x00 (setB REF_STATUS_forced_hold true d)

/-- REF_HOLD (R145). -/
def execRefHold (r : Req) (s : State) : Host.Outcome State Fault Refusal := s.upd (guardWrite r REF_CMD refHoldF)

/-- REF_CMD.release (R145): the forced Holdover ends; the servo is evaluated anew at the next epoch. -/
def refReleaseF (d : Dev) : Dev :=
  refResult 0x00 (setB REF_STATUS_forced_hold false
    (if flag d REF_STATUS_forced_hold then { d with ref := { d.ref with changed := true } } else d))

/-- REF_RELEASE (R145). -/
def execRefRelease (r : Req) (s : State) : Host.Outcome State Fault Refusal := s.upd (guardWrite r REF_CMD refReleaseF)

/-- The tick oscillator changed from `old` to `new` (R186): a PLL that follows it hops to N' where the nominal frequency
differs, else it runs on. -/
def tickHops (old new : Nat) (d : Dev) : Dev :=
  let f0 := fld d (SYN_OSC_FNOM_hz old)
  let f1 := fld d (SYN_OSC_FNOM_hz new)
  if f0 = f1 ∨ f1 = 0 then d
  else
    forEach (List.range 4) (fun p x =>
      let n := (2 * pllNow x p * f0 + f1) / (2 * f1)
      if fld x (SYN_PLL_CFG_ref p) = 0 then deviceHop p n x else x) d

/-- REF_CMD.tick_switch (R160): in Acquire or Locked only, to another present oscillator. The summary loses valid (R152) and
the running history interval is not clean. -/
def tickSwitchF (d : Dev) : Dev :=
  let n := fld d REF_TICK_SEL_next
  let st := fld d REF_STATUS_servo
  if (st == 1 || st == 2) && flag d (REF_OSC_CFG_present n) && n != fld d REF_TICK_SEL_current then
    refResult 0x00 (tickHops (fld d REF_TICK_SEL_current) n (setF REF_TICK_SEL_current n (setB REF_HOLD_SUM_CTL_valid false
      { d with ref := { d.ref with acc := { d.ref.acc with clean := false } } })))
  else refResult 0x03 d

/-- REF_TICK_SWITCH (R160). -/
def execRefTickSwitch (r : Req) (s : State) : Host.Outcome State Fault Refusal := s.upd (guardWrite r REF_CMD tickSwitchF)

/-- The interval of the history is over: the epochs since the last entry make up its seconds (R148). -/
def histDone (d : Dev) : Bool := decide (atLeast1 (fld d REF_HIST_CTL_interval) * 1000 ≤ d.ref.acc.n)

/-- HISTORY_ENTRY (R148): the interval ends and its entry is written. -/
def execHistoryEntry (s : State) : Host.Outcome State Fault Refusal :=
  s.upd (fun d => doIf (refOn d && histDone d) writeHistory d)

/-- A write of REF_ENS_TERM_HI commits term and rate for the next 1 ms epoch (R159). -/
def ensembleCommitF (r : Req) (hi : Word) (d : Dev) : Dev :=
  let d1 := commit64 r REF_ENS_TERM_HI hi d
  { d1 with ref := { d1.ref with ensPend := some (rdS64 d1 REF_ENS_TERM_LO, sx 32 (rdN d1 REF_ENS_RATE)), ensMs := some d1.ref.ms } }

/-- ENSEMBLE_TERM_COMMIT (R159). -/
def execEnsembleTermCommit (r : Req) (hi : Word) (s : State) : Host.Outcome State Fault Refusal :=
  s.upd (guardWrite r REF_ENS_TERM_HI (ensembleCommitF r hi))

/-- The ensemble term was due for a rewrite and has had none for REF_ENS_CTL.timeout seconds (R159). It is due from its first commit, or from
valid = 1, on, and the missed rewrite is reported once (log entry 138). -/
def ensLate (d : Dev) : Bool :=
  match d.ref.ensMs with
  | some m => decide (m + 1000 * fld d REF_ENS_CTL_timeout ≤ d.ref.ms)
  | none => flag d REF_ENS_CTL_valid

/-- No ensemble term for REF_ENS_CTL.timeout (R159): valid clears, the rate freezes at 0, event 0x280D. -/
def ensembleTimeoutF (d : Dev) : Dev :=
  if refOn d && ensLate d then
    raise 0x280D 0 (setB REF_ENS_CTL_valid false { d with ref := { d.ref with ensRate := 0, ensMs := none } })
  else d

/-- ENSEMBLE_TIMEOUT (R159). -/
def execEnsembleTimeout (s : State) : Host.Outcome State Fault Refusal := s.upd ensembleTimeoutF

/-- A write of REF_SERVO_BW (R154): clamped to 1 mHz to 10 Hz; the derived gains follow. -/
def servoBwF (r : Req) (v : Word) (d : Dev) : Dev :=
  let d1 := fieldWrite r REF_SERVO_BW v d
  refreshGains (setF REF_SERVO_BW_mhz (servoBw d1) d1)

/-- SERVO_BW_WRITE (R154). -/
def execServoBwWrite (r : Req) (d : Word) (s : State) : Host.Outcome State Fault Refusal :=
  s.upd (guardWrite r REF_SERVO_BW (servoBwF r d))

/-- A write of 1 to REF_HOLD_MODEL_CTL.valid commits f0, f1 and the time (R151). -/
def modelCommitF (d : Dev) : Dev :=
  setB REF_HOLD_MODEL_CTL_valid true
    { d with ref := { d.ref with model := some (rdS64 d REF_HOLD_MODEL_F0_LO, sx 32 (rdN d REF_HOLD_MODEL_F1), near d) } }

/-- HOLD_MODEL_COMMIT (R151). -/
def execHoldModelCommit (r : Req) (s : State) : Host.Outcome State Fault Refusal :=
  s.upd (guardWrite r REF_HOLD_MODEL_CTL modelCommitF)

/-- ESMC_TIMEOUT (R142): no ESMC PDU for 5 s; the quality of a SyncE slot becomes 0xF. -/
def execEsmcTimeout (n : Fin 32) (s : State) : Host.Outcome State Fault Refusal :=
  s.upd (fun d => doIf (refOn d && slotKind d n.val == 3 && decide ((rslot d n.val).esmcMs + 5000 ≤ d.ref.ms)) (setQl n.val 0xF) d)

end Sys2Proof.Machine
end

