-- ==== Sys2Proof/Machine/Syn.lean ====
section
/-! DEFINITION. The meanings of the SYN commands of spec/08_synthesis_outputs.md, but for the changes of a PLL's lock, which
reach ports and clock domains as well (Clocks.lean). -/

namespace Sys2Proof.Machine

open Sys2Proof

/-- The half of SYN that holds PLL `p` is on. -/
def pllOn (d : Dev) (p : Nat) : Bool := domOnN d (pllDom p)

/-- One PLL's band table written from the measured limits (R187): an Off PLL only. A PLL that OUTPUT_MODE starts then starts
(R205). -/
def sweepPll (p : Nat) (l : List (Nat × Nat)) (d : Dev) : Dev :=
  if pllOn d p && pllState d p == 0 then
    let d1 := forEach (List.range (min 128 l.length)) (fun b x =>
      let m := l.getD b (0, 0)
      wrN (SYN_BAND_MAX p b) (m.2 % 2 ^ 17) (wrN (SYN_BAND_MIN p b) (m.1 % 2 ^ 17 + 2 ^ 31) x)) d
    doIf (d.syn.autoLeft.contains p) (startPll p) d1
  else d

/-- SYN_CMD.sweep (R187) for each selected PLL. -/
def synSweepF (mask : Nat) (limits : List (List (Nat × Nat))) (d : Dev) : Dev :=
  forEach (List.range 4) (fun p x => doIf (mask / 2 ^ p % 2 == 1) (sweepPll p (limits.getD p [])) x) d

/-- SYN_SWEEP (R187): the measured limits are listed by PLL and band. -/
def execSynSweep (r : Req) (mask : BitVec 4) (limits : List (List (BitVec 17 × BitVec 17))) (s : State) :
    Host.Outcome State Fault Refusal :=
  s.upd (guardWrite r SYN_CMD (synSweepF mask.toNat (limits.map (fun l => l.map (fun m => (m.1.toNat, m.2.toNat))))))

/-- SYN_PLL_START (R192). -/
def execSynPllStart (r : Req) (p : Fin 4) (s : State) : Host.Outcome State Fault Refusal :=
  s.upd (guardWrite r (SYN_PLL_CMD p.val) (startPll p.val))

/-- SYN_PLL_CMD.stop (R192): Off. -/
def stopPll (p : Nat) (d : Dev) : Dev :=
  pllResult p 0x00 (offPll p { d with syn := { d.syn with autoLeft := d.syn.autoLeft.filter (fun x => x != p) } })

/-- SYN_PLL_STOP (R192). -/
def execSynPllStop (r : Req) (p : Fin 4) (s : State) : Host.Outcome State Fault Refusal :=
  s.upd (guardWrite r (SYN_PLL_CMD p.val) (stopPll p.val))

/-- SYN_PLL_CMD.hop (R193): a hop to the target of the registers. -/
def hopNow (p : Nat) (d : Dev) : Dev := hopPll p (pllN d p) d

/-- SYN_PLL_HOP (R193). -/
def execSynPllHop (r : Req) (p : Fin 4) (s : State) : Host.Outcome State Fault Refusal :=
  s.upd (guardWrite r (SYN_PLL_CMD p.val) (hopNow p.val))

/-- Every unpinned cache entry cleared (R189). -/
def flushHops (p : Nat) (d : Dev) : Dev :=
  forEach (List.range 32) (fun e x => doIf (!(flag x (SYN_HOP_CTL_pin p e))) (setF (SYN_HOP_CTL_valid p e) 0) x) d

/-- SYN_PLL_CMD.flush (R189). -/
def flushPll (p : Nat) (d : Dev) : Dev := pllResult p 0x00 (flushHops p d)

/-- SYN_PLL_FLUSH (R189). -/
def execSynPllFlush (r : Req) (p : Fin 4) (s : State) : Host.Outcome State Fault Refusal :=
  s.upd (guardWrite r (SYN_PLL_CMD p.val) (flushPll p.val))

/-- A band search ends (R188, R189): the entry is written and the PLL acquires, or after four retries it stays Off with cause
0x05, a contained fault and event 0x3004. -/
def bandSearchF (p : Nat) (codes : List Nat) (d : Dev) : Dev :=
  if !(pllOn d p) || pllState d p != 1 then d
  else
    let n := (spll d p).n
    match searchBands 5 ((chooseBand d p (vcoOf d p n)).getD 0) codes with
    | some r =>
      pllTo p 2 (setF (SYN_PLL_STATUS_band p) r.1 (wrN (SYN_PLL_TUNE p) r.2 (writeHop p n r.1 r.2 d)))
    | none => reportUnit (0x0B + p) 0x04 .contained 0x3004 p (raise 0x3004 p (pllResult p 0x05 (offPll p d)))

/-- BAND_SEARCH_COMPLETE (R188): the tune codes that the tries read, in turn. -/
def execBandSearchComplete (p : Fin 4) (codes : List (BitVec 16)) (s : State) : Host.Outcome State Fault Refusal :=
  s.upd (live (bandSearchF p.val (codes.map BitVec.toNat)))

/-- The reference of a PLL is back (R192): a Coasting one with edges in the window acquires from the stored tune code. -/
def pllReturnF (p : Nat) (d : Dev) : Dev :=
  doIf (pllOn d p) (fun x => doIf (pllState d p == 4) (pllTo p 2) (setF (SYN_PLL_STATUS_ref_lost p) 0 x)) d

/-- PLL_REFERENCE_RETURN (R192). -/
def execPllReferenceReturn (p : Fin 4) (s : State) : Host.Outcome State Fault Refusal := s.upd (live (pllReturnF p.val))

/-- The coasting tick passes 100 ppm (R24): a fatal fault of PLL_TICK. -/
def tickRangeF (d : Dev) : Dev :=
  doIf (domOn d .tb) (fatalReport 0x0F 0x04 0 0) d

/-- TICK_OUT_OF_RANGE (R24). -/
def execTickOutOfRange (s : State) : Host.Outcome State Fault Refusal := s.upd tickRangeF

/-- A parity error in a band entry (R187): the entry loses its validity, event 0x300B. -/
def bandParityF (p b : Nat) (d : Dev) : Dev :=
  let par := p + b * 256
  doIf (pllOn d p) (fun x =>
    reportUnit (0x0B + p) 0x01 .corrected 0x300B par (raise 0x300B par (setF (SYN_BAND_MIN_valid p b) 0 x))) d

/-- A parity error in a hop cache entry (R189): the entry is dropped. -/
def hopParityF (p e : Nat) (d : Dev) : Dev := doIf (pllOn d p) (setF (SYN_HOP_CTL_valid p e) 0) d

/-- BAND_ENTRY_PARITY (R187, R189): a band table entry, or an entry of the hop cache. -/
def execBandEntryParity (p : Fin 4) (e : PllCell) (s : State) : Host.Outcome State Fault Refusal :=
  s.upd (live (match e with | .band b => bandParityF p.val b.val | .hop h => hopParityF p.val h.val))

/-- A write of SYN_OUT_CFG (R194 to R196): refused with cause 0x07 above 1.6 GHz and with 0x09 where align is not possible;
else enable starts and stops the output, and a running one goes on. -/
def outCfgF (r : Req) (o : Nat) (v : Word) (d : Dev) : Dev :=
  let d1 := fieldWrite r (SYN_OUT_CFG o) v d
  let p := outPll d1 o
  let al := flag d1 (SYN_OUT_CFG_align o)
  if !(divOk d1 p (outDiv d1 o)) then pllResult p 0x07 d
  else if al && !(alignOk d1 p (outDiv d1 o)) then pllResult p 0x09 d
  else
    let d2 :=
      if !(flag d1 (SYN_OUT_CFG_enable o)) then outRun o false (setF (SYN_OUT_STATUS_squelched o) 0 d1)
      else if flag d1 (SYN_OUT_STATUS_running o) then outRun o true d1
      else if outMay d1 o then startOut o d1
      else setB (SYN_OUT_STATUS_squelched o) ((spll d1 p).coasted && squelches d1 o) d1
    pllResult p 0x00 (calRequest o d2)

/-- SYN_OUT_CFG_WRITE (R195). -/
def execSynOutCfgWrite (r : Req) (o : Fin 16) (d : Word) (s : State) : Host.Outcome State Fault Refusal :=
  s.upd (guardWrite r (SYN_OUT_CFG o.val) (outCfgF r o.val d))

/-- A write of SYN_PPS_PH_HI (R198, R200): period, width and phase are committed together and wait for a quiet epoch, or are
refused with cause 0x07. -/
def ppsCommitF (r : Req) (q : Nat) (hi : Word) (d : Dev) : Dev :=
  let d1 := commit64 r (SYN_PPS_PH_HI q) hi d
  let p := rd64 d1 (SYN_PPS_PER_LO q)
  let w := rdN d1 (SYN_PPS_WID q)
  let phi := rd64 d1 (SYN_PPS_PH_LO q)
  if ppsOk p w phi then
    pllResult (ppsPll q) 0x00 (setF (SYN_PPS_STATUS_pending q) 1 (setSpps q { spps d1 q with newSet := some (p, w, phi) } d1))
  else pllResult (ppsPll q) 0x07 (setHeld (SYN_PPS_PH_LO q) r none d)

/-- PPS_PHASE_COMMIT (R200). -/
def execPpsPhaseCommit (r : Req) (q : Fin 4) (hi : Word) (s : State) : Host.Outcome State Fault Refusal :=
  s.upd (guardWrite r (SYN_PPS_PH_HI q.val) (ppsCommitF r q.val hi))

/-- A write of SYN_PPS_CFG (R200): a change of enable waits for a quiet epoch and replaces one that waits. -/
def ppsEnableF (r : Req) (q : Nat) (v : Word) (d : Dev) : Dev :=
  let d1 := fieldWrite r (SYN_PPS_CFG q) v d
  let x := spps d1 q
  let en := flag d1 (SYN_PPS_CFG_enable q)
  let d2 := calRequest (16 + q) d1
  if en = x.en ∧ x.newEn.isNone then ppsRun q x.en d2
  else setF (SYN_PPS_STATUS_pending q) 1 (setSpps q { x with newEn := some en } (ppsRun q x.en d2))

/-- PPS_ENABLE_WRITE (R200). -/
def execPpsEnableWrite (r : Req) (q : Fin 4) (d : Word) (s : State) : Host.Outcome State Fault Refusal :=
  s.upd (guardWrite r (SYN_PPS_CFG q.val) (ppsEnableF r q.val d))

/-- A 1 ms epoch at which the output is quiet under the settings in force, or disabled (R200). -/
def ppsChangeF (q : Nat) (d : Dev) : Dev :=
  let x := spps d q
  doIf (domOnN d (if q < 2 then 4 else 5) && d.syn.msTick == some d.meas.tick && flag d (SYN_PPS_STATUS_pending q) && (!x.en || ppsQuietAt x (now16 d)))
    (ppsApply q) d

/-- PPS_CHANGE_APPLY (R200). -/
def execPpsChangeApply (q : Fin 4) (s : State) : Host.Outcome State Fault Refusal := s.upd (live (ppsChangeF q.val))

/-- The age of the last applied calibration of output `i` exceeds SYN_CAL_AGELIM (R202). -/
def calAgeF (i : Nat) (d : Dev) : Dev := doIf (decide (fld d SYN_CAL_AGELIM_s < fld d (calAge i))) (calInvalid 1 i) d

/-- CAL_AGE_EXPIRY (R202). -/
def execCalAgeExpiry (o : Fin 20) (s : State) : Host.Outcome State Fault Refusal := s.upd (live (calAgeF o.val))

/-- A realigning output has taken up all of δ (R197): no stretching is left and the fine delay stands at its target; event 0x300A. -/
def realignDoneF (o : Nat) (d : Dev) : Dev :=
  let x := sout d (outKey d o)
  doIf (flag d (SYN_OUT_STATUS_realigning o) && decide (x.left = 0) && decide (rdN d (outReg d SYN_OUT_DELAY o) = x.target))
    (fun y => raise 0x300A o (setF (SYN_OUT_STATUS_realigning o) 0 y)) d

/-- OUTPUT_REALIGN_DONE (R197). -/
def execOutputRealignDone (o : Fin 16) (s : State) : Host.Outcome State Fault Refusal := s.upd (live (realignDoneF o.val))

/-! ### Register writes of SYN that have a rule of their own -/

/-- A write of SYN_PLL_CFG (R185, R196): steer with a reference other than 0 is refused with cause 0x06, a setting with which an aligned output
could not stay aligned with 0x09, one that takes an output above 1.6 GHz with 0x07. -/
def pllCfgF (r : Req) (p : Nat) (v : Word) (d : Dev) : Dev :=
  let d1 := fieldWrite r (SYN_PLL_CFG p) v d
  if bitAt v 3 && decide (bitsOf v 0 3 ≠ 0) then pllResult p 0x06 d
  else
    match outsCause d1 p (vcoOf d1 p (pllNow d1 p)) with
    | some c => pllResult p c d
    | none => steerPll p d1

/-- Divider `v` may shape output `o`: the cause of R194 or R196 otherwise. -/
def divCause (d : Dev) (o v : Nat) : Option Nat :=
  let p := outPll d o
  if !(divOk d p v) then some 7 else if flag d (SYN_OUT_CFG_align o) && !(alignOk d p v) then some 9 else none

/-- A write of SYN_OUT_DIV, SYN_OUT_PHASE or SYN_OUT_DELAY (R194 to R196): a member of a group is refused with cause 0x08, a
divider above 1.6 GHz with 0x07, one that an aligned output cannot take with 0x09. A written delay is the new target. -/
def outShapeF (r : Req) (o a : Nat) (v : Word) (d : Dev) : Dev :=
  if sharedMode d then pllResult (outPll d o) 0x08 d
  else
    match if a = SYN_OUT_DIV o then divCause d o (bitsOf v 0 24) else none with
    | some c => pllResult (outPll d o) c d
    | none =>
      let d1 := fieldWrite r a v d
      doIf (a == SYN_OUT_DELAY o) (setSout o { sout d o with target := bitsOf v 0 14 }) d1

/-- A write of SYN_GRP_DIV (R194 to R196). -/
def grpDivF (r : Req) (g : Nat) (v : Word) (d : Dev) : Dev :=
  let members := (List.range 16).filter (fun o => sharedMode d && outGroup d o == g)
  if !(divOk d (g / 2) (bitsOf v 0 24)) then pllResult (g / 2) 0x07 d
  else
    match members.findSome? (fun o => divCause d o (bitsOf v 0 24)) with
    | some c => pllResult (g / 2) c d
    | none => fieldWrite r (SYN_GRP_DIV g) v d

end Sys2Proof.Machine
end

