-- ==== Sys2Proof/Machine/BusWrite.lean ====
section
/-! DEFINITION. Writing the register map: the effect that each command register and each register with a rule of its own has, block by
block; every other register takes its bits by their access codes (R5). Bits of one command register act in the order of their numbers.
What an operation meets outside the registers (a result of flash, of a self-test, of an image check) is a free value. -/

namespace Sys2Proof.Machine

open Sys2Proof

/-- `f` where bit `i` of the written word is 1. -/
def onBit (v : Word) (i : Nat) (f : Dev → Dev) (d : Dev) : Dev := doIf (bitAt v i) f d

/-! ### HIF -/

/-- HIF_MGMT_CTL (R62): once lock is set, rights can only be taken away until Boot. -/
def mgmtCtlF (v : Word) (d : Dev) : Dev :=
  let lock := flag d HIF_MGMT_CTL_lock
  let old := rdN d HIF_MGMT_CTL
  let keep := fun (i : Nat) => bitAt v i && (!lock || old / 2 ^ i % 2 == 1)
  setB HIF_MGMT_CTL_lock (lock || bitAt v 2) (setB HIF_MGMT_CTL_i2c_full (keep 1) (setB HIF_MGMT_CTL_spi_full (keep 0) d))

/-- HIF_ERR: `who` is 0 while no error bit is set (R78). -/
def hifErrW (r : Req) (v : Word) (d : Dev) : Dev :=
  let d1 := fieldWrite r HIF_ERR v d
  doIf (decide (bitsOf (rd d1 HIF_ERR) 0 5 = 0)) (setF HIF_ERR_who 0) d1

/-- HIF_BULK_CMD (R80, R84). -/
def bulkCmdF (r : Req) (c : Nat) (v : Word) (d : Dev) : Dev :=
  onBit v 3 (bulkReleaseOp c) (onBit v 2 (bulkAbortOp c) (onBit v 1 (bulkEraseOp r c) (onBit v 0 (bulkFlushOp c) d)))

/-- A register of a bulk channel (R79 to R84). -/
def bulkReg (r : Req) (c a : Nat) (v : Word) : Dev → Dev :=
  onChannel r c (fun d =>
    if a = HIF_BULK_SEL c then bulkSelOp r c v d
    else if a = HIF_BULK_CURSOR c then bulkCursorOp c v d
    else if a = HIF_BULK_CMD c then bulkCmdF r c v d
    else if a = HIF_BULK_DATA c then bulkPut r c v d
    else fieldWrite r a v d)

/-- HIF. -/
def writeHif (r : Req) (a : Nat) (v : Word) (d : Dev) : Dev :=
  if a = HIF_MGMT_CTL then mgmtCtlF v d
  else if a = HIF_ERR then hifErrW r v d
  else
    match bulkChan a with
    | some c => bulkReg r c a v d
    | none => fieldWrite r a v d

/-! ### IMG, PWR and FLT -/

/-- What a Boot meets, as free values of one draw: see BootObs. -/
def freeBoot (d : Dev) : BootObs :=
  { readErrs := (List.range 6).map (fun i => freeBits d i 1 == 1)
    sysLock := freeBits d 18 1 == 1
    tickLock := freeBits d 19 1 == 1
    sysHz := freeBits d 20 28
    seed := freeBits d 48 64
    hashKeys := if freeBits d 624 1 = 1 then some ((List.range 4).map (fun i => freeBits d (112 + 128 * i) 128)) else none
    pages := (List.range (freeBits d 625 12)).map (fun i =>
      (freeBits d (640 + 40 * i) 11, freeBits d (651 + 40 * i) 24, freeBits d (675 + 40 * i) 1 == 1)) }

/-- IMG_CMD (R51 to R56). -/
def imgCmdF (v : Word) (d : Dev) : Dev :=
  let load := fun (x : Dev) => loadHostF (freeBoot x) (draw x)
  onBit v 3 (clearBadF (bitsOf v 4 2)) (onBit v 2 confirmF (onBit v 1 reloadF (onBit v 0 load d)))

/-- IMG. -/
def writeImg (r : Req) (a : Nat) (v : Word) (d : Dev) : Dev :=
  if a = IMG_CMD then imgCmdF v d
  else if a = IMG_STAGE_LEN then fieldWrite r (bank IMG_STAGE_LEN (fld d IMG_STAGE_SEL_kind)) v d
  else fieldWrite r a v d

/-- PWR_REQ (R458): a code that names no state to request is not allowed; in Low water any write wakes (R464). -/
def pwrReqF (st : Nat) (d : Dev) : Dev :=
  if st = stLow ∨ st = stStandby ∨ st = stServe then pwrRequest st d
  else if devState d = stLow then wakeBy 0 d
  else reqRefuse 1 d

/-- PWR. The write of PWR_LW_EXIT_HI arms its target (R464). -/
def writePwr (r : Req) (a : Nat) (v : Word) (d : Dev) : Dev :=
  if a = PWR_REQ then pwrReqF (bitsOf v 0 3) d
  else if a = PWR_DOM_OFF then domOffF v d
  else if a = PWR_LW_EXIT_HI then
    let d1 := commit64 r a v d
    { d1 with pwr := { d1.pwr with exitArmed := true } }
  else if a = PWR_WAKE_EN then fieldWrite r a (v ||| 1) d
  else fieldWrite r a v d

/-- FLT. -/
def writeFlt (r : Req) (a : Nat) (v : Word) (d : Dev) : Dev :=
  if a = FLT_CMD then onBit v 8 (readmitF (bitsOf v 0 6)) d
  else if a = FLT_INJ_CMD then onBit v 1 injEnd (onBit v 0 (injGo r) d)
  else fieldWrite r a v d

/-! ### EVQ, LOG and PMC -/

/-- EVQ_MASK: +0x0 writes, +0x4 sets, +0x8 clears the masks of the sources that exist (R6, R388). -/
def maskWrite (a : Nat) (v : Word) (d : Dev) : Dev :=
  let b := maskBase a
  let ex := existWord ((b - 0x040200) / 16)
  wr b (if a % 16 = 4 then rd d b ||| (v &&& ex) else if a % 16 = 8 then rd d b &&& ~~~v else v &&& ex) d

/-- EVQ_PEND: a 1 drops the pending event of its source (R391). -/
def pendWrite (w : Nat) (v : Word) (d : Dev) : Dev :=
  { d with evq := { d.evq with pend := d.evq.pend.filter (fun e => !(e.src / 32 == w && bitAt v (e.src % 32))) } }

/-- EVQ. -/
def writeEvq (r : Req) (a : Nat) (v : Word) (d : Dev) : Dev :=
  if a = EVQ_HOLD then setF EVQ_HOLD_hold (bitsOf v 0 1) d
  else if a = EVQ_RETARGET then retargetWriteF v d
  else
    match idxOf a 0x040044 0x40 7, idxOf a 0x040040 0x40 7, idxOf a 0x041000 4 512, idxOf a 0x040A00 4 128 with
    | some t, _, _, _ => tgtRdWriteF t v.toNat d
    | _, some t, _, _ => setF ⟨EVQ_TGT_CTL t, 12, 1⟩ (bitsOf v 12 1) (setF ⟨EVQ_TGT_CTL t, 0, 10⟩ (min 1000 (bitsOf v 0 10)) d)
    | _, _, some i, _ => srcTgtWriteF i v d
    | _, _, _, some w => pendWrite w v d
    | _, _, _, _ => if 0x040200 ≤ a ∧ a < 0x040A00 then maskWrite a v d else fieldWrite r a v d

/-- LOG. The cursor and its control are the requester's own (R428). -/
def writeLog (r : Req) (a : Nat) (v : Word) (d : Dev) : Dev :=
  if a = LOG_CUR then logCurWriteF r v.toNat d
  else if a = LOG_RD_CTL then fieldWrite r (own LOG_RD_CTL (reqCode r)) v d
  else if a = LOG_ARCH_CMD then onBit v 1 (withFreeBit archiveFlushF) (onBit v 0 (withFreeBit stateBlock) d)
  else if a = LOG_LEAP_HI then leapSubmitF r v d
  else fieldWrite r (effAddr d a) v d

/-- PMC (R437 to R440). Firmware on the bus is taken as privileged. -/
def writePmc (r : Req) (a : Nat) (v : Word) (d : Dev) : Dev :=
  if a = PMC_SNAP then onBit v 0 snapGo d
  else if privReg a then privWriteF r false a v d
  else
    match idxOf a 0x060100 16 64 with
    | some n => genCfgF r n v d
    | none => fieldWrite r a v d

/-! ### TB, MEAS and REF -/

/-- TB_CMD (R92 to R98, R103). -/
def tbCmdF (v : Word) (d : Dev) : Dev :=
  onBit v 4 (tbReadmitF (bitsOf v 5 2)) (onBit v 3 cancelTb (onBit v 2 tbSlewF (onBit v 1 armSet (onBit v 0 tbStepF d))))

/-- TB. -/
def writeTb (r : Req) (a : Nat) (v : Word) (d : Dev) : Dev := if a = TB_CMD then tbCmdF v d else fieldWrite r a v d

/-- A write of MEAS_REQ_CFG: the class field as the expert view of spec/05_measurement.md allows, and the edges of enable (R128). -/
def reqCfgF (r : Req) (q : Nat) (v : Word) (d : Dev) : Dev :=
  let want := bitsOf v 2 3
  let cls := if r = .fw ∧ (want = 3 ∨ want = 7) then want else reqClass d q
  let w := putBits v 2 3 cls
  let was := reqCfg d q 0 1 == 1
  let put := fieldWrite r (bank MEAS_REQ_CFG q) w
  if bitAt v 0 then doIf (!was) (reqEnable q) (put d) else put (doIf was (reqDisable q) d)

/-- A register of the request that MEAS_REQ_SEL names: the host may write requests of class 7, firmware those of classes 3 and 7. -/
def reqWrite (r : Req) (a : Nat) (v : Word) (d : Dev) : Dev :=
  let q := fld d MEAS_REQ_SEL_index
  let may := decide (q < 96) && (reqClass d q == 7 || (r == .fw && reqClass d q == 3))
  doIf may (fun x => if a = MEAS_REQ_CFG then reqCfgF r q v x else fieldWrite r (bank a q) v x) d

/-- MEAS. -/
def writeMeas (r : Req) (a : Nat) (v : Word) (d : Dev) : Dev :=
  if a = MEAS_CAL_CMD then onBit v 1 skewAll (onBit v 0 (startInl true) d)
  else if MEAS_REQ_CFG ≤ a ∧ a ≤ MEAS_REQ_AGELIM then reqWrite r a v d
  else
    match idxOf a 0x091400 4 8 with
    | some p => reserveF r p v d
    | none => fieldWrite r (effAddr d a) v d

/-- REF_CTL (R155): steer modes 1 and 2 need a DAC on the tick oscillator. -/
def refCtlF (r : Req) (v : Word) (d : Dev) : Dev :=
  if (bitsOf v 0 2 = 1 ∨ bitsOf v 0 2 = 2) ∧ (tickDac d).isNone then refResult 0x04 d
  else refResult 0x00 (fieldWrite r REF_CTL v d)

/-- REF_CMD (R145, R146, R160). -/
def refCmdF (v : Word) (d : Dev) : Dev :=
  onBit v 8 tickSwitchF (onBit v 7 refReleaseF (onBit v 6 refHoldF (onBit v 5 refAutoF (onBit v 4 (refSwitchF (bitsOf v 0 4)) d))))

/-- The DAC that the steer mode in force drives (R155). -/
def steeredDac (d : Dev) (n : Nat) : Bool := decide (fld d REF_CTL_steer = 1 ∨ fld d REF_CTL_steer = 2) && tickDac d == some n

/-- REF_EFC_DIRECT (R155): firmware drives a DAC that no mode uses. -/
def efcDirectF (r : Req) (n : Nat) (v : Word) (d : Dev) : Dev :=
  if r ≠ .fw ∨ steeredDac d n then d
  else
    let d1 := fieldWrite r (REF_EFC_DIRECT n) v d
    doIf (bitAt v 31) (efcAt n (bitsOf v 0 24)) d1

/-- REF_SLOT_STATE: the client slow path, which is firmware, writes the SSM of a received ESMC PDU into ql (R142, R296). -/
def slotQlF (r : Req) (s : Nat) (v : Word) (d : Dev) : Dev :=
  if r = .fw ∧ slotKind d s = 3 then setQl s (bitsOf v 8 4) (setRslot s { rslot d s with esmcMs := d.ref.ms } d) else d

/-- REF_HIST_CTL (R148): a change of the interval restarts the ring. -/
def histCtlF (r : Req) (v : Word) (d : Dev) : Dev :=
  let old := rd d REF_HIST_CTL
  let d1 := fieldWrite r REF_HIST_CTL v d
  if bitsOf old 0 6 = bitsOf v 0 6 then d1
  else
    setF REF_HIST_PTR_newest 0 (setF REF_HIST_PTR_pointer 0 (setF REF_HIST_CLEAN_count 0
      { d1 with ref := { d1.ref with histN := 0, histBase := none, fit := none, lastClean := 0, histPtr := none,
                                     histMark := none, acc := histAccReset } }))

/-- REF. -/
def writeRef (r : Req) (a : Nat) (v : Word) (d : Dev) : Dev :=
  if a = REF_CMD then refCmdF v d
  else if a = REF_CTL then refCtlF r v d
  else if a = REF_SERVO_BW then servoBwF r v d
  else if a = REF_SERVO_KP ∨ a = REF_SERVO_KI then
    let d1 := fieldWrite r a v d
    if flag d1 REF_SERVO_KP_manual then d1 else refreshGains d1
  else if a = REF_SERVO_I_HI then
    let d1 := commit64 r a v d
    { d1 with ref := { d1.ref with iPend := some (rdS64 d1 REF_SERVO_I_LO) } }
  else if a = REF_ENS_TERM_HI then ensembleCommitF r v d
  else if a = REF_HOLD_MODEL_CTL then
    let d1 := fieldWrite r a v d
    if bitAt v 0 then modelCommitF d1 else { d1 with ref := { d1.ref with model := none } }
  else if a = REF_HOLD_UNC_A0 then
    let d1 := fieldWrite r a v d
    { d1 with ref := { d1.ref with a0Set := true } }
  else if a = REF_FEED_E_HI then refFeedF r v d
  else if a = REF_HIST_CTL then histCtlF r v d
  else
    match idxOf a 0x0A10A0 4 2, idxOf a 0x0A0104 0x40 32 with
    | some n, _ => efcDirectF r n v d
    | _, some s => slotQlF r s v d
    | _, _ => fieldWrite r (effAddr d a) v d

/-! ### SYN and GN -/

/-- The band limits that a sweep measures, as free values (R187). -/
def freeLimits (d : Dev) : List (List (Nat × Nat)) :=
  (List.range 4).map (fun p => (List.range 128).map (fun b =>
    (freeBits d (34 * (128 * p + b)) 17, freeBits d (34 * (128 * p + b) + 17) 17)))

/-- SYN_PLL_CMD (R190 to R193). -/
def pllCmdF (p : Nat) (v : Word) (d : Dev) : Dev :=
  onBit v 3 (flushPll p) (onBit v 2 (stopPll p) (onBit v 1 (startPll p) (onBit v 0 (hopNow p) d)))

/-- A register of output `o` (R194, R195). -/
def outReg1 (r : Req) (o a : Nat) (v : Word) (d : Dev) : Dev :=
  if a = SYN_OUT_CFG o then outCfgF r o v d
  else if a = SYN_OUT_DIV o ∨ a = SYN_OUT_DELAY o ∨ a = SYN_OUT_PHASE o then outShapeF r o a v d
  else fieldWrite r a v d

/-- SYN_CAL_PERIOD: the calibration requests follow the new period (R199). -/
def calPeriodF (r : Req) (v : Word) (d : Dev) : Dev :=
  forEach (List.range 20) (fun i x => calRequest i x) (fieldWrite r SYN_CAL_PERIOD v d)

/-- SYN. -/
def writeSyn (r : Req) (a : Nat) (v : Word) (d : Dev) : Dev :=
  if a = SYN_CMD then doIf (bitsOf v 0 4 != 0) (fun x => synSweepF (bitsOf v 0 4) (freeLimits x) (draw x)) d
  else if a = SYN_CAL_PERIOD then calPeriodF r v d
  else if 0x0C0300 ≤ a ∧ a < 0x0C0500 then outReg1 r ((a - 0x0C0300) / 0x20) a v d
  else if 0x0C1000 ≤ a ∧ a < 0x0C2000 then autoStart ((a - 0x0C1000) / 0x400) (fieldWrite r a v d)
  else
    match idxOf a 0x0C0110 0x20 4, idxOf a 0x0C0100 0x20 4, idxOf a 0x0C0500 4 8, idxOf a 0x0C0614 0x20 4, idxOf a 0x0C0600 0x20 4 with
    | some p, _, _, _, _ => pllCmdF p v d
    | _, some p, _, _, _ => pllCfgF r p v d
    | _, _, some g, _, _ => grpDivF r g v d
    | _, _, _, some q, _ => ppsCommitF r q v d
    | _, _, _, _, some q => ppsEnableF r q v d
    | _, _, _, _, _ => fieldWrite r a v d

/-- GN_SNAP_CMD (R211 to R213). -/
def snapCmdF (v : Word) (d : Dev) : Dev :=
  onBit v 2 (snapToFree 3) (onBit v 1 (snapToFree 1) (onBit v 0 snapCaptureF d))

/-- A register of channel `c` (R219 to R221). -/
def gnChReg (r : Req) (c a : Nat) (v : Word) (d : Dev) : Dev :=
  if a = GN_CH_CMD c then onBit v 1 (stopCh c) (onBit v 0 (startCh c) d)
  else if a = GN_CH_KRATE_HI c then ncoCommitF r c .krate v d
  else if a = GN_CH_CRATE_HI c then ncoCommitF r c .crate v d
  else if a = GN_CH_KADJ c then ncoCommitF r c .kadj v d
  else fieldWrite r a v d

/-- GN. The feed and the verdicts are firmware's (R225, R229). -/
def writeGn (r : Req) (a : Nat) (v : Word) (d : Dev) : Dev :=
  if a = GN_SNAP_CMD then snapCmdF v d
  else if a = GN_ACQ_CMD then onBit v 1 acqAbortF (onBit v 0 acqStartF d)
  else if a = GN_FEED_E_HI then fwOnly r (gnFeedHi r v) d
  else if a = GN_FEED_E_LO ∨ a = GN_FEED_U then fwOnly r (fieldWrite r a v) d
  else if a = GN_VERDICT then fwOnly r (verdictF r v) d
  else if a = GN_EPOCH_CTL then epochCtlF r v d
  else if a = GN_LW_OFS_LO ∨ a = GN_LW_OFS_HI ∨ a = GN_LW_UNC then lwResultF r a v d
  else if 0x0D2000 ≤ a ∧ a < 0x0D5000 then gnChReg r ((a - 0x0D2000) / 0x40) a v d
  else
    match idxOf a 0x0D0100 0x20 4 with
    | some n => streamCfgF r n v d
    | none => fieldWrite r (effAddr d a) v d

/-! ### PORT and DSG -/

/-- PORT_CMD (R236, R250). -/
def portCmdF (p : Nat) (v : Word) (d : Dev) : Dev :=
  onBit v 3 (portReadmit p) (onBit v 2 (portRestart p 1) (onBit v 1 (portRestart p 0) (onBit v 0 (portLatCal p) d)))

/-- PORT_CAL_PERIOD: the lane requests follow the new period (R252). -/
def portPeriodF (r : Req) (p : Nat) (v : Word) (d : Dev) : Dev :=
  let d1 := fieldWrite r (PORT_CAL_PERIOD p) v d
  forEach (portLanes d1 p) (fun j x => doIf (reqState x (laneReq (laneNo x p j) false) != 0) (postLane p j) x) d1

/-- PORT. -/
def writePort (r : Req) (a : Nat) (v : Word) (d : Dev) : Dev :=
  let p := a / 0x10000 - 0x10
  if a = PORT_CMD p then portCmdF p v d
  else if a = PORT_CAL_PERIOD p then portPeriodF r p v d
  else fieldWrite r a v d

/-- DSG_BCN_PERIOD (R261): 250 to 5,000 units of 80 ns that divide 12,500,000; another value is refused with cause 0x02. -/
def bcnPeriodF (r : Req) (v : Word) (d : Dev) : Dev :=
  let p := bitsOf v 0 13
  if 250 ≤ p ∧ p ≤ 5000 ∧ 12500000 % p = 0 then dsgCause 0 (fieldWrite r DSG_BCN_PERIOD v d) else dsgCause 2 d

/-- The queue registers of the selected entry (R266): accepted in state Free only, cause 0x03 otherwise. A write of the length starts
the frame again, each write of the data adds four bytes. -/
def dsgQReg (r : Req) (a : Nat) (v : Word) (d : Dev) : Dev :=
  let e := fld d DSG_Q_SEL_entry
  if a = DSG_Q_TGT_HI then queueEntry r v d
  else if qState d e ≠ 0 then dsgCause 3 d
  else if a = DSG_Q_DATA then
    modDsg (fun x => { x with data := cput (fun _ => []) x.data e ((cget (fun _ => []) x.data e ++ leBytes 4 v.toNat).take 1520) }) d
  else if a = DSG_Q_LEN then
    modDsg (fun x => { x with data := cput (fun _ => []) x.data e [] }) (fieldWrite r (bank a e) v d)
  else fieldWrite r (bank a e) v d

/-- DSG. -/
def writeDsg (r : Req) (a : Nat) (v : Word) (d : Dev) : Dev :=
  if a = DSG_CFG then dsgModeF v d
  else if a = DSG_BCN_PERIOD then bcnPeriodF r v d
  else if DSG_Q_LEN ≤ a ∧ a ≤ DSG_Q_TGT_HI then dsgQReg r a v d
  else fieldWrite r (effAddr d a) v d

/-! ### SVC -/

/-- SVC_RESULT. -/
def svcResult (cause : Nat) (d : Dev) : Dev := setF SVC_RESULT_cause cause d

/-- A signed value between bounds. -/
def logIn (n : Nat) (lo hi : Int) : Bool := decide (lo ≤ sx 8 n) && decide (sx 8 n ≤ hi)

/-- The profile table of R282 for a multicast instance: the configuration and rate words that an enabled instance may hold. -/
def mcOk (cfg rate : Word) : Bool :=
  let dom := bitsOf cfg 8 8
  let tr := bitsOf cfg 5 2
  let s := bitsOf rate 0 8
  let a := bitsOf rate 8 8
  let m := bitsOf rate 16 8
  match bitsOf cfg 16 3 with
  | 1 => decide (dom ≤ 127) && decide (tr ≤ 2) && logIn s (-7) 1 && logIn a (-3) 3 && logIn m (-7) 5
  | 2 => decide (dom ≤ 127) && decide (tr ≤ 2) && logIn s (-7) 1 && logIn a (-3) 3 && logIn m (-7) 5
  | 3 => decide (24 ≤ dom) && decide (dom ≤ 43) && decide (tr = 0) && logIn s (-4) (-4) && logIn a (-3) (-3) && logIn m (-4) (-4)
  | 5 => decide (dom ≤ 127) && decide (tr = 0) && bitAt cfg 7 && logIn s (-7) 0 && logIn a 0 3
  | _ => false

/-- The profile table of R282 for a unicast instance: negotiated unicast exists in profiles 1, 2 and 4. -/
def ucOk (cfg : Word) : Bool :=
  let dom := bitsOf cfg 8 8
  match bitsOf cfg 16 3 with
  | 1 => decide (dom ≤ 127)
  | 2 => decide (dom ≤ 127)
  | 4 => decide (44 ≤ dom) && decide (dom ≤ 63)
  | _ => false

/-- A write of SVC_MC_CFG or SVC_MC_RATE: refused with cause 0x01 where it would leave an enabled instance outside R282. -/
def mcWrite (r : Req) (i a : Nat) (v : Word) (d : Dev) : Dev :=
  let cfg := if a = SVC_MC_CFG i then v else rd d (SVC_MC_CFG i)
  let rate := if a = SVC_MC_CFG i then rd d (SVC_MC_RATE i) else v
  if bitAt cfg 0 && !(mcOk cfg rate) then svcResult 1 d else svcResult 0 (fieldWrite r a v d)

/-- A write of SVC_UC_CFG: cause 0x01 outside R282, cause 0x02 for another domain or profile while sessions exist. -/
def ucWrite (r : Req) (u : Nat) (v : Word) (d : Dev) : Dev :=
  let old := rd d (SVC_UC_CFG u)
  if bitAt v 0 && !(ucOk v) then svcResult 1 d
  else if fld d (SVC_UC_COUNT_sessions u) ≠ 0 ∧ bitsOf old 8 11 ≠ bitsOf v 8 11 then svcResult 2 d
  else svcResult 0 (fieldWrite r (SVC_UC_CFG u) v d)

/-- SVC_WEIR_NTP and SVC_WEIR_PTP (R303): a depth above 2,047 does not fit a bucket and is refused with cause 0x01. -/
def weirDepthF (r : Req) (a : Nat) (v : Word) (d : Dev) : Dev :=
  if 2047 < bitsOf v 16 16 then svcResult 1 d else svcResult 0 (fieldWrite r a v d)

/-- SVC. -/
def writeSvc (r : Req) (a : Nat) (v : Word) (d : Dev) : Dev :=
  if a = SVC_CTL then refreshServing (fieldWrite r a v d)
  else if a = SVC_WEIR_NTP ∨ a = SVC_WEIR_PTP then weirDepthF r a v d
  else
    match idxOf a 0x190400 0x20 32, idxOf a 0x190404 0x20 32, idxOf a 0x190800 0x20 16 with
    | some i, _, _ => mcWrite r i a v d
    | _, some i, _ => mcWrite r i a v d
    | _, _, some u => ucWrite r u v d
    | _, _, _ => fieldWrite r (effAddr d a) v d

/-! ### KEY, TWN and CTL -/

/-- KEY_CMD (R323, R329, R331): clear_opened is RWP, the other bits are not (R10). -/
def keyCmdF (r : Req) (v : Word) (d : Dev) : Dev :=
  let opened := fun (x : Dev) => if windowOpen x then keyClearOpenedF x else rwpRefuse r KEY_CMD x
  let d1 := onBit v 2 (keyEraseF (bitsOf v 3 2) (bitsOf v 5 10)) (onBit v 1 keyZeroizeF (onBit v 0 keyCloseF d))
  onBit v 16 opened d1

/-- KEY_FUSE_CMD (R335): RWP throughout. -/
def fuseCmdF (r : Req) (v : Word) (d : Dev) : Dev :=
  let s := bitsOf v 6 2
  if !(windowOpen d) then rwpRefuse r KEY_FUSE_CMD d
  else
    onBit v 4 (fuseStart 16 0) (onBit v 3 (fuseStart 8 0) (onBit v 2 programKekF (onBit v 1 (revokeHashF s) (onBit v 0 (programHashF s) d))))

/-- KEY_ENG_CMD (R317): the engine's self-test passes or fails as a free value. -/
def engCmdF (v : Word) (d : Dev) : Dev :=
  let e := if bitAt v 4 then 8 + bitsOf v 0 4 else bitsOf v 0 4
  let ok := bitAt v 4 || decide (bitsOf v 0 4 < 8)
  onBit v 5 (withFreeBit (fun pass x => doIf ok (engineReadmitF e pass) x)) d

/-- KEY. -/
def writeKey (r : Req) (a : Nat) (v : Word) (d : Dev) : Dev :=
  if a = KEY_CMD then keyCmdF r v d
  else if a = KEY_FUSE_CMD then fuseCmdF r v d
  else if a = KEY_DEBUG then (if windowOpen d then onBit v 0 debugUnlockF d else rwpRefuse r a d)
  else if a = KEY_ENG_CMD then engCmdF v d
  else if a = KEY_RNG_CTL then onBit v 0 rngReseedF d
  else if a = KEY_OSN_SEL then
    let d1 := fieldWrite r a v d
    { d1 with key := { d1.key with osnPos := 0 } }
  else fieldWrite r (effAddr d a) v d

/-- TWN_CTL: accepted only in Standby, otherwise cause 0x01. Setting en starts the training of the link (R340), as an Orphan where the
partner is absent (R347); clearing it leaves the
link down, the mirror Invalid and the chip Active alone (R340, R357, spec/14_twin_redundancy.md). -/
def twnCtlF (r : Req) (v : Word) (d : Dev) : Dev :=
  if devState d ≠ stStandby then twnResult 1 2 d
  else
    let was := twnEn d
    let d1 := fieldWrite r TWN_CTL v (twnResult 0 2 d)
    if twnEn d1 then doIf (!was) (fun x => linkTo 1 (doIf (!(flag x TWN_BUS_STATUS_partner_present)) (twinTo 2) x)) d1
    else
      doIf was (fun x => setF TWN_STATUS_mirror 0 (setF TWN_STATUS_state 0
        (modTwn (fun t => { t with mirroring := false, journal := [], retained := [], sweepPos := none }) (linkTo 0 x)))) d1

/-- TWN_CMD (R340, R346, R357). -/
def twnCmdF (v : Word) (d : Dev) : Dev :=
  onBit v 3 twnRetrain (onBit v 2 resync (onBit v 1 (twnYield false) (onBit v 0 (twnYield true) d)))

/-- TWN. -/
def writeTwn (r : Req) (a : Nat) (v : Word) (d : Dev) : Dev :=
  if a = TWN_CTL then twnCtlF r v d
  else if a = TWN_CMD then twnCmdF v d
  else if a = TWN_ASYM then twnAsym v d
  else if a = TWN_ALIGN_PERIOD then
    doIf (linkUp d) postMarkers (wrN a (max 10 (min 1000 (bitsOf v 0 16))) d)
  else if a = TWN_RETAIN then wrN a (max 1 (min 8 (bitsOf v 0 4))) d
  else fieldWrite r a v d

/-- CTL_WDOG_KICK on the bus (R370): a write of the key by firmware is taken as one of the core's own. -/
def kickF (r : Req) (c : Nat) (v : Word) (d : Dev) : Dev :=
  doIf (r == .fw && v == 0x0000C0DE#32) (kickCore c) d

/-- CTL_CORE_CMD (R368). -/
def coreCmdF (r : Req) (c : Nat) (v : Word) (d : Dev) : Dev :=
  onBit v 2 (coreReadmitOp r c) (onBit v 1 (coreHaltOp r c) (onBit v 0 (coreStartOp r c) d))

/-- CTL_DMA_CMD (R384). -/
def dmaCmdF (ch : Nat) (v : Word) (d : Dev) : Dev :=
  onBit v 3 (dmaAbortCmd ch) (onBit v 2 (dmaSkipOp ch) (onBit v 1 (dmaPauseOp ch) (onBit v 0 (dmaResumeOp ch) d)))

/-- CTL. -/
def writeCtl (r : Req) (a : Nat) (v : Word) (d : Dev) : Dev :=
  if a = CTL_LS_CTL then lockstepOp v d
  else if a = CTL_RELOAD_CMD then onBit v 0 pageReloadOp d
  else if a = CTL_TLB_INV then tlbInvOp v d
  else
    match idxOf a 0x1C0010 16 4, idxOf a 0x1C001C 16 4, idxOf a 0x1C101C 0x20 4 with
    | some c, _, _ => coreCmdF r c v d
    | _, some c, _ => kickF r c v d
    | _, _, some c => coreTimerWrite r c v d
    | _, _, _ =>
      match idxOf a 0x1C0200 0x40 16, idxOf a 0x1C0210 0x40 16, idxOf a 0x1C0218 0x40 16 with
      | some ch, _, _ => dmaCfgOp r ch v d
      | _, some ch, _ => dmaHeadOp ch v d
      | _, _, some ch => dmaCmdF ch v d
      | _, _, _ => fieldWrite r a v d

/-! ### The bus -/

/-- A write of a register that has passed the guards. A write to an unmapped offset is ignored (R9). -/
def regWrite (r : Req) (a : Nat) (v : Word) (d : Dev) : Dev :=
  if (rowOf (maskBase a)).isNone then d else
  match blockOf a with
  | 0x00 => writeHif r a v d
  | 0x01 => writeImg r a v d
  | 0x02 => writePwr r a v d
  | 0x03 => writeFlt r a v d
  | 0x04 => writeEvq r a v d
  | 0x05 => writeLog r a v d
  | 0x06 => writePmc r a v d
  | 0x08 => writeTb r a v d
  | 0x09 => writeMeas r a v d
  | 0x0A => writeRef r a v d
  | 0x0C => writeSyn r a v d
  | 0x0D => writeGn r a v d
  | 0x10 => writePort r a v d
  | 0x18 => writeDsg r a v d
  | 0x19 => writeSvc r a v d
  | 0x1A => writeKey r a v d
  | 0x1B => writeTwn r a v d
  | 0x1C => writeCtl r a v d
  | _ => fieldWrite r (effAddr d a) v d

/-- A write of the map by requester `r` at a word address (R23, R63, R69, R78). -/
def busWrite (r : Req) (a : Nat) (v : Word) (d : Dev) : Dev :=
  let b := busAddr (a / 4 * 4)
  if !(reaches d r) then d
  else if !(fullRights d r) && !(obsMayWrite d r b) then obsRefuse r b d
  else if !(regOn d (maskBase b)) then offAccess r b d
  else regWrite r b v d

end Sys2Proof.Machine
end

