-- ==== Sys2Proof/Machine/Bus.lean ====
section
/-! DEFINITION. The plain accesses to the register map (spec/00_scope.md, spec/03_host_interface.md): a write of a register, a read that
clears, the latch of a high word by the read of the low one, and the commit of a 64-bit register. -/

namespace Sys2Proof.Machine

open Sys2Proof

/-- A read of the map by requester `r` with the word it returns put out. -/
def readF (r : Req) (a : Nat) (d : Dev) : Dev :=
  let x := busRead r a d
  { x.2 with resp := [x.1] }

/-- REGISTER_WRITE (R5). -/
def execRegisterWrite (r : Req) (a : BarAddr) (v : Word) (s : State) : Host.Outcome State Fault Refusal :=
  s.upd (busWrite r a.toNat v)

/-- RC_READ (R5). -/
def execRcRead (r : Req) (a : BarAddr) (s : State) : Host.Outcome State Fault Refusal :=
  s.upd (fun d => doIf (reaches d r) (readF r a.toNat) d)

/-- LOW_WORD_LATCH_READ (R77). -/
def execLowWordLatchRead (r : Req) (a : BarAddr) (s : State) : Host.Outcome State Fault Refusal :=
  s.upd (fun d => doIf (reaches d r) (fun x => readF r a.toNat x) d)

/-- HIGH_WORD_COMMIT (R77). -/
def execHighWordCommit (r : Req) (a : BarAddr) (v : Word) (s : State) : Host.Outcome State Fault Refusal :=
  s.upd (fun d => busWrite r a.toNat v d)

end Sys2Proof.Machine
end

