-- ==== Sys2Proof/Machine/Dma.lean ====
section
/-! DEFINITION. One beat of the DMA unit (spec/15_control_complex.md, R378 to R385): activation, descriptor fetch, the choice of the
channel, translation of every page, the read into the beat buffer and the write. -/

namespace Sys2Proof.Machine

open Sys2Proof

/-! ### Words of the physical map -/

/-- A word that the DMA unit reads at a physical address (R366, R367, R377), or the cause of R382. Registers are read as by
requester 5. -/
def dmaGet (pa : Nat) (d : Dev) : Except Nat Word × Dev :=
  match physAt d pa with
  | .sram => (if ramBad d pa then .error 3 else .ok (ramWord d pa), d)
  | .rom => (.ok (Config.romWord (pa / 4 * 4)), d)
  | .regs => let x := busRead .fw (pa - 0x100000000) d; (.ok x.1, x.2)
  | .off => (.error 4, d)
  | .none => (.error 5, d)

/-- A word that the DMA unit writes at a physical address, or the cause of R382. -/
def dmaPut (pa : Nat) (v : Word) (d : Dev) : Option Nat × Dev :=
  match physAt d pa with
  | .sram => (none, setRam pa v d)
  | .regs => (none, busWrite .fw (pa - 0x100000000) v d)
  | .off => (some 4, d)
  | .rom => (some 5, d)
  | .none => (some 5, d)

/-- Words read one after the other at the addresses of `l` (virtual, physical), up to the first error: its cause and virtual address. -/
def dmaGets : List (Nat × Nat) → Dev → Except (Nat × Nat) (List Word) × Dev
  | [], d => (.ok [], d)
  | (va, pa) :: l, d =>
    match dmaGet pa d with
    | (.error c, d1) => (.error (c, va), d1)
    | (.ok w, d1) =>
      match dmaGets l d1 with
      | (.error e, d2) => (.error e, d2)
      | (.ok ws, d2) => (.ok (w :: ws), d2)

/-- Words written one after the other; what was written before an error stays written (R380). -/
def dmaPuts : List ((Nat × Nat) × Word) → Dev → Option (Nat × Nat) × Dev
  | [], d => (none, d)
  | (a, w) :: l, d =>
    match dmaPut a.2 w d with
    | (some c, d1) => (some (c, a.1), d1)
    | (none, d1) => dmaPuts l d1

/-! ### Fetching -/

/-- The words that a range of `n` bytes from `va` holds (virtual, physical), every page translated first; a fault is given with the
first address it meets (R380). -/
def dmaPages (ch va n : Nat) (acc : MemAcc) (d : Dev) : Except (Nat × Nat) (List (Nat × Nat)) × Dev :=
  let last := va + n - 4
  let r0 := dmaXlat ch va acc d
  match r0.1 with
  | .fault c _ => (.error (parkCause c, va), r0.2)
  | .ok p0 =>
    if last / 4096 = va / 4096 then (.ok ((List.range (n / 4)).map (fun i => (va + 4 * i, p0 + 4 * i))), r0.2)
    else
      let page := last / 4096 * 4096
      let r1 := dmaXlat ch page acc r0.2
      match r1.1 with
      | .fault c _ => (.error (parkCause c, page), r1.2)
      | .ok p1 =>
        (.ok ((List.range (n / 4)).map (fun i =>
          let a := va + 4 * i
          (a, if a < page then p0 + 4 * i else p1 + (a - page)))), r1.2)

/-- The descriptors that the ring holds beyond those fetched. -/
def dmaWaiting (d : Dev) (ch : Nat) : Nat :=
  (dmaHead d ch + ringLen d ch - dmaTail d ch) % ringLen d ch - (dch d ch).fetched.length

/-- One descriptor fetched on a token (R378, R385). A fault parks the channel only where it holds no descriptor to work on. -/
def dmaFetch (ch : Nat) (d : Dev) : Dev :=
  let x := dch d ch
  if dmaState d ch ≠ 1 ∨ 8 ≤ x.fetched.length ∨ dmaWaiting d ch = 0 ∨ fld d CTL_TOK_FREE_tokens = 0 then d
  else
    let a := rd64 d (CTL_DMA_RING_LO ch) % 2 ^ 48 / 32 * 32 + 32 * dmaNext d ch
    let park := fun (e : Nat × Nat) (y : Dev) => doIf x.fetched.isEmpty (dmaParkOp ch e.1 false true e.2) y
    match dmaPages ch a 32 .read d with
    | (.error e, d1) => park e d1
    | (.ok l, d1) =>
      match dmaGets l d1 with
      | (.error e, d2) => park e d2
      | (.ok ws, d2) => tokTake ch 1 (modDch ch (fun y => { y with fetched := y.fetched ++ [(dmaNext d ch, ws)] }) d2)

/-! ### The choice of the channel -/

/-- The oldest descriptor of a channel needs a crypto credit that it does not hold yet (R379). -/
def needsCredit (d : Dev) (ch : Nat) (ws : List Word) : Bool := (descSk ws == 2 || descDk ws == 2) && (dch d ch).credit.isNone

/-- The engine kind of a crypto job: SHA-256 or AES (R378). -/
def descSha (ws : List Word) : Bool := bitAt (ws.getD 6 0) 4

/-- The channel can move a beat: Active, with a descriptor that is not complete, and with a credit where it needs one. -/
def dmaReady (d : Dev) (ch : Nat) : Bool :=
  dmaState d ch == 1 && (dch d ch).bad.isNone &&
    match dmaFront d ch with
    | none => false
    | some (_, ws) => !(descOk ws) || (decide ((dch d ch).done < descLen ws) && (!(needsCredit d ch ws) || crdForFw d (descSha ws)))

/-- The channel that gets the next beat (R381): the highest priority that has work, round robin among equals. -/
def dmaPick (d : Dev) : Option Nat :=
  let prio := fun (c : Nat) => fld d (CTL_DMA_CFG_prio c)
  let l := (List.range 16).filter (dmaReady d)
  let top := l.foldl (fun m c => max m (prio c)) 0
  let first := cget (fun _ => 0) d.ctl.served top
  ((List.range 16).map (fun i => (first + i) % 16)).find? (fun c => l.contains c && prio c == top)

/-! ### The beat -/

/-- The descriptor in work ends in error (R378, R379): it waits to retire with result 3. -/
def dmaEnd (ch cause : Nat) (d : Dev) : Dev := modDch ch (fun x => { x with bad := some cause }) d

/-- Words read from the bulk data port of a channel that firmware owns, until the port reports err (R379, R80). -/
def bulkGets (c : Nat) : Nat → Dev → Option (List Word) × Dev
  | 0, d => (some [], d)
  | n + 1, d =>
    let x := bulkGet .fw c d
    if fld x.2 (HIF_BULK_STATUS_err c) ≠ 0 then (none, x.2)
    else
      match bulkGets c n x.2 with
      | (some ws, d2) => (some (x.1 :: ws), d2)
      | (none, d2) => (none, d2)

/-- Words written to the bulk data port of a channel that firmware owns, until the port reports err. -/
def bulkPuts (c : Nat) : List Word → Dev → Bool × Dev
  | [], d => (true, d)
  | w :: ws, d =>
    let d1 := bulkPut .fw c w d
    if fld d1 (HIF_BULK_STATUS_err c) ≠ 0 then (false, d1) else bulkPuts c ws d1

/-- The bulk channel that a descriptor names exists and firmware owns it (R379). -/
def bulkFw (d : Dev) (c : Nat) : Bool := decide (c < 8) && bulkOwner d c == reqCode .fw

/-- The words of a crypto job's result: the spec leaves the job to standards that it names, so each beat's result is a free value. -/
def jobWords (d : Dev) (n : Nat) : List Word := (List.range (n / 4)).map (fun i => BitVec.ofNat 32 (freeVal d / 2 ^ (32 * i)))

/-- A beat that has moved: the bytes count as done (R380, R382). -/
def beatDone (ch n : Nat) (d : Dev) : Dev := pmcAdd 0x1C0A 1 (modDch ch (fun x => { x with done := x.done + n }) d)

/-- The words of a beat put to memory at `l`, or the channel parked at the first that is refused. -/
def beatStore (ch n : Nat) (side memB : Bool) (l : List (Nat × Nat)) (ws : List Word) (d : Dev) : Dev :=
  match dmaPuts (l.zip ws) d with
  | (none, d1) => beatDone ch n d1
  | (some e, d1) => dmaParkOp ch e.1 side memB e.2 d1

/-- A beat of `n` bytes whose source is memory, both sides translated (R380). Destination kind 2 takes the words, and the job's result
goes back to the source (R379). -/
def beatFrom (ch n : Nat) (jobOk : Bool) (ws : List Word) (src : List (Nat × Nat)) (dst : List (Nat × Nat)) (d : Dev) : Dev :=
  match dmaGets src d with
  | (.error e, d1) => dmaParkOp ch e.1 false (memBoth d ch) e.2 d1
  | (.ok buf, d1) =>
    if descDk ws = 0 then beatStore ch n true true dst buf d1
    else if descDk ws = 1 then
      let c := descDst ws
      if !(bulkFw d1 c) then dmaEnd ch 8 d1
      else
        match bulkPuts c buf d1 with
        | (true, d2) => beatDone ch n d2
        | (false, d2) => dmaEnd ch 8 d2
    else if !jobOk then dmaParkOp ch 7 true false 0 d1
    else beatStore ch n false false src (jobWords d1 n) (draw d1)

/-- A beat of `n` bytes into memory at `dst` from a bulk data port or from a crypto job. -/
def beatInto (ch n : Nat) (jobOk : Bool) (ws : List Word) (dst : List (Nat × Nat)) (d : Dev) : Dev :=
  if descSk ws = 1 then
    let c := descSrc ws
    if !(bulkFw d c) then dmaEnd ch 8 d
    else
      match bulkGets c (n / 4) d with
      | (some buf, d1) => beatStore ch n true false dst buf d1
      | (none, d1) => dmaEnd ch 8 d1
  else if !jobOk then dmaParkOp ch 7 false false 0 d
  else beatStore ch n true false dst (jobWords d n) (draw d)

/-- The credit of a crypto job taken at its first beat (R379). -/
def takeCredit (ch : Nat) (ws : List Word) (d : Dev) : Dev :=
  if needsCredit d ch ws then crdMove (descSha ws) 0 5 1 (modDch ch (fun x => { x with credit := some (descSha ws) }) d) else d

/-- One beat of a channel (R380): at most 256 bytes, up to the next 256-byte boundary of the destination; every page of both sides is
translated before a byte moves. -/
def dmaBeatOf (ch : Nat) (jobOk : Bool) (ws : List Word) (d0 : Dev) : Dev :=
  if !(descOk ws) then dmaEnd ch 0xA d0
  else
    let d := takeCredit ch ws d0
    let done := (dch d ch).done
    let at0 := if descDk ws = 0 then descDst ws + done else done
    let n := min (256 - at0 % 256) (descLen ws - done)
    let park := fun (side : Bool) (e : Nat × Nat) (x : Dev) => dmaParkOp ch e.1 side (memBoth x ch) e.2 x
    if descSk ws = 0 then
      match dmaPages ch (descSrc ws + done) n .read d with
      | (.error e, d1) => park false e d1
      | (.ok src, d1) =>
        if descDk ws = 0 then
          match dmaPages ch (descDst ws + done) n .write d1 with
          | (.error e, d2) => park true e d2
          | (.ok dst, d2) => beatFrom ch n jobOk ws src dst d2
        else if descDk ws = 2 then
          match dmaPages ch (descSrc ws + done) n .write d1 with
          | (.error e, d2) => park false e d2
          | (.ok back, d2) => beatFrom ch n jobOk ws back [] d2
        else beatFrom ch n jobOk ws src [] d1
    else
      match dmaPages ch (descDst ws + done) n .write d with
      | (.error e, d1) => park true e d1
      | (.ok dst, d1) => beatInto ch n jobOk ws dst d1

/-- A beat boundary of the DMA unit (R381, R384, R385): channels with work become Active and fetch, and one moves a beat. -/
def dmaBeatF (jobOk : Bool) (d : Dev) : Dev :=
  if !(dmaOn d) then d
  else
    let chs := List.range 16
    let d1 := forEach chs (fun ch x => forEach (List.range 8) (fun _ y => dmaFetch ch y) (dmaActivate ch x)) d
    match dmaPick d1 with
    | none => d1
    | some ch =>
      let top := fld d1 (CTL_DMA_CFG_prio ch)
      let d2 := { d1 with ctl := { d1.ctl with served := cput (fun _ => 0) d1.ctl.served top ((ch + 1) % 16) } }
      match dmaFront d2 ch with
      | none => d2
      | some (_, ws) => dmaBeatOf ch jobOk ws d2

/-- DMA_BEAT (R380): `jobOk` says that the crypto job of the beat passed. -/
def execDmaBeat (jobOk : Bool) (s : State) : Host.Outcome State Fault Refusal := s.upd (dmaBeatF jobOk)

end Sys2Proof.Machine
end

