-- ==== Sys2Proof/Machine/Clocks.lean ====
section
/-! DEFINITION. Lock and loss of the synthesis PLLs (R190, R192) and the fall-back of the core and pipeline clocks to their ring clocks
(R25, R386). -/

namespace Sys2Proof.Machine

open Sys2Proof

/-- A PLL that acquires is declared Locked (R190, R192). The SerDes reference PLL brings up the quads it feeds and their ports
(R236, R452). -/
def pllLockF (p : Nat) (d : Dev) : Dev :=
  if !(pllOn d p) || pllState d p ≠ 2 then d
  else
    let d1 := lockPll p d
    if serdesPll d ≠ p then d1
    else refreshPreds (forEach (List.range 8) startPort (doIf (devState d1 != stBoot) settleDoms d1))

/-- PLL_LOCK (R190): the command says that 128 cycles in succession lay within the window. -/
def execPllLock (p : Fin 4) (s : State) : Host.Outcome State Fault Refusal := s.upd (live (pllLockF p.val))

/-- A Locked PLL loses lock or its reference and coasts (R25, R190); in any state but Off a lost reference is shown. -/
def pllLossF (p : Nat) (refLost : Bool) (d : Dev) : Dev :=
  if !(pllOn d p) || pllState d p = 0 then d
  else if pllState d p = 3 then refreshPreds (coastPll p refLost d)
  else doIf refLost (setF (SYN_PLL_STATUS_ref_lost p) 1) d

/-- PLL_LOCK_LOSS (R190): 64 cycles in succession lay outside the window. -/
def execPllLockLoss (p : Fin 4) (s : State) : Host.Outcome State Fault Refusal := s.upd (live (pllLossF p.val false))

/-- PLL_REFERENCE_LOSS (R190): no edge within four nominal periods. -/
def execPllReferenceLoss (p : Fin 4) (s : State) : Host.Outcome State Fault Refusal := s.upd (live (pllLossF p.val true))

/-- The domains of the core clock and of the pipeline clock (R24). -/
def clockDoms (pipeline : Bool) : List Nat := if pipeline then [7, 9] else [1, 6, 8]

/-- What pipeline `p` holds, in work or queued, is dropped and counted (R25). -/
def dropInFlight (p : Nat) (d : Dev) : Dev :=
  forEach (pipeQ d p) (fun x y => svcCnt 24 1 (match x.msg with | .rx f => rxFree f y | _ => y)) (setWait p none (setPipeQ p [] d))

/-- The beat in flight is abandoned and its channel parks with cause 0x6 (R386). -/
def dropBeat (d : Dev) : Dev :=
  match dmaPick d with
  | some ch => dmaParkOp ch 6 false (memBoth d ch) 0 d
  | none => d

/-- A clock beyond 100 ppm (R25): its domains go to their ring clocks, work in flight is fenced, and PLL_SYS reports a contained
fault. -/
def fallBackF (pipeline : Bool) (d : Dev) : Dev :=
  let doms := clockDoms pipeline
  if !(domOn d .ctl) || doms.any (fun n => d.pwr.ringDoms.contains n) then d
  else
    let d1 := refreshRing { d with pwr := { d.pwr with ringDoms := d.pwr.ringDoms ++ doms } }
    let d2 := if pipeline then doIf (domOn d .pkt) (forEach (List.range 4) dropInFlight) d1
      else setF CTL_STATUS_ring_clock 1 (doIf (dmaOn d) dropBeat d1)
    reportUnit 0x10 0x04 .contained 0 0 d2

/-- PLL_CLOCK_FALLBACK (R25): the core clock or the pipeline clock passes 100 ppm. -/
def execPllClockFallback (pipeline : Bool) (s : State) : Host.Outcome State Fault Refusal := s.upd (fallBackF pipeline)

/-- The domains return to their PLL clock (R25). -/
def clockReturnF (pipeline : Bool) (d : Dev) : Dev :=
  let doms := clockDoms pipeline
  if !(doms.any (fun n => d.pwr.ringDoms.contains n)) then d
  else
    let d1 := { d with pwr := { d.pwr with ringDoms := d.pwr.ringDoms.filter (fun n => !(doms.contains n)) } }
    refreshRing (doIf (!pipeline) (setF CTL_STATUS_ring_clock 0) d1)

/-- PLL_CLOCK_RETURN (R25): PLL_SYS has been locked again for 1 ms. -/
def execPllClockReturn (pipeline : Bool) (s : State) : Host.Outcome State Fault Refusal :=
  s.upd (fun d => doIf (domOn d .ctl) (clockReturnF pipeline) d)

end Sys2Proof.Machine
end

