-- ==== Sys2Proof/Machine/Hif.lean ====
section
/-! DEFINITION. The physical interfaces of HIF (spec/03_host_interface.md): SPI and I2C frames, PCIe requests, the state of the PCIe
endpoint, the rights of the management targets, and the commands of the bulk window. -/

namespace Sys2Proof.Machine

open Sys2Proof

/-! ### Bursts -/

/-- `n` words read from consecutive addresses (R68, R72, R73), each a separate access, with the device after them. -/
def burstRead (r : Req) : Nat → BarAddr → Dev → List Word × Dev
  | 0, _, d => ([], d)
  | n + 1, a, d =>
    let x := busRead r a.toNat d
    let y := burstRead r n (a + 4) x.2
    (x.1 :: y.1, y.2)

/-- Words written to consecutive addresses, each a separate access. -/
def burstWrite (r : Req) : List Word → BarAddr → Dev → Dev
  | [], _, d => d
  | w :: ws, a, d => burstWrite r ws (a + 4) (busWrite r a.toNat w d)

/-- A partial word at the end of a frame is discarded (R72, R73). -/
def cutWord (r : Req) (cut : Bool) (d : Dev) : Dev := doIf (cut && d.pwr.powered) (hifErr HIF_ERR_partial r) d

/-- The empty bulk data port that an address reads, as its owner sees it (R71, R73, R80). -/
def emptyPort (d : Dev) (r : Req) (a : Nat) : Bool :=
  (List.range 8).any (fun c =>
    busAddr (a / 4 * 4) == HIF_BULK_DATA c && domOn d .ctl && bulkOwner d c == reqCode r && bulkAvail d c == 0)

/-- The status byte of an SPI read (R71): it reports on the first word. A read is never refused under R63. -/
def spiStatusOf (d : Dev) (a : Nat) : Nat :=
  if !(regOn d (maskBase (busAddr (a / 4 * 4)))) then 2 else if emptyPort d .spi a then 8 else 1

/-- An SPI read frame of `n` words (R70 to R72). -/
def spiReadF (a : BarAddr) (n : Nat) (d : Dev) : Dev :=
  if !(d.pwr.powered) then d
  else
    let x := burstRead .spi n a d
    { x.2 with resp := x.1, spiStatus := spiStatusOf d a.toNat }

/-- SPI_READ (R70). -/
def execSpiRead (a : BarAddr) (n : Nat) (s : State) : Host.Outcome State Fault Refusal := s.upd (live (spiReadF a n))

/-- SPI_WRITE (R70, R72). -/
def execSpiWrite (a : BarAddr) (ws : List Word) (cut : Bool) (s : State) : Host.Outcome State Fault Refusal :=
  s.upd (live (fun d => cutWord .spi cut (burstWrite .spi ws a d)))

/-- SPI_QUAD_READ (R70): the same over four lines. -/
def execSpiQuadRead (a : BarAddr) (n : Nat) (s : State) : Host.Outcome State Fault Refusal := s.upd (live (fun d => spiReadF a n d))

/-- SPI_QUAD_WRITE (R70): the same over four lines. -/
def execSpiQuadWrite (a : BarAddr) (ws : List Word) (cut : Bool) (s : State) : Host.Outcome State Fault Refusal :=
  s.upd (live (fun d => let x := burstWrite .spi ws a d; cutWord .spi cut x))

/-- The 7-bit I2C address that the chip answers (R73). -/
def i2cAddress (d : Dev) : BitVec 7 := if d.pwr.straps.i2cA0 then 0x5D else 0x5C

/-- I2C_WRITE_TRANSFER (R73). -/
def execI2cWriteTransfer (adr : BitVec 7) (a : BarAddr) (ws : List Word) (cut : Bool) (s : State) :
    Host.Outcome State Fault Refusal :=
  s.upd (fun d => if d.pwr.powered && adr == i2cAddress d then cutWord .i2c cut (burstWrite .i2c ws a d) else d)

/-- `n` words read over I2C (R73): a bulk data port that stays empty gives 0 and sets HIF_ERR.bulk, whatever the read does to err (R80). -/
def i2cRead : Nat → BarAddr → Dev → List Word × Dev
  | 0, _, d => ([], d)
  | n + 1, a, d =>
    let x := busRead .i2c a.toNat d
    let y := i2cRead n (a + 4) (doIf (emptyPort d .i2c a.toNat) (hifErr HIF_ERR_bulk .i2c) x.2)
    (x.1 :: y.1, y.2)

/-- I2C_READ_TRANSFER (R73). -/
def execI2cReadTransfer (adr : BitVec 7) (a : BarAddr) (n : Nat) (s : State) : Host.Outcome State Fault Refusal :=
  s.upd (fun d =>
    if d.pwr.powered && adr == i2cAddress d then
      let x := i2cRead n a d
      { x.2 with resp := x.1 }
    else d)

/-- The words of a PCIe memory write (R68): one without all four byte enables is discarded and sets HIF_ERR.partial. -/
def pcieWords (r : Req) : List (Word × BitVec 4) → BarAddr → Dev → Dev
  | [], _, d => d
  | (w, be) :: ws, a, d =>
    pcieWords r ws (a + 4) (if be = 0xF#4 then busWrite r a.toNat w d else doIf (reaches d r) (hifErr HIF_ERR_partial r) d)

/-- PCIE_MEMORY_WRITE (R68). -/
def execPcieMemoryWrite (f : Pf) (a : BarAddr) (ws : List (Word × BitVec 4)) (s : State) : Host.Outcome State Fault Refusal :=
  s.upd (live (pcieWords (pfReq f) ws a))

/-- PCIE_MEMORY_READ (R68): not seen while the endpoint is in reset or the link is down (R69). -/
def execPcieMemoryRead (f : Pf) (a : BarAddr) (n : Nat) (s : State) : Host.Outcome State Fault Refusal :=
  s.upd (fun d =>
    if reaches d (pfReq f) then
      let x := burstRead (pfReq f) n a d
      { x.2 with resp := x.1 }
    else d)

/-! ### The PCIe endpoint -/

/-- The link debug fields take values that the spec does not state: free values. -/
def linkDebug (d : Dev) : Dev := setF HIF_LINK_DBG_ltssm (freeBits d 0 6) (setF HIF_LINK_DBG_eq_phase (freeBits d 6 4) (draw d))

/-- PERST_N goes low (R69): the endpoint core is reset, channels of PF0 and PF1 are released, event 0x0407. -/
def perstLow (d : Dev) : Dev :=
  if flag d HIF_STATUS_perst then d
  else raise 0x0407 0 (setF HIF_STATUS_perst 1 (doIf (domOn d .ctl) endpointReset d))

/-- PERST_N_ASSERT (R69). -/
def execPerstNAssert (s : State) : Host.Outcome State Fault Refusal := s.upd (fun d => doIf d.pwr.powered perstLow d)

/-- PERST_N rises (R489); in Low water it is a wake source (R464). -/
def perstHigh (d : Dev) : Dev := doIf (flag d HIF_STATUS_perst) (fun x => wakeBy 1 (setF HIF_STATUS_perst 0 x)) d

/-- PERST_N_RELEASE (R489). -/
def execPerstNRelease (s : State) : Host.Outcome State Fault Refusal := s.upd (fun d => doIf d.pwr.powered perstHigh d)

/-- The link reaches L0 (R489): HIF_STATUS reports it, event 0x0406, and WAKE_N of R464 is released. -/
def linkUpF (speed width : Nat) (d : Dev) : Dev :=
  if !(domOn d .ctl) || flag d HIF_STATUS_perst || flag d HIF_STATUS_link_up || unitOut d 0x3E then d
  else
    let d1 := setF HIF_STATUS_link_up 1 (setF HIF_STATUS_speed speed (setF HIF_STATUS_width width (linkDebug d)))
    raise 0x0406 0 { d1 with hif := { d1.hif with wakeHost := false } }

/-- PCIE_LINK_UP (R489). -/
def execPcieLinkUp (speed width : Fin 5) (s : State) : Host.Outcome State Fault Refusal := s.upd (linkUpF speed.val width.val)

/-- The link goes down without PERST_N (R69): no channel is released; event 0x0405. -/
def linkDownF (d : Dev) : Dev :=
  doIf (flag d HIF_STATUS_link_up)
    (fun x => raise 0x0405 0 (setF HIF_STATUS_link_up 0 (setF HIF_STATUS_speed 0 (setF HIF_STATUS_width 0 (linkDebug x))))) d

/-- PCIE_LINK_DOWN (R69). -/
def execPcieLinkDown (s : State) : Host.Outcome State Fault Refusal := s.upd (live linkDownF)

/-- The number of a function. -/
def pfIdx (f : Pf) : Nat := match f with | .pf0 => 0 | .pf1 => 1

/-- A held message is sent once nothing holds it (R67, R397). -/
def sendHeld (i : Nat) (d : Dev) : Dev := doIf ((pcieFn d i).pba && fnMaySend d i) (notifyPf i) d

/-- MSIX_SEND (R67). -/
def execMsixSend (f : Pf) (s : State) : Host.Outcome State Fault Refusal :=
  s.upd (fun d => doIf (domOn d .ctl) (sendHeld (pfIdx f)) d)

/-- The words of a function's configuration header that R66 states: Vendor and Device ID, the command word with Bus Master Enable, Revision ID
and class code, BAR0 to BAR3 (64-bit, non-prefetchable), Interrupt Pin. -/
def cfgWord (d : Dev) (f : Pf) (off : Nat) : Option Nat :=
  let x := pcieFn d (pfIdx f)
  match off with
  | 0x00 => some (0x1F4B + (0x8820 + pfIdx f) * 2 ^ 16)
  | 0x04 => some (b2n x.bme * 4)
  | 0x08 => some (0xB0 + 0x118000 * 2 ^ 8)
  | 0x10 => some (x.bar0 % 2 ^ 32 + 4)
  | 0x14 => some (x.bar0 / 2 ^ 32)
  | 0x18 => some (x.bar2 % 2 ^ 32 + 4)
  | 0x1C => some (x.bar2 / 2 ^ 32)
  | 0x3C => some 0
  | _ => none

/-- The words of BAR2/3 (R66): the one entry of the MSI-X table at 0x0000, the PBA at 0x2000. -/
def bar2Word (d : Dev) (f : Pf) (off : Nat) : Nat :=
  let x := pcieFn d (pfIdx f)
  match off with
  | 0x0000 => x.msgAddr % 2 ^ 32
  | 0x0004 => x.msgAddr / 2 ^ 32
  | 0x0008 => x.msgData.toNat
  | 0x000C => b2n x.vmask
  | 0x2000 => b2n x.pba
  | _ => 0

/-- A configuration write by the host, or one of the MSI-X table (R65 to R67, R397). -/
def configF (f : Pf) (w : CfgWrite) (d : Dev) : Dev :=
  let i := pfIdx f
  let x := pcieFn d i
  match w with
  | .d3 on => setF (match f with | .pf0 => HIF_STATUS_pf0_d | .pf1 => HIF_STATUS_pf1_d) (if on then 3 else 0) d
  | .busMaster on => setPcieFn i { x with bme := on } d
  | .msixEnable on => setPcieFn i { x with msixEn := on } d
  | .functionMask on => setPcieFn i { x with fmask := on } d
  | .vectorMask on => setPcieFn i { x with vmask := on } d
  | .pmeEn on => setPcieFn i { x with pmeEn := on } d
  | .maxPayload m => setPcieFn i { x with mps256 := m } d
  | .aspm l1 l11 l12 => setPcieFn i { x with aspm := b2n l1 + 2 * b2n l11 + 4 * b2n l12 } d
  | .aerClear u c => setPcieFn i { x with aerUnc := x.aerUnc &&& ~~~u, aerCor := x.aerCor &&& ~~~c } d
  | .bar0 v => setPcieFn i { x with bar0 := v.toNat / 0x4000000 * 0x4000000 } d
  | .bar2 v => setPcieFn i { x with bar2 := v.toNat / 0x4000 * 0x4000 } d
  | .msixEntry a w => setPcieFn i { x with msgAddr := a.toNat / 4 * 4, msgData := w } d

/-- PCIE_CONFIG_WRITE (R397): it reaches the function over a link that is up. -/
def execPcieConfigWrite (f : Pf) (w : CfgWrite) (s : State) : Host.Outcome State Fault Refusal :=
  s.upd (fun d => doIf (reaches d (pfReq f)) (configF f w) d)

/-! ### Rights and bulk channels -/

/-- HIF_MGMT_LOCK (R75): a write of HIF_MGMT_CTL. -/
def execHifMgmtLock (r : Req) (v : Word) (s : State) : Host.Outcome State Fault Refusal :=
  s.upd (guardWrite r HIF_MGMT_CTL (mgmtCtlF v))

/-- A write of a register of a bulk channel under the guards of R63, R69, R78 and R79. -/
def onBulk (r : Req) (c a : Nat) (f : Dev → Dev) : Dev → Dev := guardWrite r a (onChannel r c f)

/-- BULK_SEL_WRITE (R79). -/
def execBulkSelWrite (r : Req) (c : Fin 8) (v : Word) (s : State) : Host.Outcome State Fault Refusal :=
  s.upd (onBulk r c.val (HIF_BULK_SEL c.val) (bulkSelOp r c.val v))

/-- A read of a bulk data port (R80). -/
def bulkReadF (r : Req) (c : Nat) (d : Dev) : Dev :=
  if !(reaches d r) then d
  else
    let x := busRead r (HIF_BULK_DATA c) d
    { x.2 with resp := [x.1] }

/-- BULK_DATA_READ (R80). -/
def execBulkDataRead (r : Req) (c : Fin 8) (s : State) : Host.Outcome State Fault Refusal := s.upd (bulkReadF r c.val)

/-- BULK_DATA_WRITE (R80). -/
def execBulkDataWrite (r : Req) (c : Fin 8) (v : Word) (s : State) : Host.Outcome State Fault Refusal :=
  s.upd (onBulk r c.val (HIF_BULK_DATA c.val) (bulkPut r c.val v))

/-- BULK_CURSOR_WRITE (R80). -/
def execBulkCursorWrite (r : Req) (c : Fin 8) (v : Word) (s : State) : Host.Outcome State Fault Refusal :=
  s.upd (onBulk r c.val (HIF_BULK_CURSOR c.val) (bulkCursorOp c.val v))

/-- BULK_FLUSH (R84). -/
def execBulkFlush (r : Req) (c : Fin 8) (s : State) : Host.Outcome State Fault Refusal :=
  s.upd (onBulk r c.val (HIF_BULK_CMD c.val) (bulkFlushOp c.val))

/-- BULK_ERASE (R84); each erase counts in life counter 12 (R435). -/
def execBulkErase (r : Req) (c : Fin 8) (s : State) : Host.Outcome State Fault Refusal :=
  s.upd (onBulk r c.val (HIF_BULK_CMD c.val) (bulkEraseOp r c.val))

/-- BULK_ABORT (R79). -/
def execBulkAbort (r : Req) (c : Fin 8) (s : State) : Host.Outcome State Fault Refusal :=
  s.upd (onBulk r c.val (HIF_BULK_CMD c.val) (bulkAbortOp c.val))

/-- BULK_RELEASE (R79). -/
def execBulkRelease (r : Req) (c : Fin 8) (s : State) : Host.Outcome State Fault Refusal :=
  s.upd (onBulk r c.val (HIF_BULK_CMD c.val) (bulkReleaseOp c.val))

/-- FLASH_PAGE_PROGRAM_DONE (R84): what the page holds after programming. -/
def execFlashPageProgramDone (c : Fin 8) (readBack : List Byte) (s : State) : Host.Outcome State Fault Refusal :=
  s.upd (fun d => doIf d.pwr.powered (programDone c.val readBack) d)

/-- FLASH_ERASE_DONE (R84). -/
def execFlashEraseDone (c : Fin 8) (s : State) : Host.Outcome State Fault Refusal :=
  s.upd (fun d => doIf d.pwr.powered (eraseDone c.val) d)

end Sys2Proof.Machine
end

