-- ==== Sys2Proof/Machine/Parity.lean ====
section
/-! DEFINITION. SRAM_PARITY_ACCESS: parity errors of the packet buffers and of the configuration tables (R40), beside those of the control
complex in Ctl.lean. -/

namespace Sys2Proof.Machine

open Sys2Proof

/-- The packet that pipeline `p` works on is dropped (R40): a received one is counted, a scheduled message comes again at its next
interval (log entry 129). -/
def rxPacketParity (p : Nat) (d : Dev) : Dev :=
  match pipeQ d p with
  | [] => d
  | x :: xs =>
    let d1 := setWait p none (setPipeQ p xs d)
    reportUnit 0x27 0x01 .corrected 0 0 (match x.msg with | .rx f => svcCnt 24 1 (rxFree f d1) | _ => d1)

/-- The next frame of a MAC is dropped (R40): counted as discarded before transmission, its buffers free. -/
def txPacketParity (p s : Nat) (d : Dev) : Dev :=
  match (psub d p s).mac with
  | [] => d
  | f :: fs =>
    let d1 := txFree f (modPsub p s (fun y => { y with mac := fs }) d)
    reportUnit 0x27 0x01 .corrected 0 0 (if p = 8 then d1 else portCnt p s 27 1 d1)

/-- A configuration table comes back from the structure image (R40): the register's image fields take the image's values (log entry
129). -/
def configParity (a : Nat) (d : Dev) : Dev :=
  reportUnit 0x3C 0x01 .corrected 0 0 (doIf (!d.img.run.isEmpty) (applyImage (fun x => x % bankSpan == a)) d)

/-- The stored ephemerides have bad parity (R40, R230): the next GNSS wake tracks for new ones. -/
def ephParity (d : Dev) : Dev := reportUnit 0x3C 0x01 .corrected 0 0 { d with pwr := { d.pwr with ephBad := true } }

/-- A parity error found by an access (R40, R377): the control complex while core `c` runs, the packet buffers while PD_PKT is on, the
tables of PD_AON at any time. -/
def parityAccess (c : Nat) (site : ParitySite) (pc status : Nat) (d : Dev) : Dev :=
  match site with
  | .rxPacket p => doIf (domOn d .pkt) (rxPacketParity p.val) d
  | .txPacket p s => doIf (domOn d .pkt) (txPacketParity p.val s.val) d
  | .config a => configParity a.toNat d
  | .ephemerides => ephParity d
  | .history i => doIf (refOn d && domOn d .ctl) (histParity i.val) d
  | _ => doIf (domOn d .ctl && coreState d c == 2) (ctlParity c site pc status) d

/-- SRAM_PARITY_ACCESS (R40, R377). -/
def execSramParityAccess (c : Fin 4) (site : ParitySite) (pc status : Nat) (s : State) : Host.Outcome State Fault Refusal :=
  s.upd (live (parityAccess c.val site pc status))

end Sys2Proof.Machine
end

