-- ==== Sys2Proof/Machine/Dispatch.lean ====
section
/-! DEFINITION. The dispatch: one arm for each command, each one direct call of its meaning. -/

namespace Sys2Proof.Machine

open Sys2Proof

/-- The meaning of each command (one arm a constructor). -/
def exec (i : Instr) (s : State) : Host.Outcome State Fault Refusal :=
  match i with
  | .registerWrite r a d => Sys2Proof.Machine.execRegisterWrite r a d s
  | .rcRead r a => Sys2Proof.Machine.execRcRead r a s
  | .lowWordLatchRead r a => Sys2Proof.Machine.execLowWordLatchRead r a s
  | .highWordCommit r a d => Sys2Proof.Machine.execHighWordCommit r a d s
  | .vinRise => Sys2Proof.Machine.execVinRise s
  | .vinFall => Sys2Proof.Machine.execVinFall s
  | .vinWarn mv => Sys2Proof.Machine.execVinWarn mv s
  | .resetNAssert => Sys2Proof.Machine.execResetNAssert s
  | .resetNRelease st => Sys2Proof.Machine.execResetNRelease st s
  | .bootSequence o => Sys2Proof.Machine.execBootSequence o s
  | .ck32kSourceChange crystal => Sys2Proof.Machine.execCk32kSourceChange crystal s
  | .railFault rail => Sys2Proof.Machine.execRailFault rail s
  | .pmbusPoll rs => Sys2Proof.Machine.execPmbusPoll rs s
  | .stageAlert stage status => Sys2Proof.Machine.execStageAlert stage status s
  | .avsStep margin move => Sys2Proof.Machine.execAvsStep margin move s
  | .domainPowerUp d => Sys2Proof.Machine.execDomainPowerUp d s
  | .domainPowerDown d => Sys2Proof.Machine.execDomainPowerDown d s
  | .domainAckTimeout d => Sys2Proof.Machine.execDomainAckTimeout d s
  | .pwrDomOffWrite r d => Sys2Proof.Machine.execPwrDomOffWrite r d s
  | .reqServe r => Sys2Proof.Machine.execReqServe r s
  | .reqStandby r => Sys2Proof.Machine.execReqStandby r s
  | .reqLowWater r => Sys2Proof.Machine.execReqLowWater r s
  | .disciplineWake load lock => Sys2Proof.Machine.execDisciplineWake load lock s
  | .gnssWake o => Sys2Proof.Machine.execGnssWake o s
  | .disciplineMeasurement tau ok => Sys2Proof.Machine.execDisciplineMeasurement tau ok s
  | .wakeMaxExpiry => Sys2Proof.Machine.execWakeMaxExpiry s
  | .wakeSource src => Sys2Proof.Machine.execWakeSource src s
  | .lwExitTargetDue => Sys2Proof.Machine.execLwExitTargetDue s
  | .imgLoadHost r o => Sys2Proof.Machine.execImgLoadHost r o s
  | .imgReload r => Sys2Proof.Machine.execImgReload r s
  | .reloadApply => Sys2Proof.Machine.execReloadApply s
  | .imgConfirm r => Sys2Proof.Machine.execImgConfirm r s
  | .lkgTimeExpiry => Sys2Proof.Machine.execLkgTimeExpiry s
  | .imgClearBad r slot => Sys2Proof.Machine.execImgClearBad r slot s
  | .spiRead a n => Sys2Proof.Machine.execSpiRead a n s
  | .spiWrite a ws cut => Sys2Proof.Machine.execSpiWrite a ws cut s
  | .spiQuadRead a n => Sys2Proof.Machine.execSpiQuadRead a n s
  | .spiQuadWrite a ws cut => Sys2Proof.Machine.execSpiQuadWrite a ws cut s
  | .i2cWriteTransfer adr a ws cut => Sys2Proof.Machine.execI2cWriteTransfer adr a ws cut s
  | .i2cReadTransfer adr a n => Sys2Proof.Machine.execI2cReadTransfer adr a n s
  | .pcieMemoryWrite f a ws => Sys2Proof.Machine.execPcieMemoryWrite f a ws s
  | .pcieMemoryRead f a n => Sys2Proof.Machine.execPcieMemoryRead f a n s
  | .perstNAssert => Sys2Proof.Machine.execPerstNAssert s
  | .perstNRelease => Sys2Proof.Machine.execPerstNRelease s
  | .pcieLinkUp speed width => Sys2Proof.Machine.execPcieLinkUp speed width s
  | .pcieLinkDown => Sys2Proof.Machine.execPcieLinkDown s
  | .msixSend f => Sys2Proof.Machine.execMsixSend f s
  | .hifMgmtLock r d => Sys2Proof.Machine.execHifMgmtLock r d s
  | .bulkSelWrite r c d => Sys2Proof.Machine.execBulkSelWrite r c d s
  | .bulkDataRead r c => Sys2Proof.Machine.execBulkDataRead r c s
  | .bulkDataWrite r c d => Sys2Proof.Machine.execBulkDataWrite r c d s
  | .bulkCursorWrite r c d => Sys2Proof.Machine.execBulkCursorWrite r c d s
  | .bulkFlush r c => Sys2Proof.Machine.execBulkFlush r c s
  | .bulkErase r c => Sys2Proof.Machine.execBulkErase r c s
  | .bulkAbort r c => Sys2Proof.Machine.execBulkAbort r c s
  | .bulkRelease r c => Sys2Proof.Machine.execBulkRelease r c s
  | .flashPageProgramDone c readBack => Sys2Proof.Machine.execFlashPageProgramDone c readBack s
  | .flashEraseDone c => Sys2Proof.Machine.execFlashEraseDone c s
  | .epoch1us us => Sys2Proof.Machine.execEpoch1us us s
  | .channelSelftestDone pass => Sys2Proof.Machine.execChannelSelftestDone pass s
  | .epoch1ms o => Sys2Proof.Machine.execEpoch1ms o s
  | .tbStep r => Sys2Proof.Machine.execTbStep r s
  | .tbSet r => Sys2Proof.Machine.execTbSet r s
  | .tbSlew r => Sys2Proof.Machine.execTbSlew r s
  | .tbCancel r => Sys2Proof.Machine.execTbCancel r s
  | .tbReadmit r ch => Sys2Proof.Machine.execTbReadmit r ch s
  | .tbReadmitDone pass => Sys2Proof.Machine.execTbReadmitDone pass s
  | .stepWaitExpiry => Sys2Proof.Machine.execStepWaitExpiry s
  | .slewComplete => Sys2Proof.Machine.execSlewComplete s
  | .timeLatchRead r viaNear => Sys2Proof.Machine.execTimeLatchRead r viaNear s
  | .tbAlarmFire n => Sys2Proof.Machine.execTbAlarmFire n s
  | .leapEntrySubmit r hi => Sys2Proof.Machine.execLeapEntrySubmit r hi s
  | .utcOffsetChange => Sys2Proof.Machine.execUtcOffsetChange s
  | .calendarLimit => Sys2Proof.Machine.execCalendarLimit s
  | .refinEdge pin falling => Sys2Proof.Machine.execRefinEdge pin falling s
  | .holdoffExpiry pin => Sys2Proof.Machine.execHoldoffExpiry pin s
  | .channelCapture ch stop code => Sys2Proof.Machine.execChannelCapture ch stop code s
  | .intervalTimeout ch => Sys2Proof.Machine.execIntervalTimeout ch s
  | .schedulerGrant => Sys2Proof.Machine.execSchedulerGrant s
  | .requestComplete q latch => Sys2Proof.Machine.execRequestComplete q latch s
  | .requestDue q => Sys2Proof.Machine.execRequestDue q s
  | .requestAgeLimit q => Sys2Proof.Machine.execRequestAgeLimit q s
  | .measLoadSecond => Sys2Proof.Machine.execMeasLoadSecond s
  | .measCalInlFull r => Sys2Proof.Machine.execMeasCalInlFull r s
  | .measCalSkewAll r => Sys2Proof.Machine.execMeasCalSkewAll r s
  | .inlRunTrigger temp => Sys2Proof.Machine.execInlRunTrigger temp s
  | .inlRunComplete hits temp => Sys2Proof.Machine.execInlRunComplete hits temp s
  | .skewRunComplete ch sum => Sys2Proof.Machine.execSkewRunComplete ch sum s
  | .measReserveWrite r p d => Sys2Proof.Machine.execMeasReserveWrite r p d s
  | .measPowerLoss => Sys2Proof.Machine.execMeasPowerLoss s
  | .refFeed r hi => Sys2Proof.Machine.execRefFeed r hi s
  | .slotSignalTimeout n => Sys2Proof.Machine.execSlotSignalTimeout n s
  | .qualifyTimerExpiry n => Sys2Proof.Machine.execQualifyTimerExpiry n s
  | .suspectClearExpiry n => Sys2Proof.Machine.execSuspectClearExpiry n s
  | .disagreeTimeExpiry a b => Sys2Proof.Machine.execDisagreeTimeExpiry a b s
  | .lockTimeExpiry => Sys2Proof.Machine.execLockTimeExpiry s
  | .refSwitch r e => Sys2Proof.Machine.execRefSwitch r e s
  | .refAuto r => Sys2Proof.Machine.execRefAuto r s
  | .refHold r => Sys2Proof.Machine.execRefHold r s
  | .refRelease r => Sys2Proof.Machine.execRefRelease r s
  | .refTickSwitch r => Sys2Proof.Machine.execRefTickSwitch r s
  | .historyEntry => Sys2Proof.Machine.execHistoryEntry s
  | .ensembleTermCommit r hi => Sys2Proof.Machine.execEnsembleTermCommit r hi s
  | .ensembleTimeout => Sys2Proof.Machine.execEnsembleTimeout s
  | .servoBwWrite r d => Sys2Proof.Machine.execServoBwWrite r d s
  | .holdModelCommit r => Sys2Proof.Machine.execHoldModelCommit r s
  | .synSweep r mask limits => Sys2Proof.Machine.execSynSweep r mask limits s
  | .synPllStart r p => Sys2Proof.Machine.execSynPllStart r p s
  | .synPllStop r p => Sys2Proof.Machine.execSynPllStop r p s
  | .synPllHop r p => Sys2Proof.Machine.execSynPllHop r p s
  | .synPllFlush r p => Sys2Proof.Machine.execSynPllFlush r p s
  | .bandSearchComplete p codes => Sys2Proof.Machine.execBandSearchComplete p codes s
  | .pllLock p => Sys2Proof.Machine.execPllLock p s
  | .pllLockLoss p => Sys2Proof.Machine.execPllLockLoss p s
  | .pllReferenceLoss p => Sys2Proof.Machine.execPllReferenceLoss p s
  | .pllClockFallback pipeline => Sys2Proof.Machine.execPllClockFallback pipeline s
  | .pllClockReturn pipeline => Sys2Proof.Machine.execPllClockReturn pipeline s
  | .tickOutOfRange => Sys2Proof.Machine.execTickOutOfRange s
  | .bandEntryParity p e => Sys2Proof.Machine.execBandEntryParity p e s
  | .synOutCfgWrite r o d => Sys2Proof.Machine.execSynOutCfgWrite r o d s
  | .ppsPhaseCommit r q hi => Sys2Proof.Machine.execPpsPhaseCommit r q hi s
  | .ppsEnableWrite r q d => Sys2Proof.Machine.execPpsEnableWrite r q d s
  | .ppsChangeApply q => Sys2Proof.Machine.execPpsChangeApply q s
  | .calAgeExpiry o => Sys2Proof.Machine.execCalAgeExpiry o s
  | .outputRealignDone o => Sys2Proof.Machine.execOutputRealignDone o s
  | .gnSnapCapture r => Sys2Proof.Machine.execGnSnapCapture r s
  | .gnSnapCancel r => Sys2Proof.Machine.execGnSnapCancel r s
  | .gnSnapFree r => Sys2Proof.Machine.execGnSnapFree r s
  | .captureTrigger => Sys2Proof.Machine.execCaptureTrigger s
  | .captureComplete pins => Sys2Proof.Machine.execCaptureComplete pins s
  | .snapshotParity => Sys2Proof.Machine.execSnapshotParity s
  | .gnAcqStart r => Sys2Proof.Machine.execGnAcqStart r s
  | .gnAcqAbort r => Sys2Proof.Machine.execGnAcqAbort r s
  | .acqJobComplete j => Sys2Proof.Machine.execAcqJobComplete j s
  | .gnChStart r c => Sys2Proof.Machine.execGnChStart r c s
  | .gnChStop r c => Sys2Proof.Machine.execGnChStop r c s
  | .channelStartIndex c => Sys2Proof.Machine.execChannelStartIndex c s
  | .ncoCommit r c k v => Sys2Proof.Machine.execNcoCommit r c k v s
  | .dumpClose c pins => Sys2Proof.Machine.execDumpClose c pins s
  | .measurementEpoch idx => Sys2Proof.Machine.execMeasurementEpoch idx s
  | .epochLatchTimeout n => Sys2Proof.Machine.execEpochLatchTimeout n s
  | .epochRecordsWrite => Sys2Proof.Machine.execEpochRecordsWrite s
  | .gnFeedCommit r hi => Sys2Proof.Machine.execGnFeedCommit r hi s
  | .verdictChange r d => Sys2Proof.Machine.execVerdictChange r d s
  | .portLatCal r p => Sys2Proof.Machine.execPortLatCal r p s
  | .portRestart r p sp => Sys2Proof.Machine.execPortRestart r p sp s
  | .portReadmit r p => Sys2Proof.Machine.execPortReadmit r p s
  | .latencyCalComplete p rs => Sys2Proof.Machine.execLatencyCalComplete p rs s
  | .linkUp p sp an => Sys2Proof.Machine.execLinkUp p sp an s
  | .linkDown p sp => Sys2Proof.Machine.execLinkDown p sp s
  | .rxFrame p sp o => Sys2Proof.Machine.execRxFrame p sp o s
  | .txFrame p sp o => Sys2Proof.Machine.execTxFrame p sp o s
  | .dsgModeWrite r d => Sys2Proof.Machine.execDsgModeWrite r d s
  | .dsgBeaconStart => Sys2Proof.Machine.execDsgBeaconStart s
  | .dsgBeaconReceived code cyc => Sys2Proof.Machine.execDsgBeaconReceived code cyc s
  | .dsgTransmitOpportunity k => Sys2Proof.Machine.execDsgTransmitOpportunity k s
  | .plcaFallbackTimeout => Sys2Proof.Machine.execPlcaFallbackTimeout s
  | .csmaSilence => Sys2Proof.Machine.execCsmaSilence s
  | .dsgClockSourceChange => Sys2Proof.Machine.execDsgClockSourceChange s
  | .dsgRealignDone => Sys2Proof.Machine.execDsgRealignDone s
  | .dsgRxFrame o => Sys2Proof.Machine.execDsgRxFrame o s
  | .dsgEchoCalPeriod => Sys2Proof.Machine.execDsgEchoCalPeriod s
  | .dsgQueueEntry r hi => Sys2Proof.Machine.execDsgQueueEntry r hi s
  | .dsgEntryDue e delay collisions parity echo => Sys2Proof.Machine.execDsgEntryDue e delay collisions parity echo s
  | .dsgLateDrop e => Sys2Proof.Machine.execDsgLateDrop e s
  | .dsgQStatusRead r => Sys2Proof.Machine.execDsgQStatusRead r s
  | .dsgLwTemplateSend k delay => Sys2Proof.Machine.execDsgLwTemplateSend k delay s
  | .dsgPdelayResponse delay => Sys2Proof.Machine.execDsgPdelayResponse delay s
  | .pipelineOperation p o => Sys2Proof.Machine.execPipelineOperation p o s
  | .cryptoCreditTimeout p => Sys2Proof.Machine.execCryptoCreditTimeout p s
  | .wheelSlotStart => Sys2Proof.Machine.execWheelSlotStart s
  | .sessionSweep => Sys2Proof.Machine.execSessionSweep s
  | .weirSweep bad => Sys2Proof.Machine.execWeirSweep bad s
  | .sessionParity idx addrOk => Sys2Proof.Machine.execSessionParity idx addrOk s
  | .timedLaunch p sp => Sys2Proof.Machine.execTimedLaunch p sp s
  | .hostTransmitRecord => Sys2Proof.Machine.execHostTransmitRecord s
  | .nontimingResponse => Sys2Proof.Machine.execNontimingResponse s
  | .esmcSend p sp => Sys2Proof.Machine.execEsmcSend p sp s
  | .leapIndicatorChange => Sys2Proof.Machine.execLeapIndicatorChange s
  | .servingChange => Sys2Proof.Machine.execServingChange s
  | .keyDelivery c => Sys2Proof.Machine.execKeyDelivery c s
  | .keyDeliveryDiscard c => Sys2Proof.Machine.execKeyDeliveryDiscard c s
  | .keyClose r => Sys2Proof.Machine.execKeyClose r s
  | .keyZeroize r => Sys2Proof.Machine.execKeyZeroize r s
  | .keyErase r kind slot => Sys2Proof.Machine.execKeyErase r kind slot s
  | .keyClearOpened r => Sys2Proof.Machine.execKeyClearOpened r s
  | .presenceAssert => Sys2Proof.Machine.execPresenceAssert s
  | .presenceWindowExpiry => Sys2Proof.Machine.execPresenceWindowExpiry s
  | .sealOpen => Sys2Proof.Machine.execSealOpen s
  | .sealIntact => Sys2Proof.Machine.execSealIntact s
  | .zeroizationComplete => Sys2Proof.Machine.execZeroizationComplete s
  | .keyActivationEvaluation => Sys2Proof.Machine.execKeyActivationEvaluation s
  | .keySlotParity kind slot => Sys2Proof.Machine.execKeySlotParity kind slot s
  | .programHash r slot => Sys2Proof.Machine.execProgramHash r slot s
  | .revokeHash r slot => Sys2Proof.Machine.execRevokeHash r slot s
  | .programKek r => Sys2Proof.Machine.execProgramKek r s
  | .revokeKek r => Sys2Proof.Machine.execRevokeKek r s
  | .disableDebug r => Sys2Proof.Machine.execDisableDebug r s
  | .fuseCommandComplete got mark => Sys2Proof.Machine.execFuseCommandComplete got mark s
  | .debugUnlock r => Sys2Proof.Machine.execDebugUnlock r s
  | .engineSelftest failed => Sys2Proof.Machine.execEngineSelftest failed s
  | .engineReadmit r e pass => Sys2Proof.Machine.execEngineReadmit r e pass s
  | .rngReseed r => Sys2Proof.Machine.execRngReseed r s
  | .rngHealthFailure => Sys2Proof.Machine.execRngHealthFailure s
  | .millraceLinkTraining r => Sys2Proof.Machine.execMillraceLinkTraining r s
  | .helloReceived h crcOk => Sys2Proof.Machine.execHelloReceived h crcOk s
  | .millraceLinkLoss crc => Sys2Proof.Machine.execMillraceLinkLoss crc s
  | .claimRoundEnd present claim => Sys2Proof.Machine.execClaimRoundEnd present claim s
  | .claimStageChange o => Sys2Proof.Machine.execClaimStageChange o s
  | .claimBusFault => Sys2Proof.Machine.execClaimBusFault s
  | .partnerLossExpiry => Sys2Proof.Machine.execPartnerLossExpiry s
  | .twnYield r => Sys2Proof.Machine.execTwnYield r s
  | .twnUnyield r => Sys2Proof.Machine.execTwnUnyield r s
  | .twnResync r => Sys2Proof.Machine.execTwnResync r s
  | .twnRetrain r => Sys2Proof.Machine.execTwnRetrain r s
  | .twnAsymWrite r d => Sys2Proof.Machine.execTwnAsymWrite r d s
  | .alignmentFrame a crcOk => Sys2Proof.Machine.execAlignmentFrame a crcOk s
  | .journalRecord n x crcOk => Sys2Proof.Machine.execJournalRecord n x crcOk s
  | .mirrorCommitReceived c crcOk => Sys2Proof.Machine.execMirrorCommitReceived c crcOk s
  | .mirrorAcknowledge n crcOk => Sys2Proof.Machine.execMirrorAcknowledge n crcOk s
  | .requestAgain a crcOk => Sys2Proof.Machine.execRequestAgain a crcOk s
  | .retentionExceeded => Sys2Proof.Machine.execRetentionExceeded s
  | .sweepRecord x crcOk => Sys2Proof.Machine.execSweepRecord x crcOk s
  | .healthFrameSend => Sys2Proof.Machine.execHealthFrameSend s
  | .healthFrameReceived h crcOk => Sys2Proof.Machine.execHealthFrameReceived h crcOk s
  | .healthStale => Sys2Proof.Machine.execHealthStale s
  | .huntTest pass => Sys2Proof.Machine.execHuntTest pass s
  | .coreStart r c => Sys2Proof.Machine.execCoreStart r c s
  | .coreHalt r c => Sys2Proof.Machine.execCoreHalt r c s
  | .coreReadmit r c => Sys2Proof.Machine.execCoreReadmit r c s
  | .sleepInstruction c => Sys2Proof.Machine.execSleepInstruction c s
  | .coreException c x => Sys2Proof.Machine.execCoreException c x s
  | .watchdogKick src c d => Sys2Proof.Machine.execWatchdogKick src c d s
  | .watchdogExpiry c => Sys2Proof.Machine.execWatchdogExpiry c s
  | .coreTimerFire c => Sys2Proof.Machine.execCoreTimerFire c s
  | .lockstepEnableWrite r d => Sys2Proof.Machine.execLockstepEnableWrite r d s
  | .lockstepMismatch pass2 pass3 => Sys2Proof.Machine.execLockstepMismatch pass2 pass3 s
  | .tlbInvalidate r d => Sys2Proof.Machine.execTlbInvalidate r d s
  | .pageReload r => Sys2Proof.Machine.execPageReload r s
  | .sramParityAccess c site pc status => Sys2Proof.Machine.execSramParityAccess c site pc status s
  | .dmaHeadWrite r ch d => Sys2Proof.Machine.execDmaHeadWrite r ch d s
  | .dmaBeat jobOk => Sys2Proof.Machine.execDmaBeat jobOk s
  | .descriptorRetire ch => Sys2Proof.Machine.execDescriptorRetire ch s
  | .dmaPark ch cause side va => Sys2Proof.Machine.execDmaPark ch cause side va s
  | .dmaResume r ch => Sys2Proof.Machine.execDmaResume r ch s
  | .dmaPause r ch => Sys2Proof.Machine.execDmaPause r ch s
  | .dmaSkip r ch => Sys2Proof.Machine.execDmaSkip r ch s
  | .dmaAbort r ch => Sys2Proof.Machine.execDmaAbort r ch s
  | .eventRaise src code param => Sys2Proof.Machine.execEventRaise src code param s
  | .recordDelivery t => Sys2Proof.Machine.execRecordDelivery t s
  | .evqTgtRdWrite r t d => Sys2Proof.Machine.execEvqTgtRdWrite r t d s
  | .evqRecordRead r t => Sys2Proof.Machine.execEvqRecordRead r t s
  | .moderationExpiry t => Sys2Proof.Machine.execModerationExpiry t s
  | .evqRetargetWrite r d => Sys2Proof.Machine.execEvqRetargetWrite r d s
  | .evqSrcTgtWrite r v d => Sys2Proof.Machine.execEvqSrcTgtWrite r v d s
  | .retargetTimeout c => Sys2Proof.Machine.execRetargetTimeout c s
  | .evqHoldWrite r d => Sys2Proof.Machine.execEvqHoldWrite r d s
  | .evqRecordParity t pos => Sys2Proof.Machine.execEvqRecordParity t pos s
  | .unitReport p => Sys2Proof.Machine.execUnitReport p s
  | .railFaultDetect u high => Sys2Proof.Machine.execRailFaultDetect u high s
  | .unitPoll u o => Sys2Proof.Machine.execUnitPoll u o s
  | .selftestStart fi => Sys2Proof.Machine.execSelftestStart fi s
  | .selftestComplete fi o => Sys2Proof.Machine.execSelftestComplete fi o s
  | .handlingNoTestExpiry fi => Sys2Proof.Machine.execHandlingNoTestExpiry fi s
  | .fatalDecision u cause collector => Sys2Proof.Machine.execFatalDecision u cause collector s
  | .fltReadmit r u => Sys2Proof.Machine.execFltReadmit r u s
  | .readmitTestComplete u pass => Sys2Proof.Machine.execReadmitTestComplete u pass s
  | .fltLatchRead r u => Sys2Proof.Machine.execFltLatchRead r u s
  | .fltRailRead r high idle => Sys2Proof.Machine.execFltRailRead r high idle s
  | .fltInjectGo r => Sys2Proof.Machine.execFltInjectGo r s
  | .fltInjectStop r => Sys2Proof.Machine.execFltInjectStop r s
  | .injectedReport => Sys2Proof.Machine.execInjectedReport s
  | .recorderWrite => Sys2Proof.Machine.execRecorderWrite s
  | .recorderWeirSweep => Sys2Proof.Machine.execRecorderWeirSweep s
  | .logRec0Read r => Sys2Proof.Machine.execLogRec0Read r s
  | .logRec7Read r => Sys2Proof.Machine.execLogRec7Read r s
  | .logCurWrite r d => Sys2Proof.Machine.execLogCurWrite r d s
  | .stateBlockPeriod ok => Sys2Proof.Machine.execStateBlockPeriod ok s
  | .stateNow r ok => Sys2Proof.Machine.execStateNow r ok s
  | .archiveFlush r ok => Sys2Proof.Machine.execArchiveFlush r ok s
  | .forcedStateBlock ok => Sys2Proof.Machine.execForcedStateBlock ok s
  | .recorderPageProgram ok => Sys2Proof.Machine.execRecorderPageProgram ok s
  | .archiveSectorErase ok => Sys2Proof.Machine.execArchiveSectorErase ok s
  | .thermalSample temp osc => Sys2Proof.Machine.execThermalSample temp osc s
  | .pmcSnap r => Sys2Proof.Machine.execPmcSnap r s
  | .ledgerCopy l => Sys2Proof.Machine.execLedgerCopy l s
  | .pmcGenCfgWrite r n d => Sys2Proof.Machine.execPmcGenCfgWrite r n d s
  | .pmcPrivWrite r user a d => Sys2Proof.Machine.execPmcPrivWrite r user a d s
  | .counterWrap n inc => Sys2Proof.Machine.execCounterWrap n inc s
  | .esmcTimeout n => Sys2Proof.Machine.execEsmcTimeout n s
  | .slotResultTimeout n => Sys2Proof.Machine.execSlotResultTimeout n s
  | .pllReferenceReturn p => Sys2Proof.Machine.execPllReferenceReturn p s
  | .dsgSignalLoss => Sys2Proof.Machine.execDsgSignalLoss s
  | .pcieConfigWrite f w => Sys2Proof.Machine.execPcieConfigWrite f w s
  | .railFaultRetry good => Sys2Proof.Machine.execRailFaultRetry good s

end Sys2Proof.Machine
end

