-- ==== Sys2Proof/Machine/Idle.lean ====
section
/-! DEFINITION. What one clock period does while no command waits (log entry 32): a tick of the timescale once TB is seeded (R87), with
the dividers that follow it (R185), the performance counters of ticks (R437) and the pulse edges that fall in it (R199), a tick of the free-running count of a wake (R231, R461), or a
cycle of CK_32K in the low-power counter (R108, R445). -/

namespace Sys2Proof.Machine

open Sys2Proof

/-- One clock period without a command: in Off nothing runs (R41). Whether an edge of CK_32K falls in a tick is a free value (log entry
126). -/
def idleF (d : Dev) : Dev :=
  if !(d.pwr.powered) then d
  else if domOn d .tb && flag d TB_STATUS_seeded then
    withFreeBit (fun edge x => doIf edge lpcEdge x) (pmcAdd 0x0703 1 (measTick 1 (ppsTick (chanT (leadChan d)) (steerPlls (tickTb d)))))
  else if d.pwr.wakeTick then withFreeBit (fun edge x => doIf edge lpcTick x) (measTick 1 d)
  else measTick 38146 (lpcTick d)

end Sys2Proof.Machine
end

