-- ==== Sys2Proof/Safety.lean ====
section
/-! DEFINITION. What the claims speak of: how a command completes, a device in Off, a register access that its guards let through,
stores in canonical form, and what a command leaves alone. -/

namespace Sys2Proof.Machine

open Sys2Proof

/-- Command `i` at state `s` answers a next state: the queue as it was, and the device `d`. -/
def runsTo (i : Instr) (s : State) (d : Dev) : Prop := exec i s = .next { toDev := d, pending := s.pending }

/-- Command `i` at state `s` answers a next state: the queue as it was, and a device of which `P` holds. -/
def answers (i : Instr) (s : State) (P : Dev → Prop) : Prop := ∃ d, runsTo i s d ∧ P d

/-- The device that a command leaves: its own where the command stopped. -/
def afterCmd (i : Instr) (d : Dev) : Dev :=
  match exec i { toDev := d, pending := [] } with
  | .next t => t.toDev
  | _ => d

/-- Every addressed store of the device has the canonical form. -/
def Dev.canonical (d : Dev) : Bool :=
  cwf resetOf d.regs && cwf (fun _ => 0#32) d.latch && cwf (fun _ => none) d.held && cwf (fun _ => 0#32) d.ram &&
    cwf (fun _ => 0xFF#8) d.flash

/-- The device is in Off: VIN is absent, and no domain but PD_AON is on (R41). -/
def Dev.isOff (d : Dev) : Bool := !(d.pwr.powered) && (List.range 14).all (fun n => n == 0 || !(domOnN d n))

/-- The guards of a register write let requester `r` write register `a`: the access reaches the device (R69), the requester
may write the register (R62, R63), and its domain is on (R23). -/
def granted (d : Dev) (r : Req) (a : Nat) : Bool := reaches d r && (fullRights d r || obsMayWrite d r a) && regOn d a

/-- The guards of a register read let it see the register: the access reaches the device (R69) and the domain is on (R23). -/
def readable (d : Dev) (r : Req) (a : Nat) : Bool := reaches d r && regOn d a

/-- The address lies among the configurations and counts of the performance counters, which every signal may step (R437,
R439). -/
def isPmc (a : Nat) : Bool := decide (0x060100 ≤ a) && decide (a < 0x060680)

/-- The memories of two devices agree: SRAM with its parity, and flash. -/
def sameMem (d e : Dev) : Prop := e.ram = d.ram ∧ e.badWords = d.badWords ∧ e.flash = d.flash

/-- The registers of two devices agree, but for those of the list and the performance counters. -/
def sameRegsBut (l : List Nat) (d e : Dev) : Prop :=
  ∀ a, a ∉ l → isPmc (a % bankSpan) = false → rd e a = rd d a

/-- The register that a command writes, with its requester: none where the command is no write of one register. -/
def cmdWrite (i : Instr) : Option (Req × Nat) :=
  match i with
  | .pwrDomOffWrite r _ => some (r, PWR_DOM_OFF)
  | .reqServe r => some (r, PWR_REQ)
  | .reqStandby r => some (r, PWR_REQ)
  | .reqLowWater r => some (r, PWR_REQ)
  | .imgLoadHost r _ => some (r, IMG_CMD)
  | .imgReload r => some (r, IMG_CMD)
  | .imgConfirm r => some (r, IMG_CMD)
  | .imgClearBad r _ => some (r, IMG_CMD)
  | .hifMgmtLock r _ => some (r, HIF_MGMT_CTL)
  | .bulkSelWrite r c _ => some (r, HIF_BULK_SEL c.val)
  | .bulkDataWrite r c _ => some (r, HIF_BULK_DATA c.val)
  | .bulkCursorWrite r c _ => some (r, HIF_BULK_CURSOR c.val)
  | .bulkFlush r c => some (r, HIF_BULK_CMD c.val)
  | .bulkErase r c => some (r, HIF_BULK_CMD c.val)
  | .bulkAbort r c => some (r, HIF_BULK_CMD c.val)
  | .bulkRelease r c => some (r, HIF_BULK_CMD c.val)
  | .tbStep r => some (r, TB_CMD)
  | .tbSet r => some (r, TB_CMD)
  | .tbSlew r => some (r, TB_CMD)
  | .tbCancel r => some (r, TB_CMD)
  | .tbReadmit r _ => some (r, TB_CMD)
  | .leapEntrySubmit r _ => some (r, LOG_LEAP_HI)
  | .measCalInlFull r => some (r, MEAS_CAL_CMD)
  | .measCalSkewAll r => some (r, MEAS_CAL_CMD)
  | .measReserveWrite r p _ => some (r, MEAS_RESERVE p.val)
  | .refFeed r _ => some (r, REF_FEED_E_HI)
  | .refSwitch r _ => some (r, REF_CMD)
  | .refAuto r => some (r, REF_CMD)
  | .refHold r => some (r, REF_CMD)
  | .refRelease r => some (r, REF_CMD)
  | .refTickSwitch r => some (r, REF_CMD)
  | .ensembleTermCommit r _ => some (r, REF_ENS_TERM_HI)
  | .servoBwWrite r _ => some (r, REF_SERVO_BW)
  | .holdModelCommit r => some (r, REF_HOLD_MODEL_CTL)
  | .synSweep r _ _ => some (r, SYN_CMD)
  | .synPllStart r p => some (r, SYN_PLL_CMD p.val)
  | .synPllStop r p => some (r, SYN_PLL_CMD p.val)
  | .synPllHop r p => some (r, SYN_PLL_CMD p.val)
  | .synPllFlush r p => some (r, SYN_PLL_CMD p.val)
  | .synOutCfgWrite r o _ => some (r, SYN_OUT_CFG o.val)
  | .ppsPhaseCommit r q _ => some (r, SYN_PPS_PH_HI q.val)
  | .ppsEnableWrite r q _ => some (r, SYN_PPS_CFG q.val)
  | .gnSnapCapture r => some (r, GN_SNAP_CMD)
  | .gnSnapCancel r => some (r, GN_SNAP_CMD)
  | .gnSnapFree r => some (r, GN_SNAP_CMD)
  | .gnAcqStart r => some (r, GN_ACQ_CMD)
  | .gnAcqAbort r => some (r, GN_ACQ_CMD)
  | .gnChStart r c => some (r, GN_CH_CMD c.val)
  | .gnChStop r c => some (r, GN_CH_CMD c.val)
  | .ncoCommit r c k _ =>
    some (r, (match k with | .krate => GN_CH_KRATE_HI c.val | .crate => GN_CH_CRATE_HI c.val | .kadj => GN_CH_KADJ c.val))
  | .gnFeedCommit r _ => some (r, GN_FEED_E_HI)
  | .verdictChange r _ => some (r, GN_VERDICT)
  | .portLatCal r p => some (r, PORT_CMD p.val)
  | .portRestart r p _ => some (r, PORT_CMD p.val)
  | .portReadmit r p => some (r, PORT_CMD p.val)
  | .dsgModeWrite r _ => some (r, DSG_CFG)
  | .dsgQueueEntry r _ => some (r, DSG_Q_TGT_HI)
  | .keyClose r => some (r, KEY_CMD)
  | .keyZeroize r => some (r, KEY_CMD)
  | .keyErase r _ _ => some (r, KEY_CMD)
  | .keyClearOpened r => some (r, KEY_CMD)
  | .programHash r _ => some (r, KEY_FUSE_CMD)
  | .revokeHash r _ => some (r, KEY_FUSE_CMD)
  | .programKek r => some (r, KEY_FUSE_CMD)
  | .revokeKek r => some (r, KEY_FUSE_CMD)
  | .disableDebug r => some (r, KEY_FUSE_CMD)
  | .debugUnlock r => some (r, KEY_DEBUG)
  | .engineReadmit r _ _ => some (r, KEY_ENG_CMD)
  | .rngReseed r => some (r, KEY_RNG_CTL)
  | .twnYield r => some (r, TWN_CMD)
  | .twnUnyield r => some (r, TWN_CMD)
  | .twnResync r => some (r, TWN_CMD)
  | .twnRetrain r => some (r, TWN_CMD)
  | .twnAsymWrite r _ => some (r, TWN_ASYM)
  | .coreStart r c => some (r, CTL_CORE_CMD c.val)
  | .coreHalt r c => some (r, CTL_CORE_CMD c.val)
  | .coreReadmit r c => some (r, CTL_CORE_CMD c.val)
  | .lockstepEnableWrite r _ => some (r, CTL_LS_CTL)
  | .tlbInvalidate r _ => some (r, CTL_TLB_INV)
  | .pageReload r => some (r, CTL_RELOAD_CMD)
  | .dmaHeadWrite r ch _ => some (r, CTL_DMA_HEAD ch.val)
  | .dmaResume r ch => some (r, CTL_DMA_CMD ch.val)
  | .dmaPause r ch => some (r, CTL_DMA_CMD ch.val)
  | .dmaSkip r ch => some (r, CTL_DMA_CMD ch.val)
  | .dmaAbort r ch => some (r, CTL_DMA_CMD ch.val)
  | .evqTgtRdWrite r t _ => some (r, EVQ_TGT_RD t.val)
  | .evqRetargetWrite r _ => some (r, EVQ_RETARGET)
  | .evqSrcTgtWrite r v _ => some (r, EVQ_SRC_TGT v.val)
  | .evqHoldWrite r _ => some (r, EVQ_HOLD)
  | .fltReadmit r _ => some (r, FLT_CMD)
  | .fltInjectGo r => some (r, FLT_INJ_CMD)
  | .fltInjectStop r => some (r, FLT_INJ_CMD)
  | .logCurWrite r _ => some (r, LOG_CUR)
  | .stateNow r _ => some (r, LOG_ARCH_CMD)
  | .archiveFlush r _ => some (r, LOG_ARCH_CMD)
  | .pmcSnap r => some (r, PMC_SNAP)
  | .pmcGenCfgWrite r n _ => some (r, PMC_GEN_CFG n.val)
  | .pmcPrivWrite r _ a _ => some (r, a.toNat)
  | _ => none

/-- The requester that sends a command: none where it comes from no requester of the register map. -/
def cmdReq (i : Instr) : Option Req :=
  match i with
  | .registerWrite r _ _ => some r
  | .rcRead r _ => some r
  | .lowWordLatchRead r _ => some r
  | .highWordCommit r _ _ => some r
  | .pcieMemoryWrite f _ _ => some (pfReq f)
  | .pcieMemoryRead f _ _ => some (pfReq f)
  | .pcieConfigWrite f _ => some (pfReq f)
  | .bulkDataRead r _ => some r
  | .timeLatchRead r _ => some r
  | .dsgQStatusRead r => some r
  | .evqRecordRead r _ => some r
  | .fltLatchRead r _ => some r
  | .fltRailRead r _ _ => some r
  | .logRec0Read r => some r
  | .logRec7Read r => some r
  | _ => (cmdWrite i).map Prod.fst

end Sys2Proof.Machine
end

