-- ==== Sys2Proof/WellFormed.lean ====
section
/-! DEFINITION. Which commands a sender can form: the addresses that a row is about, and the lengths of the lists that stand for what the
hardware meets. The meanings are total and do not depend on it. -/

namespace Sys2Proof

open Sys2Proof.Machine

/-- A word address. -/
def aligned (a : BarAddr) : Bool := a.toNat % 4 == 0

/-- The row of the register map at an address of BAR0 (R11). -/
def mapRow (a : BarAddr) : Option RegRow := if a.toNat < 0x04000000 then rowOf a.toNat else none

/-- A register stands at the address (R9). -/
def mapped (a : BarAddr) : Bool := (mapRow a).isSome

/-- The register at the address has a field with access RC (R5). -/
def clearsOnRead (a : BarAddr) : Bool := match mapRow a with | some r => r.rc != 0 | none => false

/-- The register at the address is the low (1) or the high (2) word of a 64-bit quantity (R7). -/
def wordOf (a : BarAddr) (k : Nat) : Bool := match mapRow a with | some r => r.wide == k | none => false

/-- The address lies among the privileged counters or their enables (R439). -/
def privMap (a : BarAddr) : Bool :=
  (decide (0x060600 ≤ a.toNat) && decide (a.toNat < 0x060680)) || a.toNat == 0x060020 || a.toNat == 0x060024

/-- A Boot reads six images and four hash keys. -/
def bootObsWf (o : BootObs) : Bool := o.readErrs.length == 6 && (match o.hashKeys with | some l => l.length == 4 | none => true)

/-- A command that a sender can form. -/
def Instr.wf (i : Instr) : Bool :=
  match i with
  | .registerWrite _ a _ => aligned a && mapped a
  | .rcRead _ a => aligned a && clearsOnRead a
  | .lowWordLatchRead _ a => aligned a && wordOf a 1
  | .highWordCommit _ a _ => aligned a && wordOf a 2
  | .bootSequence o => bootObsWf o
  | .imgLoadHost _ o => bootObsWf o
  | .pmbusPoll rs => decide (rs.length ≤ 6)
  | .spiRead a n => aligned a && decide (0 < n)
  | .spiQuadRead a n => aligned a && decide (0 < n)
  | .spiWrite a _ _ => aligned a
  | .spiQuadWrite a _ _ => aligned a
  | .i2cWriteTransfer _ a _ _ => aligned a
  | .i2cReadTransfer _ a n => aligned a && decide (0 < n)
  | .pcieMemoryWrite _ a ws => aligned a && ws.length != 0
  | .pcieMemoryRead _ a n => aligned a && decide (0 < n) && decide (n ≤ 1024)
  | .flashPageProgramDone _ rb => rb.length == 256
  | .synSweep _ _ limits => limits.length == 4 && limits.all (fun l => l.length == 128)
  | .inlRunComplete hits _ => hits.length == 256
  | .pcieLinkUp speed width => speed.val != 0 && [1, 2, 4].contains width.val
  | .pmcPrivWrite _ _ a _ => aligned a && privMap a
  | .dmaPark _ cause _ _ => decide (1 ≤ cause.val) && decide (cause.val ≤ 10)
  | .disagreeTimeExpiry a b => a != b
  | .fuseCommandComplete got _ => decide (got.length ≤ 8)
  | .vinRise .. | .vinFall .. | .vinWarn .. | .resetNAssert .. | .resetNRelease .. | .ck32kSourceChange .. | .railFault ..
  | .stageAlert .. | .avsStep .. | .domainPowerUp .. | .domainPowerDown .. | .domainAckTimeout .. | .pwrDomOffWrite ..
  | .reqServe .. | .reqStandby .. | .reqLowWater .. | .disciplineWake .. | .gnssWake .. | .disciplineMeasurement ..
  | .wakeMaxExpiry .. | .wakeSource .. | .lwExitTargetDue .. | .imgReload .. | .reloadApply .. | .imgConfirm ..
  | .lkgTimeExpiry .. | .imgClearBad .. | .perstNAssert .. | .perstNRelease .. | .pcieLinkDown .. | .msixSend ..
  | .hifMgmtLock .. | .bulkSelWrite .. | .bulkDataRead .. | .bulkDataWrite .. | .bulkCursorWrite .. | .bulkFlush ..
  | .bulkErase .. | .bulkAbort .. | .bulkRelease .. | .flashEraseDone .. | .epoch1us .. | .channelSelftestDone ..
  | .epoch1ms .. | .tbStep .. | .tbSet .. | .tbSlew .. | .tbCancel .. | .tbReadmit .. | .tbReadmitDone .. | .stepWaitExpiry ..
  | .slewComplete .. | .timeLatchRead .. | .tbAlarmFire .. | .leapEntrySubmit .. | .utcOffsetChange .. | .calendarLimit ..
  | .refinEdge .. | .holdoffExpiry .. | .channelCapture .. | .intervalTimeout .. | .schedulerGrant .. | .requestComplete ..
  | .requestDue .. | .requestAgeLimit .. | .measLoadSecond .. | .measCalInlFull .. | .measCalSkewAll .. | .inlRunTrigger ..
  | .skewRunComplete .. | .measReserveWrite .. | .measPowerLoss .. | .refFeed .. | .slotSignalTimeout ..
  | .qualifyTimerExpiry .. | .suspectClearExpiry .. | .lockTimeExpiry .. | .refSwitch .. | .refAuto .. | .refHold ..
  | .refRelease .. | .refTickSwitch .. | .historyEntry .. | .ensembleTermCommit .. | .ensembleTimeout .. | .servoBwWrite ..
  | .holdModelCommit .. | .synPllStart .. | .synPllStop .. | .synPllHop .. | .synPllFlush .. | .bandSearchComplete ..
  | .pllLock .. | .pllLockLoss .. | .pllReferenceLoss .. | .pllClockFallback .. | .pllClockReturn .. | .tickOutOfRange ..
  | .bandEntryParity .. | .synOutCfgWrite .. | .ppsPhaseCommit .. | .ppsEnableWrite .. | .ppsChangeApply .. | .calAgeExpiry ..
  | .outputRealignDone .. | .gnSnapCapture .. | .gnSnapCancel .. | .gnSnapFree .. | .captureTrigger .. | .captureComplete ..
  | .snapshotParity .. | .gnAcqStart .. | .gnAcqAbort .. | .acqJobComplete .. | .gnChStart .. | .gnChStop ..
  | .channelStartIndex .. | .ncoCommit .. | .dumpClose .. | .measurementEpoch .. | .epochLatchTimeout ..
  | .epochRecordsWrite .. | .gnFeedCommit .. | .verdictChange .. | .portLatCal .. | .portRestart .. | .portReadmit ..
  | .latencyCalComplete .. | .linkUp .. | .linkDown .. | .rxFrame .. | .txFrame .. | .dsgModeWrite .. | .dsgBeaconStart ..
  | .dsgBeaconReceived .. | .dsgTransmitOpportunity .. | .plcaFallbackTimeout .. | .csmaSilence .. | .dsgClockSourceChange ..
  | .dsgRealignDone .. | .dsgRxFrame .. | .dsgEchoCalPeriod .. | .dsgQueueEntry .. | .dsgEntryDue .. | .dsgLateDrop ..
  | .dsgQStatusRead .. | .dsgLwTemplateSend .. | .dsgPdelayResponse .. | .pipelineOperation .. | .cryptoCreditTimeout ..
  | .wheelSlotStart .. | .sessionSweep .. | .weirSweep .. | .sessionParity .. | .timedLaunch .. | .hostTransmitRecord ..
  | .nontimingResponse .. | .esmcSend .. | .leapIndicatorChange .. | .servingChange .. | .keyDelivery ..
  | .keyDeliveryDiscard .. | .keyClose .. | .keyZeroize .. | .keyErase .. | .keyClearOpened .. | .presenceAssert ..
  | .presenceWindowExpiry .. | .sealOpen .. | .sealIntact .. | .zeroizationComplete .. | .keyActivationEvaluation ..
  | .keySlotParity .. | .programHash .. | .revokeHash .. | .programKek .. | .revokeKek .. | .disableDebug .. | .debugUnlock ..
  | .engineSelftest .. | .engineReadmit .. | .rngReseed .. | .rngHealthFailure .. | .millraceLinkTraining ..
  | .helloReceived .. | .millraceLinkLoss .. | .claimRoundEnd .. | .claimStageChange .. | .claimBusFault ..
  | .partnerLossExpiry .. | .twnYield .. | .twnUnyield .. | .twnResync .. | .twnRetrain .. | .twnAsymWrite ..
  | .alignmentFrame .. | .journalRecord .. | .mirrorCommitReceived .. | .mirrorAcknowledge .. | .requestAgain ..
  | .retentionExceeded .. | .sweepRecord .. | .healthFrameSend .. | .healthFrameReceived .. | .healthStale .. | .huntTest ..
  | .coreStart .. | .coreHalt .. | .coreReadmit .. | .sleepInstruction .. | .coreException .. | .watchdogKick ..
  | .watchdogExpiry .. | .coreTimerFire .. | .lockstepEnableWrite .. | .lockstepMismatch .. | .tlbInvalidate ..
  | .pageReload .. | .sramParityAccess .. | .dmaHeadWrite .. | .dmaBeat .. | .descriptorRetire .. | .dmaResume ..
  | .dmaPause .. | .dmaSkip .. | .dmaAbort .. | .eventRaise .. | .recordDelivery .. | .evqTgtRdWrite .. | .evqRecordRead ..
  | .moderationExpiry .. | .evqRetargetWrite .. | .evqSrcTgtWrite .. | .retargetTimeout .. | .evqHoldWrite ..
  | .evqRecordParity .. | .unitReport .. | .railFaultDetect .. | .unitPoll .. | .selftestStart .. | .selftestComplete ..
  | .handlingNoTestExpiry .. | .fatalDecision .. | .fltReadmit .. | .readmitTestComplete .. | .fltLatchRead ..
  | .fltRailRead .. | .fltInjectGo .. | .fltInjectStop .. | .injectedReport .. | .recorderWrite .. | .recorderWeirSweep ..
  | .logRec0Read .. | .logRec7Read .. | .logCurWrite .. | .stateBlockPeriod .. | .stateNow .. | .archiveFlush ..
  | .forcedStateBlock .. | .recorderPageProgram .. | .archiveSectorErase .. | .thermalSample .. | .pmcSnap .. | .ledgerCopy ..
  | .pmcGenCfgWrite .. | .counterWrap .. | .esmcTimeout .. | .slotResultTimeout .. | .pllReferenceReturn .. | .dsgSignalLoss ..
  | .pcieConfigWrite .. | .railFaultRetry .. => true

end Sys2Proof
end

