-- ==== Sys2Proof/Certificates/Slice0/Obligations.lean ====
section
/-! DEFINITION. The statements about the PT8820: the queue and its steps, the guards of an access, Off, and for every command of
the table where it completes and what it then leaves. Each docstring names the rules it rests on. -/

open Sys2Proof Sys2Proof.Machine

/-- A step runs the command at the front of the queue on the state with the rest of it (R76: accesses take effect in the
order issued; the queue is the model's own). -/
def Obligations.StepRunsFrontCommand : Prop :=
  ∀ (c : Instr) (rest : List Instr) (s : State), s.pending = c :: rest → step s = exec c { s with pending := rest }

/-- On an empty queue a step changes nothing in Off. With PD_TB on and TB seeded it takes one tick of the timescale, with
the dividers that follow it, the pulse edges that fall in it, the tick count of MEAS and performance signal 0x0703,
and then one edge of CK_32K or none (a free bit, log entry 126). Otherwise, outside a wake with a locked tick, it
takes one edge of CK_32K: the low-power counter adds its increment, or stands while CK_32K has no crystal; in such a
wake it is one tick of MEAS with an edge or none. That an empty queue stands for one clock period is the model's
choice (log entry 32). -/
def Obligations.EmptyQueueClockPeriod : Prop :=
  ∀ s : State, s.pending = [] →
    (s.pwr.powered = false → step s = .next s) ∧
    (s.pwr.powered = true → domOn s.toDev .tb = true → flag s.toDev TB_STATUS_seeded = true →
      let d1 := draw (pmcAdd 0x0703 1 (measTick 1 (ppsTick (chanT (leadChan s.toDev)) (steerPlls (tickTb s.toDev)))))
      step s = .next { s with toDev := d1 } ∨ step s = .next { s with toDev := lpcEdge d1 }) ∧
    (s.pwr.powered = true → (domOn s.toDev .tb && flag s.toDev TB_STATUS_seeded) = false → s.pwr.wakeTick = false →
      (flag s.toDev PWR_STATUS_ck_rc = false →
        step s = .next { s with toDev := measTick 38146 { s.toDev with
          lpc := { s.lpc with val := s.lpc.val + rd64 s.toDev TB_LPC_INC_LO, ck := s.lpc.ck + 1 } } }) ∧
      (flag s.toDev PWR_STATUS_ck_rc = true → step s = .next { s with toDev := measTick 38146 s.toDev })) ∧
    (s.pwr.powered = true → (domOn s.toDev .tb && flag s.toDev TB_STATUS_seeded) = false → s.pwr.wakeTick = true →
      let d1 := draw (measTick 1 s.toDev)
      step s = .next { s with toDev := d1 } ∨ step s = .next { s with toDev := lpcTick d1 })

/-- From every state, as many steps as commands wait end in a next state (no fault, no refusal) with an empty queue, whose
device is what the commands leave when each acts in turn, first in, first out, on the device that the one before it
left; no command reads or writes the queue. -/
def Obligations.RunExecutesQueueInOrder : Prop :=
  ∀ s : State, Host.Core.run Sys2Proof.core s.pending.length s =
    .next { toDev := s.pending.foldl (fun d i => afterCmd i d) s.toDev, pending := [] }

/-- Nothing runs in Off, which is left only when VIN rises (R41, R443): every other command, with every operand, leaves
the state as it is, and a queue without VIN_RISE drains and leaves the device as it was. -/
def Obligations.OffIgnoresEveryCommandButVinRise : Prop :=
  (∀ (i : Instr) (s : State), s.toDev.isOff = true → i ≠ .vinRise → exec i s = .next s) ∧
  (∀ s : State, s.toDev.isOff = true → .vinRise ∉ s.pending →
    Host.Core.run Sys2Proof.core s.pending.length s = .next { s with pending := [] })

/-- With power, VIN_FALL answers a device in Off: flash and the fuse registers keep their contents, every other register
reads its reset value, SRAM reads zero. Without power, VIN_RISE answers a powered device in state Boot with cause
power-on, only PD_AON on, and flash and fuse registers as they were. No other register than PWR_SYSREF and
TWN_BUS_STATUS (straps) and the fuses differs from its reset value then. -/
def Obligations.SupplyCommandsMoveBetweenOffAndBoot : Prop :=
  ∀ s : State,
    (s.pwr.powered = true → answers .vinFall s (fun e =>
      e.isOff = true ∧ e.flash = s.flash ∧ e.ram = [] ∧ (∀ a, isFuse a = true → rd e a = rd s.toDev a) ∧
      (∀ a, isFuse a = false → rd e a = resetOf a))) ∧
    (s.pwr.powered = false → answers .vinRise s (fun e =>
      e.pwr.powered = true ∧ devState e = 1 ∧ fld e PWR_STATUS_boot_cause = 1 ∧ rd e PWR_DOM_STATUS = 1#32 ∧
      e.flash = s.flash ∧ (∀ a, isFuse a = true → rd e a = rd s.toDev a) ∧
      (∀ a, isFuse a = false → a ≠ PWR_SYSREF → a ≠ TWN_BUS_STATUS → rd e a = resetOf a)))

/-- For every command that a requester sends (every register write, read, burst or configuration write that names one), at
every state where that requester does not reach the device (a PCIe function with PD_CTL off, PERST_N low or the link
down; firmware with PD_CTL off; anyone without power), the command answers the state unchanged. -/
def Obligations.UnreachedRequesterChangesNothing : Prop :=
  ∀ (i : Instr) (r : Req) (s : State), cmdReq i = some r → reaches s.toDev r = false → exec i s = .next s

/-- For every command that is a write of one register, at every state where the requester reaches the device without full
rights and the register is none that R63 lets it write, the command answers the next state in which only the refusal
is recorded (obsRefuse); the presence window and the command's operands play no part. The refusal sets
HIF_ERR.obs_write, adds 1 to HIF_OBS_DROP up to 0xFFFF, and puts the requester's code into HIF_ERR.who where no error
bit was set and leaves who otherwise. Where the register's domain is off the access is counted in HIF_OFF_ACCESS too
(R78), else where it belongs to another requester's bulk channel HIF_ERR.owned is set (R79). No other register outside
the performance counters changes, and no memory, no latched or held word. -/
def Obligations.ObserverWriteIsRefused : Prop :=
  (∀ (i : Instr) (r : Req) (a : Nat) (s : State), cmdWrite i = some (r, a) → reaches s.toDev r = true →
    fullRights s.toDev r = false → obsMayWrite s.toDev r a = false → runsTo i s (obsRefuse r a s.toDev)) ∧
  (∀ (r : Req) (a : Nat) (d : Dev),
    fld (obsRefuse r a d) HIF_ERR_obs_write = 1 ∧
    fld (obsRefuse r a d) HIF_OBS_DROP_count = min 0xFFFF (fld d HIF_OBS_DROP_count + 1) ∧
    fld (obsRefuse r a d) HIF_ERR_who = (if bitsOf (rd d HIF_ERR) 0 5 = 0 then reqCode r else fld d HIF_ERR_who) ∧
    (regOn d a = false → fld (obsRefuse r a d) HIF_ERR_off_domain = 1 ∧
      fld (obsRefuse r a d) HIF_OFF_ACCESS_count = satU HIF_OFF_ACCESS_count.wd (fld d HIF_OFF_ACCESS_count + 1)) ∧
    (regOn d a = true → sameRegsBut [HIF_ERR, HIF_OBS_DROP] d (obsRefuse r a d)) ∧
    (regOn d a = true → (othersChan d r a).isSome = true → fld (obsRefuse r a d) HIF_ERR_owned = 1) ∧
    sameRegsBut [HIF_ERR, HIF_OBS_DROP, HIF_OFF_ACCESS] d (obsRefuse r a d) ∧ sameMem d (obsRefuse r a d) ∧
    (obsRefuse r a d).latch = d.latch ∧ (obsRefuse r a d).held = d.held)

/-- For every command that is a write of one register, at every state where the requester may write it but the register's
domain is off, the command answers the next state in which only the access is recorded (offAccess): HIF_ERR.off_domain
is set, HIF_OFF_ACCESS.count is raised by 1 (saturating), HIF_OFF_ACCESS.block holds the block number of the register
and HIF_ERR.who the requester where no error bit was set. Event 0x0401 is raised only where the requester's last one
is 1 ms old or more by the published time: else no pending event is set and the recorder is offered none. No other
register outside the performance counters and no memory changes. -/
def Obligations.OffDomainWriteIsDiscarded : Prop :=
  (∀ (i : Instr) (r : Req) (a : Nat) (s : State), cmdWrite i = some (r, a) → reaches s.toDev r = true →
    (fullRights s.toDev r || obsMayWrite s.toDev r a) = true → regOn s.toDev a = false →
    runsTo i s (offAccess r a s.toDev)) ∧
  (∀ (r : Req) (a : Nat) (d : Dev),
    fld (offAccess r a d) HIF_ERR_off_domain = 1 ∧
    fld (offAccess r a d) HIF_OFF_ACCESS_count = satU HIF_OFF_ACCESS_count.wd (fld d HIF_OFF_ACCESS_count + 1) ∧
    fld (offAccess r a d) HIF_OFF_ACCESS_block = blkNum a % 2 ^ HIF_OFF_ACCESS_block.wd ∧
    fld (offAccess r a d) HIF_ERR_who = (if bitsOf (rd d HIF_ERR) 0 5 = 0 then reqCode r else fld d HIF_ERR_who) ∧
    (∀ t, cget (fun _ => none) d.hif.offAt (reqCode r) = some t → t ≤ now16 d → now16 d < t + ms16 →
      (offAccess r a d).evq = d.evq ∧ (offAccess r a d).log = d.log) ∧
    sameRegsBut [HIF_ERR, HIF_OFF_ACCESS] d (offAccess r a d) ∧ sameMem d (offAccess r a d))

/-- For a requester and an EVQ register, the observation rights let the write through exactly where the register is
EVQ_TGT_CTL, EVQ_TGT_RD or EVQ_TGT_REC_SEL of the requester's own target (TGT_PF0 0, TGT_PF1 1, TGT_SPI 2 for SPI and
I2C). So masks, pending bits, targets, EVQ_RETARGET and EVQ_HOLD need full rights: a write of one by a requester that
reaches the device without full rights is refused. -/
def Obligations.ObserverEvqRightsAreItsOwnTarget : Prop :=
  (∀ (r : Req) (a : Nat) (d : Dev), 0x040000 ≤ a → a < 0x050000 →
    (obsMayWrite d r a = true ↔ ∃ t, ownTarget r = some t ∧ (a = EVQ_TGT_CTL t ∨ a = EVQ_TGT_RD t ∨ a = EVQ_TGT_REC_SEL t))) ∧
  (∀ (r : Req) (a : Nat) (v : Word) (d : Dev), 0x040000 ≤ a → a < 0x050000 → a % 4 = 0 → reaches d r = true →
    fullRights d r = false → (¬ ∃ t, ownTarget r = some t ∧ (a = EVQ_TGT_CTL t ∨ a = EVQ_TGT_RD t ∨ a = EVQ_TGT_REC_SEL t)) →
    busWrite r a v d = obsRefuse r a d)

/-- For a register whose row names for each bit which access code it has, a write of v over the old contents gives: an RW
bit takes the written bit; an RWP bit takes it only with the presence window open and keeps its value otherwise; of
the other bits a W1S bit is set by a 1, a W1C bit is cleared by a 1, and every bit that has none of these codes keeps
its value. -/
def Obligations.AccessCodesActBitwise : Prop :=
  ∀ (row : RegRow) (window : Bool) (old v : Word) (i : Nat), i < 32 →
    (row.rw.testBit i = true → row.w1c.testBit i = false → row.w1s.testBit i = false →
      (codeWrite row window old v).getLsbD i = v.getLsbD i) ∧
    (row.rwp.testBit i = true → row.rw.testBit i = false → row.w1c.testBit i = false → row.w1s.testBit i = false →
      (codeWrite row window old v).getLsbD i = if window then v.getLsbD i else old.getLsbD i) ∧
    (row.w1s.testBit i = true → row.rw.testBit i = false → row.rwp.testBit i = false → row.w1c.testBit i = false →
      (codeWrite row window old v).getLsbD i = (old.getLsbD i || v.getLsbD i)) ∧
    (row.w1c.testBit i = true → row.rw.testBit i = false → row.rwp.testBit i = false → row.w1s.testBit i = false →
      (codeWrite row window old v).getLsbD i = (old.getLsbD i && !(v.getLsbD i))) ∧
    (row.rw.testBit i = false → row.rwp.testBit i = false → row.w1c.testBit i = false → row.w1s.testBit i = false →
      (codeWrite row window old v).getLsbD i = old.getLsbD i)

/-- REGISTER_WRITE of a BND register without a rule of its own writes its bits by their access codes and nothing else.
RC_READ of HIF_OBS_DROP returns its value, and clears the count for a requester with full rights only.
LOW_WORD_LATCH_READ of a 64-bit BND register returns the low word and latches the high word for that requester alone,
which its next read of the high word returns. HIGH_WORD_COMMIT of TB_STEP, TB_SLEW_AMT or an alarm target or period
writes the requester's held low word (the current one if it holds none) and the high word together, and the held word
is used up. No other register, latch or held word changes. -/
def Obligations.RegisterAccessesComplete : Prop :=
  (∀ (r : Req) (a : BarAddr) (v : Word) (row : RegRow) (s : State), granted s.toDev r a.toNat = true →
    0x0B0000 ≤ a.toNat → a.toNat < 0x0C0000 → a.toNat % 4 = 0 → rowOf a.toNat = some row → row.wide = 0 → row.sel = 0 →
    row.rwp = 0 →
    runsTo (.registerWrite r a v) s
      (wr a.toNat (codeWrite row (windowOpen s.toDev) (rd s.toDev a.toNat) v) s.toDev)) ∧
  (∀ (r : Req) (s : State), readable s.toDev r HIF_OBS_DROP = true →
    runsTo (.rcRead r (BitVec.ofNat 32 HIF_OBS_DROP)) s
      { (if fullRights s.toDev r = true then wr HIF_OBS_DROP (rd s.toDev HIF_OBS_DROP &&& 0xFFFF0000#32) s.toDev
          else s.toDev) with resp := [rd s.toDev HIF_OBS_DROP] }) ∧
  (∀ (r : Req) (a : Nat) (s : State),
    a ∈ [BND_SUM_LO, BND_EPOCH_LO, BND_FREEBOARD_LO, BND_HOLD_T_LO, BND_LIMIT_LO] → readable s.toDev r a = true →
    runsTo (.lowWordLatchRead r (BitVec.ofNat 32 a)) s
      { latchHigh r (a + 4) (rd s.toDev (a + 4)) s.toDev with resp := [rd s.toDev a] } ∧
    (highLatched s.toDev (a + 4) r = true → answers (.rcRead r (BitVec.ofNat 32 (a + 4))) s (fun e =>
      e.resp = [latched s.toDev (a + 4) r] ∧ e.regs = s.regs ∧ highLatched e (a + 4) r = false))) ∧
  (∀ (r : Req) (n : Fin 8) (a : Nat) (hi : Word) (s : State),
    (a = TB_STEP_HI ∨ a = TB_SLEW_AMT_HI ∨ a = TB_ALARM_TGT_HI n ∨ a = TB_ALARM_PER_HI n) → granted s.toDev r a = true →
    runsTo (.highWordCommit r (BitVec.ofNat 32 a) hi) s
      (setHeld (a - 4) r none (wr a hi (wr (a - 4) ((heldLow s.toDev (a - 4) r).getD (rd s.toDev (a - 4))) s.toDev))))

/-- With power: VIN_WARN writes PWR_VIN and PWR_STATUS.vin_warn, and on the fall below PWR_VIN_WARN raises 0x0C03 after a
state block written at once if PD_CTL is on. CK_32K_SOURCE_CHANGE to the other source sets PWR_STATUS.ck_rc and raises
0x0C0A; a stop of the crystal is also a contained fault of unit 0x3F. RAIL_FAULT of a SerDes rail raises 0x0C04,
fences each powered quad with cause 0x04 and takes the Millrace link down; of VDD_CORE or VDD_SRAM it is a fatal fault
of unit 0x3F with cause 0x04. A retry in Boot with PD_CTL off that finds the rails good turns the stages on with every
rail fault cleared; one that is due and finds a fault of VDD_CORE or VDD_SRAM turns the stages off and waits a second
more. A PMBUS_POLL with one valid stage takes its status and the readings of its rail and raises 0x0C05 for a fault
bit. STAGE_ALERT raises 0x0C05 with stage and status. AVS_STEP with the loop enabled moves the VDD_CORE target by one
5 mV step within PWR_AVS.min and max. Each next state is stated exactly, so everything else is unchanged. -/
def Obligations.SupplySensorsComplete : Prop :=
  (∀ (mv : BitVec 16) (s : State), s.pwr.powered = true →
    let d1 := setB PWR_STATUS_vin_warn (decide (mv.toNat < fld s.toDev PWR_VIN_WARN_mV)) (setF PWR_VIN_mV mv.toNat s.toDev)
    (mv.toNat < fld s.toDev PWR_VIN_WARN_mV → flag s.toDev PWR_STATUS_vin_warn = false →
      runsTo (.vinWarn mv) s (raise 0x0C03 mv.toNat (if domOn s.toDev .ctl = true then withFreeBit stateBlock d1 else d1))) ∧
    (¬ (mv.toNat < fld s.toDev PWR_VIN_WARN_mV ∧ flag s.toDev PWR_STATUS_vin_warn = false) → runsTo (.vinWarn mv) s d1)) ∧
  (∀ (crystal : Bool) (s : State), s.pwr.powered = true → flag s.toDev PWR_STATUS_ck_rc = crystal →
    let d1 := raise 0x0C0A (b2n (!crystal)) (setB PWR_STATUS_ck_rc (!crystal) s.toDev)
    runsTo (.ck32kSourceChange crystal) s (if crystal = true then d1 else reportUnit 0x3F 0x04 .contained 0x0C0A 1 d1)) ∧
  (∀ (x : Rail) (s : State), s.pwr.powered = true → 2 ≤ railNum x →
    let d0 := if railNum x = 2 then setF (PWR_RAIL_STAT_good 2) 0 (setF (PWR_RAIL_STAT_fault 2) 1 s.toDev) else s.toDev
    let d1 := railEvent (railNum x) false d0
    let d2 := forEach (List.range 4) (fun q y => doIf (domOnN y (10 + q))
      (fun z => fenceOut (0x14 + q) 0x04 (reportUnit (0x14 + q) 0x04 .contained 0x0C04 (railNum x) z)) y) d1
    runsTo (.railFault x) s (if twnAlive d2 = true then linkTo 0 d2 else d2)) ∧
  (∀ (x : Rail) (s : State), s.pwr.powered = true → railNum x < 2 →
    let d0 := setF (PWR_RAIL_STAT_good (railNum x)) 0 (setF (PWR_RAIL_STAT_fault (railNum x)) 1 s.toDev)
    let d1 := railEvent (railNum x) true { d0 with pwr := { d0.pwr with railAt := now16 d0 + 10 * ms16 } }
    runsTo (.railFault x) s (if domOn s.toDev .ctl = true then fatalReport 0x3F 0x04 0x0C04 (railNum x) d1
      else reportUnit 0x3F 0x04 .fatal 0x0C04 (railNum x) d1)) ∧
  (∀ s : State, s.pwr.powered = true → devState s.toDev = 1 → domOn s.toDev .ctl = false →
    runsTo (.railFaultRetry true) s
      (setF (PWR_RAIL_STAT_fault 2) 0 (setF (PWR_RAIL_STAT_fault 1) 0 (setF (PWR_RAIL_STAT_fault 0) 0 (stages true s.toDev)))) ∧
    (flag s.toDev (PWR_RAIL_STAT_fault 0) = true → s.pwr.railAt ≤ now16 s.toDev →
      runsTo (.railFaultRetry false) s (stages false { s.toDev with pwr := { s.pwr with railAt := now16 s.toDev + sec16 } })) ∧
    (flag s.toDev (PWR_RAIL_STAT_fault 0) = false → flag s.toDev (PWR_RAIL_STAT_fault 1) = false →
      runsTo (.railFaultRetry false) s s.toDev)) ∧
  (∀ (q : StageReading) (rs : List StageReading) (k : Fin 6) (s : State), s.pwr.powered = true → rs[k.val]? = some q →
    (∀ j, j < 6 → flag s.toDev (PWR_STG_ADDR_valid j) = decide (j = k.val)) → s.pwr.stagesOff = true →
    let n := k.val - 3
    let d1 := setF (PWR_STG_STATUS_status k.val) q.status.toNat s.toDev
    runsTo (.pmbusPoll rs) s
      (setF (PWR_RAIL_STAT_temp n) q.temp.toNat (setF (PWR_RAIL_I_mA n) q.iout.toNat (setF (PWR_RAIL_V_vout n) q.vout.toNat
        (if q.status = 0#16 then d1 else raise 0x0C05 (k.val + q.status.toNat * 65536) d1))))) ∧
  (∀ (k : Fin 6) (w : BitVec 16) (s : State), s.pwr.powered = true →
    runsTo (.stageAlert k w) s (raise 0x0C05 (k.val + w.toNat * 65536) s.toDev)) ∧
  (∀ (margin : BitVec 16) (move : AvsMove) (s : State), s.pwr.powered = true → domOn s.toDev .ctl = true →
    flag s.toDev PWR_AVS_en = true →
    let t := fld s.toDev (PWR_RAIL_V_target 0)
    answers (.avsStep margin move) s (fun e =>
      fld e PWR_AVS_MON_margin = margin.toNat % 2 ^ PWR_AVS_MON_margin.wd ∧
      fld e (PWR_RAIL_V_target 0) = (match move with
        | .up => if t + 5 ≤ fld s.toDev PWR_AVS_max * 5 then t + 5 else t
        | .down => if fld s.toDev PWR_AVS_min * 5 + 5 ≤ t then t - 5 else t
        | .hold => t) % 2 ^ (PWR_RAIL_V_target 0).wd ∧
      sameRegsBut [PWR_AVS_MON, PWR_RAIL_V 0] s.toDev e ∧ sameMem s.toDev e))

/-- With power: RESET_N low enters Boot with cause 2 and holds it there, and from another state PWR_STATUS.state becomes
Boot. Its rising edge samples the straps into PWR_SYSREF.strap and TWN_BUS_STATUS.side. BOOT_SEQUENCE in Boot, with
RESET_N high, PD_CTL off and no fault of a core rail, runs the steps of R457 in order: rails, PD_CTL and core 0, fuses
and archive, the candidate slots, and with an accepted set the rest to Standby; with none it stays. Outside Boot a
domain that is called for and off fills its SRAM, resets its registers, takes the image's values, sets its status bit
and starts its block; one that is not called for and on gives up what it holds, clears its bit and resets its
registers. A missing acknowledge leaves the domain off and raises 0x0C0B with a contained fault of cause 0x03. -/
def Obligations.ResetAndDomainCommandsComplete : Prop :=
  (∀ s : State, s.pwr.powered = true → answers .resetNAssert s (fun e =>
      e.pwr.resetLow = true ∧ fld e PWR_STATUS_boot_cause = 2 ∧ (devState s.toDev ≠ 1 → devState e = 1))) ∧
  (∀ (st : Straps) (s : State), s.pwr.powered = true → answers (.resetNRelease st) s (fun e =>
      e.pwr = { s.pwr with resetLow := false, straps := st } ∧ fld e PWR_SYSREF_strap = st.sysref.val ∧
      flag e TWN_BUS_STATUS_side = st.side ∧ sameRegsBut [PWR_SYSREF, TWN_BUS_STATUS] s.toDev e ∧ sameMem s.toDev e)) ∧
  (∀ (o : BootObs) (s : State), s.pwr.powered = true → devState s.toDev = 1 → s.pwr.resetLow = false →
    domOn s.toDev .ctl = false → flag s.toDev (PWR_RAIL_STAT_fault 0) = false → flag s.toDev (PWR_RAIL_STAT_fault 1) = false →
    let d1 := bootRead o (bootCtl o s.toDev)
    let d2 := trySlots o.readErrs (candidates54 d1) d1
    runsTo (.bootSequence o) s (if d2.img.run.isEmpty = true then d2 else bootRun o d2)) ∧
  (∀ (p : Dom) (s : State), s.pwr.powered = true → p ≠ .aon → devState s.toDev ≠ 1 →
    domWanted s.toDev (domNum p) = true → domOn s.toDev p = false →
    let n := domNum p
    runsTo (.domainPowerUp p) s (hiddenUp n (setDom n true (imageDom n (resetDom n (fillDom n s.toDev)))))) ∧
  (∀ (p : Dom) (s : State), s.pwr.powered = true → p ≠ .aon → devState s.toDev ≠ 1 →
    domWanted s.toDev (domNum p) = false → domOn s.toDev p = true →
    let n := domNum p
    runsTo (.domainPowerDown p) s (resetDom n (setDom n false (hiddenDown n s.toDev)))) ∧
  (∀ (p : Dom) (s : State), s.pwr.powered = true → p ≠ .aon → domOn s.toDev p = false →
    let n := domNum p
    runsTo (.domainAckTimeout p) s (reportUnit (firstUnit n) 0x03 .contained 0x0C0B n (raise 0x0C0B n s.toDev)))

/-- A write of PWR_DOM_OFF in Standby or Serve that names only declared optional domains, and not the SerDes reference
domain while a quad stays on, holds the named domains off and settles the domains in the order of R452. With no
transition pending, a request for Serve in Standby, for Standby in Serve or for Low water in Standby with a set that
runs from flash sets PWR_STATUS.busy and makes the transition wait for the next 1 ms epoch, changing nothing else but
PWR_STATUS; a request for the present state answers cause 0 at once. -/
def Obligations.StateRequestsComplete : Prop :=
  (∀ (r : Req) (v : Word) (s : State), granted s.toDev r PWR_DOM_OFF = true → running s.toDev = true →
    (∀ n, n < 14 → bitAt v n = true → canHold s.toDev n = true) →
    (bitAt v (serdesDom s.toDev) = true → ∀ n, n ∈ [10, 11, 12, 13] → domOnN s.toDev n = true → bitAt v n = true) →
    runsTo (.pwrDomOffWrite r v) s (settleDoms (setF PWR_RESULT_cause 0 (setF PWR_DOM_OFF_hold v.toNat s.toDev)))) ∧
  (∀ (r : Req) (s : State), granted s.toDev r PWR_REQ = true → s.pwr.trans = .none →
    (devState s.toDev = 3 → runsTo (.reqServe r) s
      (setF PWR_STATUS_busy 1 { s.toDev with pwr := { s.pwr with trans := .toServe } })) ∧
    (devState s.toDev = 4 → runsTo (.reqServe r) s (setF PWR_RESULT_cause 0 s.toDev)) ∧
    (devState s.toDev = 4 → runsTo (.reqStandby r) s
      (setF PWR_STATUS_busy 1 { s.toDev with pwr := { s.pwr with trans := .toStandby } })) ∧
    (devState s.toDev = 3 → runsTo (.reqStandby r) s (setF PWR_RESULT_cause 0 s.toDev)) ∧
    (devState s.toDev = 3 → fld s.toDev IMG_STATUS_source ≠ 2 → runsTo (.reqLowWater r) s
      (setF PWR_STATUS_lw 0 (setF PWR_STATUS_busy 1 { s.toDev with pwr := { s.pwr with trans := .toLow } }))))

/-- With power: an enabled wake source in Low water is latched in PWR_WAKE_SRC and the device exits to Boot; during an
entry into Low water it ends the entry with cause 0x06. The exit target, armed and due on the low-power counter, is
disarmed and acts as source 2. DISCIPLINE_WAKE and the start of GNSS_WAKE in Low water, each when its period has
passed, start the wake together with the other kind where that is due (step 1 to 4 of R460; without lock of PLL_TICK
the discipline part fails), or join the wake that runs. DISCIPLINE_MEASUREMENT with a prediction and a good
measurement writes the increment and raises BND_HOLD_BASE as R461 computes, and ends the discipline wake; a bad one
fails it. Stored ephemerides are noted with their time; a tracking for new ones ends at its limit. A wake over its
limit raises 0x0C08 with reason 2 and ends. -/
def Obligations.LowWaterCommandsComplete : Prop :=
  (∀ (k : Fin 9) (s : State), s.pwr.powered = true → wakeEnabled s.toDev k.val = true →
    (s.pwr.trans = .toLow → runsTo (.wakeSource k) s (raise 0x0C02 6 (setF PWR_RESULT_cause 6 (setF PWR_STATUS_busy 0
      { s.toDev with pwr := { s.pwr with trans := .none } })))) ∧
    (s.pwr.trans ≠ .toLow → devState s.toDev = 2 →
      runsTo (.wakeSource k) s (lwExit (setF ⟨PWR_WAKE_SRC, k.val, 1⟩ 1 s.toDev)))) ∧
  (∀ s : State, s.pwr.powered = true → s.pwr.exitArmed = true → due (rd64 s.toDev PWR_LW_EXIT_LO) (near s.toDev) = true →
    runsTo .lwExitTargetDue s (wakeBy 2 { s.toDev with pwr := { s.pwr with exitArmed := false } })) ∧
  (∀ (load lock : Bool) (s : State), s.pwr.powered = true → devState s.toDev = 2 → fld s.toDev PWR_STATUS_lw ≠ 0 →
    let w := wakesDue s.toDev
    let d1 := wakeStart w.1 w.2 load lock s.toDev
    let d2 := if devState d1 = 2 ∧ d1.pwr.wakeDisc = true ∧ lock = false then discFail d1 else d1
    (w.1 = true → s.pwr.wakeDisc = false →
      (flag s.toDev PWR_STATUS_lw_wake = false → runsTo (.disciplineWake load lock) s d2) ∧
      (flag s.toDev PWR_STATUS_lw_wake = true → runsTo (.disciplineWake load lock) s (wakeJoin true false s.toDev))) ∧
    (w.2 = true → s.pwr.wakeGnss = false →
      (flag s.toDev PWR_STATUS_lw_wake = false → runsTo (.gnssWake (.start load lock)) s d2) ∧
      (flag s.toDev PWR_STATUS_lw_wake = true → s.pwr.wakeDisc = true →
        runsTo (.gnssWake (.start load lock)) s (wakeJoin false true s.toDev)))) ∧
  (∀ d : Dev,
    (fld d PWR_LW_DISC_s ≠ 0 → d.pwr.nextDisc ≤ now16 d → (wakesDue d).1 = true) ∧
    (rdN d GN_LW_PERIOD ≠ 0 → domDeclared d 6 = true → d.pwr.nextGnss ≤ now16 d → (wakesDue d).2 = true)) ∧
  (∀ (tau : Nat) (p : Int) (s : State), s.pwr.powered = true → devState s.toDev = 2 → s.pwr.wakeDisc = true →
    predAt s.toDev (near s.toDev) = some p →
    let t := discTerms tau (satS 48 (p + s.pwr.lwEns)) s.toDev
    let d1 := wr64 TB_LPC_INC_LO t.1 { s.toDev with lpc := { s.lpc with incAt := s.lpc.ck } }
    runsTo (.disciplineMeasurement tau true) s (discOver (raise 0x0C07 (min t.2 (2 ^ 31 - 1)) (addBase t.2 d1)))) ∧
  (∀ (tau : Nat) (s : State), s.pwr.powered = true → devState s.toDev = 2 → s.pwr.wakeDisc = true →
    runsTo (.disciplineMeasurement tau false) s (discFail s.toDev)) ∧
  (∀ s : State, s.pwr.powered = true →
    (domOn s.toDev .gnss = true → s.pwr.refreshTo = none → runsTo (.gnssWake .ephemerides) s
      { s.toDev with pwr := { s.pwr with ephAt := some (now16 s.toDev), ephBad := false } }) ∧
    (∀ t, s.pwr.refreshTo = some t →
      (t ≤ now16 s.toDev → runsTo (.gnssWake .refreshOver) s (gnssOver s.toDev)) ∧
      (now16 s.toDev < t → runsTo (.gnssWake .refreshOver) s s.toDev))) ∧
  (∀ s : State, s.pwr.powered = true → devState s.toDev = 2 → flag s.toDev PWR_STATUS_lw_wake = true →
    s.pwr.wakeAt + fld s.toDev PWR_LW_CTL_wake_max * sec16 < now16 s.toDev →
    runsTo .wakeMaxExpiry s (wakeEnd (raise 0x0C08 2 s.toDev).pwr.wakeGnss (raise 0x0C08 2 s.toDev)))

/-- IMG_LOAD_HOST in Boot with nothing running checks the staged set and runs it, or refuses it with the cause found.
IMG_RELOAD in Standby or Serve with no reload in progress verifies the staged structure image and makes it wait, with
reload_busy set and the time of its acceptance, or raises 0x0808. RELOAD_APPLY of a waiting image whose epoch has
come, in Standby or Serve without a fatal fault, puts it into the running set, applies its live sections together,
clears reload_busy and raises 0x0807, and 0x0805 where a party is untested. IMG_CONFIRM of a running flash slot that
is not confirmed, and the end of IMG_LKG_TIME seconds without a fatal fault, name the slot in IMG_LKG, clear its
attempts, set confirmed and raise 0x0809. IMG_CLEAR_BAD of slot A or B clears its mark and attempts and starts a
forced state block. Each next state is stated exactly. -/
def Obligations.ImageCommandsComplete : Prop :=
  (∀ (r : Req) (o : BootObs) (s : State), granted s.toDev r IMG_CMD = true → devState s.toDev = 1 → s.img.run = [] →
    let l := setOf (stageImage s.toDev 1) (stageImage s.toDev 2) (stageImage s.toDev 3)
    let c := checkStaged s.toDev l
    runsTo (.imgLoadHost r o) s (if c.cause = 0 then bootRun o (acceptSet c 2 l s.toDev) else imgRefuse c 2 s.toDev)) ∧
  (∀ (r : Req) (s : State), granted s.toDev r IMG_CMD = true → running s.toDev = true →
    s.img.reload = none → s.img.run ≠ [] →
    let b := stageImage s.toDev 1
    let c := checkReload s.toDev b
    runsTo (.imgReload r) s (if c.cause = 0
      then setF IMG_STATUS_reload_busy 1
        { s.toDev with img := { s.img with reload := some b, reloadAt := now16 s.toDev, reloadReady := false } }
      else imgEvent 0x0808 c.builds (imgCause c 2 s.toDev))) ∧
  (∀ (b : List Byte) (s : State), s.pwr.powered = true → s.img.reload = some b → s.img.reloadReady = true →
    s.flt.fatal = [] → running s.toDev = true →
    let d0 := setF IMG_STATUS_reload_busy 0 { s.toDev with img := { s.img with reload := none, reloadReady := false } }
    let u := firstUntested (reloadParties s.toDev b)
    let d1 := putBuilds (applyLive { d0 with img := { d0.img with run := b :: d0.img.run.drop 1 } })
    let d2 := imgEvent 0x0807 none (setB IMG_STATUS_untested u.isSome d1)
    runsTo .reloadApply s (match u with
      | some (_, x, y) => imgEvent 0x0805 (some (x, y)) d2
      | none => d2)) ∧
  (∀ (r : Req) (s : State), confirmable s.toDev = true →
    let slot := fld s.toDev IMG_STATUS_source
    let d1 := setAttempts slot 0 { s.toDev with img := { s.img with lkgValid := true } }
    let d2 := imgEvent 0x0809 none (forceBlock (setF IMG_STATUS_confirmed 1 (setF IMG_LKG_slot slot d1)))
    (granted s.toDev r IMG_CMD = true → runsTo (.imgConfirm r) s d2) ∧
    (s.pwr.powered = true → s.flt.fatal = [] →
      elapsed s.pwr.upAt (Nat.max 1 (fld s.toDev IMG_LKG_TIME_seconds) * sec16) s.toDev = true →
      runsTo .lkgTimeExpiry s d2)) ∧
  (∀ (r : Req) (s : State), granted s.toDev r IMG_CMD = true →
    runsTo (.imgClearBad r 0) s (forceBlock (setAttempts 0 0 { s.toDev with img := { s.img with badA := false } })) ∧
    runsTo (.imgClearBad r 1) s (forceBlock (setAttempts 1 0 { s.toDev with img := { s.img with badB := false } })))

/-- With power, an SPI read frame (single or quad) of n words returns n words, the k-th being a bus read at the address
advanced by 4k on the device that the reads before it left, and the status byte of the first word; an SPI write frame
makes its words one bus write each and sets HIF_ERR.partial for a cut word. The chip answers I2C at 0x5C or 0x5D by
its strap and does the same. A PCIe memory write whose words carry all byte enables writes each in turn, and one word
without them all is discarded with HIF_ERR.partial set; a PCIe read returns its words in turn. -/
def Obligations.SerialInterfacesComplete : Prop :=
  (∀ (a : BarAddr) (n : Nat) (s : State), s.pwr.powered = true →
    let x := burstRead .spi n a s.toDev
    let e := { x.2 with resp := x.1, spiStatus := spiStatusOf s.toDev a.toNat }
    runsTo (.spiRead a n) s e ∧ runsTo (.spiQuadRead a n) s e ∧ e.resp.length = n) ∧
  (∀ (a : BarAddr) (ws : List Word) (s : State), s.pwr.powered = true →
    let e := ws.foldl (fun (p : BarAddr × Dev) w => (p.1 + 4, busWrite .spi p.1.toNat w p.2)) (a, s.toDev)
    (runsTo (.spiWrite a ws false) s e.2 ∧ runsTo (.spiQuadWrite a ws false) s e.2) ∧
    (e.2.pwr.powered = true → runsTo (.spiWrite a ws true) s (hifErr HIF_ERR_partial .spi e.2) ∧
      runsTo (.spiQuadWrite a ws true) s (hifErr HIF_ERR_partial .spi e.2))) ∧
  (∀ (a : BarAddr) (ws : List Word) (s : State), s.pwr.powered = true →
    let adr : BitVec 7 := if s.pwr.straps.i2cA0 = true then 0x5D else 0x5C
    let e := ws.foldl (fun (p : BarAddr × Dev) w => (p.1 + 4, busWrite .i2c p.1.toNat w p.2)) (a, s.toDev)
    runsTo (.i2cWriteTransfer adr a ws false) s e.2 ∧
    (e.2.pwr.powered = true → runsTo (.i2cWriteTransfer adr a ws true) s (hifErr HIF_ERR_partial .i2c e.2))) ∧
  (∀ (a : BarAddr) (n : Nat) (s : State), s.pwr.powered = true →
    let x := i2cRead n a s.toDev
    runsTo (.i2cReadTransfer (if s.pwr.straps.i2cA0 = true then 0x5D else 0x5C) a n) s { x.2 with resp := x.1 } ∧
      x.1.length = n) ∧
  (∀ (f : Pf) (a : BarAddr) (ws : List Word) (s : State), reaches s.toDev (pfReq f) = true →
    let e := ws.foldl (fun (p : BarAddr × Dev) w => (p.1 + 4, busWrite (pfReq f) p.1.toNat w p.2)) (a, s.toDev)
    runsTo (.pcieMemoryWrite f a (ws.map (fun w => (w, 0xF#4)))) s e.2) ∧
  (∀ (f : Pf) (a : BarAddr) (w : Word) (be : BitVec 4) (s : State), reaches s.toDev (pfReq f) = true → be ≠ 0xF#4 →
    runsTo (.pcieMemoryWrite f a [(w, be)]) s (hifErr HIF_ERR_partial (pfReq f) s.toDev)) ∧
  (∀ (f : Pf) (a : BarAddr) (n : Nat) (s : State), reaches s.toDev (pfReq f) = true →
    let x := burstRead (pfReq f) n a s.toDev
    runsTo (.pcieMemoryRead f a n) s { x.2 with resp := x.1 } ∧ x.1.length = n ∧
      (0 < n → x.1.head? = some (busRead (pfReq f) a.toNat s.toDev).1))

/-- With power: PERST_N low resets the endpoint core if PD_CTL is on, sets HIF_STATUS.perst and raises 0x0407; its release
clears perst and acts as a wake source. The link up with PERST_N high and unit 0x3E in service shows speed and width
and raises 0x0406; the link down clears them, releases no channel and raises 0x0405. A held message goes out once
nothing holds it. A configuration write changes what it names: a bit, the payload size, the ASPM states, the AER bits
written as 1, the base of BAR0 (64 MiB) or BAR2 (16 KiB), the message of the MSI-X entry, or the power state. A write
of HIF_MGMT_CTL sets lock by a 1 (a 0 never clears it); spi_full and i2c_full take the written bit, but no bit that is
0 becomes 1 while lock was 1. -/
def Obligations.PcieEndpointCommandsComplete : Prop :=
  (∀ s : State, s.pwr.powered = true → flag s.toDev HIF_STATUS_perst = false →
    runsTo .perstNAssert s (raise 0x0407 0 (setF HIF_STATUS_perst 1
      (if domOn s.toDev .ctl = true then endpointReset s.toDev else s.toDev)))) ∧
  (∀ s : State, s.pwr.powered = true → flag s.toDev HIF_STATUS_perst = true →
    runsTo .perstNRelease s (wakeBy 1 (setF HIF_STATUS_perst 0 s.toDev))) ∧
  (∀ (speed width : Fin 5) (s : State), domOn s.toDev .ctl = true → flag s.toDev HIF_STATUS_perst = false →
    flag s.toDev HIF_STATUS_link_up = false → unitOut s.toDev 0x3E = false →
    let d1 := setF HIF_STATUS_link_up 1
      (setF HIF_STATUS_speed speed.val (setF HIF_STATUS_width width.val (linkDebug s.toDev)))
    runsTo (.pcieLinkUp speed width) s (raise 0x0406 0 { d1 with hif := { d1.hif with wakeHost := false } })) ∧
  (∀ s : State, s.pwr.powered = true → flag s.toDev HIF_STATUS_link_up = true →
    runsTo .pcieLinkDown s (raise 0x0405 0 (setF HIF_STATUS_link_up 0
      (setF HIF_STATUS_speed 0 (setF HIF_STATUS_width 0 (linkDebug s.toDev)))))) ∧
  (∀ (f : Pf) (s : State), domOn s.toDev .ctl = true → (pcieFn s.toDev (pfIdx f)).pba = true →
    fnMaySend s.toDev (pfIdx f) = true → runsTo (.msixSend f) s (notifyPf (pfIdx f) s.toDev)) ∧
  (∀ (f : Pf) (on : Bool) (s : State), reaches s.toDev (pfReq f) = true →
    let x := pcieFn s.toDev (pfIdx f)
    runsTo (.pcieConfigWrite f (.busMaster on)) s (setPcieFn (pfIdx f) { x with bme := on } s.toDev) ∧
    runsTo (.pcieConfigWrite f (.msixEnable on)) s (setPcieFn (pfIdx f) { x with msixEn := on } s.toDev) ∧
    runsTo (.pcieConfigWrite f (.functionMask on)) s (setPcieFn (pfIdx f) { x with fmask := on } s.toDev) ∧
    runsTo (.pcieConfigWrite f (.vectorMask on)) s (setPcieFn (pfIdx f) { x with vmask := on } s.toDev) ∧
    runsTo (.pcieConfigWrite f (.pmeEn on)) s (setPcieFn (pfIdx f) { x with pmeEn := on } s.toDev) ∧
    runsTo (.pcieConfigWrite f (.maxPayload on)) s (setPcieFn (pfIdx f) { x with mps256 := on } s.toDev) ∧
    runsTo (.pcieConfigWrite f (.d3 on)) s
      (setF (if f = .pf0 then HIF_STATUS_pf0_d else HIF_STATUS_pf1_d) (if on = true then 3 else 0) s.toDev)) ∧
  (∀ (f : Pf) (l1 l11 l12 : Bool) (u c m : Word) (a : BitVec 64) (s : State), reaches s.toDev (pfReq f) = true →
    let x := pcieFn s.toDev (pfIdx f)
    runsTo (.pcieConfigWrite f (.aspm l1 l11 l12)) s
      (setPcieFn (pfIdx f) { x with aspm := b2n l1 + 2 * b2n l11 + 4 * b2n l12 } s.toDev) ∧
    runsTo (.pcieConfigWrite f (.aerClear u c)) s
      (setPcieFn (pfIdx f) { x with aerUnc := x.aerUnc &&& ~~~u, aerCor := x.aerCor &&& ~~~c } s.toDev) ∧
    runsTo (.pcieConfigWrite f (.bar0 a)) s
      (setPcieFn (pfIdx f) { x with bar0 := a.toNat / 0x4000000 * 0x4000000 } s.toDev) ∧
    runsTo (.pcieConfigWrite f (.bar2 a)) s (setPcieFn (pfIdx f) { x with bar2 := a.toNat / 0x4000 * 0x4000 } s.toDev) ∧
    runsTo (.pcieConfigWrite f (.msixEntry a m)) s
      (setPcieFn (pfIdx f) { x with msgAddr := a.toNat / 4 * 4, msgData := m } s.toDev)) ∧
  (∀ (r : Req) (v : Word) (s : State), granted s.toDev r HIF_MGMT_CTL = true → answers (.hifMgmtLock r v) s (fun e =>
    flag e HIF_MGMT_CTL_lock = (flag s.toDev HIF_MGMT_CTL_lock || bitAt v 2) ∧
    flag e HIF_MGMT_CTL_spi_full =
      (bitAt v 0 && (!(flag s.toDev HIF_MGMT_CTL_lock) || flag s.toDev HIF_MGMT_CTL_spi_full)) ∧
    flag e HIF_MGMT_CTL_i2c_full =
      (bitAt v 1 && (!(flag s.toDev HIF_MGMT_CTL_lock) || flag s.toDev HIF_MGMT_CTL_i2c_full)) ∧
    sameRegsBut [HIF_MGMT_CTL] s.toDev e ∧ sameMem s.toDev e))

/-- A BULK_SEL write with own = 1 of a free channel, for a target that the requester may use, makes it the owner with that
target and direction and clears err; a target it may not use sets err 4 and the channel serves nothing. The owner's
read of the data port of a flash or snapshot channel with words available returns the four bytes at the cursor and
moves it by 4; its write to the staging area stores the word there and moves the cursor. A cursor write takes the
value with bits [1:0] cleared. A flush queues a program for every page in the channel's buffers; an erase outside the
archive queues the erase of the 64 KiB that hold the cursor and counts it. An abort empties the buffers and clears
err, a release also frees the channel. The end of a page program leaves what was read back and sets err 5 if a byte of
the buffer differs from it; the end of an erase leaves 0xFF throughout the sector and no other byte changed. -/
def Obligations.BulkWindowCommandsComplete : Prop :=
  (∀ (r : Req) (c : Fin 8) (v : Word) (s : State), granted s.toDev r (HIF_BULK_SEL c) = true →
    bulkOwner s.toDev c = 0 → bitAt v 5 = true →
    let d2 := wrN (HIF_BULK_SEL c) (bitsOf v 0 4 + b2n (bitAt v 4) * 16 + 32 + reqCode r * 256) s.toDev
    runsTo (.bulkSelWrite r c v) s (snapSettle (if bulkAllowed d2 r c (bitsOf v 0 4) (bitAt v 4) = true
      then setRefused c false (setF (HIF_BULK_STATUS_err c) 0 d2)
      else chanErr r c 4 (setRefused c true (setF (HIF_BULK_STATUS_err c) 0 d2))))) ∧
  (∀ (r : Req) (c : Fin 8) (s : State), readable s.toDev r (HIF_BULK_DATA c) = true →
    bulkOwner s.toDev c = reqCode r → claimRefused s.toDev c = false →
    bulkCursor s.toDev c < bulkEnd s.toDev c → bulkAvail s.toDev c ≠ 0 →
    (bulkTarget s.toDev c = 2 → runsTo (.bulkDataRead r c) s
      { wrN (HIF_BULK_CURSOR c) (bulkCursor s.toDev c + 4) s.toDev with
        resp := [BitVec.ofNat 32 (leNat (flashBytes s.toDev (bulkCursor s.toDev c) 4))] }) ∧
    (bulkTarget s.toDev c = 4 → runsTo (.bulkDataRead r c) s
      { wrN (HIF_BULK_CURSOR c) (bulkCursor s.toDev c + 4) s.toDev with
        resp := [ramWord s.toDev (snapBase + bulkCursor s.toDev c)] })) ∧
  (∀ (r : Req) (c : Fin 8) (v : Word) (s : State), granted s.toDev r (HIF_BULK_DATA c) = true →
    bulkOwner s.toDev c = reqCode r → claimRefused s.toDev c = false →
    flag s.toDev (HIF_BULK_SEL_dir c) = true → bulkCursor s.toDev c < bulkEnd s.toDev c →
    bulkSpace s.toDev c ≠ 0 → bulkTarget s.toDev c = 1 →
    runsTo (.bulkDataWrite r c v) s
      (bulkStep c (setStage (bulkCursor s.toDev c) v s.toDev))) ∧
  (∀ (r : Req) (c : Fin 8) (v : Word) (s : State), granted s.toDev r (HIF_BULK_CURSOR c) = true →
    bulkOwner s.toDev c = reqCode r → bulkTarget s.toDev c ≠ 2 →
    runsTo (.bulkCursorWrite r c v) s (wrN (HIF_BULK_CURSOR c) (v.toNat / 4 * 4) s.toDev)) ∧
  (∀ (r : Req) (c : Fin 8) (s : State), granted s.toDev r (HIF_BULK_CMD c) = true → bulkOwner s.toDev c = reqCode r →
    (bulkTarget s.toDev c = 2 → runsTo (.bulkFlush r c) s (forEach (pagesOf s.toDev c) (startProgram c) s.toDev)) ∧
    (bulkTarget s.toDev c = 2 → flag s.toDev (HIF_BULK_SEL_dir c) = true → claimRefused s.toDev c = false →
      bulkCursor s.toDev c < bulkSize s.toDev 2 → inArchive (bulkCursor s.toDev c) = false →
      runsTo (.bulkErase r c) s (lifeAdd 12 1 (touchSlot (bulkCursor s.toDev c) { s.toDev with hif := { s.hif with
        flashOps := s.hif.flashOps ++
          [{ chan := c, base := bulkCursor s.toDev c / 65536 * 65536, data := [], erase := true }] } }))) ∧
    (bulkTarget s.toDev c ≠ 3 → bulkTarget s.toDev c ≠ 6 →
      runsTo (.bulkAbort r c) s (dropPages c (setF (HIF_BULK_STATUS_err c) 0 s.toDev)) ∧
      runsTo (.bulkRelease r c) s (snapSettle (setRefused c false
        (wrN (HIF_BULK_SEL c) 0 (dropPages c (setF (HIF_BULK_STATUS_err c) 0 s.toDev))))))) ∧
  (∀ (c : Fin 8) (rb : List Byte) (o : FlashOp) (s : State), s.pwr.powered = true → rb.length = 256 →
    s.hif.flashOps.find? (fun o => o.chan == c.val) = some o → o.erase = false → bulkOwner s.toDev c ≠ 0 →
    firstPage s.toDev c = none →
    let d2 := setFlashBytes o.base rb { s.toDev with hif := { s.hif with flashOps := s.hif.flashOps.erase o } }
    ((∀ n b, n < 256 → o.data.getD n none = some b → rb.getD n 0 = b) → runsTo (.flashPageProgramDone c rb) s d2) ∧
    (∀ n b, n < 256 → o.data.getD n none = some b → rb.getD n 0 ≠ b →
      runsTo (.flashPageProgramDone c rb) s (chanErr (ownerReq s.toDev c) c 5 d2))) ∧
  (∀ (c : Fin 8) (o : FlashOp) (s : State), s.pwr.powered = true →
    s.hif.flashOps.find? (fun o => o.chan == c.val) = some o → o.erase = true → firstPage s.toDev c = none →
    answers (.flashEraseDone c) s (fun e =>
      (∀ a, o.base ≤ a → a < o.base + 65536 → flashByte e a = 0xFF#8) ∧
      (∀ a, a < o.base ∨ o.base + 65536 ≤ a → flashByte e a = flashByte s.toDev a) ∧
      e.hif = { s.hif with flashOps := s.hif.flashOps.erase o } ∧ e.regs = s.regs ∧ e.ram = s.ram))

/-- Let a channel stand at the start of a group (k = 0) with time T in units of 2^-54 ns and frequency word F of the
group. On tick k of the group (k = 0 to 4) it stands at group position k, its published time counts floor(T_k / 2^38)
units of 2^-16 ns with T_k = T + floor(k (2^56 + F) / 5), F stays as it is through the group, and the fifth tick
starts the next group at T + 2^56 + F with a frequency word that is the saturated sum of the servo, ensemble and slew
terms. With F = 0 and a T of whole units the published increments of one group are 52,428, 52,429, 52,429, 52,429 and
52,429. -/
def Obligations.GroupOfFiveTicksIsExact : Prop :=
  (∀ (c : Chan) (k : Nat), c.k = 0 → k < 5 →
    let f := chanF c
    let ck := (List.replicate k ()).foldl (fun x _ => tickChan x) c
    let tk := c.t + (k * ((2 : Int) ^ 56 + f).toNat) / 5
    ck.k = k ∧ ck.f = c.f ∧ chanT ck = tk ∧ chanPub ck % 2 ^ 64 = tk / 2 ^ 38 % 2 ^ 64 ∧
    (tickChan (tickChan (tickChan (tickChan (tickChan c))))).t = c.t + ((2 : Int) ^ 56 + f).toNat ∧
    (tickChan (tickChan (tickChan (tickChan (tickChan c))))).k = 0 ∧
    (let n := tickChan (tickChan (tickChan (tickChan (tickChan c))))
     n.f = satS 48 (c.servo + c.ens + n.slew)) ∧ 0 ≤ (2 : Int) ^ 56 + f) ∧
  (∀ (c : Chan) (m : Nat), c.k = 0 → c.t = m * 2 ^ 38 → chanF c = 0 →
    chanPub (tickChan c) = m + 52428 ∧ chanPub (tickChan (tickChan c)) = m + 52428 + 52429 ∧
    chanPub (tickChan (tickChan (tickChan c))) = m + 52428 + 2 * 52429 ∧
    chanPub (tickChan (tickChan (tickChan (tickChan c)))) = m + 52428 + 3 * 52429 ∧
    (tickChan (tickChan (tickChan (tickChan (tickChan c))))).t = (m + 262144) * 2 ^ 38)

/-- With PD_TB on and TB seeded and its instant reached, EPOCH_1US steps the epoch counters of the channels, copies the
servo state into them, lets the disturbances reach their channels, fixes the next instant, compares the state vectors,
restarts the PLLs and fires the captures that wait for it, and counts itself. Of three channels in service, none is
touched where all vectors are equal, and one that differs from two equal ones is repaired. EPOCH_1MS in the same
condition does, in this order: the marks of the epoch, the boundary (pending terms, slew start, step or set), the next
instant, REF's work after the reload of the low-power counter, the ledger, the twin's epoch, the PLL monitors, the
output delays, the GNSS stream monitors, the alarms due by a step, what a whole second brings, and the transition of
the device state that waits. -/
def Obligations.EpochCommandsComplete : Prop :=
  (∀ (us : List Upset) (s : State), domOn s.toDev .tb = true → flag s.toDev TB_STATUS_seeded = true →
    s.tb.nextUs ≤ now16 s.toDev →
    let d1 := mapChans (fun c => { c with epochs := c.epochs + 1 }) (holdServo s.toDev)
    let d2 := forEach us (fun u x =>
      { x with tb := setChan x.tb u.chan.val (upsetChan u.word.val u.flip (chan x.tb u.chan.val)) }) d1
    let d3 := { d2 with tb := { d2.tb with nextUs := nextEpoch us16 s.toDev } }
    runsTo (.epoch1us us) s
      (pmcAdd 0x0704 1 (capture1us (forEach (List.range 4) restartPll (compareChans d3))))) ∧
  (∀ d : Dev, inService d = [0, 1, 2] →
    (vecDiff d.tb.ch0 d.tb.ch1 = none → vecDiff d.tb.ch0 d.tb.ch2 = none → compareChans d = d) ∧
    (∀ w, vecDiff d.tb.ch0 d.tb.ch1 = none → vecDiff d.tb.ch0 d.tb.ch2 = some w → compareChans d = repairChan 2 w d) ∧
    (∀ w, vecDiff d.tb.ch0 d.tb.ch1 = some w → vecDiff d.tb.ch0 d.tb.ch2 = none → compareChans d = repairChan 1 w d) ∧
    (∀ w v, vecDiff d.tb.ch0 d.tb.ch1 = some w → vecDiff d.tb.ch0 d.tb.ch2 = some v → vecDiff d.tb.ch1 d.tb.ch2 = none →
      compareChans d = repairChan 0 w d) ∧
    (∀ w v u, vecDiff d.tb.ch0 d.tb.ch1 = some w → vecDiff d.tb.ch0 d.tb.ch2 = some v →
      vecDiff d.tb.ch1 d.tb.ch2 = some u →
      compareChans d = fatalReport 0x03 0x06 0x2003 (w * 16) (raise 0x2003 (w * 16) d))) ∧
  (∀ (o : EpochObs) (s : State), s.pwr.powered = true → domOn s.toDev .tb = true →
    flag s.toDev TB_STATUS_seeded = true → s.tb.nextMs ≤ now16 s.toDev →
    let b := boundary (epochMarks s.toDev)
    let e := if b.2.1 = true then alignGn (alignEpochs b.2.2)
      else { b.2.2 with tb := { b.2.2.tb with nextMs := nextEpoch ms16 b.2.2 } }
    let d1 := refWork (lpcReload e)
    let d2 := twinEpoch b.1 (ledgerStep o.adder d1)
    let d3 := streamMonitors o.streams (outEpoch (pllMonitors o.mons d2))
    let d4 := dsgLocked (refreshPreds (if b.2.1 = true then fireDueAlarms d3 else d3))
    let d5 := if now16 d4 % sec16 < ms16 then wholeSecond d4 else d4
    runsTo (.epoch1ms o) s (transition o.block d5)) ∧
  (∀ (i w : Nat) (d : Dev), (repairChan i w d).tb.odd = some i ∧ (repairChan i w d).tb.repTotal = d.tb.repTotal + 1)

/-- TB_CMD.step with nothing pending, a policy that permits it and a step beyond the threshold arms TB_STEP in every
channel in service and sets step_pending; TB_CMD.set in Standby with nanoseconds in range arms the set of TB_SET;
TB_CMD.slew adds TB_SLEW_AMT to what waits for the boundary; TB_CMD.cancel drops a pending step or set and any slew,
and reports cause 0x06 with the command that was pending, or 3 for a slew alone. TB_CMD.readmit of a fenced channel
starts its test with TB_RESULT unchanged, and a passed test loads and readmits it with cause 0x00 of command 4. A
passed self-test within the repair limit loads the odd channel and ends the repair. A step that waited TB_STEP_WAIT is
refused with cause 0x03. The end of a slew clears slew_active with event 0x2007. Each next state is exact. -/
def Obligations.TimeAdjustmentCommandsComplete : Prop :=
  (∀ (r : Req) (s : State), granted s.toDev r TB_CMD = true → stepPending s.toDev = false →
    (policyPermits s.toDev = true →
      rdN s.toDev TB_STEP_THRESH * 65536 < (rdS64 s.toDev TB_STEP_LO).natAbs →
      let d1 := mapChans (fun c => { c with step := some (rdS64 s.toDev TB_STEP_LO) }) s.toDev
      runsTo (.tbStep r) s (setB TB_STATUS_step_pending true { d1 with tb := { d1.tb with armedAt := near s.toDev } })) ∧
    (devState s.toDev = 3 → rdN s.toDev TB_SET_NS ≤ 999999999 →
      let v := ((rdN s.toDev TB_SET_SEC_LO + 2 ^ 32 * rdN s.toDev TB_SET_SEC_HI) * 1000000000 + rdN s.toDev TB_SET_NS) * 65536 +
        rdN s.toDev TB_SET_FRAC
      let d1 := mapChans (fun c => { c with set := some v }) s.toDev
      runsTo (.tbSet r) s (setB TB_STATUS_set_pending true { d1 with tb := { d1.tb with armedAt := near s.toDev } }))) ∧
  (∀ (r : Req) (s : State), granted s.toDev r TB_CMD = true →
    runsTo (.tbSlew r) s
      { s.toDev with tb := { s.tb with slewAdd := some (s.tb.slewAdd.getD 0 + rdS64 s.toDev TB_SLEW_AMT_LO) } }) ∧
  (∀ (r : Req) (s : State), granted s.toDev r TB_CMD = true →
    let stop := fun (x : Dev) =>
      let y := mapChans (fun c => { c with rem := 0 }) x
      { y with tb := { y.tb with slewAdd := none, slewEnding := false } }
    (stepPending s.toDev = true → runsTo (.tbCancel r) s
      (tbRefuse 0x06 (pendCmd s.toDev) (stop (dropPending { s.toDev with ref := { s.ref with stepPend := none } })))) ∧
    (stepPending s.toDev = false → slewExists s.toDev = true → runsTo (.tbCancel r) s (tbRefuse 0x06 3 (stop s.toDev))) ∧
    (stepPending s.toDev = false → slewExists s.toDev = false → runsTo (.tbCancel r) s s.toDev)) ∧
  (∀ (r : Req) (ch : BitVec 2) (s : State), granted s.toDev r TB_CMD = true → ch.toNat < 3 →
    chanFenced s.toDev ch.toNat = true → s.tb.readmit = none →
    runsTo (.tbReadmit r ch) s (modUnit ch.toNat (fun x => { x with state := 3, byBlock := true })
      { s.toDev with tb := { s.tb with readmit := some ch.toNat } })) ∧
  (∀ (i : Nat) (s : State), s.pwr.powered = true → s.tb.readmit = some i → (funit s.toDev i).byBlock = true →
    let d2 := tbResult 0x00 4 { s.toDev with tb := { s.tb with readmit := none } }
    runsTo (.tbReadmitDone true) s
      (admitUnit i (raise 0x200E i (settleVoter (setF ⟨TB_STATUS, 4 + i, 1⟩ 0 (loadChan i d2)))))) ∧
  (∀ (i : Nat) (s : State), s.pwr.powered = true → s.tb.odd = some i →
    ((fld s.toDev TB_VOTE_CTL_repair_limit = 0 ∨ cget (fun _ => 0) s.tb.reps i ≤ fld s.toDev TB_VOTE_CTL_repair_limit) →
      let d1 := loadChan i s.toDev
      runsTo (.channelSelftestDone true) s (settleVoter { d1 with tb := { d1.tb with odd := none } })) ∧
    runsTo (.channelSelftestDone false) s (fenceChan i false s.toDev)) ∧
  (∀ s : State, s.pwr.powered = true → stepPending s.toDev = true →
    due (s.tb.armedAt + atLeast1 (fld s.toDev TB_STEP_WAIT_ms) * 1000000 * 65536) (near s.toDev) = true →
    runsTo .stepWaitExpiry s (refStepRefused (tbRefuse 0x03 (pendCmd s.toDev) (dropPending s.toDev)))) ∧
  (∀ s : State, s.pwr.powered = true → flag s.toDev TB_STATUS_slew_active = true → s.tb.slewEnding = true →
    runsTo .slewComplete s (groupMarks (mapChans endGroup s.toDev)))

/-- A read of TB_NOW_FRAC or TB_NEAR_LO by a requester that reaches PD_TB latches the ten time registers of one tick for
that requester and returns its own word of the same tick: nanoseconds below 10^9 and the second, near time, fraction
from one voted time, GPS week and time of week from TAI - 315,964,819 s. An enabled alarm whose target is due fires:
fired is set, event 0x200C raised; one without a period ends disabled, a periodic one has its target advanced past the
present time with the advances beyond the first added to skipped. An entry of the leap-second table is stored with
event 0x2009 where its second is later and its offset differs by one from the entry before it, else refused with
0x200A and nothing stored. A new offset takes effect with event 0x200B, not before the whole second after the entry's
commit. The end of the calendar raises 0x200D once. -/
def Obligations.TimeReadingCommandsComplete : Prop :=
  (∀ (r : Req) (viaNear : Bool) (s : State), reaches s.toDev r = true → domOn s.toDev .tb = true →
    answers (.timeLatchRead r viaNear) s (fun e =>
      (∀ w ∈ timeWords s.toDev, latched e w.1 r = BitVec.ofNat 32 w.2) ∧
      e.resp = [BitVec.ofNat 32 (if viaNear = true then now16 s.toDev % 2 ^ 32 else now16 s.toDev % 65536)] ∧
      e.regs = s.regs ∧ sameMem s.toDev e)) ∧
  (∀ d : Dev, timeWords d = [(TB_NOW_FRAC, now16 d % 65536), (TB_NOW_NS, now16 d / 65536 % 1000000000),
    (TB_NOW_SEC_LO, now16 d / sec16 % 2 ^ 48 % 2 ^ 32), (TB_NOW_SEC_HI, now16 d / sec16 % 2 ^ 48 / 2 ^ 32),
    (TB_NEAR_LO, now16 d % 2 ^ 32), (TB_NEAR_HI, now16 d / 2 ^ 32 % 2 ^ 32), (TB_UTC_DATE, (utcWords d (taiSec d)).1),
    (TB_UTC_TIME, (utcWords d (taiSec d)).2),
    (TB_GPS_WEEK, (((taiSec d : Int) - 315964819) / 604800 % 65536).toNat),
    (TB_GPS_TOW, (((taiSec d : Int) - 315964819) % 604800).toNat)]) ∧
  (∀ (n : Fin 8) (s : State), domOn s.toDev .tb = true → flag s.toDev (TB_ALARM_CTL_enable n) = true →
    due (rd64 s.toDev (TB_ALARM_TGT_LO n)) (near s.toDev) = true →
    let per := rd64 s.toDev (TB_ALARM_PER_LO n)
    let tgt := rd64 s.toDev (TB_ALARM_TGT_LO n)
    let d1 := raise 0x200C n.val
      (setF (TB_ALARM_CTL_by_step n) 0 (setF (TB_ALARM_CTL_fired n) 1 s.toDev))
    ((flag s.toDev (TB_ALARM_CTL_periodic n) = false ∨ per = 0) →
      runsTo (.tbAlarmFire n) s (setF (TB_ALARM_CTL_enable n) 0 d1)) ∧
    (flag s.toDev (TB_ALARM_CTL_periodic n) = true → per ≠ 0 →
      let m := advances (- nearDiff tgt (near s.toDev)).toNat per
      runsTo (.tbAlarmFire n) s (satAdd (TB_ALARM_CTL_skipped n) (m - 1) (wr64 (TB_ALARM_TGT_LO n) (tgt + m * per) d1)))) ∧
  (∀ (r : Req) (hi : Word) (s : State), granted s.toDev r LOG_LEAP_HI = true →
    let i := fld s.toDev LOG_LEAP_SEL_index
    let a := bank LOG_LEAP_LO i
    let e := ((heldLow s.toDev a r).getD (rd s.toDev a)).toNat + 2 ^ 32 * hi.toNat
    let ok := leapBefore s.toDev i = none ∨ ∃ p, leapBefore s.toDev i = some p ∧ leapE p < leapE e ∧
      (leapOff e = leapOff p + 1 ∨ leapOff e = leapOff p - 1)
    (ok → ∃ d2, runsTo (.leapEntrySubmit r hi) s (refreshLeap (raise 0x2009 i d2)) ∧ rd64 d2 a = e ∧
      d2.log.leapDirty = true ∧ d2.log.leapVer = s.log.leapVer + 1 ∧
      sameRegsBut [a, a + 4, LOG_LEAP_COUNT] s.toDev d2) ∧
    (¬ ok → runsTo (.leapEntrySubmit r hi) s (raise 0x200A i (setHeld a r none s.toDev)))) ∧
  (∀ s : State, domOn s.toDev .tb = true →
    (s.tb.leapSec ≠ taiSec s.toDev → leapAt s.toDev (taiSec s.toDev) ≠ sx 16 (fld s.toDev TB_UTC_OFFSET_offset) →
      let off := leapAt s.toDev (taiSec s.toDev)
      runsTo .utcOffsetChange s
        (raise 0x200B (wrapN 32 off) (refreshLeap (setF TB_UTC_OFFSET_offset (wrapN 16 off) s.toDev)))) ∧
    (7258118399 ≤ (taiSec s.toDev : Int) - sx 16 (fld s.toDev TB_UTC_OFFSET_offset) → s.tb.calDone = false →
      runsTo .calendarLimit s (raise 0x200D 0 { s.toDev with tb := { s.tb with calDone := true } })) ∧
    (s.tb.calDone = true → runsTo .calendarLimit s s.toDev))

/-- With MEAS in service: an edge of a pin's selected direction is counted as suppressed inside the hold-off window, else
accepted with its near time and tick and starts the window that MEAS_IN_HOLDOFF sets; an edge of the other direction
changes nothing. A window ends once its ticks have passed. On a granted channel whose request lacks samples and whose
source has its edge, a start edge that the prescaler does not let through only counts; one let through less than 125
ticks after the last accepted start is discarded and counted; any other gives a STAMP request the residual of its
stamp as a sample and an INTERVAL request a start that waits, and no further start is taken while it waits. A stop
edge gives stop minus start minus the nominal as the sample. No stop in time drops the start with timeout. A request
that is being preempted gives its channel up with the edge, or with the end of its interval. -/
def Obligations.MeasEdgesAndCapturesComplete : Prop :=
  (∀ (pin : Fin 8) (f : Bool) (s : State), measOn s.toDev = true →
    let n := rdN s.toDev (MEAS_IN_HOLDOFF pin.val)
    (flag s.toDev (MEAS_IN_CFG_falling pin.val) ≠ f → runsTo (.refinEdge pin f) s s.toDev) ∧
    (flag s.toDev (MEAS_IN_CFG_falling pin.val) = f → inHoldoff s.toDev pin.val = true →
      runsTo (.refinEdge pin f) s (satAdd (MEAS_IN_CFG_sup pin.val) 1 s.toDev)) ∧
    (flag s.toDev (MEAS_IN_CFG_falling pin.val) = f → inHoldoff s.toDev pin.val = false →
      runsTo (.refinEdge pin f) s { s.toDev with meas := { s.meas with
        pinLast := cput (fun _ => none) s.meas.pinLast pin.val (some (near s.toDev))
        pinTick := cput (fun _ => none) s.meas.pinTick pin.val (some s.meas.tick)
        holdEnd := cput (fun _ => none) s.meas.holdEnd pin.val (if n = 0 then none else some (s.meas.tick + n)) } })) ∧
  (∀ (pin : Fin 8) (s : State), s.pwr.powered = true →
    (inHoldoff s.toDev pin.val = true → runsTo (.holdoffExpiry pin) s s.toDev) ∧
    (inHoldoff s.toDev pin.val = false → runsTo (.holdoffExpiry pin) s
      { s.toDev with meas := { s.meas with holdEnd := cput (fun _ => none) s.meas.holdEnd pin.val none } })) ∧
  (∀ (ch : Fin 24) (code : Fin 256) (s : State),
    let q := fld s.toDev (MEAS_CH_OWN_req ch.val)
    let r := mreq s.toDev q
    let src := reqCfg s.toDev q 8 8
    let pre := atLeast1 (bitsOf (rd s.toDev (bank MEAS_REQ_PRESC q)) 0 17)
    let kept := setMreq q { r with presc := 0 } s.toDev
    let first := { kept with meas := { kept.meas with
      startAt := cput (fun _ => none) kept.meas.startAt ch.val (some kept.meas.tick) } }
    let st := stampOf s.toDev ch.val src code.val
    measOn s.toDev = true → fld s.toDev (MEAS_CH_OWN_state ch.val) = 1 → r.n < r.reqN → srcOn s.toDev src = true →
    srcEdge s.toDev src = true →
    (reqCfg s.toDev q 1 1 = 0 →
      (r.presc + 1 < pre → runsTo (.channelCapture ch false code) s
        (holdIfStopping q (setMreq q { r with presc := r.presc + 1 } s.toDev))) ∧
      (pre ≤ r.presc + 1 → tooSoon kept ch.val = true → runsTo (.channelCapture ch false code) s
        (holdIfStopping q (chanOverrun ch.val kept))) ∧
      (pre ≤ r.presc + 1 → tooSoon kept ch.val = false → runsTo (.channelCapture ch false code) s
        (holdIfStopping q (addSample q
          (residual st (reqReg64 s.toDev MEAS_REQ_ANCHOR_LO q) (reqReg64 s.toDev MEAS_REQ_P_LO q)) st first)))) ∧
    (reqCfg s.toDev q 1 1 = 1 →
      (r.pend ≠ none → runsTo (.channelCapture ch false code) s s.toDev) ∧
      (r.pend = none → r.presc + 1 < pre → runsTo (.channelCapture ch false code) s
        (setMreq q { r with presc := r.presc + 1 } s.toDev)) ∧
      (r.pend = none → pre ≤ r.presc + 1 → tooSoon kept ch.val = true →
        runsTo (.channelCapture ch false code) s (chanOverrun ch.val kept)) ∧
      (r.pend = none → pre ≤ r.presc + 1 → tooSoon kept ch.val = false →
        runsTo (.channelCapture ch false code) s (setMreq q { mreq first q with pend := some st } first)))) ∧
  (∀ (ch : Fin 24) (code : Fin 256) (st0 : Nat) (s : State),
    let q := fld s.toDev (MEAS_CH_OWN_req ch.val)
    let r := mreq s.toDev q
    let src := reqCfg s.toDev q 16 8
    let sp := stampOf s.toDev ch.val src code.val
    measOn s.toDev = true → fld s.toDev (MEAS_CH_OWN_state ch.val) = 1 → r.pend = some st0 →
    runsTo (.intervalTimeout ch) s (holdIfStopping q (setMreq q { r with pend := none, timeout := true } s.toDev)) ∧
    (r.n < r.reqN → srcOn s.toDev src = true → srcEdge s.toDev src = true →
      runsTo (.channelCapture ch true code) s (holdIfStopping q
        (addSample q (nearDiff sp st0 - sx 64 (reqReg64 s.toDev MEAS_REQ_ANCHOR_LO q)) sp
          (setMreq q { r with pend := none } s.toDev)))))

/-- With MEAS in service, a decision of the scheduler starts the skew runs that are due, ends the preemptions whose time
is up, and then, outside the first calibration, grants the first waiting request that may have a channel, or starts
the preemption of a victim for the first waiting request that no preemption under way serves, or does no more. A
request whose age limit has passed since its last result raises 0x2404 once and sets starved. A request with its
samples publishes its result, goes on to its next state and gives the result to its client; one that reaches its next
due time does the same with preempted set. At a whole second MEAS_LOAD takes the channel time of each class since the
last one; above 24,000 channel-milliseconds demanded it raises 0x2406 and sets oversub. When MEAS is lost, every
request that is not Idle waits with cleared accumulators and the first calibration is due again. -/
def Obligations.MeasRequestsAndSchedulerComplete : Prop :=
  (∀ s : State, measOn s.toDev = true →
    let d1 := startSkews (stopLate s.toDev)
    let wants := (waitList d1)[(stoppingReqs d1).length]?
    (d1.meas.initCal = true → runsTo .schedulerGrant s d1) ∧
    (d1.meas.initCal = false →
      (∀ q c, nextGrant d1 = some (q, c) → runsTo .schedulerGrant s (grant q c d1)) ∧
      (nextGrant d1 = none → wants = none → runsTo .schedulerGrant s d1) ∧
      (∀ q, nextGrant d1 = none → wants = some q → victim d1 (reqClass d1 q) = none → runsTo .schedulerGrant s d1) ∧
      (∀ q v, nextGrant d1 = none → wants = some q → victim d1 (reqClass d1 q) = some v →
        runsTo .schedulerGrant s (preempt v d1)))) ∧
  (∀ (q : Fin 96) (s : State), measOn s.toDev = true → reqState s.toDev q.val ≠ 0 →
    (reqReg s.toDev MEAS_REQ_AGELIM q.val ≠ 0 → (mreq s.toDev q.val).starved = false →
      ((reqReg s.toDev MEAS_REQ_AGELIM q.val * 65536000000 : Nat) : Int) < nearDiff (near s.toDev) (mreq s.toDev q.val).lastRes →
      runsTo (.requestAgeLimit q) s
        (raise 0x2404 q.val (setB MEAS_STATUS_starved true (setMreq q.val { mreq s.toDev q.val with starved := true } s.toDev)))) ∧
    ((mreq s.toDev q.val).starved = true → runsTo (.requestAgeLimit q) s s.toDev) ∧
    ((reqState s.toDev q.val = 2 ∨ reqState s.toDev q.val = 3) → (mreq s.toDev q.val).reqN ≤ (mreq s.toDev q.val).n →
      ∀ latch : Int, runsTo (.requestComplete q latch) s
        (resultHook q.val latch (afterResult q.val (publish q.val false false s.toDev)))) ∧
    (0 < reqReg64 s.toDev MEAS_REQ_REPEAT_LO q.val →
      due (((mreq s.toDev q.val).due + reqReg64 s.toDev MEAS_REQ_REPEAT_LO q.val) % 2 ^ 64) (near s.toDev) = true →
      runsTo (.requestDue q) s (resultHook q.val 0 (afterResult q.val (publish q.val false true s.toDev))))) ∧
  (∀ s : State, measOn s.toDev = true →
    let d := loadSync s.toDev
    let total := ((List.range 8).map (loadMs d.meas.loadD)).foldl (· + ·) 0
    let d1 := forEach (List.range 8) (fun p x => setF (MEAS_LOAD_granted p) (satU 16 (loadMs d.meas.loadG p))
      (setF (MEAS_LOAD_demand p) (satU 16 (loadMs d.meas.loadD p)) x)) d
    let d2 := { d1 with meas := { d1.meas with loadD := [], loadG := [], loadSec := taiSec d } }
    (taiSec s.toDev = s.meas.loadSec → runsTo .measLoadSecond s s.toDev) ∧
    (taiSec s.toDev ≠ s.meas.loadSec → total ≤ 24000 → runsTo .measLoadSecond s d2) ∧
    (taiSec s.toDev ≠ s.meas.loadSec → 24000 < total →
      runsTo .measLoadSecond s (raise 0x2406 total (setB MEAS_STATUS_oversub true d2)))) ∧
  (∀ s : State, s.pwr.powered = true → measOn s.toDev = false →
    let d1 := forEach allReqs (fun q x => if reqState x q = 0 then x else setReqState q 1 (clearAcc q (releaseChan q x))) s.toDev
    runsTo .measPowerLoss s { d1 with meas := { d1.meas with
      shadow := none, holdEnd := [], startAt := [], skewDue := [], initCal := true } })

/-- MEAS_CAL_CMD.inl_full starts a full INL run and MEAS_CAL_CMD.skew_all makes the skew of every channel that is not
fenced due. A reading of a 1 ms epoch makes the skews that are a MEAS_CAL_PERIOD old due, and starts a full run when
none runs and MEAS_CAL_PERIOD has passed since the last passing one or the converter moved beyond its limit. An INL
run of 256 codes stores the hits; with a missing code the result is 2, with a peak above 99 it is 3, else 1; a passed
run waits in the shadow for the next epoch and sets cal_valid, a failed one raises 0x2402 with the table unchanged. A
skew run's mean becomes the channel's skew; of magnitude up to 3277 (50 ps) it frees the channel, a greater one fences
it, resolves a contained fault of its unit, leaves the unit partly fenced and raises 0x2407. A reserve write whose
total is at most 24 takes effect, one above it leaves the reserves. -/
def Obligations.MeasCalibrationCommandsComplete : Prop :=
  (∀ (r : Req) (s : State), granted s.toDev r MEAS_CAL_CMD = true →
    runsTo (.measCalInlFull r) s (setB MEAS_STATUS_cal_busy true { s.toDev with meas := { s.meas with fullRun := true } }) ∧
    runsTo (.measCalSkewAll r) s { s.toDev with meas := { s.meas with
      skewDue := (List.range 24).filter (fun c => fld s.toDev (MEAS_CH_OWN_state c) != 3) } }) ∧
  (∀ (temp : Int) (s : State), measOn s.toDev = true →
    let d1 := { s.toDev with meas := { s.meas with skewDue := s.meas.skewDue ++ skewLate s.toDev } }
    (flag s.toDev MEAS_STATUS_cal_busy = true → runsTo (.inlRunTrigger temp) s d1) ∧
    (flag s.toDev MEAS_STATUS_cal_busy = false →
      ((s.meas.inlAt + calPeriod s.toDev ≤ now16 s.toDev ∨ inlTempMoved temp s.toDev = true) →
        runsTo (.inlRunTrigger temp) s (startInl true d1)) ∧
      (now16 s.toDev < s.meas.inlAt + calPeriod s.toDev → inlTempMoved temp s.toDev = false →
        runsTo (.inlRunTrigger temp) s d1))) ∧
  (∀ (hits : List Nat) (temp : Int) (s : State), measOn s.toDev = true → flag s.toDev MEAS_STATUS_cal_busy = true →
    hits.length = 256 →
    let pos := inlTable (if s.meas.fullRun = true then 2 ^ 20 else 2 ^ 16) 0 hits
    let d1 := forEach (List.range 256) (fun c x => wrN (bank MEAS_INL_HITS c) (hits.getD c 0 % 2 ^ 20) x) s.toDev
    let done := fun v => setF MEAS_CAL_STATUS_last v (setF MEAS_CAL_STATUS_inl_peak (inlPeak pos) (setB MEAS_STATUS_cal_busy false d1))
    ((∃ c, c < 256 ∧ hits.getD c 0 = 0) → runsTo (.inlRunComplete hits temp) s (endInitCal (raise 0x2402 2 (done 2)))) ∧
    ((∀ c, c < 256 → hits.getD c 0 ≠ 0) →
      (99 < inlPeak pos → runsTo (.inlRunComplete hits temp) s (endInitCal (raise 0x2402 3 (done 3)))) ∧
      (inlPeak pos ≤ 99 → runsTo (.inlRunComplete hits temp) s (endInitCal (setB MEAS_STATUS_cal_valid true
        { done 1 with meas := { s.meas with shadow := some (pos, temp), lastTemp := some temp, inlAt := now16 s.toDev } }))))) ∧
  (∀ (ch : Fin 24) (sum : Int) (s : State), measOn s.toDev = true → fld s.toDev (MEAS_CH_OWN_state ch.val) = 2 →
    let m := skewMean sum
    let v := wrapN 16 (satS 16 m)
    let u := if ch.val < 12 then 0x07 else 0x08
    let d1 := setF (MEAS_SKEW_d_ch ch.val) v { s.toDev with meas := { s.meas with
      skewDue := s.meas.skewDue.filter (fun c => c != ch.val)
      skewAt := cput (fun _ => 0) s.meas.skewAt ch.val (now16 s.toDev) } }
    (m.natAbs ≤ 3277 → runsTo (.skewRunComplete ch sum) s (endInitCal (setF (MEAS_CH_OWN_state ch.val) 0 d1))) ∧
    (3277 < m.natAbs → runsTo (.skewRunComplete ch sum) s (endInitCal (raise 0x2407 (ch.val + v * 65536)
      (partFence u (resolved u 0x07 2 0x2407 (ch.val + v * 65536) false (fenceMch ch.val d1))))))) ∧
  (∀ (r : Req) (p : Fin 8) (v : Word) (s : State), granted s.toDev r (MEAS_RESERVE p.val) = true →
    let total := ((List.range 8).map (fun c =>
      if c = p.val then bitsOf v 0 5 else fld s.toDev (MEAS_RESERVE_channels c))).foldl (· + ·) 0
    (total ≤ 24 → runsTo (.measReserveWrite r p v) s (fieldWrite r (MEAS_RESERVE p.val) v s.toDev)) ∧
    (24 < total → runsTo (.measReserveWrite r p v) s s.toDev))

/-- A feed whose slot the requester may address (kind 0x6, and for firmware 0x4 to 0x6) becomes a sample of that slot with
REF_RESULT 0; any other is discarded with cause 0x05. With PD_TB on: a slot that is silent for its timeout keeps hard
cause 0x1 (or the cause it has) for the next epoch; a Qualifying slot whose qualification time has passed becomes
Qualified; a Suspect slot whose cause has been absent for its clearing time becomes Qualified; a Qualified slot
without ten results becomes Suspect with cause 0xC; a SyncE slot without an ESMC PDU for 5 s takes quality 0xF; two
usable slots of equal rank that disagree for REF_DISAGREE_TIME are both Suspect with cause 0x8, event 0x2804, and a
new disagreement goes to arbitration. A transition sets the slot's state and cause and, of the registers, writes only
that slot's state register. -/
def Obligations.ReferenceSlotCommandsComplete : Prop :=
  (∀ (r : Req) (hi : Word) (s : State), granted s.toDev r REF_FEED_E_HI = true →
    let d1 := commit64 r REF_FEED_E_HI hi s.toDev
    let n := fld d1 REF_FEED_SEL_slot
    let may := (r = .fw ∧ 4 ≤ slotKind d1 n ∧ slotKind d1 n ≤ 6) ∨ (r ≠ .fw ∧ slotKind d1 n = 6)
    (may → runsTo (.refFeed r hi) s (setF REF_RESULT_cause 0x00 (feedSample n (rdS64 d1 REF_FEED_E_LO) (fld d1 REF_FEED_U_u)
      (flag d1 REF_FEED_U_suspect) (flag d1 REF_FEED_U_invalid) d1))) ∧
    (¬ may → runsTo (.refFeed r hi) s (setF REF_RESULT_cause 0x05 d1))) ∧
  (∀ (n : Fin 32) (s : State), domOn s.toDev .tb = true →
    (slotKind s.toDev n.val ≠ 0 → fld s.toDev (REF_SLOT_JWIN_timeout n.val) ≠ 0 →
      slotQuiet s.toDev n.val (fld s.toDev (REF_SLOT_JWIN_timeout n.val)) = true → runsTo (.slotSignalTimeout n) s
      (setRslot n.val { rslot s.toDev n.val with hard := if (rslot s.toDev n.val).hard = 0 then 1 else (rslot s.toDev n.val).hard }
        s.toDev)) ∧
    (slotState s.toDev n.val = 1 → fld s.toDev REF_QUAL_qual_time * 1000 ≤ (rslot s.toDev n.val).qualMs →
      runsTo (.qualifyTimerExpiry n) s (slotTo n.val 2 0 s.toDev)) ∧
    (slotState s.toDev n.val ≠ 1 → runsTo (.qualifyTimerExpiry n) s s.toDev) ∧
    (slotState s.toDev n.val = 3 → (rslot s.toDev n.val).causeMs + 1000 * fld s.toDev REF_QUAL_sus_clear ≤ s.ref.ms →
      runsTo (.suspectClearExpiry n) s (slotTo n.val 2 0 s.toDev)) ∧
    (slotState s.toDev n.val = 2 → unmeasured s.toDev n.val = true →
      runsTo (.slotResultTimeout n) s (slotTo n.val 3 0xC s.toDev)) ∧
    (slotKind s.toDev n.val = 3 → (rslot s.toDev n.val).esmcMs + 5000 ≤ s.ref.ms →
      runsTo (.esmcTimeout n) s (setQl n.val 0xF s.toDev))) ∧
  (∀ (a b : Fin 32) (s : State), domOn s.toDev .tb = true → pairApart s.toDev a.val b.val = true →
    apartDone s.toDev a.val b.val = true →
    let susp := fun (n : Nat) (x : Dev) => if slotState x n = 2 then slotTo n 3 0x8 x else setF (REF_SLOT_STATE_cause n) 0x8 x
    let d1 := raise 0x2804 (a.val + b.val * 256) (susp b.val (susp a.val s.toDev))
    let p : Disagree := { a := a.val, b := b.val, judged := false, held := false }
    let known := d1.ref.disagrees.any (fun q => q.a == a.val && q.b == b.val)
    (known = true → runsTo (.disagreeTimeExpiry a b) s d1) ∧
    (known = false → runsTo (.disagreeTimeExpiry a b) s
      (arbitrate p { d1 with ref := { d1.ref with disagrees := d1.ref.disagrees ++ [p] } }))) ∧
  (∀ (n st c : Nat) (d : Dev), n < 32 → st < 4 → c < 16 →
    slotState (slotTo n st c d) n = st ∧ fld (slotTo n st c d) (REF_SLOT_STATE_cause n) = c ∧
    sameRegsBut [(REF_SLOT_STATE_state n).reg] d (slotTo n st c d))

/-- REF_CMD.switch selects a candidate entry by hand, else cause 0x02; auto ends the manual selection; hold forces
Holdover; release ends it and has the servo evaluated anew. tick_switch in Acquire or Locked to another present
oscillator makes it current, with the summary no longer valid and the running interval not clean; else cause 0x03 and
no change. Acquire goes to Locked once the error was within the window for REF_LOCK.time. A history entry is written
when the epochs since the last make up its interval, and the sums restart. A commit of the ensemble term waits, with
its rate, for the next epoch; a term that is not written again in REF_ENS_CTL.timeout clears valid and the rate with
event 0x280D. REF_SERVO_BW is clamped to 1 to 10,000 mHz with the gains following, and the committed Holdover model
holds f0, f1 and the time of the commit. -/
def Obligations.ReferenceServoCommandsComplete : Prop :=
  (∀ (r : Req) (s : State), granted s.toDev r REF_CMD = true →
    (∀ (e : Fin 16) (c : Nat × Nat × Nat), (candidates s.toDev).find? (fun c => c.2.1 == e.val) = some c →
      runsTo (.refSwitch r e) s (setF REF_RESULT_cause 0x00 (setB REF_STATUS_manual true (setActive (some (c.2.1, c.2.2)) s.toDev)))) ∧
    (∀ e : Fin 16, (candidates s.toDev).find? (fun c => c.2.1 == e.val) = none →
      runsTo (.refSwitch r e) s (setF REF_RESULT_cause 0x02 s.toDev)) ∧
    runsTo (.refAuto r) s (setF REF_RESULT_cause 0x00 (setB REF_STATUS_manual false s.toDev)) ∧
    runsTo (.refHold r) s (setF REF_RESULT_cause 0x00 (setB REF_STATUS_forced_hold true s.toDev)) ∧
    (flag s.toDev REF_STATUS_forced_hold = true → runsTo (.refRelease r) s (setF REF_RESULT_cause 0x00
      (setB REF_STATUS_forced_hold false { s.toDev with ref := { s.ref with changed := true } }))) ∧
    (flag s.toDev REF_STATUS_forced_hold = false → runsTo (.refRelease r) s (setF REF_RESULT_cause 0x00
      (setB REF_STATUS_forced_hold false s.toDev))) ∧
    (let n := fld s.toDev REF_TICK_SEL_next
     let may := (fld s.toDev REF_STATUS_servo = 1 ∨ fld s.toDev REF_STATUS_servo = 2) ∧ flag s.toDev (REF_OSC_CFG_present n) = true ∧
       n ≠ fld s.toDev REF_TICK_SEL_current
     (may → runsTo (.refTickSwitch r) s (setF REF_RESULT_cause 0x00 (tickHops (fld s.toDev REF_TICK_SEL_current) n
       (setF REF_TICK_SEL_current n (setB REF_HOLD_SUM_CTL_valid false
         { s.toDev with ref := { s.ref with acc := { s.ref.acc with clean := false } } }))))) ∧
     (¬ may → runsTo (.refTickSwitch r) s (setF REF_RESULT_cause 0x03 s.toDev)))) ∧
  (∀ s : State, domOn s.toDev .tb = true →
    (∀ m, fld s.toDev REF_STATUS_servo = 1 → s.ref.good = some m → m + 1000 * fld s.toDev REF_LOCK_time ≤ s.ref.ms →
      runsTo .lockTimeExpiry s (servoTo 2 s.toDev)) ∧
    (atLeast1 (fld s.toDev REF_HIST_CTL_interval) * 1000 ≤ s.ref.acc.n → runsTo .historyEntry s (writeHistory s.toDev)) ∧
    (∀ m, s.ref.ensMs = some m → m + 1000 * fld s.toDev REF_ENS_CTL_timeout ≤ s.ref.ms → runsTo .ensembleTimeout s
      (raise 0x280D 0 (setB REF_ENS_CTL_valid false { s.toDev with ref := { s.ref with ensRate := 0, ensMs := none } }))) ∧
    (∀ m, s.ref.ensMs = some m → s.ref.ms < m + 1000 * fld s.toDev REF_ENS_CTL_timeout →
      runsTo .ensembleTimeout s s.toDev)) ∧
  (∀ (r : Req) (hi : Word) (s : State), granted s.toDev r REF_ENS_TERM_HI = true →
    let d1 := commit64 r REF_ENS_TERM_HI hi s.toDev
    runsTo (.ensembleTermCommit r hi) s
      { d1 with ref := { d1.ref with ensPend := some (rdS64 d1 REF_ENS_TERM_LO, sx 32 (rdN d1 REF_ENS_RATE))
                                     ensMs := some d1.ref.ms } }) ∧
  (∀ (r : Req) (v : Word) (s : State), granted s.toDev r REF_SERVO_BW = true →
    let d1 := fieldWrite r REF_SERVO_BW v s.toDev
    let bw := min (max (fld d1 REF_SERVO_BW_mhz) 1) 10000
    runsTo (.servoBwWrite r v) s (refreshGains (setF REF_SERVO_BW_mhz bw d1))) ∧
  (∀ (r : Req) (s : State), granted s.toDev r REF_HOLD_MODEL_CTL = true →
    runsTo (.holdModelCommit r) s (setB REF_HOLD_MODEL_CTL_valid true { s.toDev with ref := { s.ref with
      model := some (rdS64 s.toDev REF_HOLD_MODEL_F0_LO, sx 32 (rdN s.toDev REF_HOLD_MODEL_F1), near s.toDev) } })) ∧
  (∀ d : Dev, (writeHistory d).ref.acc = histAccReset ∧ (writeHistory d).ref.histN = d.ref.histN + 1)

/-- A start of an Off PLL whose target is in range, has a band and leaves its outputs possible works on the target; else
the cause is 0x04, 0x02, 0x01, 0x07 or 0x09. A stop turns a PLL Off. A hop of a Locked PLL outside the SerDes rule to
such a target stops its outputs, voids their calibrations and works on the target; else the cause is 0x04, 0x03 or the
target's. A flush clears the unpinned cache entries. A sweep writes the band tables of the selected Off PLLs. A search
ends Acquiring with its band and tune code in the cache, or Off with cause 0x05 and event 0x3004. An acquiring PLL
that locks is Locked, and the SerDes PLL starts its ports; a Locked PLL that loses lock or reference coasts, and in
any other state but Off a lost reference is shown; a returned reference clears that and makes a coasting PLL acquire.
A bad band entry, or cache entry, loses its validity. The tick beyond 100 ppm is fatal. A clock beyond 100 ppm moves
its domains to their ring clocks with a contained fault of PLL_SYS, and back once it returned. -/
def Obligations.SynthesisPllCommandsComplete : Prop :=
  (∀ (r : Req) (p : Fin 4) (s : State), granted s.toDev r (SYN_PLL_CMD p.val) = true →
    let n := pllN s.toDev p.val
    let cause := fun c => setF (SYN_PLL_RESULT_cause p.val) c
    let d0 := { s.toDev with syn := { s.syn with autoLeft := s.syn.autoLeft.filter (fun x => x != p.val) } }
    (pllState s.toDev p.val ≠ 0 → runsTo (.synPllStart r p) s (cause 0x04 d0)) ∧
    (∀ c, pllState s.toDev p.val = 0 → targetCause s.toDev p.val n = some c →
      runsTo (.synPllStart r p) s (cause c d0)) ∧
    (pllState s.toDev p.val = 0 → targetCause s.toDev p.val n = none →
      runsTo (.synPllStart r p) s (cause 0x00 (seekPll p.val n d0))) ∧
    runsTo (.synPllStop r p) s (cause 0x00 (offPll p.val d0)) ∧
    (((spll s.toDev p.val).hop = true ∨ pllState s.toDev p.val ≠ 3) → runsTo (.synPllHop r p) s (cause 0x04 s.toDev)) ∧
    ((spll s.toDev p.val).hop = false → pllState s.toDev p.val = 3 →
      (fld s.toDev SYN_STATUS_serdes_pll = p.val → quadsPowered s.toDev = true →
        runsTo (.synPllHop r p) s (cause 0x03 s.toDev)) ∧
      (¬ (fld s.toDev SYN_STATUS_serdes_pll = p.val ∧ quadsPowered s.toDev = true) →
        (∀ c, targetCause s.toDev p.val n = some c → runsTo (.synPllHop r p) s (cause c s.toDev)) ∧
        (targetCause s.toDev p.val n = none →
          let d1 := forEach (pllOuts s.toDev p.val) (calInvalid 2) (stopOuts p.val s.toDev)
          runsTo (.synPllHop r p) s
            (cause 0x00 (seekPll p.val n (setSpll p.val { spll d1 p.val with hop := true } d1)))))) ∧
    runsTo (.synPllFlush r p) s (cause 0x00 (forEach (List.range 32) (fun e x =>
      if flag x (SYN_HOP_CTL_pin p.val e) = true then x else setF (SYN_HOP_CTL_valid p.val e) 0 x) s.toDev))) ∧
  (∀ (d : Dev) (p n : Nat), targetCause d p n =
    if vcoOk d p n = false then some 0x02
    else if chooseBand d p (vcoOf d p n) = none then some 0x01 else outsCause d p (vcoOf d p n)) ∧
  (∀ (r : Req) (m : BitVec 4) (l : List (List (BitVec 17 × BitVec 17))) (s : State), granted s.toDev r SYN_CMD = true →
    runsTo (.synSweep r m l) s (forEach (List.range 4) (fun p x =>
      if m.toNat / 2 ^ p % 2 = 1 then
        sweepPll p ((l.map (fun l => l.map (fun m => (m.1.toNat, m.2.toNat)))).getD p []) x else x) s.toDev)) ∧
  (∀ (p : Fin 4) (codes : List (BitVec 16)) (s : State), s.pwr.powered = true → pllOn s.toDev p.val = true →
    let n := (spll s.toDev p.val).n
    let found := searchBands 5 ((chooseBand s.toDev p.val (vcoOf s.toDev p.val n)).getD 0) (codes.map BitVec.toNat)
    (pllState s.toDev p.val = 1 →
      (∀ b t, found = some (b, t) → runsTo (.bandSearchComplete p codes) s (pllTo p.val 2
        (setF (SYN_PLL_STATUS_band p.val) b (wrN (SYN_PLL_TUNE p.val) t (writeHop p.val n b t s.toDev))))) ∧
      (found = none → runsTo (.bandSearchComplete p codes) s (reportUnit (0x0B + p.val) 0x04 .contained 0x3004 p.val
        (raise 0x3004 p.val (setF (SYN_PLL_RESULT_cause p.val) 0x05 (offPll p.val s.toDev)))))) ∧
    (pllState s.toDev p.val = 2 →
      (serdesPll s.toDev ≠ p.val → runsTo (.pllLock p) s (lockPll p.val s.toDev)) ∧
      (serdesPll s.toDev = p.val → runsTo (.pllLock p) s (refreshPreds (forEach (List.range 8) startPort
        (if devState (lockPll p.val s.toDev) = stBoot then lockPll p.val s.toDev else settleDoms (lockPll p.val s.toDev)))))) ∧
    (pllState s.toDev p.val = 3 → runsTo (.pllLockLoss p) s (refreshPreds (coastPll p.val false s.toDev)) ∧
      runsTo (.pllReferenceLoss p) s (refreshPreds (coastPll p.val true s.toDev))) ∧
    (pllState s.toDev p.val ≠ 3 → runsTo (.pllLockLoss p) s s.toDev ∧ (pllState s.toDev p.val ≠ 0 →
      runsTo (.pllReferenceLoss p) s (setF (SYN_PLL_STATUS_ref_lost p.val) 1 s.toDev))) ∧
    (pllState s.toDev p.val = 4 → runsTo (.pllReferenceReturn p) s
      (pllTo p.val 2 (setF (SYN_PLL_STATUS_ref_lost p.val) 0 s.toDev))) ∧
    (∀ e : Fin 32, runsTo (.bandEntryParity p (.hop e)) s (setF (SYN_HOP_CTL_valid p.val e.val) 0 s.toDev)) ∧
    (∀ b : Fin 128, let par := p.val + b.val * 256
      runsTo (.bandEntryParity p (.band b)) s (reportUnit (0x0B + p.val) 0x01 .corrected 0x300B par
        (raise 0x300B par (setF (SYN_BAND_MIN_valid p.val b.val) 0 s.toDev))))) ∧
  (∀ s : State, domOn s.toDev .tb = true → runsTo .tickOutOfRange s (fatalReport 0x0F 0x04 0 0 s.toDev)) ∧
  (∀ (pl : Bool) (s : State), domOn s.toDev .ctl = true →
    let doms := if pl = true then [7, 9] else [1, 6, 8]
    let d1 := refreshRing { s.toDev with pwr := { s.pwr with ringDoms := s.pwr.ringDoms ++ doms } }
    let d2 := if pl = true then (if domOn s.toDev .pkt = true then forEach (List.range 4) dropInFlight d1 else d1)
      else setF CTL_STATUS_ring_clock 1 (if dmaOn d1 = true then dropBeat d1 else d1)
    ((∀ n ∈ doms, n ∉ s.pwr.ringDoms) → runsTo (.pllClockFallback pl) s (reportUnit 0x10 0x04 .contained 0 0 d2)) ∧
    ((∃ n ∈ doms, n ∈ s.pwr.ringDoms) →
      let d3 := { s.toDev with pwr := { s.pwr with ringDoms := s.pwr.ringDoms.filter (fun n => !(doms.contains n)) } }
      runsTo (.pllClockReturn pl) s (refreshRing (if pl = true then d3 else setF CTL_STATUS_ring_clock 0 d3))))

/-- A write of SYN_OUT_CFG whose divider keeps the output at or below 1.6 GHz and whose align is possible takes effect
with cause 0x00: a disabled output stops, a running one runs on, one that may run starts, and any other waits,
squelched where its PLL coasted beyond the squelch limit; a divider out of range is refused with 0x07 and an
impossible align with 0x09, and nothing else changes. A commit of SYN_PPS_PH_HI with period, width and phase in range
waits with pending for a quiet epoch, else cause 0x07 with the held low word dropped. A write of SYN_PPS_CFG that
changes enable waits likewise. At a 1 ms epoch that is quiet, or while the output is disabled, the waiting change
takes effect. A calibration older than SYN_CAL_AGELIM loses its validity with 0x3007. A realigning output with nothing
left to stretch and its delay at its target is done with 0x300A. -/
def Obligations.OutputCommandsComplete : Prop :=
  (∀ (r : Req) (o : Fin 16) (v : Word) (s : State), granted s.toDev r (SYN_OUT_CFG o.val) = true →
    let d1 := fieldWrite r (SYN_OUT_CFG o.val) v s.toDev
    let p := outPll d1 o.val
    let en := flag d1 (SYN_OUT_CFG_enable o.val)
    let al := flag d1 (SYN_OUT_CFG_align o.val)
    let done := fun d2 => setF (SYN_PLL_RESULT_cause p) 0x00 (calRequest o.val d2)
    (divOk d1 p (outDiv d1 o.val) = true → (al = false ∨ alignOk d1 p (outDiv d1 o.val) = true) →
      (en = false → runsTo (.synOutCfgWrite r o v) s (done (outRun o.val false (setF (SYN_OUT_STATUS_squelched o.val) 0 d1)))) ∧
      (en = true → flag d1 (SYN_OUT_STATUS_running o.val) = true → runsTo (.synOutCfgWrite r o v) s (done (outRun o.val true d1))) ∧
      (en = true → flag d1 (SYN_OUT_STATUS_running o.val) = false → outMay d1 o.val = true →
        runsTo (.synOutCfgWrite r o v) s (done (startOut o.val d1))) ∧
      (en = true → flag d1 (SYN_OUT_STATUS_running o.val) = false → outMay d1 o.val = false →
        runsTo (.synOutCfgWrite r o v) s (done
          (setB (SYN_OUT_STATUS_squelched o.val) ((spll d1 p).coasted && squelches d1 o.val) d1)))) ∧
    (divOk d1 p (outDiv d1 o.val) = false →
      runsTo (.synOutCfgWrite r o v) s (setF (SYN_PLL_RESULT_cause p) 0x07 s.toDev)) ∧
    (divOk d1 p (outDiv d1 o.val) = true → al = true → alignOk d1 p (outDiv d1 o.val) = false →
      runsTo (.synOutCfgWrite r o v) s (setF (SYN_PLL_RESULT_cause p) 0x09 s.toDev))) ∧
  (∀ (r : Req) (q : Fin 4) (hi : Word) (s : State), granted s.toDev r (SYN_PPS_PH_HI q.val) = true →
    let d1 := commit64 r (SYN_PPS_PH_HI q.val) hi s.toDev
    let per := rd64 d1 (SYN_PPS_PER_LO q.val)
    let wid := rdN d1 (SYN_PPS_WID q.val)
    let ph := rd64 d1 (SYN_PPS_PH_LO q.val)
    let ok := 2 * 65536000000 ≤ per ∧ per ≤ 1000 * 65536000000000 ∧ 8 ≤ wid ∧ wid * 65536 + 65601536000 ≤ per ∧ ph < per
    (ok → runsTo (.ppsPhaseCommit r q hi) s (setF (SYN_PLL_RESULT_cause (ppsPll q.val)) 0x00 (setF (SYN_PPS_STATUS_pending q.val) 1
      (setSpps q.val { spps d1 q.val with newSet := some (per, wid, ph) } d1)))) ∧
    (¬ ok → runsTo (.ppsPhaseCommit r q hi) s (setF (SYN_PLL_RESULT_cause (ppsPll q.val)) 0x07
      (setHeld (SYN_PPS_PH_LO q.val) r none s.toDev)))) ∧
  (∀ (r : Req) (q : Fin 4) (v : Word) (s : State), granted s.toDev r (SYN_PPS_CFG q.val) = true →
    let d1 := fieldWrite r (SYN_PPS_CFG q.val) v s.toDev
    let x := spps d1 q.val
    let en := flag d1 (SYN_PPS_CFG_enable q.val)
    let d2 := ppsRun q.val x.en (calRequest (16 + q.val) d1)
    (en = x.en → x.newEn = none → runsTo (.ppsEnableWrite r q v) s d2) ∧
    (en ≠ x.en → runsTo (.ppsEnableWrite r q v) s
      (setF (SYN_PPS_STATUS_pending q.val) 1 (setSpps q.val { x with newEn := some en } d2)))) ∧
  (∀ (q : Fin 4) (s : State), s.pwr.powered = true → domOnN s.toDev (if q.val < 2 then 4 else 5) = true →
    s.syn.msTick = some s.meas.tick → flag s.toDev (SYN_PPS_STATUS_pending q.val) = true →
    (((spps s.toDev q.val).en = false ∨ ppsQuietAt (spps s.toDev q.val) (now16 s.toDev) = true) →
      runsTo (.ppsChangeApply q) s (ppsApply q.val s.toDev)) ∧
    ((spps s.toDev q.val).en = true → ppsQuietAt (spps s.toDev q.val) (now16 s.toDev) = false →
      runsTo (.ppsChangeApply q) s s.toDev)) ∧
  (∀ (o : Fin 20) (s : State), s.pwr.powered = true →
    (fld s.toDev SYN_CAL_AGELIM_s < fld s.toDev (calAge o.val) → flag s.toDev (calValid o.val) = true →
      runsTo (.calAgeExpiry o) s
        (raise 0x3007 (o.val + 1 * 256 + errSat s.toDev o.val * 65536) (setF (calValid o.val) 0 s.toDev))) ∧
    (fld s.toDev (calAge o.val) ≤ fld s.toDev SYN_CAL_AGELIM_s → runsTo (.calAgeExpiry o) s s.toDev)) ∧
  (∀ (o : Fin 16) (s : State), s.pwr.powered = true → flag s.toDev (SYN_OUT_STATUS_realigning o.val) = true →
    (sout s.toDev (outKey s.toDev o.val)).left = 0 →
    rdN s.toDev (outReg s.toDev SYN_OUT_DELAY o.val) = (sout s.toDev (outKey s.toDev o.val)).target →
    runsTo (.outputRealignDone o) s (raise 0x300A o.val (setF (SYN_OUT_STATUS_realigning o.val) 0 s.toDev))) ∧
  (∀ (q : Fin 4) (d : Dev), (spps (ppsApply q.val d) q.val).newSet = none ∧ (spps (ppsApply q.val d) q.val).newEn = none ∧
    (spps (ppsApply q.val d) q.val).en = (spps d q.val).newEn.getD (spps d q.val).en)

/-- A capture of enabled streams of 1 to 20 ms within 8 MiB is armed from Free (or Full with overwrite) with result 0x00;
otherwise cause 0x03, 0x04 or 0x02 with event 0x340B. Cancel frees an Armed buffer and free a Full one; in another
state the cause is 0x03 and nothing else changes. An Armed buffer whose trigger has come begins its capture with the
strobe that stamps the first samples (in a Low water wake as R230 says); a finished capture holds the packed samples
and is Full with event 0x340A, a stream that MEAS did not stamp coarse; a parity error re-arms a valid capture with
trigger 0, one more retake, event 0x340B, the jobs over and holders of target 0x4 with err 6. A job with a supported
signal and parameters in range is queued with result 0x00, running when it is the first, else cause 0x06 or 0x05; an
abort ends a queued job with state 3 and detected 0; the running job publishes metric, detection against the
threshold, code phase, Doppler and C/N0 of its search of the capture with event 0x3407, and the next one runs. -/
def Obligations.GnssSnapshotCommandsComplete : Prop :=
  (∀ (r : Req) (s : State), granted s.toDev r GN_SNAP_CMD = true →
    let mask := fld s.toDev GN_SNAP_CFG_streams
    let ms := fld s.toDev GN_SNAP_CFG_ms
    let free := snapState s.toDev = 0 ∨ (snapState s.toDev = 3 ∧ flag s.toDev GN_SNAP_CFG_overwrite = true)
    let streams := mask ≠ 0 ∧ ∀ n ∈ maskList mask, gsOn s.toDev n = true
    let fits := 1 ≤ ms ∧ ms ≤ 20 ∧ snapTotal s.toDev mask ms ≤ 8388608
    let refused := fun c => raise 0x340B c (wrN GN_RESULT (c + 2 * 256) s.toDev)
    (free → streams → fits → runsTo (.gnSnapCapture r) s
      (wrN GN_RESULT (2 * 256)
        (snapArm mask ms (fld s.toDev GN_SNAP_CFG_trig) (snapRegions mask ms s.toDev)))) ∧
    (¬ free → runsTo (.gnSnapCapture r) s (refused 0x03)) ∧
    (free → ¬ streams → runsTo (.gnSnapCapture r) s (refused 0x04)) ∧
    (free → streams → ¬ fits → runsTo (.gnSnapCapture r) s (refused 0x02)) ∧
    (snapState s.toDev = 1 → runsTo (.gnSnapCancel r) s (wrN GN_RESULT (2 * 256) (setF GN_STATUS_snap 0 s.toDev))) ∧
    (snapState s.toDev ≠ 1 → runsTo (.gnSnapCancel r) s (wrN GN_RESULT (3 + 2 * 256) s.toDev)) ∧
    (snapState s.toDev = 3 → runsTo (.gnSnapFree r) s (wrN GN_RESULT (2 * 256) (setF GN_STATUS_snap 0 s.toDev))) ∧
    (snapState s.toDev ≠ 3 → runsTo (.gnSnapFree r) s (wrN GN_RESULT (3 + 2 * 256) s.toDev))) ∧
  (∀ (pins : List (List Byte)) (s : State), domOn s.toDev .gnss = true →
    (unitOut s.toDev 0x11 = false → snapState s.toDev = 1 → trigReady s.toDev = true →
      (s.gn.capTrig ≠ 3 →
        runsTo .captureTrigger s (snapStrobe 0x68 (if s.gn.trigNow = true then s.gn.capAt else now16 s.toDev) s.toDev)) ∧
      (s.gn.capTrig = 3 → capCause s.toDev s.gn.capMask s.gn.capMs = 0 →
        runsTo .captureTrigger s (snapStrobe 0x78 (now16 s.toDev) (snapRegions s.gn.capMask s.gn.capMs s.toDev)))) ∧
    (snapState s.toDev = 2 → runsTo (.captureComplete pins) s (raise 0x340A
      (s.gn.capMask + fld s.toDev GN_SNAP_STATUS_retakes * 256) (snapSettle (setF GN_STATUS_snap 3
        (forEach (maskList s.gn.capMask) (fun n x => snapStamp n none x) (snapStore pins s.toDev)))))) ∧
    (3 ≤ snapState s.toDev →
      let d1 := forEach (List.range 8) (fun c x =>
        if bulkOwner x c ≠ 0 ∧ fld x (HIF_BULK_SEL_target c) = 4 then setF (HIF_BULK_STATUS_err c) 6 x else x) (endJobs s.toDev)
      let d2 := snapSettle (setF GN_STATUS_snap 1 (raise 0x340B 256 d1))
      runsTo .snapshotParity s (reportUnit 0x13 0x01 .corrected 0 0
        (satAdd GN_SNAP_STATUS_retakes 1 { d2 with gn := { d2.gn with capTrig := 0, trigNow := false, capWait := [] } })))) ∧
  (∀ (r : Req) (s : State), granted s.toDev r GN_ACQ_CMD = true →
    let j := fld s.toDev GN_ACQ_SEL_job
    let cfg := rd s.toDev (bank GN_ACQ_CFG j)
    let sig := signalOk (bitsOf cfg 0 2) (bitsOf cfg 2 4) (bitsOf cfg 6 8)
    (sig = false → runsTo (.gnAcqStart r) s (wrN GN_RESULT (6 + 3 * 256) s.toDev)) ∧
    (sig = true → (jobOk s.toDev j = false ∨ j ∈ s.gn.jobs) → runsTo (.gnAcqStart r) s (wrN GN_RESULT (5 + 3 * 256) s.toDev)) ∧
    (sig = true → jobOk s.toDev j = true → j ∉ s.gn.jobs →
      runsTo (.gnAcqStart r) s (snapSettle (wrN GN_RESULT (3 * 256)
        (wrN (bank GN_ACQ_RES_MET j) ((if s.gn.jobs = [] then 2 else 1) * 2 ^ 28)
          { s.toDev with gn := { s.gn with
              jobs := s.gn.jobs ++ [j]
              jobPar := cput (fun _ => (0, 0)) s.gn.jobPar j (cfg.toNat, (rd s.toDev (bank GN_ACQ_DOP j)).toNat) } })))) ∧
    (j ∈ s.gn.jobs → runsTo (.gnAcqAbort r) s (wrN GN_RESULT (3 * 256) (setF ⟨bank GN_ACQ_RES_MET j, 28, 2⟩ 3
      (setF ⟨bank GN_ACQ_RES_MET j, 26, 1⟩ 0 (dropJob j s.toDev))))) ∧
    (j ∉ s.gn.jobs → runsTo (.gnAcqAbort r) s (wrN GN_RESULT (3 * 256) s.toDev))) ∧
  (∀ (j : Fin 16) (s : State), domOn s.toDev .gnss = true → unitOut s.toDev 0x11 = false → s.gn.jobs.head? = some j.val →
    let res := acqResult s.toDev (acqJob s.toDev j.val)
    let det := decide (fld s.toDev GN_ACQ_THR_thr ≤ res.1)
    let d1 := wrN (bank GN_ACQ_RES_DOP j.val) (wrapN 32 res.2.2.1) (wrN (bank GN_ACQ_RES_CODE j.val) (res.2.1 % 2 ^ 18) s.toDev)
    runsTo (.acqJobComplete j) s (raise 0x3407 (j.val + b2n det * 16) (dropJob j.val
      (wrN (bank GN_ACQ_RES_MET j.val) (res.1 + min res.2.2.2 1023 * 2 ^ 16 + b2n det * 2 ^ 26 + 3 * 2 ^ 28) d1))))

/-- A start of a channel with a supported signal loads it from its registers: Armed while the start index lies ahead, else
Running from it, with late set where the index lies behind; with the correlators out of service it is Stalled; an
unsupported signal is refused with cause 0x06. A stop turns it Off. An Armed channel whose index is reached runs. A
commit of code rate, carrier rate or code adjustment waits for the next integration of an Armed or Running channel,
and else only stands in the register. With PD_GNSS on, the samples of a Running channel's integration are correlated
at its taps and recorded; a strobe latches the channels when the epoch's instant is reached; an interval missing after
200 µs leaves its stream half a sample period and coarse; the records are written. A feed by firmware is forwarded to
the lowest slot of kind 0x5 with its uncertainty and verdicts; another requester gets cause 0x08, a late feed 0x09, a
missing slot 0x07. A change of a verdict is published with event 0x3409. A dump writes no register but the channel's
C/N0, its ring's write index and its stream's sample index. -/
def Obligations.GnssTrackingCommandsComplete : Prop :=
  (∀ (r : Req) (c : Fin 192) (s : State), granted s.toDev r (GN_CH_CMD c.val) = true →
    let n := fld s.toDev (GN_CH_CFG_stream c.val)
    let ok := signalOk n (chSig s.toDev c.val) (fld s.toDev (GN_CH_CFG_prn c.val))
    let x := loadCh c.val s.toDev
    let late := sx 64 (rd64 s.toDev (GN_STREAM_IDX_LO n) + 2 ^ 64 - x.idx)
    let d1 := wrN GN_RESULT (4 * 256) (setB (GN_CH_STATE_late c.val) (decide (0 < late)) s.toDev)
    (ok = false → runsTo (.gnChStart r c) s (wrN GN_RESULT (6 + 4 * 256) s.toDev)) ∧
    (ok = true → unitOut s.toDev 0x12 = false → late < 0 → runsTo (.gnChStart r c) s (gnCount (setF (GN_CH_STATE_state c.val) 1 (setGch c.val x d1)))) ∧
    (ok = true → unitOut s.toDev 0x12 = false → 0 ≤ late → runsTo (.gnChStart r c) s (gnCount (setF (GN_CH_STATE_state c.val) 2
      (setGch c.val (advCh (sigChips (chSig s.toDev c.val)) late.toNat x) d1)))) ∧
    (ok = true → unitOut s.toDev 0x12 = true → runsTo (.gnChStart r c) s
      (raise 0x340D c.val (setF (GN_CH_STATE_state c.val) 3 d1))) ∧
    runsTo (.gnChStop r c) s (gnCount (wrN GN_RESULT (4 * 256) (setF (GN_CH_STATE_state c.val) 0 s.toDev)))) ∧
  (∀ (r : Req) (c : Fin 192) (v : Word) (s : State),
    let run := fld s.toDev (GN_CH_STATE_state c.val) = 1 ∨ fld s.toDev (GN_CH_STATE_state c.val) = 2
    (granted s.toDev r (GN_CH_KRATE_HI c.val) = true → let d1 := commit64 r (GN_CH_KRATE_HI c.val) v s.toDev
      (run → runsTo (.ncoCommit r c .krate v) s
        (setGch c.val { gch d1 c.val with newRho := some (rd64 d1 (GN_CH_KRATE_LO c.val) % 2 ^ 48) } d1)) ∧
      (¬ run → runsTo (.ncoCommit r c .krate v) s d1)) ∧
    (granted s.toDev r (GN_CH_CRATE_HI c.val) = true → let d1 := commit64 r (GN_CH_CRATE_HI c.val) v s.toDev
      (run → runsTo (.ncoCommit r c .crate v) s
        (setGch c.val { gch d1 c.val with newOm := some (sx 48 (rd64 d1 (GN_CH_CRATE_LO c.val))) } d1)) ∧
      (¬ run → runsTo (.ncoCommit r c .crate v) s d1)) ∧
    (granted s.toDev r (GN_CH_KADJ c.val) = true → let d1 := fieldWrite r (GN_CH_KADJ c.val) v s.toDev
      (run → runsTo (.ncoCommit r c .kadj v) s (setGch c.val { gch d1 c.val with newAdj := some (sx 32 v.toNat) } d1)) ∧
      (¬ run → runsTo (.ncoCommit r c .kadj v) s d1))) ∧
  (∀ (c : Fin 192) (pins : List Byte) (idx : List Nat) (n : Fin 4) (s : State), domOn s.toDev .gnss = true →
    (fld s.toDev (GN_CH_STATE_state c.val) = 1 → runsTo (.channelStartIndex c) s
      (idxReach (fld s.toDev (GN_CH_CFG_stream c.val)) (gch s.toDev c.val).idx (gnCount (setF (GN_CH_STATE_state c.val) 2
        (setGch c.val (applyCommits (sigChips (chSig s.toDev c.val)) (gch s.toDev c.val)) s.toDev))))) ∧
    (∀ k, fld s.toDev (GN_CH_STATE_state c.val) = 2 → toDump (chSig s.toDev c.val) (gch s.toDev c.val) = some k →
      k ≤ pins.length →
      let fmt := flag s.toDev (GN_STREAM_CFG_fmt (fld s.toDev (GN_CH_CFG_stream c.val)))
      runsTo (.dumpClose c pins) s (dumpRecord c.val k
        (tapSums s.toDev c.val (gch s.toDev c.val) ((pins.take k).map (sampleVal fmt))) s.toDev)) ∧
    (fld s.toDev (GN_CH_STATE_state c.val) ≠ 2 → runsTo (.dumpClose c pins) s s.toDev) ∧
    (domOn s.toDev .tb = true → gnRate s.toDev ≠ 0 → s.gn.nextTe ≤ now16 s.toDev →
      runsTo (.measurementEpoch idx) s (strobe idx s.toDev)) ∧
    (∀ e, gsOn s.toDev n.val = true → s.gn.ep = some e → cget (fun _ => none) e.x n.val = none →
      e.te + e.o + 200 * us16 < now16 s.toDev → n.val ∉ s.gn.capWait →
      runsTo (.epochLatchTimeout n) s { s.toDev with gn := { s.gn with ep := some { e with
        x := cput (fun _ => none) e.x n.val (some (halfSample s.toDev n.val)), coarse := e.coarse ||| 2 ^ n.val } } }) ∧
    runsTo .epochRecordsWrite s (writeEpoch s.toDev)) ∧
  (∀ (r : Req) (hi : Word) (s : State), granted s.toDev r GN_FEED_E_HI = true →
    let d1 := commit64 r GN_FEED_E_HI hi s.toDev
    (r ≠ .fw → runsTo (.gnFeedCommit r hi) s (wrN GN_RESULT (8 + 5 * 256) s.toDev)) ∧
    (r = .fw → d1.gn.strobed = true → runsTo (.gnFeedCommit r hi) s
      (raise 0x3408 9 (satAdd GN_FEED_CNT_late 1 (wrN GN_RESULT (9 + 5 * 256) d1)))) ∧
    (r = .fw → d1.gn.strobed = false → gnssSlot d1 = none → runsTo (.gnFeedCommit r hi) s
      (raise 0x3408 7 (satAdd GN_FEED_CNT_refused 1 (wrN GN_RESULT (7 + 5 * 256) d1)))) ∧
    (∀ n, r = .fw → d1.gn.strobed = false → gnssSlot d1 = some n → runsTo (.gnFeedCommit r hi) s
      (wrN GN_RESULT (5 * 256) (feedSample n (rdS64 d1 GN_FEED_E_LO) (fld d1 GN_FEED_U_u + coarseAdd d1)
        (flag d1 GN_FEED_U_suspect || osnmaSuspect d1 || dirSuspect d1)
        (flag d1 GN_FEED_U_invalid || (maskList (fld d1 GN_FEED_U_streams)).any (gsLost d1)) d1)))) ∧
  (∀ (r : Req) (v : Word) (s : State), granted s.toDev r GN_VERDICT = true →
    let d1 := fieldWrite r GN_VERDICT v s.toDev
    (r ≠ .fw → runsTo (.verdictChange r v) s (wrN GN_RESULT (8 + 5 * 256) s.toDev)) ∧
    (r = .fw → bitsOf v 0 2 = fld s.toDev GN_STATUS_osnma → bitsOf v 2 2 = fld s.toDev GN_STATUS_dir →
      runsTo (.verdictChange r v) s d1) ∧
    (r = .fw → ¬ (bitsOf v 0 2 = fld s.toDev GN_STATUS_osnma ∧ bitsOf v 2 2 = fld s.toDev GN_STATUS_dir) →
      (snapState s.toDev ≠ 1 ∨ s.gn.capTrig ≠ 2) →
      runsTo (.verdictChange r v) s (raise 0x3409 (bitsOf v 0 2 + bitsOf v 2 2 * 4)
        (setF GN_STATUS_dir (bitsOf v 2 2) (setF GN_STATUS_osnma (bitsOf v 0 2) d1))))) ∧
  (∀ (c : Nat) (pins : List Byte) (d : Dev), c < 192 → 
    sameRegsBut [GN_CH_CN0 c, GN_RING_WR (fld d (GN_CH_CFG_ring c)), GN_STREAM_IDX_LO (fld d (GN_CH_CFG_stream c)),
      GN_STREAM_IDX_LO (fld d (GN_CH_CFG_stream c)) + 4] d (dumpCh c pins d))

/-- PORT_CMD.lat_cal of a block in Training or Up starts its calibration; restart of a subport that exists leaves Up for
Training with result 0, else result 4; readmit of a Fenced block calibrates again, else result 3. A calibration in
which every lane's R lies within 13,107 units of R0 sets the latencies, goes to Training with result 0 and ends a
readmission test; a failing lane fences the block with result 2 and event 0x005. A trained subport comes Up; an Up one
goes down to Training. Bytes of a frame on an Up subport join the frame being received; once its outcome is decided it
is counted in the total and in that outcome; an accepted one is also counted by kind, stamped by its start, given
buffers and handed to SVC. Said again for a frame that comes whole. The oldest frame of a ready MAC leaves it: one
built before a step is dropped and counted, any other is transmitted. -/
def Obligations.PortCommandsComplete : Prop :=
  (∀ (r : Req) (p : Fin 8) (s : State), granted s.toDev r (PORT_CMD p.val) = true →
    ((subLink s.toDev p.val 0 = 2 ∨ subLink s.toDev p.val 0 = 3 ∨ subLink s.toDev p.val 1 = 3) →
      runsTo (.portLatCal r p) s (toCalibrating p.val s.toDev)) ∧
    (∀ i : Fin 2, i.val ∈ portSubs s.toDev p.val →
      (subLink s.toDev p.val i.val = 3 → runsTo (.portRestart r p i) s
        (setF (PORT_RESULT_cause p.val) 0 (leaveUp p.val i.val 2 s.toDev))) ∧
      (subLink s.toDev p.val i.val ≠ 3 → runsTo (.portRestart r p i) s (setF (PORT_RESULT_cause p.val) 0 s.toDev))) ∧
    (∀ i : Fin 2, i.val ∉ portSubs s.toDev p.val → runsTo (.portRestart r p i) s (setF (PORT_RESULT_cause p.val) 4 s.toDev)) ∧
    (flag s.toDev (PORT_STATUS_fenced p.val) = false → runsTo (.portReadmit r p) s (setF (PORT_RESULT_cause p.val) 3 s.toDev)) ∧
    (flag s.toDev (PORT_STATUS_fenced p.val) = true →
      let d1 := toCalibrating p.val (setF (PORT_STATUS_fenced p.val) 0 s.toDev)
      runsTo (.portReadmit r p) s (if unitFenced s.toDev (0x18 + p.val) = true then
        modUnit (0x18 + p.val) (fun x => { x with state := 3, byBlock := true }) d1 else d1))) ∧
  (∀ (p : Fin 8) (rs : List Int) (s : State), s.pwr.powered = true → portOn s.toDev p.val = true → subLink s.toDev p.val 0 = 1 →
    let rOf := fun (j : Nat) => rs.getD j (laneR0 p.val j)
    let bad := (portLanes s.toDev p.val).filter (fun j => decide (13107 < (rOf j - laneR0 p.val j).natAbs))
    let d1 := forEach (portLanes s.toDev p.val) (fun j x => laneLat p.val j (rOf j) x) s.toDev
    let testing := (funit d1 (0x18 + p.val)).state == 3
    (bad = [] → runsTo (.latencyCalComplete p rs) s (doIf testing (admitUnit (0x18 + p.val)) (refreshCal p.val
      (setF (PORT_RESULT_cause p.val) 0 (forEach (portSubs d1 p.val) (fun i x => setF (PORT_SUB_STATUS_link p.val i) 2 x) d1))))) ∧
    (∀ j l, bad = j :: l →
      let d2 := doIf testing (modUnit (0x18 + p.val) (fun x => { x with state := 2, byBlock := false })) d1
      let par := latParam (laneNo s.toDev p.val j) (rOf j - laneR0 p.val j)
      let d3 := forEach bad (fun k x =>
        raise ((0x10 + p.val) * 1024 + 5) (latParam (laneNo x p.val k) (rOf k - laneR0 p.val k)) x) d2
      runsTo (.latencyCalComplete p rs) s (fenceUnit (0x18 + p.val) 0x07 (fencePort p.val 1 (setF (PORT_RESULT_cause p.val) 2
        (reportUnit (0x18 + p.val) 0x07 .contained ((0x10 + p.val) * 1024 + 5) par d3)))))) ∧
  (∀ (p : Fin 8) (i : Fin 2) (an : Bool) (s : State), s.pwr.powered = true → portOn s.toDev p.val = true →
    (i.val ∈ portSubs s.toDev p.val → subLink s.toDev p.val i.val = 2 →
      runsTo (.linkUp p i an) s (enterUp p.val i.val an s.toDev)) ∧
    (subLink s.toDev p.val i.val = 3 → runsTo (.linkDown p i) s (leaveUp p.val i.val 2 s.toDev)) ∧
    (subLink s.toDev p.val i.val ≠ 3 → runsTo (.linkDown p i) s s.toDev)) ∧
  (∀ (p : Fin 8) (i : Fin 2) (o : RxObs) (s : State), s.pwr.powered = true → portOn s.toDev p.val = true →
    i.val ∈ portSubs s.toDev p.val → subLink s.toDev p.val i.val = 3 →
    let d0 := doIf (decide (0 < o.fecU)) (portCnt p.val i.val 30 o.fecU)
      (doIf (decide (0 < o.fecC)) (portCnt p.val i.val 29 o.fecC) s.toDev)
    let c := portRxCfg d0 p.val i.val
    let t := rxStamp d0 p.val i.val o.lane o.ui o.code
    let r := rxTake p.val i.val c true (t, rdN d0 MEAS_CAL_SEQ, stepMod d0) o d0
    (r.1 = none → runsTo (.rxFrame p i o) s r.2) ∧
    (∀ out x, r.1 = some (out, x) → out ≠ 1 → runsTo (.rxFrame p i o) s (rxCount p.val i.val out r.2)) ∧
    (∀ x, r.1 = some (1, x) → runsTo (.rxFrame p i o) s (portAccept p.val i.val x (rxCount p.val i.val 1 r.2))) ∧
    ((psub d0 p.val i.val).part = none → o.more = false →
      let d1 := modPsub p.val i.val (fun z => { z with part := none }) d0
      (∀ out, rxOutcome c o.startOk o.err false 0 o.bytes = some out → out ≠ 1 →
        runsTo (.rxFrame p i o) s (rxCount p.val i.val out d1)) ∧
      (rxOutcome c o.startOk o.err false 0 o.bytes = some 1 →
        let k := bufsAt o.bytes.length c.max
        let f : RxDesc := { port := p.val, sub := i.val, bytes := o.bytes, tRx := t, calSeq := rdN d0 MEAS_CAL_SEQ
                            steps := stepMod d0, bufs := k }
        let d2 := rxCount p.val i.val 1 (modPsub p.val i.val (fun z => { z with part := none })
          (bufMove SVC_BUF_FREE (PORT_BUF_RX p.val) k d0))
        runsTo (.rxFrame p i o) s (svcAccept f (bufMove (PORT_BUF_RX p.val) SVC_BUF_PIPE k
          (wr64 (PORT_TS_RX_LAST_LO p.val) t (acceptCounts p.val i.val o.bytes d2))))))) ∧
  (∀ (p : Fin 9) (i : Fin 2) (o : TxObs) (s : State), s.pwr.powered = true →
    ((psub s.toDev p.val i.val).mac = [] → runsTo (.txFrame p i o) s s.toDev) ∧
    (∀ f fs, (psub s.toDev p.val i.val).mac = f :: fs → txReady s.toDev p.val i.val = true →
      let d1 := modPsub p.val i.val (fun x => { x with mac := fs }) s.toDev
      ((∃ n, f.steps = some n ∧ n ≠ stepMod d1) → runsTo (.txFrame p i o) s (svcCnt 21 1 (txFree f d1))) ∧
      ((f.steps = none ∨ f.steps = some (stepMod d1)) →
        (p.val < 8 → runsTo (.txFrame p i o) s (portTransmit p.val i.val f o d1)) ∧
        (p.val = 8 → runsTo (.txFrame p i o) s (dsgTransmit f o d1)))))

/-- A write of DSG_CFG that its mode does not permit is refused with cause 1; else, with unit 0x20 in service, it waits
for the end of a cycle in progress or takes effect at once. A coordinator with its link on, no cycle in progress and,
with bcn_lock, a grid instant reached starts a beacon: counted, the grid instants that passed counted, the ledger at
node_count, the link in PLCA. A beacon at a follower is stamped, ends its cycle and starts the next in PLCA, unless a
DSG_CFG that waited takes effect. An opportunity moves one unit of the ledger from remaining to its fate, the four
terms keep their sum, and the last one ends the cycle. A follower without beacons leaves PLCA for CSMA, mode 3 leaves
Silent for CSMA. A change of the clock source realigns the symbols; the realignment ends with 0x6009. A lost signal
returns the link to Silent with no cycle in progress. -/
def Obligations.DriveSegmentLinkCommandsComplete : Prop :=
  (∀ (r : Req) (v : Word) (row : RegRow) (s : State), granted s.toDev r DSG_CFG = true → rowOf DSG_CFG = some row →
    let w := codeWrite row (windowOpen s.toDev) (rd s.toDev DSG_CFG) v
    (dsgCfgOk w = false → runsTo (.dsgModeWrite r v) s (setF DSG_STATUS_cause 1 s.toDev)) ∧
    (dsgCfgOk w = true → unitOut s.toDev 0x20 = true → runsTo (.dsgModeWrite r v) s (setF DSG_STATUS_cause 0 (wr DSG_CFG w s.toDev))) ∧
    (dsgCfgOk w = true → unitOut s.toDev 0x20 = false →
      (s.dsg.cycle = true → runsTo (.dsgModeWrite r v) s
        (setF DSG_STATUS_cause 0 { s.toDev with dsg := { s.dsg with next := some w } })) ∧
      (s.dsg.cycle = false → runsTo (.dsgModeWrite r v) s (setF DSG_STATUS_cause 0 (dsgApply w s.toDev))))) ∧
  (∀ s : State, s.pwr.powered = true → unitOut s.toDev 0x20 = false → dsgLink s.toDev ≠ 0 →
    let per := atLeast1 (fld s.toDev DSG_BCN_PERIOD_period)
    (dsgMode s.toDev = 1 → s.dsg.cycle = false → gridReached s.toDev per = true →
      let missed := match s.dsg.beaconAt with
        | some b => if flag s.toDev DSG_CFG_bcn_lock = true then
            gridBetween per ((now16 s.toDev : Int) + nearDiff b (near s.toDev)).toNat (now16 s.toDev) else 0
        | none => 0
      let d1 := dsgCnt 17 1 { s.toDev with dsg := { s.dsg with cycle := true, beaconAt := some (near s.toDev) } }
      let d2 := if missed = 0 then d1 else dsgCnt 18 missed d1
      runsTo .dsgBeaconStart s (dsgCoord (wrN DSG_TO_LEDGER (fld d2 DSG_CFG_node_count) (dsgLinkTo 2 d2)))) ∧
    (∀ code cyc : Nat, dsgMode s.toDev = 2 →
      let d1 := cycleEnds (wr64 DSG_BCN_RX_LO (dsgRx s.toDev (dsgStamp s.toDev code cyc)) s.toDev)
      (s.dsg.next = none → runsTo (.dsgBeaconReceived code cyc) s (dsgLinkTo 2 (modDsg (fun y => { y with cycle := true }) d1))) ∧
      (s.dsg.next ≠ none → runsTo (.dsgBeaconReceived code cyc) s d1))) ∧
  (∀ (k : ToKind) (s : State), s.pwr.powered = true →
    let left := fld s.toDev DSG_TO_LEDGER_remaining
    let f := match k with | .own => DSG_TO_LEDGER_own | .other => DSG_TO_LEDGER_other | .silent => DSG_TO_LEDGER_silent
    let d1 := wrapAdd f 1 (setF DSG_TO_LEDGER_remaining (left - 1) s.toDev)
    (s.dsg.cycle = true → 1 < left → runsTo (.dsgTransmitOpportunity k) s d1) ∧
    (s.dsg.cycle = true → left = 1 → runsTo (.dsgTransmitOpportunity k) s (cycleEnds d1)) ∧
    ((s.dsg.cycle = false ∨ left = 0) → runsTo (.dsgTransmitOpportunity k) s s.toDev)) ∧
  (∀ s : State, s.pwr.powered = true →
    (dsgMode s.toDev = 2 → dsgLink s.toDev = 2 → runsTo .plcaFallbackTimeout s (dsgLinkTo 3 (dsgCnt 19 1 s.toDev))) ∧
    (dsgMode s.toDev = 3 → dsgLink s.toDev = 1 → runsTo .csmaSilence s (dsgLinkTo 3 s.toDev)) ∧
    (dsgLink s.toDev ≠ 2 → runsTo .plcaFallbackTimeout s s.toDev) ∧
    (flag s.toDev DSG_STATUS_lw_src = domOn s.toDev .tb →
      runsTo .dsgClockSourceChange s (dsgLocked (setF DSG_STATUS_realigning 1 (setB DSG_STATUS_lw_src (!(domOn s.toDev .tb)) s.toDev)))) ∧
    (flag s.toDev DSG_STATUS_lw_src ≠ domOn s.toDev .tb → runsTo .dsgClockSourceChange s s.toDev) ∧
    (flag s.toDev DSG_STATUS_realigning = true → (domOn s.toDev .tb = false ∨ dsgFollows s.toDev = true) →
      runsTo .dsgRealignDone s (raise 0x6009 0 (dsgLocked (setF DSG_STATUS_realigning 0 s.toDev)))) ∧
    (2 ≤ dsgLink s.toDev → runsTo .dsgSignalLoss s
      (dsgLinkTo 1 (modDsg (fun y => { y with beaconAt := none }) (endCycle s.toDev))))) ∧
  (∀ (k : ToKind) (d : Dev), 0 < fld d DSG_TO_LEDGER_remaining →
    let f := match k with | .own => DSG_TO_LEDGER_own | .other => DSG_TO_LEDGER_other | .silent => DSG_TO_LEDGER_silent
    let e := wrapAdd f 1 (setF DSG_TO_LEDGER_remaining (fld d DSG_TO_LEDGER_remaining - 1) d)
    fld d f < 255 → fld e f = fld d f + 1 ∧ fld e DSG_TO_LEDGER_remaining + 1 = fld d DSG_TO_LEDGER_remaining ∧
    fld e DSG_TO_LEDGER_own + fld e DSG_TO_LEDGER_other + fld e DSG_TO_LEDGER_silent + fld e DSG_TO_LEDGER_remaining =
      fld d DSG_TO_LEDGER_own + fld d DSG_TO_LEDGER_other + fld d DSG_TO_LEDGER_silent + fld d DSG_TO_LEDGER_remaining)

/-- Bytes of a frame on the segment join the frame being received; once its outcome is decided it is counted in the total
and in that outcome; with PD_PKT on, an accepted new frame is stamped, given buffers and handed to SVC, and a
drive-sync frame to DSG_RX_MAC is wake source 7. Said again for a frame that comes whole. The end of a calibration
period that has passed with 8 echoes or more sets the mean; within 131,072 units of R0 it sets the latencies, one more
calibration and event 0x6004, beyond it event 0x6005 and calibrated cleared. A launch entry that is Free, with a
target committed and any inserted field within its length, is Queued with cause 0; one that is not Free gets cause 3.
The first due entry starts; a bad word drops it with result 5, sixteen collisions with result 4. An entry with
drop_late past its tolerance is dropped with result 3. A read of DSG_Q_STATUS returns it, and by full rights frees a
Done entry. The template sender sends, and the responder answers its oldest Pdelay_Req with two messages. -/
def Obligations.DriveSegmentFrameCommandsComplete : Prop :=
  (∀ (o : RxObs) (s : State), s.pwr.powered = true → dsgLink s.toDev ≠ 0 → unitOut s.toDev 0x20 = false → domOn s.toDev .pkt = true →
    let c := dsgRxCfg s.toDev
    let t := dsgRx s.toDev (dsgStamp s.toDev o.code o.ui)
    let r := rxTake 8 0 c true (t, rdN s.toDev MEAS_CAL_SEQ, stepMod s.toDev) o s.toDev
    let frame := fun (bs : List Byte) (x : Nat × Nat × Nat) (k : Nat) =>
      ({ port := 8, sub := 0, bytes := bs, tRx := x.1, calSeq := x.2.1, steps := x.2.2, bufs := k } : RxDesc)
    let wake := doIf (dsgWakes o s.toDev) (wakeBy 7)
    (r.1 = none → runsTo (.dsgRxFrame o) s r.2) ∧
    (∀ out x, r.1 = some (out, x) → out ≠ 1 → runsTo (.dsgRxFrame o) s (rxCount 8 0 out r.2)) ∧
    (∀ x, r.1 = some (1, x) →
      let k := dsgDup x.bytes (dsgCnt 2 x.bytes.length (rxCount 8 0 1 r.2))
      (k.1 = false → runsTo (.dsgRxFrame o) s (wake (bufMove DSG_BUF_RX SVC_BUF_FREE x.held k.2))) ∧
      (k.1 = true → runsTo (.dsgRxFrame o) s
        (wake (svcAccept (frame x.bytes (x.tRx, x.calSeq, x.steps) x.held) (bufMove DSG_BUF_RX SVC_BUF_PIPE x.held k.2))))) ∧
    ((psub s.toDev 8 0).part = none → o.more = false →
      let d1 := modPsub 8 0 (fun z => { z with part := none }) s.toDev
      (∀ out, rxOutcome c o.startOk o.err false 0 o.bytes = some out → out ≠ 1 → runsTo (.dsgRxFrame o) s (rxCount 8 0 out d1)) ∧
      (rxOutcome c o.startOk o.err false 0 o.bytes = some 1 →
        let b := bufsAt o.bytes.length 1522
        let d2 := rxCount 8 0 1 (modPsub 8 0 (fun z => { z with part := none }) (bufMove SVC_BUF_FREE DSG_BUF_RX b s.toDev))
        let k := dsgDup o.bytes (dsgCnt 2 o.bytes.length d2)
        k.1 = true → runsTo (.dsgRxFrame o) s
          (wake (svcAccept (frame o.bytes (t, rdN s.toDev MEAS_CAL_SEQ, stepMod s.toDev) b) (bufMove DSG_BUF_RX SVC_BUF_PIPE b k.2)))))) ∧
  (∀ s : State, s.pwr.powered = true →
    s.dsg.echoFrom + atLeast1 (fld s.toDev DSG_CAL_PERIOD_s) * sec16 ≤ now16 s.toDev →
    let d1 := modDsg (fun x => { x with echoFrom := now16 s.toDev, echoN := 0, echoSum := 0 }) s.toDev
    let tx0 := sx 32 (resetOf DSG_LAT_TX).toNat
    let r0 := tx0 + sx 32 (resetOf DSG_LAT_RX).toNat
    let m := roundDiv s.dsg.echoSum s.dsg.echoN
    let d2 := wrN DSG_ECHO_MEAN (wrapN 32 m) d1
    (s.dsg.echoN < 8 → runsTo .dsgEchoCalPeriod s d1) ∧
    (8 ≤ s.dsg.echoN → domOn s.toDev .tb = true →
      (131072 < (m - r0).natAbs → runsTo .dsgEchoCalPeriod s
        (raise 0x6005 (wrapN 32 (satS 32 (m - r0))) (setF DSG_STATUS_calibrated 0 d2))) ∧
      ((m - r0).natAbs ≤ 131072 →
        let tx := tx0 + roundDiv (fld d2 DSG_SPLIT_sigma * (m - r0)) 65536
        let seq := (rdN d2 DSG_CAL_SEQ + 1) % 2 ^ 32
        let d3 := wrN DSG_CAL_SEQ seq (wrN DSG_LAT_RX (wrapN 32 (m - tx)) (wrN DSG_LAT_TX (wrapN 32 tx) d2))
        runsTo .dsgEchoCalPeriod s (raise3 0x6004 seq seq s.dsg.echoN (rdN d3 MEAS_CAL_SEQ)
          (setF DSG_STATUS_calibrated 1 (modDsg (fun x => { x with calAt := some (now16 d3) }) d3)))))) ∧
  (∀ (r : Req) (hi : Word) (s : State), granted s.toDev r DSG_Q_TGT_HI = true →
    let e := fld s.toDev DSG_Q_SEL_entry
    let fmt := qCtl s.toDev e 0 2
    let d1 := commit64 r (bank DSG_Q_TGT_HI e) hi s.toDev
    (qState s.toDev e ≠ 0 → runsTo (.dsgQueueEntry r hi) s (setF DSG_STATUS_cause 3 s.toDev)) ∧
    (qState s.toDev e = 0 → (fmt = 0 ∨ qCtl s.toDev e 2 11 + tsLen fmt ≤ qLen s.toDev e) →
      runsTo (.dsgQueueEntry r hi) s (setF DSG_STATUS_cause 0 (qPut e d1))) ∧
    (qState s.toDev e = 0 → fmt ≠ 0 → qLen s.toDev e < qCtl s.toDev e 2 11 + tsLen fmt →
      runsTo (.dsgQueueEntry r hi) s (setF DSG_STATUS_cause 4 d1))) ∧
  (∀ (e : Fin 16) (delay col : Nat) (echo : Option Int) (s : State), s.pwr.powered = true → qFirst s.toDev e.val = true →
    due (qTgt s.toDev e.val) (near s.toDev) = true → dsgSends s.toDev = true →
    (dsgLink s.toDev = 2 → runsTo (.dsgEntryDue e delay col false echo) s (qStart e.val delay echo s.toDev)) ∧
    runsTo (.dsgEntryDue e delay col true echo) s (reportUnit 0x3C 0x01 .corrected 0x6007 (e.val + 80) (qDrop e.val 5 s.toDev)) ∧
    (dsgLink s.toDev = 3 → 16 ≤ col → runsTo (.dsgEntryDue e delay col false echo) s (qDrop e.val 4 (dsgCnt 16 16 s.toDev)))) ∧
  (∀ (e : Fin 16) (s : State), s.pwr.powered = true → qState s.toDev e.val = 1 →
    due ((qTgt s.toDev e.val + (lateTol s.toDev).toNat) % 2 ^ 64) (near s.toDev) = true → s.dsg.byStep.contains e.val = false →
    (qCtl s.toDev e.val 13 1 = 1 → runsTo (.dsgLateDrop e) s (qDrop e.val 3 s.toDev)) ∧
    (qCtl s.toDev e.val 13 1 = 0 → runsTo (.dsgLateDrop e) s s.toDev)) ∧
  (∀ (r : Req) (s : State), reaches s.toDev r = true → regOn s.toDev DSG_Q_STATUS = true →
    let e := fld s.toDev DSG_Q_SEL_entry
    let d1 := { s.toDev with resp := [rd s.toDev (bank DSG_Q_STATUS e)] }
    ((qState s.toDev e = 3 ∧ fullRights s.toDev r = true) → runsTo (.dsgQStatusRead r) s (qFree e d1)) ∧
    (¬ (qState s.toDev e = 3 ∧ fullRights s.toDev r = true) → runsTo (.dsgQStatusRead r) s d1)) ∧
  (∀ (k : Fin 3) (delay : Nat) (s : State), s.pwr.powered = true →
    (lwSends s.toDev = true → runsTo (.dsgLwTemplateSend k delay) s (lwSend k.val delay s.toDev)) ∧
    (lwSends s.toDev = false → runsTo (.dsgLwTemplateSend k delay) s s.toDev) ∧
    (∀ f fs, s.dsg.pd = f :: fs → dsgSends s.toDev = true →
      let t3 := (near s.toDev + delay + 6400 * 65536) % 2 ^ 64
      let d1 := dsgWire (lwPdelay f 3 f.tRx s.toDev) (modDsg (fun x => { x with pd := fs }) s.toDev)
      runsTo (.dsgPdelayResponse delay) s (dsgWire (lwPdelay f 0xA t3 d1) d1)))

/-- With PD_PKT on, PIPELINE_OPERATION completes: an empty queue and a fenced pipeline leave the device alone; the head of
a queue that can have every credit it needs leaves the queue, holds the credits while it is worked on and gives them
back; a head that lacks a credit waits from now, or goes on waiting; a head whose job was lost with a fenced engine is
dropped and counted when it is a request or was resubmitted already, else it is resubmitted. CRYPTO_CREDIT_TIMEOUT
completes: a request that has waited longer than SVC_CRY_WAIT is dropped and counted in counter 24, one that has
waited no longer stays, and so does a scheduled message. -/
def Obligations.PipelineCommandsComplete : Prop :=
  (∀ (p : Fin 4) (o : PipeObs) (s : State), domOn s.toDev .pkt = true →
    (pipeQ s.toDev p.val = [] → runsTo (.pipelineOperation p o) s s.toDev) ∧
    (unitOut s.toDev (0x21 + p.val) = true → runsTo (.pipelineOperation p o) s s.toDev) ∧
    (∀ x xs, pipeQ s.toDev p.val = x :: xs → unitOut s.toDev (0x21 + p.val) = false →
      let needs := (credNeeds o x.msg s.toDev).eraseDups
      let d1 := setWait p.val none (setPipeQ p.val xs s.toDev)
      let lost := o.lost = true ∧ ∃ k ∈ needs, ∃ e, e < 24 ∧ decide (8 ≤ e) = k ∧ engFenced s.toDev e = true
      ((∀ k ∈ needs, crdForPipe s.toDev k = true) → ¬ lost →
        runsTo (.pipelineOperation p o) s (forEach needs (fun k y => crdMove k (p.val + 1) 0 1 y)
          (msgOp p.val x.msg o (forEach needs (fun k y => crdMove k 0 (p.val + 1) 1 y) d1)))) ∧
      ((∀ k ∈ needs, crdForPipe s.toDev k = true) → lost →
        (∀ f, x.msg = .rx f → runsTo (.pipelineOperation p o) s (keyCount 4 (rxFree f (setPipeQ p.val xs (setWait p.val none s.toDev))))) ∧
        ((∀ f, x.msg ≠ .rx f) → x.again = true →
          runsTo (.pipelineOperation p o) s (keyCount 4 (setPipeQ p.val xs (setWait p.val none s.toDev)))) ∧
        ((∀ f, x.msg ≠ .rx f) → x.again = false →
          runsTo (.pipelineOperation p o) s (setPipeQ p.val ({ x with again := true } :: xs) (setWait p.val none s.toDev)))) ∧
      ((∃ k ∈ needs, crdForPipe s.toDev k = false) →
        (cget (fun _ => none) s.net.waits p.val = none →
          runsTo (.pipelineOperation p o) s (setWait p.val (some (near s.toDev)) s.toDev)) ∧
        ((cget (fun _ => none) s.net.waits p.val).isSome = true → runsTo (.pipelineOperation p o) s s.toDev)))) ∧
  (∀ (p : Fin 4) (s : State), domOn s.toDev .pkt = true →
    (cget (fun _ => none) s.net.waits p.val = none → runsTo (.cryptoCreditTimeout p) s s.toDev) ∧
    (pipeQ s.toDev p.val = [] → runsTo (.cryptoCreditTimeout p) s s.toDev) ∧
    (∀ x xs t, pipeQ s.toDev p.val = x :: xs → cget (fun _ => none) s.net.waits p.val = some t →
      let waited := (fld s.toDev SVC_CRY_WAIT_us * 65536000 : Int) < nearDiff (near s.toDev) t
      (∀ f, x.msg = .rx f → waited →
        runsTo (.cryptoCreditTimeout p) s (svcCnt 24 1 (rxFree f (setWait p.val none (setPipeQ p.val xs s.toDev))))) ∧
      (∀ f, x.msg = .rx f → ¬ waited → runsTo (.cryptoCreditTimeout p) s s.toDev) ∧
      ((∀ f, x.msg ≠ .rx f) → runsTo (.cryptoCreditTimeout p) s s.toDev)))

/-- With PD_PKT on and the classifier in service, WHEEL_SLOT completes: a slot that was visited leaves the device alone; a
new slot is noted and its late entries counted, then the due multicast messages are issued where the chip serves, else
advanced in shadow or counted, and with PD_SMEM on each session with a due message is ended if it has expired, else
served or shadowed. SESSION_SWEEP completes with PD_PKT and PD_SMEM on: every expired session has ended, counted in
counter 35. WEIR_SWEEP completes with PD_PKT on: first the buckets of bad parity, then every bucket is refilled.
SESSION_PARITY completes with PD_SMEM on: a valid session ends with a report, after cancels where its address is good
and PD_PKT is on; another leaves the device alone. -/
def Obligations.WheelSessionAndWeirCommandsComplete : Prop :=
  (∀ s : State, domOn s.toDev .pkt = true → unitOut s.toDev 0x25 = false →
    let a := slotNow s.toDev
    let d0 := setF SVC_WHEEL_STAT_slot (a % 16384) (countLate a { s.toDev with net := { s.net with slot := some a } })
    let mc := mcDue d0 a
    let skips := twnEn d0 = true ∧ fld d0 TWN_STATUS_state = 1 ∧ d0.twn.shift.isSome = true ∧ fld d0 TWN_CTL_pkt_mode = 1 ∧
      svcLive d0 = true ∧ flag d0 SVC_CTL_ptp_en = true
    let d1 := if servesMc d0 = true then forEach mc (issue a) d0 else if shadows d0 = true then forEach mc shadowIssue
        (if skips then svcCnt 21 mc.length d0 else d0) else if skips then svcCnt 21 mc.length d0 else d0
    (s.net.slot = some a → runsTo .wheelSlotStart s s.toDev) ∧
    (s.net.slot ≠ some a → domOn d1 .smem = false → runsTo .wheelSlotStart s d1) ∧
    (s.net.slot ≠ some a → domOn d1 .smem = true → runsTo .wheelSlotStart s (forEach (sessAll d1) (fun i x =>
      let due := ucDue x a i
      if due = [] then x
      else
        let y := if sessExpired x (sess x i) = true then svcCnt 35 1 (sessEnd i x) else x
        if sessValid y i = false then y else if servesUc y = true then forEach due (issue a) y
        else if shadows y = true then forEach due shadowIssue y else y) d1))) ∧
  (∀ s : State, domOn s.toDev .pkt = true → domOn s.toDev .smem = true →
    runsTo .sessionSweep s (forEach (sessAll s.toDev)
      (fun i x => if sessExpired x (sess x i) = true then svcCnt 35 1 (sessEnd i x) else x) s.toDev)) ∧
  (∀ (bad : List (Fin 524288)) (s : State), domOn s.toDev .pkt = true →
    let d0 := forEach (bad.map (fun i => i.val)) bucketParity s.toDev
    let d1 := forEach (d0.net.weir.map (fun c => c.1)) (fun i x =>
      let r := weirRate x (i / 262144)
      let y := weirFill r.1 r.2 (weirTick d0) (bucket x i)
      setBucket i y.1 (weirLedger y.2.1 0 y.2.2 x)) d0
    let rest := fun (h : Nat) (x : Dev) =>
      let n := 262144 - (x.net.weir.filter (fun c => decide (c.1 / 262144 = h))).length
      let r := weirRate x h
      let y := weirFill r.1 r.2 (weirTick d0) (if h = 0 then x.net.weirN else x.net.weirP)
      let z := weirLedger (n * y.2.1) 0 (n * y.2.2) x
      if h = 0 then { z with net := { z.net with weirN := y.1 } } else { z with net := { z.net with weirP := y.1 } }
    runsTo (.weirSweep bad) s (rest 1 (rest 0 d1))) ∧
  (∀ (i : Fin 262144) (addrOk : Bool) (s : State), domOn s.toDev .smem = true →
    (sessValid s.toDev i.val = false → runsTo (.sessionParity i addrOk) s s.toDev) ∧
    (sessValid s.toDev i.val = true → domOn s.toDev .pkt = true →
      let d1 := sessEnd i.val (if addrOk = true then sendCancels i.val s.toDev else s.toDev)
      domOn d1 .pkt = true →
      runsTo (.sessionParity i addrOk) s (reportUnit 0x26 0x01 .corrected 0x6403 i.val (raise 0x6403 i.val (svcCnt 32 1 d1)))) ∧
    (sessValid s.toDev i.val = true → domOn s.toDev .pkt = false → domOn (sessEnd i.val s.toDev) .pkt = false →
      runsTo (.sessionParity i addrOk) s (reportUnit 0x26 0x01 .corrected 0x6403 i.val (raise 0x6403 i.val (sessEnd i.val s.toDev)))))

/-- With PD_PKT on these complete. TIMED_LAUNCH: the first waiting frame of a subport stays until its target is due, then
leaves for its MAC, or is dropped and counted when a step came since it was built. HOST_TRANSMIT_RECORD: a part of a
record waits, a whole one in its limits is framed and handed on, one out of them is counted in counter 28.
NONTIMING_RESPONSE: the oldest frame is answered by its kind where the chip speaks, else freed. ESMC_SEND: a changed
SSM is sent as an event PDU, an unchanged one once in a TAI second. LEAP_INDICATOR_CHANGE: changed indications raise
0x6409 and set their flags. SERVING_CHANGE: a changed answer to whether anything is served raises 0x640B and sets the
flag. -/
def Obligations.SenderCommandsComplete : Prop :=
  (∀ (p : Fin 9) (i : Fin 2) (s : State), domOn s.toDev .pkt = true →
    ((psub s.toDev p.val i.val).timed = [] → runsTo (.timedLaunch p i) s s.toDev) ∧
    (∀ f fs, (psub s.toDev p.val i.val).timed = f :: fs →
      let d1 := modPsub p.val i.val (fun x => { x with timed := fs }) s.toDev
      (due (f.target.getD 0) (near s.toDev) = false → runsTo (.timedLaunch p i) s s.toDev) ∧
      (due (f.target.getD 0) (near s.toDev) = true → (f.steps = none ∨ f.steps = some (stepMod d1)) →
        (macReady d1 p.val i.val = true → runsTo (.timedLaunch p i) s (macPut p.val i.val f d1)) ∧
        (macReady d1 p.val i.val = false →
          runsTo (.timedLaunch p i) s (if p.val < 8 ∧ portOn d1 p.val = true then portCnt p.val i.val 27 1 (txFree f d1) else txFree f d1))) ∧
      (∀ n, due (f.target.getD 0) (near s.toDev) = true → f.steps = some n → n ≠ stepMod d1 →
        runsTo (.timedLaunch p i) s (svcCnt 21 1 (txFree f d1))))) ∧
  (∀ s : State, domOn s.toDev .pkt = true →
    let q := s.net.hostTx
    let len := leNat (q.take 2)
    let size := len + (4 - len % 4) % 4
    let d1 := { s.toDev with net := { s.net with hostTx := q.drop size } }
    let flags := leNat (sliceOf q 2 1)
    let p := leNat (sliceOf q 3 1) % 16
    let i := leNat (sliceOf q 3 1) / 16 % 2
    let bytes := sliceOf q 16 (len - 16)
    (q.length < 16 → runsTo .hostTransmitRecord s s.toDev) ∧
    (16 ≤ q.length → len < 16 → runsTo .hostTransmitRecord s (svcCnt 28 1 { s.toDev with net := { s.net with hostTx := [] } })) ∧
    (16 ≤ q.length → 16 ≤ len → q.length < size → runsTo .hostTransmitRecord s s.toDev) ∧
    (16 ≤ len → size ≤ q.length → hostRecOk d1 p i bytes.length = false → runsTo .hostTransmitRecord s (svcCnt 28 1 d1)) ∧
    (16 ≤ len → size ≤ q.length → hostRecOk d1 p i bytes.length = true →
      runsTo .hostTransmitRecord s (hostFrame p i { bytes := bytes, bufs := 0, steps := some (stepMod d1)
                                                    target := if flags % 2 = 1 then some (leNat (sliceOf q 4 8)) else none
                                                    pred := none
                                                    report := if flags / 2 % 2 = 1 then some (leNat (sliceOf q 12 4)) else none
                                                    follow := none, pipe := 0 } d1))) ∧
  (∀ s : State, domOn s.toDev .pkt = true →
    (s.net.resp = [] → runsTo .nontimingResponse s s.toDev) ∧
    (∀ f fs, s.net.resp = f :: fs →
      let d1 := { s.toDev with net := { s.net with resp := fs } }
      let bs := f.bytes.take (f.bytes.length - 4)
      let e := ethOf bs
      ((running d1 = false ∨ speaking d1 = false ∨ unitOut d1 0x25 = true) → runsTo .nontimingResponse s (rxFree f d1)) ∧
      (running d1 = true → speaking d1 = true → unitOut d1 0x25 = false →
        (e.etype = 0x0806 → runsTo .nontimingResponse s (answerArp f e (bs.drop e.off) d1)) ∧
        (e.etype ≠ 0x0806 → ipOf e bs = none → runsTo .nontimingResponse s (rxFree f d1)) ∧
        (∀ x, e.etype ≠ 0x0806 → ipOf e bs = some x → x.v6 = true → beAt x.body 0 1 = 135 →
          runsTo .nontimingResponse s (answerNs f e x d1)) ∧
        (∀ x, e.etype ≠ 0x0806 → ipOf e bs = some x → (x.v6 = false ∨ beAt x.body 0 1 ≠ 135) →
          runsTo .nontimingResponse s (answerEcho f e x d1))))) ∧
  (∀ (p : Fin 8) (i : Fin 2) (s : State), domOn s.toDev .pkt = true →
    let v := fld s.toDev (SVC_ESMC_ssm p.val i.val)
    let last := cget (fun _ => none) s.net.ssm (subKey p.val i.val)
    let sent := fun (event : Bool) (sec : Nat) => ownSend p.val i.val (esmcBytes (ownMac s.toDev p.val i.val) event v)
      { s.toDev with net := { s.net with ssm := cput (fun _ => none) s.net.ssm (subKey p.val i.val) (some (v, sec)) } }
    ((flag s.toDev (SVC_ESMC_en p.val i.val) = false ∨ macReady s.toDev p.val i.val = false) → runsTo (.esmcSend p i) s s.toDev) ∧
    (flag s.toDev (SVC_ESMC_en p.val i.val) = true → macReady s.toDev p.val i.val = true →
      (last = none → runsTo (.esmcSend p i) s (sent false (taiSec s.toDev))) ∧
      (∀ w sec, last = some (w, sec) → w ≠ v → runsTo (.esmcSend p i) s (sent true sec)) ∧
      (∀ sec, last = some (v, sec) → sec ≠ taiSec s.toDev → runsTo (.esmcSend p i) s (sent false (taiSec s.toDev))) ∧
      (last = some (v, taiSec s.toDev) → runsTo (.esmcSend p i) s s.toDev))) ∧
  (∀ s : State, domOn s.toDev .pkt = true →
    let a := leapInd s.toDev (rdN s.toDev SVC_LEAP_PTP)
    let b := leapInd s.toDev (rdN s.toDev SVC_LEAP_NTP)
    (s.net.leapInd = (a, b) → runsTo .leapIndicatorChange s s.toDev) ∧
    (s.net.leapInd ≠ (a, b) → runsTo .leapIndicatorChange s (raise 0x6409
       (b2n (decide (a ≠ 0)) + b2n (decide (b ≠ 0)) * 2 + b2n (decide (a = 2 ∨ b = 2)) * 4)
       (setB SVC_STATUS_leap_ntp (decide (b ≠ 0)) (setB SVC_STATUS_leap_ptp (decide (a ≠ 0))
         { s.toDev with net := { s.net with leapInd := (a, b) } })))) ∧
    (flag s.toDev SVC_STATUS_serving = servesAny s.toDev → runsTo .servingChange s s.toDev) ∧
    (flag s.toDev SVC_STATUS_serving ≠ servesAny s.toDev →
      runsTo .servingChange s (raise 0x640B (b2n (servesAny s.toDev)) (setB SVC_STATUS_serving (servesAny s.toDev) s.toDev))))

/-- Outside the presence window the RWP commands (clear_opened, the five fuse commands, unlock) change nothing but the
record of the refusal. Inside it: clear_opened clears opened with result 0; a fuse command with the controller in
service and idle, and its own condition met, starts with the data words latched; a slot already used gets cause 0x06,
the last good hash 0x03, a busy controller 0x04; unlock zeroizes, opens debug access and raises 0x680E, or gets 0x05
once debug_off is blown. PRESENCE_ASSERT opens a window that may open for 60 s, with 0x6801, and is wake source 6; its
expiry once 60 s have passed and its close shut it. The seal opening closes the window, latches opened, counts,
zeroizes by policy 1 or 2, and is wake source 5; the seal intact again raises 0x6803. A finished zeroization raises
0x6804, with the KEK_F revoke fuse blown where the policy asks. A fuse command whose words all took and whose mark
took ends with 0x680C and its mark, unless the seal cut its data words short; any other ends with 0x680D and cause
0x07, a hash slot marked partial. -/
def Obligations.KeyPresenceAndFuseCommandsComplete : Prop :=
  (∀ (r : Req) (i : Fin 4) (s : State), granted s.toDev r KEY_FUSE_CMD = true →
    (windowOpen s.toDev = false → ∀ c ∈ [Instr.programHash r i, .revokeHash r i, .programKek r, .revokeKek r, .disableDebug r],
      runsTo c s (rwpRefuse r KEY_FUSE_CMD s.toDev)) ∧
    (windowOpen s.toDev = true → unitOut s.toDev 0x33 = false → flag s.toDev KEY_FUSE_STATUS_busy = false →
      let op := fun (cmd slot : Nat) => setF KEY_FUSE_STATUS_busy 1 { s.toDev with key := { s.key with
        fuse := some { cmd := cmd, slot := slot, cut := false, data := (List.range 8).map (fun w => rd s.toDev (KEY_FUSE_DATA w)) } } }
      let refused := fun (c : Nat) => wrN KEY_RESULT (c + 2 * 256) s.toDev
      ((fuseBit s.toDev i.val || fuseBit s.toDev (11 + i.val)) = false → runsTo (.programHash r i) s (op (1 + i.val * 64) i.val)) ∧
      ((fuseBit s.toDev i.val || fuseBit s.toDev (11 + i.val)) = true → runsTo (.programHash r i) s (refused 0x06)) ∧
      ((∃ k, k < 4 ∧ k ≠ i.val ∧ hashValid s.toDev k = true) → runsTo (.revokeHash r i) s (op (2 + i.val * 64) i.val)) ∧
      ((∀ k, k < 4 → k ≠ i.val → hashValid s.toDev k = false) → runsTo (.revokeHash r i) s (refused 0x03)) ∧
      (fuseBit s.toDev 8 = false → runsTo (.programKek r) s (op 4 0)) ∧
      (fuseBit s.toDev 8 = true → runsTo (.programKek r) s (refused 0x06)) ∧
      runsTo (.revokeKek r) s (op 8 0) ∧ runsTo (.disableDebug r) s (op 16 0)) ∧
    (windowOpen s.toDev = true → unitOut s.toDev 0x33 = false → flag s.toDev KEY_FUSE_STATUS_busy = true →
      ∀ c ∈ [Instr.programHash r i, .revokeHash r i, .programKek r, .revokeKek r, .disableDebug r],
        runsTo c s (wrN KEY_RESULT (4 + 2 * 256) s.toDev))) ∧
  (∀ (r : Req) (s : State), granted s.toDev r KEY_DEBUG = true →
    (windowOpen s.toDev = false → runsTo (.debugUnlock r) s (rwpRefuse r KEY_DEBUG s.toDev)) ∧
    (windowOpen s.toDev = true → fuseBit s.toDev 10 = true → runsTo (.debugUnlock r) s (wrN KEY_RESULT (5 + 3 * 256) s.toDev)) ∧
    (windowOpen s.toDev = true → fuseBit s.toDev 10 = false → flag s.toDev KEY_STATUS_debug = false →
      runsTo (.debugUnlock r) s (raise 0x680E 0 (wrN KEY_RESULT (3 * 256)
        (setF KEY_DEBUG_unlock 1 (setF KEY_STATUS_debug 1 (zeroStart 2 s.toDev))))))) ∧
  (∀ (r : Req) (s : State), granted s.toDev r KEY_CMD = true →
    (windowOpen s.toDev = false → runsTo (.keyClearOpened r) s (rwpRefuse r KEY_CMD s.toDev)) ∧
    (windowOpen s.toDev = true → runsTo (.keyClearOpened r) s (wrN KEY_RESULT (1 * 256) (setF KEY_STATUS_opened 0 s.toDev))) ∧
    (windowOpen s.toDev = true →
      runsTo (.keyClose r) s (wrN KEY_RESULT (1 * 256) (raise 0x6801 0 (setF KEY_STATUS_window 0 s.toDev)))) ∧
    (windowOpen s.toDev = false → runsTo (.keyClose r) s (wrN KEY_RESULT (1 * 256) s.toDev))) ∧
  (∀ s : State, s.pwr.powered = true →
    (windowMayOpen s.toDev = true → runsTo .presenceAssert s (wakeBy 6 (raise 0x6801 1 (satAdd KEY_PRESENCE_opens 1
      (setF KEY_STATUS_window 1 { s.toDev with key := { s.key with winEnd := s.lpc.ck + 60 * 32768 } }))))) ∧
    (windowMayOpen s.toDev = false → runsTo .presenceAssert s (wakeBy 6 s.toDev)) ∧
    (s.lpc.ck < s.key.winEnd → runsTo .presenceWindowExpiry s s.toDev) ∧
    (windowOpen s.toDev = true → s.key.winEnd ≤ s.lpc.ck → runsTo .presenceWindowExpiry s (raise 0x6801 0 (setF KEY_STATUS_window 0 s.toDev))) ∧
    (flag s.toDev KEY_LAYOUT_INFO_seal_en = true → unitOut s.toDev 0x33 = false →
      let pol := fld s.toDev KEY_LAYOUT_INFO_zeroize
      let d1 := setF KEY_STATUS_opened 1 (closeWindow (setF KEY_SEAL_state 1 (setF KEY_STATUS_seal 1 s.toDev)))
      let d2 := lifeAdd 15 1 (keyCount 6 (satAdd KEY_SEAL_opens 1 d1))
      let d3 := raise 0x6802 pol { d2 with key := { d2.key with fuse := d2.key.fuse.map (fun o => { o with cut := true }) } }
      (flag s.toDev KEY_STATUS_seal = false → pol = 0 → runsTo .sealOpen s (wakeBy 5 d3)) ∧
      (flag s.toDev KEY_STATUS_seal = false → pol = 1 → runsTo .sealOpen s (wakeBy 5 (zeroStart 1 d3))) ∧
      (flag s.toDev KEY_STATUS_seal = false → pol = 2 → runsTo .sealOpen s
        (wakeBy 5 { zeroStart 1 d3 with key := { (zeroStart 1 d3).key with zeroKek := true } })) ∧
      (flag s.toDev KEY_STATUS_seal = true →
        runsTo .sealIntact s (raise 0x6803 0 (setF KEY_SEAL_state 0 (setF KEY_STATUS_seal 0 s.toDev))))) ∧
    (∀ why, s.key.zero = some why →
      let d1 := { s.toDev with key := { s.key with zero := none, zeroKek := false } }
      runsTo .zeroizationComplete s (raise 0x6804 (why + b2n s.key.zeroKek * 8) (if s.key.zeroKek = true then blowKekRevoke d1 else d1)))) ∧
  (∀ (got : List Word) (mark : Bool) (o : FuseOp) (s : State), s.pwr.powered = true → s.key.fuse = some o →
    let d0 := setF KEY_FUSE_STATUS_busy 0 { s.toDev with key := { s.key with fuse := none } }
    let d1 := if fuseHasData o = true then forEach (List.range 8)
      (fun w x => setFuseWord o w (fuseWord x o w ||| (o.data.getD w 0#32 &&& got.getD w 0#32)) x) d0 else d0
    let good := mark = true ∧ (fuseHasData o = true → o.cut = false ∧ ∀ w, w < 8 → fuseWord d1 o w = o.data.getD w 0#32)
    (good → runsTo (.fuseCommandComplete got mark) s
      (raise 0x680C o.cmd (wrN KEY_RESULT (2 * 256) (setF ⟨KEY_FUSE_STATUS, fuseMark o, 1⟩ 1 d1)))) ∧
    (¬ good → o.cmd % 2 = 0 → runsTo (.fuseCommandComplete got mark) s (raise 0x680D o.cmd (wrN KEY_RESULT (7 + 2 * 256) d1))) ∧
    (¬ good → o.cmd % 2 = 1 → runsTo (.fuseCommandComplete got mark) s
      (raise 0x680D o.cmd (wrN KEY_RESULT (7 + 2 * 256) (setF ⟨KEY_FUSE_STATUS, 11 + o.slot, 1⟩ 1 d1))))) ∧
  (∀ (got : List Word) (mark : Bool) (s : State), s.key.fuse = none → runsTo (.fuseCommandComplete got mark) s s.toDev)

/-- A delivery whose last byte has arrived is processed, one cut short is discarded. Zeroize clears every volatile slot at
once and leaves none that holds a key. Erase outside the layout gets cause 0x01, of an empty slot 0x02, else empties
the slot with 0x00. An evaluation activates keys, and in the first millisecond of a second ends expired ones. A slot
with bad parity becomes Invalid with 0x680A and a corrected fault; where it was the Current NTS key, the Accepting key
with the latest activation becomes Current. Engines that fail the tests due at a power-up are fenced; a passed
readmission puts an engine back in service, with its unit Normal once all of its engines are. A reseed restarts the
count of requests; a failed health test stops the random source, is counted, and reports a contained fault with
0x680F. -/
def Obligations.KeySlotAndEngineCommandsComplete : Prop :=
  (∀ (c : Fin 8) (s : State), s.pwr.powered = true →
    (dlvComplete s.toDev c.val = true → runsTo (.keyDelivery c) s (dlvProcess c.val s.toDev) ∧ runsTo (.keyDeliveryDiscard c) s s.toDev) ∧
    (dlvComplete s.toDev c.val = false → runsTo (.keyDelivery c) s s.toDev ∧ runsTo (.keyDeliveryDiscard c) s (dlvDiscard c.val s.toDev))) ∧
  (∀ (r : Req) (k : Fin 4) (n : BitVec 10) (s : State), granted s.toDev r KEY_CMD = true →
    (keySlots s.toDev k.val ≤ n.toNat → runsTo (.keyErase r k n) s (wrN KEY_RESULT (1 + 1 * 256) s.toDev)) ∧
    (n.toNat < keySlots s.toDev k.val → slotEmpty s.toDev k.val n.toNat = true →
      runsTo (.keyErase r k n) s (wrN KEY_RESULT (2 + 1 * 256) s.toDev)) ∧
    (n.toNat < keySlots s.toDev k.val → slotEmpty s.toDev k.val n.toNat = false →
      runsTo (.keyErase r k n) s (wrN KEY_RESULT (1 * 256) (slotClear k.val n.toNat s.toDev))) ∧
    runsTo (.keyZeroize r) s (wrN KEY_RESULT (1 * 256) (zeroStart 4 s.toDev))) ∧
  (∀ d : Dev, (∀ n, n < 16 → ntsState (zeroSlots d) n = 0) ∧ (∀ o, o < 4 → fld (zeroSlots d) (KEY_OSN_STATE_state o) = 0) ∧
    (∀ i, i < 1024 → saState (zeroSlots d) i = 0) ∧ flag (zeroSlots d) KEY_STATUS_kek_v = false) ∧
  (∀ s : State, s.pwr.powered = true → domOn s.toDev .tb = true → runsTo .keyActivationEvaluation s
    (let tai := taiSec s.toDev
     let d1 := ntsActivate tai s.toDev
     let d2 := saEvaluate tai (if now16 d1 % sec16 < ms16 then ntsEnd tai d1 else d1)
     let waits := fun (p : Nat × Nat) => if p.1 = 0 then ntsState d2 p.2 == 1 else saState d2 p.2 == 1
     { d2 with key := { d2.key with fresh := d2.key.fresh.filter waits } })) ∧
  (∀ (k : Fin 4) (n : Fin 1024) (s : State), s.pwr.powered = true → slotEmpty s.toDev k.val n.val = false →
    n.val < keySlots s.toDev k.val →
    let d1 := match k.val with
      | 0 => setF (KEY_NTS_STATE_state n.val) 4 s.toDev
      | 1 => setF ⟨bank KEY_SA_INFO n.val, 18, 2⟩ 3 s.toDev
      | 2 => setF (KEY_OSN_STATE_state n.val) 2 s.toDev
      | _ => kekClear s.toDev
    let par := k.val + n.val * 65536
    let d2 := reportUnit 0x32 0x01 .corrected 0x680A par (raise 0x680A par d1)
    (¬ (k.val = 0 ∧ ntsState s.toDev n.val = 2) → runsTo (.keySlotParity k n) s d2) ∧
    (k.val = 0 → ntsState s.toDev n.val = 2 →
      let d3 := wrN KEY_NTS_CUR 0 d2
      let acc := (List.range 16).filter (fun m => ntsState d3 m == 3)
      (bestKey d3 acc = none → runsTo (.keySlotParity k n) s d3) ∧
      (∀ m, bestKey d3 acc = some m → runsTo (.keySlotParity k n) s (raise 0x6808 (m + n.val * 256) (setCurrent m d3))))) ∧
  (∀ (l : List (Fin 24)) (s : State), s.pwr.powered = true → domOn s.toDev .cry = true →
    (s.key.katDue = true → runsTo (.engineSelftest l) s (forEach (l.map (fun e => e.val)) (fun e x => if engFenced x e = true then x else engineFence e x)
      { s.toDev with key := { s.key with katDue := false } })) ∧
    (s.key.katDue = false → runsTo (.engineSelftest l) s s.toDev)) ∧
  (∀ (r : Req) (e : Fin 24) (s : State), granted s.toDev r KEY_ENG_CMD = true →
    (engFenced s.toDev e.val = true →
      let d1 := engineIn e.val s.toDev
      ((unitEngines (engUnit e.val)).any (engFenced d1) = true → runsTo (.engineReadmit r e true) s
        (modUnit (engUnit e.val) (fun x => { x with state := 0, part := true }) d1)) ∧
      ((unitEngines (engUnit e.val)).any (engFenced d1) = false → runsTo (.engineReadmit r e true) s (admitUnit (engUnit e.val) d1))) ∧
    (engFenced s.toDev e.val = false → runsTo (.engineReadmit r e true) s s.toDev) ∧
    runsTo (.engineReadmit r e false) s s.toDev) ∧
  (∀ (r : Req) (s : State), granted s.toDev r KEY_RNG_CTL = true →
    (flag s.toDev KEY_STATUS_rng_ok = true → runsTo (.rngReseed r) s { s.toDev with key := { s.key with rngReq := 0 } }) ∧
    (flag s.toDev KEY_STATUS_rng_ok = false → runsTo (.rngReseed r) s s.toDev)) ∧
  (∀ s : State, s.pwr.powered = true → runsTo .rngHealthFailure s (reportUnit 0x32 0x05 .contained 0x680F 0
    (raise 0x680F 0 (satAdd KEY_RNG_CTL_failures 1 (rngStop s.toDev)))))

/-- With TWN in service and the link in Training: a pad loopback beyond 200 ps keeps Training and reports a contained
fault; one within it sets the lane latencies, makes an alignment record where they are new and sends the hello, which
completes the exchange where the partner's waits. A hello waits until the own one is sent; then the link is Up, a
hello that agrees is accepted, one of another revision, structure, side or mirror major version is refused with its
cause and 0x6C07. A hello with a bad CRC changes nothing but the counts. Loss of signal, or 16 CRC errors of an Up
link, lead back to Training. yield, unyield, retrain and a write of TWN_ASYM have their effect. -/
def Obligations.MillraceLinkCommandsComplete : Prop :=
  (∀ (m : Int) (s : State), twnAlive s.toDev = true → fld s.toDev TWN_STATUS_link = 1 →
    let tx0 := sx 32 (resetOf TWN_LAT_TX).toNat
    let df := m - (tx0 + sx 32 (resetOf TWN_LAT_RX).toNat)
    let tx := tx0 + roundDiv ((Config.millraceSplit : Nat) * df) 65536
    let d1 := wrN TWN_LAT_RX (wrapN 32 (m - tx)) (wrN TWN_LAT_TX (wrapN 32 tx) s.toDev)
    let d2 := if rd d1 TWN_LAT_TX ≠ rd s.toDev TWN_LAT_TX ∨ rd d1 TWN_LAT_RX ≠ rd s.toDev TWN_LAT_RX then alignRecord d1 else d1
    let d3 := sendMr [.hello (ownHello d2)] (modTwn (fun t => { t with sentHello := true }) d2)
    (13107 < df.natAbs → runsTo (.millraceLinkTraining m) s (reportUnit 0x34 0x07 .contained 0 0 s.toDev)) ∧
    (df.natAbs ≤ 13107 → s.twn.gotHello = none → runsTo (.millraceLinkTraining m) s d3) ∧
    (∀ h, df.natAbs ≤ 13107 → s.twn.gotHello = some h → runsTo (.millraceLinkTraining m) s
      (modTwn (fun t => { t with out := d3.twn.out ++ (if t.out = d3.twn.out then [] else t.out) }) (hello h d3)))) ∧
  (∀ (h : Hello) (s : State), twnAlive s.toDev = true → fld s.toDev TWN_STATUS_link = 1 →
    let c := helloCause h s.toDev
    let new := rd s.toDev TWN_PEER_LAT_TX ≠ h.latTx ∨ rd s.toDev TWN_PEER_LAT_RX ≠ h.latRx
    let same := h.side = flag s.toDev TWN_BUS_STATUS_side
    let d1 := wr TWN_PEER_STRUCT h.buildStruct (wr TWN_PEER_CORE h.buildCore (wr TWN_PEER_LAT_TX h.latTx (wr TWN_PEER_LAT_RX h.latRx s.toDev)))
    let d2 := setB TWN_BUS_STATUS_side_conflict (decide same) d1
    let d3 := if same ∧ flag s.toDev TWN_BUS_STATUS_side_conflict = false then raise 0x6C0A 2 d2 else d2
    let d4 := linkTo 2 (modTwn (fun t => { t with peerAt := now16 s.toDev }) d3)
    let d5 := if c = 0 ∨ new then alignRecord d4 else d4
    let d6 := if fld d5 TWN_STATUS_mirror ≠ 0 then setF TWN_STATUS_mirror 0 (twnResult c 0 d5) else twnResult c 0 d5
    (s.twn.sentHello = false → runsTo (.helloReceived h true) s (modTwn (fun t => { t with gotHello := some h }) s.toDev)) ∧
    (s.twn.sentHello = true → c = 0 → runsTo (.helloReceived h true) s (pairAccept h d5)) ∧
    (s.twn.sentHello = true → c ≠ 0 → runsTo (.helloReceived h true) s (raise 0x6C07 (rdN d6 TWN_RESULT) d6)) ∧
    (c = 0 ↔ h.hwId = 0xB0 ∧ rdN s.toDev IMG_HW_ID = 0xB0 ∧ h.buildStruct = rd s.toDev IMG_BUILD_STRUCT ∧
      h.side ≠ flag s.toDev TWN_BUS_STATUS_side ∧ h.version / 256 = mirrorVersion s.toDev / 256) ∧
    runsTo (.helloReceived h false) s (twnCount 5 1 (modTwn (fun t => { t with crcErrs := t.crcErrs + 1 }) s.toDev))) ∧
  (∀ s : State, twnAlive s.toDev = true →
    (fld s.toDev TWN_STATUS_link ≠ 0 → runsTo (.millraceLinkLoss false) s (linkTo 1 (linkTo 0 s.toDev))) ∧
    (fld s.toDev TWN_STATUS_link = 2 → 16 ≤ s.twn.crcErrs →
      runsTo (.millraceLinkLoss true) s (linkTo 1 (modTwn (fun t => { t with crcErrs := 0 }) s.toDev))) ∧
    ((fld s.toDev TWN_STATUS_link ≠ 2 ∨ s.twn.crcErrs < 16) → runsTo (.millraceLinkLoss true) s s.toDev)) ∧
  (∀ (r : Req) (s : State), granted s.toDev r TWN_CMD = true →
    runsTo (.twnYield r) s (twnResult 0 1 (setF TWN_BUS_STATUS_yielding 1 s.toDev)) ∧
    runsTo (.twnUnyield r) s (twnResult 0 1 (setF TWN_BUS_STATUS_yielding 0 s.toDev)) ∧
    (fld s.toDev TWN_STATUS_link = 2 → runsTo (.twnRetrain r) s (twnResult 0 1 (linkTo 1 s.toDev))) ∧
    (fld s.toDev TWN_STATUS_link ≠ 2 → runsTo (.twnRetrain r) s (twnResult 2 1 s.toDev))) ∧
  (∀ (r : Req) (v : Word) (s : State), granted s.toDev r TWN_ASYM = true →
    runsTo (.twnAsymWrite r v) s (alignRecord (wr TWN_ASYM v s.toDev)))

/-- Where the claim bus runs, a round completes: two rounds without the presence bit mean the partner is gone. Without bus
fault the greater claim wins, a tie the chip with TWN_SIDE or alone, and the comparison is known; under a bus fault,
or with unit 0x35 out, the round only counts and the eighth good one ends the fault. The claim computed now is driven
in the next round, and the loss of presence is wake source 8. A bus fault with TWN in service raises 0x6C0A with bit
0, is counted and starts the count of good rounds anew. An output stage drives when its output runs and, where it is
claim-ruled, the chip holds the claim; a change raises 0x3009. The partner gone and the link not Up for TWN_LOSS_TIME,
the chip is an Orphan. -/
def Obligations.ClaimCommandsComplete : Prop :=
  (∀ (p : Bool) (c : BitVec 16) (s : State), busRuns s.toDev = true →
    let absent := if p = true then 0 else min 2 (s.twn.absent + 1)
    let here := decide (absent < 2)
    let own := s.twn.claim
    let theirs := if p = true then c.toNat else 0
    let faulted := flag s.toDev TWN_BUS_STATUS_bus_fault
    let gone := if here = true then none else some (s.twn.goneAt.getD (now16 s.toDev))
    let d1 := modTwn (fun t => { t with absent := absent, good := if faulted = true then t.good + 1 else 0, goneAt := gone }) s.toDev
    let next := fun (d2 : Dev) =>
      let d3 := modTwn (fun t => { t with claim := claimNow d2 }) d2
      if s.twn.absent < 2 ∧ d3.twn.absent = 2 then wakeBy 8 d3 else d3
    let wins := theirs < own ∨ theirs = own ∧ (flag s.toDev TWN_BUS_STATUS_side = true ∨ p = false)
    ((faulted = true ∨ unitOut s.toDev 0x35 = true) → ¬ (faulted = true ∧ 8 ≤ s.twn.good + 1) →
      runsTo (.claimRoundEnd p c) s (next (setB TWN_BUS_STATUS_partner_present here d1))) ∧
    (faulted = true → 8 ≤ s.twn.good + 1 →
      runsTo (.claimRoundEnd p c) s (next (setF TWN_BUS_STATUS_bus_fault 0 (setB TWN_BUS_STATUS_partner_present here d1)))) ∧
    (faulted = false → unitOut s.toDev 0x35 = false → wins → runsTo (.claimRoundEnd p c) s
      (next (claimKnown true (claimBeats own theirs s.toDev) own (if here = true then s.twn.peerClaim else 0) (b2n here) here d1))) ∧
    (faulted = false → unitOut s.toDev 0x35 = false → ¬ wins → runsTo (.claimRoundEnd p c) s
      (next (claimKnown false (claimBeats own theirs s.toDev) own theirs 0 here d1)))) ∧
  (∀ s : State, twnAlive s.toDev = true →
    let gone := max (s.twn.goneAt.getD 0) (s.twn.upAt.getD 0) + fld s.toDev TWN_LOSS_TIME_ms * 65536000000
    runsTo .claimBusFault s (raise 0x6C0A 1 (twnCount 10 1 (setF TWN_BUS_STATUS_bus_fault 1 (modTwn (fun t => { t with good := 0 }) s.toDev)))) ∧
    (flag s.toDev TWN_BUS_STATUS_partner_present = false → linkUp s.toDev = false → gone ≤ now16 s.toDev →
      runsTo .partnerLossExpiry s (twinTo 2 s.toDev)) ∧
    ((flag s.toDev TWN_BUS_STATUS_partner_present = true ∨ linkUp s.toDev = true) → runsTo .partnerLossExpiry s s.toDev)) ∧
  (∀ (o : Fin 20) (s : State), s.pwr.powered = true →
    let on := if o.val < 16 then flag s.toDev (SYN_OUT_STATUS_running o.val) && (!(flag s.toDev (SYN_OUT_CFG_claim o.val)) || claimDrives s.toDev)
      else flag s.toDev (SYN_PPS_STATUS_running (o.val - 16)) && (!(flag s.toDev (SYN_PPS_CFG_claim (o.val - 16))) || claimDrives s.toDev)
    let f := if o.val < 16 then SYN_OUT_STATUS_driving o.val else SYN_PPS_STATUS_driving (o.val - 16)
    (on = flag s.toDev f → runsTo (.claimStageChange o) s s.toDev) ∧
    (on ≠ flag s.toDev f → runsTo (.claimStageChange o) s (raise 0x3009 (o.val + b2n on * 256) (setB f on s.toDev))))

/-- With TWN in service and the link Up: an alignment frame is combined with the own results. A Standby that takes the
mirror stages the records of one epoch; one of another epoch discards the staged epoch with 0x6C04 and asks again. A
commit whose number, count and CRC agree, of the next epoch or the first of a sweep, is applied and acknowledged;
another discards the epoch, as does a bad CRC; a sweep commit makes a Sweeping mirror Valid. An acknowledge drops
retained epochs. An epoch asked for is sent again if kept, else a sweep starts; a session asked for joins the journal;
the store asked for starts a sweep. Retention exceeded starts a sweep. Sweep records are applied, the first starting
the sweep. A health frame goes out once a TAI second and, received, sets the partner's registers; 3 s without one set
health_stale with 0x6C08. A due hunt test of a Standby with bist_en moves on; a failure is counted, raises 0x6C0C and
is reported. resync without a paired link gets cause 2, else starts a sweep. -/
def Obligations.TwinMirrorAndHealthCommandsComplete : Prop :=
  (∀ s : State, twnAlive s.toDev = true → linkUp s.toDev = true →
    let bad := twnCount 5 1 (modTwn (fun t => { t with crcErrs := t.crcErrs + 1 }) s.toDev)
    (∀ a : AlignMsg, runsTo (.alignmentFrame a true) s (alignCombine a s.toDev) ∧ runsTo (.alignmentFrame a false) s bad) ∧
    (∀ (n : Nat) (x : JRec), runsTo (.journalRecord n x false) s bad ∧
      (mirrorIn s.toDev = true → s.twn.staged = none →
        runsTo (.journalRecord n x true) s (modTwn (fun t => { t with staged := some (n, [x]) }) s.toDev)) ∧
      (∀ l, mirrorIn s.toDev = true → s.twn.staged = some (n, l) →
        runsTo (.journalRecord n x true) s (modTwn (fun t => { t with staged := some (n, l ++ [x]) }) s.toDev)) ∧
      (∀ k l, mirrorIn s.toDev = true → s.twn.staged = some (k, l) → k ≠ n →
        runsTo (.journalRecord n x true) s (modTwn (fun t => { t with staged := some (n, [x]) }) (discardEpoch k s.toDev))) ∧
      (mirrorIn s.toDev = false → runsTo (.journalRecord n x true) s s.toDev)) ∧
    (∀ c : Commit,
      let d1 := modTwn (fun t => { t with peerClaim := c.claim }) s.toDev
      let wins := claimBeats (claimNow d1) c.claim d1
      let d0 := if flag s.toDev TWN_BUS_STATUS_bus_fault = true ∨ unitOut s.toDev 0x35 = true then
        claimKnown wins wins (claimNow d1) c.claim 1 true d1 else d1
      let st := d0.twn.staged.getD (c.n, [])
      let good := st.1 = c.n ∧ st.2.length = c.count ∧ jrecCrc st.2 = c.crc ∧
        (c.n = rdN d0 TWN_EPOCH + 1 ∨ fld d0 TWN_STATUS_mirror = 1 ∧ d0.twn.ofs = none)
      (mirrorIn d0 = false → runsTo (.mirrorCommitReceived c true) s d0) ∧
      (mirrorIn d0 = true → c.sweep = true → fld d0 TWN_STATUS_mirror = 1 → runsTo (.mirrorCommitReceived c true) s (sweepDone d0)) ∧
      (mirrorIn d0 = true → c.sweep = true → fld d0 TWN_STATUS_mirror ≠ 1 → runsTo (.mirrorCommitReceived c true) s d0) ∧
      (mirrorIn d0 = true → c.sweep = false → good → runsTo (.mirrorCommitReceived c true) s (applyEpoch c.n st.2 d0)) ∧
      (mirrorIn d0 = true → c.sweep = false → ¬ good → runsTo (.mirrorCommitReceived c true) s (discardEpoch c.n d0)) ∧
      (mirrorIn s.toDev = false → runsTo (.mirrorCommitReceived c false) s bad) ∧
      (mirrorIn s.toDev = true → runsTo (.mirrorCommitReceived c false) s
        (discardEpoch (match bad.twn.staged with | some p => p.1 | none => rdN bad TWN_EPOCH + 1) bad))) ∧
    (∀ n : Nat, runsTo (.mirrorAcknowledge n true) s (modTwn (fun t => { t with retained := t.retained.filter (fun p => decide (n < p.1)) }) s.toDev) ∧
      runsTo (.mirrorAcknowledge n false) s bad ∧
      (∀ k l, mirrors s.toDev = true → s.twn.retained.find? (fun p => p.1 == n) = some (k, l) →
        runsTo (.requestAgain (.epoch n) true) s (sendMr (l.map .journal ++ [commitOf n l s.toDev]) s.toDev)) ∧
      (mirrors s.toDev = true → s.twn.retained.find? (fun p => p.1 == n) = none → n = rdN s.toDev TWN_EPOCH + 1 →
        runsTo (.requestAgain (.epoch n) true) s s.toDev) ∧
      (mirrors s.toDev = true → s.twn.retained.find? (fun p => p.1 == n) = none → n ≠ rdN s.toDev TWN_EPOCH + 1 →
        runsTo (.requestAgain (.epoch n) true) s (startSweep s.toDev))) ∧
    (∀ a : AgainMsg, runsTo (.requestAgain a false) s bad) ∧
    (∀ i : Nat, i < 262144 → domOn s.toDev .smem = true →
      runsTo (.requestAgain (.session i) true) s (journalAdd (.session i (sessWords s.toDev i)) s.toDev)) ∧
    (fld s.toDev TWN_STATUS_state = 0 → flag s.toDev TWN_STATUS_paired_ok = true →
      runsTo (.requestAgain .store true) s (startSweep s.toDev)) ∧
    (fld s.toDev TWN_STATUS_state ≠ 0 → runsTo (.requestAgain .store true) s s.toDev) ∧
    (mirrors s.toDev = true → fld s.toDev TWN_RETAIN_epochs < s.twn.retained.length →
      (flag s.toDev TWN_STATUS_paired_ok = true → runsTo .retentionExceeded s (startSweep s.toDev)) ∧
      (flag s.toDev TWN_STATUS_paired_ok = false →
        runsTo .retentionExceeded s (modTwn (fun t => { t with mirroring := false, retained := [], journal := [] }) s.toDev))) ∧
    (s.twn.retained.length ≤ fld s.toDev TWN_RETAIN_epochs → runsTo .retentionExceeded s s.toDev) ∧
    (∀ x : JRec, runsTo (.sweepRecord x false) s bad ∧
      ((fld s.toDev TWN_STATUS_state ≠ 1 ∨ flag s.toDev TWN_STATUS_paired_ok = false) → runsTo (.sweepRecord x true) s s.toDev) ∧
      (fld s.toDev TWN_STATUS_state = 1 → flag s.toDev TWN_STATUS_paired_ok = true →
        let d1 := if fld s.toDev TWN_STATUS_mirror ≠ 1 then startSweep s.toDev else s.toDev
        (∀ i ws, x = .session i ws → runsTo (.sweepRecord x true) s
          (modTwn (fun t => { t with swept := i :: t.swept.filter (fun k => k != i) }) (applyRec 0 x d1))) ∧
        (∀ i m, x = .nextHop i m → runsTo (.sweepRecord x true) s (applyRec 0 x d1)) ∧
        (∀ ks, x = .hashKeys ks → runsTo (.sweepRecord x true) s (applyRec 0 x d1)))) ∧
    (s.twn.healthSec ≠ some (taiSec s.toDev) →
      let d1 := modTwn (fun t => { t with healthSec := some (taiSec s.toDev) }) s.toDev
      runsTo .healthFrameSend s (sendMr [.health (ownHealth s.toDev)] d1)) ∧
    (s.twn.healthSec = some (taiSec s.toDev) → runsTo .healthFrameSend s s.toDev) ∧
    (∀ h : Health, runsTo (.healthFrameReceived h false) s bad ∧
      runsTo (.healthFrameReceived h true) s (digestFlag TWN_STATUS_cfg_diff 2
        (decide (h.cfgDigest ≠ configDigest s.toDev)) (digestFlag TWN_STATUS_key_diff 1 (decide (h.keyDigest ≠ keyDigestNow s.toDev))
          (wrN TWN_PEER_STATE (h.twin % 4 + h.device % 8 * 4 + h.servo % 4 * 32 + h.cls % 256 * 256)
            (wr64 TWN_PEER_BOUND_LO (h.bound % 2 ^ 48) (setF TWN_STATUS_health_stale 0
              (modTwn (fun t => { t with peerClaim := h.claim, peerAt := now16 s.toDev }) s.toDev))))))) ∧
    (flag s.toDev TWN_STATUS_health_stale = false → s.twn.peerAt + 3 * sec16 ≤ now16 s.toDev →
      runsTo .healthStale s (raise 0x6C08 3 (twnCount 6 3 (setF TWN_STATUS_health_stale 1 s.toDev)))) ∧
    (flag s.toDev TWN_STATUS_health_stale = true → runsTo .healthStale s s.toDev)) ∧
  (∀ (ok : Bool) (s : State), twnAlive s.toDev = true →
    ((flag s.toDev TWN_CTL_bist_en = false ∨ fld s.toDev TWN_STATUS_state ≠ 1) → runsTo (.huntTest ok) s s.toDev) ∧
    (flag s.toDev TWN_CTL_bist_en = true → fld s.toDev TWN_STATUS_state = 1 → huntDue s.toDev = true →
      let p := huntNext s.toDev 29 s.twn.huntPos
      let d1 := twnCount 8 1 (modTwn (fun t => { t with huntPos := (p + 1) % 29, huntAt := some (now16 s.toDev) }) s.toDev)
      let test := fun (x : Dev) => if ok = true then x else reportUnit (huntUnit p) 0x05 .contained 0x6C0C (huntUnit p + p * 256)
        (raise 0x6C0C (huntUnit p + p * 256) (twnCount 9 1 x))
      (p < 24 → crdForFw s.toDev (decide (8 ≤ p)) = true →
        runsTo (.huntTest ok) s (crdMove (decide (8 ≤ p)) 5 0 1 (test (crdMove (decide (8 ≤ p)) 0 5 1 d1)))) ∧
      (p < 24 → crdForFw s.toDev (decide (8 ≤ p)) = false → runsTo (.huntTest ok) s s.toDev) ∧
      (24 ≤ p → p ≠ 28 → runsTo (.huntTest ok) s (test d1)) ∧
      (p = 28 → domOn d1 .smem = true → runsTo (.huntTest ok) s (scrubStore d1)) ∧
      (p = 28 → domOn d1 .smem = false → runsTo (.huntTest ok) s d1))) ∧
  (∀ (r : Req) (s : State), granted s.toDev r TWN_CMD = true →
    ((linkUp s.toDev = false ∨ flag s.toDev TWN_STATUS_paired_ok = false) → runsTo (.twnResync r) s (twnResult 2 1 s.toDev)) ∧
    (linkUp s.toDev = true → flag s.toDev TWN_STATUS_paired_ok = true →
      (fld s.toDev TWN_STATUS_state = 0 → runsTo (.twnResync r) s (startSweep (twnResult 0 1 s.toDev))) ∧
      (fld s.toDev TWN_STATUS_state ≠ 0 → runsTo (.twnResync r) s (sendMr [.again .store] (startSweep (twnResult 0 1 s.toDev))))))

/-- start, halt and readmit act by a requester that may command cores and on a core in the state that fits, with its
partner in lockstep; else CTL_RESULT gets cause 1 or 3. A running core sleeps where nothing waits for its group, else
runs on. An exception first gives back the banks of the returns before it, then takes the free save bank of the group
with its pc, status and address; with both banks live it is a double fault; the timer exception needs its request, the
user entry is none where user mode is up. A kick is taken only from the own core with its key. A watchdog past its
period halts the core, reports 0x7002 and restarts it with cause 2; before that nothing happens. A timer that is due
disarms, is left raised, and wakes a sleeping core. -/
def Obligations.CoreCommandsComplete : Prop :=
  (∀ (r : Req) (c : Fin 4) (s : State), granted s.toDev r (CTL_CORE_CMD c.val) = true →
    (coreCmdBy s.toDev r = false → ∀ i ∈ [Instr.coreStart r c, .coreHalt r c, .coreReadmit r c], runsTo i s (setF CTL_RESULT_cause 1 s.toDev)) ∧
    (coreCmdBy s.toDev r = true →
      (coreState s.toDev c.val = 1 → runsTo (.coreStart r c) s
        (setF CTL_RESULT_cause 0 (forEach (coreGroup s.toDev c.val) (fun k x => startCore k 1 x) s.toDev))) ∧
      (coreState s.toDev c.val ≠ 1 → runsTo (.coreStart r c) s (setF CTL_RESULT_cause 3 s.toDev)) ∧
      (coreState s.toDev c.val = 2 → runsTo (.coreHalt r c) s
        (setF CTL_RESULT_cause 0 (forEach (coreGroup s.toDev c.val) (fun k x => setCore k 1 x) s.toDev))) ∧
      (coreState s.toDev c.val ≠ 2 → runsTo (.coreHalt r c) s (setF CTL_RESULT_cause 3 s.toDev)) ∧
      (coreState s.toDev c.val = 4 → (funit s.toDev (0x36 + c.val)).state = 2 → runsTo (.coreReadmit r c) s
        (modUnit (0x36 + c.val) (fun x => { x with state := 3, byBlock := true }) s.toDev)) ∧
      ((coreState s.toDev c.val ≠ 4 ∨ (funit s.toDev (0x36 + c.val)).state ≠ 2) →
        runsTo (.coreReadmit r c) s (setF CTL_RESULT_cause 3 s.toDev)))) ∧
  (∀ (c : Fin 4) (s : State), domOn s.toDev .ctl = true → coreState s.toDev c.val = 2 →
    ((∀ k ∈ coreGroup s.toDev c.val, unread s.toDev (3 + k) = 0 ∧ (Machine.core s.toDev k).timerExc = false) →
      runsTo (.sleepInstruction c) s (forEach (coreGroup s.toDev c.val) (fun k x => setCore k 3 x) s.toDev)) ∧
    ((∃ k ∈ coreGroup s.toDev c.val, unread s.toDev (3 + k) ≠ 0 ∨ (Machine.core s.toDev k).timerExc = true) →
      runsTo (.sleepInstruction c) s s.toDev) ∧
    (∀ x : CoreExc,
      let d0 := forEach (coreGroup s.toDev c.val) (fun k y => modCore k (fun z => { z with banks := z.banks.take (z.banks.length - x.returns) }) y) s.toDev
      let takes := fun (addr : Nat) (y : Dev) => if (Machine.core y c.val).banks.length < 2 then
        forEach (coreGroup y c.val) (fun k w => modCore k (fun z => { z with banks := z.banks ++ [(x.pc, x.status, addr)] }) w) y
        else doubleFault c.val y
      ((x.kind = .illegal ∨ x.kind = .other ∨ (x.kind = .userEntry ∧ flag s.toDev CTL_STATUS_user_ok = false)) →
        runsTo (.coreException c x) s (takes (freeVal d0) (draw d0))) ∧
      (x.kind = .userEntry → flag s.toDev CTL_STATUS_user_ok = true → runsTo (.coreException c x) s d0) ∧
      (x.kind = .timer → (Machine.core d0 c.val).timerExc = true → runsTo (.coreException c x) s
        (takes (freeVal d0) (modCore c.val (fun k => { k with timerExc := false }) (draw d0)))) ∧
      (x.kind = .timer → (Machine.core d0 c.val).timerExc = false → runsTo (.coreException c x) s d0) ∧
      (∀ (va : Nat) (acc : MemAcc) (user : Bool), x.kind = .access va acc user →
        let t := coreXlat c.val va acc user d0
        (accessFault t.2 t.1 acc = none → runsTo (.coreException c x) s t.2) ∧
        (∀ cause lvl, accessFault t.2 t.1 acc = some (cause, lvl) →
          runsTo (.coreException c x) s (takes va (mmuFault c.val cause lvl va acc user t.2))))) ∧
    (fld s.toDev CTL_WDOG_CFG_ms = 0 → runsTo (.watchdogExpiry c) s s.toDev) ∧
    ((Machine.core s.toDev c.val).kickAt ≤ now16 s.toDev →
      now16 s.toDev < (Machine.core s.toDev c.val).kickAt + fld s.toDev CTL_WDOG_CFG_ms * 65536000000 → runsTo (.watchdogExpiry c) s s.toDev) ∧
    (fld s.toDev CTL_WDOG_CFG_ms ≠ 0 → (Machine.core s.toDev c.val).kickAt + fld s.toDev CTL_WDOG_CFG_ms * 65536000000 ≤ now16 s.toDev →
      runsTo (.watchdogExpiry c) s (coreFail c.val 2 0x08 (reportUnit (0x36 + c.val) 0x08 .contained 0x7002 c.val
        (raise 0x7002 c.val (setCore c.val 1 s.toDev)))))) ∧
  (∀ (c : Fin 4) (s : State), domOn s.toDev .ctl = true →
    runsTo (.watchdogKick c c 0x0000C0DE#32) s
      (forEach (coreGroup s.toDev c.val) (fun k x => modCore k (fun z => { z with kickAt := now16 s.toDev }) x) s.toDev) ∧
    (∀ (k : Fin 4) (v : Word), (k ≠ c ∨ v ≠ 0x0000C0DE#32) → runsTo (.watchdogKick k c v) s s.toDev) ∧
    ((Machine.core s.toDev c.val).tmr = false → runsTo (.coreTimerFire c) s s.toDev) ∧
    (due (rd64 s.toDev (CTL_CORE_TMR_LO c.val)) (near s.toDev) = false → runsTo (.coreTimerFire c) s s.toDev) ∧
    ((Machine.core s.toDev c.val).tmr = true → due (rd64 s.toDev (CTL_CORE_TMR_LO c.val)) (near s.toDev) = true →
      let d1 := modCore c.val (fun x => { x with tmr := false, timerExc := true }) s.toDev
      (coreState s.toDev c.val ≠ 3 → runsTo (.coreTimerFire c) s d1) ∧
      (coreState s.toDev c.val = 3 → runsTo (.coreTimerFire c) s (forEach (coreGroup s.toDev c.val) (fun k x => setCore k 2 x) d1))))

/-- The lockstep pair is formed or dissolved only while cores 2 and 3 are Halted, else CTL_RESULT gets cause 2. A mismatch
halts both cores; a core that passes its self-test within the upset limit restarts, one that does not is resolved and
fenced, and only two passed tests keep the pair. A TLB invalidation keeps the entries outside its scope in every core
and channel. A page reload is refused by name with 0x7009, or restores the page with 0x7008. A parity error in a cache
line or a TLB entry of a running core is counted or the entry dropped, and reported as corrected; one in a word of
SRAM that an access of the core reads takes the access fault where that word is bad. One in a packet buffer drops the
packet, in a configuration table brings back the image's values, in a history entry or the ephemerides marks them. -/
def Obligations.CoreCheckCommandsComplete : Prop :=
  (∀ (r : Req) (v : Word) (s : State), granted s.toDev r CTL_LS_CTL = true →
    (coreState s.toDev 2 = 1 → coreState s.toDev 3 = 1 → runsTo (.lockstepEnableWrite r v) s
      (setB CTL_STATUS_lockstep (bitAt v 0) (setB CTL_LS_CTL_en (bitAt v 0) (setF CTL_RESULT_cause 0 s.toDev)))) ∧
    ((coreState s.toDev 2 ≠ 1 ∨ coreState s.toDev 3 ≠ 1) → runsTo (.lockstepEnableWrite r v) s (setF CTL_RESULT_cause 2 s.toDev))) ∧
  (∀ (pass2 pass3 : Bool) (s : State), domOn s.toDev .ctl = true → lockstepOn s.toDev = true → coreState s.toDev 2 = 2 →
    let halted := setCore 3 1 (setCore 2 1 s.toDev)
    let ok2 := pass2 = true ∧ passOver s.toDev 0x38 = false
    let ok3 := pass3 = true ∧ passOver s.toDev 0x39 = false
    let off := fun (x : Dev) => setF CTL_STATUS_lockstep 0 (setF CTL_LS_CTL_en 0 x)
    let good := fun (u n : Nat) (x : Dev) => resolved u 0x06 1 0x7004 n true x
    let bad := fun (c n : Nat) (pass : Bool) (x : Dev) =>
      coreOut c 0x06 (fenceUnit (0x36 + c) 0x06 (resolved (0x36 + c) 0x06 (if pass = true then 1 else 2) 0x7004 n pass x))
    (ok2 → ok3 → runsTo (.lockstepMismatch pass2 pass3) s
      (restartCore 3 4 (restartCore 2 4 (good 0x39 0 (good 0x38 0 (raise 0x7004 0 halted)))))) ∧
    (¬ ok2 → ok3 → runsTo (.lockstepMismatch pass2 pass3) s
      (restartCore 3 4 (bad 2 1 pass2 (good 0x39 1 (off (raise 0x7004 1 halted)))))) ∧
    (ok2 → ¬ ok3 → runsTo (.lockstepMismatch pass2 pass3) s
      (restartCore 2 4 (bad 3 1 pass3 (good 0x38 1 (off (raise 0x7004 1 halted)))))) ∧
    (¬ ok2 → ¬ ok3 → runsTo (.lockstepMismatch pass2 pass3) s
      (bad 3 2 pass3 (bad 2 2 pass2 (off (raise 0x7004 2 halted)))))) ∧
  (∀ (r : Req) (v : Word) (s : State), granted s.toDev r CTL_TLB_INV = true →
    let f := tlbLeave (bitsOf v 0 2) (fld s.toDev CTL_TLB_INV_ASID_asid) (rd64 s.toDev CTL_TLB_INV_VA_LO)
    runsTo (.tlbInvalidate r v) s (forEach (List.range 16) (fun ch x => modDch ch (fun k => { k with tlb := f k.tlb }) x)
      (forEach (List.range 4) (fun c x => modCore c (fun k => { k with tlb := f k.tlb }) x) s.toDev))) ∧
  (∀ (r : Req) (s : State), granted s.toDev r CTL_RELOAD_CMD = true →
    let page := fld s.toDev CTL_RELOAD_ADDR_page
    let no := fun (n : Nat) => raise 0x7009 (page + n * 65536) (setF CTL_RELOAD_CMD_result n s.toDev)
    (fld s.toDev IMG_STATUS_source = 2 → runsTo (.pageReload r) s (no 1)) ∧
    (fld s.toDev IMG_STATUS_source ≠ 2 → cget (fun _ => none) s.ctl.pages page = none → runsTo (.pageReload r) s (no 2)) ∧
    (∀ a h, fld s.toDev IMG_STATUS_source ≠ 2 → cget (fun _ => none) s.ctl.pages page = some (a, h) →
      (Config.sha256 (flashBytes s.toDev a 4096) ≠ h → runsTo (.pageReload r) s (no 3)) ∧
      (Config.sha256 (flashBytes s.toDev a 4096) = h → runsTo (.pageReload r) s (raise 0x7008 page
        (setF CTL_RELOAD_CMD_result 0 (setRamWords (page * 4096) (wordsOf (flashBytes s.toDev a 4096)) s.toDev)))))) ∧
  (∀ (c : Fin 4) (pc st : Nat) (s : State), s.pwr.powered = true → domOn s.toDev .ctl = true → coreState s.toDev c.val = 2 →
    runsTo (.sramParityAccess c .icache pc st) s (reportUnit 0x3B 0x01 .corrected 0 0 (satAdd CTL_CACHE_CNT_icache 1 s.toDev)) ∧
    runsTo (.sramParityAccess c .dcache pc st) s (reportUnit 0x3B 0x01 .corrected 0 0 (satAdd CTL_CACHE_CNT_dcache 1 s.toDev)) ∧
    (∀ i, runsTo (.sramParityAccess c (.tlb i) pc st) s (reportUnit (0x36 + c.val) 0x01 .corrected 0x700A c.val
        (raise 0x700A c.val (modCore c.val (fun x => { x with tlb := x.tlb.eraseIdx i }) s.toDev)))) ∧
    (∀ (ch : Fin 16) (i : Nat), runsTo (.sramParityAccess c (.dmaTlb ch i) pc st) s (reportUnit 0x3A 0x01 .corrected 0x700A 4
        (raise 0x700A 4 (modDch ch.val (fun x => { x with tlb := x.tlb.eraseIdx i }) s.toDev)))) ∧
    (∀ (va : Nat) (acc : MemAcc) (user : Bool),
      let t := coreXlat c.val va acc user s.toDev
      (accessFault t.2 t.1 acc = none → runsTo (.sramParityAccess c (.sram va acc user) pc st) s t.2) ∧
      (∀ cause lvl, accessFault t.2 t.1 acc = some (cause, lvl) → cause ≠ 5 → runsTo (.sramParityAccess c (.sram va acc user) pc st) s
        (takeExc c.val pc st va (mmuFault c.val cause lvl va acc user t.2))) ∧
      (∀ lvl pa, accessFault t.2 t.1 acc = some (5, lvl) → t.1 = .ok pa → ringAt pa = none →
        runsTo (.sramParityAccess c (.sram va acc user) pc st) s
          (takeExc c.val pc st va (mmuFault c.val 5 lvl va acc user (reportUnit 0x3B 0x01 .corrected 0 0 t.2)))) ∧
      (∀ lvl pa u pos, accessFault t.2 t.1 acc = some (5, lvl) → t.1 = .ok pa → ringAt pa = some (u, pos) →
        runsTo (.sramParityAccess c (.sram va acc user) pc st) s
          (takeExc c.val pc st va (mmuFault c.val 5 lvl va acc user (ringParity u pos t.2)))))) ∧
  (∀ (c : Fin 4) (pc st : Nat) (s : State), s.pwr.powered = true →
    (∀ p : Fin 4, domOn s.toDev .pkt = true →
      (pipeQ s.toDev p.val = [] → runsTo (.sramParityAccess c (.rxPacket p) pc st) s s.toDev) ∧
      (∀ x xs, pipeQ s.toDev p.val = x :: xs →
        let d1 := setWait p.val none (setPipeQ p.val xs s.toDev)
        (∀ f, x.msg = .rx f → runsTo (.sramParityAccess c (.rxPacket p) pc st) s (reportUnit 0x27 0x01 .corrected 0 0 (svcCnt 24 1 (rxFree f d1)))) ∧
        ((∀ f, x.msg ≠ .rx f) → runsTo (.sramParityAccess c (.rxPacket p) pc st) s (reportUnit 0x27 0x01 .corrected 0 0 d1)))) ∧
    (∀ (p : Fin 9) (i : Fin 2), domOn s.toDev .pkt = true →
      ((psub s.toDev p.val i.val).mac = [] → runsTo (.sramParityAccess c (.txPacket p i) pc st) s s.toDev) ∧
      (∀ f fs, (psub s.toDev p.val i.val).mac = f :: fs →
        let d1 := txFree f (modPsub p.val i.val (fun y => { y with mac := fs }) s.toDev)
        runsTo (.sramParityAccess c (.txPacket p i) pc st) s
          (reportUnit 0x27 0x01 .corrected 0 0 (if p.val = 8 then d1 else portCnt p.val i.val 27 1 d1)))) ∧
    (∀ a : BarAddr,
      (s.img.run = [] → runsTo (.sramParityAccess c (.config a) pc st) s (reportUnit 0x3C 0x01 .corrected 0 0 s.toDev)) ∧
      (s.img.run ≠ [] → runsTo (.sramParityAccess c (.config a) pc st) s
        (reportUnit 0x3C 0x01 .corrected 0 0 (applyImage (fun x => x % bankSpan == a.toNat) s.toDev)))) ∧
    (∀ i : Fin 4096, refOn s.toDev = true → domOn s.toDev .ctl = true →
      runsTo (.sramParityAccess c (.history i) pc st) s (histParity i.val s.toDev)) ∧
    runsTo (.sramParityAccess c .ephemerides pc st) s
      (reportUnit 0x3C 0x01 .corrected 0 0 { s.toDev with pwr := { s.pwr with ephBad := true } }))

/-- A head write sets the head and makes an Idle, enabled channel with work Active. A beat boundary at which no channel is
ready moves nothing beyond activation and fetching; else the channel of the highest priority, round robin among
equals, moves one beat of at most 256 bytes. A complete descriptor at the front retires with result 0, one found
invalid with result 3; one still in work does not. A park on an Active channel writes the resume record and raises
0x7006; an Idle one takes none. resume, pause, skip and abort have their effect in the states that fit: Parked with a
resumable record or Paused, Active, Parked, any but Idle; elsewhere CTL_RESULT gets cause 3. -/
def Obligations.DmaCommandsComplete : Prop :=
  (∀ (r : Req) (ch : Fin 16) (v : Word) (s : State), granted s.toDev r (CTL_DMA_HEAD ch.val) = true →
    let d1 := setF (CTL_DMA_HEAD_index ch.val) v.toNat s.toDev
    let go := dmaOn d1 && dmaState d1 ch.val == 0 && flag d1 (CTL_DMA_CFG_enable ch.val) && decide (dmaHead d1 ch.val ≠ dmaTail d1 ch.val)
    (go = true → runsTo (.dmaHeadWrite r ch v) s (setF (CTL_DMA_STATE_state ch.val) 1 d1)) ∧
    (go = false → runsTo (.dmaHeadWrite r ch v) s d1)) ∧
  (∀ (ok : Bool) (s : State),
    (dmaOn s.toDev = false → runsTo (.dmaBeat ok) s s.toDev) ∧
    (dmaOn s.toDev = true →
      let d1 := forEach (List.range 16) (fun ch x => forEach (List.range 8) (fun _ y => dmaFetch ch y) (dmaActivate ch x)) s.toDev
      (dmaPick d1 = none → runsTo (.dmaBeat ok) s d1) ∧
      (∀ ch i ws, dmaPick d1 = some ch → dmaFront d1 ch = some (i, ws) → runsTo (.dmaBeat ok) s (dmaBeatOf ch ok ws
        { d1 with ctl := { d1.ctl with served := cput (fun _ => 0) d1.ctl.served (fld d1 (CTL_DMA_CFG_prio ch)) ((ch + 1) % 16) } })))) ∧
  (∀ (d : Dev) (ch : Nat), dmaPick d = some ch → dmaReady d ch = true ∧
    ∀ k, k < 16 → dmaReady d k = true → fld d (CTL_DMA_CFG_prio k) ≤ fld d (CTL_DMA_CFG_prio ch)) ∧
  (∀ (ch : Fin 16) (s : State), dmaOn s.toDev = true → dmaState s.toDev ch.val = 1 →
    (∀ x c, dmaFront s.toDev ch.val = some x → (dch s.toDev ch.val).bad = some c →
      runsTo (.descriptorRetire ch) s (dmaGoOn ch.val (dmaRetire ch.val 3 c s.toDev))) ∧
    (∀ i ws, dmaFront s.toDev ch.val = some (i, ws) → (dch s.toDev ch.val).bad = none → (dch s.toDev ch.val).done = descLen ws →
      runsTo (.descriptorRetire ch) s (dmaGoOn ch.val (dmaRetire ch.val 0 0 s.toDev))) ∧
    (∀ i ws, dmaFront s.toDev ch.val = some (i, ws) → (dch s.toDev ch.val).bad = none → (dch s.toDev ch.val).done ≠ descLen ws →
      runsTo (.descriptorRetire ch) s s.toDev) ∧
    (dmaFront s.toDev ch.val = none → runsTo (.descriptorRetire ch) s s.toDev) ∧
    (∀ (c : Fin 16) (side : Bool) (va : Nat), 1 ≤ c.val → c.val ≤ 10 →
      runsTo (.dmaPark ch c side va) s (dmaParkOp ch.val c.val side (memBoth s.toDev ch.val) va s.toDev))) ∧
  (∀ (ch : Fin 16) (c : Fin 16) (side : Bool) (va : Nat) (s : State), dmaState s.toDev ch.val ≠ 1 →
    runsTo (.dmaPark ch c side va) s s.toDev ∧ runsTo (.descriptorRetire ch) s s.toDev) ∧
  (∀ (r : Req) (ch : Fin 16) (s : State), granted s.toDev r (CTL_DMA_CMD ch.val) = true →
    let ok := setF CTL_RESULT_cause 0 s.toDev
    let no := setF CTL_RESULT_cause 3 s.toDev
    (((dmaState s.toDev ch.val = 3 ∧ bitAt (rd s.toDev (CTL_DMA_RES ch.val 0)) 21 = true) ∨ dmaState s.toDev ch.val = 2) →
      runsTo (.dmaResume r ch) s (setF (CTL_DMA_STATE_state ch.val) 1 ok)) ∧
    ((dmaState s.toDev ch.val < 2 ∨ (dmaState s.toDev ch.val = 3 ∧ bitAt (rd s.toDev (CTL_DMA_RES ch.val 0)) 21 = false)) →
      runsTo (.dmaResume r ch) s no) ∧
    (dmaState s.toDev ch.val = 1 → runsTo (.dmaPause r ch) s (setF (CTL_DMA_STATE_state ch.val) 2 ok)) ∧
    (dmaState s.toDev ch.val ≠ 1 → runsTo (.dmaPause r ch) s no) ∧
    (dmaState s.toDev ch.val = 3 → runsTo (.dmaSkip r ch) s (dmaGoOn ch.val (dmaRetire ch.val 2 0 ok))) ∧
    (dmaState s.toDev ch.val ≠ 3 → runsTo (.dmaSkip r ch) s no) ∧
    (dmaState s.toDev ch.val ≠ 0 → runsTo (.dmaAbort r ch) s
      (setF (CTL_DMA_STATE_state ch.val) 0 (forEach (dch s.toDev ch.val).fetched (fun _ x => dmaRetire ch.val 1 0 x) ok))) ∧
    (dmaState s.toDev ch.val = 0 → runsTo (.dmaAbort r ch) s no))

/-- A raise from a source of its own block makes its event pending and offers it to the recorder; a code of another block,
or 0x000 of its block, changes nothing. While delivery runs, the ready source with the lowest ID of a target is
delivered; with no ready source, delivery held, or unit 0x3D out, nothing changes. A write of EVQ_TGT_RD within the
unread range moves the index with cause 0, else only the cause 0x01 changes. A read of REC0 latches the other three
words for the requester and answers the first. A timer whose time has come ends and notifies the target of a non-empty
ring; before that nothing changes. A retarget of a source not in use gets cause 0x02, code 7 for an active source
cause 0x03, else sets the target. EVQ_SRC_TGT does so for each of its eight sources that exists. A core unavailable
for the retarget time is re-routed once, with 0x1402. EVQ_HOLD.hold takes bit 0. The word found bad is marked bad, and
bad parity of a record is counted once, with 0x1403 and a corrected fault. -/
def Obligations.EventQueueCommandsComplete : Prop :=
  (∀ (src : BitVec 12) (code : BitVec 16) (param : Word) (s : State), s.pwr.powered = true → sourceExists src.toNat = true →
    (code.toNat / 1024 = src.toNat / 128 → code.toNat % 1024 ≠ 0 → runsTo (.eventRaise src code param) s
      (note (evRec code.toNat param.toNat (Config.freeNat s.ctr) (Config.freeNat (s.ctr + 1)) (now16 s.toDev))
        { setPending src.toNat code.toNat param.toNat s.toDev with ctr := s.ctr + 2 })) ∧
    ((code.toNat / 1024 ≠ src.toNat / 128 ∨ code.toNat % 1024 = 0) → runsTo (.eventRaise src code param) s s.toDev)) ∧
  (∀ (t : Fin 7) (s : State), s.pwr.powered = true →
    (deliveryOn s.toDev = false → runsTo (.recordDelivery t) s s.toDev) ∧
    (deliveryOn s.toDev = true →
      ((∀ e ∈ s.evq.pend, srcReady s.toDev e.src = true → routeOf s.toDev e.src ≠ t.val) → runsTo (.recordDelivery t) s s.toDev) ∧
      (∀ l e l', s.evq.pend = l ++ e :: l' → srcReady s.toDev e.src = true → routeOf s.toDev e.src = t.val →
        (∀ x ∈ l, srcReady s.toDev x.src = true → routeOf s.toDev x.src ≠ t.val) → runsTo (.recordDelivery t) s (deliver t.val e s.toDev))) ∧
    (domOn s.toDev .ctl = true → (∃ x ∈ s.evq.timers, x.1 = t.val ∧ x.2 ≤ now16 s.toDev) →
      let d1 := { s.toDev with evq := { s.evq with timers := s.evq.timers.filter (fun x => x.1 != t.val) } }
      (unread s.toDev t.val = 0 → runsTo (.moderationExpiry t) s d1) ∧
      (unread s.toDev t.val ≠ 0 → runsTo (.moderationExpiry t) s (notifyTarget t.val d1))) ∧
    ((∀ x ∈ s.evq.timers, x.1 = t.val → now16 s.toDev < x.2) → runsTo (.moderationExpiry t) s s.toDev) ∧
    (∀ pos : Fin 1024, domOn s.toDev .ctl = true →
      let d1 := { s.toDev with badWords := if ringBad s.toDev t.val pos.val then s.badWords else s.badWords ++ [ringAddr t.val pos.val / 4] }
      ((t.val, pos.val) ∈ s.evq.failed → runsTo (.evqRecordParity t pos) s d1) ∧
      ((t.val, pos.val) ∉ s.evq.failed → runsTo (.evqRecordParity t pos) s
        (reportUnit 0x3D 0x01 .corrected 0x1403 t.val (raise 0x1403 t.val (satAdd (EVQ_TGT_STATUS_parity t.val) 1
          { d1 with evq := { d1.evq with failed := d1.evq.failed ++ [(t.val, pos.val)] } }))))) ∧
    (∀ c : Fin 4, domOn s.toDev .ctl = true →
      (coreUnavailable s.toDev c.val = true → bitsOf (rd s.toDev EVQ_STATUS) (15 + c.val) 1 = 0 →
        runsTo (.retargetTimeout c) s (raise 0x1402 c.val (setF ⟨EVQ_STATUS, 15 + c.val, 1⟩ 1 s.toDev))) ∧
      ((coreUnavailable s.toDev c.val = false ∨ bitsOf (rd s.toDev EVQ_STATUS) (15 + c.val) 1 = 1) → runsTo (.retargetTimeout c) s s.toDev))) ∧
  (∀ (r : Req) (t : Fin 7) (v : Word) (s : State), granted s.toDev r (EVQ_TGT_RD t.val) = true →
    let gap := (v.toNat % 2048 + 2048 - fld s.toDev (EVQ_TGT_RD_index t.val)) % 2048
    (gap ≤ unread s.toDev t.val → runsTo (.evqTgtRdWrite r t v) s (setF EVQ_RESULT_cause 0 (moveRead t.val (v.toNat % 2048) s.toDev))) ∧
    (unread s.toDev t.val < gap → runsTo (.evqTgtRdWrite r t v) s (setF EVQ_RESULT_cause 1 s.toDev))) ∧
  (∀ (r : Req) (t : Fin 7) (s : State), readable s.toDev r (EVQ_TGT_REC t.val 0) = true →
    let pos := fld s.toDev (EVQ_TGT_REC_SEL_index t.val)
    let ws := ringRead s.toDev t.val pos
    let latches := fun (d : Dev) => { setLatch (EVQ_TGT_REC t.val 3) r (ws.getD 3 0) (setLatch (EVQ_TGT_REC t.val 2) r (ws.getD 2 0)
      (setLatch (EVQ_TGT_REC t.val 1) r (ws.getD 1 0) d)) with resp := [ws.getD 0 0] }
    (ringBad s.toDev t.val pos = false → runsTo (.evqRecordRead r t) s (latches s.toDev)) ∧
    (ringBad s.toDev t.val pos = true → runsTo (.evqRecordRead r t) s (latches (ringParity t.val pos s.toDev)))) ∧
  (∀ (r : Req) (v : Word) (s : State), granted s.toDev r EVQ_RETARGET = true →
    let src := bitsOf v 0 12
    let t := bitsOf v 12 3
    let d1 := setF EVQ_RESULT_cause 0 s.toDev
    (sourceExists src = false → runsTo (.evqRetargetWrite r v) s (setF EVQ_RESULT_cause 2 s.toDev)) ∧
    (sourceExists src = true → t = 7 → srcActive s.toDev src = true → runsTo (.evqRetargetWrite r v) s (setF EVQ_RESULT_cause 3 d1)) ∧
    (sourceExists src = true → (t ≠ 7 ∨ srcActive s.toDev src = false) →
      runsTo (.evqRetargetWrite r v) s (setF ⟨EVQ_SRC_TGT (src / 8), 4 * (src % 8), 3⟩ t d1))) ∧
  (∀ (r : Req) (v : Fin 512) (w : Word) (s : State), granted s.toDev r (EVQ_SRC_TGT v.val) = true →
    runsTo (.evqSrcTgtWrite r v w) s (forEach (List.range 8)
      (fun i x => doIf (sourceExists (8 * v.val + i)) (retarget (8 * v.val + i) (bitsOf w (4 * i) 3)) x) (setF EVQ_RESULT_cause 0 s.toDev))) ∧
  (∀ (r : Req) (w : Word) (s : State), granted s.toDev r EVQ_HOLD = true →
    runsTo (.evqHoldWrite r w) s (setF EVQ_HOLD_hold (bitsOf w 0 1) s.toDev))

/-- A report of a unit whose domain is on is taken by the collector; one whose domain is off changes nothing. A rail fault
of a unit not yet polled is recorded as contained with cause 0xFE, counted in rail, and raises 0x1002; the unit is
polled from then on. A poll of a polled unit finds nothing, takes a report, or fences the unit that gives no answer. A
handling in phase 1 of a unit with a test goes to phase 2 and stops the work of the unit. A test that ends gives the
engines of its unit their credits; with a pass it records the handling with its class and frees the slot, or with the
upset limit passed raises 0x1006 and fails it; a fail fences the unit. A handling of an essential unit without a test
ends with outcome 0 after 1 µs. A fatal decision with no handling open drops the claim, writes its records into the
recorder SRAM, counts it and enters Boot with cause 3; with PD_CTL off these commands change nothing. -/
def Obligations.FaultHandlingCommandsComplete : Prop :=
  (∀ (p : FltReport) (s : State), s.pwr.powered = true →
    (unitAlive s.toDev p.unit.val = true → domOn s.toDev .ctl = true →
      runsTo (.unitReport p) s (collect p false false false none s.toDev)) ∧
    (unitAlive s.toDev p.unit.val = false → runsTo (.unitReport p) s s.toDev)) ∧
  (∀ (p : FltReport) (d : Dev), (funit d p.unit.val).state = 0 → slotOf d p.unit.val false = none → p.cls ≠ .fatal → ∀ n, freeSlot d = some n →
    (collect p false false false none d).flt.slots = d.flt.slots ++ [{
      idx := n, unit := p.unit.val, cls := p.cls, cause := p.cause.toNat, ev := p.ev.toNat, evParam := p.evParam.toNat, inj := false
      stFail := false, merges := 0, lastMerged := 0, polled := false, phase := 1, t0 := near d, seen := none }]) ∧
  (∀ (u : Fin 64) (high : Bool) (s : State), s.pwr.powered = true → domOn s.toDev .ctl = true →
    let d1 := modUnit u.val (fun x => { x with stuck := some high, polled := true }) s.toDev
    (unitAlive s.toDev u.val = true → (funit s.toDev u.val).polled = false → runsTo (.railFaultDetect u high) s
      (raise 0x1002 u.val (recordHandling (bareSlot u.val 0xFE .contained false d1) 2 0 false (fltCount 6 (latchCause u.val 0xFE false d1))))) ∧
    ((unitAlive s.toDev u.val = false ∨ (funit s.toDev u.val).polled = true) → runsTo (.railFaultDetect u high) s s.toDev) ∧
    ((funit s.toDev u.val).polled = true → runsTo (.unitPoll u .quiet) s s.toDev ∧
      runsTo (.unitPoll u .noAnswer) s (fenceOut u.val 0xFE s.toDev) ∧
      ∀ p, runsTo (.unitPoll u (.found p)) s (collect { p with unit := u } false false true none s.toDev)) ∧
    (∀ o, (funit s.toDev u.val).polled = false → runsTo (.unitPoll u o) s s.toDev)) ∧
  (∀ (i : Fin 8) (x : FSlot) (s : State), s.pwr.powered = true → domOn s.toDev .ctl = true → handlingAt s.toDev i.val = some x →
    (x.phase = 1 → unitNoTest x.unit = false →
      let d1 := putSlot { x with phase := 2 } s.toDev
      (unitFenced d1 x.unit = false → runsTo (.selftestStart i) s (testStarts x.unit d1)) ∧
      (unitFenced d1 x.unit = true → runsTo (.selftestStart i) s d1)) ∧
    ((x.phase ≠ 1 ∨ unitNoTest x.unit = true) → runsTo (.selftestStart i) s s.toDev) ∧
    (∀ o, x.phase ≠ 2 → runsTo (.selftestComplete i o) s s.toDev) ∧
    (x.phase = 2 → x.inj = false → x.stFail = false →
      let d0 := forEach (unitEngines x.unit) engineFree s.toDev
      let d1 := countUpset x.unit d0
      (upsetLimit d1 x.unit = false → runsTo (.selftestComplete i (.ran true)) s
        (testEnds x.unit (closeSlot x (recordHandling x (clsNum x.cls) 1 false d1)))) ∧
      (upsetLimit d1 x.unit = true → runsTo (.selftestComplete i (.ran true)) s (raise 0x1006 x.unit (handlingFails x [] 1 d1))) ∧
      (unitEssential x.unit = false → runsTo (.selftestComplete i (.ran false)) s
        (closeSlot x (fenceOut x.unit x.cause (recordHandling x 2 2 (x.cls == .corrected) (fltCount 5 d0)))))) ∧
    (unitNoTest x.unit = true → us16 ≤ (near s.toDev + 2 ^ 64 - x.t0) % 2 ^ 64 → x.inj = false → x.stFail = false →
      runsTo (.handlingNoTestExpiry i) s (closeSlot x (recordHandling x (clsNum x.cls) 0 false s.toDev))) ∧
    ((unitNoTest x.unit = false ∨ (near s.toDev + 2 ^ 64 - x.t0) % 2 ^ 64 < us16) → runsTo (.handlingNoTestExpiry i) s s.toDev)) ∧
  (∀ (u : Fin 64) (cause : Byte) (s : State),
    (domOn s.toDev .ctl = false → ∀ b, runsTo (.fatalDecision u cause b) s s.toDev) ∧
    (domOn s.toDev .ctl = true → s.flt.fatal = [] → s.flt.slots = [] →
      let x : FFatal := { unit := u.val, cause := cause.toNat, ev := 0, evParam := 0, inj := false, collector := false, seen := none }
      runsTo (.fatalDecision u cause false) s
        (enterBoot 3 (lifeAdd 14 1 (forgetSlots (drainRecorder (fatalRecord x (dropClaim (decideWith x s.toDev))))))))) 

/-- readmit takes a Fenced or partly fenced unit to Testing, else the cause is 1; a TB channel is put under the test of
the timebase. A passed test makes the unit Normal with 0x1004, a failed one leaves it Fenced; a unit not in test is
left alone. A read of FLT_LATCH answers the latched cause and, for full rights, clears it. A full-rights read of
FLT_RAIL ends the polling of the idle units of its word. go is refused with cause 4 while an injection runs, 5 for a
pair not accepted in a unit, 3 for a fatal class or an essential unit outside the window; else the injection starts
with 0x1007, and ends at once where its count is 0. stop ends it. Each report of a running injection is due its gap
after the one before; it is taken as injected and the last one ends it. -/
def Obligations.FaultServiceCommandsComplete : Prop :=
  (∀ (r : Req) (u : Fin 64) (s : State), granted s.toDev r FLT_CMD = true →
    let x := funit s.toDev u.val
    let d1 := modUnit u.val (fun y => { y with state := 3, byBlock := false }) s.toDev
    ((x.state = 3 ∨ (x.state ≠ 2 ∧ x.part = false)) → runsTo (.fltReadmit r u) s (setF FLT_RESULT_cause 1 s.toDev)) ∧
    (x.state = 2 → 3 ≤ u.val → runsTo (.fltReadmit r u) s d1) ∧
    (x.state = 2 → u.val < 3 → runsTo (.fltReadmit r u) s { d1 with tb := { d1.tb with readmit := some u.val } })) ∧
  (∀ (u : Fin 64) (pass : Bool) (s : State), domOn s.toDev .ctl = true →
    ((funit s.toDev u.val).state ≠ 3 → runsTo (.readmitTestComplete u pass) s s.toDev) ∧
    ((funit s.toDev u.val).state = 3 → u.val < 3 → runsTo (.readmitTestComplete u pass) s (tbReadmitDoneF pass s.toDev)) ∧
    ((funit s.toDev u.val).state = 3 → 3 ≤ u.val → (funit s.toDev u.val).byBlock = false →
      runsTo (.readmitTestComplete u true) s (admitUnit u.val (putBack u.val (modUnit u.val (fun y => { y with state := 0 })
        (setF FLT_RESULT_cause 0 s.toDev)))) ∧
      runsTo (.readmitTestComplete u false) s (modUnit u.val (fun y => { y with state := if y.part = true then 0 else 2, byBlock := false })
        (setF FLT_RESULT_cause 2 s.toDev)))) ∧
  (∀ (r : Req) (u : Fin 64) (s : State), readable s.toDev r (FLT_LATCH u.val) = true →
    let x := funit s.toDev u.val
    let w := BitVec.ofNat 32 (x.cause % 256 + b2n x.valid * 256 + b2n x.cbr * 512 + b2n x.inj * 1024 + x.merges % 65536 * 65536)
    (fullRights s.toDev r = true → runsTo (.fltLatchRead r u) s
      (modUnit u.val (fun y => { y with cause := 0, valid := false, cbr := false, inj := false, merges := 0 }) { s.toDev with resp := [w] })) ∧
    (fullRights s.toDev r = false → runsTo (.fltLatchRead r u) s { s.toDev with resp := [w] })) ∧
  (∀ (r : Req) (idle : List (Fin 64)) (s : State), readable s.toDev r FLT_RAIL_LO = true → readable s.toDev r FLT_RAIL_HI = true →
    let dlo := { latchHigh r FLT_RAIL_HI (unitBits s.toDev true FUnit.polled) s.toDev with resp := [unitBits s.toDev false FUnit.polled] }
    let hi := highRead r FLT_RAIL_HI (unitBits s.toDev true FUnit.polled) s.toDev
    let clear := fun (b : Bool) (d : Dev) => forEach (idle.filter (fun u => decide (32 ≤ u.val) == b))
      (fun u => modUnit u.val (fun x => { x with polled := false, stuck := none })) d
    (fullRights s.toDev r = true → runsTo (.fltRailRead r false idle) s (clear false dlo) ∧
      runsTo (.fltRailRead r true idle) s (clear true { hi.2 with resp := [hi.1] })) ∧
    (fullRights s.toDev r = false → runsTo (.fltRailRead r false idle) s dlo ∧ runsTo (.fltRailRead r true idle) s { hi.2 with resp := [hi.1] })) ∧
  (∀ (r : Req) (s : State), granted s.toDev r FLT_INJ_CMD = true →
    let u := fld s.toDev FLT_INJ_CFG_unit
    let cause := fld s.toDev FLT_INJ_CFG_cause
    let cls := injClass (fld s.toDev FLT_INJ_CFG_class)
    let inUnit := flag s.toDev FLT_INJ_CFG_in_unit
    let x : FInj := { unit := u, cause := cause, cls := cls, stFail := flag s.toDev FLT_INJ_CFG_st_fail, inUnit := inUnit
                      left := fld s.toDev FLT_INJ_REP_count, lastAt := none }
    let started := raise 0x1007 (u + 256) (setF FLT_RESULT_cause 0 { s.toDev with flt := { s.flt with injn := some x } })
    (s.flt.injn.isSome = true → runsTo (.fltInjectGo r) s (setF FLT_RESULT_cause 4 s.toDev)) ∧
    (s.flt.injn = none → inUnit = true → injInUnit u cause = false → runsTo (.fltInjectGo r) s (setF FLT_RESULT_cause 5 s.toDev)) ∧
    (s.flt.injn = none → (inUnit && !(injInUnit u cause)) = false → (cls = .fatal ∨ unitEssential u = true) → windowOpen s.toDev = false →
      runsTo (.fltInjectGo r) s (setF FLT_RESULT_cause 3 (rwpRefuse r FLT_INJ_CMD s.toDev))) ∧
    (s.flt.injn = none → (inUnit && !(injInUnit u cause)) = false → ((cls ≠ .fatal ∧ unitEssential u = false) ∨ windowOpen s.toDev = true) →
      (x.left ≠ 0 → runsTo (.fltInjectGo r) s started) ∧ (x.left = 0 → runsTo (.fltInjectGo r) s (injEnd started))) ∧
    (s.flt.injn = none → runsTo (.fltInjectStop r) s s.toDev) ∧
    (∀ y, s.flt.injn = some y → runsTo (.fltInjectStop r) s (raise 0x1007 y.unit { s.toDev with flt := { s.flt with injn := none } }))) ∧
  (∀ s : State, s.pwr.powered = true →
    (s.flt.injn = none → runsTo .injectedReport s s.toDev) ∧
    (∀ y, s.flt.injn = some y → injDue y s.toDev = false → runsTo .injectedReport s s.toDev) ∧
    (∀ y, s.flt.injn = some y → domOn s.toDev .ctl = true → injDue y s.toDev = true → y.inUnit = false →
      let p : FltReport := { unit := Fin.ofNat 64 y.unit, cause := BitVec.ofNat 8 y.cause, cls := y.cls, ev := 0, evParam := 0 }
      let d1 := collect p true y.stFail false none s.toDev
      let d2 := { d1 with flt := { d1.flt with injn := some { y with left := y.left - 1, lastAt := some (now16 s.toDev) } } }
      (1 < y.left → runsTo .injectedReport s d2) ∧ (y.left ≤ 1 → runsTo .injectedReport s (injEnd d2))))

/-- A recorder write takes the oldest record of the input queue, stores its eight words in slot LOG_WR_SEQ mod 8192 and
moves LOG_WR_SEQ on; with nothing waiting nothing changes. Once in a second of CK_32K, the weir sweep brings every
recorder weir up to now. A read of LOG_REC0 first moves a cursor that lies before LOG_OLDEST up to it; then it latches
all eight words of the record at the cursor, or zeros with empty set when the cursor is at LOG_WR_SEQ. A read of
LOG_REC7 answers the latched word, and with auto_inc advances the cursor unless the latching read was empty. A write
of LOG_CUR is clamped to LOG_WR_SEQ. Once in a second of CK_32K, a thermal sample reports the records dropped in the
second, counts one powered second, one in Serve or in Low water, the oscillator inputs seen, the lanes powered, and
the seconds at 95 degrees or more and over 105; it refills the page budget up to one hour of it and feeds the cycle
detector. -/
def Obligations.RecorderCommandsComplete : Prop :=
  (∀ s : State, s.pwr.powered = true →
    (s.log.inq = [] → runsTo .recorderWrite s s.toDev) ∧
    (∀ x xs, s.log.inq = x :: xs → runsTo .recorderWrite s (pmcSup (pmcAdd 0x0601 1 (wrN LOG_WR_SEQ (rdN s.toDev LOG_WR_SEQ + 1)
      (setRamWords (recBase + 32 * (rdN s.toDev LOG_WR_SEQ % 8192)) (recWords x) { s.toDev with log := { s.log with inq := xs } }))))) ∧
    (aonSecond (s.log.sweeps + 1) s.toDev = true → runsTo .recorderWeirSweep s (pmcSup (forEach (List.range 1024) weirSync
      { s.toDev with log := { s.log with sweeps := max (s.log.sweeps + 1) (s.lpc.ck / 32768) } }))) ∧
    (aonSecond (s.log.sweeps + 1) s.toDev = false → runsTo .recorderWeirSweep s s.toDev) ∧
    (∀ (t : Int) (osc : Fin 16), aonSecond (s.log.samples + 1) s.toDev = false → runsTo (.thermalSample t osc) s s.toDev) ∧
    (∀ (t : Int) (osc : Fin 16), aonSecond (s.log.samples + 1) s.toDev = true →
      let d := dropEvent { s.toDev with log := { s.log with samples := s.log.samples + 1 } }
      let d1 := lifeAdd 0 1 d
      let d2 := doIf (devState d == stServe) (lifeAdd 1 1) d1
      let d3 := doIf (devState d == stLow) (lifeAdd 2 1) d2
      let d4 := forEach (List.range 4) (fun n x => doIf (osc.val / 2 ^ n % 2 == 1) (lifeAdd (3 + n) 1) x) d3
      let d5 := lifeAdd 7 (lanesPowered d) d4
      let d6 := doIf (decide (95 ≤ t)) (lifeAdd 9 1) d5
      let d7 := doIf (decide (105 < t)) (lifeAdd 10 1) d6
      let pages := fld d LOG_ARCH_BUDGET_pages
      runsTo (.thermalSample t osc) s (thermalCycle t { d7 with log := { d7.log with dieTemp := t, budget := min (pages * 3600) (d7.log.budget + pages) } }))) ∧
  (∀ (r : Req) (s : State), readable s.toDev r (LOG_REC 0) = true → readable s.toDev r (LOG_REC 7) = true →
    let c := reqCode r
    let d1 := cursorFloor r s.toDev
    let cur := logCur d1 r
    (seqDiff (logOldest s.toDev) (logCur s.toDev r) ≤ 0 → d1 = s.toDev) ∧
    (cur ≠ rdN d1 LOG_WR_SEQ →
      let d3 := setF ⟨own LOG_RD_STATUS c, 0, 1⟩ 0
        (forEach (List.range 8) (fun w x => setLatch (LOG_REC w) r (ramWord d1 (recBase + 32 * (cur % 8192) + 4 * w)) x) d1)
      runsTo (.logRec0Read r) s { d3 with resp := [ramWord d1 (recBase + 32 * (cur % 8192) + 4 * 0)]
                                          log := { d3.log with emptyRd := d3.log.emptyRd.filter (fun x => x != c) } }) ∧
    (cur = rdN d1 LOG_WR_SEQ →
      let d3 := setF ⟨own LOG_RD_STATUS c, 0, 1⟩ 1 (forEach (List.range 8) (fun w x => setLatch (LOG_REC w) r 0#32 x) d1)
      runsTo (.logRec0Read r) s { d3 with resp := [0#32], log := { d3.log with emptyRd := c :: d3.log.emptyRd.filter (fun x => x != c) } }) ∧
    (bitsOf (rd s.toDev (own LOG_RD_CTL c)) 0 1 = 1 → c ∉ s.log.emptyRd → runsTo (.logRec7Read r) s
      { wrN (own LOG_CUR c) (logCur s.toDev r + 1) s.toDev with resp := [latched s.toDev (LOG_REC 7) r] }) ∧
    ((bitsOf (rd s.toDev (own LOG_RD_CTL c)) 0 1 = 0 ∨ c ∈ s.log.emptyRd) → runsTo (.logRec7Read r) s
      { s.toDev with resp := [latched s.toDev (LOG_REC 7) r] })) ∧
  (∀ (r : Req) (v : Word) (s : State), granted s.toDev r LOG_CUR = true →
    (seqDiff v.toNat (rdN s.toDev LOG_WR_SEQ) ≤ 0 → runsTo (.logCurWrite r v) s (wrN (own LOG_CUR (reqCode r)) v.toNat s.toDev)) ∧
    (0 < seqDiff v.toNat (rdN s.toDev LOG_WR_SEQ) →
      runsTo (.logCurWrite r v) s (wrN (own LOG_CUR (reqCode r)) (rdN s.toDev LOG_WR_SEQ) s.toDev)))

/-- With PD_CTL off, no archive command changes anything. With it on, STATE_NOW, and the state block period once
LOG_ARCH_PERIOD is over, write a state block at the head, after the leap pages that wait and the entry of the head
into its sector; a forced block is written only where one waits and none was forced in the last second. A flush
programs the page in progress; the page program does so once eight records wait or the oldest is LOG_ARCH_FLUSH
seconds old. The erase enters the sector where the head stands before it, else changes nothing; three erases without a
header skip the sector with 0x1803. -/
def Obligations.ArchiveCommandsComplete : Prop :=
  (∀ (ok : Bool) (s : State),
    let wait := s.log.periodAt + atLeast1 (rdN s.toDev LOG_ARCH_PERIOD) * 32768
    let soon := s.log.forcedAt.elim 0 (fun t => t + 32768)
    (domOn s.toDev .ctl = false → ∀ c ∈ [Instr.stateBlockPeriod ok, .forcedStateBlock ok, .archiveSectorErase ok, .recorderPageProgram ok],
      runsTo c s s.toDev) ∧
    (domOn s.toDev .ctl = true →
      (wait ≤ s.lpc.ck → runsTo (.stateBlockPeriod ok) s
        (putState (archTry ok (leapWrite { s.toDev with log := { s.log with periodAt := s.lpc.ck } })))) ∧
      (s.log.forced = true → soon ≤ s.lpc.ck → runsTo (.forcedStateBlock ok) s
        (putState (archTry ok (leapWrite { s.toDev with log := { s.log with forcedAt := some s.lpc.ck } })))) ∧
      (archPage s.toDev = 0 → runsTo (.archiveSectorErase ok) s (enterSector ok s.toDev)) ∧
      (archPage s.toDev ≠ 0 → runsTo (.archiveSectorErase ok) s s.toDev) ∧
      (pageDue s.toDev = true → runsTo (.recorderPageProgram ok) s (recordPage ok (leapWrite s.toDev))) ∧
      (pageDue s.toDev = false → runsTo (.recorderPageProgram ok) s s.toDev)) ∧
    (s.lpc.ck < wait → runsTo (.stateBlockPeriod ok) s s.toDev) ∧
    ((s.log.forced = false ∨ s.lpc.ck < soon) → runsTo (.forcedStateBlock ok) s s.toDev)) ∧
  (∀ (r : Req) (ok : Bool) (s : State), granted s.toDev r LOG_ARCH_CMD = true →
    (domOn s.toDev .ctl = true → runsTo (.stateNow r ok) s (putState (archTry ok (leapWrite s.toDev))) ∧
      runsTo (.archiveFlush r ok) s (recordPage ok (leapWrite s.toDev))) ∧
    (domOn s.toDev .ctl = false → runsTo (.stateNow r ok) s s.toDev ∧ runsTo (.archiveFlush r ok) s s.toDev)) ∧
  (∀ d : Dev, pageSeqs d = [] → ∀ ok, recordPage ok d = d) ∧
  (∀ d : Dev, enterSector false d = lifeAdd 11 3 (setF LOG_ARCH_HEAD_sector
      (nextSector (d.log.badSect ++ [archSector d]) 64 (archSector d + 1))
      (raise 0x1803 (archSector d) (setF LOG_STATUS_flash_err 1 { d with log := { d.log with badSect := d.log.badSect ++ [archSector d] } }))))

/-- A write of PMC_GEN_CFG with an unknown selector gets cause 1, else the register takes the value with cause 0. A
privileged register takes a write only of firmware at supervisor level, else cause 2, and a configuration only with a
known selector, else cause 1. Counts of a signal that a clock drives reach an enabled counter with its selector that
is not the upper half of a chain, and none while frozen. A snapshot while one runs gets cause 3; else it sets busy,
counts PMC_SNAP_SEQ on, notes the time, forgets the ledgers seen and copies every general and privileged counter, and
the counters of the ports that are on, of the drive segment and, with PD_PKT on, of the time service into their
snapshot registers. A ledger of the running snapshot that has not been seen is copied once, or marked off where its
domain is off; the last of the six ends the snapshot with 0x1C03 and the sequence number; a ledger seen before, or
with no snapshot running, changes nothing. -/
def Obligations.PerformanceCounterCommandsComplete : Prop :=
  (∀ (r : Req) (n : Fin 64) (v : Word) (s : State), granted s.toDev r (PMC_GEN_CFG n.val) = true →
    (knownSel (bitsOf v 0 16) = false → runsTo (.pmcGenCfgWrite r n v) s (setF PMC_RESULT_cause 1 s.toDev)) ∧
    (knownSel (bitsOf v 0 16) = true →
      runsTo (.pmcGenCfgWrite r n v) s (setF PMC_RESULT_cause 0 (fieldWrite r (PMC_GEN_CFG n.val) v s.toDev)))) ∧
  (∀ (r : Req) (user : Bool) (a : BarAddr) (v : Word) (s : State), granted s.toDev r a.toNat = true → privReg a.toNat = true →
    ((r ≠ .fw ∨ user = true) → runsTo (.pmcPrivWrite r user a v) s (setF PMC_RESULT_cause 2 s.toDev)) ∧
    (r = .fw → user = false → privCfg a.toNat = true → knownSel (bitsOf v 0 16) = false →
      runsTo (.pmcPrivWrite r user a v) s (setF PMC_RESULT_cause 1 s.toDev)) ∧
    (r = .fw → user = false → (privCfg a.toNat = false ∨ knownSel (bitsOf v 0 16) = true) →
      runsTo (.pmcPrivWrite r user a v) s (setF PMC_RESULT_cause 0 (fieldWrite r a.toNat v s.toDev)))) ∧
  (∀ (n : Fin 72) (inc : Nat) (s : State),
    ((domOn s.toDev .ctl = false ∨ flag s.toDev PMC_FREEZE_freeze = true) → runsTo (.counterWrap n inc) s s.toDev) ∧
    (domOn s.toDev .ctl = true → flag s.toDev PMC_FREEZE_freeze = false →
      (n.val < 64 → flag s.toDev (PMC_GEN_CFG_en n.val) = true → (n.val % 2 = 0 ∨ flag s.toDev (PMC_GEN_CFG_chain n.val) = false) →
        clockSignal s.toDev (fld s.toDev (PMC_GEN_CFG_sel n.val)) = true →
        runsTo (.counterWrap n inc) s (pmcSup (genAdd n.val inc s.toDev))) ∧
      (n.val < 64 → (flag s.toDev (PMC_GEN_CFG_en n.val) = false ∨ (n.val % 2 = 1 ∧ flag s.toDev (PMC_GEN_CFG_chain n.val) = true) ∨
        clockSignal s.toDev (fld s.toDev (PMC_GEN_CFG_sel n.val)) = false) →
        runsTo (.counterWrap n inc) s s.toDev) ∧
      (64 ≤ n.val → flag s.toDev (PMC_PRIV_CFG_en (n.val - 64)) = true → clockSignal s.toDev (fld s.toDev (PMC_PRIV_CFG_sel (n.val - 64))) = true →
        runsTo (.counterWrap n inc) s (pmcSup (privAdd (n.val - 64) inc s.toDev))) ∧
      (64 ≤ n.val → (flag s.toDev (PMC_PRIV_CFG_en (n.val - 64)) = false ∨ clockSignal s.toDev (fld s.toDev (PMC_PRIV_CFG_sel (n.val - 64))) = false) → runsTo (.counterWrap n inc) s s.toDev))) ∧
  (∀ (r : Req) (s : State), granted s.toDev r PMC_SNAP = true →
    (flag s.toDev PMC_STATUS_busy = true → runsTo (.pmcSnap r) s (setF PMC_RESULT_cause 3 s.toDev)) ∧
    (flag s.toDev PMC_STATUS_busy = false →
      let d0 := setF PMC_STATUS_busy 1 (setF PMC_RESULT_cause 0 s.toDev)
      let d1 := wrN PMC_SNAP_DONE 0 (wr64 PMC_SNAP_TIME_LO (near s.toDev) (wrN PMC_SNAP_SEQ (rdN s.toDev PMC_SNAP_SEQ + 1) d0))
      let d2 := forEach (List.range 64) (fun n x => wr64 (PMC_GEN_SNAP_LO n) (rd64 x (PMC_GEN_LO n)) x) d1
      let d3 := forEach (List.range 8) (fun n x => wr64 (PMC_PRIV_SNAP_LO n) (rd64 x (PMC_PRIV_LO n)) x) d2
      let d4 := forEach (List.range 8) (fun b x => if regOn x (PORT_CNT b 0 0) = true then
        forEach [0, 1] (fun q y => forEach (List.range 32) (fun n z => wr (PORT_CNT_SNAP b q n) (rd z (PORT_CNT b q n)) z) y) x else x) d3
      let d5 := forEach (List.range 20) (fun n x => wr (DSG_CNT_SNAP n) (rd x (DSG_CNT n)) x) d4
      runsTo (.pmcSnap r) s (if domOn d5 .pkt = true then
        forEach (List.range 36) (fun n x => wr (SVC_CNT_SNAP n) (rd x (SVC_CNT n)) x) d5 else d5))) ∧
  (∀ (l : Fin 6) (s : State),
    let seen := (fld s.toDev PMC_SNAP_DONE_done / 2 ^ l.val % 2 = 1 ∨ fld s.toDev PMC_SNAP_DONE_off / 2 ^ l.val % 2 = 1)
    let d1 := if ledgerOn s.toDev l.val = true then setF ⟨PMC_SNAP_DONE, l.val, 1⟩ 1 (ledgerTerms l.val s.toDev)
      else setF ⟨PMC_SNAP_DONE, 8 + l.val, 1⟩ 1 s.toDev
    ((domOn s.toDev .ctl = false ∨ flag s.toDev PMC_STATUS_busy = false ∨ seen) → runsTo (.ledgerCopy l) s s.toDev) ∧
    (domOn s.toDev .ctl = true → flag s.toDev PMC_STATUS_busy = true → ¬ seen →
      (fld d1 PMC_SNAP_DONE_done + fld d1 PMC_SNAP_DONE_off ≠ 63 → runsTo (.ledgerCopy l) s d1) ∧
      (fld d1 PMC_SNAP_DONE_done + fld d1 PMC_SNAP_DONE_off = 63 →
        runsTo (.ledgerCopy l) s (raise 0x1C03 (rdN (setF PMC_STATUS_busy 0 d1) PMC_SNAP_SEQ) (setF PMC_STATUS_busy 0 d1)))))

/-- State.reset has no command waiting, power present, device state Boot, PD_AON the only domain on, SRAM, parity and
flash with nothing listed, and no event pending. The model chose where a run begins (log entry 33): VIN has risen and
RESET_N is high, and BOOT_SEQUENCE has not run. -/
def Obligations.ResetState : Prop :=
  State.reset.pending = [] ∧ State.reset.pwr.powered = true ∧ devState State.reset.toDev = stBoot ∧
  (∀ n : Fin 14, domOnN State.reset.toDev n.val = (n.val == 0)) ∧
  State.reset.ram = [] ∧ State.reset.badWords = [] ∧ State.reset.flash = [] ∧ State.reset.regs = [] ∧
  State.reset.evq.pend = [] ∧ State.reset.evq.pendAon = []

/-- The register file, the latched and held words, SRAM and flash of State.reset are lists with strictly rising keys and
no entry equal to what an unlisted key reads as. That is how the model holds memory, no rule of the spec. -/
def Obligations.ResetMemoriesCanonical : Prop :=
  Dev.canonical State.reset.toDev = true

/-- For every state whose register file, latched and held words, SRAM and flash are in canonical form (strictly rising
keys, no entry equal to what an unlisted key reads as), and every step that answers a next state, the stores of the
next state are in canonical form. It holds of every command of the table, of a step on an empty queue, and of every
register access a bus can make. -/
def Obligations.EveryStepKeepsCanonicalStores : Prop :=
  ∀ s t : State, Dev.canonical s.toDev = true → step s = .next t → Dev.canonical t.toDev = true

/-- For every command and every state, exec answers a next state whose queue is the queue it was given; no command ends in
a fault or a refusal. -/
def Obligations.EveryCommandAnswersNext : Prop :=
  ∀ (i : Instr) (s : State), ∃ d : Dev, runsTo i s d

/-- For every device and k < 32 with counters 2k and 2k + 1 below 2^48: with chain = 1 in the configuration of counter 2k
+ 1, no signal counts in it, and one count of counter 2k with counter 2k + 1 enabled adds 1 to the pair as a 96-bit
count modulo 2^96, with the ovf of 2k unchanged. A counter n that is odd and unchained, or even with an unchained
partner, goes from v to v + 1 below 2^48 − 1 with ovf as it was; at 2^48 − 1 it becomes 0, ovf is set, and event
0x1C01 of parameter n is pending when ovf_ev = 1 and PD_CTL is on; with ovf_ev = 0 no event is raised. The chain bit
of counter 2k itself is nowhere a hypothesis. -/
def Obligations.GeneralCountersWrapAndChain : Prop :=
  (∀ (k : Fin 32) (d : Dev), flag d (PMC_GEN_CFG_chain (2 * k.val + 1)) = true →
    rd64 d (PMC_GEN_LO (2 * k.val)) < 2 ^ 48 → rd64 d (PMC_GEN_LO (2 * k.val + 1)) < 2 ^ 48 →
    (∀ sig, genCounts d (2 * k.val + 1) sig = false) ∧
    (flag d (PMC_GEN_CFG_en (2 * k.val + 1)) = true →
      let e := genAdd (2 * k.val) 1 d
      rd64 e (PMC_GEN_LO (2 * k.val + 1)) * 2 ^ 48 + rd64 e (PMC_GEN_LO (2 * k.val)) =
        (rd64 d (PMC_GEN_LO (2 * k.val + 1)) * 2 ^ 48 + rd64 d (PMC_GEN_LO (2 * k.val)) + 1) % 2 ^ 96 ∧
      flag e (PMC_GEN_STATUS_ovf (2 * k.val)) = flag d (PMC_GEN_STATUS_ovf (2 * k.val)))) ∧
  (∀ (n : Fin 64) (d : Dev), (if n.val % 2 = 0 then flag d (PMC_GEN_CFG_chain (n.val + 1)) else flag d (PMC_GEN_CFG_chain n.val)) = false →
    let e := genAdd n.val 1 d
    (rd64 d (PMC_GEN_LO n.val) < 2 ^ 48 - 1 →
      rd64 e (PMC_GEN_LO n.val) = rd64 d (PMC_GEN_LO n.val) + 1 ∧
      flag e (PMC_GEN_STATUS_ovf n.val) = flag d (PMC_GEN_STATUS_ovf n.val) ∧ e.evq = d.evq ∧ e.log = d.log) ∧
    (rd64 d (PMC_GEN_LO n.val) = 2 ^ 48 - 1 →
      rd64 e (PMC_GEN_LO n.val) = 0 ∧ flag e (PMC_GEN_STATUS_ovf n.val) = true ∧
      (flag d (PMC_GEN_CFG_ovf_ev n.val) = false → e.evq = d.evq ∧ e.log = d.log) ∧
      (flag d (PMC_GEN_CFG_ovf_ev n.val) = true → domOn d .ctl = true →
        ∃ x ∈ e.evq.pend, x.src = evSrc 0x1C01 n.val ∧ x.code = 0x1C01 ∧ x.param = n.val)))

/-- In every powered state, PERST_N going low answers a next state with the device state, the timescale, the low-power
counter, fault handling and the blocks PWR, MEAS, REF, IMG, SYN, GNSS, DSG, the twin and the control complex as they
were. Where no bulk channel is held by PF0 or PF1, keys, time service, SRAM and flash stand too, and every register
outside HIF keeps its value, but for the performance counters, which count the event 0x0407 that the device may raise. -/
def Obligations.PerstKeepsStateTimescaleAndBlocks : Prop :=
  ∀ s : State, s.pwr.powered = true → answers .perstNAssert s (fun e =>
    devState e = devState s.toDev ∧ e.tb = s.tb ∧ e.lpc = s.lpc ∧ e.flt = s.flt ∧ e.pwr = s.pwr ∧ e.meas = s.meas ∧ e.ref = s.ref ∧
    e.img = s.img ∧ e.bnd = s.bnd ∧ e.syn = s.syn ∧ e.gn = s.gn ∧ e.dsg = s.dsg ∧ e.twn = s.twn ∧ e.ctl = s.ctl ∧
    ((∀ c : Fin 8, bulkOwner s.toDev c.val ≠ 1 ∧ bulkOwner s.toDev c.val ≠ 2) →
      e.key = s.key ∧ e.net = s.net ∧ sameMem s.toDev e ∧
      ∀ a, 0x008000 ≤ a → isPmc (a % bankSpan) = false → rd e a = rd s.toDev a))

/-- With PD_CTL on, EVENT_RAISE from an existing source other than the recorder source 0x301 and the counter overflow
source 0x381, with a code of the source block other than its code 0, leaves that source pending with the code, the
parameter and the near time of the raise, whatever was pending for it; every other source but those two (which the
record of the raise may raise) is pending as before, and every register but the performance counters, the mask bits
among them, keeps its value. The code range of a source is the model reading of log entry 6. -/
def Obligations.RaiseKeepsTheLatestOfItsSource : Prop :=
  ∀ (src : BitVec 12) (code : BitVec 16) (param : Word) (s : State), domOn s.toDev .ctl = true → s.pwr.powered = true →
    sourceExists src.toNat = true → code.toNat / 1024 = src.toNat / 128 → code.toNat % 1024 ≠ 0 → src.toNat ≠ 0x301 → src.toNat ≠ 0x381 →
    answers (.eventRaise src code param) s (fun e =>
      e.evq.pend.find? (fun x => x.src == src.toNat) =
        some { src := src.toNat, code := code.toNat, param := param.toNat, near := near s.toDev } ∧
      (∀ q, q ≠ src.toNat → q ≠ 0x301 → q ≠ 0x381 → e.evq.pend.find? (fun x => x.src == q) = s.evq.pend.find? (fun x => x.src == q)) ∧
      sameRegsBut [] s.toDev e ∧ sameMem s.toDev e)

/-- For every event code of 15 bits and every parameter, the source ID that the model gives the event (log entry 6) fits
12 bits, its bits [11:7] are the block number in bits [15:10] of the code, and its number within the block is not the
reserved 0. -/
def Obligations.EventSourceLiesInTheBlockOfItsCode : Prop :=
  ∀ code param : Nat, code < 2 ^ 15 → evSrc code param < 2 ^ 12 ∧ evSrc code param / 128 = code / 1024 ∧ evSrc code param % 128 ≠ 0
end

