-- ==== Sys2Proof/Laws/Cells.lean ====
section
/-! SUPPORT. The laws of sparse stores: a read after a write, and that every store operation keeps the canonical form. -/

namespace Sys2Proof.Laws

set_option Elab.async false

open Sys2Proof Sys2Proof.Machine

variable {α : Type}

theorem cget_cdel_same (dflt : Nat → α) (m : Cells α) (a : Nat) : cget dflt (cdel m a) a = dflt a := by
  induction m with
  | nil => rfl
  | cons p m ih =>
    by_cases h : p.1 = a
    · simp [cdel, h, ih]
    · simp [cdel, cget, h, ih]

theorem cget_cdel_other (dflt : Nat → α) (m : Cells α) {a b : Nat} (hab : b ≠ a) :
    cget dflt (cdel m a) b = cget dflt m b := by
  induction m with
  | nil => rfl
  | cons p m ih =>
    by_cases h : p.1 = a
    · have hb : ¬ p.1 = b := fun e => hab (e.symm.trans h)
      simp [cdel, cget, h, ih]
      intro e; exact absurd e.symm hab
    · simp [cdel, cget, h, ih]

theorem cget_cins_other (dflt : Nat → α) (m : Cells α) {a b : Nat} (v : α) (hab : b ≠ a) :
    cget dflt (cins m a v) b = cget dflt m b := by
  induction m with
  | nil => simp [cins, cget, Ne.symm hab]
  | cons p m ih =>
    by_cases h : a < p.1
    · simp [cins, h, cget, Ne.symm hab]
    · simp [cins, h, cget, ih]

theorem cget_cins_same (dflt : Nat → α) (m : Cells α) (a : Nat) (v : α) (hm : ∀ p ∈ m, p.1 ≠ a) :
    cget dflt (cins m a v) a = v := by
  induction m with
  | nil => simp [cins, cget]
  | cons p m ih =>
    have hp : p.1 ≠ a := hm p (by simp)
    by_cases h : a < p.1
    · simp [cins, h, cget]
    · simp only [cins, h, if_false, cget, hp]
      exact ih (fun q hq => hm q (by simp [hq]))

theorem mem_cdel {m : Cells α} {a : Nat} {p : Nat × α} (h : p ∈ cdel m a) : p ∈ m ∧ p.1 ≠ a := by
  induction m with
  | nil => simp [cdel] at h
  | cons q m ih =>
    by_cases hq : q.1 = a
    · simp only [cdel, hq, if_true] at h
      exact ⟨List.mem_cons_of_mem _ (ih h).1, (ih h).2⟩
    · simp only [cdel, hq, if_false, List.mem_cons] at h
      rcases h with h | h
      · subst h; exact ⟨List.mem_cons_self, hq⟩
      · exact ⟨List.mem_cons_of_mem _ (ih h).1, (ih h).2⟩

variable [DecidableEq α]

/-- A read after a write to the same key gives the value written. -/
theorem cget_cput_same (dflt : Nat → α) (m : Cells α) (a : Nat) (v : α) : cget dflt (cput dflt m a v) a = v := by
  by_cases h : v = dflt a
  · rw [cput, if_pos h, cget_cdel_same]; exact h.symm
  · rw [cput, if_neg h]; exact cget_cins_same dflt _ a v (fun p hp => (mem_cdel hp).2)

/-- A write leaves every other key alone. -/
theorem cget_cput_other (dflt : Nat → α) (m : Cells α) {a b : Nat} (v : α) (hab : b ≠ a) :
    cget dflt (cput dflt m a v) b = cget dflt m b := by
  by_cases h : v = dflt a
  · rw [cput, if_pos h, cget_cdel_other dflt m hab]
  · rw [cput, if_neg h, cget_cins_other dflt _ v hab, cget_cdel_other dflt m hab]

/-! ### The canonical form -/

theorem cwfFrom_mono (dflt : Nat → α) {lo : Option Nat} {l : Nat} {m : Cells α}
    (h : cwfFrom dflt (some l) m = true) (hl : ∀ k, lo = some k → k ≤ l) : cwfFrom dflt lo m = true := by
  cases m with
  | nil => simp [cwfFrom]
  | cons p m =>
    simp only [cwfFrom, Bool.and_eq_true, decide_eq_true_eq] at h ⊢
    refine ⟨⟨?_, h.1.2⟩, h.2⟩
    cases lo with
    | none => rfl
    | some k => exact decide_eq_true (lt_of_le_of_lt (hl k rfl) h.1.1)

theorem cwfFrom_cdel (dflt : Nat → α) (a : Nat) (m : Cells α) :
    ∀ lo, cwfFrom dflt lo m = true → cwfFrom dflt lo (cdel m a) = true := by
  induction m with
  | nil => intro lo h; exact h
  | cons p m ih =>
    intro lo h
    simp only [cwfFrom, Bool.and_eq_true, decide_eq_true_eq] at h
    by_cases hp : p.1 = a
    · simp only [cdel, hp, if_true]
      refine ih lo (cwfFrom_mono dflt h.2 ?_)
      intro k hk; subst hk
      exact le_of_lt (by simpa using h.1.1)
    · simp only [cdel, hp, if_false, cwfFrom, Bool.and_eq_true, decide_eq_true_eq]
      exact ⟨h.1, ih _ h.2⟩

theorem cwfFrom_cins (dflt : Nat → α) (a : Nat) (v : α) (hv : v ≠ dflt a) (m : Cells α) :
    ∀ lo, (∀ k, lo = some k → k < a) → (∀ p ∈ m, p.1 ≠ a) → cwfFrom dflt lo m = true →
      cwfFrom dflt lo (cins m a v) = true := by
  induction m with
  | nil =>
    intro lo hlo _ _
    cases lo with
    | none => simp [cins, cwfFrom, hv]
    | some k => simp [cins, cwfFrom, hv, hlo k rfl]
  | cons p m ih =>
    intro lo hlo hm h
    have hpa : p.1 ≠ a := hm p (by simp)
    simp only [cwfFrom, Bool.and_eq_true, decide_eq_true_eq] at h
    by_cases hlt : a < p.1
    · simp only [cins, hlt, if_true, cwfFrom, Bool.and_eq_true, decide_eq_true_eq]
      refine ⟨⟨?_, hv⟩, ⟨trivial, h.1.2⟩, h.2⟩
      cases lo with
      | none => rfl
      | some k => exact decide_eq_true (hlo k rfl)
    · simp only [cins, hlt, if_false, cwfFrom, Bool.and_eq_true, decide_eq_true_eq]
      refine ⟨h.1, ih (some p.1) ?_ (fun q hq => hm q (by simp [hq])) h.2⟩
      intro k hk
      cases hk
      omega

/-- A write keeps the canonical form. -/
theorem cwf_cput (dflt : Nat → α) {m : Cells α} (a : Nat) (v : α) (h : cwf dflt m = true) : cwf dflt (cput dflt m a v) = true := by
  by_cases hv : v = dflt a
  · rw [cput, if_pos hv]; exact cwfFrom_cdel dflt a m none h
  · rw [cput, if_neg hv]
    exact cwfFrom_cins dflt a v hv (cdel m a) none (by simp) (fun p hp => (mem_cdel hp).2) (cwfFrom_cdel dflt a m none h)

theorem cwfFrom_ckeep (dflt : Nat → α) (p : Nat → Bool) (m : Cells α) :
    ∀ lo, cwfFrom dflt lo m = true → cwfFrom dflt lo (ckeep p m) = true := by
  induction m with
  | nil => intro lo h; exact h
  | cons q m ih =>
    intro lo h
    simp only [cwfFrom, Bool.and_eq_true, decide_eq_true_eq] at h
    cases hq : p q.1 with
    | true =>
      have : ckeep p (q :: m) = q :: ckeep p m := by simp [ckeep, hq]
      rw [this]
      simp only [cwfFrom, Bool.and_eq_true, decide_eq_true_eq]
      exact ⟨h.1, ih _ h.2⟩
    | false =>
      have : ckeep p (q :: m) = ckeep p m := by simp [ckeep, hq]
      rw [this]
      refine ih lo (cwfFrom_mono dflt h.2 ?_)
      intro k hk; subst hk
      exact le_of_lt (by simpa using h.1.1)

/-- Dropping entries keeps the canonical form. -/
theorem cwf_ckeep (dflt : Nat → α) (p : Nat → Bool) {m : Cells α} (h : cwf dflt m = true) : cwf dflt (ckeep p m) = true :=
  cwfFrom_ckeep dflt p m none h

end Sys2Proof.Laws
end

