-- ==== Sys2Proof/Laws/Closed.lean ====
section
/-! SUPPORT. What the operations can do to the addressed stores, said once: a property of devices that the primitive writes of the
stores keep, and that no other field can disturb, is kept by every operation. -/

namespace Sys2Proof.Laws

open Sys2Proof Sys2Proof.Machine

/-- A property of devices that survives every primitive write of an addressed store and says nothing of the other fields. -/
structure Closed (P : Dev → Prop) : Prop where
  rest : ∀ (x : Dev) bw resp spi ctr tb lpc evq log flt hif pwr meas ref img bnd syn gn key net dsg twn ctl, P x →
    P ⟨x.regs, x.latch, x.held, x.ram, bw, x.flash, resp, spi, ctr, tb, lpc, evq, log, flt, hif, pwr, meas, ref, img, bnd, syn, gn, key,
      net, dsg, twn, ctl⟩
  reg : ∀ (d : Dev) a v, P d → P { d with regs := cput resetOf d.regs a v }
  latch : ∀ (d : Dev) a v, P d → P { d with latch := cput (fun _ => 0#32) d.latch a v }
  held : ∀ (d : Dev) a v, P d → P { d with held := cput (fun _ => none) d.held a v }
  ram : ∀ (d : Dev) a v, P d → P { d with ram := cput (fun _ => 0#32) d.ram a v }
  ramKeep : ∀ (d : Dev) p, P d → P { d with ram := ckeep p d.ram }
  flash : ∀ (d : Dev) a v, P d → P { d with flash := cput (fun _ => 0xFF#8) d.flash a v }
  flashKeep : ∀ (d : Dev) p, P d → P { d with flash := ckeep p d.flash }
  regKeep : ∀ (d : Dev) p, P d → P { d with regs := ckeep p d.regs, latch := ckeep p d.latch, held := ckeep p d.held }
  off : ∀ d : Dev, P d → P (offDev d)

theorem keeps_foldl {α : Type} {P : Dev → Prop} {f : Dev → α → Dev} {l : List α} (hf : ∀ a x, P x → P (f x a)) {d : Dev} (h : P d) :
    P (l.foldl f d) := by
  induction l generalizing d with
  | nil => exact h
  | cons a l ih => exact ih (hf a d h)

theorem keeps_foldlSnd {α β : Type} {P : Dev → Prop} {f : β × Dev → α → β × Dev} {l : List α} (hf : ∀ a b x, P x → P (f (b, x) a).2)
    {b : β} {d : Dev} (h : P d) : P (l.foldl f (b, d)).2 := by
  induction l generalizing b d with
  | nil => exact h
  | cons a l ih =>
    show P (l.foldl f (f (b, d) a)).2
    have := hf a b d h
    exact ih (b := (f (b, d) a).1) (d := (f (b, d) a).2) this

theorem keeps_foldlFst {α β : Type} {P : Dev → Prop} {f : Dev × β → α → Dev × β} {l : List α} (hf : ∀ a b x, P x → P (f (x, b) a).1)
    {b : β} {d : Dev} (h : P d) : P (l.foldl f (d, b)).1 := by
  induction l generalizing b d with
  | nil => exact h
  | cons a l ih =>
    show P (l.foldl f (f (d, b) a)).1
    have := hf a b d h
    exact ih (b := (f (d, b) a).2) (d := (f (d, b) a).1) this

theorem keeps_ite {P : Dev → Prop} {c : Prop} [Decidable c] {a b : Dev} (ha : P a) (hb : P b) : P (if c then a else b) := by
  split
  · exact ha
  · exact hb

theorem keeps_doIf {P : Dev → Prop} {b : Bool} {f : Dev → Dev} (hf : ∀ x, P x → P (f x)) {d : Dev} (h : P d) : P (doIf b f d) := by
  unfold doIf; split
  · exact hf d h
  · exact h

theorem keeps_forEach {α : Type} {P : Dev → Prop} {l : List α} {f : α → Dev → Dev} (hf : ∀ a x, P x → P (f a x)) {d : Dev} (h : P d) :
    P (forEach l f d) := keeps_foldl hf h

theorem keeps_rest {P : Dev → Prop} (hP : Closed P) {x : Dev} {bw resp spi ctr tb lpc evq log flt hif pwr meas ref img bnd syn gn key net dsg
    twn ctl} (h : P x) : P ⟨x.regs, x.latch, x.held, x.ram, bw, x.flash, resp, spi, ctr, tb, lpc, evq, log, flt, hif, pwr, meas, ref, img,
      bnd, syn, gn, key, net, dsg, twn, ctl⟩ := hP.rest x _ _ _ _ _ _ _ _ _ _ _ _ _ _ _ _ _ _ _ _ _ _ h

theorem keeps_wr {P : Dev → Prop} (hP : Closed P) (a v) {d : Dev} (h : P d) : P (wr a v d) := hP.reg d a v h

theorem keeps_setFlash {P : Dev → Prop} (hP : Closed P) (a v) {d : Dev} (h : P d) : P (setFlash a v d) := hP.flash d a v h

theorem keeps_setRam {P : Dev → Prop} (hP : Closed P) (a v) {d : Dev} (h : P d) : P (setRam a v d) :=
  hP.rest _ _ _ _ _ _ _ _ _ _ _ _ _ _ _ _ _ _ _ _ _ _ _ (hP.ram d (a / 4) v h)

theorem keeps_zeroRam {P : Dev → Prop} (hP : Closed P) (lo hi) {d : Dev} (h : P d) : P (zeroRam lo hi d) :=
  hP.rest _ _ _ _ _ _ _ _ _ _ _ _ _ _ _ _ _ _ _ _ _ _ _ (hP.ramKeep d (fun a => a * 4 < lo || hi ≤ a * 4) h)

theorem keeps_resetRegs {P : Dev → Prop} (hP : Closed P) (p) {d : Dev} (h : P d) : P (resetRegs p d) := hP.regKeep d _ h

theorem keeps_offDev {P : Dev → Prop} (hP : Closed P) {d : Dev} (h : P d) : P (offDev d) := hP.off d h

end Sys2Proof.Laws
end

