-- ==== Sys2Proof/Laws/KeepsA.lean ====
section
/-! SUPPORT. What the operations do to the addressed stores, part 1 of 4 (`enqueue` to `writeCtl`, each after the operations it
calls): a property of devices that the primitive writes keep (`Closed`) is kept by the operation. -/

namespace Sys2Proof.Laws

set_option Elab.async false

open Sys2Proof Sys2Proof.Machine

variable {P : Dev → Prop} (hP : Closed P)
include hP

theorem keeps_enqueue (a0) {d : Dev} (h : P d) : P (enqueue a0 d) := by
  unfold enqueue
  try dsimp only
  repeat' first
    | (with_reducible first
      | exact h | apply keeps_ite)
    | split
    | with_reducible apply keeps_rest hP

theorem keeps_setWeir (a0) (a1) {d : Dev} (h : P d) : P (setWeir a0 a1 d) := by
  unfold setWeir
  try dsimp only
  repeat' with_reducible first
    | exact h | assumption
    | intro _ _ _ | intro _ _
    | with_reducible apply keeps_rest hP

theorem keeps_setPending (a0) (a1) (a2) {d : Dev} (h : P d) : P (setPending a0 a1 a2 d) := by
  unfold setPending
  try dsimp only
  repeat' first
    | (with_reducible first
      | exact h | apply keeps_ite)
    | split
    | with_reducible apply keeps_rest hP

theorem keeps_weirSync (a0) {d : Dev} (h : P d) : P (weirSync a0 d) := by
  unfold weirSync
  try dsimp only
  repeat' first
    | (with_reducible first
      | exact h | apply keeps_setPending hP | apply keeps_setWeir hP | apply keeps_enqueue hP | apply keeps_ite)

theorem keeps_offer (a0) {d : Dev} (h : P d) : P (offer a0 d) := by
  unfold offer
  try dsimp only
  repeat' first
    | (with_reducible first
      | exact h | apply keeps_weirSync hP | apply keeps_setWeir hP | apply keeps_enqueue hP | apply keeps_ite)
    | split
    | with_reducible apply keeps_rest hP

theorem keeps_raiseRaw (a0) (a1) (a2) (a3) (a4) {d : Dev} (h : P d) : P (raiseRaw a0 a1 a2 a3 a4 d) := by
  unfold raiseRaw
  repeat' with_reducible first
    | exact h | apply keeps_offer hP | apply keeps_setPending hP

theorem keeps_setF (a0) (a1) {d : Dev} (h : P d) : P (setF a0 a1 d) := by
  unfold setF
  repeat' with_reducible first
    | exact h | apply keeps_wr hP

theorem keeps_genWrap (a0) {d : Dev} (h : P d) : P (genWrap a0 d) := by
  unfold genWrap
  repeat' with_reducible first
    | exact h | assumption | apply keeps_setF hP | apply keeps_raiseRaw hP | apply keeps_doIf

theorem keeps_wrN (a0) (a1) {d : Dev} (h : P d) : P (wrN a0 a1 d) := by
  unfold wrN
  repeat' with_reducible first
    | exact h | apply keeps_wr hP

theorem keeps_wr64 (a0) (a1) {d : Dev} (h : P d) : P (wr64 a0 a1 d) := by
  unfold wr64
  repeat' with_reducible first
    | exact h | apply keeps_wrN hP

theorem keeps_genUpper (a0) (a1) {d : Dev} (h : P d) : P (genUpper a0 a1 d) := by
  unfold genUpper
  try dsimp only
  repeat' with_reducible first
    | exact h | assumption | apply keeps_wr64 hP | apply keeps_genWrap hP | apply keeps_doIf

theorem keeps_genAdd (a0) (a1) {d : Dev} (h : P d) : P (genAdd a0 a1 d) := by
  unfold genAdd
  try dsimp only
  repeat' first
    | (with_reducible first
      | exact h | assumption | apply keeps_genUpper hP | apply keeps_wr64 hP | apply keeps_genWrap hP | apply keeps_doIf | apply keeps_ite
     )

theorem keeps_privAdd (a0) (a1) {d : Dev} (h : P d) : P (privAdd a0 a1 d) := by
  unfold privAdd
  try dsimp only
  repeat' first
    | (with_reducible first
      | exact h | apply keeps_wr64 hP | apply keeps_setF hP | apply keeps_raiseRaw hP | apply keeps_ite)

theorem keeps_pmcAdd (a0) (a1) {d : Dev} (h : P d) : P (pmcAdd a0 a1 d) := by
  unfold pmcAdd
  try dsimp only
  repeat' first
    | (with_reducible first
      | exact h | assumption | apply keeps_privAdd hP | apply keeps_genAdd hP | apply keeps_forEach | apply keeps_doIf | apply keeps_ite
     )
    | split
    | intro _ _ _

theorem keeps_pmcSup {d : Dev} (h : P d) : P (pmcSup d) := by
  unfold pmcSup
  try dsimp only
  repeat' first
    | (with_reducible first
      | exact h | apply keeps_pmcAdd hP | apply keeps_ite)
    | split
    | with_reducible apply keeps_rest hP

theorem keeps_raise3 (a0) (a1) (a2) (a3) (a4) {d : Dev} (h : P d) : P (raise3 a0 a1 a2 a3 a4 d) := by
  unfold raise3
  repeat' with_reducible first
    | exact h | apply keeps_pmcSup hP | apply keeps_raiseRaw hP

theorem keeps_raise (a0) (a1) {d : Dev} (h : P d) : P (raise a0 a1 d) := by
  unfold raise
  try dsimp only
  repeat' with_reducible first
    | exact h | apply keeps_raise3 hP
    | with_reducible apply keeps_rest hP

theorem keeps_cntBump (a0) (a1) (a2) (a3) (a4) (a5) {d : Dev} (h : P d) : P (cntBump a0 a1 a2 a3 a4 a5 d) := by
  unfold cntBump
  try dsimp only
  repeat' first
    | (with_reducible first
      | exact h | apply keeps_raise hP | apply keeps_wrN hP | apply keeps_setF hP | apply keeps_ite)

theorem keeps_portCnt (a0) (a1) (a2) (a3) {d : Dev} (h : P d) : P (portCnt a0 a1 a2 a3 d) := by
  unfold portCnt
  try dsimp only
  repeat' first
    | (with_reducible first
      | exact h | apply keeps_cntBump hP | apply keeps_pmcAdd hP | apply keeps_ite)

theorem keeps_acceptCounts (a0) (a1) (a2) {d : Dev} (h : P d) : P (acceptCounts a0 a1 a2 d) := by
  unfold acceptCounts
  try dsimp only
  repeat' first
    | (with_reducible first
      | exact h | assumption | apply keeps_portCnt hP | apply keeps_doIf )

theorem keeps_forceBlock {d : Dev} (h : P d) : P (forceBlock d) := by
  unfold forceBlock
  try dsimp only
  repeat' with_reducible first
    | exact h
    | with_reducible apply keeps_rest hP

theorem keeps_imgCause (a0) (a1) {d : Dev} (h : P d) : P (imgCause a0 a1 d) := by
  unfold imgCause
  repeat' with_reducible first
    | exact h | apply keeps_wrN hP

theorem keeps_imgEvent (a0) (a1) {d : Dev} (h : P d) : P (imgEvent a0 a1 d) := by
  unfold imgEvent
  try dsimp only
  repeat' first
    | (with_reducible first
      | exact h | apply keeps_raise hP | apply keeps_raise3 hP)
    | split

theorem keeps_markBad (a0) {d : Dev} (h : P d) : P (markBad a0 d) := by
  unfold markBad
  try dsimp only
  repeat' first
    | (with_reducible first
      | exact h | apply keeps_imgEvent hP | apply keeps_imgCause hP | apply keeps_forceBlock hP | apply keeps_ite)
    | split
    | with_reducible apply keeps_rest hP

theorem keeps_setAttempts (a0) (a1) {d : Dev} (h : P d) : P (setAttempts a0 a1 d) := by
  unfold setAttempts
  try dsimp only
  repeat' first
    | (with_reducible first
      | exact h | apply keeps_ite)
    | split
    | with_reducible apply keeps_rest hP

theorem keeps_countAttempt (a0) {d : Dev} (h : P d) : P (countAttempt a0 d) := by
  unfold countAttempt
  try dsimp only
  repeat' with_reducible first
    | exact h | assumption | apply keeps_setAttempts hP | apply keeps_markBad hP | apply keeps_doIf

theorem keeps_putBuilds {d : Dev} (h : P d) : P (putBuilds d) := by
  unfold putBuilds
  try dsimp only
  repeat' first
    | (with_reducible first
      | exact h | assumption | apply keeps_wrN hP)

theorem keeps_setB (a0) (a1) {d : Dev} (h : P d) : P (setB a0 a1 d) := by
  unfold setB
  repeat' with_reducible first
    | exact h | apply keeps_setF hP

theorem keeps_satAdd (a0) (a1) {d : Dev} (h : P d) : P (satAdd a0 a1 d) := by
  unfold satAdd
  repeat' with_reducible first
    | exact h | apply keeps_setF hP

theorem keeps_keyCount (a0) {d : Dev} (h : P d) : P (keyCount a0 d) := by
  unfold keyCount
  repeat' with_reducible first
    | exact h | apply keeps_satAdd hP

theorem keeps_kekClear {d : Dev} (h : P d) : P (kekClear d) := by
  unfold kekClear
  try dsimp only
  repeat' with_reducible first
    | exact h | apply keeps_setF hP
    | with_reducible apply keeps_rest hP

theorem keeps_ntsClear (a0) {d : Dev} (h : P d) : P (ntsClear a0 d) := by
  unfold ntsClear
  try dsimp only
  repeat' with_reducible first
    | exact h | assumption | apply keeps_wr64 hP | apply keeps_wrN hP | apply keeps_doIf
    | intro _ _ _ | intro _ _
    | with_reducible apply keeps_rest hP

theorem keeps_osnClear (a0) {d : Dev} (h : P d) : P (osnClear a0 d) := by
  unfold osnClear
  try dsimp only
  repeat' with_reducible first
    | exact h | assumption | apply keeps_wrN hP
    | intro _ _ _ | intro _ _
    | with_reducible apply keeps_rest hP

theorem keeps_saClear (a0) {d : Dev} (h : P d) : P (saClear a0 d) := by
  unfold saClear
  try dsimp only
  repeat' with_reducible first
    | exact h | assumption | apply keeps_wrN hP | apply keeps_forEach
    | intro _ _ _ | intro _ _
    | with_reducible apply keeps_rest hP

theorem keeps_zeroSlots {d : Dev} (h : P d) : P (zeroSlots d) := by
  unfold zeroSlots
  repeat' with_reducible first
    | exact h | assumption | apply keeps_saClear hP | apply keeps_osnClear hP | apply keeps_ntsClear hP | apply keeps_kekClear hP
    | apply keeps_forEach

theorem keeps_zeroStart (a0) {d : Dev} (h : P d) : P (zeroStart a0 d) := by
  unfold zeroStart
  try dsimp only
  repeat' first
    | (with_reducible first
      | exact h | assumption | apply keeps_zeroSlots hP | apply keeps_keyCount hP | apply keeps_raise hP | apply keeps_setF hP
     )
    | split
    | intro _ _ _ | intro _ _
    | with_reducible apply keeps_rest hP

theorem keeps_acceptSet (a0) (a1) (a2) {d : Dev} (h : P d) : P (acceptSet a0 a1 a2 d) := by
  unfold acceptSet
  try dsimp only
  repeat' first
    | (with_reducible first
      | exact h | assumption | apply keeps_zeroStart hP | apply keeps_setB hP | apply keeps_putBuilds hP | apply keeps_countAttempt hP
      | apply keeps_imgEvent hP | apply keeps_setF hP | apply keeps_doIf)
    | split
    | intro _ _ _ | intro _ _
    | with_reducible apply keeps_rest hP

theorem keeps_accumulate {d : Dev} (h : P d) : P (accumulate d) := by
  unfold accumulate
  try dsimp only
  repeat' first
    | (with_reducible first
      | exact h)
    | split
    | with_reducible apply keeps_rest hP

theorem keeps_fltCount (a0) {d : Dev} (h : P d) : P (fltCount a0 d) := by
  unfold fltCount
  repeat' with_reducible first
    | exact h | apply keeps_satAdd hP

theorem keeps_decideWith (a0) {d : Dev} (h : P d) : P (decideWith a0 d) := by
  unfold decideWith
  try dsimp only
  repeat' with_reducible first
    | exact h | apply keeps_fltCount hP | apply keeps_setF hP
    | with_reducible apply keeps_rest hP

theorem keeps_setUnit (a0) (a1) {d : Dev} (h : P d) : P (setUnit a0 a1 d) := by
  unfold setUnit
  try dsimp only
  repeat' with_reducible first
    | exact h | assumption
    | intro _ _ _ | intro _ _
    | with_reducible apply keeps_rest hP

theorem keeps_modUnit (a0) (a1) {d : Dev} (h : P d) : P (modUnit a0 a1 d) := by
  unfold modUnit
  repeat' with_reducible first
    | exact h | assumption | apply keeps_setUnit hP

theorem keeps_latchCause (a0) (a1) (a2) {d : Dev} (h : P d) : P (latchCause a0 a1 a2 d) := by
  unfold latchCause
  try dsimp only
  repeat' first
    | (with_reducible first
      | exact h | assumption | apply keeps_modUnit hP )

theorem keeps_openSlot (a0) {d : Dev} (h : P d) : P (openSlot a0 d) := by
  unfold openSlot
  try dsimp only
  repeat' first
    | (with_reducible first
      | exact h | apply keeps_fltCount hP)
    | split
    | with_reducible apply keeps_rest hP

theorem keeps_putSlot (a0) {d : Dev} (h : P d) : P (putSlot a0 d) := by
  unfold putSlot
  try dsimp only
  repeat' first
    | (with_reducible first
      | exact h | assumption | apply keeps_ite)
    | split
    | intro _ _ _ | intro _ _
    | with_reducible apply keeps_rest hP

theorem keeps_railsIdle (a0) {d : Dev} (h : P d) : P (railsIdle a0 d) := by
  unfold railsIdle
  try dsimp only
  repeat' first
    | (with_reducible first
      | exact h | assumption | apply keeps_modUnit hP | apply keeps_raise hP | apply keeps_ite)

theorem keeps_collect (a0) (a1) (a2) (a3) (a4) {d : Dev} (h : P d) : P (collect a0 a1 a2 a3 a4 d) := by
  unfold collect
  try dsimp only
  repeat' first
    | (with_reducible first
      | exact h | assumption | apply keeps_railsIdle hP | apply keeps_putSlot hP | apply keeps_openSlot hP | apply keeps_latchCause hP
      | apply keeps_modUnit hP | apply keeps_decideWith hP | apply keeps_fltCount hP | apply keeps_doIf | apply keeps_ite
     )
    | split

theorem keeps_report (a0) {d : Dev} (h : P d) : P (report a0 d) := by
  unfold report
  try dsimp only
  repeat' first
    | (with_reducible first
      | exact h | apply keeps_collect hP | apply keeps_ite)
    | split
    | with_reducible apply keeps_rest hP

theorem keeps_reportUnit (a0) (a1) (a2) (a3) (a4) {d : Dev} (h : P d) : P (reportUnit a0 a1 a2 a3 a4 d) := by
  unfold reportUnit
  repeat' with_reducible first
    | exact h | apply keeps_report hP

theorem keeps_ackTimeout (a0) {d : Dev} (h : P d) : P (ackTimeout a0 d) := by
  unfold ackTimeout
  try dsimp only
  repeat' first
    | (with_reducible first
      | exact h | apply keeps_reportUnit hP | apply keeps_raise hP | apply keeps_ite)

theorem keeps_snapSettle {d : Dev} (h : P d) : P (snapSettle d) := by
  unfold snapSettle
  try dsimp only
  repeat' first
    | (with_reducible first
      | exact h | apply keeps_setF hP | apply keeps_ite)

theorem keeps_dropJob (a0) {d : Dev} (h : P d) : P (dropJob a0 d) := by
  unfold dropJob
  try dsimp only
  repeat' first
    | (with_reducible first
      | exact h | assumption | apply keeps_snapSettle hP | apply keeps_setF hP)
    | split
    | intro _ _ _ | intro _ _
    | with_reducible apply keeps_rest hP

theorem keeps_gnResult (a0) (a1) {d : Dev} (h : P d) : P (gnResult a0 a1 d) := by
  unfold gnResult
  repeat' with_reducible first
    | exact h | apply keeps_wrN hP

theorem keeps_acqAbortF {d : Dev} (h : P d) : P (acqAbortF d) := by
  unfold acqAbortF
  try dsimp only
  repeat' first
    | (with_reducible first
      | exact h | apply keeps_gnResult hP | apply keeps_dropJob hP | apply keeps_setF hP | apply keeps_ite)

theorem keeps_acqStartF {d : Dev} (h : P d) : P (acqStartF d) := by
  unfold acqStartF
  try dsimp only
  repeat' first
    | (with_reducible first
      | exact h | assumption | apply keeps_gnResult hP | apply keeps_snapSettle hP | apply keeps_wrN hP | apply keeps_ite
     )
    | split
    | intro _ _ _ | intro _ _
    | with_reducible apply keeps_rest hP

theorem keeps_addBase (a0) {d : Dev} (h : P d) : P (addBase a0 d) := by
  unfold addBase
  repeat' with_reducible first
    | exact h | apply keeps_wr64 hP

theorem keeps_setMreq (a0) (a1) {d : Dev} (h : P d) : P (setMreq a0 a1 d) := by
  unfold setMreq
  try dsimp only
  repeat' with_reducible first
    | exact h | assumption
    | intro _ _ _ | intro _ _
    | with_reducible apply keeps_rest hP

theorem keeps_addSample (a0) (a1) (a2) {d : Dev} (h : P d) : P (addSample a0 a1 a2 d) := by
  unfold addSample
  try dsimp only
  repeat' first
    | (with_reducible first
      | exact h | apply keeps_setMreq hP | apply keeps_pmcAdd hP | apply keeps_ite)

theorem keeps_admitMch (a0) {d : Dev} (h : P d) : P (admitMch a0 d) := by
  unfold admitMch
  try dsimp only
  repeat' with_reducible first
    | exact h | assumption | apply keeps_setF hP | apply keeps_doIf
    | intro _ _ _ | intro _ _
    | with_reducible apply keeps_rest hP

theorem keeps_admitUnit (a0) {d : Dev} (h : P d) : P (admitUnit a0 d) := by
  unfold admitUnit
  repeat' with_reducible first
    | exact h | assumption | apply keeps_modUnit hP | apply keeps_raise hP

theorem keeps_admitWaiting {d : Dev} (h : P d) : P (admitWaiting d) := by
  unfold admitWaiting
  try dsimp only
  repeat' first
    | (with_reducible first
      | exact h | assumption | apply keeps_ite | apply keeps_foldl | apply keeps_foldlSnd | apply keeps_foldlFst)
    | split
    | intro _ _ _ | intro _ _
    | with_reducible apply keeps_rest hP

theorem keeps_clearAcc (a0) {d : Dev} (h : P d) : P (clearAcc a0 d) := by
  unfold clearAcc
  try dsimp only
  repeat' with_reducible first
    | exact h | apply keeps_setMreq hP

theorem keeps_releaseChan (a0) {d : Dev} (h : P d) : P (releaseChan a0 d) := by
  unfold releaseChan
  try dsimp only
  repeat' first
    | (with_reducible first
      | exact h | assumption | apply keeps_setMreq hP | apply keeps_setF hP | apply keeps_doIf)
    | split
    | intro _ _ _ | intro _ _

theorem keeps_loadSync {d : Dev} (h : P d) : P (loadSync d) := by
  unfold loadSync
  try dsimp only
  repeat' first
    | (with_reducible first
      | exact h | assumption | apply keeps_ite | apply keeps_foldl | apply keeps_foldlSnd | apply keeps_foldlFst)
    | split
    | intro _ _ _ | intro _ _
    | with_reducible apply keeps_rest hP

theorem keeps_setReqState (a0) (a1) {d : Dev} (h : P d) : P (setReqState a0 a1 d) := by
  unfold setReqState
  repeat' with_reducible first
    | exact h | apply keeps_loadSync hP | apply keeps_setF hP

theorem keeps_afterResult (a0) {d : Dev} (h : P d) : P (afterResult a0 d) := by
  unfold afterResult
  try dsimp only
  repeat' first
    | (with_reducible first
      | exact h | apply keeps_setReqState hP | apply keeps_releaseChan hP | apply keeps_clearAcc hP | apply keeps_setMreq hP | apply keeps_setF hP
      | apply keeps_ite)

theorem keeps_modTwn (a0) {d : Dev} (h : P d) : P (modTwn a0 d) := by
  unfold modTwn
  try dsimp only
  repeat' with_reducible first
    | exact h
    | with_reducible apply keeps_rest hP

theorem keeps_journalAdd (a0) {d : Dev} (h : P d) : P (journalAdd a0 d) := by
  unfold journalAdd
  repeat' with_reducible first
    | exact h | assumption | apply keeps_modTwn hP | apply keeps_doIf

theorem keeps_sendMr (a0) {d : Dev} (h : P d) : P (sendMr a0 d) := by
  unfold sendMr
  repeat' with_reducible first
    | exact h | assumption | apply keeps_modTwn hP

theorem keeps_twnCount (a0) (a1) {d : Dev} (h : P d) : P (twnCount a0 a1 d) := by
  unfold twnCount
  repeat' with_reducible first
    | exact h | apply keeps_satAdd hP

theorem keeps_startSweep {d : Dev} (h : P d) : P (startSweep d) := by
  unfold startSweep
  try dsimp only
  repeat' first
    | (with_reducible first
      | exact h | assumption | apply keeps_twnCount hP | apply keeps_modTwn hP | apply keeps_raise hP | apply keeps_setF hP | apply keeps_ite
     )

theorem keeps_resend (a0) {d : Dev} (h : P d) : P (resend a0 d) := by
  unfold resend
  try dsimp only
  repeat' first
    | (with_reducible first
      | exact h | assumption | apply keeps_startSweep hP | apply keeps_sendMr hP | apply keeps_ite)
    | split

theorem keeps_againIn (a0) {d : Dev} (h : P d) : P (againIn a0 d) := by
  unfold againIn
  try dsimp only
  repeat' first
    | (with_reducible first
      | exact h | assumption | apply keeps_resend hP | apply keeps_startSweep hP | apply keeps_journalAdd hP | apply keeps_doIf
     )
    | split
    | intro _ _ _ | intro _ _

theorem keeps_agreeNow (a0) {d : Dev} (h : P d) : P (agreeNow a0 d) := by
  unfold agreeNow
  try dsimp only
  repeat' with_reducible first
    | exact h | assumption
    | intro _ _ _ | intro _ _
    | with_reducible apply keeps_rest hP

theorem keeps_wrS64 (a0) (a1) {d : Dev} (h : P d) : P (wrS64 a0 a1 d) := by
  unfold wrS64
  repeat' with_reducible first
    | exact h | apply keeps_wr64 hP

theorem keeps_alignUse (a0) {d : Dev} (h : P d) : P (alignUse a0 d) := by
  unfold alignUse
  try dsimp only
  repeat' first
    | (with_reducible first
      | exact h | assumption | apply keeps_wrS64 hP | apply keeps_modTwn hP | apply keeps_raise hP | apply keeps_setF hP | apply keeps_doIf
      | apply keeps_ite)

theorem keeps_alignCombine (a0) {d : Dev} (h : P d) : P (alignCombine a0 d) := by
  unfold alignCombine
  try dsimp only
  repeat' first
    | (with_reducible first
      | exact h | assumption | apply keeps_alignUse hP | apply keeps_wrS64 hP | apply keeps_wr64 hP | apply keeps_wrN hP | apply keeps_ite
     )

theorem keeps_alignEpochs {d : Dev} (h : P d) : P (alignEpochs d) := by
  unfold alignEpochs
  try dsimp only
  repeat' with_reducible first
    | exact h
    | with_reducible apply keeps_rest hP

theorem keeps_alignGn {d : Dev} (h : P d) : P (alignGn d) := by
  unfold alignGn
  try dsimp only
  repeat' with_reducible first
    | exact h
    | with_reducible apply keeps_rest hP

theorem keeps_alignRecord {d : Dev} (h : P d) : P (alignRecord d) := by
  unfold alignRecord
  try dsimp only
  repeat' with_reducible first
    | exact h | apply keeps_raise3 hP | apply keeps_wrN hP

theorem keeps_alignResult (a0) {d : Dev} (h : P d) : P (alignResult a0 d) := by
  unfold alignResult
  repeat' with_reducible first
    | exact h | assumption | apply keeps_sendMr hP | apply keeps_doIf
    | intro _ _ _ | intro _ _

theorem keeps_bufMove (a0) (a1) (a2) {d : Dev} (h : P d) : P (bufMove a0 a1 a2 d) := by
  unfold bufMove
  try dsimp only
  repeat' with_reducible first
    | exact h | apply keeps_wrN hP

theorem keeps_crdMove (a0) (a1) (a2) (a3) {d : Dev} (h : P d) : P (crdMove a0 a1 a2 a3 d) := by
  unfold crdMove
  try dsimp only
  repeat' with_reducible first
    | exact h | apply keeps_wrN hP

theorem keeps_crdUse (a0) (a1) (a2) (h2 : ∀ x, P x → P (a2 x)) {d : Dev} (h : P d) : P (crdUse a0 a1 a2 d) := by
  unfold crdUse
  repeat' with_reducible first
    | exact h | assumption | apply h2 | apply keeps_crdMove hP | apply keeps_forEach
    | intro _ _ _

theorem keeps_dlvDone (a0) (a1) (a2) {d : Dev} (h : P d) : P (dlvDone a0 a1 a2 d) := by
  unfold dlvDone
  repeat' with_reducible first
    | exact h | apply keeps_wrN hP

theorem keeps_dlvDrop (a0) {d : Dev} (h : P d) : P (dlvDrop a0 d) := by
  unfold dlvDrop
  try dsimp only
  repeat' first
    | (with_reducible first
      | exact h | assumption | apply keeps_ite)
    | split
    | intro _ _ _ | intro _ _
    | with_reducible apply keeps_rest hP

theorem keeps_dlvRefuse (a0) (a1) {d : Dev} (h : P d) : P (dlvRefuse a0 a1 d) := by
  unfold dlvRefuse
  try dsimp only
  repeat' with_reducible first
    | exact h | apply keeps_dlvDrop hP | apply keeps_dlvDone hP | apply keeps_keyCount hP | apply keeps_raise hP

theorem keeps_markFresh (a0) (a1) (a2) {d : Dev} (h : P d) : P (markFresh a0 a1 a2 d) := by
  unfold markFresh
  try dsimp only
  repeat' first
    | (with_reducible first
      | exact h | assumption | apply keeps_ite)
    | split
    | intro _ _ _ | intro _ _
    | with_reducible apply keeps_rest hP

theorem keeps_dlvWrite (a0) (a1) (a2) (a3) (a4) (a5) {d : Dev} (h : P d) : P (dlvWrite a0 a1 a2 a3 a4 a5 d) := by
  unfold dlvWrite
  try dsimp only
  repeat' first
    | (with_reducible first
      | exact h | assumption | apply keeps_markFresh hP | apply keeps_wr64 hP | apply keeps_wrN hP | apply keeps_setF hP)
    | split
    | intro _ _ _ | intro _ _
    | with_reducible apply keeps_rest hP

theorem keeps_dlvFinish (a0) (a1) (a2) (a3) (a4) (a5) {d : Dev} (h : P d) : P (dlvFinish a0 a1 a2 a3 a4 a5 d) := by
  unfold dlvFinish
  try dsimp only
  repeat' first
    | (with_reducible first
      | exact h | apply keeps_dlvWrite hP | apply keeps_dlvRefuse hP | apply keeps_dlvDrop hP | apply keeps_dlvDone hP | apply keeps_keyCount hP
      | apply keeps_raise hP | apply keeps_wrN hP | apply keeps_ite)
    | split
    | with_reducible apply keeps_rest hP

theorem keeps_draw {d : Dev} (h : P d) : P (draw d) := by
  unfold draw
  try dsimp only
  repeat' with_reducible first
    | exact h
    | with_reducible apply keeps_rest hP

theorem keeps_jobDone (a0) {d : Dev} (h : P d) : P (jobDone a0 d) := by
  unfold jobDone
  try dsimp only
  repeat' first
    | (with_reducible first
      | exact h | apply keeps_draw hP | apply keeps_pmcAdd hP )

theorem keeps_dlvProcess (a0) {d : Dev} (h : P d) : P (dlvProcess a0 d) := by
  unfold dlvProcess
  try dsimp only
  repeat' first
    | (with_reducible first
      | exact h | assumption | apply keeps_jobDone hP | apply keeps_dlvFinish hP | apply keeps_dlvRefuse hP | apply keeps_crdUse hP
      | apply keeps_setF hP | apply keeps_ite)
    | split
    | intro _ _ _ | intro _ _
    | with_reducible apply keeps_rest hP

theorem keeps_dlvDiscard (a0) {d : Dev} (h : P d) : P (dlvDiscard a0 d) := by
  unfold dlvDiscard
  try dsimp only
  repeat' first
    | (with_reducible first
      | exact h | assumption | apply keeps_dlvProcess hP | apply keeps_dlvRefuse hP | apply keeps_doIf | apply keeps_ite)

theorem keeps_dropPages (a0) {d : Dev} (h : P d) : P (dropPages a0 d) := by
  unfold dropPages
  try dsimp only
  repeat' with_reducible first
    | exact h | assumption
    | intro _ _ _ | intro _ _
    | with_reducible apply keeps_rest hP

theorem keeps_bulkAbortOp (a0) {d : Dev} (h : P d) : P (bulkAbortOp a0 d) := by
  unfold bulkAbortOp
  try dsimp only
  repeat' first
    | (with_reducible first
      | exact h | assumption | apply keeps_dropPages hP | apply keeps_dlvDiscard hP | apply keeps_bufMove hP | apply keeps_setF hP
      | apply keeps_doIf | apply keeps_ite)
    | split
    | intro _ _ _ | intro _ _
    | with_reducible apply keeps_rest hP

theorem keeps_setRefused (a0) (a1) {d : Dev} (h : P d) : P (setRefused a0 a1 d) := by
  unfold setRefused
  try dsimp only
  repeat' first
    | (with_reducible first
      | exact h | assumption | apply keeps_ite)
    | split
    | intro _ _ _ | intro _ _
    | with_reducible apply keeps_rest hP

theorem keeps_bulkReleaseOp (a0) {d : Dev} (h : P d) : P (bulkReleaseOp a0 d) := by
  unfold bulkReleaseOp
  repeat' with_reducible first
    | exact h | apply keeps_setRefused hP | apply keeps_bulkAbortOp hP | apply keeps_snapSettle hP | apply keeps_wrN hP

theorem keeps_endpointReset {d : Dev} (h : P d) : P (endpointReset d) := by
  unfold endpointReset
  try dsimp only
  repeat' with_reducible first
    | exact h | assumption | apply keeps_bulkReleaseOp hP | apply keeps_setF hP | apply keeps_wr hP | apply keeps_forEach | apply keeps_doIf
    | intro _ _ _ | intro _ _
    | with_reducible apply keeps_rest hP

theorem keeps_ctlDown {d : Dev} (h : P d) : P (ctlDown d) := by
  unfold ctlDown
  try dsimp only
  repeat' with_reducible first
    | exact h | assumption | apply keeps_endpointReset hP | apply keeps_setF hP
    | intro _ _ _ | intro _ _
    | with_reducible apply keeps_rest hP

theorem keeps_measLoss {d : Dev} (h : P d) : P (measLoss d) := by
  unfold measLoss
  try dsimp only
  repeat' first
    | (with_reducible first
      | exact h | assumption | apply keeps_setReqState hP | apply keeps_releaseChan hP | apply keeps_clearAcc hP | apply keeps_forEach
      | apply keeps_ite)
    | split
    | intro _ _ _ | intro _ _
    | with_reducible apply keeps_rest hP

theorem keeps_modPsub (a0) (a1) (a2) {d : Dev} (h : P d) : P (modPsub a0 a1 a2 d) := by
  unfold modPsub
  try dsimp only
  repeat' with_reducible first
    | exact h | assumption
    | intro _ _ _ | intro _ _
    | with_reducible apply keeps_rest hP

theorem keeps_txFree (a0) {d : Dev} (h : P d) : P (txFree a0 d) := by
  unfold txFree
  repeat' with_reducible first
    | exact h | apply keeps_bufMove hP

theorem keeps_dropTx (a0) (a1) {d : Dev} (h : P d) : P (dropTx a0 a1 d) := by
  unfold dropTx
  try dsimp only
  repeat' with_reducible first
    | exact h | assumption | apply keeps_txFree hP | apply keeps_modPsub hP | apply keeps_portCnt hP | apply keeps_forEach | apply keeps_doIf

theorem keeps_reqDisable (a0) {d : Dev} (h : P d) : P (reqDisable a0 d) := by
  unfold reqDisable
  repeat' with_reducible first
    | exact h | apply keeps_setReqState hP | apply keeps_releaseChan hP | apply keeps_setMreq hP | apply keeps_setF hP

theorem keeps_dropLaneReqs (a0) (a1) {d : Dev} (h : P d) : P (dropLaneReqs a0 a1 d) := by
  unfold dropLaneReqs
  try dsimp only
  repeat' first
    | (with_reducible first
      | exact h | assumption | apply keeps_reqDisable hP | apply keeps_forEach | apply keeps_ite)
    | split
    | intro _ _ _

theorem keeps_dsgCnt (a0) (a1) {d : Dev} (h : P d) : P (dsgCnt a0 a1 d) := by
  unfold dsgCnt
  repeat' with_reducible first
    | exact h | apply keeps_cntBump hP

theorem keeps_rxCnt (a0) (a1) (a2) (a3) {d : Dev} (h : P d) : P (rxCnt a0 a1 a2 a3 d) := by
  unfold rxCnt
  try dsimp only
  repeat' first
    | (with_reducible first
      | exact h | apply keeps_dsgCnt hP | apply keeps_portCnt hP | apply keeps_ite)

theorem keeps_rxCount (a0) (a1) (a2) {d : Dev} (h : P d) : P (rxCount a0 a1 a2 d) := by
  unfold rxCount
  repeat' with_reducible first
    | exact h | apply keeps_rxCnt hP

theorem keeps_rxCut (a0) (a1) (a2) {d : Dev} (h : P d) : P (rxCut a0 a1 a2 d) := by
  unfold rxCut
  try dsimp only
  repeat' first
    | (with_reducible first
      | exact h | assumption | apply keeps_rxCount hP | apply keeps_modPsub hP | apply keeps_bufMove hP | apply keeps_doIf | apply keeps_ite
     )
    | split

theorem keeps_leaveUp (a0) (a1) (a2) {d : Dev} (h : P d) : P (leaveUp a0 a1 a2 d) := by
  unfold leaveUp
  try dsimp only
  repeat' first
    | (with_reducible first
      | exact h | apply keeps_rxCut hP | apply keeps_dropLaneReqs hP | apply keeps_dropTx hP | apply keeps_portCnt hP | apply keeps_raise hP
      | apply keeps_setF hP | apply keeps_ite)

theorem keeps_quadDown (a0) {d : Dev} (h : P d) : P (quadDown a0 d) := by
  unfold quadDown
  repeat' with_reducible first
    | exact h | assumption | apply keeps_leaveUp hP | apply keeps_dropTx hP | apply keeps_forEach
    | intro _ _ _

theorem keeps_smemDown {d : Dev} (h : P d) : P (smemDown d) := by
  unfold smemDown
  try dsimp only
  repeat' with_reducible first
    | exact h | assumption | apply keeps_zeroRam hP | apply keeps_setF hP | apply keeps_forEach
    | intro _ _ _ | intro _ _
    | with_reducible apply keeps_rest hP

theorem keeps_pllTo (a0) (a1) {d : Dev} (h : P d) : P (pllTo a0 a1 d) := by
  unfold pllTo
  try dsimp only
  repeat' first
    | (with_reducible first
      | exact h | apply keeps_setB hP | apply keeps_raise hP | apply keeps_setF hP | apply keeps_ite)

theorem keeps_setSpll (a0) (a1) {d : Dev} (h : P d) : P (setSpll a0 a1 d) := by
  unfold setSpll
  try dsimp only
  repeat' with_reducible first
    | exact h | assumption
    | intro _ _ _ | intro _ _
    | with_reducible apply keeps_rest hP

theorem keeps_setDriving (a0) (a1) {d : Dev} (h : P d) : P (setDriving a0 a1 d) := by
  unfold setDriving
  try dsimp only
  repeat' first
    | (with_reducible first
      | exact h | apply keeps_setB hP | apply keeps_raise hP | apply keeps_ite)

theorem keeps_runOut (a0) (a1) {d : Dev} (h : P d) : P (runOut a0 a1 d) := by
  unfold runOut
  try dsimp only
  repeat' with_reducible first
    | exact h | apply keeps_setDriving hP | apply keeps_setB hP

theorem keeps_outRun (a0) (a1) {d : Dev} (h : P d) : P (outRun a0 a1 d) := by
  unfold outRun
  repeat' with_reducible first
    | exact h | apply keeps_runOut hP

theorem keeps_stopOuts (a0) {d : Dev} (h : P d) : P (stopOuts a0 d) := by
  unfold stopOuts
  repeat' with_reducible first
    | exact h | assumption | apply keeps_outRun hP | apply keeps_forEach
    | intro _ _ _

theorem keeps_offPll (a0) {d : Dev} (h : P d) : P (offPll a0 d) := by
  unfold offPll
  try dsimp only
  repeat' with_reducible first
    | exact h | apply keeps_stopOuts hP | apply keeps_setSpll hP | apply keeps_pllTo hP | apply keeps_setF hP

theorem keeps_ppsRun (a0) (a1) {d : Dev} (h : P d) : P (ppsRun a0 a1 d) := by
  unfold ppsRun
  repeat' with_reducible first
    | exact h | apply keeps_runOut hP

theorem keeps_setSpps (a0) (a1) {d : Dev} (h : P d) : P (setSpps a0 a1 d) := by
  unfold setSpps
  try dsimp only
  repeat' with_reducible first
    | exact h | assumption
    | intro _ _ _ | intro _ _
    | with_reducible apply keeps_rest hP

theorem keeps_synDown (a0) {d : Dev} (h : P d) : P (synDown a0 d) := by
  unfold synDown
  try dsimp only
  repeat' first
    | (with_reducible first
      | exact h | assumption | apply keeps_setSpps hP | apply keeps_ppsRun hP | apply keeps_offPll hP | apply keeps_forEach | apply keeps_ite
     )
    | split
    | intro _ _ _ | intro _ _
    | with_reducible apply keeps_rest hP

theorem keeps_fixHold (a0) (a1) (a2) (a3) (a4) {d : Dev} (h : P d) : P (fixHold a0 a1 a2 a3 a4 d) := by
  unfold fixHold
  try dsimp only
  repeat' with_reducible first
    | exact h | apply keeps_raise3 hP | apply keeps_wr64 hP | apply keeps_wrN hP
    | with_reducible apply keeps_rest hP

theorem keeps_dropMarkers {d : Dev} (h : P d) : P (dropMarkers d) := by
  unfold dropMarkers
  try dsimp only
  repeat' first
    | (with_reducible first
      | exact h | assumption | apply keeps_reqDisable hP | apply keeps_forEach | apply keeps_ite)
    | split
    | intro _ _ _

theorem keeps_reqEnable (a0) {d : Dev} (h : P d) : P (reqEnable a0 d) := by
  unfold reqEnable
  repeat' with_reducible first
    | exact h | apply keeps_setReqState hP | apply keeps_setMreq hP | apply keeps_setF hP

theorem keeps_postReq (a0) (a1) (a2) (a3) (a4) (a5) (a6) (a7) (a8) {d : Dev} (h : P d) : P (postReq a0 a1 a2 a3 a4 a5 a6 a7 a8 d) := by
  unfold postReq
  try dsimp only
  repeat' with_reducible first
    | exact h | assumption | apply keeps_reqEnable hP | apply keeps_wr64 hP | apply keeps_wrN hP | apply keeps_doIf

theorem keeps_postMarkers {d : Dev} (h : P d) : P (postMarkers d) := by
  unfold postMarkers
  repeat' with_reducible first
    | exact h | assumption | apply keeps_postReq hP | apply keeps_wr64 hP | apply keeps_forEach
    | intro _ _ _

theorem keeps_linkTo (a0) {d : Dev} (h : P d) : P (linkTo a0 d) := by
  unfold linkTo
  try dsimp only
  repeat' first
    | (with_reducible first
      | exact h | assumption | apply keeps_postMarkers hP | apply keeps_dropMarkers hP | apply keeps_modTwn hP | apply keeps_raise hP
      | apply keeps_setF hP | apply keeps_ite)

theorem keeps_tbDown {d : Dev} (h : P d) : P (tbDown d) := by
  unfold tbDown
  try dsimp only
  repeat' first
    | (with_reducible first
      | exact h | assumption | apply keeps_linkTo hP | apply keeps_fixHold hP | apply keeps_setF hP | apply keeps_doIf | apply keeps_ite
     )
    | split
    | intro _ _ _ | intro _ _
    | with_reducible apply keeps_rest hP

theorem keeps_hiddenDown (a0) {d : Dev} (h : P d) : P (hiddenDown a0 d) := by
  unfold hiddenDown
  try dsimp only
  repeat' first
    | (with_reducible first
      | exact h | apply keeps_tbDown hP | apply keeps_synDown hP | apply keeps_smemDown hP | apply keeps_quadDown hP | apply keeps_measLoss hP
      | apply keeps_ctlDown hP)
    | split

theorem keeps_resetDom (a0) {d : Dev} (h : P d) : P (resetDom a0 d) := by
  unfold resetDom
  repeat' with_reducible first
    | exact h | assumption | apply keeps_resetRegs hP

theorem keeps_setDom (a0) (a1) {d : Dev} (h : P d) : P (setDom a0 a1 d) := by
  unfold setDom
  repeat' with_reducible first
    | exact h | apply keeps_setF hP

theorem keeps_powerDown (a0) {d : Dev} (h : P d) : P (powerDown a0 d) := by
  unfold powerDown
  try dsimp only
  repeat' first
    | (with_reducible first
      | exact h | apply keeps_setDom hP | apply keeps_resetDom hP | apply keeps_hiddenDown hP | apply keeps_ite)

theorem keeps_allDown (a0) {d : Dev} (h : P d) : P (allDown a0 d) := by
  unfold allDown
  repeat' with_reducible first
    | exact h | assumption | apply keeps_powerDown hP | apply keeps_forEach

theorem keeps_macPut (a0) (a1) (a2) {d : Dev} (h : P d) : P (macPut a0 a1 a2 d) := by
  unfold macPut
  repeat' with_reducible first
    | exact h | assumption | apply keeps_modPsub hP

theorem keeps_launch (a0) (a1) (a2) {d : Dev} (h : P d) : P (launch a0 a1 a2 d) := by
  unfold launch
  try dsimp only
  repeat' first
    | (with_reducible first
      | exact h | assumption | apply keeps_macPut hP | apply keeps_txFree hP | apply keeps_portCnt hP | apply keeps_doIf | apply keeps_ite
     )

theorem keeps_launchBuilt (a0) (a1) (a2) (a3) {d : Dev} (h : P d) : P (launchBuilt a0 a1 a2 a3 d) := by
  unfold launchBuilt
  try dsimp only
  repeat' with_reducible first
    | exact h | apply keeps_launch hP | apply keeps_bufMove hP

theorem keeps_ownSend (a0) (a1) (a2) {d : Dev} (h : P d) : P (ownSend a0 a1 a2 d) := by
  unfold ownSend
  repeat' with_reducible first
    | exact h | apply keeps_launchBuilt hP

theorem keeps_announceAddrs {d : Dev} (h : P d) : P (announceAddrs d) := by
  unfold announceAddrs
  try dsimp only
  repeat' first
    | (with_reducible first
      | exact h | assumption | apply keeps_ownSend hP | apply keeps_forEach | apply keeps_ite)
    | split
    | intro _ _ _

theorem keeps_svcCnt (a0) (a1) {d : Dev} (h : P d) : P (svcCnt a0 a1 d) := by
  unfold svcCnt
  try dsimp only
  repeat' first
    | (with_reducible first
      | exact h | apply keeps_cntBump hP | apply keeps_ite)

theorem keeps_respSend (a0) (a1) (a2) {d : Dev} (h : P d) : P (respSend a0 a1 a2 d) := by
  unfold respSend
  repeat' with_reducible first
    | exact h | apply keeps_svcCnt hP | apply keeps_launchBuilt hP

theorem keeps_answerArp (a0) (a1) (a2) {d : Dev} (h : P d) : P (answerArp a0 a1 a2 d) := by
  unfold answerArp
  try dsimp only
  repeat' with_reducible first
    | exact h | apply keeps_respSend hP

theorem keeps_rxFree (a0) {d : Dev} (h : P d) : P (rxFree a0 d) := by
  unfold rxFree
  repeat' with_reducible first
    | exact h | apply keeps_bufMove hP

theorem keeps_answerEcho (a0) (a1) (a2) {d : Dev} (h : P d) : P (answerEcho a0 a1 a2 d) := by
  unfold answerEcho
  try dsimp only
  repeat' first
    | (with_reducible first
      | exact h | apply keeps_rxFree hP | apply keeps_respSend hP | apply keeps_ite)
    | split
    | with_reducible apply keeps_rest hP

theorem keeps_answerNs (a0) (a1) (a2) {d : Dev} (h : P d) : P (answerNs a0 a1 a2 d) := by
  unfold answerNs
  try dsimp only
  repeat' first
    | (with_reducible first
      | exact h | apply keeps_respSend hP )

theorem keeps_recount (a0) {d : Dev} (h : P d) : P (recount a0 d) := by
  unfold recount
  try dsimp only
  repeat' first
    | (with_reducible first
      | exact h | assumption | apply keeps_wrN hP)
    | split

theorem keeps_setRamWords (a0) (a1) {d : Dev} (h : P d) : P (setRamWords a0 a1 d) := by
  unfold setRamWords
  repeat' with_reducible first
    | exact h | assumption | apply keeps_setRam hP | apply keeps_foldl | apply keeps_foldlSnd | apply keeps_foldlFst
    | intro _ _ _

theorem keeps_sessStore (a0) (a1) {d : Dev} (h : P d) : P (sessStore a0 a1 d) := by
  unfold sessStore
  repeat' with_reducible first
    | exact h | apply keeps_setRamWords hP | apply keeps_recount hP | apply keeps_journalAdd hP

theorem keeps_setNh (a0) (a1) {d : Dev} (h : P d) : P (setNh a0 a1 d) := by
  unfold setNh
  try dsimp only
  repeat' with_reducible first
    | exact h | assumption | apply keeps_journalAdd hP
    | intro _ _ _ | intro _ _
    | with_reducible apply keeps_rest hP

theorem keeps_sessEnd (a0) {d : Dev} (h : P d) : P (sessEnd a0 d) := by
  unfold sessEnd
  try dsimp only
  repeat' first
    | (with_reducible first
      | exact h | assumption | apply keeps_setNh hP | apply keeps_sessStore hP | apply keeps_ite)

theorem keeps_sessPut (a0) (a1) {d : Dev} (h : P d) : P (sessPut a0 a1 d) := by
  unfold sessPut
  repeat' with_reducible first
    | exact h | apply keeps_sessStore hP

theorem keeps_cancelOne (a0) (a1) {d : Dev} (h : P d) : P (cancelOne a0 a1 d).2 := by
  unfold cancelOne
  try dsimp only
  repeat' first
    | (with_reducible first
      | exact h | apply keeps_sessPut hP | apply keeps_sessEnd hP | apply keeps_ite)
    | split

theorem keeps_denyGrant (a0) (a1) {d : Dev} (h : P d) : P (denyGrant a0 a1 d).2 := by
  unfold denyGrant
  repeat' with_reducible first
    | exact h | apply keeps_svcCnt hP

theorem keeps_onceSec (a0) (a1) {d : Dev} (h : P d) : P (onceSec a0 a1 d) := by
  unfold onceSec
  try dsimp only
  repeat' first
    | (with_reducible first
      | exact h | apply keeps_raise hP | apply keeps_ite)
    | split
    | with_reducible apply keeps_rest hP

theorem keeps_newSession (a0) (a1) (a2) {d e : Dev} (h : P d) (he : newSession a0 a1 a2 d = some e) : P e := by
  unfold newSession at he
  split at he
  · injection he with he
    rw [← he]
    refine keeps_sessPut hP _ _ ?_
    split
    · exact h
    · exact keeps_setNh hP _ _ h
  · cases he

theorem keeps_grantOne (a0) (a1) {d : Dev} (h : P d) : P (grantOne a0 a1 d).2 := by
  unfold grantOne
  extract_lets type logInt dur lim
  clear_value lim
  split
  · exact keeps_denyGrant hP _ _ h
  · split
    · split
      · exact keeps_denyGrant hP _ _ h
      · split
        · rename_i e
          dsimp only
          exact keeps_svcCnt hP _ _ (keeps_newSession hP _ _ _ h e)
        · exact keeps_onceSec hP _ _ (keeps_denyGrant hP _ _ h)
    · extract_lets x y
      clear_value y
      dsimp only
      exact keeps_svcCnt hP _ _ (keeps_sessPut hP _ _ h)

theorem keeps_answerTlvs (a0) (a1) {d : Dev} (h : P d) : P (answerTlvs a0 a1 d).2 := by
  induction a1 generalizing d with
  | nil => exact h
  | cons t ts ih =>
    unfold answerTlvs
    refine ih ?_
    split
    · exact keeps_grantOne hP _ _ h
    · split
      · exact keeps_cancelOne hP _ _ h
      · exact h

theorem keeps_apartStep {d : Dev} (h : P d) : P (apartStep d) := by
  unfold apartStep
  try dsimp only
  repeat' first
    | (with_reducible first
      | exact h | assumption)
    | split
    | intro _ _ _ | intro _ _
    | with_reducible apply keeps_rest hP

theorem keeps_applyEfc {d : Dev} (h : P d) : P (applyEfc d) := by
  unfold applyEfc
  try dsimp only
  repeat' with_reducible first
    | exact h | assumption | apply keeps_setF hP | apply keeps_forEach
    | intro _ _ _ | intro _ _
    | with_reducible apply keeps_rest hP

theorem keeps_sessSeq (a0) (a1) {d : Dev} (h : P d) : P (sessSeq a0 a1 d) := by
  unfold sessSeq
  repeat' with_reducible first
    | exact h | apply keeps_setRamWords hP

theorem keeps_checkEntry (a0) (a1) {d : Dev} (h : P d) : P (checkEntry a0 a1 d) := by
  unfold checkEntry
  try dsimp only
  repeat' with_reducible first
    | exact h | assumption | apply keeps_sessSeq hP | apply keeps_doIf
    | intro _ _ _ | intro _ _

theorem keeps_bndResult (a0) {d : Dev} (h : P d) : P (bndResult a0 d) := by
  unfold bndResult
  try dsimp only
  repeat' first
    | (with_reducible first
      | exact h | apply keeps_ite)
    | split
    | with_reducible apply keeps_rest hP

theorem keeps_itemsEntry (a0) {d : Dev} (h : P d) : P (itemsEntry a0 d) := by
  unfold itemsEntry
  try dsimp only
  repeat' first
    | (with_reducible first
      | exact h | assumption | apply keeps_bndResult hP | apply keeps_modTwn hP | apply keeps_wr hP | apply keeps_doIf | apply keeps_foldl
      | apply keeps_foldlSnd | apply keeps_foldlFst)
    | split
    | intro _ _ _

theorem keeps_modDsg (a0) {d : Dev} (h : P d) : P (modDsg a0 d) := by
  unfold modDsg
  try dsimp only
  repeat' with_reducible first
    | exact h
    | with_reducible apply keeps_rest hP

theorem keeps_qStatus (a0) (a1) (a2) (a3) (a4) {d : Dev} (h : P d) : P (qStatus a0 a1 a2 a3 a4 d) := by
  unfold qStatus
  repeat' with_reducible first
    | exact h | apply keeps_wrN hP

theorem keeps_launchEntry (a0) (a1) (a2) (a3) (a4) {d : Dev} (h : P d) : P (launchEntry a0 a1 a2 a3 a4 d) := by
  unfold launchEntry
  repeat' with_reducible first
    | exact h | assumption | apply keeps_qStatus hP | apply keeps_modDsg hP | apply keeps_wr64 hP | apply keeps_wrN hP | apply keeps_wr hP
    | apply keeps_doIf
    | intro _ _ _ | intro _ _

theorem keeps_seqEntry (a0) (a1) (a2) (a3) {d : Dev} (h : P d) : P (seqEntry a0 a1 a2 a3 d) := by
  unfold seqEntry
  dsimp only
  split
  · refine hP.rest _ _ _ _ _ _ _ _ _ _ _ _ _ _ _ _ _ _ _ _ _ _ _ ?_
    exact keeps_foldlSnd (P := P) (fun w n x hx => keeps_setF hP _ _ (keeps_setF hP _ _ hx)) (d := d) h
  · exact hP.rest _ _ _ _ _ _ _ _ _ _ _ _ _ _ _ _ _ _ _ _ _ _ _ h

theorem keeps_applyRec (a0) (a1) {d : Dev} (h : P d) : P (applyRec a0 a1 d) := by
  unfold applyRec
  try dsimp only
  repeat' first
    | (with_reducible first
      | exact h | assumption | apply keeps_seqEntry hP | apply keeps_launchEntry hP | apply keeps_itemsEntry hP | apply keeps_checkEntry hP
      | apply keeps_setNh hP | apply keeps_sessStore hP | apply keeps_modTwn hP | apply keeps_wrN hP | apply keeps_forEach | apply keeps_doIf
     )
    | split

theorem keeps_applyEpoch (a0) (a1) {d : Dev} (h : P d) : P (applyEpoch a0 a1 d) := by
  unfold applyEpoch
  try dsimp only
  repeat' first
    | (with_reducible first
      | exact h | assumption | apply keeps_applyRec hP | apply keeps_twnCount hP | apply keeps_sendMr hP | apply keeps_modTwn hP
      | apply keeps_wrN hP | apply keeps_forEach)

theorem keeps_applyFixedHidden {d : Dev} (h : P d) : P (applyFixedHidden d) := by
  unfold applyFixedHidden
  try dsimp only
  repeat' with_reducible first
    | exact h | assumption
    | intro _ _ _ | intro _ _
    | with_reducible apply keeps_rest hP

theorem keeps_mapChans (a0) {d : Dev} (h : P d) : P (mapChans a0 d) := by
  unfold mapChans
  try dsimp only
  repeat' with_reducible first
    | exact h | assumption | apply keeps_forEach
    | intro _ _ _ | intro _ _
    | with_reducible apply keeps_rest hP

theorem keeps_applyTerms {d : Dev} (h : P d) : P (applyTerms d) := by
  unfold applyTerms
  try dsimp only
  repeat' with_reducible first
    | exact h | assumption | apply keeps_mapChans hP
    | intro _ _ _ | intro _ _
    | with_reducible apply keeps_rest hP

theorem keeps_checkSat {d : Dev} (h : P d) : P (checkSat d) := by
  unfold checkSat
  try dsimp only
  repeat' first
    | (with_reducible first
      | exact h | apply keeps_setB hP | apply keeps_raise hP | apply keeps_ite)
    | split
    | with_reducible apply keeps_rest hP

theorem keeps_noteSlew {d : Dev} (h : P d) : P (noteSlew d) := by
  unfold noteSlew
  try dsimp only
  repeat' with_reducible first
    | exact h
    | with_reducible apply keeps_rest hP

theorem keeps_regroupAll {d : Dev} (h : P d) : P (regroupAll d) := by
  unfold regroupAll
  try dsimp only
  repeat' first
    | (with_reducible first
      | exact h | apply keeps_noteSlew hP | apply keeps_checkSat hP | apply keeps_mapChans hP | apply keeps_ite)

theorem keeps_tbResult (a0) (a1) {d : Dev} (h : P d) : P (tbResult a0 a1 d) := by
  unfold tbResult
  repeat' with_reducible first
    | exact h | apply keeps_wrN hP

theorem keeps_startSlew {d : Dev} (h : P d) : P (startSlew d) := by
  unfold startSlew
  try dsimp only
  repeat' first
    | (with_reducible first
      | exact h | assumption | apply keeps_tbResult hP | apply keeps_mapChans hP | apply keeps_setB hP)
    | split
    | intro _ _ _ | intro _ _
    | with_reducible apply keeps_rest hP

theorem keeps_applyFreq {d : Dev} (h : P d) : P (applyFreq d) := by
  unfold applyFreq
  repeat' with_reducible first
    | exact h | apply keeps_startSlew hP | apply keeps_regroupAll hP | apply keeps_applyTerms hP

theorem keeps_portLayout (a0) {d : Dev} (h : P d) : P (portLayout a0 d) := by
  unfold portLayout
  try dsimp only
  repeat' first
    | (with_reducible first
      | exact h | apply keeps_setB hP | apply keeps_setF hP | apply keeps_ite)

theorem keeps_applySect (a0) (a1) (a2) {d : Dev} (h : P d) : P (applySect a0 a1 a2 d) := by
  unfold applySect
  try dsimp only
  repeat' with_reducible first
    | exact h | assumption | apply keeps_portLayout hP | apply keeps_setF hP | apply keeps_forEach | apply keeps_doIf
    | intro _ _ _

theorem keeps_applyImage (a0) {d : Dev} (h : P d) : P (applyImage a0 d) := by
  unfold applyImage
  try dsimp only
  repeat' first
    | (with_reducible first
      | exact h | assumption | apply keeps_applySect hP | apply keeps_forEach)
    | split
    | intro _ _ _

theorem keeps_applyLiveHidden {d : Dev} (h : P d) : P (applyLiveHidden d) := by
  unfold applyLiveHidden
  try dsimp only
  repeat' with_reducible first
    | exact h
    | with_reducible apply keeps_rest hP

theorem keeps_limitF {d : Dev} (h : P d) : P (limitF d) := by
  unfold limitF
  repeat' with_reducible first
    | exact h | assumption | apply keeps_mapChans hP

theorem keeps_refreshGains {d : Dev} (h : P d) : P (refreshGains d) := by
  unfold refreshGains
  try dsimp only
  repeat' first
    | (with_reducible first
      | exact h | apply keeps_wrN hP | apply keeps_ite)

theorem keeps_weirDefaults {d : Dev} (h : P d) : P (weirDefaults d) := by
  unfold weirDefaults
  repeat' with_reducible first
    | exact h | assumption | apply keeps_wr hP | apply keeps_doIf
    | intro _ _ _ | intro _ _

theorem keeps_applyLive {d : Dev} (h : P d) : P (applyLive d) := by
  unfold applyLive
  repeat' with_reducible first
    | exact h | apply keeps_weirDefaults hP | apply keeps_refreshGains hP | apply keeps_limitF hP | apply keeps_applyLiveHidden hP
    | apply keeps_applyImage hP

theorem keeps_dropPending {d : Dev} (h : P d) : P (dropPending d) := by
  unfold dropPending
  repeat' with_reducible first
    | exact h | assumption | apply keeps_mapChans hP | apply keeps_setB hP

theorem keeps_shiftTime (a0) {d : Dev} (h : P d) : P (shiftTime a0 d) := by
  unfold shiftTime
  repeat' with_reducible first
    | exact h | assumption | apply keeps_mapChans hP

theorem keeps_applyPending {d : Dev} (h : P d) : P (applyPending d) := by
  unfold applyPending
  try dsimp only
  repeat' first
    | (with_reducible first
      | exact h | assumption | apply keeps_shiftTime hP | apply keeps_dropPending hP | apply keeps_tbResult hP | apply keeps_setB hP
      | apply keeps_raise hP | apply keeps_doIf | apply keeps_ite)
    | split
    | intro _ _ _ | intro _ _
    | with_reducible apply keeps_rest hP

theorem keeps_setRslot (a0) (a1) {d : Dev} (h : P d) : P (setRslot a0 a1 d) := by
  unfold setRslot
  try dsimp only
  repeat' with_reducible first
    | exact h | assumption
    | intro _ _ _ | intro _ _
    | with_reducible apply keeps_rest hP

theorem keeps_slotTo (a0) (a1) (a2) {d : Dev} (h : P d) : P (slotTo a0 a1 a2 d) := by
  unfold slotTo
  try dsimp only
  repeat' first
    | (with_reducible first
      | exact h | assumption | apply keeps_setRslot hP | apply keeps_raise hP | apply keeps_setF hP | apply keeps_doIf | apply keeps_ite
     )
    | split
    | intro _ _ _ | intro _ _
    | with_reducible apply keeps_rest hP

theorem keeps_judgePair (a0) (a1) {d : Dev} (h : P d) : P (judgePair a0 a1 d) := by
  unfold judgePair
  try dsimp only
  repeat' first
    | (with_reducible first
      | exact h | assumption | apply keeps_slotTo hP | apply keeps_forEach | apply keeps_doIf)
    | split
    | intro _ _ _

theorem keeps_setDisagree (a0) {d : Dev} (h : P d) : P (setDisagree a0 d) := by
  unfold setDisagree
  try dsimp only
  repeat' first
    | (with_reducible first
      | exact h | assumption | apply keeps_ite)
    | split
    | intro _ _ _ | intro _ _
    | with_reducible apply keeps_rest hP

theorem keeps_arbitrate (a0) {d : Dev} (h : P d) : P (arbitrate a0 d) := by
  unfold arbitrate
  try dsimp only
  repeat' first
    | (with_reducible first
      | exact h | apply keeps_setDisagree hP | apply keeps_judgePair hP | apply keeps_raise hP | apply keeps_ite)

theorem keeps_archFail (a0) (a1) {d : Dev} (h : P d) : P (archFail a0 a1 d) := by
  unfold archFail
  repeat' with_reducible first
    | exact h | apply keeps_raise hP | apply keeps_setF hP

theorem keeps_archNextPage {d : Dev} (h : P d) : P (archNextPage d) := by
  unfold archNextPage
  try dsimp only
  repeat' first
    | (with_reducible first
      | exact h | apply keeps_setF hP | apply keeps_ite)

theorem keeps_setFlashBytes (a0) (a1) {d : Dev} (h : P d) : P (setFlashBytes a0 a1 d) := by
  unfold setFlashBytes
  repeat' with_reducible first
    | exact h | assumption | apply keeps_setFlash hP | apply keeps_foldl | apply keeps_foldlSnd | apply keeps_foldlFst
    | intro _ _ _

theorem keeps_archProgram (a0) {d : Dev} (h : P d) : P (archProgram a0 d) := by
  unfold archProgram
  repeat' with_reducible first
    | exact h | apply keeps_setFlashBytes hP | apply keeps_archNextPage hP

theorem keeps_lifeAdd (a0) (a1) {d : Dev} (h : P d) : P (lifeAdd a0 a1 d) := by
  unfold lifeAdd
  repeat' with_reducible first
    | exact h | apply keeps_wr64 hP

theorem keeps_putLeap (a0) {d : Dev} (h : P d) : P (putLeap a0 d) := by
  unfold putLeap
  try dsimp only
  repeat' with_reducible first
    | exact h | apply keeps_archProgram hP
    | with_reducible apply keeps_rest hP

theorem keeps_putState {d : Dev} (h : P d) : P (putState d) := by
  unfold putState
  try dsimp only
  repeat' with_reducible first
    | exact h | apply keeps_archProgram hP | apply keeps_wr64 hP
    | with_reducible apply keeps_rest hP

theorem keeps_sectHeader (a0) {d : Dev} (h : P d) : P (sectHeader a0 d) := by
  unfold sectHeader
  exact keeps_lifeAdd hP _ _ (keeps_setFlashBytes hP _ _
    (hP.rest { d with flash := ckeep (fun a => decide (a < archAddr a0 0) || decide (archAddr a0 0 + 65536 ≤ a)) d.flash } _ _ _ _ _ _ _ _ _ _ _ _ _ _ _ _ _ _ _ _ _ _
      (hP.flashKeep d _ h)))

theorem keeps_enterSector (a0) {d : Dev} (h : P d) : P (enterSector a0 d) := by
  unfold enterSector
  try dsimp only
  repeat' first
    | (with_reducible first
      | exact h | assumption | apply keeps_sectHeader hP | apply keeps_putState hP | apply keeps_putLeap hP | apply keeps_lifeAdd hP
      | apply keeps_archFail hP | apply keeps_setF hP | apply keeps_forEach | apply keeps_doIf | apply keeps_ite)
    | split
    | intro _ _ _ | intro _ _
    | with_reducible apply keeps_rest hP

theorem keeps_archReady {d : Dev} (h : P d) : P (archReady d) := by
  unfold archReady
  repeat' with_reducible first
    | exact h | assumption | apply keeps_enterSector hP | apply keeps_doIf

theorem keeps_archSkip (a0) {d : Dev} (h : P d) : P (archSkip a0 d) := by
  unfold archSkip
  try dsimp only
  repeat' first
    | (with_reducible first
      | exact h | assumption | apply keeps_satAdd hP | apply keeps_raise hP | apply keeps_setF hP | apply keeps_doIf)
    | split
    | intro _ _ _ | intro _ _
    | with_reducible apply keeps_rest hP

theorem keeps_archTry (a0) {d : Dev} (h : P d) : P (archTry a0 d) := by
  unfold archTry
  try dsimp only
  repeat' first
    | (with_reducible first
      | exact h | apply keeps_archReady hP | apply keeps_archNextPage hP | apply keeps_archFail hP | apply keeps_ite)

theorem keeps_leapWrite {d : Dev} (h : P d) : P (leapWrite d) := by
  unfold leapWrite
  try dsimp only
  repeat' first
    | (with_reducible first
      | exact h | assumption | apply keeps_archReady hP | apply keeps_putLeap hP | apply keeps_forEach | apply keeps_ite)
    | split
    | intro _ _ _ | intro _ _
    | with_reducible apply keeps_rest hP

theorem keeps_putRecords (a0) (a1) {d : Dev} (h : P d) : P (putRecords a0 a1 d) := by
  unfold putRecords
  try dsimp only
  repeat' first
    | (with_reducible first
      | exact h | assumption | apply keeps_archTry hP | apply keeps_archProgram hP | apply keeps_ite)

theorem keeps_recordPage (a0) {d : Dev} (h : P d) : P (recordPage a0 d) := by
  unfold recordPage
  try dsimp only
  repeat' first
    | (with_reducible first
      | exact h | assumption | apply keeps_putRecords hP | apply keeps_archSkip hP | apply keeps_reportUnit hP | apply keeps_raise hP
      | apply keeps_wrN hP | apply keeps_setF hP | apply keeps_forEach | apply keeps_ite)
    | split
    | intro _ _ _ | intro _ _
    | with_reducible apply keeps_rest hP

theorem keeps_archiveFlushF (a0) {d : Dev} (h : P d) : P (archiveFlushF a0 d) := by
  unfold archiveFlushF
  repeat' with_reducible first
    | exact h | assumption | apply keeps_recordPage hP | apply keeps_leapWrite hP | apply keeps_doIf
    | intro _ _ _ | intro _ _

theorem keeps_tbRefuse (a0) (a1) {d : Dev} (h : P d) : P (tbRefuse a0 a1 d) := by
  unfold tbRefuse
  repeat' with_reducible first
    | exact h | apply keeps_tbResult hP | apply keeps_raise hP

theorem keeps_armSet {d : Dev} (h : P d) : P (armSet d) := by
  unfold armSet
  try dsimp only
  repeat' first
    | (with_reducible first
      | exact h | assumption | apply keeps_tbRefuse hP | apply keeps_mapChans hP | apply keeps_setB hP | apply keeps_ite)
    | split
    | intro _ _ _ | intro _ _
    | with_reducible apply keeps_rest hP

theorem keeps_armStep (a0) {d : Dev} (h : P d) : P (armStep a0 d) := by
  unfold armStep
  try dsimp only
  repeat' first
    | (with_reducible first
      | exact h | assumption | apply keeps_tbRefuse hP | apply keeps_mapChans hP | apply keeps_setB hP | apply keeps_ite)
    | split
    | intro _ _ _ | intro _ _
    | with_reducible apply keeps_rest hP

theorem keeps_forgetAuto (a0) {d : Dev} (h : P d) : P (forgetAuto a0 d) := by
  unfold forgetAuto
  try dsimp only
  repeat' with_reducible first
    | exact h | assumption
    | intro _ _ _ | intro _ _
    | with_reducible apply keeps_rest hP

theorem keeps_pllResult (a0) (a1) {d : Dev} (h : P d) : P (pllResult a0 a1 d) := by
  unfold pllResult
  repeat' with_reducible first
    | exact h | apply keeps_setF hP

theorem keeps_touchHop (a0) (a1) {d : Dev} (h : P d) : P (touchHop a0 a1 d) := by
  unfold touchHop
  try dsimp only
  repeat' with_reducible first
    | exact h | assumption | apply keeps_setSpll hP

theorem keeps_seekPll (a0) (a1) {d : Dev} (h : P d) : P (seekPll a0 a1 d) := by
  unfold seekPll
  try dsimp only
  repeat' first
    | (with_reducible first
      | exact h | apply keeps_touchHop hP | apply keeps_setSpll hP | apply keeps_pllTo hP | apply keeps_wrN hP | apply keeps_setF hP
     )
    | split

theorem keeps_startPll (a0) {d : Dev} (h : P d) : P (startPll a0 d) := by
  unfold startPll
  try dsimp only
  repeat' first
    | (with_reducible first
      | exact h | apply keeps_seekPll hP | apply keeps_pllResult hP | apply keeps_forgetAuto hP | apply keeps_ite)
    | split

theorem keeps_autoStart (a0) {d : Dev} (h : P d) : P (autoStart a0 d) := by
  unfold autoStart
  repeat' with_reducible first
    | exact h | assumption | apply keeps_startPll hP | apply keeps_doIf

theorem keeps_avsF (a0) (a1) {d : Dev} (h : P d) : P (avsF a0 a1 d) := by
  unfold avsF
  try dsimp only
  repeat' first
    | (with_reducible first
      | exact h | assumption | apply keeps_setF hP | apply keeps_doIf )

theorem keeps_bandParityF (a0) (a1) {d : Dev} (h : P d) : P (bandParityF a0 a1 d) := by
  unfold bandParityF
  try dsimp only
  repeat' with_reducible first
    | exact h | assumption | apply keeps_reportUnit hP | apply keeps_raise hP | apply keeps_setF hP | apply keeps_doIf
    | intro _ _ _ | intro _ _

theorem keeps_writeHop (a0) (a1) (a2) (a3) {d : Dev} (h : P d) : P (writeHop a0 a1 a2 a3 d) := by
  unfold writeHop
  try dsimp only
  repeat' first
    | (with_reducible first
      | exact h | apply keeps_touchHop hP | apply keeps_wrN hP | apply keeps_setF hP)
    | split

theorem keeps_bandSearchF (a0) (a1) {d : Dev} (h : P d) : P (bandSearchF a0 a1 d) := by
  unfold bandSearchF
  try dsimp only
  repeat' first
    | (with_reducible first
      | exact h | apply keeps_writeHop hP | apply keeps_pllResult hP | apply keeps_offPll hP | apply keeps_pllTo hP | apply keeps_reportUnit hP
      | apply keeps_raise hP | apply keeps_wrN hP | apply keeps_setF hP | apply keeps_ite)
    | split

theorem keeps_dsgCause (a0) {d : Dev} (h : P d) : P (dsgCause a0 d) := by
  unfold dsgCause
  repeat' with_reducible first
    | exact h | apply keeps_setF hP

theorem keeps_setHeld (a0) (a1) (a2) {d : Dev} (h : P d) : P (setHeld a0 a1 a2 d) := hP.held d _ _ h

theorem keeps_commit64 (a0) (a1) (a2) {d : Dev} (h : P d) : P (commit64 a0 a1 a2 d) := by
  unfold commit64
  try dsimp only
  repeat' first
    | (with_reducible first
      | exact h | apply keeps_setHeld hP | apply keeps_wr hP)
    | split

theorem keeps_rwpRefuse (a0) (a1) {d : Dev} (h : P d) : P (rwpRefuse a0 a1 d) := by
  unfold rwpRefuse
  repeat' with_reducible first
    | exact h | apply keeps_satAdd hP | apply keeps_raise hP | apply keeps_setF hP

theorem keeps_rwpGuard (a0) (a1) (a2) {d : Dev} (h : P d) : P (rwpGuard a0 a1 a2 d) := by
  unfold rwpGuard
  try dsimp only
  repeat' first
    | (with_reducible first
      | exact h | assumption | apply keeps_rwpRefuse hP | apply keeps_doIf)
    | split

theorem keeps_fieldWrite (a0) (a1) (a2) {d : Dev} (h : P d) : P (fieldWrite a0 a1 a2 d) := by
  unfold fieldWrite
  try dsimp only
  repeat' first
    | (with_reducible first
      | exact h | apply keeps_rwpGuard hP | apply keeps_commit64 hP | apply keeps_setHeld hP | apply keeps_wr hP | apply keeps_ite
     )
    | split

theorem keeps_bcnPeriodF (a0) (a1) {d : Dev} (h : P d) : P (bcnPeriodF a0 a1 d) := by
  unfold bcnPeriodF
  try dsimp only
  repeat' first
    | (with_reducible first
      | exact h | apply keeps_fieldWrite hP | apply keeps_dsgCause hP | apply keeps_ite)

theorem keeps_dsgCoord {d : Dev} (h : P d) : P (dsgCoord d) := by
  unfold dsgCoord
  repeat' with_reducible first
    | exact h | apply keeps_setB hP

theorem keeps_dsgLinkTo (a0) {d : Dev} (h : P d) : P (dsgLinkTo a0 d) := by
  unfold dsgLinkTo
  try dsimp only
  repeat' first
    | (with_reducible first
      | exact h | assumption | apply keeps_rxCut hP | apply keeps_raise hP | apply keeps_setF hP | apply keeps_doIf | apply keeps_ite
     )

theorem keeps_endCycle {d : Dev} (h : P d) : P (endCycle d) := by
  unfold endCycle
  repeat' with_reducible first
    | exact h | assumption | apply keeps_modDsg hP | apply keeps_wrN hP

theorem keeps_dsgApply (a0) {d : Dev} (h : P d) : P (dsgApply a0 d) := by
  unfold dsgApply
  try dsimp only
  repeat' first
    | (with_reducible first
      | exact h | assumption | apply keeps_endCycle hP | apply keeps_dsgLinkTo hP | apply keeps_dsgCoord hP | apply keeps_modDsg hP
      | apply keeps_wr hP | apply keeps_ite)

theorem keeps_cycleEnds {d : Dev} (h : P d) : P (cycleEnds d) := by
  unfold cycleEnds
  try dsimp only
  repeat' first
    | (with_reducible first
      | exact h | assumption | apply keeps_dsgApply hP | apply keeps_modDsg hP)
    | split

theorem keeps_beaconReceived (a0) (a1) {d : Dev} (h : P d) : P (beaconReceived a0 a1 d) := by
  unfold beaconReceived
  try dsimp only
  repeat' first
    | (with_reducible first
      | exact h | assumption | apply keeps_cycleEnds hP | apply keeps_dsgLinkTo hP | apply keeps_modDsg hP | apply keeps_wr64 hP | apply keeps_doIf
      | apply keeps_ite)
    | split
    | intro _ _ _ | intro _ _

theorem keeps_beaconStart {d : Dev} (h : P d) : P (beaconStart d) := by
  unfold beaconStart
  try dsimp only
  repeat' first
    | (with_reducible first
      | exact h | assumption | apply keeps_dsgLinkTo hP | apply keeps_dsgCoord hP | apply keeps_modDsg hP | apply keeps_dsgCnt hP
      | apply keeps_wrN hP | apply keeps_doIf | apply keeps_ite)

theorem keeps_modDch (a0) (a1) {d : Dev} (h : P d) : P (modDch a0 a1 d) := by
  unfold modDch
  try dsimp only
  repeat' with_reducible first
    | exact h | assumption
    | intro _ _ _ | intro _ _
    | with_reducible apply keeps_rest hP

theorem keeps_beatDone (a0) (a1) {d : Dev} (h : P d) : P (beatDone a0 a1 d) := by
  unfold beatDone
  repeat' with_reducible first
    | exact h | assumption | apply keeps_modDch hP | apply keeps_pmcAdd hP

theorem keeps_dmaParkOp (a0) (a1) (a2) (a3) (a4) {d : Dev} (h : P d) : P (dmaParkOp a0 a1 a2 a3 a4 d) := by
  unfold dmaParkOp
  try dsimp only
  repeat' first
    | (with_reducible first
      | exact h | assumption | apply keeps_modDch hP | apply keeps_raise hP | apply keeps_wr64 hP | apply keeps_wrN hP | apply keeps_setF hP
      )

theorem keeps_hifErr (a0) (a1) {d : Dev} (h : P d) : P (hifErr a0 a1 d) := by
  unfold hifErr
  try dsimp only
  repeat' with_reducible first
    | exact h | assumption | apply keeps_setF hP | apply keeps_doIf

theorem keeps_offAccess (a0) (a1) {d : Dev} (h : P d) : P (offAccess a0 a1 d) := by
  unfold offAccess
  try dsimp only
  repeat' first
    | (with_reducible first
      | exact h | assumption | apply keeps_hifErr hP | apply keeps_satAdd hP | apply keeps_raise hP | apply keeps_setF hP | apply keeps_ite
     )
    | split
    | intro _ _ _ | intro _ _
    | with_reducible apply keeps_rest hP

theorem keeps_ownedErr (a0) (a1) {d : Dev} (h : P d) : P (ownedErr a0 a1 d) := by
  unfold ownedErr
  repeat' with_reducible first
    | exact h | apply keeps_hifErr hP | apply keeps_raise hP

theorem keeps_obsRefuse (a0) (a1) {d : Dev} (h : P d) : P (obsRefuse a0 a1 d) := by
  unfold obsRefuse
  try dsimp only
  repeat' first
    | (with_reducible first
      | exact h | apply keeps_ownedErr hP | apply keeps_offAccess hP | apply keeps_hifErr hP | apply keeps_satAdd hP | apply keeps_raise hP
      | apply keeps_ite)
    | split

theorem keeps_ctlResult (a0) {d : Dev} (h : P d) : P (ctlResult a0 d) := by
  unfold ctlResult
  repeat' with_reducible first
    | exact h | apply keeps_setF hP

theorem keeps_coreCmd (a0) (a1) (a2) (h2 : ∀ x, P x → P (a2 x)) {d : Dev} (h : P d) : P (coreCmd a0 a1 a2 d) := by
  unfold coreCmd
  try dsimp only
  repeat' first
    | (with_reducible first
      | exact h | apply h2 | apply keeps_ctlResult hP | apply keeps_ite)

theorem keeps_modCore (a0) (a1) {d : Dev} (h : P d) : P (modCore a0 a1 d) := by
  unfold modCore
  try dsimp only
  repeat' with_reducible first
    | exact h | assumption
    | intro _ _ _ | intro _ _
    | with_reducible apply keeps_rest hP

theorem keeps_setCore (a0) (a1) {d : Dev} (h : P d) : P (setCore a0 a1 d) := by
  unfold setCore
  try dsimp only
  repeat' first
    | (with_reducible first
      | exact h | assumption | apply keeps_modCore hP | apply keeps_setB hP | apply keeps_raise hP | apply keeps_setF hP | apply keeps_doIf
      | apply keeps_ite)

theorem keeps_coreHaltOp (a0) (a1) {d : Dev} (h : P d) : P (coreHaltOp a0 a1 d) := by
  unfold coreHaltOp
  repeat' with_reducible first
    | exact h | assumption | apply keeps_setCore hP | apply keeps_coreCmd hP | apply keeps_ctlResult hP | apply keeps_forEach
    | intro _ _ _ | intro _ _

theorem keeps_coreReadmitOp (a0) (a1) {d : Dev} (h : P d) : P (coreReadmitOp a0 a1 d) := by
  unfold coreReadmitOp
  repeat' with_reducible first
    | exact h | assumption | apply keeps_coreCmd hP | apply keeps_modUnit hP

theorem keeps_startCore (a0) (a1) {d : Dev} (h : P d) : P (startCore a0 a1 d) := by
  unfold startCore
  repeat' with_reducible first
    | exact h | assumption | apply keeps_setCore hP | apply keeps_modCore hP | apply keeps_setF hP

theorem keeps_coreStartOp (a0) (a1) {d : Dev} (h : P d) : P (coreStartOp a0 a1 d) := by
  unfold coreStartOp
  repeat' with_reducible first
    | exact h | assumption | apply keeps_startCore hP | apply keeps_coreCmd hP | apply keeps_ctlResult hP | apply keeps_forEach
    | intro _ _ _ | intro _ _

theorem keeps_onBit (a0) (a1) (a2) (h2 : ∀ x, P x → P (a2 x)) {d : Dev} (h : P d) : P (onBit a0 a1 a2 d) := by
  unfold onBit
  repeat' with_reducible first
    | exact h | assumption | apply h2 | apply keeps_doIf

theorem keeps_coreCmdF (a0) (a1) (a2) {d : Dev} (h : P d) : P (coreCmdF a0 a1 a2 d) := by
  unfold coreCmdF
  repeat' with_reducible first
    | exact h | apply keeps_onBit hP | apply keeps_coreStartOp hP | apply keeps_coreReadmitOp hP | apply keeps_coreHaltOp hP

theorem keeps_coreTimerWrite (a0) (a1) (a2) {d : Dev} (h : P d) : P (coreTimerWrite a0 a1 a2 d) := by
  unfold coreTimerWrite
  repeat' with_reducible first
    | exact h | assumption | apply keeps_modCore hP | apply keeps_commit64 hP

theorem keeps_dmaActivate (a0) {d : Dev} (h : P d) : P (dmaActivate a0 d) := by
  unfold dmaActivate
  repeat' with_reducible first
    | exact h | assumption | apply keeps_setF hP | apply keeps_doIf

theorem keeps_dmaCredit (a0) {d : Dev} (h : P d) : P (dmaCredit a0 d) := by
  unfold dmaCredit
  try dsimp only
  repeat' first
    | (with_reducible first
      | exact h | assumption | apply keeps_modDch hP | apply keeps_jobDone hP | apply keeps_crdMove hP)
    | split

theorem keeps_tokGive (a0) (a1) {d : Dev} (h : P d) : P (tokGive a0 a1 d) := by
  unfold tokGive
  try dsimp only
  repeat' with_reducible first
    | exact h | apply keeps_setF hP

theorem keeps_dmaDisable (a0) {d : Dev} (h : P d) : P (dmaDisable a0 d) := by
  unfold dmaDisable
  repeat' with_reducible first
    | exact h | assumption | apply keeps_tokGive hP | apply keeps_dmaCredit hP | apply keeps_modDch hP | apply keeps_setF hP

theorem keeps_dmaCfgOp (a0) (a1) (a2) {d : Dev} (h : P d) : P (dmaCfgOp a0 a1 a2 d) := by
  unfold dmaCfgOp
  try dsimp only
  repeat' first
    | (with_reducible first
      | exact h | assumption | apply keeps_dmaDisable hP | apply keeps_dmaActivate hP | apply keeps_fieldWrite hP | apply keeps_doIf
      | apply keeps_ite)

theorem keeps_dmaPop (a0) {d : Dev} (h : P d) : P (dmaPop a0 d) := by
  unfold dmaPop
  try dsimp only
  repeat' with_reducible first
    | exact h | assumption | apply keeps_tokGive hP | apply keeps_dmaCredit hP | apply keeps_modDch hP | apply keeps_setF hP

theorem keeps_dmaXlat (a0) (a1) (a2) {d : Dev} (h : P d) : P (dmaXlat a0 a1 a2 d).2 := by
  unfold dmaXlat
  try dsimp only
  repeat' with_reducible first
    | exact h | assumption | apply keeps_modDch hP | apply keeps_draw hP | apply keeps_pmcAdd hP | apply keeps_doIf

theorem keeps_storeStatus (a0) (a1) {d : Dev} (h : P d) : P (storeStatus a0 a1 d) := by
  unfold storeStatus
  try dsimp only
  repeat' first
    | (with_reducible first
      | exact h | apply keeps_dmaXlat hP | apply keeps_setRam hP | apply keeps_ite)
    | split

theorem keeps_dmaRetire (a0) (a1) (a2) {d : Dev} (h : P d) : P (dmaRetire a0 a1 a2 d) := by
  unfold dmaRetire
  try dsimp only
  repeat' first
    | (with_reducible first
      | exact h | assumption | apply keeps_storeStatus hP | apply keeps_dmaPop hP | apply keeps_raise hP | apply keeps_doIf
     )

theorem keeps_dmaAbortOp (a0) {d : Dev} (h : P d) : P (dmaAbortOp a0 d) := by
  unfold dmaAbortOp
  repeat' with_reducible first
    | exact h | assumption | apply keeps_dmaRetire hP | apply keeps_setF hP | apply keeps_forEach
    | intro _ _ _

theorem keeps_dmaCmd (a0) (a1) (h1 : ∀ x, P x → P (a1 x)) {d : Dev} (h : P d) : P (dmaCmd a0 a1 d) := by
  unfold dmaCmd
  try dsimp only
  repeat' first
    | (with_reducible first
      | exact h | apply h1 | apply keeps_ctlResult hP | apply keeps_ite)

theorem keeps_dmaAbortCmd (a0) {d : Dev} (h : P d) : P (dmaAbortCmd a0 d) := by
  unfold dmaAbortCmd
  repeat' with_reducible first
    | exact h | apply keeps_dmaCmd hP | apply keeps_dmaAbortOp hP

theorem keeps_dmaPauseOp (a0) {d : Dev} (h : P d) : P (dmaPauseOp a0 d) := by
  unfold dmaPauseOp
  repeat' with_reducible first
    | exact h | apply keeps_dmaCmd hP | apply keeps_setF hP

theorem keeps_dmaResumeOp (a0) {d : Dev} (h : P d) : P (dmaResumeOp a0 d) := by
  unfold dmaResumeOp
  repeat' with_reducible first
    | exact h | apply keeps_dmaCmd hP | apply keeps_setF hP

theorem keeps_dmaGoOn (a0) {d : Dev} (h : P d) : P (dmaGoOn a0 d) := by
  unfold dmaGoOn
  try dsimp only
  repeat' first
    | (with_reducible first
      | exact h | apply keeps_setF hP )

theorem keeps_dmaSkipOp (a0) {d : Dev} (h : P d) : P (dmaSkipOp a0 d) := by
  unfold dmaSkipOp
  repeat' with_reducible first
    | exact h | assumption | apply keeps_dmaGoOn hP | apply keeps_dmaCmd hP | apply keeps_dmaRetire hP
    | intro _ _ _ | intro _ _

theorem keeps_dmaCmdF (a0) (a1) {d : Dev} (h : P d) : P (dmaCmdF a0 a1 d) := by
  unfold dmaCmdF
  repeat' with_reducible first
    | exact h | apply keeps_dmaSkipOp hP | apply keeps_dmaResumeOp hP | apply keeps_dmaPauseOp hP | apply keeps_dmaAbortCmd hP
    | apply keeps_onBit hP

theorem keeps_dmaHeadOp (a0) (a1) {d : Dev} (h : P d) : P (dmaHeadOp a0 a1 d) := by
  unfold dmaHeadOp
  repeat' with_reducible first
    | exact h | apply keeps_dmaActivate hP | apply keeps_setF hP

theorem keeps_modGroup (a0) (a1) {d : Dev} (h : P d) : P (modGroup a0 a1 d) := by
  unfold modGroup
  repeat' with_reducible first
    | exact h | assumption | apply keeps_modCore hP | apply keeps_forEach
    | intro _ _ _

theorem keeps_kickCore (a0) {d : Dev} (h : P d) : P (kickCore a0 d) := by
  unfold kickCore
  repeat' with_reducible first
    | exact h | assumption | apply keeps_modGroup hP

theorem keeps_kickF (a0) (a1) (a2) {d : Dev} (h : P d) : P (kickF a0 a1 a2 d) := by
  unfold kickF
  repeat' with_reducible first
    | exact h | assumption | apply keeps_kickCore hP | apply keeps_doIf

theorem keeps_lockstepOp (a0) {d : Dev} (h : P d) : P (lockstepOp a0 d) := by
  unfold lockstepOp
  try dsimp only
  repeat' first
    | (with_reducible first
      | exact h | apply keeps_ctlResult hP | apply keeps_setB hP | apply keeps_ite)

theorem keeps_reloadRefuse (a0) (a1) {d : Dev} (h : P d) : P (reloadRefuse a0 a1 d) := by
  unfold reloadRefuse
  repeat' with_reducible first
    | exact h | apply keeps_raise hP | apply keeps_setF hP

theorem keeps_pageReloadOp {d : Dev} (h : P d) : P (pageReloadOp d) := by
  unfold pageReloadOp
  try dsimp only
  repeat' first
    | (with_reducible first
      | exact h | assumption | apply keeps_reloadRefuse hP | apply keeps_setRamWords hP | apply keeps_raise hP | apply keeps_setF hP
      | apply keeps_ite)
    | split

theorem keeps_tlbInvOp (a0) {d : Dev} (h : P d) : P (tlbInvOp a0 d) := by
  unfold tlbInvOp
  try dsimp only
  repeat' with_reducible first
    | exact h | assumption | apply keeps_modCore hP | apply keeps_modDch hP | apply keeps_forEach
    | intro _ _ _

theorem keeps_writeCtl (a0) (a1) (a2) {d : Dev} (h : P d) : P (writeCtl a0 a1 a2 d) := by
  unfold writeCtl
  try dsimp only
  repeat' first
    | (with_reducible first
      | exact h | assumption | apply keeps_tlbInvOp hP | apply keeps_pageReloadOp hP | apply keeps_lockstepOp hP | apply keeps_kickF hP
      | apply keeps_dmaHeadOp hP | apply keeps_dmaCmdF hP | apply keeps_dmaCfgOp hP | apply keeps_coreTimerWrite hP | apply keeps_coreCmdF hP
      | apply keeps_onBit hP | apply keeps_fieldWrite hP | apply keeps_ite)
    | split
    | intro _ _ _ | intro _ _

end Sys2Proof.Laws
end

