-- ==== Sys2Proof/Laws/KeepsB.lean ====
section
/-! SUPPORT. What the operations do to the addressed stores, part 2 of 4 (`dsgModeF` to `plainRead`, each after the operations it
calls): a property of devices that the primitive writes keep (`Closed`) is kept by the operation. -/

namespace Sys2Proof.Laws

set_option Elab.async false

open Sys2Proof Sys2Proof.Machine

variable {P : Dev → Prop} (hP : Closed P)
include hP

theorem keeps_dsgModeF (a0) {d : Dev} (h : P d) : P (dsgModeF a0 d) := by
  unfold dsgModeF
  try dsimp only
  repeat' first
    | (with_reducible first
      | exact h | assumption | apply keeps_dsgApply hP | apply keeps_dsgCause hP | apply keeps_modDsg hP | apply keeps_wr hP | apply keeps_ite
     )
    | split

theorem keeps_qPut (a0) {d : Dev} (h : P d) : P (qPut a0 d) := by
  unfold qPut
  try dsimp only
  repeat' with_reducible first
    | exact h | assumption | apply keeps_qStatus hP | apply keeps_journalAdd hP | apply keeps_doIf

theorem keeps_queueEntry (a0) (a1) {d : Dev} (h : P d) : P (queueEntry a0 a1 d) := by
  unfold queueEntry
  try dsimp only
  repeat' first
    | (with_reducible first
      | exact h | apply keeps_qPut hP | apply keeps_commit64 hP | apply keeps_dsgCause hP | apply keeps_ite)

theorem keeps_dsgQReg (a0) (a1) (a2) {d : Dev} (h : P d) : P (dsgQReg a0 a1 a2 d) := by
  unfold dsgQReg
  try dsimp only
  repeat' first
    | (with_reducible first
      | exact h | assumption | apply keeps_queueEntry hP | apply keeps_fieldWrite hP | apply keeps_dsgCause hP | apply keeps_modDsg hP
      | apply keeps_ite)

theorem keeps_writeDsg (a0) (a1) (a2) {d : Dev} (h : P d) : P (writeDsg a0 a1 a2 d) := by
  unfold writeDsg
  try dsimp only
  repeat' first
    | (with_reducible first
      | exact h | apply keeps_dsgQReg hP | apply keeps_dsgModeF hP | apply keeps_bcnPeriodF hP | apply keeps_fieldWrite hP | apply keeps_ite
     )

theorem keeps_maskWrite (a0) (a1) {d : Dev} (h : P d) : P (maskWrite a0 a1 d) := by
  unfold maskWrite
  try dsimp only
  repeat' first
    | (with_reducible first
      | exact h | apply keeps_wr hP )

theorem keeps_pendWrite (a0) (a1) {d : Dev} (h : P d) : P (pendWrite a0 a1 d) := by
  unfold pendWrite
  try dsimp only
  repeat' with_reducible first
    | exact h | assumption
    | intro _ _ _ | intro _ _
    | with_reducible apply keeps_rest hP

theorem keeps_setSrcTarget (a0) (a1) {d : Dev} (h : P d) : P (setSrcTarget a0 a1 d) := by
  unfold setSrcTarget
  repeat' with_reducible first
    | exact h | apply keeps_setF hP

theorem keeps_retarget (a0) (a1) {d : Dev} (h : P d) : P (retarget a0 a1 d) := by
  unfold retarget
  try dsimp only
  repeat' first
    | (with_reducible first
      | exact h | apply keeps_setSrcTarget hP | apply keeps_setF hP | apply keeps_ite)

theorem keeps_retargetWriteF (a0) {d : Dev} (h : P d) : P (retargetWriteF a0 d) := by
  unfold retargetWriteF
  try dsimp only
  repeat' first
    | (with_reducible first
      | exact h | apply keeps_retarget hP | apply keeps_setF hP | apply keeps_ite)

theorem keeps_srcTgtWriteF (a0) (a1) {d : Dev} (h : P d) : P (srcTgtWriteF a0 a1 d) := by
  unfold srcTgtWriteF
  repeat' with_reducible first
    | exact h | assumption | apply keeps_retarget hP | apply keeps_setF hP | apply keeps_forEach | apply keeps_doIf
    | intro _ _ _

theorem keeps_startTimer (a0) {d : Dev} (h : P d) : P (startTimer a0 d) := by
  unfold startTimer
  try dsimp only
  repeat' with_reducible first
    | exact h | assumption
    | intro _ _ _ | intro _ _
    | with_reducible apply keeps_rest hP

theorem keeps_moveRead (a0) (a1) {d : Dev} (h : P d) : P (moveRead a0 a1 d) := by
  unfold moveRead
  try dsimp only
  repeat' first
    | (with_reducible first
      | exact h | assumption | apply keeps_startTimer hP | apply keeps_setF hP | apply keeps_ite)
    | split
    | intro _ _ _ | intro _ _
    | with_reducible apply keeps_rest hP

theorem keeps_tgtRdWriteF (a0) (a1) {d : Dev} (h : P d) : P (tgtRdWriteF a0 a1 d) := by
  unfold tgtRdWriteF
  try dsimp only
  repeat' first
    | (with_reducible first
      | exact h | apply keeps_moveRead hP | apply keeps_setF hP | apply keeps_ite)

theorem keeps_writeEvq (a0) (a1) (a2) {d : Dev} (h : P d) : P (writeEvq a0 a1 a2 d) := by
  unfold writeEvq
  try dsimp only
  repeat' first
    | (with_reducible first
      | exact h | apply keeps_tgtRdWriteF hP | apply keeps_srcTgtWriteF hP | apply keeps_retargetWriteF hP | apply keeps_pendWrite hP
      | apply keeps_maskWrite hP | apply keeps_fieldWrite hP | apply keeps_setF hP | apply keeps_ite)
    | split

theorem keeps_injEvent (a0) (a1) {d : Dev} (h : P d) : P (injEvent a0 a1 d) := by
  unfold injEvent
  repeat' with_reducible first
    | exact h | apply keeps_raise hP

theorem keeps_injEnd {d : Dev} (h : P d) : P (injEnd d) := by
  unfold injEnd
  try dsimp only
  repeat' first
    | (with_reducible first
      | exact h | apply keeps_injEvent hP)
    | split
    | with_reducible apply keeps_rest hP

theorem keeps_injGo (a0) {d : Dev} (h : P d) : P (injGo a0 d) := by
  unfold injGo
  try dsimp only
  repeat' first
    | (with_reducible first
      | exact h | assumption | apply keeps_injEnd hP | apply keeps_injEvent hP | apply keeps_rwpRefuse hP | apply keeps_setF hP | apply keeps_doIf
      | apply keeps_ite)
    | split
    | intro _ _ _ | intro _ _
    | with_reducible apply keeps_rest hP

theorem keeps_readmitF (a0) {d : Dev} (h : P d) : P (readmitF a0 d) := by
  unfold readmitF
  try dsimp only
  repeat' first
    | (with_reducible first
      | exact h | assumption | apply keeps_modUnit hP | apply keeps_setF hP | apply keeps_doIf | apply keeps_ite)
    | split
    | intro _ _ _ | intro _ _
    | with_reducible apply keeps_rest hP

theorem keeps_writeFlt (a0) (a1) (a2) {d : Dev} (h : P d) : P (writeFlt a0 a1 a2 d) := by
  unfold writeFlt
  try dsimp only
  repeat' first
    | (with_reducible first
      | exact h | assumption | apply keeps_readmitF hP | apply keeps_injGo hP | apply keeps_injEnd hP | apply keeps_onBit hP
      | apply keeps_fieldWrite hP | apply keeps_ite)
    | split
    | intro _ _ _ | intro _ _

theorem keeps_gnRequests {d : Dev} (h : P d) : P (gnRequests d) := by
  unfold gnRequests
  try dsimp only
  repeat' first
    | (with_reducible first
      | exact h | assumption | apply keeps_postReq hP | apply keeps_reqDisable hP | apply keeps_wr64 hP | apply keeps_forEach | apply keeps_ite
     )
    | split
    | intro _ _ _

theorem keeps_epochCtlF (a0) (a1) {d : Dev} (h : P d) : P (epochCtlF a0 a1 d) := by
  unfold epochCtlF
  repeat' with_reducible first
    | exact h | apply keeps_gnRequests hP | apply keeps_fieldWrite hP | apply keeps_alignGn hP

theorem keeps_fwOnly (a0) (a1) (h1 : ∀ x, P x → P (a1 x)) {d : Dev} (h : P d) : P (fwOnly a0 a1 d) := by
  unfold fwOnly
  try dsimp only
  repeat' first
    | (with_reducible first
      | exact h | apply h1 | apply keeps_gnResult hP | apply keeps_ite)

theorem keeps_setGch (a0) (a1) {d : Dev} (h : P d) : P (setGch a0 a1 d) := by
  unfold setGch
  try dsimp only
  repeat' with_reducible first
    | exact h | assumption
    | intro _ _ _ | intro _ _
    | with_reducible apply keeps_rest hP

theorem keeps_ncoCommitF (a0) (a1) (a2) (a3) {d : Dev} (h : P d) : P (ncoCommitF a0 a1 a2 a3 d) := by
  unfold ncoCommitF
  try dsimp only
  repeat' first
    | (with_reducible first
      | exact h | assumption | apply keeps_setGch hP | apply keeps_fieldWrite hP | apply keeps_commit64 hP | apply keeps_doIf
     )
    | split

theorem keeps_gnCount {d : Dev} (h : P d) : P (gnCount d) := by
  unfold gnCount
  try dsimp only
  repeat' with_reducible first
    | exact h | assumption | apply keeps_setF hP

theorem keeps_stallCh (a0) {d : Dev} (h : P d) : P (stallCh a0 d) := by
  unfold stallCh
  repeat' with_reducible first
    | exact h | apply keeps_raise hP | apply keeps_setF hP

theorem keeps_startCh (a0) {d : Dev} (h : P d) : P (startCh a0 d) := by
  unfold startCh
  try dsimp only
  repeat' first
    | (with_reducible first
      | exact h | apply keeps_stallCh hP | apply keeps_gnCount hP | apply keeps_setGch hP | apply keeps_gnResult hP | apply keeps_setB hP
      | apply keeps_setF hP | apply keeps_ite)

theorem keeps_stopCh (a0) {d : Dev} (h : P d) : P (stopCh a0 d) := by
  unfold stopCh
  repeat' with_reducible first
    | exact h | apply keeps_gnCount hP | apply keeps_gnResult hP | apply keeps_setF hP

theorem keeps_gnChReg (a0) (a1) (a2) (a3) {d : Dev} (h : P d) : P (gnChReg a0 a1 a2 a3 d) := by
  unfold gnChReg
  try dsimp only
  repeat' first
    | (with_reducible first
      | exact h | apply keeps_stopCh hP | apply keeps_startCh hP | apply keeps_ncoCommitF hP | apply keeps_onBit hP | apply keeps_fieldWrite hP
      | apply keeps_ite)

theorem keeps_feedDrop (a0) (a1) {d : Dev} (h : P d) : P (feedDrop a0 a1 d) := by
  unfold feedDrop
  repeat' with_reducible first
    | exact h | apply keeps_gnResult hP | apply keeps_satAdd hP | apply keeps_raise hP

theorem keeps_refSlew (a0) {d : Dev} (h : P d) : P (refSlew a0 d) := by
  unfold refSlew
  try dsimp only
  repeat' with_reducible first
    | exact h
    | with_reducible apply keeps_rest hP

theorem keeps_refStepRefused {d : Dev} (h : P d) : P (refStepRefused d) := by
  unfold refStepRefused
  try dsimp only
  repeat' first
    | (with_reducible first
      | exact h | apply keeps_raise hP)
    | split
    | with_reducible apply keeps_rest hP

theorem keeps_phaseAction (a0) {d : Dev} (h : P d) : P (phaseAction a0 d) := by
  unfold phaseAction
  try dsimp only
  repeat' first
    | (with_reducible first
      | exact h | apply keeps_refStepRefused hP | apply keeps_refSlew hP | apply keeps_armStep hP | apply keeps_ite)
    | split
    | with_reducible apply keeps_rest hP

theorem keeps_efcAt (a0) (a1) {d : Dev} (h : P d) : P (efcAt a0 a1 d) := by
  unfold efcAt
  try dsimp only
  repeat' with_reducible first
    | exact h | assumption
    | intro _ _ _ | intro _ _
    | with_reducible apply keeps_rest hP

theorem keeps_driveDac (a0) (a1) {d : Dev} (h : P d) : P (driveDac a0 a1 d).2 := by
  unfold driveDac
  try dsimp only
  repeat' first
    | (with_reducible first
      | exact h | assumption | apply keeps_efcAt hP | apply keeps_raise hP | apply keeps_setF hP | apply keeps_doIf | apply keeps_ite
     )
    | split

theorem keeps_steer (a0) (a1) {d : Dev} (h : P d) : P (steer a0 a1 d) := by
  unfold steer
  try dsimp only
  repeat' first
    | (with_reducible first
      | exact h | assumption | apply keeps_driveDac hP)
    | split
    | intro _ _ _ | intro _ _
    | with_reducible apply keeps_rest hP

theorem keeps_servoUpdate (a0) {d : Dev} (h : P d) : P (servoUpdate a0 d) := by
  unfold servoUpdate
  try dsimp only
  repeat' first
    | (with_reducible first
      | exact h | apply keeps_steer hP | apply keeps_refreshGains hP | apply keeps_wrS64 hP | apply keeps_ite)
    | split
    | with_reducible apply keeps_rest hP

theorem keeps_servoResult (a0) (a1) {d : Dev} (h : P d) : P (servoResult a0 a1 d) := by
  unfold servoResult
  try dsimp only
  repeat' first
    | (with_reducible first
      | exact h | assumption | apply keeps_servoUpdate hP | apply keeps_phaseAction hP | apply keeps_wrS64 hP | apply keeps_doIf | apply keeps_ite
     )
    | split
    | intro _ _ _ | intro _ _
    | with_reducible apply keeps_rest hP

theorem keeps_takeResult (a0) (a1) (a2) (a3) (a4) (a5) (a6) (a7) (a8) {d : Dev} (h : P d) : P (takeResult a0 a1 a2 a3 a4 a5 a6 a7 a8 d) := by
  unfold takeResult
  try dsimp only
  repeat' first
    | (with_reducible first
      | exact h | assumption | apply keeps_servoResult hP | apply keeps_setRslot hP | apply keeps_bndResult hP | apply keeps_agreeNow hP
      | apply keeps_wr64 hP | apply keeps_wrN hP | apply keeps_setF hP | apply keeps_doIf | apply keeps_ite)
    | split
    | intro _ _ _ | intro _ _

theorem keeps_feedSample (a0) (a1) (a2) (a3) (a4) {d : Dev} (h : P d) : P (feedSample a0 a1 a2 a3 a4 d) := by
  unfold feedSample
  try dsimp only
  repeat' with_reducible first
    | exact h | apply keeps_takeResult hP

theorem keeps_gnFeed {d : Dev} (h : P d) : P (gnFeed d) := by
  unfold gnFeed
  try dsimp only
  repeat' first
    | (with_reducible first
      | exact h | apply keeps_feedSample hP | apply keeps_feedDrop hP | apply keeps_gnResult hP | apply keeps_ite)
    | split

theorem keeps_gnFeedHi (a0) (a1) {d : Dev} (h : P d) : P (gnFeedHi a0 a1 d) := by
  unfold gnFeedHi
  repeat' with_reducible first
    | exact h | apply keeps_gnFeed hP | apply keeps_commit64 hP

theorem keeps_stages (a0) {d : Dev} (h : P d) : P (stages a0 d) := by
  unfold stages
  try dsimp only
  repeat' with_reducible first
    | exact h | assumption | apply keeps_setB hP | apply keeps_forEach
    | intro _ _ _ | intro _ _
    | with_reducible apply keeps_rest hP

theorem keeps_wakeEnd (a0) {d : Dev} (h : P d) : P (wakeEnd a0 d) := by
  unfold wakeEnd
  try dsimp only
  repeat' with_reducible first
    | exact h | apply keeps_stages hP | apply keeps_allDown hP | apply keeps_raise hP | apply keeps_setF hP
    | with_reducible apply keeps_rest hP

theorem keeps_gnssOver {d : Dev} (h : P d) : P (gnssOver d) := by
  unfold gnssOver
  try dsimp only
  repeat' first
    | (with_reducible first
      | exact h | apply keeps_wakeEnd hP | apply keeps_powerDown hP | apply keeps_ite)
    | split
    | with_reducible apply keeps_rest hP

theorem keeps_lwAbandon {d : Dev} (h : P d) : P (lwAbandon d) := by
  unfold lwAbandon
  try dsimp only
  repeat' with_reducible first
    | exact h | apply keeps_raise hP | apply keeps_setF hP
    | with_reducible apply keeps_rest hP

theorem keeps_bootRegs {d : Dev} (h : P d) : P (bootRegs d) := by
  unfold bootRegs
  try dsimp only
  repeat' with_reducible first
    | exact h | assumption | apply keeps_resetRegs hP | apply keeps_wrN hP | apply keeps_setF hP | apply keeps_forEach
    | intro _ _ _ | intro _ _
    | with_reducible apply keeps_rest hP

theorem keeps_enterBoot (a0) {d : Dev} (h : P d) : P (enterBoot a0 d) := by
  unfold enterBoot
  try dsimp only
  repeat' first
    | (with_reducible first
      | exact h | apply keeps_bootRegs hP | apply keeps_lifeAdd hP | apply keeps_allDown hP | apply keeps_raise hP | apply keeps_setF hP
      | apply keeps_ite)
    | split
    | with_reducible apply keeps_rest hP

theorem keeps_lwExit {d : Dev} (h : P d) : P (lwExit d) := by
  unfold lwExit
  try dsimp only
  repeat' with_reducible first
    | exact h | assumption | apply keeps_enterBoot hP | apply keeps_raise hP | apply keeps_doIf
    | intro _ _ _ | intro _ _
    | with_reducible apply keeps_rest hP

theorem keeps_wakeBy (a0) {d : Dev} (h : P d) : P (wakeBy a0 d) := by
  unfold wakeBy
  try dsimp only
  repeat' first
    | (with_reducible first
      | exact h | apply keeps_lwExit hP | apply keeps_lwAbandon hP | apply keeps_setF hP | apply keeps_ite)

theorem keeps_gnssDone (a0) {d : Dev} (h : P d) : P (gnssDone a0 d) := by
  unfold gnssDone
  try dsimp only
  repeat' first
    | (with_reducible first
      | exact h | assumption | apply keeps_wakeBy hP | apply keeps_gnssOver hP | apply keeps_setB hP | apply keeps_raise hP | apply keeps_setF hP
      | apply keeps_doIf | apply keeps_ite)
    | split
    | intro _ _ _ | intro _ _
    | with_reducible apply keeps_rest hP

theorem keeps_lwResultF (a0) (a1) (a2) {d : Dev} (h : P d) : P (lwResultF a0 a1 a2 d) := by
  unfold lwResultF
  try dsimp only
  repeat' first
    | (with_reducible first
      | exact h | apply keeps_gnssDone hP | apply keeps_setHeld hP | apply keeps_wr hP | apply keeps_ite)

theorem keeps_snapArm (a0) (a1) (a2) {d : Dev} (h : P d) : P (snapArm a0 a1 a2 d) := by
  unfold snapArm
  try dsimp only
  repeat' with_reducible first
    | exact h | apply keeps_setF hP
    | with_reducible apply keeps_rest hP

theorem keeps_snapRefuse (a0) {d : Dev} (h : P d) : P (snapRefuse a0 d) := by
  unfold snapRefuse
  repeat' with_reducible first
    | exact h | apply keeps_gnResult hP | apply keeps_raise hP

theorem keeps_snapRegions (a0) (a1) {d : Dev} (h : P d) : P (snapRegions a0 a1 d) := by
  unfold snapRegions
  try dsimp only
  repeat' first
    | (with_reducible first
      | exact h | assumption | apply keeps_setF hP | apply keeps_forEach | apply keeps_ite | apply keeps_foldl | apply keeps_foldlSnd
      | apply keeps_foldlFst)
    | split
    | intro _ _ _ | intro _ _
    | with_reducible apply keeps_rest hP

theorem keeps_snapCaptureF {d : Dev} (h : P d) : P (snapCaptureF d) := by
  unfold snapCaptureF
  try dsimp only
  repeat' first
    | (with_reducible first
      | exact h | apply keeps_snapRegions hP | apply keeps_snapRefuse hP | apply keeps_snapArm hP | apply keeps_gnResult hP | apply keeps_ite
     )

theorem keeps_snapToFree (a0) {d : Dev} (h : P d) : P (snapToFree a0 d) := by
  unfold snapToFree
  try dsimp only
  repeat' first
    | (with_reducible first
      | exact h | assumption | apply keeps_gnResult hP | apply keeps_setF hP | apply keeps_doIf )

theorem keeps_snapCmdF (a0) {d : Dev} (h : P d) : P (snapCmdF a0 d) := by
  unfold snapCmdF
  try dsimp only
  repeat' first
    | (with_reducible first
      | exact h | assumption | apply keeps_snapToFree hP | apply keeps_snapCaptureF hP | apply keeps_onBit hP | apply keeps_ite
     )
    | split
    | intro _ _ _ | intro _ _

theorem keeps_streamCfgF (a0) (a1) (a2) {d : Dev} (h : P d) : P (streamCfgF a0 a1 a2 d) := by
  unfold streamCfgF
  try dsimp only
  repeat' first
    | (with_reducible first
      | exact h | assumption | apply keeps_gnCount hP | apply keeps_gnRequests hP | apply keeps_fieldWrite hP | apply keeps_gnResult hP
      | apply keeps_setF hP | apply keeps_doIf | apply keeps_ite)

theorem keeps_verdictF (a0) (a1) {d : Dev} (h : P d) : P (verdictF a0 a1 d) := by
  unfold verdictF
  try dsimp only
  repeat' first
    | (with_reducible first
      | exact h | assumption | apply keeps_fieldWrite hP | apply keeps_raise hP | apply keeps_setF hP | apply keeps_doIf | apply keeps_ite
     )
    | split
    | intro _ _ _ | intro _ _
    | with_reducible apply keeps_rest hP

theorem keeps_writeGn (a0) (a1) (a2) {d : Dev} (h : P d) : P (writeGn a0 a1 a2 d) := by
  unfold writeGn
  try dsimp only
  repeat' first
    | (with_reducible first
      | exact h | assumption | apply keeps_verdictF hP | apply keeps_streamCfgF hP | apply keeps_snapCmdF hP | apply keeps_lwResultF hP
      | apply keeps_gnFeedHi hP | apply keeps_gnChReg hP | apply keeps_fwOnly hP | apply keeps_epochCtlF hP | apply keeps_onBit hP
      | apply keeps_fieldWrite hP | apply keeps_acqStartF hP | apply keeps_acqAbortF hP | apply keeps_ite)
    | split
    | intro _ _ _ | intro _ _

theorem keeps_chanErr (a0) (a1) (a2) {d : Dev} (h : P d) : P (chanErr a0 a1 a2 d) := by
  unfold chanErr
  try dsimp only
  repeat' first
    | (with_reducible first
      | exact h | apply keeps_hifErr hP | apply keeps_raise hP | apply keeps_setF hP | apply keeps_ite)

theorem keeps_touchSlot (a0) {d : Dev} (h : P d) : P (touchSlot a0 d) := by
  unfold touchSlot
  try dsimp only
  repeat' first
    | (with_reducible first
      | exact h | apply keeps_ite)
    | split
    | with_reducible apply keeps_rest hP

theorem keeps_bulkEraseOp (a0) (a1) {d : Dev} (h : P d) : P (bulkEraseOp a0 a1 d) := by
  unfold bulkEraseOp
  try dsimp only
  repeat' first
    | (with_reducible first
      | exact h | apply keeps_touchSlot hP | apply keeps_chanErr hP | apply keeps_lifeAdd hP | apply keeps_ite)
    | split
    | with_reducible apply keeps_rest hP

theorem keeps_startProgram (a0) (a1) {d : Dev} (h : P d) : P (startProgram a0 a1 d) := by
  unfold startProgram
  try dsimp only
  repeat' with_reducible first
    | exact h | assumption | apply keeps_touchSlot hP
    | intro _ _ _ | intro _ _
    | with_reducible apply keeps_rest hP

theorem keeps_bulkFlushOp (a0) {d : Dev} (h : P d) : P (bulkFlushOp a0 d) := by
  unfold bulkFlushOp
  repeat' with_reducible first
    | exact h | assumption | apply keeps_startProgram hP | apply keeps_forEach | apply keeps_doIf
    | intro _ _ _ | intro _ _

theorem keeps_bulkCmdF (a0) (a1) (a2) {d : Dev} (h : P d) : P (bulkCmdF a0 a1 a2 d) := by
  unfold bulkCmdF
  repeat' with_reducible first
    | exact h | apply keeps_bulkFlushOp hP | apply keeps_bulkEraseOp hP | apply keeps_onBit hP | apply keeps_bulkReleaseOp hP
    | apply keeps_bulkAbortOp hP

theorem keeps_programLeft (a0) {d : Dev} (h : P d) : P (programLeft a0 d) := by
  unfold programLeft
  try dsimp only
  repeat' first
    | (with_reducible first
      | exact h | apply keeps_startProgram hP | apply keeps_ite)
    | split

theorem keeps_bulkCursorOp (a0) (a1) {d : Dev} (h : P d) : P (bulkCursorOp a0 a1 d) := by
  unfold bulkCursorOp
  repeat' with_reducible first
    | exact h | assumption | apply keeps_programLeft hP | apply keeps_wrN hP | apply keeps_doIf

theorem keeps_bulkStep (a0) {d : Dev} (h : P d) : P (bulkStep a0 d) := by
  unfold bulkStep
  repeat' with_reducible first
    | exact h | apply keeps_wrN hP

theorem keeps_keyCollect (a0) (a1) (a2) {d : Dev} (h : P d) : P (keyCollect a0 a1 a2 d) := by
  unfold keyCollect
  try dsimp only
  repeat' first
    | (with_reducible first
      | exact h | assumption | apply keeps_setF hP | apply keeps_doIf | apply keeps_ite)
    | split
    | intro _ _ _ | intro _ _
    | with_reducible apply keeps_rest hP

theorem keeps_pagePut (a0) (a1) {d : Dev} (h : P d) : P (pagePut a0 a1 d) := by
  unfold pagePut
  try dsimp only
  repeat' with_reducible first
    | exact h | assumption
    | intro _ _ _ | intro _ _
    | with_reducible apply keeps_rest hP

theorem keeps_setStage (a0) (a1) {d : Dev} (h : P d) : P (setStage a0 a1 d) := by
  unfold setStage
  try dsimp only
  repeat' with_reducible first
    | exact h | assumption
    | intro _ _ _ | intro _ _
    | with_reducible apply keeps_rest hP

theorem keeps_bulkStore (a0) (a1) {d : Dev} (h : P d) : P (bulkStore a0 a1 d) := by
  unfold bulkStore
  try dsimp only
  repeat' first
    | (with_reducible first
      | exact h | assumption | apply keeps_setStage hP | apply keeps_pagePut hP | apply keeps_keyCollect hP | apply keeps_bulkStep hP
      | apply keeps_programLeft hP | apply keeps_forEach)
    | split
    | intro _ _ _ | intro _ _
    | with_reducible apply keeps_rest hP

theorem keeps_bulkPut (a0) (a1) (a2) {d : Dev} (h : P d) : P (bulkPut a0 a1 a2 d) := by
  unfold bulkPut
  try dsimp only
  repeat' first
    | (with_reducible first
      | exact h | apply keeps_bulkStore hP | apply keeps_chanErr hP | apply keeps_ite)

theorem keeps_bulkSelOp (a0) (a1) (a2) {d : Dev} (h : P d) : P (bulkSelOp a0 a1 a2 d) := by
  unfold bulkSelOp
  try dsimp only
  repeat' first
    | (with_reducible first
      | exact h | assumption | apply keeps_chanErr hP | apply keeps_obsRefuse hP | apply keeps_setRefused hP | apply keeps_bulkAbortOp hP
      | apply keeps_snapSettle hP | apply keeps_wrN hP | apply keeps_setF hP | apply keeps_doIf | apply keeps_ite)

theorem keeps_onChannel (a0) (a1) (a2) (h2 : ∀ x, P x → P (a2 x)) {d : Dev} (h : P d) : P (onChannel a0 a1 a2 d) := by
  unfold onChannel
  try dsimp only
  repeat' first
    | (with_reducible first
      | exact h | apply h2 | apply keeps_ownedErr hP | apply keeps_ite)

theorem keeps_bulkReg (a0) (a1) (a2) (a3) {d : Dev} (h : P d) : P (bulkReg a0 a1 a2 a3 d) := by
  unfold bulkReg
  try dsimp only
  repeat' first
    | (with_reducible first
      | exact h | assumption | apply keeps_onChannel hP | apply keeps_bulkSelOp hP | apply keeps_bulkPut hP | apply keeps_bulkCursorOp hP
      | apply keeps_bulkCmdF hP | apply keeps_fieldWrite hP | apply keeps_ite)
    | split

theorem keeps_hifErrW (a0) (a1) {d : Dev} (h : P d) : P (hifErrW a0 a1 d) := by
  unfold hifErrW
  try dsimp only
  repeat' with_reducible first
    | exact h | assumption | apply keeps_fieldWrite hP | apply keeps_setF hP | apply keeps_doIf

theorem keeps_mgmtCtlF (a0) {d : Dev} (h : P d) : P (mgmtCtlF a0 d) := by
  unfold mgmtCtlF
  try dsimp only
  repeat' with_reducible first
    | exact h | assumption | apply keeps_setB hP

theorem keeps_writeHif (a0) (a1) (a2) {d : Dev} (h : P d) : P (writeHif a0 a1 a2 d) := by
  unfold writeHif
  try dsimp only
  repeat' first
    | (with_reducible first
      | exact h | apply keeps_mgmtCtlF hP | apply keeps_hifErrW hP | apply keeps_bulkReg hP | apply keeps_fieldWrite hP | apply keeps_ite
     )
    | split

theorem keeps_imgNotNow (a0) {d : Dev} (h : P d) : P (imgNotNow a0 d) := by
  unfold imgNotNow
  repeat' with_reducible first
    | exact h | apply keeps_imgCause hP

theorem keeps_clearBadF (a0) {d : Dev} (h : P d) : P (clearBadF a0 d) := by
  unfold clearBadF
  try dsimp only
  repeat' first
    | (with_reducible first
      | exact h | apply keeps_imgNotNow hP | apply keeps_setAttempts hP | apply keeps_forceBlock hP)
    | split
    | with_reducible apply keeps_rest hP

theorem keeps_confirmSlot {d : Dev} (h : P d) : P (confirmSlot d) := by
  unfold confirmSlot
  try dsimp only
  repeat' with_reducible first
    | exact h | apply keeps_setAttempts hP | apply keeps_imgEvent hP | apply keeps_forceBlock hP | apply keeps_setF hP
    | with_reducible apply keeps_rest hP

theorem keeps_confirmF {d : Dev} (h : P d) : P (confirmF d) := by
  unfold confirmF
  try dsimp only
  repeat' first
    | (with_reducible first
      | exact h | apply keeps_confirmSlot hP | apply keeps_imgNotNow hP | apply keeps_ite)

theorem keeps_imagesApplied {d : Dev} (h : P d) : P (imagesApplied d) := by
  unfold imagesApplied
  try dsimp only
  repeat' with_reducible first
    | exact h | assumption | apply keeps_refreshGains hP | apply keeps_applyLiveHidden hP | apply keeps_applyImage hP
    | apply keeps_applyFixedHidden hP
    | intro _ _ _ | intro _ _
    | with_reducible apply keeps_rest hP

theorem keeps_loadPages (a0) {d : Dev} (h : P d) : P (loadPages a0 d) := by
  unfold loadPages
  try dsimp only
  repeat' first
    | (with_reducible first
      | exact h | assumption | apply keeps_setRamWords hP | apply keeps_forEach | apply keeps_ite)
    | split
    | intro _ _ _ | intro _ _
    | with_reducible apply keeps_rest hP

theorem keeps_postSlot (a0) {d : Dev} (h : P d) : P (postSlot a0 d) := by
  unfold postSlot
  try dsimp only
  repeat' first
    | (with_reducible first
      | exact h | apply keeps_postReq hP | apply keeps_ite)

theorem keeps_postSlots {d : Dev} (h : P d) : P (postSlots d) := by
  unfold postSlots
  repeat' with_reducible first
    | exact h | assumption | apply keeps_postSlot hP | apply keeps_forEach

theorem keeps_fillDom (a0) {d : Dev} (h : P d) : P (fillDom a0 d) := by
  unfold fillDom
  try dsimp only
  repeat' first
    | (with_reducible first
      | exact h | assumption | apply keeps_zeroRam hP)
    | split
    | intro _ _ _ | intro _ _
    | with_reducible apply keeps_rest hP

theorem keeps_engineOut (a0) {d : Dev} (h : P d) : P (engineOut a0 d) := by
  unfold engineOut
  try dsimp only
  repeat' first
    | (with_reducible first
      | exact h | assumption | apply keeps_crdMove hP | apply keeps_setF hP | apply keeps_ite)
    | split
    | intro _ _ _ | intro _ _
    | with_reducible apply keeps_rest hP

theorem keeps_cryUp {d : Dev} (h : P d) : P (cryUp d) := by
  unfold cryUp
  try dsimp only
  repeat' with_reducible first
    | exact h | assumption | apply keeps_engineOut hP | apply keeps_forEach | apply keeps_doIf
    | intro _ _ _ | intro _ _
    | with_reducible apply keeps_rest hP

theorem keeps_ctlUp {d : Dev} (h : P d) : P (ctlUp d) := by
  unfold ctlUp
  try dsimp only
  repeat' first
    | (with_reducible first
      | exact h | assumption | apply keeps_setCore hP | apply keeps_collect hP | apply keeps_wrN hP | apply keeps_forEach | apply keeps_ite
     )
    | split
    | intro _ _ _ | intro _ _
    | with_reducible apply keeps_rest hP

theorem keeps_measReturn {d : Dev} (h : P d) : P (measReturn d) := by
  unfold measReturn
  try dsimp only
  repeat' first
    | (with_reducible first
      | exact h | assumption | apply keeps_setMreq hP | apply keeps_setF hP | apply keeps_forEach | apply keeps_ite)
    | split
    | intro _ _ _ | intro _ _
    | with_reducible apply keeps_rest hP

theorem keeps_weirPower {d : Dev} (h : P d) : P (weirPower d) := by
  unfold weirPower
  try dsimp only
  repeat' with_reducible first
    | exact h | apply keeps_wr64 hP
    | with_reducible apply keeps_rest hP

theorem keeps_pktUp {d : Dev} (h : P d) : P (pktUp d) := by
  unfold pktUp
  try dsimp only
  repeat' with_reducible first
    | exact h | apply keeps_weirPower hP
    | with_reducible apply keeps_rest hP

theorem keeps_refreshPred (a0) {d : Dev} (h : P d) : P (refreshPred a0 d) := by
  unfold refreshPred
  try dsimp only
  repeat' first
    | (with_reducible first
      | exact h | assumption | apply keeps_setB hP | apply keeps_raise hP | apply keeps_forEach | apply keeps_doIf | apply keeps_ite
     )
    | split
    | intro _ _ _

theorem keeps_modPlane (a0) (a1) {d : Dev} (h : P d) : P (modPlane a0 a1 d) := by
  unfold modPlane
  try dsimp only
  repeat' with_reducible first
    | exact h | assumption
    | intro _ _ _ | intro _ _
    | with_reducible apply keeps_rest hP

theorem keeps_clearLat (a0) {d : Dev} (h : P d) : P (clearLat a0 d) := by
  unfold clearLat
  repeat' with_reducible first
    | exact h | assumption | apply keeps_modPlane hP | apply keeps_forEach
    | intro _ _ _

theorem keeps_refreshCal (a0) {d : Dev} (h : P d) : P (refreshCal a0 d) := by
  unfold refreshCal
  repeat' with_reducible first
    | exact h | apply keeps_setB hP

theorem keeps_toCalibrating (a0) {d : Dev} (h : P d) : P (toCalibrating a0 d) := by
  unfold toCalibrating
  repeat' with_reducible first
    | exact h | assumption | apply keeps_refreshCal hP | apply keeps_clearLat hP | apply keeps_leaveUp hP | apply keeps_forEach
    | intro _ _ _

theorem keeps_startPort (a0) {d : Dev} (h : P d) : P (startPort a0 d) := by
  unfold startPort
  try dsimp only
  repeat' first
    | (with_reducible first
      | exact h | apply keeps_toCalibrating hP | apply keeps_refreshPred hP | apply keeps_ite)

theorem keeps_quadUp (a0) {d : Dev} (h : P d) : P (quadUp a0 d) := by
  unfold quadUp
  try dsimp only
  repeat' first
    | (with_reducible first
      | exact h | assumption | apply keeps_startPort hP | apply keeps_setF hP | apply keeps_forEach | apply keeps_ite)
    | split
    | intro _ _ _ | intro _ _
    | with_reducible apply keeps_rest hP

theorem keeps_synHidden (a0) {d : Dev} (h : P d) : P (synHidden a0 d) := by
  unfold synHidden
  try dsimp only
  repeat' first
    | (with_reducible first
      | exact h | assumption | apply keeps_ite)
    | split
    | intro _ _ _ | intro _ _
    | with_reducible apply keeps_rest hP

theorem keeps_settleVoter {d : Dev} (h : P d) : P (settleVoter d) := by
  unfold settleVoter
  try dsimp only
  repeat' first
    | (with_reducible first
      | exact h | apply keeps_setF hP )

theorem keeps_tbUp {d : Dev} (h : P d) : P (tbUp d) := by
  unfold tbUp
  try dsimp only
  repeat' with_reducible first
    | exact h | assumption | apply keeps_settleVoter hP | apply keeps_linkTo hP | apply keeps_setF hP | apply keeps_forEach | apply keeps_doIf
    | intro _ _ _ | intro _ _
    | with_reducible apply keeps_rest hP

theorem keeps_hiddenUp (a0) {d : Dev} (h : P d) : P (hiddenUp a0 d) := by
  unfold hiddenUp
  try dsimp only
  repeat' first
    | (with_reducible first
      | exact h | apply keeps_tbUp hP | apply keeps_synHidden hP | apply keeps_quadUp hP | apply keeps_pktUp hP | apply keeps_measReturn hP
      | apply keeps_ctlUp hP | apply keeps_cryUp hP)
    | split
    | with_reducible apply keeps_rest hP

theorem keeps_imageDom (a0) {d : Dev} (h : P d) : P (imageDom a0 d) := by
  unfold imageDom
  try dsimp only
  repeat' first
    | (with_reducible first
      | exact h | assumption | apply keeps_applyImage hP)

theorem keeps_powerUp (a0) {d : Dev} (h : P d) : P (powerUp a0 d) := by
  unfold powerUp
  try dsimp only
  repeat' first
    | (with_reducible first
      | exact h | apply keeps_imageDom hP | apply keeps_hiddenUp hP | apply keeps_fillDom hP | apply keeps_setDom hP | apply keeps_resetDom hP
      | apply keeps_ite)

theorem keeps_refreshPreds {d : Dev} (h : P d) : P (refreshPreds d) := by
  unfold refreshPreds
  repeat' with_reducible first
    | exact h | assumption | apply keeps_refreshPred hP | apply keeps_forEach

theorem keeps_refreshServing {d : Dev} (h : P d) : P (refreshServing d) := by
  unfold refreshServing
  try dsimp only
  repeat' first
    | (with_reducible first
      | exact h | apply keeps_setB hP | apply keeps_raise hP | apply keeps_ite)

theorem keeps_seedBase {d : Dev} (h : P d) : P (seedBase d) := by
  unfold seedBase
  repeat' with_reducible first
    | exact h | apply keeps_wr64 hP

theorem keeps_refreshLeap {d : Dev} (h : P d) : P (refreshLeap d) := by
  unfold refreshLeap
  try dsimp only
  repeat' first
    | (with_reducible first
      | exact h | apply keeps_setB hP | apply keeps_wr64 hP | apply keeps_setF hP)
    | split

theorem keeps_seedTb (a0) {d : Dev} (h : P d) : P (seedTb a0 d) := by
  unfold seedTb
  try dsimp only
  repeat' with_reducible first
    | exact h | assumption | apply keeps_refreshLeap hP | apply keeps_settleVoter hP | apply keeps_mapChans hP | apply keeps_alignEpochs hP
    | apply keeps_setB hP | apply keeps_setF hP | apply keeps_doIf
    | intro _ _ _ | intro _ _
    | with_reducible apply keeps_rest hP

theorem keeps_servoTo (a0) {d : Dev} (h : P d) : P (servoTo a0 d) := by
  unfold servoTo
  try dsimp only
  repeat' first
    | (with_reducible first
      | exact h | assumption | apply keeps_setB hP | apply keeps_raise hP | apply keeps_wrN hP | apply keeps_setF hP | apply keeps_doIf
      | apply keeps_ite)
    | split
    | intro _ _ _ | intro _ _
    | with_reducible apply keeps_rest hP

theorem keeps_seedAll (a0) {d : Dev} (h : P d) : P (seedAll a0 d) := by
  unfold seedAll
  try dsimp only
  repeat' first
    | (with_reducible first
      | exact h | apply keeps_servoTo hP | apply keeps_seedTb hP | apply keeps_seedBase hP | apply keeps_setB hP | apply keeps_ite
     )
    | split
    | with_reducible apply keeps_rest hP

theorem keeps_settleDoms {d : Dev} (h : P d) : P (settleDoms d) := by
  unfold settleDoms
  try dsimp only
  repeat' with_reducible first
    | exact h | assumption | apply keeps_powerUp hP | apply keeps_allDown hP | apply keeps_forEach | apply keeps_doIf
    | intro _ _ _

theorem keeps_stateTo (a0) {d : Dev} (h : P d) : P (stateTo a0 d) := by
  unfold stateTo
  try dsimp only
  repeat' with_reducible first
    | exact h | assumption | apply keeps_raise hP | apply keeps_setF hP | apply keeps_doIf
    | intro _ _
    | apply keeps_rest hP

theorem keeps_bootRun (a0) {d : Dev} (h : P d) : P (bootRun a0 d) := by
  unfold bootRun
  try dsimp only
  repeat' first
    | (with_reducible first
      | exact h | assumption | apply keeps_stateTo hP | apply keeps_settleDoms hP | apply keeps_seedAll hP | apply keeps_refreshServing hP
      | apply keeps_refreshPreds hP | apply keeps_powerUp hP | apply keeps_postSlots hP | apply keeps_loadPages hP | apply keeps_imagesApplied hP
      | apply keeps_startCore hP | apply keeps_draw hP | apply keeps_forEach | apply keeps_doIf | apply keeps_ite)
    | split
    | intro _ _ _ | intro _ _
    | with_reducible apply keeps_rest hP

theorem keeps_imgRefuse (a0) (a1) {d : Dev} (h : P d) : P (imgRefuse a0 a1 d) := by
  unfold imgRefuse
  try dsimp only
  repeat' first
    | (with_reducible first
      | exact h | apply keeps_imgEvent hP | apply keeps_imgCause hP )

theorem keeps_loadHostF (a0) {d : Dev} (h : P d) : P (loadHostF a0 d) := by
  unfold loadHostF
  try dsimp only
  repeat' first
    | (with_reducible first
      | exact h | apply keeps_imgRefuse hP | apply keeps_bootRun hP | apply keeps_imgNotNow hP | apply keeps_acceptSet hP | apply keeps_ite
     )

theorem keeps_reloadF {d : Dev} (h : P d) : P (reloadF d) := by
  unfold reloadF
  try dsimp only
  repeat' first
    | (with_reducible first
      | exact h | apply keeps_imgNotNow hP | apply keeps_imgEvent hP | apply keeps_imgCause hP | apply keeps_setF hP | apply keeps_ite
     )
    | split
    | with_reducible apply keeps_rest hP

theorem keeps_imgCmdF (a0) {d : Dev} (h : P d) : P (imgCmdF a0 d) := by
  unfold imgCmdF
  try dsimp only
  repeat' with_reducible first
    | exact h | assumption | apply keeps_reloadF hP | apply keeps_loadHostF hP | apply keeps_confirmF hP | apply keeps_clearBadF hP
    | apply keeps_onBit hP | apply keeps_draw hP
    | intro _ _ _ | intro _ _

theorem keeps_writeImg (a0) (a1) (a2) {d : Dev} (h : P d) : P (writeImg a0 a1 a2 d) := by
  unfold writeImg
  try dsimp only
  repeat' first
    | (with_reducible first
      | exact h | apply keeps_imgCmdF hP | apply keeps_fieldWrite hP | apply keeps_ite)

theorem keeps_keyResult (a0) (a1) {d : Dev} (h : P d) : P (keyResult a0 a1 d) := by
  unfold keyResult
  repeat' with_reducible first
    | exact h | apply keeps_wrN hP

theorem keeps_debugUnlockF {d : Dev} (h : P d) : P (debugUnlockF d) := by
  unfold debugUnlockF
  try dsimp only
  repeat' first
    | (with_reducible first
      | exact h | apply keeps_keyResult hP | apply keeps_zeroStart hP | apply keeps_raise hP | apply keeps_setF hP | apply keeps_ite
     )

theorem keeps_engineIn (a0) {d : Dev} (h : P d) : P (engineIn a0 d) := by
  unfold engineIn
  try dsimp only
  repeat' first
    | (with_reducible first
      | exact h | assumption | apply keeps_crdMove hP | apply keeps_setF hP | apply keeps_ite)
    | split
    | intro _ _ _ | intro _ _
    | with_reducible apply keeps_rest hP

theorem keeps_engineReadmitF (a0) (a1) {d : Dev} (h : P d) : P (engineReadmitF a0 a1 d) := by
  unfold engineReadmitF
  try dsimp only
  repeat' first
    | (with_reducible first
      | exact h | assumption | apply keeps_engineIn hP | apply keeps_admitUnit hP | apply keeps_modUnit hP | apply keeps_ite
     )

theorem keeps_withFreeBit (a0) (h0 : ∀ o x, P x → P (a0 o x)) {d : Dev} (h : P d) : P (withFreeBit a0 d) := by
  unfold withFreeBit
  repeat' with_reducible first
    | exact h | apply h0 | apply keeps_draw hP

theorem keeps_engCmdF (a0) {d : Dev} (h : P d) : P (engCmdF a0 d) := by
  unfold engCmdF
  try dsimp only
  repeat' first
    | (with_reducible first
      | exact h | assumption | apply keeps_withFreeBit hP | apply keeps_engineReadmitF hP | apply keeps_onBit hP | apply keeps_doIf
      | apply keeps_ite)
    | split
    | intro _ _ _

theorem keeps_fuseStart (a0) (a1) {d : Dev} (h : P d) : P (fuseStart a0 a1 d) := by
  unfold fuseStart
  try dsimp only
  repeat' first
    | (with_reducible first
      | exact h | assumption | apply keeps_keyResult hP | apply keeps_draw hP | apply keeps_setF hP | apply keeps_ite)
    | split
    | intro _ _ _ | intro _ _
    | with_reducible apply keeps_rest hP

theorem keeps_programHashF (a0) {d : Dev} (h : P d) : P (programHashF a0 d) := by
  unfold programHashF
  try dsimp only
  repeat' first
    | (with_reducible first
      | exact h | apply keeps_fuseStart hP | apply keeps_keyResult hP | apply keeps_ite)

theorem keeps_programKekF {d : Dev} (h : P d) : P (programKekF d) := by
  unfold programKekF
  try dsimp only
  repeat' first
    | (with_reducible first
      | exact h | apply keeps_fuseStart hP | apply keeps_keyResult hP | apply keeps_ite)

theorem keeps_revokeHashF (a0) {d : Dev} (h : P d) : P (revokeHashF a0 d) := by
  unfold revokeHashF
  try dsimp only
  repeat' first
    | (with_reducible first
      | exact h | assumption | apply keeps_fuseStart hP | apply keeps_keyResult hP | apply keeps_ite)

theorem keeps_fuseCmdF (a0) (a1) {d : Dev} (h : P d) : P (fuseCmdF a0 a1 d) := by
  unfold fuseCmdF
  try dsimp only
  repeat' first
    | (with_reducible first
      | exact h | assumption | apply keeps_revokeHashF hP | apply keeps_programKekF hP | apply keeps_programHashF hP | apply keeps_fuseStart hP
      | apply keeps_onBit hP | apply keeps_rwpRefuse hP | apply keeps_ite)
    | split
    | intro _ _ _ | intro _ _

theorem keeps_keyClearOpenedF {d : Dev} (h : P d) : P (keyClearOpenedF d) := by
  unfold keyClearOpenedF
  repeat' with_reducible first
    | exact h | apply keeps_keyResult hP | apply keeps_setF hP

theorem keeps_closeWindow {d : Dev} (h : P d) : P (closeWindow d) := by
  unfold closeWindow
  try dsimp only
  repeat' first
    | (with_reducible first
      | exact h | apply keeps_raise hP | apply keeps_setF hP | apply keeps_ite)

theorem keeps_keyCloseF {d : Dev} (h : P d) : P (keyCloseF d) := by
  unfold keyCloseF
  repeat' with_reducible first
    | exact h | apply keeps_closeWindow hP | apply keeps_keyResult hP

theorem keeps_slotClear (a0) (a1) {d : Dev} (h : P d) : P (slotClear a0 a1 d) := by
  unfold slotClear
  try dsimp only
  repeat' first
    | (with_reducible first
      | exact h | apply keeps_saClear hP | apply keeps_osnClear hP | apply keeps_ntsClear hP | apply keeps_kekClear hP)
    | split

theorem keeps_keyEraseF (a0) (a1) {d : Dev} (h : P d) : P (keyEraseF a0 a1 d) := by
  unfold keyEraseF
  try dsimp only
  repeat' first
    | (with_reducible first
      | exact h | apply keeps_slotClear hP | apply keeps_keyResult hP | apply keeps_ite)

theorem keeps_keyZeroizeF {d : Dev} (h : P d) : P (keyZeroizeF d) := by
  unfold keyZeroizeF
  repeat' with_reducible first
    | exact h | apply keeps_keyResult hP | apply keeps_zeroStart hP

theorem keeps_keyCmdF (a0) (a1) {d : Dev} (h : P d) : P (keyCmdF a0 a1 d) := by
  unfold keyCmdF
  try dsimp only
  repeat' first
    | (with_reducible first
      | exact h | assumption | apply keeps_keyZeroizeF hP | apply keeps_keyEraseF hP | apply keeps_keyCloseF hP | apply keeps_keyClearOpenedF hP
      | apply keeps_onBit hP | apply keeps_rwpRefuse hP | apply keeps_ite)
    | split
    | intro _ _ _ | intro _ _

theorem keeps_rngReseedF {d : Dev} (h : P d) : P (rngReseedF d) := by
  unfold rngReseedF
  try dsimp only
  repeat' with_reducible first
    | exact h | assumption | apply keeps_doIf
    | intro _ _ _ | intro _ _
    | with_reducible apply keeps_rest hP

theorem keeps_writeKey (a0) (a1) (a2) {d : Dev} (h : P d) : P (writeKey a0 a1 a2 d) := by
  unfold writeKey
  try dsimp only
  repeat' first
    | (with_reducible first
      | exact h | assumption | apply keeps_rngReseedF hP | apply keeps_keyCmdF hP | apply keeps_fuseCmdF hP | apply keeps_engCmdF hP
      | apply keeps_debugUnlockF hP | apply keeps_onBit hP | apply keeps_fieldWrite hP | apply keeps_rwpRefuse hP | apply keeps_ite
     )
    | split
    | intro _ _ _ | intro _ _
    | with_reducible apply keeps_rest hP

theorem keeps_leapSubmitF (a0) (a1) {d : Dev} (h : P d) : P (leapSubmitF a0 a1 d) := by
  unfold leapSubmitF
  try dsimp only
  repeat' first
    | (with_reducible first
      | exact h | apply keeps_refreshLeap hP | apply keeps_setHeld hP | apply keeps_raise hP | apply keeps_wr64 hP | apply keeps_setF hP
      | apply keeps_ite)
    | split
    | with_reducible apply keeps_rest hP

theorem keeps_logCurWriteF (a0) (a1) {d : Dev} (h : P d) : P (logCurWriteF a0 a1 d) := by
  unfold logCurWriteF
  try dsimp only
  repeat' first
    | (with_reducible first
      | exact h | apply keeps_wrN hP )

theorem keeps_stateBlock (a0) {d : Dev} (h : P d) : P (stateBlock a0 d) := by
  unfold stateBlock
  repeat' with_reducible first
    | exact h | assumption | apply keeps_leapWrite hP | apply keeps_archTry hP | apply keeps_putState hP | apply keeps_doIf
    | intro _ _ _ | intro _ _

theorem keeps_writeLog (a0) (a1) (a2) {d : Dev} (h : P d) : P (writeLog a0 a1 a2 d) := by
  unfold writeLog
  try dsimp only
  repeat' first
    | (with_reducible first
      | exact h | apply keeps_stateBlock hP | apply keeps_logCurWriteF hP | apply keeps_leapSubmitF hP | apply keeps_withFreeBit hP
      | apply keeps_onBit hP | apply keeps_fieldWrite hP | apply keeps_archiveFlushF hP | apply keeps_ite)

theorem keeps_reqCfgF (a0) (a1) (a2) {d : Dev} (h : P d) : P (reqCfgF a0 a1 a2 d) := by
  unfold reqCfgF
  try dsimp only
  repeat' first
    | (with_reducible first
      | exact h | assumption | apply keeps_fieldWrite hP | apply keeps_reqEnable hP | apply keeps_reqDisable hP | apply keeps_doIf | apply keeps_ite
     )

theorem keeps_reqWrite (a0) (a1) (a2) {d : Dev} (h : P d) : P (reqWrite a0 a1 a2 d) := by
  unfold reqWrite
  try dsimp only
  repeat' first
    | (with_reducible first
      | exact h | assumption | apply keeps_reqCfgF hP | apply keeps_fieldWrite hP | apply keeps_doIf | apply keeps_ite)
    | split

theorem keeps_reserveF (a0) (a1) (a2) {d : Dev} (h : P d) : P (reserveF a0 a1 a2 d) := by
  unfold reserveF
  repeat' with_reducible first
    | exact h | assumption | apply keeps_fieldWrite hP | apply keeps_doIf

theorem keeps_skewAll {d : Dev} (h : P d) : P (skewAll d) := by
  unfold skewAll
  try dsimp only
  repeat' with_reducible first
    | exact h | assumption
    | intro _ _ _ | intro _ _
    | with_reducible apply keeps_rest hP

theorem keeps_startInl (a0) {d : Dev} (h : P d) : P (startInl a0 d) := by
  unfold startInl
  try dsimp only
  repeat' with_reducible first
    | exact h | apply keeps_setB hP
    | with_reducible apply keeps_rest hP

theorem keeps_writeMeas (a0) (a1) (a2) {d : Dev} (h : P d) : P (writeMeas a0 a1 a2 d) := by
  unfold writeMeas
  try dsimp only
  repeat' first
    | (with_reducible first
      | exact h | assumption | apply keeps_startInl hP | apply keeps_skewAll hP | apply keeps_reserveF hP | apply keeps_reqWrite hP
      | apply keeps_onBit hP | apply keeps_fieldWrite hP | apply keeps_ite)
    | split
    | intro _ _ _ | intro _ _

theorem keeps_pmcResult (a0) {d : Dev} (h : P d) : P (pmcResult a0 d) := by
  unfold pmcResult
  repeat' with_reducible first
    | exact h | apply keeps_setF hP

theorem keeps_genCfgF (a0) (a1) (a2) {d : Dev} (h : P d) : P (genCfgF a0 a1 a2 d) := by
  unfold genCfgF
  try dsimp only
  repeat' first
    | (with_reducible first
      | exact h | apply keeps_pmcResult hP | apply keeps_fieldWrite hP | apply keeps_ite)

theorem keeps_privWriteF (a0) (a1) (a2) (a3) {d : Dev} (h : P d) : P (privWriteF a0 a1 a2 a3 d) := by
  unfold privWriteF
  try dsimp only
  repeat' first
    | (with_reducible first
      | exact h | apply keeps_pmcResult hP | apply keeps_fieldWrite hP | apply keeps_ite)

theorem keeps_snapGo {d : Dev} (h : P d) : P (snapGo d) := by
  unfold snapGo
  try dsimp only
  repeat' first
    | (with_reducible first
      | exact h | assumption | apply keeps_pmcResult hP | apply keeps_wr64 hP | apply keeps_wrN hP | apply keeps_setF hP | apply keeps_wr hP
      | apply keeps_forEach | apply keeps_doIf | apply keeps_ite)
    | split
    | intro _ _ _

theorem keeps_writePmc (a0) (a1) (a2) {d : Dev} (h : P d) : P (writePmc a0 a1 a2 d) := by
  unfold writePmc
  try dsimp only
  repeat' first
    | (with_reducible first
      | exact h | assumption | apply keeps_snapGo hP | apply keeps_privWriteF hP | apply keeps_genCfgF hP | apply keeps_onBit hP
      | apply keeps_fieldWrite hP | apply keeps_ite)
    | split
    | intro _ _ _ | intro _ _

theorem keeps_portLatCal (a0) {d : Dev} (h : P d) : P (portLatCal a0 d) := by
  unfold portLatCal
  repeat' with_reducible first
    | exact h | assumption | apply keeps_toCalibrating hP | apply keeps_doIf

theorem keeps_portResult (a0) (a1) {d : Dev} (h : P d) : P (portResult a0 a1 d) := by
  unfold portResult
  repeat' with_reducible first
    | exact h | apply keeps_setF hP

theorem keeps_portReadmit (a0) {d : Dev} (h : P d) : P (portReadmit a0 d) := by
  unfold portReadmit
  try dsimp only
  repeat' first
    | (with_reducible first
      | exact h | assumption | apply keeps_portResult hP | apply keeps_toCalibrating hP | apply keeps_modUnit hP | apply keeps_setF hP
      | apply keeps_doIf | apply keeps_ite)

theorem keeps_portRestart (a0) (a1) {d : Dev} (h : P d) : P (portRestart a0 a1 d) := by
  unfold portRestart
  try dsimp only
  repeat' first
    | (with_reducible first
      | exact h | assumption | apply keeps_portResult hP | apply keeps_leaveUp hP | apply keeps_doIf | apply keeps_ite)

theorem keeps_portCmdF (a0) (a1) {d : Dev} (h : P d) : P (portCmdF a0 a1 d) := by
  unfold portCmdF
  repeat' with_reducible first
    | exact h | apply keeps_portRestart hP | apply keeps_portReadmit hP | apply keeps_portLatCal hP | apply keeps_onBit hP

theorem keeps_postLane (a0) (a1) {d : Dev} (h : P d) : P (postLane a0 a1 d) := by
  unfold postLane
  try dsimp only
  repeat' first
    | (with_reducible first
      | exact h | assumption | apply keeps_postReq hP | apply keeps_wr64 hP | apply keeps_forEach | apply keeps_ite)
    | split
    | intro _ _ _

theorem keeps_portPeriodF (a0) (a1) (a2) {d : Dev} (h : P d) : P (portPeriodF a0 a1 a2 d) := by
  unfold portPeriodF
  try dsimp only
  repeat' with_reducible first
    | exact h | assumption | apply keeps_postLane hP | apply keeps_fieldWrite hP | apply keeps_forEach | apply keeps_doIf
    | intro _ _ _

theorem keeps_writePort (a0) (a1) (a2) {d : Dev} (h : P d) : P (writePort a0 a1 a2 d) := by
  unfold writePort
  try dsimp only
  repeat' first
    | (with_reducible first
      | exact h | apply keeps_portPeriodF hP | apply keeps_portCmdF hP | apply keeps_fieldWrite hP | apply keeps_ite)

theorem keeps_domOffF (a0) {d : Dev} (h : P d) : P (domOffF a0 d) := by
  unfold domOffF
  try dsimp only
  repeat' first
    | (with_reducible first
      | exact h | assumption | apply keeps_settleDoms hP | apply keeps_setF hP | apply keeps_ite)

theorem keeps_reqAccept (a0) {d : Dev} (h : P d) : P (reqAccept a0 d) := by
  unfold reqAccept
  try dsimp only
  repeat' with_reducible first
    | exact h | apply keeps_setF hP
    | with_reducible apply keeps_rest hP

theorem keeps_reqRefuse (a0) {d : Dev} (h : P d) : P (reqRefuse a0 d) := by
  unfold reqRefuse
  repeat' with_reducible first
    | exact h | apply keeps_raise hP | apply keeps_setF hP

theorem keeps_pwrRequest (a0) {d : Dev} (h : P d) : P (pwrRequest a0 d) := by
  unfold pwrRequest
  try dsimp only
  repeat' first
    | (with_reducible first
      | exact h | apply keeps_reqRefuse hP | apply keeps_reqAccept hP | apply keeps_wakeBy hP | apply keeps_setF hP | apply keeps_ite
     )

theorem keeps_pwrReqF (a0) {d : Dev} (h : P d) : P (pwrReqF a0 d) := by
  unfold pwrReqF
  try dsimp only
  repeat' first
    | (with_reducible first
      | exact h | apply keeps_pwrRequest hP | apply keeps_reqRefuse hP | apply keeps_wakeBy hP | apply keeps_ite)

theorem keeps_writePwr (a0) (a1) (a2) {d : Dev} (h : P d) : P (writePwr a0 a1 a2 d) := by
  unfold writePwr
  try dsimp only
  repeat' first
    | (with_reducible first
      | exact h | apply keeps_pwrReqF hP | apply keeps_domOffF hP | apply keeps_fieldWrite hP | apply keeps_commit64 hP | apply keeps_ite
     )
    | split
    | with_reducible apply keeps_rest hP

theorem keeps_efcDirectF (a0) (a1) (a2) {d : Dev} (h : P d) : P (efcDirectF a0 a1 a2 d) := by
  unfold efcDirectF
  try dsimp only
  repeat' first
    | (with_reducible first
      | exact h | assumption | apply keeps_efcAt hP | apply keeps_fieldWrite hP | apply keeps_doIf | apply keeps_ite)

theorem keeps_ensembleCommitF (a0) (a1) {d : Dev} (h : P d) : P (ensembleCommitF a0 a1 d) := by
  unfold ensembleCommitF
  try dsimp only
  repeat' with_reducible first
    | exact h | apply keeps_commit64 hP
    | with_reducible apply keeps_rest hP

theorem keeps_histCtlF (a0) (a1) {d : Dev} (h : P d) : P (histCtlF a0 a1 d) := by
  unfold histCtlF
  try dsimp only
  repeat' first
    | (with_reducible first
      | exact h | apply keeps_fieldWrite hP | apply keeps_setF hP | apply keeps_ite)
    | split
    | with_reducible apply keeps_rest hP

theorem keeps_modelCommitF {d : Dev} (h : P d) : P (modelCommitF d) := by
  unfold modelCommitF
  try dsimp only
  repeat' with_reducible first
    | exact h | apply keeps_setB hP
    | with_reducible apply keeps_rest hP

theorem keeps_refResult (a0) {d : Dev} (h : P d) : P (refResult a0 d) := by
  unfold refResult
  repeat' with_reducible first
    | exact h | apply keeps_setF hP

theorem keeps_refAutoF {d : Dev} (h : P d) : P (refAutoF d) := by
  unfold refAutoF
  repeat' with_reducible first
    | exact h | apply keeps_refResult hP | apply keeps_setB hP

theorem keeps_refHoldF {d : Dev} (h : P d) : P (refHoldF d) := by
  unfold refHoldF
  repeat' with_reducible first
    | exact h | apply keeps_refResult hP | apply keeps_setB hP

theorem keeps_refReleaseF {d : Dev} (h : P d) : P (refReleaseF d) := by
  unfold refReleaseF
  try dsimp only
  repeat' first
    | (with_reducible first
      | exact h | apply keeps_refResult hP | apply keeps_setB hP | apply keeps_ite)
    | split
    | with_reducible apply keeps_rest hP

theorem keeps_setActive (a0) {d : Dev} (h : P d) : P (setActive a0 d) := by
  unfold setActive
  try dsimp only
  repeat' first
    | (with_reducible first
      | exact h | assumption | apply keeps_setB hP | apply keeps_raise hP | apply keeps_setF hP | apply keeps_doIf | apply keeps_ite
     )
    | split
    | intro _ _ _ | intro _ _
    | with_reducible apply keeps_rest hP

theorem keeps_refSwitchF (a0) {d : Dev} (h : P d) : P (refSwitchF a0 d) := by
  unfold refSwitchF
  try dsimp only
  repeat' first
    | (with_reducible first
      | exact h | assumption | apply keeps_setActive hP | apply keeps_refResult hP | apply keeps_setB hP)
    | split

theorem keeps_calInvalid (a0) (a1) {d : Dev} (h : P d) : P (calInvalid a0 a1 d) := by
  unfold calInvalid
  try dsimp only
  repeat' first
    | (with_reducible first
      | exact h | apply keeps_raise hP | apply keeps_setF hP | apply keeps_ite)

theorem keeps_beginHop (a0) (a1) {d : Dev} (h : P d) : P (beginHop a0 a1 d) := by
  unfold beginHop
  try dsimp only
  repeat' with_reducible first
    | exact h | assumption | apply keeps_calInvalid hP | apply keeps_seekPll hP | apply keeps_pllResult hP | apply keeps_stopOuts hP
    | apply keeps_setSpll hP | apply keeps_forEach

theorem keeps_deviceHop (a0) (a1) {d : Dev} (h : P d) : P (deviceHop a0 a1 d) := by
  unfold deviceHop
  try dsimp only
  repeat' first
    | (with_reducible first
      | exact h | apply keeps_beginHop hP | apply keeps_pllResult hP | apply keeps_wrN hP | apply keeps_setF hP | apply keeps_ite
     )

theorem keeps_tickHops (a0) (a1) {d : Dev} (h : P d) : P (tickHops a0 a1 d) := by
  unfold tickHops
  try dsimp only
  repeat' first
    | (with_reducible first
      | exact h | assumption | apply keeps_deviceHop hP | apply keeps_forEach | apply keeps_ite)
    | split
    | intro _ _ _

theorem keeps_tickSwitchF {d : Dev} (h : P d) : P (tickSwitchF d) := by
  unfold tickSwitchF
  try dsimp only
  repeat' first
    | (with_reducible first
      | exact h | apply keeps_tickHops hP | apply keeps_refResult hP | apply keeps_setB hP | apply keeps_setF hP | apply keeps_ite
     )
    | split
    | with_reducible apply keeps_rest hP

theorem keeps_refCmdF (a0) {d : Dev} (h : P d) : P (refCmdF a0 d) := by
  unfold refCmdF
  try dsimp only
  repeat' first
    | (with_reducible first
      | exact h | assumption | apply keeps_tickSwitchF hP | apply keeps_refSwitchF hP | apply keeps_refReleaseF hP | apply keeps_refHoldF hP
      | apply keeps_refAutoF hP | apply keeps_onBit hP | apply keeps_ite)
    | split
    | intro _ _ _ | intro _ _

theorem keeps_refCtlF (a0) (a1) {d : Dev} (h : P d) : P (refCtlF a0 a1 d) := by
  unfold refCtlF
  try dsimp only
  repeat' first
    | (with_reducible first
      | exact h | apply keeps_refResult hP | apply keeps_fieldWrite hP | apply keeps_ite)

theorem keeps_refFeedF (a0) (a1) {d : Dev} (h : P d) : P (refFeedF a0 a1 d) := by
  unfold refFeedF
  try dsimp only
  repeat' first
    | (with_reducible first
      | exact h | apply keeps_refResult hP | apply keeps_feedSample hP | apply keeps_commit64 hP | apply keeps_ite)

theorem keeps_servoBwF (a0) (a1) {d : Dev} (h : P d) : P (servoBwF a0 a1 d) := by
  unfold servoBwF
  try dsimp only
  repeat' with_reducible first
    | exact h | apply keeps_fieldWrite hP | apply keeps_refreshGains hP | apply keeps_setF hP

theorem keeps_setQl (a0) (a1) {d : Dev} (h : P d) : P (setQl a0 a1 d) := by
  unfold setQl
  try dsimp only
  repeat' first
    | (with_reducible first
      | exact h | apply keeps_setRslot hP | apply keeps_raise hP | apply keeps_setF hP | apply keeps_ite)

theorem keeps_slotQlF (a0) (a1) (a2) {d : Dev} (h : P d) : P (slotQlF a0 a1 a2 d) := by
  unfold slotQlF
  try dsimp only
  repeat' first
    | (with_reducible first
      | exact h | apply keeps_setQl hP | apply keeps_setRslot hP | apply keeps_ite)

theorem keeps_writeRef (a0) (a1) (a2) {d : Dev} (h : P d) : P (writeRef a0 a1 a2 d) := by
  unfold writeRef
  try dsimp only
  repeat' first
    | (with_reducible first
      | exact h | assumption | apply keeps_slotQlF hP | apply keeps_servoBwF hP | apply keeps_refFeedF hP | apply keeps_refCtlF hP
      | apply keeps_refCmdF hP | apply keeps_modelCommitF hP | apply keeps_histCtlF hP | apply keeps_ensembleCommitF hP | apply keeps_efcDirectF hP
      | apply keeps_fieldWrite hP | apply keeps_commit64 hP | apply keeps_refreshGains hP | apply keeps_ite)
    | split
    | intro _ _ _ | intro _ _
    | with_reducible apply keeps_rest hP

theorem keeps_svcResult (a0) {d : Dev} (h : P d) : P (svcResult a0 d) := by
  unfold svcResult
  repeat' with_reducible first
    | exact h | apply keeps_setF hP

theorem keeps_mcWrite (a0) (a1) (a2) (a3) {d : Dev} (h : P d) : P (mcWrite a0 a1 a2 a3 d) := by
  unfold mcWrite
  try dsimp only
  repeat' first
    | (with_reducible first
      | exact h | apply keeps_svcResult hP | apply keeps_fieldWrite hP | apply keeps_ite)

theorem keeps_ucWrite (a0) (a1) (a2) {d : Dev} (h : P d) : P (ucWrite a0 a1 a2 d) := by
  unfold ucWrite
  try dsimp only
  repeat' first
    | (with_reducible first
      | exact h | apply keeps_svcResult hP | apply keeps_fieldWrite hP | apply keeps_ite)

theorem keeps_weirDepthF (a0) (a1) (a2) {d : Dev} (h : P d) : P (weirDepthF a0 a1 a2 d) := by
  unfold weirDepthF
  try dsimp only
  repeat' first
    | (with_reducible first
      | exact h | apply keeps_svcResult hP | apply keeps_fieldWrite hP | apply keeps_ite)

theorem keeps_writeSvc (a0) (a1) (a2) {d : Dev} (h : P d) : P (writeSvc a0 a1 a2 d) := by
  unfold writeSvc
  try dsimp only
  repeat' first
    | (with_reducible first
      | exact h | apply keeps_weirDepthF hP | apply keeps_ucWrite hP | apply keeps_mcWrite hP | apply keeps_refreshServing hP
      | apply keeps_fieldWrite hP | apply keeps_ite)
    | split

theorem keeps_postCal (a0) {d : Dev} (h : P d) : P (postCal a0 d) := by
  unfold postCal
  try dsimp only
  repeat' first
    | (with_reducible first
      | exact h | apply keeps_postReq hP | apply keeps_wr64 hP | apply keeps_ite)

theorem keeps_calRequest (a0) {d : Dev} (h : P d) : P (calRequest a0 d) := by
  unfold calRequest
  try dsimp only
  repeat' first
    | (with_reducible first
      | exact h | apply keeps_postCal hP | apply keeps_reqDisable hP | apply keeps_ite)

theorem keeps_calPeriodF (a0) (a1) {d : Dev} (h : P d) : P (calPeriodF a0 a1 d) := by
  unfold calPeriodF
  repeat' with_reducible first
    | exact h | assumption | apply keeps_calRequest hP | apply keeps_fieldWrite hP | apply keeps_forEach

theorem keeps_grpDivF (a0) (a1) (a2) {d : Dev} (h : P d) : P (grpDivF a0 a1 a2 d) := by
  unfold grpDivF
  try dsimp only
  repeat' first
    | (with_reducible first
      | exact h | assumption | apply keeps_fieldWrite hP | apply keeps_pllResult hP | apply keeps_ite)
    | split

theorem keeps_setSout (a0) (a1) {d : Dev} (h : P d) : P (setSout a0 a1 d) := by
  unfold setSout
  try dsimp only
  repeat' with_reducible first
    | exact h | assumption
    | intro _ _ _ | intro _ _
    | with_reducible apply keeps_rest hP

theorem keeps_startOut (a0) {d : Dev} (h : P d) : P (startOut a0 d) := by
  unfold startOut
  try dsimp only
  repeat' first
    | (with_reducible first
      | exact h | apply keeps_setSout hP | apply keeps_calRequest hP | apply keeps_outRun hP | apply keeps_setF hP | apply keeps_ite
     )

theorem keeps_outCfgF (a0) (a1) (a2) {d : Dev} (h : P d) : P (outCfgF a0 a1 a2 d) := by
  unfold outCfgF
  try dsimp only
  repeat' first
    | (with_reducible first
      | exact h | apply keeps_startOut hP | apply keeps_calRequest hP | apply keeps_fieldWrite hP | apply keeps_pllResult hP | apply keeps_outRun hP
      | apply keeps_setB hP | apply keeps_setF hP | apply keeps_ite)

theorem keeps_outShapeF (a0) (a1) (a2) (a3) {d : Dev} (h : P d) : P (outShapeF a0 a1 a2 a3 d) := by
  unfold outShapeF
  try dsimp only
  repeat' first
    | (with_reducible first
      | exact h | assumption | apply keeps_setSout hP | apply keeps_fieldWrite hP | apply keeps_pllResult hP | apply keeps_doIf | apply keeps_ite
     )
    | split

theorem keeps_outReg1 (a0) (a1) (a2) (a3) {d : Dev} (h : P d) : P (outReg1 a0 a1 a2 a3 d) := by
  unfold outReg1
  try dsimp only
  repeat' first
    | (with_reducible first
      | exact h | apply keeps_outShapeF hP | apply keeps_outCfgF hP | apply keeps_fieldWrite hP | apply keeps_ite)

theorem keeps_steerPll (a0) {d : Dev} (h : P d) : P (steerPll a0 d) := by
  unfold steerPll
  try dsimp only
  repeat' first
    | (with_reducible first
      | exact h | apply keeps_setSpll hP | apply keeps_ite)

theorem keeps_pllCfgF (a0) (a1) (a2) {d : Dev} (h : P d) : P (pllCfgF a0 a1 a2 d) := by
  unfold pllCfgF
  try dsimp only
  repeat' first
    | (with_reducible first
      | exact h | apply keeps_steerPll hP | apply keeps_fieldWrite hP | apply keeps_pllResult hP | apply keeps_ite)
    | split

theorem keeps_flushHops (a0) {d : Dev} (h : P d) : P (flushHops a0 d) := by
  unfold flushHops
  repeat' with_reducible first
    | exact h | assumption | apply keeps_setF hP | apply keeps_forEach | apply keeps_doIf
    | intro _ _ _

theorem keeps_flushPll (a0) {d : Dev} (h : P d) : P (flushPll a0 d) := by
  unfold flushPll
  repeat' with_reducible first
    | exact h | apply keeps_flushHops hP | apply keeps_pllResult hP

theorem keeps_hopPll (a0) (a1) {d : Dev} (h : P d) : P (hopPll a0 a1 d) := by
  unfold hopPll
  try dsimp only
  repeat' first
    | (with_reducible first
      | exact h | apply keeps_beginHop hP | apply keeps_pllResult hP | apply keeps_ite)
    | split

theorem keeps_hopNow (a0) {d : Dev} (h : P d) : P (hopNow a0 d) := by
  unfold hopNow
  repeat' with_reducible first
    | exact h | apply keeps_hopPll hP

theorem keeps_stopPll (a0) {d : Dev} (h : P d) : P (stopPll a0 d) := by
  unfold stopPll
  try dsimp only
  repeat' with_reducible first
    | exact h | assumption | apply keeps_pllResult hP | apply keeps_offPll hP
    | intro _ _ _ | intro _ _
    | with_reducible apply keeps_rest hP

theorem keeps_pllCmdF (a0) (a1) {d : Dev} (h : P d) : P (pllCmdF a0 a1 d) := by
  unfold pllCmdF
  repeat' with_reducible first
    | exact h | apply keeps_stopPll hP | apply keeps_hopNow hP | apply keeps_flushPll hP | apply keeps_onBit hP | apply keeps_startPll hP

theorem keeps_ppsCommitF (a0) (a1) (a2) {d : Dev} (h : P d) : P (ppsCommitF a0 a1 a2 d) := by
  unfold ppsCommitF
  try dsimp only
  repeat' first
    | (with_reducible first
      | exact h | apply keeps_commit64 hP | apply keeps_setHeld hP | apply keeps_pllResult hP | apply keeps_setSpps hP | apply keeps_setF hP
      | apply keeps_ite)

theorem keeps_ppsEnableF (a0) (a1) (a2) {d : Dev} (h : P d) : P (ppsEnableF a0 a1 a2 d) := by
  unfold ppsEnableF
  try dsimp only
  repeat' first
    | (with_reducible first
      | exact h | apply keeps_calRequest hP | apply keeps_fieldWrite hP | apply keeps_setSpps hP | apply keeps_ppsRun hP | apply keeps_setF hP
      | apply keeps_ite)

theorem keeps_sweepPll (a0) (a1) {d : Dev} (h : P d) : P (sweepPll a0 a1 d) := by
  unfold sweepPll
  try dsimp only
  repeat' first
    | (with_reducible first
      | exact h | assumption | apply keeps_startPll hP | apply keeps_wrN hP | apply keeps_forEach | apply keeps_doIf | apply keeps_ite
     )
    | split
    | intro _ _ _

theorem keeps_synSweepF (a0) (a1) {d : Dev} (h : P d) : P (synSweepF a0 a1 d) := by
  unfold synSweepF
  repeat' with_reducible first
    | exact h | assumption | apply keeps_sweepPll hP | apply keeps_forEach | apply keeps_doIf
    | intro _ _ _

theorem keeps_writeSyn (a0) (a1) (a2) {d : Dev} (h : P d) : P (writeSyn a0 a1 a2 d) := by
  unfold writeSyn
  try dsimp only
  repeat' first
    | (with_reducible first
      | exact h | assumption | apply keeps_synSweepF hP | apply keeps_ppsEnableF hP | apply keeps_ppsCommitF hP | apply keeps_pllCmdF hP
      | apply keeps_pllCfgF hP | apply keeps_outReg1 hP | apply keeps_grpDivF hP | apply keeps_calPeriodF hP | apply keeps_fieldWrite hP
      | apply keeps_autoStart hP | apply keeps_draw hP | apply keeps_doIf | apply keeps_ite)
    | split
    | intro _ _ _ | intro _ _

theorem keeps_cancelTb {d : Dev} (h : P d) : P (cancelTb d) := by
  unfold cancelTb
  try dsimp only
  repeat' first
    | (with_reducible first
      | exact h | assumption | apply keeps_tbRefuse hP | apply keeps_dropPending hP | apply keeps_mapChans hP | apply keeps_ite
     )
    | split
    | intro _ _ _ | intro _ _
    | with_reducible apply keeps_rest hP

theorem keeps_tbReadmitF (a0) {d : Dev} (h : P d) : P (tbReadmitF a0 d) := by
  unfold tbReadmitF
  try dsimp only
  repeat' first
    | (with_reducible first
      | exact h | assumption | apply keeps_tbResult hP | apply keeps_modUnit hP | apply keeps_ite)
    | split
    | intro _ _ _ | intro _ _
    | with_reducible apply keeps_rest hP

theorem keeps_tbSlewF {d : Dev} (h : P d) : P (tbSlewF d) := by
  unfold tbSlewF
  try dsimp only
  repeat' with_reducible first
    | exact h
    | with_reducible apply keeps_rest hP

theorem keeps_tbStepF {d : Dev} (h : P d) : P (tbStepF d) := by
  unfold tbStepF
  repeat' with_reducible first
    | exact h | apply keeps_armStep hP

theorem keeps_tbCmdF (a0) {d : Dev} (h : P d) : P (tbCmdF a0 d) := by
  unfold tbCmdF
  try dsimp only
  repeat' first
    | (with_reducible first
      | exact h | assumption | apply keeps_tbStepF hP | apply keeps_tbSlewF hP | apply keeps_tbReadmitF hP | apply keeps_cancelTb hP
      | apply keeps_onBit hP | apply keeps_armSet hP | apply keeps_ite)
    | split
    | intro _ _ _ | intro _ _

theorem keeps_writeTb (a0) (a1) (a2) {d : Dev} (h : P d) : P (writeTb a0 a1 a2 d) := by
  unfold writeTb
  try dsimp only
  repeat' first
    | (with_reducible first
      | exact h | apply keeps_tbCmdF hP | apply keeps_fieldWrite hP | apply keeps_ite)

theorem keeps_twnAsym (a0) {d : Dev} (h : P d) : P (twnAsym a0 d) := by
  unfold twnAsym
  repeat' with_reducible first
    | exact h | apply keeps_alignRecord hP | apply keeps_wr hP

theorem keeps_twnResult (a0) (a1) {d : Dev} (h : P d) : P (twnResult a0 a1 d) := by
  unfold twnResult
  repeat' with_reducible first
    | exact h | apply keeps_wrN hP

theorem keeps_resync {d : Dev} (h : P d) : P (resync d) := by
  unfold resync
  try dsimp only
  repeat' first
    | (with_reducible first
      | exact h | apply keeps_twnResult hP | apply keeps_startSweep hP | apply keeps_sendMr hP | apply keeps_ite)

theorem keeps_twnRetrain {d : Dev} (h : P d) : P (twnRetrain d) := by
  unfold twnRetrain
  try dsimp only
  repeat' first
    | (with_reducible first
      | exact h | apply keeps_twnResult hP | apply keeps_linkTo hP | apply keeps_ite)

theorem keeps_twnYield (a0) {d : Dev} (h : P d) : P (twnYield a0 d) := by
  unfold twnYield
  repeat' with_reducible first
    | exact h | apply keeps_twnResult hP | apply keeps_setB hP

theorem keeps_twnCmdF (a0) {d : Dev} (h : P d) : P (twnCmdF a0 d) := by
  unfold twnCmdF
  try dsimp only
  repeat' first
    | (with_reducible first
      | exact h | assumption | apply keeps_twnYield hP | apply keeps_twnRetrain hP | apply keeps_resync hP | apply keeps_onBit hP | apply keeps_ite
     )
    | split
    | intro _ _ _ | intro _ _

theorem keeps_twinTo (a0) {d : Dev} (h : P d) : P (twinTo a0 d) := by
  unfold twinTo
  try dsimp only
  repeat' first
    | (with_reducible first
      | exact h | assumption | apply keeps_satAdd hP | apply keeps_raise hP | apply keeps_setF hP | apply keeps_doIf | apply keeps_ite
     )

theorem keeps_twnCtlF (a0) (a1) {d : Dev} (h : P d) : P (twnCtlF a0 a1 d) := by
  unfold twnCtlF
  try dsimp only
  repeat' first
    | (with_reducible first
      | exact h | assumption | apply keeps_twinTo hP | apply keeps_twnResult hP | apply keeps_fieldWrite hP | apply keeps_linkTo hP
      | apply keeps_modTwn hP | apply keeps_setF hP | apply keeps_doIf | apply keeps_ite)
    | split
    | intro _ _ _ | intro _ _

theorem keeps_writeTwn (a0) (a1) (a2) {d : Dev} (h : P d) : P (writeTwn a0 a1 a2 d) := by
  unfold writeTwn
  try dsimp only
  repeat' first
    | (with_reducible first
      | exact h | assumption | apply keeps_twnCtlF hP | apply keeps_twnCmdF hP | apply keeps_twnAsym hP | apply keeps_fieldWrite hP
      | apply keeps_postMarkers hP | apply keeps_wrN hP | apply keeps_doIf | apply keeps_ite)
    | split
    | intro _ _ _ | intro _ _

theorem keeps_regWrite (a0) (a1) (a2) {d : Dev} (h : P d) : P (regWrite a0 a1 a2 d) := by
  unfold regWrite
  try dsimp only
  repeat' first
    | (with_reducible first
      | exact h | apply keeps_writeTwn hP | apply keeps_writeTb hP | apply keeps_writeSyn hP | apply keeps_writeSvc hP | apply keeps_writeRef hP
      | apply keeps_writePwr hP | apply keeps_writePort hP | apply keeps_writePmc hP | apply keeps_writeMeas hP | apply keeps_writeLog hP
      | apply keeps_writeKey hP | apply keeps_writeImg hP | apply keeps_writeHif hP | apply keeps_writeGn hP | apply keeps_writeFlt hP
      | apply keeps_writeEvq hP | apply keeps_writeDsg hP | apply keeps_writeCtl hP | apply keeps_fieldWrite hP | apply keeps_ite
     )
    | split

theorem keeps_busWrite (a0) (a1) (a2) {d : Dev} (h : P d) : P (busWrite a0 a1 a2 d) := by
  unfold busWrite
  try dsimp only
  repeat' first
    | (with_reducible first
      | exact h | apply keeps_regWrite hP | apply keeps_obsRefuse hP | apply keeps_offAccess hP | apply keeps_ite)

theorem keeps_dmaPut (a0) (a1) {d : Dev} (h : P d) : P (dmaPut a0 a1 d).2 := by
  unfold dmaPut
  try dsimp only
  repeat' first
    | (with_reducible first
      | exact h | apply keeps_busWrite hP | apply keeps_setRam hP)
    | split

theorem keeps_dmaPuts (a0) {d : Dev} (h : P d) : P (dmaPuts a0 d).2 := by
  induction a0 generalizing d with
  | nil => exact h
  | cons t ts ih =>
    have k := keeps_dmaPut hP t.1.2 t.2 h
    unfold dmaPuts
    split <;> rename_i e
    · rw [e] at k; exact k
    · rw [e] at k; exact ih k

theorem keeps_beatStore (a0) (a1) (a2) (a3) (a4) (a5) {d : Dev} (h : P d) : P (beatStore a0 a1 a2 a3 a4 a5 d) := by
  have k := keeps_dmaPuts hP (a4.zip a5) h
  unfold beatStore
  split <;> rename_i e <;> rw [e] at k
  · exact keeps_beatDone hP _ _ k
  · exact keeps_dmaParkOp hP _ _ _ _ _ k

theorem keeps_bulkPuts (a0) (a1) {d : Dev} (h : P d) : P (bulkPuts a0 a1 d).2 := by
  induction a1 generalizing d with
  | nil => exact h
  | cons w ws ih =>
    have k := keeps_bulkPut hP .fw a0 w h
    unfold bulkPuts
    dsimp only
    split
    · exact k
    · exact ih k

theorem keeps_dmaEnd (a0) (a1) {d : Dev} (h : P d) : P (dmaEnd a0 a1 d) := by
  unfold dmaEnd
  repeat' with_reducible first
    | exact h | assumption | apply keeps_modDch hP

theorem keeps_bulkMem (a0) (a1) {d : Dev} (h : P d) : P (bulkMem a0 a1 d).2 := by
  unfold bulkMem
  try dsimp only
  repeat' first
    | (with_reducible first
      | exact h | apply keeps_chanErr hP | apply keeps_draw hP | apply keeps_ite)
    | split

theorem keeps_hostTake {d : Dev} (h : P d) : P (hostTake d).2 := by
  unfold hostTake
  try dsimp only
  repeat' first
    | (with_reducible first
      | exact h | apply keeps_bufMove hP | apply keeps_ite)
    | split
    | with_reducible apply keeps_rest hP

theorem keeps_bulkGet (a0) (a1) {d : Dev} (h : P d) : P (bulkGet a0 a1 d).2 := by
  unfold bulkGet
  try dsimp only
  repeat' first
    | (with_reducible first
      | exact h | apply keeps_hostTake hP | apply keeps_bulkMem hP | apply keeps_bulkStep hP | apply keeps_chanErr hP | apply keeps_ite
     )
    | split

theorem keeps_latchRead (a0) (a1) {d : Dev} (h : P d) : P (latchRead a0 a1 d) := by
  unfold latchRead
  try dsimp only
  repeat' with_reducible first
    | exact h | assumption | apply keeps_modUnit hP | apply keeps_doIf
    | intro _ _ _ | intro _ _
    | with_reducible apply keeps_rest hP

theorem keeps_highRead (a0) (a1) (a2) {d : Dev} (h : P d) : P (highRead a0 a1 a2 d).2 := by
  unfold highRead
  split
  · exact hP.latch d _ _ h
  · exact h

theorem keeps_setLatch (a0) (a1) (a2) {d : Dev} (h : P d) : P (setLatch a0 a1 a2 d) := hP.latch d _ _ h

theorem keeps_latchHigh (a0) (a1) (a2) {d : Dev} (h : P d) : P (latchHigh a0 a1 a2 d) :=
  hP.latch _ _ _ (keeps_setLatch hP _ _ _ h)

theorem keeps_rcClear (a0) {d : Dev} (h : P d) : P (rcClear a0 d) := by
  unfold rcClear
  try dsimp only
  repeat' first
    | (with_reducible first
      | exact h | apply keeps_wr hP | apply keeps_ite)
    | split

theorem keeps_rcHidden (a0) {d : Dev} (h : P d) : P (rcHidden a0 d) := by
  unfold rcHidden
  try dsimp only
  repeat' first
    | (with_reducible first
      | exact h | assumption | apply keeps_modUnit hP | apply keeps_setWeir hP | apply keeps_ite)
    | split
    | intro _ _ _ | intro _ _
    | with_reducible apply keeps_rest hP

theorem keeps_plainRead (a0) (a1) {d : Dev} (h : P d) : P (plainRead a0 a1 d).2 := by
  unfold plainRead
  try dsimp only
  repeat' first
    | (with_reducible first
      | exact h | assumption | apply keeps_rcHidden hP | apply keeps_rcClear hP | apply keeps_latchHigh hP | apply keeps_setLatch hP
      | apply keeps_highRead hP | apply keeps_forEach | apply keeps_doIf | apply keeps_ite)
    | split
    | intro _ _ _ | intro _ _

end Sys2Proof.Laws
end

