-- ==== Sys2Proof/Laws/KeepsC.lean ====
section
/-! SUPPORT. What the operations do to the addressed stores, part 3 of 4 (`qFree` to `epoch1msF`, each after the operations it
calls): a property of devices that the primitive writes keep (`Closed`) is kept by the operation. -/

namespace Sys2Proof.Laws

set_option Elab.async false

open Sys2Proof Sys2Proof.Machine

variable {P : Dev → Prop} (hP : Closed P)
include hP

theorem keeps_qFree (a0) {d : Dev} (h : P d) : P (qFree a0 d) := by
  unfold qFree
  repeat' with_reducible first
    | exact h | assumption | apply keeps_modDsg hP | apply keeps_wrN hP

theorem keeps_qStatusRead (a0) {d : Dev} (h : P d) : P (qStatusRead a0 d) := by
  unfold qStatusRead
  try dsimp only
  repeat' with_reducible first
    | exact h | assumption | apply keeps_qFree hP | apply keeps_doIf
    | intro _ _ _ | intro _ _
    | with_reducible apply keeps_rest hP

theorem keeps_railRead (a0) (a1) (a2) {d : Dev} (h : P d) : P (railRead a0 a1 a2 d) := by
  unfold railRead
  try dsimp only
  repeat' first
    | (with_reducible first
      | exact h | assumption | apply keeps_latchHigh hP | apply keeps_highRead hP | apply keeps_modUnit hP | apply keeps_forEach | apply keeps_doIf
      | apply keeps_ite)
    | split
    | intro _ _ _ | intro _ _
    | with_reducible apply keeps_rest hP

theorem keeps_cursorFloor (a0) {d : Dev} (h : P d) : P (cursorFloor a0 d) := by
  unfold cursorFloor
  try dsimp only
  repeat' first
    | (with_reducible first
      | exact h | apply keeps_satAdd hP | apply keeps_wrN hP | apply keeps_setF hP | apply keeps_ite)

theorem keeps_rec0ReadF (a0) {d : Dev} (h : P d) : P (rec0ReadF a0 d) := by
  unfold rec0ReadF
  try dsimp only
  repeat' first
    | (with_reducible first
      | exact h | assumption | apply keeps_cursorFloor hP | apply keeps_setLatch hP | apply keeps_setF hP | apply keeps_forEach | apply keeps_ite
     )
    | split
    | intro _ _ _ | intro _ _
    | with_reducible apply keeps_rest hP

theorem keeps_rec7ReadF (a0) {d : Dev} (h : P d) : P (rec7ReadF a0 d) := by
  unfold rec7ReadF
  try dsimp only
  repeat' with_reducible first
    | exact h | assumption | apply keeps_wrN hP | apply keeps_doIf
    | intro _ _ _ | intro _ _
    | with_reducible apply keeps_rest hP

theorem keeps_ringParity (a0) (a1) {d : Dev} (h : P d) : P (ringParity a0 a1 d) := by
  unfold ringParity
  try dsimp only
  repeat' first
    | (with_reducible first
      | exact h | apply keeps_reportUnit hP | apply keeps_satAdd hP | apply keeps_raise hP | apply keeps_ite)
    | split
    | with_reducible apply keeps_rest hP

theorem keeps_recordReadF (a0) (a1) {d : Dev} (h : P d) : P (recordReadF a0 a1 d) := by
  unfold recordReadF
  try dsimp only
  repeat' with_reducible first
    | exact h | assumption | apply keeps_ringParity hP | apply keeps_setLatch hP | apply keeps_doIf
    | intro _ _ _ | intro _ _
    | with_reducible apply keeps_rest hP

theorem keeps_timeLatchF (a0) (a1) {d : Dev} (h : P d) : P (timeLatchF a0 a1 d) := by
  unfold timeLatchF
  try dsimp only
  repeat' first
    | (with_reducible first
      | exact h | assumption | apply keeps_setLatch hP | apply keeps_forEach | apply keeps_ite)
    | split
    | intro _ _ _ | intro _ _
    | with_reducible apply keeps_rest hP

theorem keeps_viaResp (a0) (h0 : ∀ x, P x → P (a0 x)) {d : Dev} (h : P d) : P (viaResp a0 d).2 := by
  unfold viaResp
  try dsimp only
  repeat' with_reducible first
    | exact h | apply h0
    | with_reducible apply keeps_rest hP

theorem keeps_regRead (a0) (a1) {d : Dev} (h : P d) : P (regRead a0 a1 d).2 := by
  unfold regRead
  try dsimp only
  repeat' first
    | (with_reducible first
      | exact h | assumption | apply keeps_viaResp hP | apply keeps_timeLatchF hP | apply keeps_recordReadF hP | apply keeps_rec7ReadF hP
      | apply keeps_rec0ReadF hP | apply keeps_railRead hP | apply keeps_qStatusRead hP | apply keeps_plainRead hP | apply keeps_latchRead hP
      | apply keeps_bulkGet hP | apply keeps_ownedErr hP | apply keeps_draw hP | apply keeps_doIf | apply keeps_ite)
    | split
    | intro _ _ _ | intro _ _
    | with_reducible apply keeps_rest hP

theorem keeps_busRead (a0) (a1) {d : Dev} (h : P d) : P (busRead a0 a1 d).2 := by
  unfold busRead
  try dsimp only
  repeat' first
    | (with_reducible first
      | exact h | apply keeps_regRead hP | apply keeps_offAccess hP | apply keeps_ite)
    | split

theorem keeps_dmaGet (a0) {d : Dev} (h : P d) : P (dmaGet a0 d).2 := by
  unfold dmaGet
  try dsimp only
  repeat' first
    | (with_reducible first
      | exact h | apply keeps_busRead hP | apply keeps_ite)
    | split

theorem keeps_dmaGets (a0) {d : Dev} (h : P d) : P (dmaGets a0 d).2 := by
  induction a0 generalizing d with
  | nil => exact h
  | cons t ts ih =>
    have k := keeps_dmaGet hP t.2 h
    unfold dmaGets
    split <;> rename_i e
    · rw [e] at k; exact k
    · rw [e] at k
      have m := ih k
      split <;> rename_i f <;> rw [f] at m <;> exact m

theorem keeps_beatFrom (a0) (a1) (a2) (a3) (a4) (a5) {d : Dev} (h : P d) : P (beatFrom a0 a1 a2 a3 a4 a5 d) := by
  have k := keeps_dmaGets hP a4 h
  unfold beatFrom
  split <;> rename_i e <;> rw [e] at k
  · exact keeps_dmaParkOp hP _ _ _ _ _ k
  · rename_i buf x
    split
    · exact keeps_beatStore hP _ _ _ _ _ _ k
    · split
      · have m := keeps_bulkPuts hP (descDst a3) buf k
        dsimp only
        split
        · exact keeps_dmaEnd hP _ _ k
        · split <;> rename_i f <;> rw [f] at m
          · exact keeps_beatDone hP _ _ m
          · exact keeps_dmaEnd hP _ _ m
      · split
        · exact keeps_dmaParkOp hP _ _ _ _ _ k
        · exact keeps_beatStore hP _ _ _ _ _ _ (keeps_draw hP k)

theorem keeps_bulkGets (a0) (a1) {d : Dev} (h : P d) : P (bulkGets a0 a1 d).2 := by
  induction a1 generalizing d with
  | zero => exact h
  | succ n ih =>
    have k := keeps_bulkGet hP .fw a0 h
    unfold bulkGets
    dsimp only
    split
    · exact k
    · have m := ih k
      split <;> rename_i f <;> rw [f] at m <;> exact m

theorem keeps_beatInto (a0) (a1) (a2) (a3) (a4) {d : Dev} (h : P d) : P (beatInto a0 a1 a2 a3 a4 d) := by
  unfold beatInto
  dsimp only
  split
  · split
    · exact keeps_dmaEnd hP _ _ h
    · have m := keeps_bulkGets hP (descSrc a3) (a1 / 4) h
      split <;> rename_i f <;> rw [f] at m
      · exact keeps_beatStore hP _ _ _ _ _ _ m
      · exact keeps_dmaEnd hP _ _ m
  · split
    · exact keeps_dmaParkOp hP _ _ _ _ _ h
    · exact keeps_beatStore hP _ _ _ _ _ _ (keeps_draw hP h)

theorem keeps_blowKekRevoke {d : Dev} (h : P d) : P (blowKekRevoke d) := by
  unfold blowKekRevoke
  repeat' with_reducible first
    | exact h | apply keeps_setF hP

theorem keeps_refreshRing {d : Dev} (h : P d) : P (refreshRing d) := by
  unfold refreshRing
  repeat' with_reducible first
    | exact h | apply keeps_setB hP

theorem keeps_bootCtl (a0) {d : Dev} (h : P d) : P (bootCtl a0 d) := by
  unfold bootCtl
  try dsimp only
  repeat' first
    | (with_reducible first
      | exact h | assumption | apply keeps_refreshRing hP | apply keeps_powerUp hP | apply keeps_stages hP | apply keeps_startCore hP
      | apply keeps_setF hP | apply keeps_doIf)
    | split
    | intro _ _ _ | intro _ _
    | with_reducible apply keeps_rest hP

theorem keeps_bootKeys (a0) {d : Dev} (h : P d) : P (bootKeys a0 d) := by
  unfold bootKeys
  try dsimp only
  repeat' first
    | (with_reducible first
      | exact h | apply keeps_setF hP | apply keeps_ite)
    | split
    | with_reducible apply keeps_rest hP

theorem keeps_restoreBlock (a0) (a1) {d : Dev} (h : P d) : P (restoreBlock a0 a1 d) := by
  unfold restoreBlock
  try dsimp only
  repeat' first
    | (with_reducible first
      | exact h | assumption | apply keeps_wr64 hP | apply keeps_wrN hP | apply keeps_setF hP | apply keeps_forEach | apply keeps_ite
     )
    | split
    | intro _ _ _ | intro _ _
    | with_reducible apply keeps_rest hP

theorem keeps_restoreHead {d : Dev} (h : P d) : P (restoreHead d) := by
  unfold restoreHead
  try dsimp only
  repeat' first
    | (with_reducible first
      | exact h | assumption | apply keeps_archNextPage hP | apply keeps_setF hP | apply keeps_ite | apply keeps_foldl | apply keeps_foldlSnd
      | apply keeps_foldlFst)
    | split
    | intro _ _ _ | intro _ _
    | with_reducible apply keeps_rest hP

theorem keeps_restoreLeap {d : Dev} (h : P d) : P (restoreLeap d) := by
  unfold restoreLeap
  try dsimp only
  repeat' first
    | (with_reducible first
      | exact h | assumption | apply keeps_wr64 hP | apply keeps_setF hP | apply keeps_forEach | apply keeps_ite)
    | split
    | intro _ _ _ | intro _ _
    | with_reducible apply keeps_rest hP

theorem keeps_restoreArchive {d : Dev} (h : P d) : P (restoreArchive d) := by
  unfold restoreArchive
  try dsimp only
  repeat' first
    | (with_reducible first
      | exact h | apply keeps_restoreLeap hP | apply keeps_restoreHead hP | apply keeps_restoreBlock hP | apply keeps_raise hP | apply keeps_setF hP
     )
    | split
    | with_reducible apply keeps_rest hP

theorem keeps_bootRead (a0) {d : Dev} (h : P d) : P (bootRead a0 d) := by
  unfold bootRead
  try dsimp only
  repeat' with_reducible first
    | exact h | assumption | apply keeps_restoreArchive hP | apply keeps_bootKeys hP | apply keeps_lifeAdd hP | apply keeps_doIf
    | intro _ _ _ | intro _ _
    | with_reducible apply keeps_rest hP

theorem keeps_trySlots (a0) (a1) {d : Dev} (h : P d) : P (trySlots a0 a1 d) := by
  induction a1 generalizing d with
  | nil => exact h
  | cons t ts ih =>
    unfold trySlots
    split
    · exact ih h
    · dsimp only
      split
      · exact keeps_acceptSet hP _ _ _ h
      · exact ih (keeps_doIf (fun _ h => keeps_imgEvent hP _ _ h) (keeps_imgRefuse hP _ _ h))

theorem keeps_bootSequenceF (a0) {d : Dev} (h : P d) : P (bootSequenceF a0 d) := by
  unfold bootSequenceF
  try dsimp only
  repeat' first
    | (with_reducible first
      | exact h | apply keeps_trySlots hP | apply keeps_bootRead hP | apply keeps_bootCtl hP | apply keeps_bootRun hP | apply keeps_ite
     )

theorem keeps_setBucket (a0) (a1) {d : Dev} (h : P d) : P (setBucket a0 a1 d) := by
  unfold setBucket
  try dsimp only
  repeat' with_reducible first
    | exact h | assumption
    | intro _ _ _ | intro _ _
    | with_reducible apply keeps_rest hP

theorem keeps_weirLedger (a0) (a1) (a2) {d : Dev} (h : P d) : P (weirLedger a0 a1 a2 d) := by
  unfold weirLedger
  try dsimp only
  repeat' with_reducible first
    | exact h | assumption | apply keeps_wr64 hP

theorem keeps_bucketParity (a0) {d : Dev} (h : P d) : P (bucketParity a0 d) := by
  unfold bucketParity
  try dsimp only
  repeat' with_reducible first
    | exact h | apply keeps_weirLedger hP | apply keeps_setBucket hP | apply keeps_svcCnt hP | apply keeps_reportUnit hP | apply keeps_raise hP

theorem keeps_bulkReadF (a0) (a1) {d : Dev} (h : P d) : P (bulkReadF a0 a1 d) := by
  unfold bulkReadF
  try dsimp only
  repeat' first
    | (with_reducible first
      | exact h | apply keeps_busRead hP | apply keeps_ite)
    | split
    | with_reducible apply keeps_rest hP

theorem keeps_burstRead (a0) (a1) (a2) {d : Dev} (h : P d) : P (burstRead a0 a1 a2 d).2 := by
  induction a1 generalizing a2 d with
  | zero => exact h
  | succ n ih => exact ih _ (keeps_busRead hP _ _ h)

theorem keeps_burstWrite (a0) (a1) (a2) {d : Dev} (h : P d) : P (burstWrite a0 a1 a2 d) := by
  induction a1 generalizing a2 d with
  | nil => exact h
  | cons w ws ih => exact ih _ (keeps_busWrite hP _ _ _ h)

theorem keeps_calAgeF (a0) {d : Dev} (h : P d) : P (calAgeF a0 d) := by
  unfold calAgeF
  repeat' with_reducible first
    | exact h | assumption | apply keeps_calInvalid hP | apply keeps_doIf

theorem keeps_calSecond {d : Dev} (h : P d) : P (calSecond d) := by
  unfold calSecond
  repeat' with_reducible first
    | exact h | assumption | apply keeps_satAdd hP | apply keeps_forEach
    | intro _ _ _

theorem keeps_calendarLimitF {d : Dev} (h : P d) : P (calendarLimitF d) := by
  unfold calendarLimitF
  try dsimp only
  repeat' first
    | (with_reducible first
      | exact h | apply keeps_raise hP | apply keeps_ite)
    | split
    | with_reducible apply keeps_rest hP

theorem keeps_capture1us {d : Dev} (h : P d) : P (capture1us d) := by
  unfold capture1us
  try dsimp only
  repeat' with_reducible first
    | exact h | assumption | apply keeps_doIf
    | intro _ _ _ | intro _ _
    | with_reducible apply keeps_rest hP

theorem keeps_snapStamp (a0) (a1) {d : Dev} (h : P d) : P (snapStamp a0 a1 d) := by
  unfold snapStamp
  try dsimp only
  repeat' first
    | (with_reducible first
      | exact h | assumption | apply keeps_setB hP | apply keeps_wr64 hP | apply keeps_ite)
    | split
    | intro _ _ _ | intro _ _
    | with_reducible apply keeps_rest hP

theorem keeps_setRamByte (a0) (a1) {d : Dev} (h : P d) : P (setRamByte a0 a1 d) := by
  unfold setRamByte
  repeat' with_reducible first
    | exact h | apply keeps_setRam hP

theorem keeps_snapStore (a0) {d : Dev} (h : P d) : P (snapStore a0 d) := by
  unfold snapStore
  try dsimp only
  repeat' with_reducible first
    | exact h | assumption | apply keeps_setRamByte hP | apply keeps_forEach | apply keeps_foldl | apply keeps_foldlSnd | apply keeps_foldlFst
    | intro _ _ _

theorem keeps_captureCompleteF (a0) {d : Dev} (h : P d) : P (captureCompleteF a0 d) := by
  unfold captureCompleteF
  try dsimp only
  repeat' first
    | (with_reducible first
      | exact h | assumption | apply keeps_snapStore hP | apply keeps_snapStamp hP | apply keeps_snapSettle hP | apply keeps_raise hP
      | apply keeps_setF hP | apply keeps_forEach | apply keeps_ite)
    | split
    | intro _ _ _

theorem keeps_captureResult (a0) {d : Dev} (h : P d) : P (captureResult a0 d) := by
  unfold captureResult
  repeat' with_reducible first
    | exact h | apply keeps_snapStamp hP

theorem keeps_snapStrobe (a0) (a1) {d : Dev} (h : P d) : P (snapStrobe a0 a1 d) := by
  unfold snapStrobe
  try dsimp only
  repeat' with_reducible first
    | exact h | assumption | apply keeps_postReq hP | apply keeps_reqDisable hP | apply keeps_wr64 hP | apply keeps_setF hP | apply keeps_forEach
    | intro _ _ _ | intro _ _
    | with_reducible apply keeps_rest hP

theorem keeps_wakeStrobe {d : Dev} (h : P d) : P (wakeStrobe d) := by
  unfold wakeStrobe
  try dsimp only
  repeat' first
    | (with_reducible first
      | exact h | apply keeps_snapStrobe hP | apply keeps_snapRegions hP | apply keeps_snapRefuse hP | apply keeps_setF hP | apply keeps_ite
     )

theorem keeps_captureTriggerF {d : Dev} (h : P d) : P (captureTriggerF d) := by
  unfold captureTriggerF
  try dsimp only
  repeat' first
    | (with_reducible first
      | exact h | apply keeps_wakeStrobe hP | apply keeps_snapStrobe hP | apply keeps_ite)

theorem keeps_loadChan (a0) {d : Dev} (h : P d) : P (loadChan a0 d) := by
  unfold loadChan
  try dsimp only
  repeat' with_reducible first
    | exact h
    | with_reducible apply keeps_rest hP

theorem keeps_chanIn (a0) {d : Dev} (h : P d) : P (chanIn a0 d) := by
  unfold chanIn
  try dsimp only
  repeat' with_reducible first
    | exact h | apply keeps_loadChan hP | apply keeps_settleVoter hP | apply keeps_raise hP | apply keeps_setF hP
    | with_reducible apply keeps_rest hP

theorem keeps_chanOut (a0) {d : Dev} (h : P d) : P (chanOut a0 d) := by
  unfold chanOut
  try dsimp only
  repeat' with_reducible first
    | exact h | apply keeps_setF hP
    | with_reducible apply keeps_rest hP

theorem keeps_chanOverrun (a0) {d : Dev} (h : P d) : P (chanOverrun a0 d) := by
  unfold chanOverrun
  try dsimp only
  repeat' first
    | (with_reducible first
      | exact h | apply keeps_satAdd hP | apply keeps_raise hP | apply keeps_ite)
    | split
    | with_reducible apply keeps_rest hP

theorem keeps_holdIfStopping (a0) {d : Dev} (h : P d) : P (holdIfStopping a0 d) := by
  unfold holdIfStopping
  try dsimp only
  repeat' first
    | (with_reducible first
      | exact h | apply keeps_setReqState hP | apply keeps_releaseChan hP | apply keeps_ite)

theorem keeps_startSample (a0) (a1) (a2) {d : Dev} (h : P d) : P (startSample a0 a1 a2 d) := by
  unfold startSample
  try dsimp only
  repeat' first
    | (with_reducible first
      | exact h | assumption | apply keeps_chanOverrun hP | apply keeps_addSample hP | apply keeps_setMreq hP | apply keeps_ite
     )
    | split
    | intro _ _ _ | intro _ _
    | with_reducible apply keeps_rest hP

theorem keeps_startEdge (a0) (a1) (a2) {d : Dev} (h : P d) : P (startEdge a0 a1 a2 d) := by
  unfold startEdge
  try dsimp only
  repeat' first
    | (with_reducible first
      | exact h | assumption | apply keeps_startSample hP | apply keeps_holdIfStopping hP | apply keeps_setMreq hP | apply keeps_doIf
      | apply keeps_ite)

theorem keeps_stopEdge (a0) (a1) (a2) {d : Dev} (h : P d) : P (stopEdge a0 a1 a2 d) := by
  unfold stopEdge
  try dsimp only
  repeat' first
    | (with_reducible first
      | exact h | apply keeps_holdIfStopping hP | apply keeps_addSample hP | apply keeps_setMreq hP)
    | split

theorem keeps_channelCaptureF (a0) (a1) (a2) {d : Dev} (h : P d) : P (channelCaptureF a0 a1 a2 d) := by
  unfold channelCaptureF
  try dsimp only
  repeat' first
    | (with_reducible first
      | exact h | apply keeps_stopEdge hP | apply keeps_startEdge hP | apply keeps_ite)

theorem keeps_decideFatal (a0) (a1) (a2) {d : Dev} (h : P d) : P (decideFatal a0 a1 a2 d) := by
  unfold decideFatal
  repeat' with_reducible first
    | exact h | apply keeps_decideWith hP

theorem keeps_fenceUnit (a0) (a1) {d : Dev} (h : P d) : P (fenceUnit a0 a1 d) := by
  unfold fenceUnit
  try dsimp only
  repeat' first
    | (with_reducible first
      | exact h | assumption | apply keeps_decideFatal hP | apply keeps_modUnit hP | apply keeps_raise hP | apply keeps_ite
     )

theorem keeps_fenceChan (a0) (a1) {d : Dev} (h : P d) : P (fenceChan a0 a1 d) := by
  unfold fenceChan
  try dsimp only
  repeat' first
    | (with_reducible first
      | exact h | assumption | apply keeps_fenceUnit hP | apply keeps_decideFatal hP | apply keeps_reportUnit hP | apply keeps_raise hP
      | apply keeps_setF hP | apply keeps_ite)
    | split
    | intro _ _ _ | intro _ _
    | with_reducible apply keeps_rest hP

theorem keeps_channelSelftestDoneF (a0) {d : Dev} (h : P d) : P (channelSelftestDoneF a0 d) := by
  unfold channelSelftestDoneF
  try dsimp only
  repeat' first
    | (with_reducible first
      | exact h | assumption | apply keeps_fenceChan hP | apply keeps_loadChan hP | apply keeps_settleVoter hP | apply keeps_ite
     )
    | split
    | intro _ _ _ | intro _ _
    | with_reducible apply keeps_rest hP

theorem keeps_fatalReport (a0) (a1) (a2) (a3) {d : Dev} (h : P d) : P (fatalReport a0 a1 a2 a3 d) := by
  unfold fatalReport
  repeat' with_reducible first
    | exact h | assumption | apply keeps_latchCause hP | apply keeps_modUnit hP | apply keeps_decideWith hP

theorem keeps_checkPair {d : Dev} (h : P d) : P (checkPair d) := by
  unfold checkPair
  try dsimp only
  repeat' first
    | (with_reducible first
      | exact h | apply keeps_fatalReport hP | apply keeps_raise hP | apply keeps_ite)
    | split

theorem keeps_ckSource (a0) {d : Dev} (h : P d) : P (ckSource a0 d) := by
  unfold ckSource
  try dsimp only
  repeat' first
    | (with_reducible first
      | exact h | assumption | apply keeps_reportUnit hP | apply keeps_setB hP | apply keeps_raise hP | apply keeps_doIf | apply keeps_ite
     )

theorem keeps_dsgRole (a0) {d : Dev} (h : P d) : P (dsgRole a0 d) := by
  unfold dsgRole
  try dsimp only
  repeat' first
    | (with_reducible first
      | exact h | assumption | apply keeps_endCycle hP | apply keeps_dsgCoord hP | apply keeps_modDsg hP | apply keeps_raise hP | apply keeps_ite
     )

theorem keeps_saGap {d : Dev} (h : P d) : P (saGap d) := by
  unfold saGap
  try dsimp only
  repeat' first
    | (with_reducible first
      | exact h | assumption | apply keeps_keyCount hP | apply keeps_raise hP | apply keeps_wrN hP | apply keeps_setF hP | apply keeps_forEach
      | apply keeps_ite)
    | split
    | intro _ _ _

theorem keeps_takeover {d : Dev} (h : P d) : P (takeover d) := by
  unfold takeover
  try dsimp only
  repeat' first
    | (with_reducible first
      | exact h | assumption | apply keeps_saGap hP | apply keeps_twinTo hP | apply keeps_announceAddrs hP | apply keeps_wrS64 hP
      | apply keeps_twnCount hP | apply keeps_modTwn hP | apply keeps_raise hP | apply keeps_setF hP | apply keeps_doIf)
    | split
    | intro _ _ _ | intro _ _
    | with_reducible apply keeps_rest hP

theorem keeps_twinAfter (a0) {d : Dev} (h : P d) : P (twinAfter a0 d) := by
  unfold twinAfter
  try dsimp only
  repeat' first
    | (with_reducible first
      | exact h | assumption | apply keeps_takeover hP | apply keeps_twinTo hP | apply keeps_startSweep hP | apply keeps_modTwn hP
      | apply keeps_setF hP | apply keeps_doIf | apply keeps_ite)
    | split
    | intro _ _ _ | intro _ _

theorem keeps_claimKnown (a0) (a1) (a2) (a3) (a4) (a5) {d : Dev} (h : P d) : P (claimKnown a0 a1 a2 a3 a4 a5 d) := by
  unfold claimKnown
  try dsimp only
  repeat' with_reducible first
    | exact h | assumption | apply keeps_twinAfter hP | apply keeps_dsgRole hP | apply keeps_setB hP | apply keeps_raise hP | apply keeps_wrN hP
    | apply keeps_setF hP | apply keeps_doIf
    | intro _ _ _ | intro _ _
    | with_reducible apply keeps_rest hP

theorem keeps_claimOver (a0) {d : Dev} (h : P d) : P (claimOver a0 d) := by
  unfold claimOver
  try dsimp only
  repeat' first
    | (with_reducible first
      | exact h | apply keeps_claimKnown hP | apply keeps_ite)

theorem keeps_classStep {d : Dev} (h : P d) : P (classStep d) := by
  unfold classStep
  try dsimp only
  repeat' first
    | (with_reducible first
      | exact h | apply keeps_raise hP | apply keeps_setF hP | apply keeps_ite)

theorem keeps_clockReturnF (a0) {d : Dev} (h : P d) : P (clockReturnF a0 d) := by
  unfold clockReturnF
  try dsimp only
  repeat' first
    | (with_reducible first
      | exact h | assumption | apply keeps_refreshRing hP | apply keeps_setF hP | apply keeps_doIf | apply keeps_ite)
    | split
    | intro _ _ _ | intro _ _
    | with_reducible apply keeps_rest hP

theorem keeps_dsgLocked {d : Dev} (h : P d) : P (dsgLocked d) := by
  unfold dsgLocked
  try dsimp only
  repeat' first
    | (with_reducible first
      | exact h | apply keeps_setB hP | apply keeps_raise hP | apply keeps_ite)

theorem keeps_clockSource {d : Dev} (h : P d) : P (clockSource d) := by
  unfold clockSource
  try dsimp only
  repeat' first
    | (with_reducible first
      | exact h | apply keeps_dsgLocked hP | apply keeps_setB hP | apply keeps_setF hP | apply keeps_ite)

theorem keeps_closeSlot (a0) {d : Dev} (h : P d) : P (closeSlot a0 d) := by
  unfold closeSlot
  try dsimp only
  repeat' first
    | (with_reducible first
      | exact h | assumption | apply keeps_admitWaiting hP | apply keeps_railsIdle hP | apply keeps_modUnit hP | apply keeps_doIf | apply keeps_ite
     )
    | split
    | intro _ _ _ | intro _ _
    | with_reducible apply keeps_rest hP

theorem keeps_coastPll (a0) (a1) {d : Dev} (h : P d) : P (coastPll a0 a1 d) := by
  unfold coastPll
  try dsimp only
  repeat' with_reducible first
    | exact h | assumption | apply keeps_calInvalid hP | apply keeps_setSpll hP | apply keeps_pllTo hP | apply keeps_setB hP | apply keeps_forEach

theorem keeps_discardEpoch (a0) {d : Dev} (h : P d) : P (discardEpoch a0 d) := by
  unfold discardEpoch
  try dsimp only
  repeat' with_reducible first
    | exact h | assumption | apply keeps_twnCount hP | apply keeps_sendMr hP | apply keeps_modTwn hP | apply keeps_raise hP

theorem keeps_sweepDone {d : Dev} (h : P d) : P (sweepDone d) := by
  unfold sweepDone
  try dsimp only
  repeat' first
    | (with_reducible first
      | exact h | assumption | apply keeps_sessStore hP | apply keeps_modTwn hP | apply keeps_raise hP | apply keeps_setF hP | apply keeps_forEach
      | apply keeps_ite)
    | split
    | intro _ _ _ | intro _ _
    | with_reducible apply keeps_rest hP

theorem keeps_commitIn (a0) {d : Dev} (h : P d) : P (commitIn a0 d) := by
  unfold commitIn
  try dsimp only
  repeat' first
    | (with_reducible first
      | exact h | assumption | apply keeps_sweepDone hP | apply keeps_discardEpoch hP | apply keeps_claimOver hP | apply keeps_applyEpoch hP
      | apply keeps_modTwn hP | apply keeps_ite)

theorem keeps_noMajority (a0) {d : Dev} (h : P d) : P (noMajority a0 d) := by
  unfold noMajority
  repeat' with_reducible first
    | exact h | apply keeps_fatalReport hP | apply keeps_raise hP

theorem keeps_repairChan (a0) (a1) {d : Dev} (h : P d) : P (repairChan a0 a1 d) := by
  unfold repairChan
  try dsimp only
  repeat' first
    | (with_reducible first
      | exact h | assumption | apply keeps_reportUnit hP | apply keeps_satAdd hP | apply keeps_raise hP | apply keeps_setF hP | apply keeps_ite
     )
    | split
    | intro _ _ _ | intro _ _
    | with_reducible apply keeps_rest hP

theorem keeps_compareChans {d : Dev} (h : P d) : P (compareChans d) := by
  unfold compareChans
  try dsimp only
  repeat' first
    | (with_reducible first
      | exact h | apply keeps_repairChan hP | apply keeps_noMajority hP)
    | split

theorem keeps_setPcieFn (a0) (a1) {d : Dev} (h : P d) : P (setPcieFn a0 a1 d) := by
  unfold setPcieFn
  try dsimp only
  repeat' first
    | (with_reducible first
      | exact h | apply keeps_ite)
    | split
    | with_reducible apply keeps_rest hP

theorem keeps_configF (a0) (a1) {d : Dev} (h : P d) : P (configF a0 a1 d) := by
  unfold configF
  try dsimp only
  repeat' first
    | (with_reducible first
      | exact h | assumption | apply keeps_setPcieFn hP | apply keeps_setF hP | apply keeps_ite)
    | split

theorem keeps_configParity (a0) {d : Dev} (h : P d) : P (configParity a0 d) := by
  unfold configParity
  repeat' with_reducible first
    | exact h | assumption | apply keeps_applyImage hP | apply keeps_reportUnit hP | apply keeps_doIf

theorem keeps_copySum {d : Dev} (h : P d) : P (copySum d) := by
  unfold copySum
  try dsimp only
  repeat' first
    | (with_reducible first
      | exact h | apply keeps_wrS64 hP | apply keeps_wr64 hP | apply keeps_wrN hP | apply keeps_ite)
    | split

theorem keeps_coreXlat (a0) (a1) (a2) (a3) {d : Dev} (h : P d) : P (coreXlat a0 a1 a2 a3 d).2 := by
  unfold coreXlat
  try dsimp only
  repeat' with_reducible first
    | exact h | assumption | apply keeps_modCore hP | apply keeps_draw hP | apply keeps_pmcAdd hP | apply keeps_doIf

theorem keeps_mmuFault (a0) (a1) (a2) (a3) (a4) (a5) {d : Dev} (h : P d) : P (mmuFault a0 a1 a2 a3 a4 a5 d) := by
  unfold mmuFault
  try dsimp only
  repeat' with_reducible first
    | exact h | assumption | apply keeps_raise hP | apply keeps_wr64 hP | apply keeps_wrN hP | apply keeps_doIf

theorem keeps_coreOut (a0) (a1) {d : Dev} (h : P d) : P (coreOut a0 a1 d) := by
  unfold coreOut
  try dsimp only
  repeat' first
    | (with_reducible first
      | exact h | assumption | apply keeps_decideFatal hP | apply keeps_setCore hP | apply keeps_doIf | apply keeps_ite)

theorem keeps_lockstepOff {d : Dev} (h : P d) : P (lockstepOff d) := by
  unfold lockstepOff
  repeat' with_reducible first
    | exact h | apply keeps_setF hP

theorem keeps_restartCore (a0) (a1) {d : Dev} (h : P d) : P (restartCore a0 a1 d) := by
  unfold restartCore
  repeat' with_reducible first
    | exact h | apply keeps_startCore hP | apply keeps_setCore hP | apply keeps_satAdd hP

theorem keeps_coreFail (a0) (a1) (a2) {d : Dev} (h : P d) : P (coreFail a0 a1 a2 d) := by
  unfold coreFail
  try dsimp only
  repeat' first
    | (with_reducible first
      | exact h | assumption | apply keeps_restartCore hP | apply keeps_lockstepOff hP | apply keeps_coreOut hP | apply keeps_fenceUnit hP
      | apply keeps_modCore hP | apply keeps_forEach | apply keeps_ite)
    | split
    | intro _ _ _

theorem keeps_coreReport (a0) (a1) (a2) {d : Dev} (h : P d) : P (coreReport a0 a1 a2 d) := by
  unfold coreReport
  repeat' with_reducible first
    | exact h | apply keeps_reportUnit hP | apply keeps_raise hP

theorem keeps_doubleFault (a0) {d : Dev} (h : P d) : P (doubleFault a0 d) := by
  unfold doubleFault
  repeat' with_reducible first
    | exact h | apply keeps_coreReport hP | apply keeps_coreFail hP | apply keeps_setCore hP

theorem keeps_takeExc (a0) (a1) (a2) (a3) {d : Dev} (h : P d) : P (takeExc a0 a1 a2 a3 d) := by
  unfold takeExc
  try dsimp only
  repeat' first
    | (with_reducible first
      | exact h | assumption | apply keeps_doubleFault hP | apply keeps_modGroup hP | apply keeps_ite)

theorem keeps_coreAccess (a0) (a1) (a2) (a3) (a4) (a5) {d : Dev} (h : P d) : P (coreAccess a0 a1 a2 a3 a4 a5 d) := by
  unfold coreAccess
  try dsimp only
  repeat' first
    | (with_reducible first
      | exact h | apply keeps_takeExc hP | apply keeps_mmuFault hP | apply keeps_coreXlat hP)
    | split

theorem keeps_coreTested (a0) (a1) {d : Dev} (h : P d) : P (coreTested a0 a1 d) := by
  unfold coreTested
  try dsimp only
  repeat' first
    | (with_reducible first
      | exact h | apply keeps_setCore hP | apply keeps_ite)

theorem keeps_coreTimerOp (a0) {d : Dev} (h : P d) : P (coreTimerOp a0 d) := by
  unfold coreTimerOp
  try dsimp only
  repeat' first
    | (with_reducible first
      | exact h | assumption | apply keeps_setCore hP | apply keeps_modCore hP | apply keeps_forEach | apply keeps_doIf | apply keeps_ite
     )
    | split
    | intro _ _ _ | intro _ _

theorem keeps_setPipeQ (a0) (a1) {d : Dev} (h : P d) : P (setPipeQ a0 a1 d) := by
  unfold setPipeQ
  try dsimp only
  repeat' with_reducible first
    | exact h | assumption
    | intro _ _ _ | intro _ _
    | with_reducible apply keeps_rest hP

theorem keeps_countLate (a0) {d : Dev} (h : P d) : P (countLate a0 d) := by
  unfold countLate
  try dsimp only
  repeat' first
    | (with_reducible first
      | exact h | assumption | apply keeps_setPipeQ hP | apply keeps_onceSec hP | apply keeps_svcCnt hP | apply keeps_forEach | apply keeps_ite
      | apply keeps_foldl | apply keeps_foldlSnd | apply keeps_foldlFst)
    | split
    | intro _ _ _ | intro _ _
    | with_reducible apply keeps_rest hP

theorem keeps_countUpset (a0) {d : Dev} (h : P d) : P (countUpset a0 d) := by
  unfold countUpset
  repeat' with_reducible first
    | exact h | assumption | apply keeps_modUnit hP | apply keeps_fltCount hP

theorem keeps_counterAdd (a0) (a1) {d : Dev} (h : P d) : P (counterAdd a0 a1 d) := by
  unfold counterAdd
  try dsimp only
  repeat' first
    | (with_reducible first
      | exact h | assumption | apply keeps_pmcSup hP | apply keeps_privAdd hP | apply keeps_genAdd hP | apply keeps_doIf | apply keeps_ite
     )
    | split
    | intro _ _ _ | intro _ _

theorem keeps_setWait (a0) (a1) {d : Dev} (h : P d) : P (setWait a0 a1 d) := by
  unfold setWait
  try dsimp only
  repeat' with_reducible first
    | exact h | assumption
    | intro _ _ _ | intro _ _
    | with_reducible apply keeps_rest hP

theorem keeps_creditTimeout (a0) {d : Dev} (h : P d) : P (creditTimeout a0 d) := by
  unfold creditTimeout
  try dsimp only
  repeat' first
    | (with_reducible first
      | exact h | assumption | apply keeps_setWait hP | apply keeps_setPipeQ hP | apply keeps_rxFree hP | apply keeps_svcCnt hP | apply keeps_ite
     )
    | split

theorem keeps_ctlParity (a0) (a1) (a2) (a3) {d : Dev} (h : P d) : P (ctlParity a0 a1 a2 a3 d) := by
  unfold ctlParity
  try dsimp only
  repeat' first
    | (with_reducible first
      | exact h | assumption | apply keeps_takeExc hP | apply keeps_mmuFault hP | apply keeps_coreXlat hP | apply keeps_ringParity hP
      | apply keeps_modCore hP | apply keeps_modDch hP | apply keeps_reportUnit hP | apply keeps_satAdd hP | apply keeps_raise hP
     )
    | split

theorem keeps_cutWord (a0) (a1) {d : Dev} (h : P d) : P (cutWord a0 a1 d) := by
  unfold cutWord
  repeat' with_reducible first
    | exact h | assumption | apply keeps_hifErr hP | apply keeps_doIf

theorem keeps_dropPend (a0) {d : Dev} (h : P d) : P (dropPend a0 d) := by
  unfold dropPend
  try dsimp only
  repeat' with_reducible first
    | exact h | assumption
    | intro _ _ _ | intro _ _
    | with_reducible apply keeps_rest hP

theorem keeps_wakeCore (a0) {d : Dev} (h : P d) : P (wakeCore a0 d) := by
  unfold wakeCore
  repeat' with_reducible first
    | exact h | assumption | apply keeps_setCore hP | apply keeps_forEach | apply keeps_doIf
    | intro _ _ _ | intro _ _

theorem keeps_ringWrite (a0) (a1) (a2) (a3) (a4) {d : Dev} (h : P d) : P (ringWrite a0 a1 a2 a3 a4 d) := by
  unfold ringWrite
  try dsimp only
  repeat' with_reducible first
    | exact h | assumption | apply keeps_wakeCore hP | apply keeps_startTimer hP | apply keeps_setRamWords hP | apply keeps_pmcAdd hP
    | apply keeps_setF hP | apply keeps_doIf

theorem keeps_note (a0) {d : Dev} (h : P d) : P (note a0 d) := by
  unfold note
  repeat' with_reducible first
    | exact h | apply keeps_pmcSup hP | apply keeps_offer hP

theorem keeps_writeOver (a0) {d : Dev} (h : P d) : P (writeOver a0 d) := by
  unfold writeOver
  try dsimp only
  repeat' with_reducible first
    | exact h | apply keeps_note hP | apply keeps_ringWrite hP
    | with_reducible apply keeps_rest hP

theorem keeps_deliver (a0) (a1) {d : Dev} (h : P d) : P (deliver a0 a1 d) := by
  unfold deliver
  try dsimp only
  repeat' first
    | (with_reducible first
      | exact h | assumption | apply keeps_writeOver hP | apply keeps_ringWrite hP | apply keeps_dropPend hP | apply keeps_satAdd hP
      | apply keeps_doIf | apply keeps_ite)
    | split
    | intro _ _ _ | intro _ _
    | with_reducible apply keeps_rest hP

theorem keeps_digestFlag (a0) (a1) (a2) {d : Dev} (h : P d) : P (digestFlag a0 a1 a2 d) := by
  unfold digestFlag
  repeat' with_reducible first
    | exact h | assumption | apply keeps_setB hP | apply keeps_raise hP | apply keeps_doIf

theorem keeps_disagreeExpiryF (a0) (a1) {d : Dev} (h : P d) : P (disagreeExpiryF a0 a1 d) := by
  unfold disagreeExpiryF
  try dsimp only
  repeat' first
    | (with_reducible first
      | exact h | assumption | apply keeps_arbitrate hP | apply keeps_slotTo hP | apply keeps_raise hP | apply keeps_setF hP | apply keeps_ite
     )
    | split
    | intro _ _ _ | intro _ _
    | with_reducible apply keeps_rest hP

theorem keeps_disagreeStep {d : Dev} (h : P d) : P (disagreeStep d) := by
  unfold disagreeStep
  try dsimp only
  repeat' with_reducible first
    | exact h | assumption | apply keeps_arbitrate hP | apply keeps_apartStep hP | apply keeps_setB hP | apply keeps_forEach
    | intro _ _ _ | intro _ _
    | with_reducible apply keeps_rest hP

theorem keeps_gnssBegin {d : Dev} (h : P d) : P (gnssBegin d) := by
  unfold gnssBegin
  try dsimp only
  repeat' with_reducible first
    | exact h | apply keeps_powerUp hP | apply keeps_snapArm hP
    | with_reducible apply keeps_rest hP

theorem keeps_discOver {d : Dev} (h : P d) : P (discOver d) := by
  unfold discOver
  try dsimp only
  repeat' first
    | (with_reducible first
      | exact h | apply keeps_gnssBegin hP | apply keeps_wakeEnd hP | apply keeps_ite)
    | split
    | with_reducible apply keeps_rest hP

theorem keeps_discFail {d : Dev} (h : P d) : P (discFail d) := by
  unfold discFail
  try dsimp only
  repeat' first
    | (with_reducible first
      | exact h | apply keeps_discOver hP | apply keeps_wakeBy hP | apply keeps_addBase hP | apply keeps_satAdd hP | apply keeps_raise hP
      | apply keeps_ite)

theorem keeps_discMeasure (a0) (a1) {d : Dev} (h : P d) : P (discMeasure a0 a1 d) := by
  unfold discMeasure
  try dsimp only
  repeat' first
    | (with_reducible first
      | exact h | apply keeps_discFail hP | apply keeps_discOver hP | apply keeps_addBase hP | apply keeps_raise hP | apply keeps_wr64 hP
      | apply keeps_ite)
    | split
    | with_reducible apply keeps_rest hP

theorem keeps_dmaPages (a0) (a1) (a2) (a3) {d : Dev} (h : P d) : P (dmaPages a0 a1 a2 a3 d).2 := by
  unfold dmaPages
  try dsimp only
  repeat' first
    | (with_reducible first
      | exact h | assumption | apply keeps_dmaXlat hP | apply keeps_ite)
    | split

theorem keeps_takeCredit (a0) (a1) {d : Dev} (h : P d) : P (takeCredit a0 a1 d) := by
  unfold takeCredit
  try dsimp only
  repeat' first
    | (with_reducible first
      | exact h | assumption | apply keeps_modDch hP | apply keeps_crdMove hP | apply keeps_ite)

theorem keeps_dmaBeatOf (a0) (a1) (a2) {d : Dev} (h : P d) : P (dmaBeatOf a0 a1 a2 d) := by
  unfold dmaBeatOf
  dsimp only
  split
  · exact keeps_dmaEnd hP _ _ h
  · have t := keeps_takeCredit hP a0 a2 h
    have k := fun va n acc (x : Dev) (hx : P x) => keeps_dmaPages hP a0 va n acc hx
    split
    · split <;> rename_i e <;> have k1 := e ▸ k _ _ _ _ t
      · exact keeps_dmaParkOp hP _ _ _ _ _ k1
      · split
        · split <;> rename_i f <;> have k2 := f ▸ k _ _ _ _ k1
          · exact keeps_dmaParkOp hP _ _ _ _ _ k2
          · exact keeps_beatFrom hP _ _ _ _ _ _ k2
        · split
          · split <;> rename_i f <;> have k2 := f ▸ k _ _ _ _ k1
            · exact keeps_dmaParkOp hP _ _ _ _ _ k2
            · exact keeps_beatFrom hP _ _ _ _ _ _ k2
          · exact keeps_beatFrom hP _ _ _ _ _ _ k1
    · split <;> rename_i e <;> have k1 := e ▸ k _ _ _ _ t
      · exact keeps_dmaParkOp hP _ _ _ _ _ k1
      · exact keeps_beatInto hP _ _ _ _ _ k1

theorem keeps_tokTake (a0) (a1) {d : Dev} (h : P d) : P (tokTake a0 a1 d) := by
  unfold tokTake
  try dsimp only
  repeat' with_reducible first
    | exact h | apply keeps_setF hP

theorem keeps_dmaFetch (a0) {d : Dev} (h : P d) : P (dmaFetch a0 d) := by
  unfold dmaFetch
  dsimp only
  split
  · exact h
  · have k := fun a => keeps_dmaPages hP a0 a 32 .read h
    split <;> rename_i e <;> have k := e ▸ k _
    · exact keeps_doIf (fun _ h => keeps_dmaParkOp hP _ _ _ _ _ h) k
    · have m := fun l => keeps_dmaGets hP l k
      split <;> rename_i f <;> have m := f ▸ m _
      · exact keeps_doIf (fun _ h => keeps_dmaParkOp hP _ _ _ _ _ h) m
      · exact keeps_tokTake hP _ _ (keeps_modDch hP _ _ m)

theorem keeps_dmaBeatF (a0) {d : Dev} (h : P d) : P (dmaBeatF a0 d) := by
  unfold dmaBeatF
  dsimp only
  split
  · exact h
  · have k : P (forEach (List.range 16) (fun ch x => forEach (List.range 8) (fun _ y => dmaFetch ch y) (dmaActivate ch x)) d) :=
      keeps_forEach (fun ch x hx => keeps_forEach (fun _ y hy => keeps_dmaFetch hP ch hy) (keeps_dmaActivate hP ch hx)) h
    split
    · exact k
    · split
      · exact hP.rest _ _ _ _ _ _ _ _ _ _ _ _ _ _ _ _ _ _ _ _ _ _ _ k
      · exact keeps_dmaBeatOf hP _ _ _ (hP.rest _ _ _ _ _ _ _ _ _ _ _ _ _ _ _ _ _ _ _ _ _ _ _ k)

theorem keeps_dmaIn {d : Dev} (h : P d) : P (dmaIn d) := by
  unfold dmaIn
  repeat' with_reducible first
    | exact h | apply keeps_setF hP

theorem keeps_dmaOut {d : Dev} (h : P d) : P (dmaOut d) := by
  unfold dmaOut
  try dsimp only
  repeat' with_reducible first
    | exact h | assumption | apply keeps_dmaAbortOp hP | apply keeps_setF hP | apply keeps_forEach

theorem keeps_recorderWriteF {d : Dev} (h : P d) : P (recorderWriteF d) := by
  unfold recorderWriteF
  try dsimp only
  repeat' first
    | (with_reducible first
      | exact h | apply keeps_setRamWords hP | apply keeps_pmcSup hP | apply keeps_pmcAdd hP | apply keeps_wrN hP)
    | split
    | with_reducible apply keeps_rest hP

theorem keeps_drainRecorder {d : Dev} (h : P d) : P (drainRecorder d) := by
  unfold drainRecorder
  repeat' with_reducible first
    | exact h | assumption | apply keeps_recorderWriteF hP | apply keeps_forEach
    | intro _ _ _

theorem keeps_dropBeat {d : Dev} (h : P d) : P (dropBeat d) := by
  unfold dropBeat
  try dsimp only
  repeat' first
    | (with_reducible first
      | exact h | apply keeps_dmaParkOp hP)
    | split

theorem keeps_dropClaim {d : Dev} (h : P d) : P (dropClaim d) := by
  unfold dropClaim
  try dsimp only
  repeat' with_reducible first
    | exact h | assumption | apply keeps_setDriving hP | apply keeps_forEach | apply keeps_doIf
    | intro _ _ _ | intro _ _
    | with_reducible apply keeps_rest hP

theorem keeps_dropEvent {d : Dev} (h : P d) : P (dropEvent d) := by
  unfold dropEvent
  try dsimp only
  repeat' with_reducible first
    | exact h | assumption | apply keeps_raise hP | apply keeps_doIf
    | intro _ _ _ | intro _ _
    | with_reducible apply keeps_rest hP

theorem keeps_dropInFlight (a0) {d : Dev} (h : P d) : P (dropInFlight a0 d) := by
  unfold dropInFlight
  try dsimp only
  repeat' first
    | (with_reducible first
      | exact h | assumption | apply keeps_setWait hP | apply keeps_setPipeQ hP | apply keeps_rxFree hP | apply keeps_svcCnt hP
      | apply keeps_forEach)
    | split
    | intro _ _ _

theorem keeps_dropSet {d : Dev} (h : P d) : P (dropSet d) := by
  unfold dropSet
  try dsimp only
  repeat' first
    | (with_reducible first
      | exact h | apply keeps_tbRefuse hP | apply keeps_dropPending hP | apply keeps_ite)

theorem keeps_dsgKey (a0) {d : Dev} (h : P d) : P (dsgKey d a0).2 := by
  unfold dsgKey
  extract_lets e msg
  clear_value e msg
  split
  · exact h
  · split
    · exact hP.rest _ _ _ _ _ _ _ _ _ _ _ _ _ _ _ _ _ _ _ _ _ _ _ h
    · exact h

theorem keeps_dsgDup (a0) {d : Dev} (h : P d) : P (dsgDup a0 d).2 := by
  unfold dsgDup
  split
  · exact h
  · extract_lets k
    have k0 : P k.2 := keeps_dsgKey hP a0 h
    clear_value k
    split
    · exact k0
    · extract_lets r d1 d2
      have k2 : P d2 := keeps_doIf (fun _ h => keeps_dsgCnt hP 12 1 h) (keeps_modDsg hP _ k0)
      clear_value r d2
      split
      · exact k2
      · exact keeps_dsgCnt hP _ _ k2

theorem keeps_toFirmware (a0) {d : Dev} (h : P d) : P (toFirmware a0 d) := by
  unfold toFirmware
  try dsimp only
  repeat' with_reducible first
    | exact h | apply keeps_bufMove hP
    | with_reducible apply keeps_rest hP

theorem keeps_toHost (a0) (a1) {d : Dev} (h : P d) : P (toHost a0 a1 d) := by
  unfold toHost
  try dsimp only
  repeat' first
    | (with_reducible first
      | exact h | apply keeps_onceSec hP | apply keeps_svcCnt hP | apply keeps_bufMove hP | apply keeps_ite)
    | split
    | with_reducible apply keeps_rest hP

theorem keeps_pipePut (a0) (a1) {d : Dev} (h : P d) : P (pipePut a0 a1 d) := by
  unfold pipePut
  repeat' with_reducible first
    | exact h | apply keeps_setPipeQ hP

theorem keeps_pipeFrame (a0) (a1) {d : Dev} (h : P d) : P (pipeFrame a0 a1 d) := by
  unfold pipeFrame
  try dsimp only
  repeat' first
    | (with_reducible first
      | exact h | apply keeps_pipePut hP | apply keeps_svcCnt hP | apply keeps_bufMove hP | apply keeps_ite)

theorem keeps_toPipe (a0) (a1) (a2) {d : Dev} (h : P d) : P (toPipe a0 a1 a2 d) := by
  unfold toPipe
  try dsimp only
  repeat' first
    | (with_reducible first
      | exact h | apply keeps_pipeFrame hP | apply keeps_rxFree hP | apply keeps_svcCnt hP)
    | split

theorem keeps_toUpstream (a0) (a1) (a2) {d : Dev} (h : P d) : P (toUpstream a0 a1 a2 d) := by
  unfold toUpstream
  try dsimp only
  repeat' first
    | (with_reducible first
      | exact h | assumption | apply keeps_toFirmware hP | apply keeps_rxFree hP | apply keeps_twnCount hP | apply keeps_modTwn hP | apply keeps_ite
     )

theorem keeps_svcAccept (a0) {d : Dev} (h : P d) : P (svcAccept a0 d) := by
  unfold svcAccept
  try dsimp only
  repeat' first
    | (with_reducible first
      | exact h | assumption | apply keeps_toUpstream hP | apply keeps_toPipe hP | apply keeps_toHost hP | apply keeps_toFirmware hP
      | apply keeps_rxFree hP | apply keeps_svcCnt hP | apply keeps_ite)
    | split
    | intro _ _ _ | intro _ _
    | with_reducible apply keeps_rest hP

theorem keeps_dsgAccept (a0) (a1) {d : Dev} (h : P d) : P (dsgAccept a0 a1 d) := by
  unfold dsgAccept
  try dsimp only
  repeat' first
    | (with_reducible first
      | exact h | assumption | apply keeps_svcAccept hP | apply keeps_dsgDup hP | apply keeps_modDsg hP | apply keeps_dsgCnt hP
      | apply keeps_bufMove hP | apply keeps_ite)

theorem keeps_dsgEcho (a0) {d : Dev} (h : P d) : P (dsgEcho a0 d) := by
  unfold dsgEcho
  try dsimp only
  repeat' first
    | (with_reducible first
      | exact h | assumption | apply keeps_modDsg hP | apply keeps_ite)
    | split

theorem keeps_rxTake (a0) (a1) (a2) (a3) (a4) (a5) {d : Dev} (h : P d) : P (rxTake a0 a1 a2 a3 a4 a5 d).2 := by
  unfold rxTake
  try dsimp only
  repeat' first
    | (with_reducible first
      | exact h | assumption | apply keeps_modPsub hP | apply keeps_bufMove hP | apply keeps_doIf | apply keeps_ite)
    | split

theorem keeps_dsgTake (a0) {d : Dev} (h : P d) : P (dsgTake a0 d).2 := by
  unfold dsgTake
  repeat' with_reducible first
    | exact h | apply keeps_rxTake hP

theorem keeps_dsgReceive (a0) {d : Dev} (h : P d) : P (dsgReceive a0 d) := by
  unfold dsgReceive
  split
  · exact h
  · extract_lets pkt r
    have k : P r.2 := keeps_dsgTake hP _ h
    clear_value r
    split
    · exact k
    · extract_lets toLow fin
      exact keeps_doIf (fun _ h => keeps_dsgAccept hP _ _ h) (keeps_rxCount hP _ _ _ k)

theorem keeps_dsgShift (a0) {d : Dev} (h : P d) : P (dsgShift a0 d) := by
  unfold dsgShift
  try dsimp only
  repeat' first
    | (with_reducible first
      | exact h | apply keeps_dsgLocked hP | apply keeps_setF hP | apply keeps_ite)

theorem keeps_dsgWire (a0) {d : Dev} (h : P d) : P (dsgWire a0 d) := by
  unfold dsgWire
  repeat' with_reducible first
    | exact h | assumption | apply keeps_dsgCnt hP | apply keeps_modPsub hP

theorem keeps_reportTx (a0) (a1) (a2) (a3) {d : Dev} (h : P d) : P (reportTx a0 a1 a2 a3 d) := by
  unfold reportTx
  try dsimp only
  repeat' with_reducible first
    | exact h
    | with_reducible apply keeps_rest hP

theorem keeps_txAfter (a0) (a1) (a2) (a3) {d : Dev} (h : P d) : P (txAfter a0 a1 a2 a3 d) := by
  unfold txAfter
  try dsimp only
  repeat' first
    | (with_reducible first
      | exact h | apply keeps_reportTx hP | apply keeps_pipePut hP | apply keeps_txFree hP)
    | split

theorem keeps_dsgTransmit (a0) (a1) {d : Dev} (h : P d) : P (dsgTransmit a0 a1 d) := by
  unfold dsgTransmit
  try dsimp only
  repeat' first
    | (with_reducible first
      | exact h | assumption | apply keeps_txAfter hP | apply keeps_dsgWire hP | apply keeps_dsgEcho hP | apply keeps_dsgCnt hP | apply keeps_doIf
     )

theorem keeps_idxReach (a0) (a1) {d : Dev} (h : P d) : P (idxReach a0 a1 d) := by
  unfold idxReach
  repeat' with_reducible first
    | exact h | assumption | apply keeps_wr64 hP | apply keeps_doIf

theorem keeps_putWords (a0) (a1) {d : Dev} (h : P d) : P (putWords a0 a1 d) := by
  unfold putWords
  repeat' with_reducible first
    | exact h | apply keeps_setRamWords hP

theorem keeps_dumpRecord (a0) (a1) (a2) {d : Dev} (h : P d) : P (dumpRecord a0 a1 a2 d) := by
  unfold dumpRecord
  extract_lets sig x r step pw y d1 d2 s1 d3 s2 w a
  have k : P d1 := keeps_idxReach hP _ _ (keeps_setF hP _ _ h)
  clear_value x r step y d1
  split
  · have k3 : P d3 := hP.rest _ _ _ _ _ _ _ _ _ _ _ _ _ _ _ _ _ _ _ _ _ _ _ (keeps_setGch hP _ _ k)
    clear_value d2 d3
    split
    · exact k3
    · exact keeps_raise hP _ _ (hP.rest _ _ _ _ _ _ _ _ _ _ _ _ _ _ _ _ _ _ _ _ _ _ _ k3)
  · exact keeps_setF hP _ _ (keeps_putWords hP _ _ (keeps_setGch hP _ _ k))

theorem keeps_dumpCh (a0) (a1) {d : Dev} (h : P d) : P (dumpCh a0 a1 d) := by
  unfold dumpCh
  try dsimp only
  repeat' first
    | (with_reducible first
      | exact h | assumption | apply keeps_dumpRecord hP | apply keeps_doIf)
    | split

theorem keeps_echoPeriod {d : Dev} (h : P d) : P (echoPeriod d) := by
  unfold echoPeriod
  try dsimp only
  repeat' first
    | (with_reducible first
      | exact h | assumption | apply keeps_modDsg hP | apply keeps_raise hP | apply keeps_raise3 hP | apply keeps_wrN hP | apply keeps_setF hP
      | apply keeps_ite)

theorem keeps_endInitCal {d : Dev} (h : P d) : P (endInitCal d) := by
  unfold endInitCal
  try dsimp only
  repeat' with_reducible first
    | exact h | assumption | apply keeps_doIf
    | intro _ _ _ | intro _ _
    | with_reducible apply keeps_rest hP

theorem keeps_endJobs {d : Dev} (h : P d) : P (endJobs d) := by
  unfold endJobs
  try dsimp only
  repeat' with_reducible first
    | exact h | assumption | apply keeps_setF hP | apply keeps_forEach
    | intro _ _ _ | intro _ _
    | with_reducible apply keeps_rest hP

theorem keeps_endSlew {d : Dev} (h : P d) : P (endSlew d) := by
  unfold endSlew
  try dsimp only
  repeat' with_reducible first
    | exact h | assumption | apply keeps_setB hP | apply keeps_raise hP | apply keeps_doIf

theorem keeps_partFence (a0) {d : Dev} (h : P d) : P (partFence a0 d) := by
  unfold partFence
  repeat' with_reducible first
    | exact h | assumption | apply keeps_modUnit hP | apply keeps_raise hP

theorem keeps_engineFence (a0) {d : Dev} (h : P d) : P (engineFence a0 d) := by
  unfold engineFence
  try dsimp only
  repeat' first
    | (with_reducible first
      | exact h | apply keeps_partFence hP | apply keeps_fenceUnit hP | apply keeps_engineOut hP | apply keeps_reportUnit hP | apply keeps_raise hP
      | apply keeps_ite)

theorem keeps_engineFree (a0) {d : Dev} (h : P d) : P (engineFree a0 d) := by
  unfold engineFree
  try dsimp only
  repeat' first
    | (with_reducible first
      | exact h | assumption | apply keeps_crdMove hP | apply keeps_ite)
    | split
    | intro _ _ _ | intro _ _
    | with_reducible apply keeps_rest hP

theorem keeps_engineHold (a0) {d : Dev} (h : P d) : P (engineHold a0 d) := by
  unfold engineHold
  try dsimp only
  repeat' first
    | (with_reducible first
      | exact h | apply keeps_crdMove hP | apply keeps_ite)
    | split
    | with_reducible apply keeps_rest hP

theorem keeps_engineOutEv (a0) {d : Dev} (h : P d) : P (engineOutEv a0 d) := by
  unfold engineOutEv
  try dsimp only
  repeat' first
    | (with_reducible first
      | exact h | apply keeps_engineOut hP | apply keeps_raise hP | apply keeps_ite)

theorem keeps_engineTests (a0) {d : Dev} (h : P d) : P (engineTests a0 d) := by
  unfold engineTests
  try dsimp only
  repeat' with_reducible first
    | exact h | assumption | apply keeps_engineFence hP | apply keeps_forEach | apply keeps_doIf
    | intro _ _ _ | intro _ _
    | with_reducible apply keeps_rest hP

theorem keeps_ensembleStep {d : Dev} (h : P d) : P (ensembleStep d) := by
  unfold ensembleStep
  try dsimp only
  repeat' first
    | (with_reducible first
      | exact h | apply keeps_ite)
    | split
    | with_reducible apply keeps_rest hP

theorem keeps_ensembleTimeoutF {d : Dev} (h : P d) : P (ensembleTimeoutF d) := by
  unfold ensembleTimeoutF
  try dsimp only
  repeat' first
    | (with_reducible first
      | exact h | apply keeps_setB hP | apply keeps_raise hP | apply keeps_ite)
    | split
    | with_reducible apply keeps_rest hP

theorem keeps_transDone {d : Dev} (h : P d) : P (transDone d) := by
  unfold transDone
  try dsimp only
  repeat' with_reducible first
    | exact h | apply keeps_setF hP
    | with_reducible apply keeps_rest hP

theorem keeps_enterLow (a0) {d : Dev} (h : P d) : P (enterLow a0 d) := by
  unfold enterLow
  try dsimp only
  repeat' with_reducible first
    | exact h | assumption | apply keeps_transDone hP | apply keeps_dropSet hP | apply keeps_stateBlock hP | apply keeps_stateTo hP
    | apply keeps_stages hP | apply keeps_allDown hP | apply keeps_fixHold hP | apply keeps_setF hP | apply keeps_doIf
    | intro _ _ _ | intro _ _
    | with_reducible apply keeps_rest hP

theorem keeps_laneSlip (a0) (a1) {d : Dev} (h : P d) : P (laneSlip a0 a1 d) := by
  unfold laneSlip
  repeat' with_reducible first
    | exact h | apply keeps_draw hP | apply keeps_setF hP

theorem keeps_enterUp (a0) (a1) (a2) {d : Dev} (h : P d) : P (enterUp a0 a1 a2 d) := by
  unfold enterUp
  try dsimp only
  repeat' with_reducible first
    | exact h | assumption | apply keeps_laneSlip hP | apply keeps_postLane hP | apply keeps_setB hP | apply keeps_raise hP | apply keeps_setF hP
    | apply keeps_forEach
    | intro _ _ _

theorem keeps_qDrop (a0) (a1) {d : Dev} (h : P d) : P (qDrop a0 a1 d) := by
  unfold qDrop
  repeat' with_reducible first
    | exact h | apply keeps_qStatus hP | apply keeps_dsgCnt hP | apply keeps_raise hP

theorem keeps_qStart (a0) (a1) (a2) {d : Dev} (h : P d) : P (qStart a0 a1 a2 d) := by
  unfold qStart
  try dsimp only
  repeat' first
    | (with_reducible first
      | exact h | assumption | apply keeps_qDrop hP | apply keeps_dsgWire hP | apply keeps_dsgEcho hP | apply keeps_qStatus hP
      | apply keeps_modDsg hP | apply keeps_dsgCnt hP | apply keeps_raise hP | apply keeps_wr64 hP | apply keeps_doIf | apply keeps_ite
     )
    | split
    | intro _ _ _ | intro _ _

theorem keeps_entryDue (a0) (a1) (a2) (a3) (a4) {d : Dev} (h : P d) : P (entryDue a0 a1 a2 a3 a4 d) := by
  unfold entryDue
  try dsimp only
  repeat' first
    | (with_reducible first
      | exact h | assumption | apply keeps_qStart hP | apply keeps_qDrop hP | apply keeps_dsgCnt hP | apply keeps_reportUnit hP | apply keeps_doIf
      | apply keeps_ite)

theorem keeps_ephParity {d : Dev} (h : P d) : P (ephParity d) := by
  unfold ephParity
  try dsimp only
  repeat' with_reducible first
    | exact h | apply keeps_reportUnit hP
    | with_reducible apply keeps_rest hP

theorem keeps_ephStored {d : Dev} (h : P d) : P (ephStored d) := by
  unfold ephStored
  try dsimp only
  repeat' with_reducible first
    | exact h | assumption | apply keeps_gnssOver hP | apply keeps_doIf
    | intro _ _ _ | intro _ _
    | with_reducible apply keeps_rest hP

theorem keeps_epochMarks {d : Dev} (h : P d) : P (epochMarks d) := by
  unfold epochMarks
  try dsimp only
  repeat' with_reducible first
    | exact h | assumption | apply keeps_mapChans hP
    | intro _ _ _ | intro _ _
    | with_reducible apply keeps_rest hP

theorem keeps_fireAlarm (a0) (a1) {d : Dev} (h : P d) : P (fireAlarm a0 a1 d) := by
  unfold fireAlarm
  try dsimp only
  repeat' first
    | (with_reducible first
      | exact h | apply keeps_satAdd hP | apply keeps_setB hP | apply keeps_raise hP | apply keeps_wr64 hP | apply keeps_ite
     )

theorem keeps_fireDueAlarms {d : Dev} (h : P d) : P (fireDueAlarms d) := by
  unfold fireDueAlarms
  repeat' with_reducible first
    | exact h | assumption | apply keeps_fireAlarm hP | apply keeps_forEach | apply keeps_doIf
    | intro _ _ _

theorem keeps_followSlew {d : Dev} (h : P d) : P (followSlew d) := by
  unfold followSlew
  try dsimp only
  repeat' first
    | (with_reducible first
      | exact h | assumption | apply keeps_tbRefuse hP | apply keeps_mapChans hP | apply keeps_ite)
    | split
    | intro _ _ _ | intro _ _
    | with_reducible apply keeps_rest hP

theorem keeps_inlSwitch {d : Dev} (h : P d) : P (inlSwitch d) := by
  unfold inlSwitch
  try dsimp only
  repeat' first
    | (with_reducible first
      | exact h | assumption | apply keeps_raise3 hP | apply keeps_wrN hP | apply keeps_setF hP | apply keeps_forEach)
    | split
    | intro _ _ _ | intro _ _
    | with_reducible apply keeps_rest hP

theorem keeps_freeboardStep (a0) (a1) (a2) {d : Dev} (h : P d) : P (freeboardStep a0 a1 a2 d) := by
  unfold freeboardStep
  try dsimp only
  repeat' first
    | (with_reducible first
      | exact h | apply keeps_wrS64 hP | apply keeps_raise hP | apply keeps_setF hP | apply keeps_ite)
    | split
    | with_reducible apply keeps_rest hP

theorem keeps_holdStep (a0) {d : Dev} (h : P d) : P (holdStep a0 d).2 := by
  unfold holdStep
  try dsimp only
  repeat' first
    | (with_reducible first
      | exact h | apply keeps_fixHold hP | apply keeps_wr64 hP | apply keeps_ite)
    | split
    | with_reducible apply keeps_rest hP

theorem keeps_traceRec (a0) (a1) (a2) {d : Dev} (h : P d) : P (traceRec a0 a1 a2 d) := by
  unfold traceRec
  try dsimp only
  repeat' with_reducible first
    | exact h | assumption | apply keeps_raise3 hP | apply keeps_wrN hP
    | intro _ _ _ | intro _ _
    | with_reducible apply keeps_rest hP

theorem keeps_traceStep (a0) {d : Dev} (h : P d) : P (traceStep a0 d) := by
  unfold traceStep
  try dsimp only
  repeat' with_reducible first
    | exact h | assumption | apply keeps_traceRec hP | apply keeps_forEach | apply keeps_doIf
    | intro _ _ _

theorem keeps_ledgerStep (a0) {d : Dev} (h : P d) : P (ledgerStep a0 d) := by
  unfold ledgerStep
  try dsimp only
  repeat' first
    | (with_reducible first
      | exact h | assumption | apply keeps_traceStep hP | apply keeps_holdStep hP | apply keeps_freeboardStep hP | apply keeps_reportUnit hP
      | apply keeps_setB hP | apply keeps_raise hP | apply keeps_wr64 hP | apply keeps_wrN hP | apply keeps_setF hP | apply keeps_forEach
      | apply keeps_doIf | apply keeps_ite | apply keeps_foldl | apply keeps_foldlSnd | apply keeps_foldlFst)
    | split
    | intro _ _ _ | intro _ _
    | with_reducible apply keeps_rest hP

theorem keeps_lpcReload {d : Dev} (h : P d) : P (lpcReload d) := by
  unfold lpcReload
  try dsimp only
  repeat' first
    | (with_reducible first
      | exact h | apply keeps_wr64 hP | apply keeps_ite)
    | split
    | with_reducible apply keeps_rest hP

theorem keeps_stepClocks (a0) {d : Dev} (h : P d) : P (stepClocks a0 d) := by
  unfold stepClocks
  try dsimp only
  repeat' with_reducible first
    | exact h | assumption
    | intro _ _ _ | intro _ _
    | with_reducible apply keeps_rest hP

theorem keeps_qStepped (a0) {d : Dev} (h : P d) : P (qStepped a0 d) := by
  unfold qStepped
  repeat' with_reducible first
    | exact h | assumption | apply keeps_modDsg hP

theorem keeps_publish (a0) (a1) (a2) {d : Dev} (h : P d) : P (publish a0 a1 a2 d) := by
  unfold publish
  try dsimp only
  repeat' with_reducible first
    | exact h | apply keeps_wrS64 hP | apply keeps_setMreq hP | apply keeps_wr64 hP | apply keeps_wrN hP

theorem keeps_putDly (a0) (a1) {d : Dev} (h : P d) : P (putDly a0 a1 d) := by
  unfold putDly
  try dsimp only
  repeat' first
    | (with_reducible first
      | exact h | apply keeps_draw hP | apply keeps_setF hP | apply keeps_ite)

theorem keeps_setPhi (a0) (a1) (a2) {d : Dev} (h : P d) : P (setPhi a0 a1 a2 d) := by
  unfold setPhi
  try dsimp only
  repeat' with_reducible first
    | exact h | assumption | apply keeps_modPlane hP | apply keeps_wrN hP

theorem keeps_laneResult (a0) (a1) {d : Dev} (h : P d) : P (laneResult a0 a1 d) := by
  unfold laneResult
  try dsimp only
  repeat' first
    | (with_reducible first
      | exact h | assumption | apply keeps_setPhi hP | apply keeps_putDly hP | apply keeps_refreshCal hP | apply keeps_modPlane hP
      | apply keeps_modPsub hP | apply keeps_raise3 hP | apply keeps_wrN hP | apply keeps_forEach | apply keeps_ite)
    | split
    | intro _ _ _

theorem keeps_moveTarget (a0) (a1) {d : Dev} (h : P d) : P (moveTarget a0 a1 d) := by
  unfold moveTarget
  try dsimp only
  repeat' first
    | (with_reducible first
      | exact h | assumption | apply keeps_setSout hP | apply keeps_wrN hP | apply keeps_ite)

theorem keeps_outputResult (a0) {d : Dev} (h : P d) : P (outputResult a0 d) := by
  unfold outputResult
  try dsimp only
  repeat' first
    | (with_reducible first
      | exact h | assumption | apply keeps_moveTarget hP | apply keeps_postCal hP | apply keeps_setSpps hP | apply keeps_raise hP
      | apply keeps_wrN hP | apply keeps_setF hP | apply keeps_doIf | apply keeps_ite)
    | split
    | intro _ _ _ | intro _ _
    | with_reducible apply keeps_rest hP

theorem keeps_slotResult (a0) {d : Dev} (h : P d) : P (slotResult a0 d) := by
  unfold slotResult
  try dsimp only
  repeat' first
    | (with_reducible first
      | exact h | apply keeps_postSlot hP | apply keeps_takeResult hP | apply keeps_ite)

theorem keeps_epochX (a0) (a1) (a2) {d : Dev} (h : P d) : P (epochX a0 a1 a2 d) := by
  unfold epochX
  try dsimp only
  repeat' first
    | (with_reducible first
      | exact h | assumption | apply keeps_ite)
    | split
    | intro _ _ _ | intro _ _
    | with_reducible apply keeps_rest hP

theorem keeps_streamResult (a0) {d : Dev} (h : P d) : P (streamResult a0 d) := by
  unfold streamResult
  try dsimp only
  repeat' first
    | (with_reducible first
      | exact h | apply keeps_epochX hP)
    | split

theorem keeps_resultHook (a0) (a1) {d : Dev} (h : P d) : P (resultHook a0 a1 d) := by
  unfold resultHook
  try dsimp only
  repeat' first
    | (with_reducible first
      | exact h | assumption | apply keeps_streamResult hP | apply keeps_slotResult hP | apply keeps_outputResult hP | apply keeps_laneResult hP
      | apply keeps_captureResult hP | apply keeps_alignResult hP | apply keeps_ite)
    | split
    | intro _ _ _ | intro _ _
    | with_reducible apply keeps_rest hP

theorem keeps_resultOut (a0) (a1) (a2) (a3) {d : Dev} (h : P d) : P (resultOut a0 a1 a2 a3 d) := by
  unfold resultOut
  repeat' with_reducible first
    | exact h | apply keeps_resultHook hP | apply keeps_publish hP | apply keeps_afterResult hP

theorem keeps_realignBy (a0) (a1) {d : Dev} (h : P d) : P (realignBy a0 a1 d) := by
  unfold realignBy
  try dsimp only
  repeat' with_reducible first
    | exact h | apply keeps_moveTarget hP | apply keeps_setSout hP

theorem keeps_realign (a0) (a1) {d : Dev} (h : P d) : P (realign a0 a1 d) := by
  unfold realign
  try dsimp only
  repeat' with_reducible first
    | exact h | assumption | apply keeps_realignBy hP | apply keeps_setF hP | apply keeps_forEach
    | intro _ _ _

theorem keeps_stepAligned (a0) {d : Dev} (h : P d) : P (stepAligned a0 d) := by
  unfold stepAligned
  try dsimp only
  repeat' with_reducible first
    | exact h | assumption | apply keeps_realign hP

theorem keeps_stepEnds {d : Dev} (h : P d) : P (stepEnds d).2 := by
  unfold stepEnds
  try dsimp only
  repeat' with_reducible first
    | exact h | assumption | apply keeps_setMreq hP | apply keeps_forEach
    | intro _ _ _

theorem keeps_stepPhi (a0) {d : Dev} (h : P d) : P (stepPhi a0 d) := by
  unfold stepPhi
  repeat' with_reducible first
    | exact h | assumption | apply keeps_setPhi hP | apply keeps_forEach
    | intro _ _ _

theorem keeps_stepPulses (a0) (a1) {d : Dev} (h : P d) : P (stepPulses a0 a1 d) := by
  unfold stepPulses
  try dsimp only
  repeat' first
    | (with_reducible first
      | exact h | assumption | apply keeps_satAdd hP | apply keeps_raise hP | apply keeps_forEach | apply keeps_ite)
    | split
    | intro _ _ _

theorem keeps_stepEffects (a0) (a1) {d : Dev} (h : P d) : P (stepEffects a0 a1 d) := by
  unfold stepEffects
  try dsimp only
  repeat' with_reducible first
    | exact h | assumption | apply keeps_stepPulses hP | apply keeps_stepPhi hP | apply keeps_stepEnds hP | apply keeps_stepAligned hP
    | apply keeps_resultOut hP | apply keeps_qStepped hP | apply keeps_dsgShift hP | apply keeps_forEach
    | intro _ _ _

theorem keeps_mirroredStep {d : Dev} (h : P d) : P (mirroredStep d).1 := by
  unfold mirroredStep
  try dsimp only
  repeat' first
    | (with_reducible first
      | exact h | apply keeps_stepEffects hP | apply keeps_stepClocks hP | apply keeps_shiftTime hP | apply keeps_raise hP | apply keeps_ite
     )
    | split
    | with_reducible apply keeps_rest hP

theorem keeps_slideDelay (a0) {d : Dev} (h : P d) : P (slideDelay a0 d) := by
  unfold slideDelay
  try dsimp only
  repeat' first
    | (with_reducible first
      | exact h | assumption | apply keeps_setSout hP | apply keeps_wrN hP | apply keeps_doIf )

theorem keeps_outEpoch {d : Dev} (h : P d) : P (outEpoch d) := by
  unfold outEpoch
  try dsimp only
  repeat' with_reducible first
    | exact h | assumption | apply keeps_slideDelay hP | apply keeps_forEach | apply keeps_doIf
    | intro _ _ _ | intro _ _
    | with_reducible apply keeps_rest hP

theorem keeps_ownStep {d : Dev} (h : P d) : P (ownStep d).1 := by
  unfold ownStep
  try dsimp only
  repeat' first
    | (with_reducible first
      | exact h | assumption | apply keeps_stepEffects hP | apply keeps_stepClocks hP | apply keeps_applyPending hP | apply keeps_doIf
      | apply keeps_ite)
    | split
    | intro _ _ _ | intro _ _
    | with_reducible apply keeps_rest hP

theorem keeps_fenceMch (a0) {d : Dev} (h : P d) : P (fenceMch a0 d) := by
  unfold fenceMch
  try dsimp only
  repeat' with_reducible first
    | exact h | assumption | apply keeps_setReqState hP | apply keeps_releaseChan hP | apply keeps_clearAcc hP | apply keeps_setF hP
    | apply keeps_doIf
    | intro _ _ _ | intro _ _
    | with_reducible apply keeps_rest hP

theorem keeps_fencePort (a0) (a1) {d : Dev} (h : P d) : P (fencePort a0 a1 d) := by
  unfold fencePort
  try dsimp only
  repeat' first
    | (with_reducible first
      | exact h | assumption | apply keeps_leaveUp hP | apply keeps_dropTx hP | apply keeps_raise hP | apply keeps_setF hP | apply keeps_forEach
      | apply keeps_ite)
    | split
    | intro _ _ _

theorem keeps_snapDiscard {d : Dev} (h : P d) : P (snapDiscard d) := by
  unfold snapDiscard
  repeat' with_reducible first
    | exact h | apply keeps_raise hP | apply keeps_setF hP

theorem keeps_stallStream (a0) {d : Dev} (h : P d) : P (stallStream a0 d) := by
  unfold stallStream
  repeat' with_reducible first
    | exact h | assumption | apply keeps_stallCh hP | apply keeps_forEach

theorem keeps_loseStream (a0) {d : Dev} (h : P d) : P (loseStream a0 d) := by
  unfold loseStream
  try dsimp only
  repeat' with_reducible first
    | exact h | assumption | apply keeps_stallStream hP | apply keeps_snapDiscard hP | apply keeps_gnCount hP | apply keeps_raise hP
    | apply keeps_setF hP | apply keeps_doIf
    | intro _ _ _ | intro _ _
    | with_reducible apply keeps_rest hP

theorem keeps_pllOut (a0) {d : Dev} (h : P d) : P (pllOut a0 d) := by
  unfold pllOut
  repeat' with_reducible first
    | exact h | assumption | apply keeps_fencePort hP | apply keeps_offPll hP | apply keeps_forEach | apply keeps_doIf
    | intro _ _ _

theorem keeps_rngStop {d : Dev} (h : P d) : P (rngStop d) := by
  unfold rngStop
  repeat' with_reducible first
    | exact h | apply keeps_setF hP

theorem keeps_takeOut (a0) (a1) {d : Dev} (h : P d) : P (takeOut a0 a1 d) := by
  unfold takeOut
  try dsimp only
  repeat' first
    | (with_reducible first
      | exact h | assumption | apply keeps_rngStop hP | apply keeps_pllOut hP | apply keeps_loseStream hP | apply keeps_stallStream hP
      | apply keeps_fencePort hP | apply keeps_fenceMch hP | apply keeps_engineOutEv hP | apply keeps_dmaOut hP | apply keeps_coreOut hP
      | apply keeps_chanOut hP | apply keeps_refreshRing hP | apply keeps_closeWindow hP | apply keeps_refreshServing hP | apply keeps_endCycle hP
      | apply keeps_dsgLinkTo hP | apply keeps_linkTo hP | apply keeps_rxCut hP | apply keeps_measLoss hP | apply keeps_endpointReset hP
      | apply keeps_forEach | apply keeps_doIf | apply keeps_ite)
    | split
    | intro _ _ _ | intro _ _
    | with_reducible apply keeps_rest hP

theorem keeps_fenceOut (a0) (a1) {d : Dev} (h : P d) : P (fenceOut a0 a1 d) := by
  unfold fenceOut
  try dsimp only
  repeat' first
    | (with_reducible first
      | exact h | apply keeps_takeOut hP | apply keeps_fenceUnit hP | apply keeps_decideFatal hP | apply keeps_ite)

theorem keeps_monitorPll (a0) (a1) {d : Dev} (h : P d) : P (monitorPll a0 a1 d).1 := by
  unfold monitorPll
  try dsimp only
  repeat' first
    | (with_reducible first
      | exact h | assumption | apply keeps_outRun hP | apply keeps_setSpll hP | apply keeps_reportUnit hP | apply keeps_setB hP
      | apply keeps_raise hP | apply keeps_setF hP | apply keeps_forEach | apply keeps_doIf | apply keeps_ite)
    | split
    | intro _ _ _ | intro _ _

theorem keeps_pllMonitors (a0) {d : Dev} (h : P d) : P (pllMonitors a0 d) := by
  unfold pllMonitors
  try dsimp only
  repeat' first
    | (with_reducible first
      | exact h | assumption | apply keeps_monitorPll hP | apply keeps_fenceOut hP | apply keeps_forEach | apply keeps_doIf | apply keeps_ite
     )
    | split
    | intro _ _ _

theorem keeps_refit {d : Dev} (h : P d) : P (refit d) := by
  unfold refit
  try dsimp only
  repeat' first
    | (with_reducible first
      | exact h | assumption | apply keeps_setF hP | apply keeps_ite)
    | split
    | intro _ _ _ | intro _ _
    | with_reducible apply keeps_rest hP

theorem keeps_unclean (a0) {d : Dev} (h : P d) : P (unclean a0 d) := by
  unfold unclean
  repeat' with_reducible first
    | exact h | apply keeps_setF hP

theorem keeps_rewindTo (a0) {d : Dev} (h : P d) : P (rewindTo a0 d) := by
  unfold rewindTo
  try dsimp only
  repeat' first
    | (with_reducible first
      | exact h | assumption | apply keeps_unclean hP | apply keeps_refit hP | apply keeps_raise hP | apply keeps_setF hP | apply keeps_forEach
      | apply keeps_ite)
    | split
    | intro _ _ _ | intro _ _
    | with_reducible apply keeps_rest hP

theorem keeps_selectStep {d : Dev} (h : P d) : P (selectStep d) := by
  unfold selectStep
  try dsimp only
  repeat' first
    | (with_reducible first
      | exact h | assumption | apply keeps_setActive hP | apply keeps_setF hP | apply keeps_doIf | apply keeps_ite)
    | split

theorem keeps_servoDrive {d : Dev} (h : P d) : P (servoDrive d) := by
  unfold servoDrive
  try dsimp only
  repeat' first
    | (with_reducible first
      | exact h | apply keeps_steer hP | apply keeps_efcAt hP | apply keeps_wrS64 hP | apply keeps_ite)
    | split
    | with_reducible apply keeps_rest hP

theorem keeps_loseServo {d : Dev} (h : P d) : P (loseServo d) := by
  unfold loseServo
  try dsimp only
  repeat' first
    | (with_reducible first
      | exact h | apply keeps_servoTo hP )

theorem keeps_servoStep {d : Dev} (h : P d) : P (servoStep d) := by
  unfold servoStep
  try dsimp only
  repeat' first
    | (with_reducible first
      | exact h | apply keeps_loseServo hP | apply keeps_servoTo hP | apply keeps_refreshGains hP | apply keeps_ite)
    | split
    | with_reducible apply keeps_rest hP

theorem keeps_slotStep (a0) {d : Dev} (h : P d) : P (slotStep a0 d) := by
  unfold slotStep
  try dsimp only
  repeat' first
    | (with_reducible first
      | exact h | apply keeps_slotTo hP | apply keeps_setRslot hP | apply keeps_ite)

theorem keeps_slotTimers (a0) {d : Dev} (h : P d) : P (slotTimers a0 d) := by
  unfold slotTimers
  try dsimp only
  repeat' first
    | (with_reducible first
      | exact h | apply keeps_setRslot hP | apply keeps_setF hP | apply keeps_ite)

theorem keeps_refEpoch {d : Dev} (h : P d) : P (refEpoch d) := by
  unfold refEpoch
  try dsimp only
  repeat' first
    | (with_reducible first
      | exact h | assumption | apply keeps_slotTimers hP | apply keeps_slotStep hP | apply keeps_servoStep hP | apply keeps_servoDrive hP
      | apply keeps_selectStep hP | apply keeps_rewindTo hP | apply keeps_disagreeStep hP | apply keeps_classStep hP | apply keeps_accumulate hP
      | apply keeps_wrN hP | apply keeps_setF hP | apply keeps_forEach | apply keeps_doIf)
    | split
    | intro _ _ _ | intro _ _
    | with_reducible apply keeps_rest hP

theorem keeps_refWork {d : Dev} (h : P d) : P (refWork d) := by
  unfold refWork
  try dsimp only
  repeat' first
    | (with_reducible first
      | exact h | assumption | apply keeps_refEpoch hP | apply keeps_wrS64 hP | apply keeps_doIf | apply keeps_ite)
    | split
    | intro _ _ _ | intro _ _
    | with_reducible apply keeps_rest hP

theorem keeps_monitorStream (a0) (a1) {d : Dev} (h : P d) : P (monitorStream a0 a1 d) := by
  unfold monitorStream
  try dsimp only
  repeat' first
    | (with_reducible first
      | exact h | assumption | apply keeps_loseStream hP | apply keeps_gnCount hP | apply keeps_raise hP | apply keeps_wr64 hP | apply keeps_setF hP
      | apply keeps_doIf | apply keeps_ite)
    | split
    | intro _ _ _ | intro _ _
    | with_reducible apply keeps_rest hP

theorem keeps_streamMonitors (a0) {d : Dev} (h : P d) : P (streamMonitors a0 d) := by
  unfold streamMonitors
  try dsimp only
  repeat' first
    | (with_reducible first
      | exact h | assumption | apply keeps_monitorStream hP | apply keeps_forEach | apply keeps_doIf)
    | split
    | intro _ _ _

theorem keeps_transition (a0) {d : Dev} (h : P d) : P (transition a0 d) := by
  unfold transition
  try dsimp only
  repeat' first
    | (with_reducible first
      | exact h | apply keeps_enterLow hP | apply keeps_transDone hP | apply keeps_dropSet hP | apply keeps_stateTo hP
      | apply keeps_refreshServing hP)
    | split

theorem keeps_twinEpoch (a0) {d : Dev} (h : P d) : P (twinEpoch a0 d) := by
  unfold twinEpoch
  try dsimp only
  repeat' first
    | (with_reducible first
      | exact h | assumption | apply keeps_twnCount hP | apply keeps_sendMr hP | apply keeps_modTwn hP | apply keeps_raise hP | apply keeps_wrN hP
      | apply keeps_doIf | apply keeps_ite)

theorem keeps_wholeSecond {d : Dev} (h : P d) : P (wholeSecond d) := by
  unfold wholeSecond
  try dsimp only
  repeat' with_reducible first
    | exact h | assumption | apply keeps_calSecond hP | apply keeps_raise hP | apply keeps_setF hP | apply keeps_forEach | apply keeps_doIf
    | intro _ _ _ | intro _ _
    | with_reducible apply keeps_rest hP

theorem keeps_boundary {d : Dev} (h : P d) : P (boundary d).2.2 := by
  unfold boundary
  extract_lets d1 s a b
  exact keeps_mirroredStep hP (keeps_ownStep hP (keeps_followSlew hP (keeps_inlSwitch hP (keeps_applyEfc hP
    (keeps_applyFreq hP (keeps_ensembleStep hP h))))))

theorem keeps_epoch1msF (a0) {d : Dev} (h : P d) : P (epoch1msF a0 d) := by
  unfold epoch1msF
  split
  · exact h
  · extract_lets b s1 s2 e d1 d2 d3 d4 d5
    have k : P b.2.2 := keeps_boundary hP (keeps_epochMarks hP h)
    have k0 : P d1 := by
      refine keeps_refWork hP (keeps_lpcReload hP ?_)
      clear_value b
      dsimp only [e]
      split
      · exact keeps_alignGn hP (keeps_alignEpochs hP k)
      · exact hP.rest _ _ _ _ _ _ _ _ _ _ _ _ _ _ _ _ _ _ _ _ _ _ _ k
    have k2 : P d2 := keeps_twinEpoch hP _ (keeps_ledgerStep hP _ k0)
    have k3 : P d3 := keeps_streamMonitors hP _ (keeps_outEpoch hP (keeps_pllMonitors hP _ k2))
    have k4 : P d4 := keeps_dsgLocked hP (keeps_refreshPreds hP (keeps_doIf (fun _ h => keeps_fireDueAlarms hP h) k3))
    have k5 : P d5 := keeps_doIf (fun _ h => keeps_wholeSecond hP h) k4
    exact keeps_transition hP _ k5

end Sys2Proof.Laws
end

