-- ==== Sys2Proof/Laws/KeepsD.lean ====
section
/-! SUPPORT. What the operations do to the addressed stores, part 4 of 4 (`holdServo` to `zeroizationCompleteF`, each after the operations it
calls): a property of devices that the primitive writes keep (`Closed`) is kept by the operation. -/

namespace Sys2Proof.Laws

set_option Elab.async false

open Sys2Proof Sys2Proof.Machine

variable {P : Dev → Prop} (hP : Closed P)
include hP

theorem keeps_holdServo {d : Dev} (h : P d) : P (holdServo d) := by
  unfold holdServo
  repeat' with_reducible first
    | exact h | assumption | apply keeps_mapChans hP

theorem keeps_startOuts (a0) (a1) {d : Dev} (h : P d) : P (startOuts a0 a1 d) := by
  unfold startOuts
  repeat' with_reducible first
    | exact h | assumption | apply keeps_startOut hP | apply keeps_forEach | apply keeps_doIf
    | intro _ _ _

theorem keeps_restartPll (a0) {d : Dev} (h : P d) : P (restartPll a0 d) := by
  unfold restartPll
  try dsimp only
  repeat' first
    | (with_reducible first
      | exact h | assumption | apply keeps_startOuts hP | apply keeps_setSpll hP | apply keeps_raise hP | apply keeps_doIf | apply keeps_ite
     )

theorem keeps_epoch1usF (a0) {d : Dev} (h : P d) : P (epoch1usF a0 d) := by
  unfold epoch1usF
  try dsimp only
  repeat' with_reducible first
    | exact h | assumption | apply keeps_restartPll hP | apply keeps_holdServo hP | apply keeps_compareChans hP | apply keeps_capture1us hP
    | apply keeps_mapChans hP | apply keeps_pmcAdd hP | apply keeps_forEach | apply keeps_doIf
    | intro _ _ _ | intro _ _
    | with_reducible apply keeps_rest hP

theorem keeps_takeOp (c er) {d : Dev} {o e} (h : P d) (he : takeOp c er d = some (o, e)) : P e := by
  unfold takeOp at he
  split at he
  · cases he
  · split at he
    · injection he with he
      injection he with _ he
      rw [← he]
      exact hP.rest _ _ _ _ _ _ _ _ _ _ _ _ _ _ _ _ _ _ _ _ _ _ _ h
    · cases he

theorem keeps_programDone (a0) (a1) {d : Dev} (h : P d) : P (programDone a0 a1 d) := by
  unfold programDone
  split
  · exact h
  · rename_i e
    extract_lets want got d2 bad
    have k : P d2 := keeps_setFlashBytes hP _ _ (keeps_takeOp hP _ _ h e)
    clear_value d2 bad
    exact keeps_programLeft hP _ (keeps_doIf (fun _ h => keeps_chanErr hP _ _ _ h) k)

theorem keeps_eraseDone (a0) {d : Dev} (h : P d) : P (eraseDone a0 d) := by
  unfold eraseDone
  split
  · exact h
  · rename_i e
    exact keeps_programLeft hP _ (hP.flashKeep _ _ (keeps_takeOp hP _ _ h e))

theorem keeps_esmcSend (a0) (a1) {d : Dev} (h : P d) : P (esmcSend a0 a1 d) := by
  unfold esmcSend
  try dsimp only
  repeat' first
    | (with_reducible first
      | exact h | assumption | apply keeps_ownSend hP | apply keeps_ite)
    | split
    | intro _ _ _ | intro _ _
    | with_reducible apply keeps_rest hP

theorem keeps_eventRaiseF (a0) (a1) (a2) {d : Dev} (h : P d) : P (eventRaiseF a0 a1 a2 d) := by
  unfold eventRaiseF
  try dsimp only
  repeat' first
    | (with_reducible first
      | exact h | apply keeps_note hP | apply keeps_setPending hP | apply keeps_ite)
    | split
    | with_reducible apply keeps_rest hP

theorem keeps_exceptionOp (a0) (a1) {d : Dev} (h : P d) : P (exceptionOp a0 a1 d) := by
  unfold exceptionOp
  try dsimp only
  repeat' first
    | (with_reducible first
      | exact h | assumption | apply keeps_coreAccess hP | apply keeps_takeExc hP | apply keeps_modGroup hP | apply keeps_modCore hP
      | apply keeps_draw hP | apply keeps_ite)
    | split

theorem keeps_expire (a0) {d : Dev} (h : P d) : P (expire a0 d) := by
  unfold expire
  repeat' with_reducible first
    | exact h | assumption | apply keeps_sessEnd hP | apply keeps_svcCnt hP | apply keeps_doIf
    | intro _ _ _ | intro _ _

theorem keeps_fallBackF (a0) {d : Dev} (h : P d) : P (fallBackF a0 d) := by
  unfold fallBackF
  try dsimp only
  repeat' first
    | (with_reducible first
      | exact h | assumption | apply keeps_dropInFlight hP | apply keeps_dropBeat hP | apply keeps_refreshRing hP | apply keeps_reportUnit hP
      | apply keeps_setF hP | apply keeps_forEach | apply keeps_doIf | apply keeps_ite)
    | split
    | intro _ _ _ | intro _ _
    | with_reducible apply keeps_rest hP

theorem keeps_fatalRecord (a0) {d : Dev} (h : P d) : P (fatalRecord a0 d) := by
  unfold fatalRecord
  try dsimp only
  repeat' first
    | (with_reducible first
      | exact h | assumption | apply keeps_note hP | apply keeps_raise hP | apply keeps_setPending hP | apply keeps_ite)

theorem keeps_forgetSlots {d : Dev} (h : P d) : P (forgetSlots d) := by
  unfold forgetSlots
  try dsimp only
  repeat' first
    | (with_reducible first
      | exact h | assumption | apply keeps_ite)
    | split
    | intro _ _ _ | intro _ _
    | with_reducible apply keeps_rest hP

theorem keeps_recordHandling (a0) (a1) (a2) (a3) {d : Dev} (h : P d) : P (recordHandling a0 a1 a2 a3 d) := by
  unfold recordHandling
  try dsimp only
  repeat' first
    | (with_reducible first
      | exact h | apply keeps_note hP | apply keeps_fltCount hP | apply keeps_setF hP | apply keeps_setPending hP | apply keeps_ite
     )

theorem keeps_fatalPath {d : Dev} (h : P d) : P (fatalPath d) := by
  unfold fatalPath
  try dsimp only
  repeat' with_reducible first
    | exact h | assumption | apply keeps_recordHandling hP | apply keeps_forgetSlots hP | apply keeps_fatalRecord hP | apply keeps_dropClaim hP
    | apply keeps_drainRecorder hP | apply keeps_enterBoot hP | apply keeps_lifeAdd hP | apply keeps_forEach
    | intro _ _ _

theorem keeps_fatalDecisionF (a0) (a1) (a2) {d : Dev} (h : P d) : P (fatalDecisionF a0 a1 a2 d) := by
  unfold fatalDecisionF
  try dsimp only
  repeat' first
    | (with_reducible first
      | exact h | assumption | apply keeps_fatalPath hP | apply keeps_decideFatal hP | apply keeps_doIf | apply keeps_ite
     )

theorem keeps_fenceParts (a0) (a1) (a2) {d : Dev} (h : P d) : P (fenceParts a0 a1 a2 d) := by
  unfold fenceParts
  try dsimp only
  repeat' first
    | (with_reducible first
      | exact h | assumption | apply keeps_fenceMch hP | apply keeps_engineOutEv hP | apply keeps_partFence hP | apply keeps_fenceUnit hP
      | apply keeps_forEach | apply keeps_ite)

theorem keeps_forcedBlock (a0) {d : Dev} (h : P d) : P (forcedBlock a0 d) := by
  unfold forcedBlock
  try dsimp only
  repeat' first
    | (with_reducible first
      | exact h | assumption | apply keeps_stateBlock hP | apply keeps_doIf)
    | split
    | intro _ _ _ | intro _ _
    | with_reducible apply keeps_rest hP

theorem keeps_setFuseWord (a0) (a1) (a2) {d : Dev} (h : P d) : P (setFuseWord a0 a1 a2 d) := by
  unfold setFuseWord
  try dsimp only
  repeat' first
    | (with_reducible first
      | exact h | apply keeps_wr hP | apply keeps_ite)
    | split
    | with_reducible apply keeps_rest hP

theorem keeps_fuseCompleteF (a0) (a1) {d : Dev} (h : P d) : P (fuseCompleteF a0 a1 d) := by
  unfold fuseCompleteF
  try dsimp only
  repeat' first
    | (with_reducible first
      | exact h | assumption | apply keeps_setFuseWord hP | apply keeps_keyResult hP | apply keeps_raise hP | apply keeps_setF hP
      | apply keeps_forEach | apply keeps_doIf | apply keeps_ite)
    | split
    | intro _ _ _ | intro _ _
    | with_reducible apply keeps_rest hP

theorem keeps_refreshEnd {d : Dev} (h : P d) : P (refreshEnd d) := by
  unfold refreshEnd
  try dsimp only
  repeat' first
    | (with_reducible first
      | exact h | assumption | apply keeps_gnssOver hP | apply keeps_doIf)
    | split
    | intro _ _ _ | intro _ _

theorem keeps_wakeJoin (a0) (a1) {d : Dev} (h : P d) : P (wakeJoin a0 a1 d) := by
  unfold wakeJoin
  try dsimp only
  repeat' first
    | (with_reducible first
      | exact h | apply keeps_ite)
    | split
    | with_reducible apply keeps_rest hP

theorem keeps_wakeStart (a0) (a1) (a2) (a3) {d : Dev} (h : P d) : P (wakeStart a0 a1 a2 a3 d) := by
  unfold wakeStart
  try dsimp only
  repeat' first
    | (with_reducible first
      | exact h | assumption | apply keeps_wakeJoin hP | apply keeps_gnssBegin hP | apply keeps_powerUp hP | apply keeps_loadPages hP
      | apply keeps_lwExit hP | apply keeps_stages hP | apply keeps_startCore hP | apply keeps_satAdd hP | apply keeps_raise hP
      | apply keeps_setF hP | apply keeps_doIf | apply keeps_ite)
    | split
    | intro _ _ _ | intro _ _
    | with_reducible apply keeps_rest hP

theorem keeps_wakeF (a0) (a1) (a2) {d : Dev} (h : P d) : P (wakeF a0 a1 a2 d) := by
  unfold wakeF
  try dsimp only
  repeat' first
    | (with_reducible first
      | exact h | assumption | apply keeps_wakeStart hP | apply keeps_wakeJoin hP | apply keeps_discFail hP | apply keeps_gnssBegin hP
      | apply keeps_doIf | apply keeps_ite)
    | split
    | intro _ _ _ | intro _ _

theorem keeps_gnssWakeF (a0) {d : Dev} (h : P d) : P (gnssWakeF a0 d) := by
  unfold gnssWakeF
  try dsimp only
  repeat' first
    | (with_reducible first
      | exact h | assumption | apply keeps_wakeF hP | apply keeps_refreshEnd hP | apply keeps_ephStored hP | apply keeps_doIf
     )
    | split
    | intro _ _ _ | intro _ _

theorem keeps_grant (a0) (a1) {d : Dev} (h : P d) : P (grant a0 a1 d) := by
  unfold grant
  try dsimp only
  repeat' first
    | (with_reducible first
      | exact h | assumption | apply keeps_setReqState hP | apply keeps_clearAcc hP | apply keeps_setMreq hP | apply keeps_wr64 hP
      | apply keeps_setF hP | apply keeps_doIf | apply keeps_ite)
    | split
    | intro _ _ _ | intro _ _
    | with_reducible apply keeps_rest hP

theorem keeps_groupMarks {d : Dev} (h : P d) : P (groupMarks d) := by
  unfold groupMarks
  repeat' with_reducible first
    | exact h | apply keeps_endSlew hP | apply keeps_noteSlew hP | apply keeps_checkSat hP

theorem keeps_guardRead (a0) (a1) (a2) (h2 : ∀ x, P x → P (a2 x)) {d : Dev} (h : P d) : P (guardRead a0 a1 a2 d) := by
  unfold guardRead
  try dsimp only
  repeat' first
    | (with_reducible first
      | exact h | apply h2 | apply keeps_offAccess hP | apply keeps_ite)
    | split
    | with_reducible apply keeps_rest hP

theorem keeps_guardWrite (a0) (a1) (a2) (h2 : ∀ x, P x → P (a2 x)) {d : Dev} (h : P d) : P (guardWrite a0 a1 a2 d) := by
  unfold guardWrite
  try dsimp only
  repeat' first
    | (with_reducible first
      | exact h | apply h2 | apply keeps_obsRefuse hP | apply keeps_offAccess hP | apply keeps_ite)

theorem keeps_handlingFails (a0) (a1) (a2) {d : Dev} (h : P d) : P (handlingFails a0 a1 a2 d) := by
  unfold handlingFails
  try dsimp only
  repeat' first
    | (with_reducible first
      | exact h | apply keeps_fenceParts hP | apply keeps_recordHandling hP | apply keeps_fenceOut hP | apply keeps_closeSlot hP
      | apply keeps_decideWith hP | apply keeps_fltCount hP | apply keeps_ite)

theorem keeps_testEnds (a0) {d : Dev} (h : P d) : P (testEnds a0 d) := by
  unfold testEnds
  try dsimp only
  repeat' first
    | (with_reducible first
      | exact h | assumption | apply keeps_refreshRing hP | apply keeps_refreshServing hP | apply keeps_measReturn hP | apply keeps_dsgLinkTo hP
      | apply keeps_linkTo hP | apply keeps_setF hP | apply keeps_doIf)
    | split
    | intro _ _ _ | intro _ _

theorem keeps_handlingPasses (a0) (a1) {d : Dev} (h : P d) : P (handlingPasses a0 a1 d) := by
  unfold handlingPasses
  try dsimp only
  repeat' first
    | (with_reducible first
      | exact h | apply keeps_testEnds hP | apply keeps_handlingFails hP | apply keeps_recordHandling hP | apply keeps_countUpset hP
      | apply keeps_closeSlot hP | apply keeps_raise hP | apply keeps_ite)

theorem keeps_healthIn (a0) {d : Dev} (h : P d) : P (healthIn a0 d) := by
  unfold healthIn
  try dsimp only
  repeat' with_reducible first
    | exact h | assumption | apply keeps_digestFlag hP | apply keeps_modTwn hP | apply keeps_wr64 hP | apply keeps_wrN hP | apply keeps_setF hP

theorem keeps_healthOut {d : Dev} (h : P d) : P (healthOut d) := by
  unfold healthOut
  repeat' with_reducible first
    | exact h | assumption | apply keeps_sendMr hP | apply keeps_modTwn hP | apply keeps_doIf
    | intro _ _ _ | intro _ _

theorem keeps_healthStale {d : Dev} (h : P d) : P (healthStale d) := by
  unfold healthStale
  repeat' with_reducible first
    | exact h | assumption | apply keeps_twnCount hP | apply keeps_raise hP | apply keeps_setF hP | apply keeps_doIf
    | intro _ _ _ | intro _ _

theorem keeps_pairAccept (a0) {d : Dev} (h : P d) : P (pairAccept a0 d) := by
  unfold pairAccept
  try dsimp only
  repeat' first
    | (with_reducible first
      | exact h | apply keeps_twnResult hP | apply keeps_startSweep hP | apply keeps_sendMr hP | apply keeps_setF hP | apply keeps_ite
     )

theorem keeps_hello (a0) {d : Dev} (h : P d) : P (hello a0 d) := by
  unfold hello
  try dsimp only
  repeat' first
    | (with_reducible first
      | exact h | assumption | apply keeps_pairAccept hP | apply keeps_twnResult hP | apply keeps_linkTo hP | apply keeps_alignRecord hP
      | apply keeps_modTwn hP | apply keeps_setB hP | apply keeps_raise hP | apply keeps_setF hP | apply keeps_wr hP | apply keeps_doIf
      | apply keeps_ite)
    | split
    | intro _ _ _ | intro _ _

theorem keeps_helloIn (a0) {d : Dev} (h : P d) : P (helloIn a0 d) := by
  unfold helloIn
  try dsimp only
  repeat' first
    | (with_reducible first
      | exact h | assumption | apply keeps_hello hP | apply keeps_modTwn hP | apply keeps_ite)

theorem keeps_histParity (a0) {d : Dev} (h : P d) : P (histParity a0 d) := by
  unfold histParity
  try dsimp only
  repeat' with_reducible first
    | exact h | apply keeps_unclean hP | apply keeps_reportUnit hP | apply keeps_setF hP
    | with_reducible apply keeps_rest hP

theorem keeps_holdoffOver (a0) {d : Dev} (h : P d) : P (holdoffOver a0 d) := by
  unfold holdoffOver
  try dsimp only
  repeat' first
    | (with_reducible first
      | exact h | assumption | apply keeps_ite)
    | split
    | intro _ _ _ | intro _ _
    | with_reducible apply keeps_rest hP

theorem keeps_hopParityF (a0) (a1) {d : Dev} (h : P d) : P (hopParityF a0 a1 d) := by
  unfold hopParityF
  repeat' with_reducible first
    | exact h | assumption | apply keeps_setF hP | apply keeps_doIf

theorem keeps_launchAt (a0) (a1) (a2) {d : Dev} (h : P d) : P (launchAt a0 a1 a2 d) := by
  unfold launchAt
  try dsimp only
  repeat' first
    | (with_reducible first
      | exact h | assumption | apply keeps_svcCnt hP | apply keeps_launch hP | apply keeps_txFree hP | apply keeps_modPsub hP | apply keeps_raise hP
      | apply keeps_ite)
    | split

theorem keeps_hostFrame (a0) (a1) (a2) {d : Dev} (h : P d) : P (hostFrame a0 a1 a2 d) := by
  unfold hostFrame
  try dsimp only
  repeat' with_reducible first
    | exact h | apply keeps_launchAt hP | apply keeps_svcCnt hP | apply keeps_bufMove hP

theorem keeps_hostTransmit {d : Dev} (h : P d) : P (hostTransmit d) := by
  unfold hostTransmit
  try dsimp only
  repeat' first
    | (with_reducible first
      | exact h | apply keeps_hostFrame hP | apply keeps_svcCnt hP | apply keeps_ite)
    | split
    | with_reducible apply keeps_rest hP

theorem keeps_huntFail (a0) {d : Dev} (h : P d) : P (huntFail a0 d) := by
  unfold huntFail
  try dsimp only
  repeat' with_reducible first
    | exact h | apply keeps_twnCount hP | apply keeps_reportUnit hP | apply keeps_raise hP

theorem keeps_opDone (a0) {d : Dev} (h : P d) : P (opDone a0 d) := by
  unfold opDone
  try dsimp only
  repeat' with_reducible first
    | exact h | assumption | apply keeps_svcCnt hP | apply keeps_pmcAdd hP
    | intro _ _ _ | intro _ _
    | with_reducible apply keeps_rest hP

theorem keeps_saNext (a0) {d : Dev} (h : P d) : P (saNext a0 d) := by
  unfold saNext
  try dsimp only
  repeat' first
    | (with_reducible first
      | exact h | apply keeps_keyCount hP | apply keeps_raise hP | apply keeps_wrN hP | apply keeps_setF hP | apply keeps_ite
     )

theorem keeps_ptpMessage (a0) (a1) (a2) (a3) {d : Dev} (h : P d) : P (ptpMessage a0 a1 a2 a3 d).2 := by
  unfold ptpMessage
  try dsimp only
  repeat' first
    | (with_reducible first
      | exact h | assumption | apply keeps_saNext hP | apply keeps_jobDone hP | apply keeps_journalAdd hP | apply keeps_ite
     )
    | split

theorem keeps_sendStream (a0) (a1) (a2) (a3) (a4) (a5) (a6) (a7) {d : Dev} (h : P d) : P (sendStream a0 a1 a2 a3 a4 a5 a6 a7 d) := by
  unfold sendStream
  try dsimp only
  repeat' first
    | (with_reducible first
      | exact h | assumption | apply keeps_ptpMessage hP | apply keeps_opDone hP | apply keeps_svcCnt hP | apply keeps_launchBuilt hP
      | apply keeps_keyCount hP | apply keeps_doIf)
    | split

theorem keeps_sigSeq (a0) {d : Dev} (h : P d) : P (sigSeq a0 d).2 := by
  unfold sigSeq
  try dsimp only
  repeat' with_reducible first
    | exact h | assumption
    | intro _ _ _ | intro _ _
    | with_reducible apply keeps_rest hP

theorem keeps_sendCancels (a0) {d : Dev} (h : P d) : P (sendCancels a0 d) := by
  unfold sendCancels
  try dsimp only
  repeat' first
    | (with_reducible first
      | exact h | assumption | apply keeps_sigSeq hP | apply keeps_sendStream hP | apply keeps_ite)
    | split

theorem keeps_sessionParity (a0) (a1) {d : Dev} (h : P d) : P (sessionParity a0 a1 d) := by
  unfold sessionParity
  try dsimp only
  repeat' first
    | (with_reducible first
      | exact h | assumption | apply keeps_sendCancels hP | apply keeps_sessEnd hP | apply keeps_svcCnt hP | apply keeps_reportUnit hP
      | apply keeps_raise hP | apply keeps_doIf | apply keeps_ite)

theorem keeps_scrubStore {d : Dev} (h : P d) : P (scrubStore d) := by
  unfold scrubStore
  try dsimp only
  repeat' first
    | (with_reducible first
      | exact h | assumption | apply keeps_sessionParity hP | apply keeps_huntFail hP | apply keeps_setRamWords hP | apply keeps_sendMr hP
      | apply keeps_modTwn hP | apply keeps_forEach | apply keeps_doIf | apply keeps_ite)
    | split
    | intro _ _ _

theorem keeps_hunt (a0) {d : Dev} (h : P d) : P (hunt a0 d) := by
  unfold hunt
  try dsimp only
  repeat' first
    | (with_reducible first
      | exact h | assumption | apply keeps_scrubStore hP | apply keeps_huntFail hP | apply keeps_crdUse hP | apply keeps_twnCount hP
      | apply keeps_modTwn hP | apply keeps_doIf | apply keeps_ite)

theorem keeps_i2cRead (a0) (a1) {d : Dev} (h : P d) : P (i2cRead a0 a1 d).2 := by
  induction a0 generalizing a1 d with
  | zero => exact h
  | succ n ih => exact ih _ (keeps_doIf (fun _ h => keeps_hifErr hP _ _ h) (keeps_busRead hP _ _ h))

theorem keeps_lpcTick {d : Dev} (h : P d) : P (lpcTick d) := by
  unfold lpcTick
  try dsimp only
  repeat' first
    | (with_reducible first
      | exact h | apply keeps_ite)
    | split
    | with_reducible apply keeps_rest hP

theorem keeps_lpcEdge {d : Dev} (h : P d) : P (lpcEdge d) := by
  unfold lpcEdge
  try dsimp only
  repeat' first
    | (with_reducible first
      | exact h | apply keeps_lpcTick hP | apply keeps_ite)
    | split
    | with_reducible apply keeps_rest hP

theorem keeps_measTick (a0) {d : Dev} (h : P d) : P (measTick a0 d) := by
  unfold measTick
  try dsimp only
  repeat' with_reducible first
    | exact h | assumption | apply keeps_doIf
    | intro _ _ _ | intro _ _
    | with_reducible apply keeps_rest hP

theorem keeps_ppsTick (a0) {d : Dev} (h : P d) : P (ppsTick a0 d) := by
  unfold ppsTick
  try dsimp only
  repeat' first
    | (with_reducible first
      | exact h | assumption | apply keeps_setSpps hP | apply keeps_forEach)
    | split
    | intro _ _ _

theorem keeps_steerPlls {d : Dev} (h : P d) : P (steerPlls d) := by
  unfold steerPlls
  repeat' with_reducible first
    | exact h | assumption | apply keeps_steerPll hP | apply keeps_forEach

theorem keeps_tickTb {d : Dev} (h : P d) : P (tickTb d) := by
  unfold tickTb
  try dsimp only
  repeat' with_reducible first
    | exact h | assumption | apply keeps_groupMarks hP | apply keeps_checkPair hP | apply keeps_mapChans hP | apply keeps_doIf
    | intro _ _ _ | intro _ _

theorem keeps_idleF {d : Dev} (h : P d) : P (idleF d) := by
  unfold idleF
  try dsimp only
  repeat' first
    | (with_reducible first
      | exact h | assumption | apply keeps_tickTb hP | apply keeps_steerPlls hP | apply keeps_ppsTick hP | apply keeps_measTick hP
      | apply keeps_lpcEdge hP | apply keeps_lpcTick hP | apply keeps_withFreeBit hP | apply keeps_pmcAdd hP | apply keeps_doIf | apply keeps_ite
     )
    | split
    | intro _ _ _ | intro _ _

theorem keeps_injReport {d : Dev} (h : P d) : P (injReport d) := by
  unfold injReport
  try dsimp only
  repeat' first
    | (with_reducible first
      | exact h | assumption | apply keeps_injEnd hP | apply keeps_collect hP | apply keeps_doIf | apply keeps_ite)
    | split
    | intro _ _ _ | intro _ _
    | with_reducible apply keeps_rest hP

theorem keeps_inlCompleteF (a0) (a1) {d : Dev} (h : P d) : P (inlCompleteF a0 a1 d) := by
  unfold inlCompleteF
  try dsimp only
  repeat' first
    | (with_reducible first
      | exact h | assumption | apply keeps_endInitCal hP | apply keeps_setB hP | apply keeps_raise hP | apply keeps_wrN hP | apply keeps_setF hP
      | apply keeps_forEach | apply keeps_ite)
    | split
    | intro _ _ _ | intro _ _
    | with_reducible apply keeps_rest hP

theorem keeps_inlTriggerF (a0) {d : Dev} (h : P d) : P (inlTriggerF a0 d) := by
  unfold inlTriggerF
  try dsimp only
  repeat' first
    | (with_reducible first
      | exact h | assumption | apply keeps_startInl hP | apply keeps_doIf | apply keeps_ite)
    | split
    | intro _ _ _ | intro _ _
    | with_reducible apply keeps_rest hP

theorem keeps_intervalTimeoutF (a0) {d : Dev} (h : P d) : P (intervalTimeoutF a0 d) := by
  unfold intervalTimeoutF
  try dsimp only
  repeat' first
    | (with_reducible first
      | exact h | apply keeps_holdIfStopping hP | apply keeps_setMreq hP | apply keeps_ite)

theorem keeps_issue (a0) (a1) {d : Dev} (h : P d) : P (issue a0 a1 d) := by
  unfold issue
  try dsimp only
  repeat' first
    | (with_reducible first
      | exact h | apply keeps_pipePut hP)
    | split

theorem keeps_jobPublish (a0) (a1) {d : Dev} (h : P d) : P (jobPublish a0 a1 d) := by
  unfold jobPublish
  try dsimp only
  repeat' with_reducible first
    | exact h | apply keeps_dropJob hP | apply keeps_raise hP | apply keeps_wrN hP

theorem keeps_jobCompleteF (a0) {d : Dev} (h : P d) : P (jobCompleteF a0 d) := by
  unfold jobCompleteF
  repeat' with_reducible first
    | exact h | assumption | apply keeps_jobPublish hP | apply keeps_doIf
    | intro _ _ _ | intro _ _

theorem keeps_jobLost (a0) (a1) (a2) {d : Dev} (h : P d) : P (jobLost a0 a1 a2 d) := by
  unfold jobLost
  try dsimp only
  repeat' first
    | (with_reducible first
      | exact h | apply keeps_setPipeQ hP | apply keeps_rxFree hP | apply keeps_keyCount hP | apply keeps_ite)
    | split

theorem keeps_setCurrent (a0) {d : Dev} (h : P d) : P (setCurrent a0 d) := by
  unfold setCurrent
  repeat' with_reducible first
    | exact h | assumption | apply keeps_wr64 hP | apply keeps_setF hP

theorem keeps_toAccepting (a0) (a1) {d : Dev} (h : P d) : P (toAccepting a0 a1 d) := by
  unfold toAccepting
  repeat' with_reducible first
    | exact h | apply keeps_wr64 hP | apply keeps_setF hP

theorem keeps_makeCurrent (a0) (a1) {d : Dev} (h : P d) : P (makeCurrent a0 a1 d) := by
  unfold makeCurrent
  try dsimp only
  repeat' first
    | (with_reducible first
      | exact h | assumption | apply keeps_toAccepting hP | apply keeps_setCurrent hP | apply keeps_draw hP | apply keeps_raise hP
      | apply keeps_doIf | apply keeps_ite)

theorem keeps_ntsActivate (a0) {d : Dev} (h : P d) : P (ntsActivate a0 d) := by
  unfold ntsActivate
  try dsimp only
  repeat' first
    | (with_reducible first
      | exact h | assumption | apply keeps_makeCurrent hP | apply keeps_toAccepting hP | apply keeps_forEach)
    | split
    | intro _ _ _

theorem keeps_ntsEnd (a0) {d : Dev} (h : P d) : P (ntsEnd a0 d) := by
  unfold ntsEnd
  repeat' with_reducible first
    | exact h | assumption | apply keeps_ntsClear hP | apply keeps_raise hP | apply keeps_forEach | apply keeps_doIf
    | intro _ _ _ | intro _ _

theorem keeps_saEvaluate (a0) {d : Dev} (h : P d) : P (saEvaluate a0 d) := by
  unfold saEvaluate
  try dsimp only
  repeat' with_reducible first
    | exact h | assumption | apply keeps_saClear hP | apply keeps_raise hP | apply keeps_setF hP | apply keeps_forEach | apply keeps_doIf
    | intro _ _ _ | intro _ _

theorem keeps_keyEvaluate {d : Dev} (h : P d) : P (keyEvaluate d) := by
  unfold keyEvaluate
  try dsimp only
  repeat' first
    | (with_reducible first
      | exact h | assumption | apply keeps_saEvaluate hP | apply keeps_ntsEnd hP | apply keeps_ntsActivate hP | apply keeps_doIf | apply keeps_ite
     )
    | split
    | intro _ _ _ | intro _ _
    | with_reducible apply keeps_rest hP

theorem keeps_keySlotParityF (a0) (a1) {d : Dev} (h : P d) : P (keySlotParityF a0 a1 d) := by
  unfold keySlotParityF
  try dsimp only
  repeat' first
    | (with_reducible first
      | exact h | assumption | apply keeps_setCurrent hP | apply keeps_reportUnit hP | apply keeps_kekClear hP | apply keeps_raise hP
      | apply keeps_wrN hP | apply keeps_setF hP | apply keeps_ite)
    | split

theorem keeps_kodDrop (a0) {d : Dev} (h : P d) : P (kodDrop a0 d) := by
  unfold kodDrop
  try dsimp only
  repeat' with_reducible first
    | exact h | apply keeps_rxFree hP | apply keeps_svcCnt hP
    | with_reducible apply keeps_rest hP

theorem keeps_kodToken {d : Dev} (h : P d) : P (kodToken d).2 := by
  unfold kodToken
  try dsimp only
  repeat' with_reducible first
    | exact h
    | with_reducible apply keeps_rest hP

theorem keeps_laneLat (a0) (a1) (a2) {d : Dev} (h : P d) : P (laneLat a0 a1 a2 d) := by
  unfold laneLat
  try dsimp only
  repeat' first
    | (with_reducible first
      | exact h | assumption | apply keeps_modPlane hP | apply keeps_wrN hP | apply keeps_ite)

theorem keeps_latchTimeoutF (a0) {d : Dev} (h : P d) : P (latchTimeoutF a0 d) := by
  unfold latchTimeoutF
  try dsimp only
  repeat' first
    | (with_reducible first
      | exact h | assumption | apply keeps_epochX hP | apply keeps_snapStamp hP | apply keeps_doIf)
    | split

theorem keeps_lateDrop (a0) {d : Dev} (h : P d) : P (lateDrop a0 d) := by
  unfold lateDrop
  repeat' with_reducible first
    | exact h | assumption | apply keeps_qDrop hP | apply keeps_doIf

theorem keeps_latencyDone (a0) (a1) {d : Dev} (h : P d) : P (latencyDone a0 a1 d) := by
  unfold latencyDone
  try dsimp only
  repeat' first
    | (with_reducible first
      | exact h | assumption | apply keeps_laneLat hP | apply keeps_fencePort hP | apply keeps_fenceUnit hP | apply keeps_portResult hP
      | apply keeps_refreshCal hP | apply keeps_admitUnit hP | apply keeps_reportUnit hP | apply keeps_modUnit hP | apply keeps_raise hP
      | apply keeps_setF hP | apply keeps_forEach | apply keeps_doIf | apply keeps_ite)
    | split
    | intro _ _ _

theorem keeps_ledgerTerms (a0) {d : Dev} (h : P d) : P (ledgerTerms a0 d) := by
  unfold ledgerTerms
  try dsimp only
  repeat' first
    | (with_reducible first
      | exact h | assumption | apply keeps_wr64 hP | apply keeps_setF hP | apply keeps_wr hP | apply keeps_forEach | apply keeps_ite
     )
    | split
    | intro _ _ _

theorem keeps_ledgerCopyF (a0) {d : Dev} (h : P d) : P (ledgerCopyF a0 d) := by
  unfold ledgerCopyF
  try dsimp only
  repeat' first
    | (with_reducible first
      | exact h | assumption | apply keeps_ledgerTerms hP | apply keeps_raise hP | apply keeps_setF hP | apply keeps_doIf | apply keeps_ite
     )
    | split
    | intro _ _ _ | intro _ _

theorem keeps_linkDebug {d : Dev} (h : P d) : P (linkDebug d) := by
  unfold linkDebug
  repeat' with_reducible first
    | exact h | apply keeps_draw hP | apply keeps_setF hP

theorem keeps_linkDownF {d : Dev} (h : P d) : P (linkDownF d) := by
  unfold linkDownF
  repeat' with_reducible first
    | exact h | assumption | apply keeps_linkDebug hP | apply keeps_raise hP | apply keeps_setF hP | apply keeps_doIf
    | intro _ _ _ | intro _ _

theorem keeps_linkLoss (a0) {d : Dev} (h : P d) : P (linkLoss a0 d) := by
  unfold linkLoss
  try dsimp only
  repeat' first
    | (with_reducible first
      | exact h | assumption | apply keeps_linkTo hP | apply keeps_modTwn hP | apply keeps_ite)

theorem keeps_linkUpF (a0) (a1) {d : Dev} (h : P d) : P (linkUpF a0 a1 d) := by
  unfold linkUpF
  try dsimp only
  repeat' first
    | (with_reducible first
      | exact h | apply keeps_linkDebug hP | apply keeps_raise hP | apply keeps_setF hP | apply keeps_ite)
    | split
    | with_reducible apply keeps_rest hP

theorem keeps_live (a0) (h0 : ∀ x, P x → P (a0 x)) {d : Dev} (h : P d) : P (live a0 d) := by
  unfold live
  repeat' with_reducible first
    | exact h | assumption | apply h0 | apply keeps_doIf

theorem keeps_realignOuts (a0) {d : Dev} (h : P d) : P (realignOuts a0 d) := by
  unfold realignOuts
  repeat' with_reducible first
    | exact h | assumption | apply keeps_realign hP | apply keeps_draw hP

theorem keeps_lockPll (a0) {d : Dev} (h : P d) : P (lockPll a0 d) := by
  unfold lockPll
  try dsimp only
  repeat' with_reducible first
    | exact h | assumption | apply keeps_realignOuts hP | apply keeps_startOuts hP | apply keeps_steerPll hP | apply keeps_setSpll hP
    | apply keeps_pllTo hP | apply keeps_setF hP | apply keeps_doIf

theorem keeps_resolved (a0) (a1) (a2) (a3) (a4) (a5) {d : Dev} (h : P d) : P (resolved a0 a1 a2 a3 a4 a5 d) := by
  unfold resolved
  try dsimp only
  repeat' first
    | (with_reducible first
      | exact h | assumption | apply keeps_recordHandling hP | apply keeps_countUpset hP | apply keeps_railsIdle hP | apply keeps_latchCause hP
      | apply keeps_modUnit hP | apply keeps_fltCount hP | apply keeps_raise hP | apply keeps_doIf )

theorem keeps_lockstepFence (a0) (a1) (a2) {d : Dev} (h : P d) : P (lockstepFence a0 a1 a2 d) := by
  unfold lockstepFence
  try dsimp only
  repeat' first
    | (with_reducible first
      | exact h | apply keeps_resolved hP | apply keeps_coreOut hP | apply keeps_fenceUnit hP )

theorem keeps_lockstepPass (a0) (a1) {d : Dev} (h : P d) : P (lockstepPass a0 a1 d) := by
  unfold lockstepPass
  repeat' with_reducible first
    | exact h | apply keeps_resolved hP

theorem keeps_lwActive (a0) {d : Dev} (h : P d) : P (lwActive a0 d) := by
  unfold lwActive
  try dsimp only
  repeat' first
    | (with_reducible first
      | exact h | apply keeps_setB hP | apply keeps_raise hP | apply keeps_ite)

theorem keeps_lwSend (a0) (a1) {d : Dev} (h : P d) : P (lwSend a0 a1 d) := by
  unfold lwSend
  try dsimp only
  repeat' first
    | (with_reducible first
      | exact h | assumption | apply keeps_lwActive hP | apply keeps_dsgWire hP | apply keeps_modDsg hP | apply keeps_ite
     )
    | split

theorem keeps_measLoadF {d : Dev} (h : P d) : P (measLoadF d) := by
  unfold measLoadF
  try dsimp only
  repeat' first
    | (with_reducible first
      | exact h | assumption | apply keeps_loadSync hP | apply keeps_setB hP | apply keeps_raise hP | apply keeps_setF hP | apply keeps_forEach
      | apply keeps_doIf | apply keeps_ite | apply keeps_foldl | apply keeps_foldlSnd | apply keeps_foldlFst)
    | split
    | intro _ _ _ | intro _ _
    | with_reducible apply keeps_rest hP

theorem keeps_strobe (a0) {d : Dev} (h : P d) : P (strobe a0 d) := by
  unfold strobe
  extract_lets te run latched d2 ep
  have k : P d2 := keeps_forEach (fun _ _ h => keeps_doIf (fun _ h => keeps_idxReach hP _ _ h) h) h
  clear_value d2 ep
  exact keeps_alignGn hP (hP.rest _ _ _ _ _ _ _ _ _ _ _ _ _ _ _ _ _ _ _ _ _ _ _ k)

theorem keeps_measurementEpochF (a0) {d : Dev} (h : P d) : P (measurementEpochF a0 d) := by
  unfold measurementEpochF
  repeat' with_reducible first
    | exact h | assumption | apply keeps_strobe hP | apply keeps_doIf

theorem keeps_millraceTrain (a0) {d : Dev} (h : P d) : P (millraceTrain a0 d) := by
  unfold millraceTrain
  try dsimp only
  repeat' first
    | (with_reducible first
      | exact h | assumption | apply keeps_hello hP | apply keeps_alignRecord hP | apply keeps_sendMr hP | apply keeps_modTwn hP
      | apply keeps_reportUnit hP | apply keeps_wrN hP | apply keeps_doIf | apply keeps_ite)
    | split
    | intro _ _ _ | intro _ _

theorem keeps_mismatchOp (a0) (a1) {d : Dev} (h : P d) : P (mismatchOp a0 a1 d) := by
  unfold mismatchOp
  try dsimp only
  repeat' first
    | (with_reducible first
      | exact h | apply keeps_lockstepPass hP | apply keeps_lockstepFence hP | apply keeps_restartCore hP | apply keeps_lockstepOff hP
      | apply keeps_setCore hP | apply keeps_raise hP)
    | split

theorem keeps_notifyPf (a0) {d : Dev} (h : P d) : P (notifyPf a0 d) := by
  unfold notifyPf
  try dsimp only
  repeat' first
    | (with_reducible first
      | exact h | apply keeps_setPcieFn hP | apply keeps_ite)

theorem keeps_notifyTarget (a0) {d : Dev} (h : P d) : P (notifyTarget a0 d) := by
  unfold notifyTarget
  try dsimp only
  repeat' first
    | (with_reducible first
      | exact h | apply keeps_notifyPf hP | apply keeps_ite)
    | split
    | with_reducible apply keeps_rest hP

theorem keeps_moderationExpiryF (a0) {d : Dev} (h : P d) : P (moderationExpiryF a0 d) := by
  unfold moderationExpiryF
  try dsimp only
  repeat' first
    | (with_reducible first
      | exact h | assumption | apply keeps_notifyTarget hP | apply keeps_doIf | apply keeps_ite)
    | split
    | intro _ _ _ | intro _ _
    | with_reducible apply keeps_rest hP

theorem keeps_movePointer {d : Dev} (h : P d) : P (movePointer d) := by
  unfold movePointer
  try dsimp only
  repeat' first
    | (with_reducible first
      | exact h | apply keeps_setF hP | apply keeps_ite)
    | split
    | with_reducible apply keeps_rest hP

theorem keeps_mrFrame (a0) (a1) (h1 : ∀ x, P x → P (a1 x)) {d : Dev} (h : P d) : P (mrFrame a0 a1 d) := by
  unfold mrFrame
  try dsimp only
  repeat' first
    | (with_reducible first
      | exact h | assumption | apply h1 | apply keeps_twnCount hP | apply keeps_modTwn hP | apply keeps_ite)

theorem keeps_takeNonce (a0) {d : Dev} (h : P d) : P (takeNonce a0 d).2 := by
  unfold takeNonce
  try dsimp only
  repeat' with_reducible first
    | exact h | assumption
    | intro _ _ _ | intro _ _
    | with_reducible apply keeps_rest hP

theorem keeps_newCookies (a0) (a1) (a2) (a3) (a4) {d : Dev} (h : P d) : P (newCookies a0 a1 a2 a3 a4 d).2 := by
  induction a4 generalizing d with
  | zero => exact h
  | succ n ih => exact ih (keeps_jobDone hP _ (keeps_takeNonce hP _ h))

theorem keeps_ntpBuild (a0) (a1) (h1 : ∀ x, P x → P (a1 x)) {d : Dev} (h : P d) : P (ntpBuild a0 a1 d) := by
  unfold ntpBuild
  try dsimp only
  repeat' first
    | (with_reducible first
      | exact h | apply h1 | apply keeps_rxFree hP | apply keeps_svcCnt hP | apply keeps_ite)

theorem keeps_ntpSend (a0) (a1) (a2) (a3) (a4) (a5) (a6) (a7) {d : Dev} (h : P d) : P (ntpSend a0 a1 a2 a3 a4 a5 a6 a7 d) := by
  unfold ntpSend
  try dsimp only
  repeat' with_reducible first
    | exact h | apply keeps_opDone hP | apply keeps_svcCnt hP | apply keeps_launchBuilt hP

theorem keeps_unknownKey (a0) {d : Dev} (h : P d) : P (unknownKey a0 d) := by
  unfold unknownKey
  try dsimp only
  repeat' first
    | (with_reducible first
      | exact h | apply keeps_raise hP | apply keeps_ite)
    | split
    | with_reducible apply keeps_rest hP

theorem keeps_ntpReply (a0) (a1) (a2) (a3) (a4) (a5) (a6) (a7) {d : Dev} (h : P d) : P (ntpReply a0 a1 a2 a3 a4 a5 a6 a7 d) := by
  unfold ntpReply
  try dsimp only
  repeat' first
    | (with_reducible first
      | exact h | assumption | apply keeps_unknownKey hP | apply keeps_ntpSend hP | apply keeps_ntpBuild hP | apply keeps_newCookies hP
      | apply keeps_takeNonce hP | apply keeps_jobDone hP | apply keeps_ite)
    | split
    | intro _ _ _ | intro _ _

theorem keeps_ntpAnswer (a0) (a1) (a2) (a3) (a4) (a5) (a6) {d : Dev} (h : P d) : P (ntpAnswer a0 a1 a2 a3 a4 a5 a6 d) := by
  unfold ntpAnswer
  try dsimp only
  repeat' first
    | (with_reducible first
      | exact h | apply keeps_ntpReply hP | apply keeps_rxFree hP | apply keeps_svcCnt hP)
    | split

theorem keeps_weirUse (a0) (a1) (a2) {d : Dev} (h : P d) : P (weirUse a0 a1 a2 d).2 := by
  unfold weirUse
  extract_lets i d0 r x
  have k : P d0 := keeps_doIf (fun _ h => keeps_bucketParity hP i h) h
  clear_value i d0 r x
  split
  · exact keeps_setBucket hP _ _ (keeps_weirLedger hP _ _ _ k)
  · exact keeps_setBucket hP _ _ (keeps_weirLedger hP _ _ _ k)

theorem keeps_ntpOp (a0) (a1) (a2) (a3) (a4) (a5) {d : Dev} (h : P d) : P (ntpOp a0 a1 a2 a3 a4 a5 d) := by
  unfold ntpOp
  try dsimp only
  repeat' first
    | (with_reducible first
      | exact h | apply keeps_weirUse hP | apply keeps_ntpAnswer hP | apply keeps_kodToken hP | apply keeps_kodDrop hP | apply keeps_rxFree hP
      | apply keeps_svcCnt hP | apply keeps_ite)
    | split

theorem keeps_sendAnswer (a0) (a1) (a2) (a3) (a4) (a5) (a6) (a7) (a8) (a9) (a10) (a11) {d : Dev} (h : P d) :
    P (sendAnswer a0 a1 a2 a3 a4 a5 a6 a7 a8 a9 a10 a11 d) := by
  unfold sendAnswer
  try dsimp only
  repeat' first
    | (with_reducible first
      | exact h | assumption | apply keeps_ptpMessage hP | apply keeps_opDone hP | apply keeps_rxFree hP | apply keeps_svcCnt hP
      | apply keeps_launchBuilt hP | apply keeps_keyCount hP)
    | split

theorem keeps_sendDelayResp (a0) (a1) (a2) (a3) (a4) (a5) (a6) (a7) (a8) (a9) {d : Dev} (h : P d) :
    P (sendDelayResp a0 a1 a2 a3 a4 a5 a6 a7 a8 a9 d) := by
  unfold sendDelayResp
  try dsimp only
  repeat' with_reducible first
    | exact h | apply keeps_sendAnswer hP

theorem keeps_sendPdelay (a0) (a1) (a2) (a3) (a4) (a5) {d : Dev} (h : P d) : P (sendPdelay a0 a1 a2 a3 a4 a5 d) := by
  unfold sendPdelay
  try dsimp only
  repeat' with_reducible first
    | exact h | apply keeps_sendAnswer hP

theorem keeps_signalOp (a0) (a1) (a2) (a3) (a4) (a5) {d : Dev} (h : P d) : P (signalOp a0 a1 a2 a3 a4 a5 d) := by
  unfold signalOp
  try dsimp only
  repeat' first
    | (with_reducible first
      | exact h | assumption | apply keeps_sendAnswer hP | apply keeps_sigSeq hP | apply keeps_answerTlvs hP | apply keeps_rxFree hP
      | apply keeps_svcCnt hP | apply keeps_ite)

theorem keeps_ptpAnswer (a0) (a1) (a2) (a3) (a4) (a5) (a6) {d : Dev} (h : P d) : P (ptpAnswer a0 a1 a2 a3 a4 a5 a6 d) := by
  unfold ptpAnswer
  try dsimp only
  repeat' first
    | (with_reducible first
      | exact h | apply keeps_signalOp hP | apply keeps_sendPdelay hP | apply keeps_sendDelayResp hP | apply keeps_rxFree hP | apply keeps_svcCnt hP
      | apply keeps_ite)
    | split

theorem keeps_ptpOp (a0) (a1) (a2) (a3) (a4) (a5) (a6) (a7) {d : Dev} (h : P d) : P (ptpOp a0 a1 a2 a3 a4 a5 a6 a7 d) := by
  have k0 := fun n => keeps_svcCnt hP n 1 (keeps_rxFree hP a1 h)
  have k1 := keeps_weirUse hP 1 (weirSource d a3 a2.sa) a7.weirBad h
  have k2 : ∀ (o : Option Nat) (w : Dev), P w → P (match o with | some k => jobDone (!(saGmac w k)) w | none => w) := by
    intro o w hw
    split
    · exact keeps_jobDone hP _ hw
    · exact hw
  unfold ptpOp
  exact keeps_ite (k0 _) (keeps_ite (k0 _) (keeps_ite (k0 _) (keeps_ite (keeps_svcCnt hP _ _ (keeps_rxFree hP _ k1))
    (keeps_ite (keeps_svcCnt hP _ _ (keeps_rxFree hP _ (k2 _ _ k1))) (keeps_ptpAnswer hP _ _ _ _ _ _ _ (k2 _ _ k1))))))

theorem keeps_rxOp (a0) (a1) (a2) {d : Dev} (h : P d) : P (rxOp a0 a1 a2 d) := by
  unfold rxOp
  try dsimp only
  repeat' first
    | (with_reducible first
      | exact h | apply keeps_ptpOp hP | apply keeps_ntpOp hP | apply keeps_rxFree hP | apply keeps_svcCnt hP | apply keeps_ite
     )
    | split

theorem keeps_sendAnnounce (a0) (a1) (a2) {d : Dev} (h : P d) : P (sendAnnounce a0 a1 a2 d) := by
  unfold sendAnnounce
  try dsimp only
  repeat' first
    | (with_reducible first
      | exact h | apply keeps_sendStream hP )

theorem keeps_sendFollow (a0) (a1) (a2) (a3) {d : Dev} (h : P d) : P (sendFollow a0 a1 a2 a3 d) := by
  unfold sendFollow
  try dsimp only
  repeat' with_reducible first
    | exact h | apply keeps_sendStream hP

theorem keeps_sendL1 (a0) (a1) {d : Dev} (h : P d) : P (sendL1 a0 a1 d) := by
  unfold sendL1
  try dsimp only
  repeat' first
    | (with_reducible first
      | exact h | assumption | apply keeps_sendStream hP)
    | split
    | intro _ _ _ | intro _ _
    | with_reducible apply keeps_rest hP

theorem keeps_sendPdelayFollow (a0) (a1) (a2) (a3) (a4) {d : Dev} (h : P d) : P (sendPdelayFollow a0 a1 a2 a3 a4 d) := by
  unfold sendPdelayFollow
  try dsimp only
  repeat' with_reducible first
    | exact h | apply keeps_sendAnswer hP

theorem keeps_setFallback (a0) (a1) (a2) {d : Dev} (h : P d) : P (setFallback a0 a1 a2 d) := by
  unfold setFallback
  try dsimp only
  repeat' first
    | (with_reducible first
      | exact h | assumption | apply keeps_modPsub hP | apply keeps_raise hP | apply keeps_ite)

theorem keeps_sendSync (a0) (a1) (a2) (a3) (a4) {d : Dev} (h : P d) : P (sendSync a0 a1 a2 a3 a4 d) := by
  unfold sendSync
  try dsimp only
  repeat' first
    | (with_reducible first
      | exact h | assumption | apply keeps_setFallback hP | apply keeps_sendStream hP | apply keeps_svcCnt hP | apply keeps_doIf
     )

theorem keeps_wrapAdd (a0) (a1) {d : Dev} (h : P d) : P (wrapAdd a0 a1 d) := by
  unfold wrapAdd
  repeat' with_reducible first
    | exact h | apply keeps_setF hP

theorem keeps_takeMc (a0) {d : Dev} (h : P d) : P (takeMc a0 d).2 := by
  unfold takeMc
  repeat' with_reducible first
    | exact h | apply keeps_wrapAdd hP

theorem keeps_msgOp (a0) (a1) (a2) {d : Dev} (h : P d) : P (msgOp a0 a1 a2 d) := by
  unfold msgOp
  try dsimp only
  repeat' first
    | (with_reducible first
      | exact h | assumption | apply keeps_takeMc hP | apply keeps_sendSync hP | apply keeps_sendPdelayFollow hP | apply keeps_sendL1 hP
      | apply keeps_sendFollow hP | apply keeps_sendAnnounce hP | apply keeps_rxOp hP | apply keeps_sessSeq hP | apply keeps_doIf | apply keeps_ite
     )
    | split
    | intro _ _ _ | intro _ _
    | with_reducible apply keeps_rest hP

theorem keeps_noTestDone (a0) {d : Dev} (h : P d) : P (noTestDone a0 d) := by
  unfold noTestDone
  try dsimp only
  repeat' first
    | (with_reducible first
      | exact h | apply keeps_handlingFails hP | apply keeps_recordHandling hP | apply keeps_closeSlot hP | apply keeps_ite
     )
    | split

theorem keeps_onBulk (a0) (a1) (a2) (a3) (h3 : ∀ x, P x → P (a3 x)) {d : Dev} (h : P d) : P (onBulk a0 a1 a2 a3 d) := by
  unfold onBulk
  repeat' with_reducible first
    | exact h | apply h3 | apply keeps_guardWrite hP | apply keeps_onChannel hP

theorem keeps_opportunity (a0) {d : Dev} (h : P d) : P (opportunity a0 d) := by
  unfold opportunity
  try dsimp only
  repeat' first
    | (with_reducible first
      | exact h | assumption | apply keeps_wrapAdd hP | apply keeps_cycleEnds hP | apply keeps_setF hP | apply keeps_doIf | apply keeps_ite
     )
    | split
    | intro _ _ _ | intro _ _

theorem keeps_rxPacketParity (a0) {d : Dev} (h : P d) : P (rxPacketParity a0 d) := by
  unfold rxPacketParity
  try dsimp only
  repeat' first
    | (with_reducible first
      | exact h | apply keeps_setWait hP | apply keeps_setPipeQ hP | apply keeps_rxFree hP | apply keeps_svcCnt hP | apply keeps_reportUnit hP
     )
    | split

theorem keeps_txPacketParity (a0) (a1) {d : Dev} (h : P d) : P (txPacketParity a0 a1 d) := by
  unfold txPacketParity
  try dsimp only
  repeat' first
    | (with_reducible first
      | exact h | assumption | apply keeps_txFree hP | apply keeps_modPsub hP | apply keeps_reportUnit hP | apply keeps_portCnt hP | apply keeps_ite
     )
    | split

theorem keeps_parityAccess (a0) (a1) (a2) (a3) {d : Dev} (h : P d) : P (parityAccess a0 a1 a2 a3 d) := by
  cases a1 with
  | rxPacket p => exact keeps_doIf (fun _ h => keeps_rxPacketParity hP _ h) h
  | txPacket p s => exact keeps_doIf (fun _ h => keeps_txPacketParity hP _ _ h) h
  | config a => exact keeps_configParity hP _ h
  | ephemerides => exact keeps_ephParity hP h
  | history i => exact keeps_doIf (fun _ h => keeps_histParity hP _ h) h
  | _ => exact keeps_doIf (fun _ h => keeps_ctlParity hP _ _ _ _ h) h

theorem keeps_pauseMch (a0) {d : Dev} (h : P d) : P (pauseMch a0 d) := by
  unfold pauseMch
  try dsimp only
  repeat' with_reducible first
    | exact h | assumption | apply keeps_setReqState hP | apply keeps_releaseChan hP | apply keeps_clearAcc hP | apply keeps_doIf
    | intro _ _ _ | intro _ _

theorem keeps_pcieWords (a0) (a1) (a2) {d : Dev} (h : P d) : P (pcieWords a0 a1 a2 d) := by
  induction a1 generalizing a2 d with
  | nil => exact h
  | cons w ws ih =>
    unfold pcieWords
    refine ih _ ?_
    split
    · exact keeps_busWrite hP _ _ _ h
    · exact keeps_doIf (fun _ h => keeps_hifErr hP _ _ h) h

theorem keeps_pdelayResponse (a0) {d : Dev} (h : P d) : P (pdelayResponse a0 d) := by
  unfold pdelayResponse
  try dsimp only
  repeat' first
    | (with_reducible first
      | exact h | assumption | apply keeps_dsgWire hP | apply keeps_modDsg hP | apply keeps_ite)
    | split

theorem keeps_periodBlock (a0) {d : Dev} (h : P d) : P (periodBlock a0 d) := by
  unfold periodBlock
  try dsimp only
  repeat' with_reducible first
    | exact h | assumption | apply keeps_stateBlock hP | apply keeps_doIf
    | intro _ _ _ | intro _ _
    | with_reducible apply keeps_rest hP

theorem keeps_perstHigh {d : Dev} (h : P d) : P (perstHigh d) := by
  unfold perstHigh
  repeat' with_reducible first
    | exact h | assumption | apply keeps_wakeBy hP | apply keeps_setF hP | apply keeps_doIf
    | intro _ _ _ | intro _ _

theorem keeps_perstLow {d : Dev} (h : P d) : P (perstLow d) := by
  unfold perstLow
  try dsimp only
  repeat' first
    | (with_reducible first
      | exact h | assumption | apply keeps_endpointReset hP | apply keeps_raise hP | apply keeps_setF hP | apply keeps_doIf | apply keeps_ite
     )
    | split
    | intro _ _ _ | intro _ _

theorem keeps_phaseStep (a0) {d : Dev} (h : P d) : P (phaseStep a0 d) := by
  unfold phaseStep
  try dsimp only
  repeat' first
    | (with_reducible first
      | exact h | apply keeps_setF hP )

theorem keeps_pipeOp (a0) (a1) {d : Dev} (h : P d) : P (pipeOp a0 a1 d) := by
  unfold pipeOp
  try dsimp only
  repeat' first
    | (with_reducible first
      | exact h | assumption | apply keeps_msgOp hP | apply keeps_jobLost hP | apply keeps_setWait hP | apply keeps_setPipeQ hP
      | apply keeps_crdUse hP | apply keeps_ite)
    | split

theorem keeps_pllLockF (a0) {d : Dev} (h : P d) : P (pllLockF a0 d) := by
  unfold pllLockF
  try dsimp only
  repeat' first
    | (with_reducible first
      | exact h | assumption | apply keeps_lockPll hP | apply keeps_settleDoms hP | apply keeps_refreshPreds hP | apply keeps_startPort hP
      | apply keeps_forEach | apply keeps_doIf | apply keeps_ite)
    | split
    | intro _ _ _ | intro _ _

theorem keeps_pllLossF (a0) (a1) {d : Dev} (h : P d) : P (pllLossF a0 a1 d) := by
  unfold pllLossF
  try dsimp only
  repeat' first
    | (with_reducible first
      | exact h | assumption | apply keeps_coastPll hP | apply keeps_refreshPreds hP | apply keeps_setF hP | apply keeps_doIf | apply keeps_ite
     )

theorem keeps_pllReturnF (a0) {d : Dev} (h : P d) : P (pllReturnF a0 d) := by
  unfold pllReturnF
  repeat' with_reducible first
    | exact h | assumption | apply keeps_pllTo hP | apply keeps_setF hP | apply keeps_doIf
    | intro _ _ _ | intro _ _

theorem keeps_stageEvent (a0) (a1) {d : Dev} (h : P d) : P (stageEvent a0 a1 d) := by
  unfold stageEvent
  repeat' with_reducible first
    | exact h | apply keeps_raise hP

theorem keeps_pmbusF (a0) {d : Dev} (h : P d) : P (pmbusF a0 d) := by
  unfold pmbusF
  try dsimp only
  repeat' first
    | (with_reducible first
      | exact h | assumption | apply keeps_stageEvent hP | apply keeps_phaseStep hP | apply keeps_setF hP | apply keeps_forEach | apply keeps_doIf
      | apply keeps_ite | apply keeps_foldl | apply keeps_foldlSnd | apply keeps_foldlFst)
    | split
    | intro _ _ _

theorem keeps_pollUnit (a0) (a1) {d : Dev} (h : P d) : P (pollUnit a0 a1 d) := by
  unfold pollUnit
  try dsimp only
  repeat' first
    | (with_reducible first
      | exact h | assumption | apply keeps_fenceOut hP | apply keeps_collect hP | apply keeps_ite)
    | split

theorem keeps_portAccept (a0) (a1) (a2) {d : Dev} (h : P d) : P (portAccept a0 a1 a2 d) := by
  unfold portAccept
  try dsimp only
  repeat' with_reducible first
    | exact h | apply keeps_svcAccept hP | apply keeps_bufMove hP | apply keeps_acceptCounts hP | apply keeps_wr64 hP

theorem keeps_portReceive (a0) (a1) (a2) {d : Dev} (h : P d) : P (portReceive a0 a1 a2 d) := by
  unfold portReceive
  try dsimp only
  repeat' first
    | (with_reducible first
      | exact h | assumption | apply keeps_portAccept hP | apply keeps_rxTake hP | apply keeps_rxCount hP | apply keeps_portCnt hP
      | apply keeps_doIf | apply keeps_ite)
    | split

theorem keeps_txCompare (a0) (a1) (a2) (a3) {d : Dev} (h : P d) : P (txCompare a0 a1 a2 a3 d) := by
  unfold txCompare
  try dsimp only
  repeat' first
    | (with_reducible first
      | exact h | assumption | apply keeps_modPsub hP | apply keeps_portCnt hP | apply keeps_raise hP | apply keeps_wrN hP | apply keeps_ite
     )
    | split

theorem keeps_portTransmit (a0) (a1) (a2) (a3) {d : Dev} (h : P d) : P (portTransmit a0 a1 a2 a3 d) := by
  unfold portTransmit
  try dsimp only
  repeat' first
    | (with_reducible first
      | exact h | assumption | apply keeps_txCompare hP | apply keeps_txAfter hP | apply keeps_modPsub hP | apply keeps_portCnt hP
      | apply keeps_wr64 hP | apply keeps_doIf )

theorem keeps_portsIn (a0) {d : Dev} (h : P d) : P (portsIn a0 d) := by
  unfold portsIn
  repeat' with_reducible first
    | exact h | assumption | apply keeps_toCalibrating hP | apply keeps_setF hP | apply keeps_forEach | apply keeps_doIf
    | intro _ _ _ | intro _ _

theorem keeps_ppsApply (a0) {d : Dev} (h : P d) : P (ppsApply a0 d) := by
  unfold ppsApply
  try dsimp only
  repeat' first
    | (with_reducible first
      | exact h | assumption | apply keeps_calRequest hP | apply keeps_setSpps hP | apply keeps_ppsRun hP | apply keeps_satAdd hP
      | apply keeps_raise hP | apply keeps_setF hP | apply keeps_doIf | apply keeps_ite)
    | split
    | intro _ _ _ | intro _ _

theorem keeps_ppsChangeF (a0) {d : Dev} (h : P d) : P (ppsChangeF a0 d) := by
  unfold ppsChangeF
  try dsimp only
  repeat' first
    | (with_reducible first
      | exact h | assumption | apply keeps_ppsApply hP | apply keeps_doIf )

theorem keeps_preempt (a0) {d : Dev} (h : P d) : P (preempt a0 d) := by
  unfold preempt
  try dsimp only
  repeat' with_reducible first
    | exact h | assumption | apply keeps_holdIfStopping hP | apply keeps_setMreq hP | apply keeps_pmcAdd hP | apply keeps_doIf

theorem keeps_presenceAssertF {d : Dev} (h : P d) : P (presenceAssertF d) := by
  unfold presenceAssertF
  try dsimp only
  repeat' with_reducible first
    | exact h | assumption | apply keeps_satAdd hP | apply keeps_raise hP | apply keeps_setF hP | apply keeps_doIf
    | intro _ _ _ | intro _ _
    | with_reducible apply keeps_rest hP

theorem keeps_putBack (a0) {d : Dev} (h : P d) : P (putBack a0 d) := by
  unfold putBack
  try dsimp only
  repeat' first
    | (with_reducible first
      | exact h | assumption | apply keeps_portsIn hP | apply keeps_dmaIn hP | apply keeps_coreTested hP | apply keeps_chanIn hP
      | apply keeps_refreshRing hP | apply keeps_engineIn hP | apply keeps_refreshServing hP | apply keeps_measReturn hP | apply keeps_dsgLinkTo hP
      | apply keeps_linkTo hP | apply keeps_admitMch hP | apply keeps_setF hP | apply keeps_forEach | apply keeps_doIf | apply keeps_ite
     )
    | split
    | intro _ _ _ | intro _ _

theorem keeps_railDetect (a0) (a1) {d : Dev} (h : P d) : P (railDetect a0 a1 d) := by
  unfold railDetect
  try dsimp only
  repeat' first
    | (with_reducible first
      | exact h | assumption | apply keeps_recordHandling hP | apply keeps_reportUnit hP | apply keeps_latchCause hP | apply keeps_modUnit hP
      | apply keeps_fltCount hP | apply keeps_raise hP | apply keeps_ite)

theorem keeps_railEvent (a0) (a1) {d : Dev} (h : P d) : P (railEvent a0 a1 d) := by
  unfold railEvent
  try dsimp only
  repeat' first
    | (with_reducible first
      | exact h | apply keeps_note hP | apply keeps_draw hP | apply keeps_setPending hP )

theorem keeps_railFaultF (a0) {d : Dev} (h : P d) : P (railFaultF a0 d) := by
  unfold railFaultF
  try dsimp only
  repeat' first
    | (with_reducible first
      | exact h | assumption | apply keeps_railEvent hP | apply keeps_fenceOut hP | apply keeps_fatalReport hP | apply keeps_linkTo hP
      | apply keeps_reportUnit hP | apply keeps_setF hP | apply keeps_forEach | apply keeps_doIf | apply keeps_ite)
    | split
    | intro _ _ _ | intro _ _
    | with_reducible apply keeps_rest hP

theorem keeps_railRetry (a0) {d : Dev} (h : P d) : P (railRetry a0 d) := by
  unfold railRetry
  try dsimp only
  repeat' first
    | (with_reducible first
      | exact h | assumption | apply keeps_stages hP | apply keeps_setF hP | apply keeps_forEach | apply keeps_ite)
    | split
    | intro _ _ _ | intro _ _
    | with_reducible apply keeps_rest hP

theorem keeps_readF (a0) (a1) {d : Dev} (h : P d) : P (readF a0 a1 d) := by
  unfold readF
  try dsimp only
  repeat' with_reducible first
    | exact h | apply keeps_busRead hP
    | with_reducible apply keeps_rest hP

theorem keeps_readmitResult (a0) (a1) {d : Dev} (h : P d) : P (readmitResult a0 a1 d) := by
  unfold readmitResult
  try dsimp only
  repeat' first
    | (with_reducible first
      | exact h | assumption | apply keeps_setF hP | apply keeps_ite)

theorem keeps_tbReadmitDoneF (a0) {d : Dev} (h : P d) : P (tbReadmitDoneF a0 d) := by
  unfold tbReadmitDoneF
  try dsimp only
  repeat' first
    | (with_reducible first
      | exact h | assumption | apply keeps_loadChan hP | apply keeps_settleVoter hP | apply keeps_tbResult hP | apply keeps_admitUnit hP
      | apply keeps_modUnit hP | apply keeps_raise hP | apply keeps_setF hP | apply keeps_ite)
    | split
    | intro _ _ _ | intro _ _
    | with_reducible apply keeps_rest hP

theorem keeps_readmitDone (a0) (a1) {d : Dev} (h : P d) : P (readmitDone a0 a1 d) := by
  unfold readmitDone
  try dsimp only
  repeat' first
    | (with_reducible first
      | exact h | assumption | apply keeps_tbReadmitDoneF hP | apply keeps_readmitResult hP | apply keeps_putBack hP | apply keeps_admitUnit hP
      | apply keeps_modUnit hP | apply keeps_ite)

theorem keeps_realignDoneF (a0) {d : Dev} (h : P d) : P (realignDoneF a0 d) := by
  unfold realignDoneF
  try dsimp only
  repeat' with_reducible first
    | exact h | assumption | apply keeps_raise hP | apply keeps_setF hP | apply keeps_doIf
    | intro _ _ _ | intro _ _

theorem keeps_recordDeliveryF (a0) {d : Dev} (h : P d) : P (recordDeliveryF a0 d) := by
  unfold recordDeliveryF
  try dsimp only
  repeat' first
    | (with_reducible first
      | exact h | assumption | apply keeps_deliver hP | apply keeps_ite)
    | split

theorem keeps_recordParityF (a0) (a1) {d : Dev} (h : P d) : P (recordParityF a0 a1 d) := by
  unfold recordParityF
  try dsimp only
  repeat' first
    | (with_reducible first
      | exact h | apply keeps_ringParity hP | apply keeps_ite)
    | split
    | with_reducible apply keeps_rest hP

theorem keeps_refinEdgeF (a0) (a1) {d : Dev} (h : P d) : P (refinEdgeF a0 a1 d) := by
  unfold refinEdgeF
  try dsimp only
  repeat' first
    | (with_reducible first
      | exact h | assumption | apply keeps_satAdd hP | apply keeps_ite)
    | split
    | intro _ _ _ | intro _ _
    | with_reducible apply keeps_rest hP

theorem keeps_refreshLeapInd {d : Dev} (h : P d) : P (refreshLeapInd d) := by
  unfold refreshLeapInd
  try dsimp only
  repeat' first
    | (with_reducible first
      | exact h | apply keeps_setB hP | apply keeps_raise hP | apply keeps_ite)
    | split
    | with_reducible apply keeps_rest hP

theorem keeps_reloadApplyF {d : Dev} (h : P d) : P (reloadApplyF d) := by
  unfold reloadApplyF
  try dsimp only
  repeat' first
    | (with_reducible first
      | exact h | apply keeps_applyLive hP | apply keeps_setB hP | apply keeps_putBuilds hP | apply keeps_imgEvent hP | apply keeps_setF hP
      | apply keeps_ite)
    | split
    | with_reducible apply keeps_rest hP

theorem keeps_requestAgeLimitF (a0) {d : Dev} (h : P d) : P (requestAgeLimitF a0 d) := by
  unfold requestAgeLimitF
  try dsimp only
  repeat' first
    | (with_reducible first
      | exact h | apply keeps_setMreq hP | apply keeps_setB hP | apply keeps_raise hP | apply keeps_ite)

theorem keeps_requestDone (a0) (a1) {d : Dev} (h : P d) : P (requestDone a0 a1 d) := by
  unfold requestDone
  try dsimp only
  repeat' first
    | (with_reducible first
      | exact h | apply keeps_resultOut hP | apply keeps_ite)

theorem keeps_requestDueF (a0) {d : Dev} (h : P d) : P (requestDueF a0 d) := by
  unfold requestDueF
  try dsimp only
  repeat' first
    | (with_reducible first
      | exact h | apply keeps_resultOut hP | apply keeps_ite)

theorem keeps_resetAssert {d : Dev} (h : P d) : P (resetAssert d) := by
  unfold resetAssert
  try dsimp only
  repeat' with_reducible first
    | exact h | apply keeps_enterBoot hP
    | with_reducible apply keeps_rest hP

theorem keeps_showStraps (a0) {d : Dev} (h : P d) : P (showStraps a0 d) := by
  unfold showStraps
  try dsimp only
  repeat' with_reducible first
    | exact h | apply keeps_setB hP | apply keeps_setF hP
    | with_reducible apply keeps_rest hP

theorem keeps_resetRelease (a0) {d : Dev} (h : P d) : P (resetRelease a0 d) := by
  unfold resetRelease
  try dsimp only
  repeat' with_reducible first
    | exact h | apply keeps_showStraps hP
    | with_reducible apply keeps_rest hP

theorem keeps_respond {d : Dev} (h : P d) : P (respond d) := by
  unfold respond
  try dsimp only
  repeat' first
    | (with_reducible first
      | exact h | apply keeps_answerNs hP | apply keeps_answerEcho hP | apply keeps_rxFree hP | apply keeps_answerArp hP | apply keeps_ite
     )
    | split
    | with_reducible apply keeps_rest hP

theorem keeps_retargetTimeoutF (a0) {d : Dev} (h : P d) : P (retargetTimeoutF a0 d) := by
  unfold retargetTimeoutF
  try dsimp only
  repeat' first
    | (with_reducible first
      | exact h | apply keeps_raise hP | apply keeps_setF hP | apply keeps_ite)

theorem keeps_retention {d : Dev} (h : P d) : P (retention d) := by
  unfold retention
  try dsimp only
  repeat' first
    | (with_reducible first
      | exact h | assumption | apply keeps_startSweep hP | apply keeps_modTwn hP | apply keeps_ite)

theorem keeps_retireOp (a0) {d : Dev} (h : P d) : P (retireOp a0 d) := by
  unfold retireOp
  try dsimp only
  repeat' first
    | (with_reducible first
      | exact h | apply keeps_dmaGoOn hP | apply keeps_dmaRetire hP | apply keeps_ite)
    | split

theorem keeps_rngFailF {d : Dev} (h : P d) : P (rngFailF d) := by
  unfold rngFailF
  try dsimp only
  repeat' with_reducible first
    | exact h | apply keeps_rngStop hP | apply keeps_reportUnit hP | apply keeps_satAdd hP | apply keeps_raise hP

theorem keeps_roundEnd (a0) (a1) {d : Dev} (h : P d) : P (roundEnd a0 a1 d) := by
  unfold roundEnd
  try dsimp only
  repeat' first
    | (with_reducible first
      | exact h | assumption | apply keeps_claimKnown hP | apply keeps_modTwn hP | apply keeps_setB hP | apply keeps_setF hP | apply keeps_doIf
      | apply keeps_ite)

theorem keeps_rwpDo (a0) (a1) (a2) (h2 : ∀ x, P x → P (a2 x)) {d : Dev} (h : P d) : P (rwpDo a0 a1 a2 d) := by
  unfold rwpDo
  try dsimp only
  repeat' first
    | (with_reducible first
      | exact h | assumption | apply h2 | apply keeps_guardWrite hP | apply keeps_rwpRefuse hP | apply keeps_ite)
    | split
    | intro _ _ _ | intro _ _

theorem keeps_startSkews {d : Dev} (h : P d) : P (startSkews d) := by
  unfold startSkews
  repeat' with_reducible first
    | exact h | assumption | apply keeps_setF hP | apply keeps_forEach
    | intro _ _ _

theorem keeps_stopLate {d : Dev} (h : P d) : P (stopLate d) := by
  unfold stopLate
  repeat' with_reducible first
    | exact h | assumption | apply keeps_holdIfStopping hP | apply keeps_forEach

theorem keeps_schedule {d : Dev} (h : P d) : P (schedule d) := by
  unfold schedule
  try dsimp only
  repeat' first
    | (with_reducible first
      | exact h | apply keeps_stopLate hP | apply keeps_startSkews hP | apply keeps_preempt hP | apply keeps_grant hP | apply keeps_ite
     )
    | split

theorem keeps_sealIntactF {d : Dev} (h : P d) : P (sealIntactF d) := by
  unfold sealIntactF
  repeat' with_reducible first
    | exact h | apply keeps_raise hP | apply keeps_setF hP

theorem keeps_sealOpenF {d : Dev} (h : P d) : P (sealOpenF d) := by
  unfold sealOpenF
  try dsimp only
  repeat' first
    | (with_reducible first
      | exact h | assumption | apply keeps_closeWindow hP | apply keeps_lifeAdd hP | apply keeps_zeroStart hP | apply keeps_keyCount hP
      | apply keeps_satAdd hP | apply keeps_raise hP | apply keeps_setF hP | apply keeps_doIf | apply keeps_ite)
    | split
    | intro _ _ _ | intro _ _
    | with_reducible apply keeps_rest hP

theorem keeps_thermalCycle (a0) {d : Dev} (h : P d) : P (thermalCycle a0 d) := by
  unfold thermalCycle
  try dsimp only
  repeat' first
    | (with_reducible first
      | exact h | apply keeps_lifeAdd hP | apply keeps_ite)
    | split
    | with_reducible apply keeps_rest hP

theorem keeps_secondSample (a0) (a1) {d : Dev} (h : P d) : P (secondSample a0 a1 d) := by
  unfold secondSample
  try dsimp only
  repeat' with_reducible first
    | exact h | assumption | apply keeps_thermalCycle hP | apply keeps_dropEvent hP | apply keeps_lifeAdd hP | apply keeps_forEach
    | apply keeps_doIf
    | intro _ _ _ | intro _ _
    | with_reducible apply keeps_rest hP

theorem keeps_sendHeld (a0) {d : Dev} (h : P d) : P (sendHeld a0 d) := by
  unfold sendHeld
  repeat' with_reducible first
    | exact h | assumption | apply keeps_notifyPf hP | apply keeps_doIf

theorem keeps_shadowIssue (a0) {d : Dev} (h : P d) : P (shadowIssue a0 d) := by
  unfold shadowIssue
  try dsimp only
  repeat' first
    | (with_reducible first
      | exact h | assumption | apply keeps_wrapAdd hP | apply keeps_sessSeq hP | apply keeps_modTwn hP)
    | split
    | intro _ _ _ | intro _ _
    | with_reducible apply keeps_rest hP

theorem keeps_skewCompleteF (a0) (a1) {d : Dev} (h : P d) : P (skewCompleteF a0 a1 d) := by
  unfold skewCompleteF
  try dsimp only
  repeat' first
    | (with_reducible first
      | exact h | assumption | apply keeps_resolved hP | apply keeps_fenceMch hP | apply keeps_partFence hP | apply keeps_endInitCal hP
      | apply keeps_raise hP | apply keeps_setF hP | apply keeps_ite)
    | split
    | intro _ _ _ | intro _ _
    | with_reducible apply keeps_rest hP

theorem keeps_sleepOp (a0) {d : Dev} (h : P d) : P (sleepOp a0 d) := by
  unfold sleepOp
  try dsimp only
  repeat' first
    | (with_reducible first
      | exact h | assumption | apply keeps_setCore hP | apply keeps_forEach | apply keeps_ite)
    | split
    | intro _ _ _

theorem keeps_slewCompleteF {d : Dev} (h : P d) : P (slewCompleteF d) := by
  unfold slewCompleteF
  try dsimp only
  repeat' first
    | (with_reducible first
      | exact h | apply keeps_groupMarks hP | apply keeps_mapChans hP | apply keeps_ite)

theorem keeps_slotSignalTimeoutF (a0) {d : Dev} (h : P d) : P (slotSignalTimeoutF a0 d) := by
  unfold slotSignalTimeoutF
  try dsimp only
  repeat' first
    | (with_reducible first
      | exact h | assumption | apply keeps_setRslot hP | apply keeps_doIf )

theorem keeps_snapParityF {d : Dev} (h : P d) : P (snapParityF d) := by
  unfold snapParityF
  try dsimp only
  repeat' first
    | (with_reducible first
      | exact h | assumption | apply keeps_endJobs hP | apply keeps_snapSettle hP | apply keeps_reportUnit hP | apply keeps_satAdd hP
      | apply keeps_raise hP | apply keeps_setF hP | apply keeps_forEach | apply keeps_doIf | apply keeps_ite)
    | split
    | intro _ _ _ | intro _ _
    | with_reducible apply keeps_rest hP

theorem keeps_spiReadF (a0) (a1) {d : Dev} (h : P d) : P (spiReadF a0 a1 d) := by
  unfold spiReadF
  try dsimp only
  repeat' first
    | (with_reducible first
      | exact h | apply keeps_burstRead hP | apply keeps_ite)
    | split
    | with_reducible apply keeps_rest hP

theorem keeps_stageChange (a0) {d : Dev} (h : P d) : P (stageChange a0 d) := by
  unfold stageChange
  repeat' with_reducible first
    | exact h | apply keeps_setDriving hP

theorem keeps_stageRec (a0) (a1) {d : Dev} (h : P d) : P (stageRec a0 a1 d) := by
  unfold stageRec
  try dsimp only
  repeat' first
    | (with_reducible first
      | exact h | assumption | apply keeps_discardEpoch hP | apply keeps_modTwn hP | apply keeps_ite)
    | split

theorem keeps_startIndexF (a0) {d : Dev} (h : P d) : P (startIndexF a0 d) := by
  unfold startIndexF
  try dsimp only
  repeat' first
    | (with_reducible first
      | exact h | apply keeps_idxReach hP | apply keeps_gnCount hP | apply keeps_setGch hP | apply keeps_setF hP | apply keeps_ite
     )

theorem keeps_stepWaitExpiryF {d : Dev} (h : P d) : P (stepWaitExpiryF d) := by
  unfold stepWaitExpiryF
  try dsimp only
  repeat' first
    | (with_reducible first
      | exact h | apply keeps_refStepRefused hP | apply keeps_tbRefuse hP | apply keeps_dropPending hP | apply keeps_ite)

theorem keeps_sweepIn (a0) {d : Dev} (h : P d) : P (sweepIn a0 d) := by
  unfold sweepIn
  try dsimp only
  repeat' first
    | (with_reducible first
      | exact h | assumption | apply keeps_applyRec hP | apply keeps_startSweep hP | apply keeps_modTwn hP | apply keeps_doIf | apply keeps_ite
     )
    | split
    | intro _ _ _ | intro _ _

theorem keeps_testDone (a0) (a1) {d : Dev} (h : P d) : P (testDone a0 a1 d) := by
  unfold testDone
  try dsimp only
  repeat' first
    | (with_reducible first
      | exact h | assumption | apply keeps_handlingPasses hP | apply keeps_handlingFails hP | apply keeps_recordHandling hP
      | apply keeps_engineFree hP | apply keeps_closeSlot hP | apply keeps_forEach | apply keeps_ite)
    | split

theorem keeps_testStarts (a0) {d : Dev} (h : P d) : P (testStarts a0 d) := by
  unfold testStarts
  try dsimp only
  repeat' first
    | (with_reducible first
      | exact h | assumption | apply keeps_pauseMch hP | apply keeps_rngStop hP | apply keeps_loseStream hP | apply keeps_stallStream hP
      | apply keeps_engineHold hP | apply keeps_refreshRing hP | apply keeps_closeWindow hP | apply keeps_refreshServing hP
      | apply keeps_toCalibrating hP | apply keeps_endCycle hP | apply keeps_dsgLinkTo hP | apply keeps_startPll hP | apply keeps_linkTo hP
      | apply keeps_rxCut hP | apply keeps_measLoss hP | apply keeps_endpointReset hP | apply keeps_forEach | apply keeps_doIf | apply keeps_ite
     )
    | split
    | intro _ _ _

theorem keeps_testStart (a0) {d : Dev} (h : P d) : P (testStart a0 d) := by
  unfold testStart
  try dsimp only
  repeat' first
    | (with_reducible first
      | exact h | assumption | apply keeps_testStarts hP | apply keeps_putSlot hP | apply keeps_doIf | apply keeps_ite)
    | split

theorem keeps_thermalSampleF (a0) (a1) {d : Dev} (h : P d) : P (thermalSampleF a0 a1 d) := by
  unfold thermalSampleF
  repeat' with_reducible first
    | exact h | assumption | apply keeps_secondSample hP | apply keeps_doIf

theorem keeps_tickRangeF {d : Dev} (h : P d) : P (tickRangeF d) := by
  unfold tickRangeF
  repeat' with_reducible first
    | exact h | assumption | apply keeps_fatalReport hP | apply keeps_doIf

theorem keeps_timedDue (a0) (a1) {d : Dev} (h : P d) : P (timedDue a0 a1 d) := by
  unfold timedDue
  try dsimp only
  repeat' first
    | (with_reducible first
      | exact h | assumption | apply keeps_svcCnt hP | apply keeps_launch hP | apply keeps_txFree hP | apply keeps_modPsub hP | apply keeps_ite
     )
    | split

theorem keeps_transmit (a0) (a1) (a2) {d : Dev} (h : P d) : P (transmit a0 a1 a2 d) := by
  unfold transmit
  try dsimp only
  repeat' first
    | (with_reducible first
      | exact h | assumption | apply keeps_portTransmit hP | apply keeps_dsgTransmit hP | apply keeps_svcCnt hP | apply keeps_txFree hP
      | apply keeps_modPsub hP | apply keeps_ite)
    | split

theorem keeps_unitReportF (a0) {d : Dev} (h : P d) : P (unitReportF a0 d) := by
  unfold unitReportF
  repeat' with_reducible first
    | exact h | assumption | apply keeps_report hP | apply keeps_doIf

theorem keeps_utcOffsetChangeF {d : Dev} (h : P d) : P (utcOffsetChangeF d) := by
  unfold utcOffsetChangeF
  try dsimp only
  repeat' first
    | (with_reducible first
      | exact h | apply keeps_refreshLeap hP | apply keeps_raise hP | apply keeps_setF hP | apply keeps_ite)

theorem keeps_vinRiseF {d : Dev} (h : P d) : P (vinRiseF d) := by
  unfold vinRiseF
  try dsimp only
  repeat' first
    | (with_reducible first
      | exact h | apply keeps_showStraps hP | apply keeps_offDev hP | apply keeps_ite)
    | split
    | with_reducible apply keeps_rest hP

theorem keeps_vinWarnF (a0) {d : Dev} (h : P d) : P (vinWarnF a0 d) := by
  unfold vinWarnF
  try dsimp only
  repeat' first
    | (with_reducible first
      | exact h | assumption | apply keeps_stateBlock hP | apply keeps_withFreeBit hP | apply keeps_setB hP | apply keeps_raise hP
      | apply keeps_setF hP | apply keeps_doIf | apply keeps_ite)

theorem keeps_wakeCut {d : Dev} (h : P d) : P (wakeCut d) := by
  unfold wakeCut
  repeat' with_reducible first
    | exact h | assumption | apply keeps_wakeEnd hP | apply keeps_raise hP | apply keeps_doIf
    | intro _ _ _ | intro _ _

theorem keeps_watchdogOp (a0) {d : Dev} (h : P d) : P (watchdogOp a0 d) := by
  unfold watchdogOp
  try dsimp only
  repeat' first
    | (with_reducible first
      | exact h | apply keeps_coreReport hP | apply keeps_coreFail hP | apply keeps_setCore hP | apply keeps_ite)

theorem keeps_weirSweepAll (a0) {d : Dev} (h : P d) : P (weirSweepAll a0 d) := by
  unfold weirSweepAll
  try dsimp only
  repeat' first
    | (with_reducible first
      | exact h | assumption | apply keeps_bucketParity hP | apply keeps_weirLedger hP | apply keeps_setBucket hP | apply keeps_forEach
      | apply keeps_ite)
    | split
    | intro _ _ _ | intro _ _
    | with_reducible apply keeps_rest hP

theorem keeps_weirSweepF {d : Dev} (h : P d) : P (weirSweepF d) := by
  unfold weirSweepF
  try dsimp only
  repeat' with_reducible first
    | exact h | assumption | apply keeps_pmcSup hP | apply keeps_weirSync hP | apply keeps_forEach | apply keeps_doIf
    | intro _ _ _ | intro _ _
    | with_reducible apply keeps_rest hP

theorem keeps_wheelSlot {d : Dev} (h : P d) : P (wheelSlot d) := by
  unfold wheelSlot
  try dsimp only
  repeat' first
    | (with_reducible first
      | exact h | assumption | apply keeps_shadowIssue hP | apply keeps_issue hP | apply keeps_expire hP | apply keeps_countLate hP
      | apply keeps_svcCnt hP | apply keeps_setF hP | apply keeps_forEach | apply keeps_doIf | apply keeps_ite)
    | split
    | intro _ _ _ | intro _ _
    | with_reducible apply keeps_rest hP

theorem keeps_writeEpoch {d : Dev} (h : P d) : P (writeEpoch d) := by
  unfold writeEpoch
  try dsimp only
  repeat' first
    | (with_reducible first
      | exact h | assumption | apply keeps_epochX hP | apply keeps_putWords hP | apply keeps_setGch hP | apply keeps_raise hP | apply keeps_wrN hP
      | apply keeps_forEach | apply keeps_doIf | apply keeps_ite)
    | split
    | intro _ _ _ | intro _ _
    | with_reducible apply keeps_rest hP

theorem keeps_writeHistory {d : Dev} (h : P d) : P (writeHistory d) := by
  unfold writeHistory
  try dsimp only
  repeat' first
    | (with_reducible first
      | exact h | assumption | apply keeps_movePointer hP | apply keeps_refit hP | apply keeps_copySum hP | apply keeps_wrN hP | apply keeps_ite
      | apply keeps_foldl | apply keeps_foldlSnd | apply keeps_foldlFst)
    | split
    | intro _ _ _ | intro _ _
    | with_reducible apply keeps_rest hP

theorem keeps_zeroizationCompleteF {d : Dev} (h : P d) : P (zeroizationCompleteF d) := by
  unfold zeroizationCompleteF
  try dsimp only
  repeat' first
    | (with_reducible first
      | exact h | assumption | apply keeps_blowKekRevoke hP | apply keeps_raise hP | apply keeps_doIf)
    | split
    | intro _ _ _ | intro _ _
    | with_reducible apply keeps_rest hP

end Sys2Proof.Laws
end

