-- ==== Sys2Proof/Laws/Canonical.lean ====
section
/-! SUPPORT. The canonical form of the addressed stores is one of the properties that the primitive writes keep, so every operation keeps
it: cite `closed_canonical` with the `keeps_` lemma of the operation. -/

namespace Sys2Proof.Laws

set_option Elab.async false

open Sys2Proof Sys2Proof.Machine

theorem canonical_iff (d : Dev) : d.canonical = true ↔ cwf resetOf d.regs = true ∧ cwf (fun _ => 0#32) d.latch = true ∧
    cwf (fun _ => none) d.held = true ∧ cwf (fun _ => 0#32) d.ram = true ∧ cwf (fun _ => 0xFF#8) d.flash = true := by
  simp [Dev.canonical, and_assoc]

/-- Every primitive write of an addressed store keeps the canonical form, and the form says nothing of the other fields. -/
theorem closed_canonical : Closed (fun d => d.canonical = true) where
  rest x _ _ _ _ _ _ _ _ _ _ _ _ _ _ _ _ _ _ _ _ _ _ h := h
  reg d a v h := by
    rw [canonical_iff] at h ⊢
    exact ⟨cwf_cput _ a v h.1, h.2⟩
  latch d a v h := by
    rw [canonical_iff] at h ⊢
    exact ⟨h.1, cwf_cput _ a v h.2.1, h.2.2⟩
  held d a v h := by
    rw [canonical_iff] at h ⊢
    exact ⟨h.1, h.2.1, cwf_cput _ a v h.2.2.1, h.2.2.2⟩
  ram d a v h := by
    rw [canonical_iff] at h ⊢
    exact ⟨h.1, h.2.1, h.2.2.1, cwf_cput _ a v h.2.2.2.1, h.2.2.2.2⟩
  ramKeep d p h := by
    rw [canonical_iff] at h ⊢
    exact ⟨h.1, h.2.1, h.2.2.1, cwf_ckeep _ p h.2.2.2.1, h.2.2.2.2⟩
  flash d a v h := by
    rw [canonical_iff] at h ⊢
    exact ⟨h.1, h.2.1, h.2.2.1, h.2.2.2.1, cwf_cput _ a v h.2.2.2.2⟩
  flashKeep d p h := by
    rw [canonical_iff] at h ⊢
    exact ⟨h.1, h.2.1, h.2.2.1, h.2.2.2.1, cwf_ckeep _ p h.2.2.2.2⟩
  regKeep d p h := by
    rw [canonical_iff] at h ⊢
    exact ⟨cwf_ckeep _ p h.1, cwf_ckeep _ p h.2.1, cwf_ckeep _ p h.2.2.1, h.2.2.2⟩
  off d h := by
    rw [canonical_iff] at h ⊢
    exact ⟨cwf_ckeep _ isFuse h.1, rfl, rfl, rfl, h.2.2.2.2⟩

end Sys2Proof.Laws
end

