-- ==== Sys2Proof/Laws/KeepsExec.lean ====
section
/-! SUPPORT. What the meanings of the commands do to the addressed stores, one lemma each: a property of devices that the primitive
writes keep (`Closed`) holds of the next state. -/

namespace Sys2Proof.Laws

set_option Elab.async false

open Sys2Proof Sys2Proof.Machine

/-- A next state of an effect keeps what the effect keeps. -/
theorem keeps_upd {P : Dev → Prop} {f : Dev → Dev} {s t : State} (hf : ∀ x, P x → P (f x)) (h : P s.toDev) (e : s.upd f = .next t) :
    P t.toDev := by
  unfold State.upd at e
  injection e with e
  rw [← e]
  exact hf _ h

variable {P : Dev → Prop} (hP : Closed P)
include hP

theorem keeps_execRegisterWrite (a0) (a1) (a2) {s t : State} (h : P s.toDev) (e : execRegisterWrite a0 a1 a2 s = .next t) : P t.toDev := by
  unfold execRegisterWrite at e
  refine keeps_upd (fun x h => ?_) h e
  repeat' with_reducible first
    | exact h | assumption | apply keeps_busWrite hP

theorem keeps_execRcRead (a0) (a1) {s t : State} (h : P s.toDev) (e : execRcRead a0 a1 s = .next t) : P t.toDev := by
  unfold execRcRead at e
  refine keeps_upd (fun x h => ?_) h e
  repeat' with_reducible first
    | exact h | assumption | apply keeps_readF hP | apply keeps_doIf

theorem keeps_execLowWordLatchRead (a0) (a1) {s t : State} (h : P s.toDev) (e : execLowWordLatchRead a0 a1 s = .next t) : P t.toDev := by
  unfold execLowWordLatchRead at e
  refine keeps_upd (fun x h => ?_) h e
  repeat' with_reducible first
    | exact h | assumption | apply keeps_readF hP | apply keeps_doIf

theorem keeps_execHighWordCommit (a0) (a1) (a2) {s t : State} (h : P s.toDev) (e : execHighWordCommit a0 a1 a2 s = .next t) : P t.toDev := by
  unfold execHighWordCommit at e
  refine keeps_upd (fun x h => ?_) h e
  repeat' with_reducible first
    | exact h | assumption | apply keeps_busWrite hP

theorem keeps_execVinRise {s t : State} (h : P s.toDev) (e : execVinRise s = .next t) : P t.toDev := by
  unfold execVinRise at e
  refine keeps_upd (fun x h => ?_) h e
  repeat' with_reducible first
    | exact h | assumption | apply keeps_vinRiseF hP

theorem keeps_execVinFall {s t : State} (h : P s.toDev) (e : execVinFall s = .next t) : P t.toDev := by
  unfold execVinFall at e
  refine keeps_upd (fun x h => ?_) h e
  repeat' first
    | (with_reducible first
      | exact h | assumption | apply keeps_offDev hP | apply keeps_ite)

theorem keeps_execVinWarn (a0) {s t : State} (h : P s.toDev) (e : execVinWarn a0 s = .next t) : P t.toDev := by
  unfold execVinWarn pwrLive at e
  refine keeps_upd (fun x h => ?_) h e
  repeat' with_reducible first
    | exact h | assumption | apply keeps_vinWarnF hP | apply keeps_doIf

theorem keeps_execResetNAssert {s t : State} (h : P s.toDev) (e : execResetNAssert s = .next t) : P t.toDev := by
  unfold execResetNAssert pwrLive at e
  refine keeps_upd (fun x h => ?_) h e
  repeat' with_reducible first
    | exact h | assumption | apply keeps_resetAssert hP | apply keeps_doIf
    | intro _ _ _ | intro _ _

theorem keeps_execResetNRelease (a0) {s t : State} (h : P s.toDev) (e : execResetNRelease a0 s = .next t) : P t.toDev := by
  unfold execResetNRelease pwrLive at e
  refine keeps_upd (fun x h => ?_) h e
  repeat' with_reducible first
    | exact h | assumption | apply keeps_resetRelease hP | apply keeps_doIf

theorem keeps_execBootSequence (a0) {s t : State} (h : P s.toDev) (e : execBootSequence a0 s = .next t) : P t.toDev := by
  unfold execBootSequence pwrLive at e
  refine keeps_upd (fun x h => ?_) h e
  repeat' with_reducible first
    | exact h | assumption | apply keeps_bootSequenceF hP | apply keeps_doIf
    | intro _ _ _ | intro _ _

theorem keeps_execCk32kSourceChange (a0) {s t : State} (h : P s.toDev) (e : execCk32kSourceChange a0 s = .next t) : P t.toDev := by
  unfold execCk32kSourceChange pwrLive at e
  refine keeps_upd (fun x h => ?_) h e
  repeat' with_reducible first
    | exact h | assumption | apply keeps_ckSource hP | apply keeps_doIf

theorem keeps_execRailFault (a0) {s t : State} (h : P s.toDev) (e : execRailFault a0 s = .next t) : P t.toDev := by
  unfold execRailFault pwrLive at e
  refine keeps_upd (fun x h => ?_) h e
  repeat' with_reducible first
    | exact h | assumption | apply keeps_railFaultF hP | apply keeps_doIf

theorem keeps_execPmbusPoll (a0) {s t : State} (h : P s.toDev) (e : execPmbusPoll a0 s = .next t) : P t.toDev := by
  unfold execPmbusPoll pwrLive at e
  refine keeps_upd (fun x h => ?_) h e
  repeat' with_reducible first
    | exact h | assumption | apply keeps_pmbusF hP | apply keeps_doIf

theorem keeps_execStageAlert (a0) (a1) {s t : State} (h : P s.toDev) (e : execStageAlert a0 a1 s = .next t) : P t.toDev := by
  unfold execStageAlert pwrLive at e
  refine keeps_upd (fun x h => ?_) h e
  repeat' with_reducible first
    | exact h | assumption | apply keeps_stageEvent hP | apply keeps_doIf

theorem keeps_execAvsStep (a0) (a1) {s t : State} (h : P s.toDev) (e : execAvsStep a0 a1 s = .next t) : P t.toDev := by
  unfold execAvsStep pwrLive at e
  refine keeps_upd (fun x h => ?_) h e
  repeat' with_reducible first
    | exact h | assumption | apply keeps_avsF hP | apply keeps_doIf
    | intro _ _ _ | intro _ _

theorem keeps_execDomainPowerUp (a0) {s t : State} (h : P s.toDev) (e : execDomainPowerUp a0 s = .next t) : P t.toDev := by
  unfold execDomainPowerUp pwrLive at e
  refine keeps_upd (fun x h => ?_) h e
  repeat' with_reducible first
    | exact h | assumption | apply keeps_powerUp hP | apply keeps_doIf
    | intro _ _ _ | intro _ _

theorem keeps_execDomainPowerDown (a0) {s t : State} (h : P s.toDev) (e : execDomainPowerDown a0 s = .next t) : P t.toDev := by
  unfold execDomainPowerDown pwrLive at e
  refine keeps_upd (fun x h => ?_) h e
  repeat' with_reducible first
    | exact h | assumption | apply keeps_powerDown hP | apply keeps_doIf
    | intro _ _ _ | intro _ _

theorem keeps_execDomainAckTimeout (a0) {s t : State} (h : P s.toDev) (e : execDomainAckTimeout a0 s = .next t) : P t.toDev := by
  unfold execDomainAckTimeout pwrLive at e
  refine keeps_upd (fun x h => ?_) h e
  repeat' with_reducible first
    | exact h | assumption | apply keeps_ackTimeout hP | apply keeps_doIf

theorem keeps_execPwrDomOffWrite (a0) (a1) {s t : State} (h : P s.toDev) (e : execPwrDomOffWrite a0 a1 s = .next t) : P t.toDev := by
  unfold execPwrDomOffWrite at e
  refine keeps_upd (fun x h => ?_) h e
  repeat' with_reducible first
    | exact h | assumption | apply keeps_guardWrite hP | apply keeps_domOffF hP

theorem keeps_execReqServe (a0) {s t : State} (h : P s.toDev) (e : execReqServe a0 s = .next t) : P t.toDev := by
  unfold execReqServe at e
  refine keeps_upd (fun x h => ?_) h e
  repeat' with_reducible first
    | exact h | assumption | apply keeps_guardWrite hP | apply keeps_pwrRequest hP

theorem keeps_execReqStandby (a0) {s t : State} (h : P s.toDev) (e : execReqStandby a0 s = .next t) : P t.toDev := by
  unfold execReqStandby at e
  refine keeps_upd (fun x h => ?_) h e
  repeat' with_reducible first
    | exact h | assumption | apply keeps_guardWrite hP | apply keeps_pwrRequest hP

theorem keeps_execReqLowWater (a0) {s t : State} (h : P s.toDev) (e : execReqLowWater a0 s = .next t) : P t.toDev := by
  unfold execReqLowWater at e
  refine keeps_upd (fun x h => ?_) h e
  repeat' with_reducible first
    | exact h | assumption | apply keeps_guardWrite hP | apply keeps_pwrRequest hP

theorem keeps_execDisciplineWake (a0) (a1) {s t : State} (h : P s.toDev) (e : execDisciplineWake a0 a1 s = .next t) : P t.toDev := by
  unfold execDisciplineWake pwrLive at e
  refine keeps_upd (fun x h => ?_) h e
  repeat' with_reducible first
    | exact h | assumption | apply keeps_wakeF hP | apply keeps_doIf

theorem keeps_execGnssWake (a0) {s t : State} (h : P s.toDev) (e : execGnssWake a0 s = .next t) : P t.toDev := by
  unfold execGnssWake pwrLive at e
  refine keeps_upd (fun x h => ?_) h e
  repeat' with_reducible first
    | exact h | assumption | apply keeps_gnssWakeF hP | apply keeps_doIf

theorem keeps_execDisciplineMeasurement (a0) (a1) {s t : State} (h : P s.toDev) (e : execDisciplineMeasurement a0 a1 s = .next t) :
    P t.toDev := by
  unfold execDisciplineMeasurement pwrLive at e
  refine keeps_upd (fun x h => ?_) h e
  repeat' with_reducible first
    | exact h | assumption | apply keeps_discMeasure hP | apply keeps_doIf
    | intro _ _ _ | intro _ _

theorem keeps_execWakeMaxExpiry {s t : State} (h : P s.toDev) (e : execWakeMaxExpiry s = .next t) : P t.toDev := by
  unfold execWakeMaxExpiry pwrLive at e
  refine keeps_upd (fun x h => ?_) h e
  repeat' with_reducible first
    | exact h | assumption | apply keeps_wakeCut hP | apply keeps_doIf
    | intro _ _ _ | intro _ _

theorem keeps_execWakeSource (a0) {s t : State} (h : P s.toDev) (e : execWakeSource a0 s = .next t) : P t.toDev := by
  unfold execWakeSource pwrLive at e
  refine keeps_upd (fun x h => ?_) h e
  repeat' with_reducible first
    | exact h | assumption | apply keeps_wakeBy hP | apply keeps_doIf

theorem keeps_execLwExitTargetDue {s t : State} (h : P s.toDev) (e : execLwExitTargetDue s = .next t) : P t.toDev := by
  unfold execLwExitTargetDue pwrLive at e
  refine keeps_upd (fun x h => ?_) h e
  repeat' with_reducible first
    | exact h | assumption | apply keeps_wakeBy hP | apply keeps_doIf
    | intro _ _ _ | intro _ _
    | with_reducible apply keeps_rest hP

theorem keeps_execImgLoadHost (a0) (a1) {s t : State} (h : P s.toDev) (e : execImgLoadHost a0 a1 s = .next t) : P t.toDev := by
  unfold execImgLoadHost at e
  refine keeps_upd (fun x h => ?_) h e
  repeat' with_reducible first
    | exact h | assumption | apply keeps_guardWrite hP | apply keeps_loadHostF hP

theorem keeps_execImgReload (a0) {s t : State} (h : P s.toDev) (e : execImgReload a0 s = .next t) : P t.toDev := by
  unfold execImgReload at e
  refine keeps_upd (fun x h => ?_) h e
  repeat' with_reducible first
    | exact h | assumption | apply keeps_guardWrite hP | apply keeps_reloadF hP
    | intro _ _ _ | intro _ _

theorem keeps_execReloadApply {s t : State} (h : P s.toDev) (e : execReloadApply s = .next t) : P t.toDev := by
  unfold execReloadApply at e
  refine keeps_upd (fun x h => ?_) h e
  repeat' with_reducible first
    | exact h | assumption | apply keeps_reloadApplyF hP | apply keeps_doIf
    | intro _ _ _ | intro _ _

theorem keeps_execImgConfirm (a0) {s t : State} (h : P s.toDev) (e : execImgConfirm a0 s = .next t) : P t.toDev := by
  unfold execImgConfirm at e
  refine keeps_upd (fun x h => ?_) h e
  repeat' with_reducible first
    | exact h | assumption | apply keeps_guardWrite hP | apply keeps_confirmF hP
    | intro _ _ _ | intro _ _

theorem keeps_execLkgTimeExpiry {s t : State} (h : P s.toDev) (e : execLkgTimeExpiry s = .next t) : P t.toDev := by
  unfold execLkgTimeExpiry at e
  refine keeps_upd (fun x h => ?_) h e
  repeat' with_reducible first
    | exact h | assumption | apply keeps_confirmSlot hP | apply keeps_doIf
    | intro _ _ _ | intro _ _

theorem keeps_execImgClearBad (a0) (a1) {s t : State} (h : P s.toDev) (e : execImgClearBad a0 a1 s = .next t) : P t.toDev := by
  unfold execImgClearBad at e
  refine keeps_upd (fun x h => ?_) h e
  repeat' with_reducible first
    | exact h | assumption | apply keeps_guardWrite hP | apply keeps_clearBadF hP

theorem keeps_execSpiRead (a0) (a1) {s t : State} (h : P s.toDev) (e : execSpiRead a0 a1 s = .next t) : P t.toDev := by
  unfold execSpiRead at e
  refine keeps_upd (fun x h => ?_) h e
  repeat' with_reducible first
    | exact h | assumption | apply keeps_live hP | apply keeps_spiReadF hP

theorem keeps_execSpiWrite (a0) (a1) (a2) {s t : State} (h : P s.toDev) (e : execSpiWrite a0 a1 a2 s = .next t) : P t.toDev := by
  unfold execSpiWrite at e
  refine keeps_upd (fun x h => ?_) h e
  repeat' with_reducible first
    | exact h | assumption | apply keeps_live hP | apply keeps_cutWord hP | apply keeps_burstWrite hP
    | intro _ _ _ | intro _ _

theorem keeps_execSpiQuadRead (a0) (a1) {s t : State} (h : P s.toDev) (e : execSpiQuadRead a0 a1 s = .next t) : P t.toDev := by
  unfold execSpiQuadRead at e
  refine keeps_upd (fun x h => ?_) h e
  repeat' with_reducible first
    | exact h | assumption | apply keeps_live hP | apply keeps_spiReadF hP

theorem keeps_execSpiQuadWrite (a0) (a1) (a2) {s t : State} (h : P s.toDev) (e : execSpiQuadWrite a0 a1 a2 s = .next t) : P t.toDev := by
  unfold execSpiQuadWrite at e
  refine keeps_upd (fun x h => ?_) h e
  dsimp only
  repeat' first
    | (with_reducible first
      | exact h | assumption | apply keeps_live hP | apply keeps_burstWrite hP | apply keeps_cutWord hP)
    | intro _ _ _ | intro _ _

theorem keeps_execI2cWriteTransfer (a0) (a1) (a2) (a3) {s t : State} (h : P s.toDev) (e : execI2cWriteTransfer a0 a1 a2 a3 s = .next t) :
    P t.toDev := by
  unfold execI2cWriteTransfer at e
  refine keeps_upd (fun x h => ?_) h e
  repeat' first
    | (with_reducible first
      | exact h | assumption | apply keeps_cutWord hP | apply keeps_burstWrite hP | apply keeps_ite)

theorem keeps_execI2cReadTransfer (a0) (a1) (a2) {s t : State} (h : P s.toDev) (e : execI2cReadTransfer a0 a1 a2 s = .next t) : P t.toDev := by
  unfold execI2cReadTransfer at e
  refine keeps_upd (fun x h => ?_) h e
  dsimp only
  repeat' first
    | (with_reducible first
      | exact h | assumption | apply keeps_i2cRead hP | apply keeps_ite)
    | intro _ _ _ | intro _ _
    | split
    | with_reducible apply keeps_rest hP

theorem keeps_execPcieMemoryWrite (a0) (a1) (a2) {s t : State} (h : P s.toDev) (e : execPcieMemoryWrite a0 a1 a2 s = .next t) : P t.toDev := by
  unfold execPcieMemoryWrite at e
  refine keeps_upd (fun x h => ?_) h e
  repeat' with_reducible first
    | exact h | assumption | apply keeps_live hP | apply keeps_pcieWords hP

theorem keeps_execPcieMemoryRead (a0) (a1) (a2) {s t : State} (h : P s.toDev) (e : execPcieMemoryRead a0 a1 a2 s = .next t) : P t.toDev := by
  unfold execPcieMemoryRead at e
  refine keeps_upd (fun x h => ?_) h e
  dsimp only
  repeat' first
    | (with_reducible first
      | exact h | assumption | apply keeps_burstRead hP | apply keeps_ite)
    | intro _ _ _ | intro _ _
    | split
    | with_reducible apply keeps_rest hP

theorem keeps_execPerstNAssert {s t : State} (h : P s.toDev) (e : execPerstNAssert s = .next t) : P t.toDev := by
  unfold execPerstNAssert at e
  refine keeps_upd (fun x h => ?_) h e
  repeat' with_reducible first
    | exact h | assumption | apply keeps_perstLow hP | apply keeps_doIf
    | intro _ _ _ | intro _ _

theorem keeps_execPerstNRelease {s t : State} (h : P s.toDev) (e : execPerstNRelease s = .next t) : P t.toDev := by
  unfold execPerstNRelease at e
  refine keeps_upd (fun x h => ?_) h e
  repeat' with_reducible first
    | exact h | assumption | apply keeps_perstHigh hP | apply keeps_doIf
    | intro _ _ _ | intro _ _

theorem keeps_execPcieLinkUp (a0) (a1) {s t : State} (h : P s.toDev) (e : execPcieLinkUp a0 a1 s = .next t) : P t.toDev := by
  unfold execPcieLinkUp at e
  refine keeps_upd (fun x h => ?_) h e
  repeat' with_reducible first
    | exact h | assumption | apply keeps_linkUpF hP

theorem keeps_execPcieLinkDown {s t : State} (h : P s.toDev) (e : execPcieLinkDown s = .next t) : P t.toDev := by
  unfold execPcieLinkDown at e
  refine keeps_upd (fun x h => ?_) h e
  repeat' with_reducible first
    | exact h | assumption | apply keeps_live hP | apply keeps_linkDownF hP
    | intro _ _ _ | intro _ _

theorem keeps_execMsixSend (a0) {s t : State} (h : P s.toDev) (e : execMsixSend a0 s = .next t) : P t.toDev := by
  unfold execMsixSend at e
  refine keeps_upd (fun x h => ?_) h e
  repeat' with_reducible first
    | exact h | assumption | apply keeps_sendHeld hP | apply keeps_doIf

theorem keeps_execHifMgmtLock (a0) (a1) {s t : State} (h : P s.toDev) (e : execHifMgmtLock a0 a1 s = .next t) : P t.toDev := by
  unfold execHifMgmtLock at e
  refine keeps_upd (fun x h => ?_) h e
  repeat' with_reducible first
    | exact h | assumption | apply keeps_guardWrite hP | apply keeps_mgmtCtlF hP

theorem keeps_execBulkSelWrite (a0) (a1) (a2) {s t : State} (h : P s.toDev) (e : execBulkSelWrite a0 a1 a2 s = .next t) : P t.toDev := by
  unfold execBulkSelWrite at e
  refine keeps_upd (fun x h => ?_) h e
  repeat' with_reducible first
    | exact h | assumption | apply keeps_onBulk hP | apply keeps_bulkSelOp hP

theorem keeps_execBulkDataRead (a0) (a1) {s t : State} (h : P s.toDev) (e : execBulkDataRead a0 a1 s = .next t) : P t.toDev := by
  unfold execBulkDataRead at e
  refine keeps_upd (fun x h => ?_) h e
  repeat' with_reducible first
    | exact h | assumption | apply keeps_bulkReadF hP

theorem keeps_execBulkDataWrite (a0) (a1) (a2) {s t : State} (h : P s.toDev) (e : execBulkDataWrite a0 a1 a2 s = .next t) : P t.toDev := by
  unfold execBulkDataWrite at e
  refine keeps_upd (fun x h => ?_) h e
  repeat' with_reducible first
    | exact h | assumption | apply keeps_onBulk hP | apply keeps_bulkPut hP

theorem keeps_execBulkCursorWrite (a0) (a1) (a2) {s t : State} (h : P s.toDev) (e : execBulkCursorWrite a0 a1 a2 s = .next t) : P t.toDev := by
  unfold execBulkCursorWrite at e
  refine keeps_upd (fun x h => ?_) h e
  repeat' with_reducible first
    | exact h | assumption | apply keeps_onBulk hP | apply keeps_bulkCursorOp hP

theorem keeps_execBulkFlush (a0) (a1) {s t : State} (h : P s.toDev) (e : execBulkFlush a0 a1 s = .next t) : P t.toDev := by
  unfold execBulkFlush at e
  refine keeps_upd (fun x h => ?_) h e
  repeat' with_reducible first
    | exact h | assumption | apply keeps_onBulk hP | apply keeps_bulkFlushOp hP

theorem keeps_execBulkErase (a0) (a1) {s t : State} (h : P s.toDev) (e : execBulkErase a0 a1 s = .next t) : P t.toDev := by
  unfold execBulkErase at e
  refine keeps_upd (fun x h => ?_) h e
  repeat' with_reducible first
    | exact h | assumption | apply keeps_onBulk hP | apply keeps_bulkEraseOp hP

theorem keeps_execBulkAbort (a0) (a1) {s t : State} (h : P s.toDev) (e : execBulkAbort a0 a1 s = .next t) : P t.toDev := by
  unfold execBulkAbort at e
  refine keeps_upd (fun x h => ?_) h e
  repeat' with_reducible first
    | exact h | assumption | apply keeps_onBulk hP | apply keeps_bulkAbortOp hP

theorem keeps_execBulkRelease (a0) (a1) {s t : State} (h : P s.toDev) (e : execBulkRelease a0 a1 s = .next t) : P t.toDev := by
  unfold execBulkRelease at e
  refine keeps_upd (fun x h => ?_) h e
  repeat' with_reducible first
    | exact h | assumption | apply keeps_onBulk hP | apply keeps_bulkReleaseOp hP

theorem keeps_execFlashPageProgramDone (a0) (a1) {s t : State} (h : P s.toDev) (e : execFlashPageProgramDone a0 a1 s = .next t) : P t.toDev := by
  unfold execFlashPageProgramDone at e
  refine keeps_upd (fun x h => ?_) h e
  repeat' with_reducible first
    | exact h | assumption | apply keeps_programDone hP | apply keeps_doIf

theorem keeps_execFlashEraseDone (a0) {s t : State} (h : P s.toDev) (e : execFlashEraseDone a0 s = .next t) : P t.toDev := by
  unfold execFlashEraseDone at e
  refine keeps_upd (fun x h => ?_) h e
  repeat' with_reducible first
    | exact h | assumption | apply keeps_eraseDone hP | apply keeps_doIf

theorem keeps_execEpoch1us (a0) {s t : State} (h : P s.toDev) (e : execEpoch1us a0 s = .next t) : P t.toDev := by
  unfold execEpoch1us at e
  refine keeps_upd (fun x h => ?_) h e
  repeat' with_reducible first
    | exact h | assumption | apply keeps_epoch1usF hP

theorem keeps_execChannelSelftestDone (a0) {s t : State} (h : P s.toDev) (e : execChannelSelftestDone a0 s = .next t) : P t.toDev := by
  unfold execChannelSelftestDone at e
  refine keeps_upd (fun x h => ?_) h e
  repeat' with_reducible first
    | exact h | assumption | apply keeps_live hP | apply keeps_channelSelftestDoneF hP

theorem keeps_execEpoch1ms (a0) {s t : State} (h : P s.toDev) (e : execEpoch1ms a0 s = .next t) : P t.toDev := by
  unfold execEpoch1ms at e
  refine keeps_upd (fun x h => ?_) h e
  repeat' with_reducible first
    | exact h | assumption | apply keeps_epoch1msF hP

theorem keeps_execTbStep (a0) {s t : State} (h : P s.toDev) (e : execTbStep a0 s = .next t) : P t.toDev := by
  unfold execTbStep at e
  refine keeps_upd (fun x h => ?_) h e
  repeat' with_reducible first
    | exact h | assumption | apply keeps_guardWrite hP | apply keeps_tbStepF hP
    | intro _ _ _ | intro _ _

theorem keeps_execTbSet (a0) {s t : State} (h : P s.toDev) (e : execTbSet a0 s = .next t) : P t.toDev := by
  unfold execTbSet at e
  refine keeps_upd (fun x h => ?_) h e
  repeat' with_reducible first
    | exact h | assumption | apply keeps_guardWrite hP | apply keeps_armSet hP
    | intro _ _ _ | intro _ _

theorem keeps_execTbSlew (a0) {s t : State} (h : P s.toDev) (e : execTbSlew a0 s = .next t) : P t.toDev := by
  unfold execTbSlew at e
  refine keeps_upd (fun x h => ?_) h e
  repeat' with_reducible first
    | exact h | assumption | apply keeps_guardWrite hP | apply keeps_tbSlewF hP
    | intro _ _ _ | intro _ _

theorem keeps_execTbCancel (a0) {s t : State} (h : P s.toDev) (e : execTbCancel a0 s = .next t) : P t.toDev := by
  unfold execTbCancel at e
  refine keeps_upd (fun x h => ?_) h e
  repeat' with_reducible first
    | exact h | assumption | apply keeps_guardWrite hP | apply keeps_cancelTb hP
    | intro _ _ _ | intro _ _

theorem keeps_execTbReadmit (a0) (a1) {s t : State} (h : P s.toDev) (e : execTbReadmit a0 a1 s = .next t) : P t.toDev := by
  unfold execTbReadmit at e
  refine keeps_upd (fun x h => ?_) h e
  repeat' with_reducible first
    | exact h | assumption | apply keeps_guardWrite hP | apply keeps_tbReadmitF hP

theorem keeps_execTbReadmitDone (a0) {s t : State} (h : P s.toDev) (e : execTbReadmitDone a0 s = .next t) : P t.toDev := by
  unfold execTbReadmitDone at e
  refine keeps_upd (fun x h => ?_) h e
  repeat' with_reducible first
    | exact h | assumption | apply keeps_live hP | apply keeps_tbReadmitDoneF hP

theorem keeps_execStepWaitExpiry {s t : State} (h : P s.toDev) (e : execStepWaitExpiry s = .next t) : P t.toDev := by
  unfold execStepWaitExpiry at e
  refine keeps_upd (fun x h => ?_) h e
  repeat' with_reducible first
    | exact h | assumption | apply keeps_live hP | apply keeps_stepWaitExpiryF hP
    | intro _ _ _ | intro _ _

theorem keeps_execSlewComplete {s t : State} (h : P s.toDev) (e : execSlewComplete s = .next t) : P t.toDev := by
  unfold execSlewComplete at e
  refine keeps_upd (fun x h => ?_) h e
  repeat' with_reducible first
    | exact h | assumption | apply keeps_live hP | apply keeps_slewCompleteF hP
    | intro _ _ _ | intro _ _

theorem keeps_execTimeLatchRead (a0) (a1) {s t : State} (h : P s.toDev) (e : execTimeLatchRead a0 a1 s = .next t) : P t.toDev := by
  unfold execTimeLatchRead at e
  refine keeps_upd (fun x h => ?_) h e
  repeat' first
    | (with_reducible first
      | exact h | assumption | apply keeps_offAccess hP | apply keeps_timeLatchF hP | apply keeps_ite)
    | intro _ _ _ | intro _ _
    | split
    | with_reducible apply keeps_rest hP

theorem keeps_execTbAlarmFire (a0) {s t : State} (h : P s.toDev) (e : execTbAlarmFire a0 s = .next t) : P t.toDev := by
  unfold execTbAlarmFire at e
  refine keeps_upd (fun x h => ?_) h e
  repeat' with_reducible first
    | exact h | assumption | apply keeps_fireAlarm hP | apply keeps_doIf

theorem keeps_execLeapEntrySubmit (a0) (a1) {s t : State} (h : P s.toDev) (e : execLeapEntrySubmit a0 a1 s = .next t) : P t.toDev := by
  unfold execLeapEntrySubmit at e
  refine keeps_upd (fun x h => ?_) h e
  repeat' with_reducible first
    | exact h | assumption | apply keeps_guardWrite hP | apply keeps_leapSubmitF hP

theorem keeps_execUtcOffsetChange {s t : State} (h : P s.toDev) (e : execUtcOffsetChange s = .next t) : P t.toDev := by
  unfold execUtcOffsetChange at e
  refine keeps_upd (fun x h => ?_) h e
  repeat' with_reducible first
    | exact h | assumption | apply keeps_utcOffsetChangeF hP

theorem keeps_execCalendarLimit {s t : State} (h : P s.toDev) (e : execCalendarLimit s = .next t) : P t.toDev := by
  unfold execCalendarLimit at e
  refine keeps_upd (fun x h => ?_) h e
  repeat' with_reducible first
    | exact h | assumption | apply keeps_calendarLimitF hP

theorem keeps_execRefinEdge (a0) (a1) {s t : State} (h : P s.toDev) (e : execRefinEdge a0 a1 s = .next t) : P t.toDev := by
  unfold execRefinEdge at e
  refine keeps_upd (fun x h => ?_) h e
  repeat' with_reducible first
    | exact h | assumption | apply keeps_refinEdgeF hP

theorem keeps_execHoldoffExpiry (a0) {s t : State} (h : P s.toDev) (e : execHoldoffExpiry a0 s = .next t) : P t.toDev := by
  unfold execHoldoffExpiry at e
  refine keeps_upd (fun x h => ?_) h e
  repeat' with_reducible first
    | exact h | assumption | apply keeps_live hP | apply keeps_holdoffOver hP

theorem keeps_execChannelCapture (a0) (a1) (a2) {s t : State} (h : P s.toDev) (e : execChannelCapture a0 a1 a2 s = .next t) : P t.toDev := by
  unfold execChannelCapture at e
  refine keeps_upd (fun x h => ?_) h e
  repeat' with_reducible first
    | exact h | assumption | apply keeps_channelCaptureF hP

theorem keeps_execIntervalTimeout (a0) {s t : State} (h : P s.toDev) (e : execIntervalTimeout a0 s = .next t) : P t.toDev := by
  unfold execIntervalTimeout at e
  refine keeps_upd (fun x h => ?_) h e
  repeat' with_reducible first
    | exact h | assumption | apply keeps_intervalTimeoutF hP

theorem keeps_execSchedulerGrant {s t : State} (h : P s.toDev) (e : execSchedulerGrant s = .next t) : P t.toDev := by
  unfold execSchedulerGrant at e
  refine keeps_upd (fun x h => ?_) h e
  repeat' with_reducible first
    | exact h | assumption | apply keeps_schedule hP | apply keeps_doIf
    | intro _ _ _ | intro _ _

theorem keeps_execRequestComplete (a0) (a1) {s t : State} (h : P s.toDev) (e : execRequestComplete a0 a1 s = .next t) : P t.toDev := by
  unfold execRequestComplete at e
  refine keeps_upd (fun x h => ?_) h e
  repeat' with_reducible first
    | exact h | assumption | apply keeps_requestDone hP

theorem keeps_execRequestDue (a0) {s t : State} (h : P s.toDev) (e : execRequestDue a0 s = .next t) : P t.toDev := by
  unfold execRequestDue at e
  refine keeps_upd (fun x h => ?_) h e
  repeat' with_reducible first
    | exact h | assumption | apply keeps_requestDueF hP

theorem keeps_execRequestAgeLimit (a0) {s t : State} (h : P s.toDev) (e : execRequestAgeLimit a0 s = .next t) : P t.toDev := by
  unfold execRequestAgeLimit at e
  refine keeps_upd (fun x h => ?_) h e
  repeat' with_reducible first
    | exact h | assumption | apply keeps_requestAgeLimitF hP

theorem keeps_execMeasLoadSecond {s t : State} (h : P s.toDev) (e : execMeasLoadSecond s = .next t) : P t.toDev := by
  unfold execMeasLoadSecond at e
  refine keeps_upd (fun x h => ?_) h e
  repeat' with_reducible first
    | exact h | assumption | apply keeps_measLoadF hP | apply keeps_doIf
    | intro _ _ _ | intro _ _

theorem keeps_execMeasCalInlFull (a0) {s t : State} (h : P s.toDev) (e : execMeasCalInlFull a0 s = .next t) : P t.toDev := by
  unfold execMeasCalInlFull at e
  refine keeps_upd (fun x h => ?_) h e
  repeat' with_reducible first
    | exact h | assumption | apply keeps_guardWrite hP | apply keeps_startInl hP

theorem keeps_execMeasCalSkewAll (a0) {s t : State} (h : P s.toDev) (e : execMeasCalSkewAll a0 s = .next t) : P t.toDev := by
  unfold execMeasCalSkewAll at e
  refine keeps_upd (fun x h => ?_) h e
  repeat' with_reducible first
    | exact h | assumption | apply keeps_guardWrite hP | apply keeps_skewAll hP
    | intro _ _ _ | intro _ _

theorem keeps_execInlRunTrigger (a0) {s t : State} (h : P s.toDev) (e : execInlRunTrigger a0 s = .next t) : P t.toDev := by
  unfold execInlRunTrigger at e
  refine keeps_upd (fun x h => ?_) h e
  repeat' with_reducible first
    | exact h | assumption | apply keeps_inlTriggerF hP

theorem keeps_execInlRunComplete (a0) (a1) {s t : State} (h : P s.toDev) (e : execInlRunComplete a0 a1 s = .next t) : P t.toDev := by
  unfold execInlRunComplete at e
  refine keeps_upd (fun x h => ?_) h e
  repeat' with_reducible first
    | exact h | assumption | apply keeps_inlCompleteF hP

theorem keeps_execSkewRunComplete (a0) (a1) {s t : State} (h : P s.toDev) (e : execSkewRunComplete a0 a1 s = .next t) : P t.toDev := by
  unfold execSkewRunComplete at e
  refine keeps_upd (fun x h => ?_) h e
  repeat' with_reducible first
    | exact h | assumption | apply keeps_skewCompleteF hP

theorem keeps_execMeasReserveWrite (a0) (a1) (a2) {s t : State} (h : P s.toDev) (e : execMeasReserveWrite a0 a1 a2 s = .next t) : P t.toDev := by
  unfold execMeasReserveWrite at e
  refine keeps_upd (fun x h => ?_) h e
  repeat' with_reducible first
    | exact h | assumption | apply keeps_guardWrite hP | apply keeps_reserveF hP

theorem keeps_execMeasPowerLoss {s t : State} (h : P s.toDev) (e : execMeasPowerLoss s = .next t) : P t.toDev := by
  unfold execMeasPowerLoss at e
  refine keeps_upd (fun x h => ?_) h e
  repeat' with_reducible first
    | exact h | assumption | apply keeps_live hP | apply keeps_measLoss hP | apply keeps_doIf
    | intro _ _ _ | intro _ _

theorem keeps_execRefFeed (a0) (a1) {s t : State} (h : P s.toDev) (e : execRefFeed a0 a1 s = .next t) : P t.toDev := by
  unfold execRefFeed at e
  refine keeps_upd (fun x h => ?_) h e
  repeat' with_reducible first
    | exact h | assumption | apply keeps_guardWrite hP | apply keeps_refFeedF hP

theorem keeps_execSlotSignalTimeout (a0) {s t : State} (h : P s.toDev) (e : execSlotSignalTimeout a0 s = .next t) : P t.toDev := by
  unfold execSlotSignalTimeout at e
  refine keeps_upd (fun x h => ?_) h e
  repeat' with_reducible first
    | exact h | assumption | apply keeps_slotSignalTimeoutF hP

theorem keeps_execQualifyTimerExpiry (a0) {s t : State} (h : P s.toDev) (e : execQualifyTimerExpiry a0 s = .next t) : P t.toDev := by
  unfold execQualifyTimerExpiry at e
  refine keeps_upd (fun x h => ?_) h e
  repeat' with_reducible first
    | exact h | assumption | apply keeps_slotTo hP | apply keeps_doIf

theorem keeps_execSuspectClearExpiry (a0) {s t : State} (h : P s.toDev) (e : execSuspectClearExpiry a0 s = .next t) : P t.toDev := by
  unfold execSuspectClearExpiry at e
  refine keeps_upd (fun x h => ?_) h e
  repeat' with_reducible first
    | exact h | assumption | apply keeps_slotTo hP | apply keeps_doIf

theorem keeps_execDisagreeTimeExpiry (a0) (a1) {s t : State} (h : P s.toDev) (e : execDisagreeTimeExpiry a0 a1 s = .next t) : P t.toDev := by
  unfold execDisagreeTimeExpiry at e
  refine keeps_upd (fun x h => ?_) h e
  repeat' with_reducible first
    | exact h | assumption | apply keeps_disagreeExpiryF hP

theorem keeps_execLockTimeExpiry {s t : State} (h : P s.toDev) (e : execLockTimeExpiry s = .next t) : P t.toDev := by
  unfold execLockTimeExpiry at e
  refine keeps_upd (fun x h => ?_) h e
  repeat' with_reducible first
    | exact h | assumption | apply keeps_servoTo hP | apply keeps_doIf

theorem keeps_execRefSwitch (a0) (a1) {s t : State} (h : P s.toDev) (e : execRefSwitch a0 a1 s = .next t) : P t.toDev := by
  unfold execRefSwitch at e
  refine keeps_upd (fun x h => ?_) h e
  repeat' with_reducible first
    | exact h | assumption | apply keeps_guardWrite hP | apply keeps_refSwitchF hP

theorem keeps_execRefAuto (a0) {s t : State} (h : P s.toDev) (e : execRefAuto a0 s = .next t) : P t.toDev := by
  unfold execRefAuto at e
  refine keeps_upd (fun x h => ?_) h e
  repeat' with_reducible first
    | exact h | assumption | apply keeps_guardWrite hP | apply keeps_refAutoF hP
    | intro _ _ _ | intro _ _

theorem keeps_execRefHold (a0) {s t : State} (h : P s.toDev) (e : execRefHold a0 s = .next t) : P t.toDev := by
  unfold execRefHold at e
  refine keeps_upd (fun x h => ?_) h e
  repeat' with_reducible first
    | exact h | assumption | apply keeps_guardWrite hP | apply keeps_refHoldF hP
    | intro _ _ _ | intro _ _

theorem keeps_execRefRelease (a0) {s t : State} (h : P s.toDev) (e : execRefRelease a0 s = .next t) : P t.toDev := by
  unfold execRefRelease at e
  refine keeps_upd (fun x h => ?_) h e
  repeat' with_reducible first
    | exact h | assumption | apply keeps_guardWrite hP | apply keeps_refReleaseF hP
    | intro _ _ _ | intro _ _

theorem keeps_execRefTickSwitch (a0) {s t : State} (h : P s.toDev) (e : execRefTickSwitch a0 s = .next t) : P t.toDev := by
  unfold execRefTickSwitch at e
  refine keeps_upd (fun x h => ?_) h e
  repeat' with_reducible first
    | exact h | assumption | apply keeps_guardWrite hP | apply keeps_tickSwitchF hP
    | intro _ _ _ | intro _ _

theorem keeps_execHistoryEntry {s t : State} (h : P s.toDev) (e : execHistoryEntry s = .next t) : P t.toDev := by
  unfold execHistoryEntry at e
  refine keeps_upd (fun x h => ?_) h e
  repeat' with_reducible first
    | exact h | assumption | apply keeps_writeHistory hP | apply keeps_doIf
    | intro _ _ _ | intro _ _

theorem keeps_execEnsembleTermCommit (a0) (a1) {s t : State} (h : P s.toDev) (e : execEnsembleTermCommit a0 a1 s = .next t) : P t.toDev := by
  unfold execEnsembleTermCommit at e
  refine keeps_upd (fun x h => ?_) h e
  repeat' with_reducible first
    | exact h | assumption | apply keeps_guardWrite hP | apply keeps_ensembleCommitF hP

theorem keeps_execEnsembleTimeout {s t : State} (h : P s.toDev) (e : execEnsembleTimeout s = .next t) : P t.toDev := by
  unfold execEnsembleTimeout at e
  refine keeps_upd (fun x h => ?_) h e
  repeat' with_reducible first
    | exact h | assumption | apply keeps_ensembleTimeoutF hP

theorem keeps_execServoBwWrite (a0) (a1) {s t : State} (h : P s.toDev) (e : execServoBwWrite a0 a1 s = .next t) : P t.toDev := by
  unfold execServoBwWrite at e
  refine keeps_upd (fun x h => ?_) h e
  repeat' with_reducible first
    | exact h | assumption | apply keeps_guardWrite hP | apply keeps_servoBwF hP

theorem keeps_execHoldModelCommit (a0) {s t : State} (h : P s.toDev) (e : execHoldModelCommit a0 s = .next t) : P t.toDev := by
  unfold execHoldModelCommit at e
  refine keeps_upd (fun x h => ?_) h e
  repeat' with_reducible first
    | exact h | assumption | apply keeps_guardWrite hP | apply keeps_modelCommitF hP
    | intro _ _ _ | intro _ _

theorem keeps_execSynSweep (a0) (a1) (a2) {s t : State} (h : P s.toDev) (e : execSynSweep a0 a1 a2 s = .next t) : P t.toDev := by
  unfold execSynSweep at e
  refine keeps_upd (fun x h => ?_) h e
  repeat' with_reducible first
    | exact h | assumption | apply keeps_guardWrite hP | apply keeps_synSweepF hP

theorem keeps_execSynPllStart (a0) (a1) {s t : State} (h : P s.toDev) (e : execSynPllStart a0 a1 s = .next t) : P t.toDev := by
  unfold execSynPllStart at e
  refine keeps_upd (fun x h => ?_) h e
  repeat' with_reducible first
    | exact h | assumption | apply keeps_guardWrite hP | apply keeps_startPll hP

theorem keeps_execSynPllStop (a0) (a1) {s t : State} (h : P s.toDev) (e : execSynPllStop a0 a1 s = .next t) : P t.toDev := by
  unfold execSynPllStop at e
  refine keeps_upd (fun x h => ?_) h e
  repeat' with_reducible first
    | exact h | assumption | apply keeps_guardWrite hP | apply keeps_stopPll hP

theorem keeps_execSynPllHop (a0) (a1) {s t : State} (h : P s.toDev) (e : execSynPllHop a0 a1 s = .next t) : P t.toDev := by
  unfold execSynPllHop at e
  refine keeps_upd (fun x h => ?_) h e
  repeat' with_reducible first
    | exact h | assumption | apply keeps_guardWrite hP | apply keeps_hopNow hP

theorem keeps_execSynPllFlush (a0) (a1) {s t : State} (h : P s.toDev) (e : execSynPllFlush a0 a1 s = .next t) : P t.toDev := by
  unfold execSynPllFlush at e
  refine keeps_upd (fun x h => ?_) h e
  repeat' with_reducible first
    | exact h | assumption | apply keeps_guardWrite hP | apply keeps_flushPll hP

theorem keeps_execBandSearchComplete (a0) (a1) {s t : State} (h : P s.toDev) (e : execBandSearchComplete a0 a1 s = .next t) : P t.toDev := by
  unfold execBandSearchComplete at e
  refine keeps_upd (fun x h => ?_) h e
  repeat' with_reducible first
    | exact h | assumption | apply keeps_live hP | apply keeps_bandSearchF hP

theorem keeps_execPllLock (a0) {s t : State} (h : P s.toDev) (e : execPllLock a0 s = .next t) : P t.toDev := by
  unfold execPllLock at e
  refine keeps_upd (fun x h => ?_) h e
  repeat' with_reducible first
    | exact h | assumption | apply keeps_live hP | apply keeps_pllLockF hP

theorem keeps_execPllLockLoss (a0) {s t : State} (h : P s.toDev) (e : execPllLockLoss a0 s = .next t) : P t.toDev := by
  unfold execPllLockLoss at e
  refine keeps_upd (fun x h => ?_) h e
  repeat' with_reducible first
    | exact h | assumption | apply keeps_live hP | apply keeps_pllLossF hP

theorem keeps_execPllReferenceLoss (a0) {s t : State} (h : P s.toDev) (e : execPllReferenceLoss a0 s = .next t) : P t.toDev := by
  unfold execPllReferenceLoss at e
  refine keeps_upd (fun x h => ?_) h e
  repeat' with_reducible first
    | exact h | assumption | apply keeps_live hP | apply keeps_pllLossF hP

theorem keeps_execPllClockFallback (a0) {s t : State} (h : P s.toDev) (e : execPllClockFallback a0 s = .next t) : P t.toDev := by
  unfold execPllClockFallback at e
  refine keeps_upd (fun x h => ?_) h e
  repeat' with_reducible first
    | exact h | assumption | apply keeps_fallBackF hP

theorem keeps_execPllClockReturn (a0) {s t : State} (h : P s.toDev) (e : execPllClockReturn a0 s = .next t) : P t.toDev := by
  unfold execPllClockReturn at e
  refine keeps_upd (fun x h => ?_) h e
  repeat' with_reducible first
    | exact h | assumption | apply keeps_clockReturnF hP | apply keeps_doIf

theorem keeps_execTickOutOfRange {s t : State} (h : P s.toDev) (e : execTickOutOfRange s = .next t) : P t.toDev := by
  unfold execTickOutOfRange at e
  refine keeps_upd (fun x h => ?_) h e
  repeat' with_reducible first
    | exact h | assumption | apply keeps_tickRangeF hP

theorem keeps_execBandEntryParity (a0) (a1) {s t : State} (h : P s.toDev) (e : execBandEntryParity a0 a1 s = .next t) : P t.toDev := by
  unfold execBandEntryParity at e
  refine keeps_upd (fun x h => ?_) h e
  repeat' first
    | (with_reducible first
      | exact h | assumption | apply keeps_live hP | apply keeps_bandParityF hP | apply keeps_hopParityF hP)
    | intro _ _ _ | intro _ _
    | split

theorem keeps_execSynOutCfgWrite (a0) (a1) (a2) {s t : State} (h : P s.toDev) (e : execSynOutCfgWrite a0 a1 a2 s = .next t) : P t.toDev := by
  unfold execSynOutCfgWrite at e
  refine keeps_upd (fun x h => ?_) h e
  repeat' with_reducible first
    | exact h | assumption | apply keeps_guardWrite hP | apply keeps_outCfgF hP

theorem keeps_execPpsPhaseCommit (a0) (a1) (a2) {s t : State} (h : P s.toDev) (e : execPpsPhaseCommit a0 a1 a2 s = .next t) : P t.toDev := by
  unfold execPpsPhaseCommit at e
  refine keeps_upd (fun x h => ?_) h e
  repeat' with_reducible first
    | exact h | assumption | apply keeps_guardWrite hP | apply keeps_ppsCommitF hP

theorem keeps_execPpsEnableWrite (a0) (a1) (a2) {s t : State} (h : P s.toDev) (e : execPpsEnableWrite a0 a1 a2 s = .next t) : P t.toDev := by
  unfold execPpsEnableWrite at e
  refine keeps_upd (fun x h => ?_) h e
  repeat' with_reducible first
    | exact h | assumption | apply keeps_guardWrite hP | apply keeps_ppsEnableF hP

theorem keeps_execPpsChangeApply (a0) {s t : State} (h : P s.toDev) (e : execPpsChangeApply a0 s = .next t) : P t.toDev := by
  unfold execPpsChangeApply at e
  refine keeps_upd (fun x h => ?_) h e
  repeat' with_reducible first
    | exact h | assumption | apply keeps_live hP | apply keeps_ppsChangeF hP

theorem keeps_execCalAgeExpiry (a0) {s t : State} (h : P s.toDev) (e : execCalAgeExpiry a0 s = .next t) : P t.toDev := by
  unfold execCalAgeExpiry at e
  refine keeps_upd (fun x h => ?_) h e
  repeat' with_reducible first
    | exact h | assumption | apply keeps_live hP | apply keeps_calAgeF hP

theorem keeps_execOutputRealignDone (a0) {s t : State} (h : P s.toDev) (e : execOutputRealignDone a0 s = .next t) : P t.toDev := by
  unfold execOutputRealignDone at e
  refine keeps_upd (fun x h => ?_) h e
  repeat' with_reducible first
    | exact h | assumption | apply keeps_live hP | apply keeps_realignDoneF hP

theorem keeps_execGnSnapCapture (a0) {s t : State} (h : P s.toDev) (e : execGnSnapCapture a0 s = .next t) : P t.toDev := by
  unfold execGnSnapCapture at e
  refine keeps_upd (fun x h => ?_) h e
  repeat' with_reducible first
    | exact h | assumption | apply keeps_guardWrite hP | apply keeps_snapCaptureF hP
    | intro _ _ _ | intro _ _

theorem keeps_execGnSnapCancel (a0) {s t : State} (h : P s.toDev) (e : execGnSnapCancel a0 s = .next t) : P t.toDev := by
  unfold execGnSnapCancel at e
  refine keeps_upd (fun x h => ?_) h e
  repeat' with_reducible first
    | exact h | assumption | apply keeps_guardWrite hP | apply keeps_snapToFree hP

theorem keeps_execGnSnapFree (a0) {s t : State} (h : P s.toDev) (e : execGnSnapFree a0 s = .next t) : P t.toDev := by
  unfold execGnSnapFree at e
  refine keeps_upd (fun x h => ?_) h e
  repeat' with_reducible first
    | exact h | assumption | apply keeps_guardWrite hP | apply keeps_snapToFree hP

theorem keeps_execCaptureTrigger {s t : State} (h : P s.toDev) (e : execCaptureTrigger s = .next t) : P t.toDev := by
  unfold execCaptureTrigger at e
  refine keeps_upd (fun x h => ?_) h e
  repeat' with_reducible first
    | exact h | assumption | apply keeps_captureTriggerF hP

theorem keeps_execCaptureComplete (a0) {s t : State} (h : P s.toDev) (e : execCaptureComplete a0 s = .next t) : P t.toDev := by
  unfold execCaptureComplete at e
  refine keeps_upd (fun x h => ?_) h e
  repeat' with_reducible first
    | exact h | assumption | apply keeps_captureCompleteF hP

theorem keeps_execSnapshotParity {s t : State} (h : P s.toDev) (e : execSnapshotParity s = .next t) : P t.toDev := by
  unfold execSnapshotParity at e
  refine keeps_upd (fun x h => ?_) h e
  repeat' with_reducible first
    | exact h | assumption | apply keeps_snapParityF hP

theorem keeps_execGnAcqStart (a0) {s t : State} (h : P s.toDev) (e : execGnAcqStart a0 s = .next t) : P t.toDev := by
  unfold execGnAcqStart at e
  refine keeps_upd (fun x h => ?_) h e
  repeat' with_reducible first
    | exact h | assumption | apply keeps_guardWrite hP | apply keeps_acqStartF hP
    | intro _ _ _ | intro _ _

theorem keeps_execGnAcqAbort (a0) {s t : State} (h : P s.toDev) (e : execGnAcqAbort a0 s = .next t) : P t.toDev := by
  unfold execGnAcqAbort at e
  refine keeps_upd (fun x h => ?_) h e
  repeat' with_reducible first
    | exact h | assumption | apply keeps_guardWrite hP | apply keeps_acqAbortF hP
    | intro _ _ _ | intro _ _

theorem keeps_execAcqJobComplete (a0) {s t : State} (h : P s.toDev) (e : execAcqJobComplete a0 s = .next t) : P t.toDev := by
  unfold execAcqJobComplete at e
  refine keeps_upd (fun x h => ?_) h e
  repeat' with_reducible first
    | exact h | assumption | apply keeps_jobCompleteF hP

theorem keeps_execGnChStart (a0) (a1) {s t : State} (h : P s.toDev) (e : execGnChStart a0 a1 s = .next t) : P t.toDev := by
  unfold execGnChStart at e
  refine keeps_upd (fun x h => ?_) h e
  repeat' with_reducible first
    | exact h | assumption | apply keeps_guardWrite hP | apply keeps_startCh hP

theorem keeps_execGnChStop (a0) (a1) {s t : State} (h : P s.toDev) (e : execGnChStop a0 a1 s = .next t) : P t.toDev := by
  unfold execGnChStop at e
  refine keeps_upd (fun x h => ?_) h e
  repeat' with_reducible first
    | exact h | assumption | apply keeps_guardWrite hP | apply keeps_stopCh hP

theorem keeps_execChannelStartIndex (a0) {s t : State} (h : P s.toDev) (e : execChannelStartIndex a0 s = .next t) : P t.toDev := by
  unfold execChannelStartIndex at e
  refine keeps_upd (fun x h => ?_) h e
  repeat' with_reducible first
    | exact h | assumption | apply keeps_startIndexF hP

theorem keeps_execNcoCommit (a0) (a1) (a2) (a3) {s t : State} (h : P s.toDev) (e : execNcoCommit a0 a1 a2 a3 s = .next t) : P t.toDev := by
  unfold execNcoCommit at e
  refine keeps_upd (fun x h => ?_) h e
  repeat' first
    | (with_reducible first
      | exact h | assumption | apply keeps_guardWrite hP | apply keeps_ncoCommitF hP)

theorem keeps_execDumpClose (a0) (a1) {s t : State} (h : P s.toDev) (e : execDumpClose a0 a1 s = .next t) : P t.toDev := by
  unfold execDumpClose at e
  refine keeps_upd (fun x h => ?_) h e
  repeat' with_reducible first
    | exact h | assumption | apply keeps_dumpCh hP | apply keeps_doIf

theorem keeps_execMeasurementEpoch (a0) {s t : State} (h : P s.toDev) (e : execMeasurementEpoch a0 s = .next t) : P t.toDev := by
  unfold execMeasurementEpoch at e
  refine keeps_upd (fun x h => ?_) h e
  repeat' with_reducible first
    | exact h | assumption | apply keeps_measurementEpochF hP

theorem keeps_execEpochLatchTimeout (a0) {s t : State} (h : P s.toDev) (e : execEpochLatchTimeout a0 s = .next t) : P t.toDev := by
  unfold execEpochLatchTimeout at e
  refine keeps_upd (fun x h => ?_) h e
  repeat' with_reducible first
    | exact h | assumption | apply keeps_latchTimeoutF hP | apply keeps_doIf

theorem keeps_execEpochRecordsWrite {s t : State} (h : P s.toDev) (e : execEpochRecordsWrite s = .next t) : P t.toDev := by
  unfold execEpochRecordsWrite at e
  refine keeps_upd (fun x h => ?_) h e
  repeat' with_reducible first
    | exact h | assumption | apply keeps_writeEpoch hP | apply keeps_doIf
    | intro _ _ _ | intro _ _

theorem keeps_execGnFeedCommit (a0) (a1) {s t : State} (h : P s.toDev) (e : execGnFeedCommit a0 a1 s = .next t) : P t.toDev := by
  unfold execGnFeedCommit at e
  refine keeps_upd (fun x h => ?_) h e
  repeat' with_reducible first
    | exact h | assumption | apply keeps_guardWrite hP | apply keeps_fwOnly hP | apply keeps_gnFeedHi hP

theorem keeps_execVerdictChange (a0) (a1) {s t : State} (h : P s.toDev) (e : execVerdictChange a0 a1 s = .next t) : P t.toDev := by
  unfold execVerdictChange at e
  refine keeps_upd (fun x h => ?_) h e
  repeat' with_reducible first
    | exact h | assumption | apply keeps_guardWrite hP | apply keeps_fwOnly hP | apply keeps_verdictF hP

theorem keeps_execPortLatCal (a0) (a1) {s t : State} (h : P s.toDev) (e : execPortLatCal a0 a1 s = .next t) : P t.toDev := by
  unfold execPortLatCal at e
  refine keeps_upd (fun x h => ?_) h e
  repeat' with_reducible first
    | exact h | assumption | apply keeps_guardWrite hP | apply keeps_portLatCal hP

theorem keeps_execPortRestart (a0) (a1) (a2) {s t : State} (h : P s.toDev) (e : execPortRestart a0 a1 a2 s = .next t) : P t.toDev := by
  unfold execPortRestart at e
  refine keeps_upd (fun x h => ?_) h e
  repeat' with_reducible first
    | exact h | assumption | apply keeps_guardWrite hP | apply keeps_portRestart hP

theorem keeps_execPortReadmit (a0) (a1) {s t : State} (h : P s.toDev) (e : execPortReadmit a0 a1 s = .next t) : P t.toDev := by
  unfold execPortReadmit at e
  refine keeps_upd (fun x h => ?_) h e
  repeat' with_reducible first
    | exact h | assumption | apply keeps_guardWrite hP | apply keeps_portReadmit hP

theorem keeps_execLatencyCalComplete (a0) (a1) {s t : State} (h : P s.toDev) (e : execLatencyCalComplete a0 a1 s = .next t) : P t.toDev := by
  unfold execLatencyCalComplete at e
  refine keeps_upd (fun x h => ?_) h e
  repeat' with_reducible first
    | exact h | assumption | apply keeps_live hP | apply keeps_latencyDone hP

theorem keeps_execLinkUp (a0) (a1) (a2) {s t : State} (h : P s.toDev) (e : execLinkUp a0 a1 a2 s = .next t) : P t.toDev := by
  unfold execLinkUp at e
  refine keeps_upd (fun x h => ?_) h e
  repeat' with_reducible first
    | exact h | assumption | apply keeps_live hP | apply keeps_enterUp hP | apply keeps_doIf
    | intro _ _ _ | intro _ _

theorem keeps_execLinkDown (a0) (a1) {s t : State} (h : P s.toDev) (e : execLinkDown a0 a1 s = .next t) : P t.toDev := by
  unfold execLinkDown at e
  refine keeps_upd (fun x h => ?_) h e
  repeat' with_reducible first
    | exact h | assumption | apply keeps_live hP | apply keeps_leaveUp hP | apply keeps_doIf
    | intro _ _ _ | intro _ _

theorem keeps_execRxFrame (a0) (a1) (a2) {s t : State} (h : P s.toDev) (e : execRxFrame a0 a1 a2 s = .next t) : P t.toDev := by
  unfold execRxFrame at e
  refine keeps_upd (fun x h => ?_) h e
  repeat' with_reducible first
    | exact h | assumption | apply keeps_live hP | apply keeps_portReceive hP

theorem keeps_execTxFrame (a0) (a1) (a2) {s t : State} (h : P s.toDev) (e : execTxFrame a0 a1 a2 s = .next t) : P t.toDev := by
  unfold execTxFrame at e
  refine keeps_upd (fun x h => ?_) h e
  repeat' with_reducible first
    | exact h | assumption | apply keeps_live hP | apply keeps_transmit hP

theorem keeps_execDsgModeWrite (a0) (a1) {s t : State} (h : P s.toDev) (e : execDsgModeWrite a0 a1 s = .next t) : P t.toDev := by
  unfold execDsgModeWrite at e
  refine keeps_upd (fun x h => ?_) h e
  repeat' with_reducible first
    | exact h | assumption | apply keeps_guardWrite hP | apply keeps_dsgModeF hP

theorem keeps_execDsgBeaconStart {s t : State} (h : P s.toDev) (e : execDsgBeaconStart s = .next t) : P t.toDev := by
  unfold execDsgBeaconStart at e
  refine keeps_upd (fun x h => ?_) h e
  repeat' with_reducible first
    | exact h | assumption | apply keeps_beaconStart hP

theorem keeps_execDsgBeaconReceived (a0) (a1) {s t : State} (h : P s.toDev) (e : execDsgBeaconReceived a0 a1 s = .next t) : P t.toDev := by
  unfold execDsgBeaconReceived at e
  refine keeps_upd (fun x h => ?_) h e
  repeat' with_reducible first
    | exact h | assumption | apply keeps_beaconReceived hP

theorem keeps_execDsgTransmitOpportunity (a0) {s t : State} (h : P s.toDev) (e : execDsgTransmitOpportunity a0 s = .next t) : P t.toDev := by
  unfold execDsgTransmitOpportunity at e
  refine keeps_upd (fun x h => ?_) h e
  repeat' with_reducible first
    | exact h | assumption | apply keeps_live hP | apply keeps_opportunity hP

theorem keeps_execPlcaFallbackTimeout {s t : State} (h : P s.toDev) (e : execPlcaFallbackTimeout s = .next t) : P t.toDev := by
  unfold execPlcaFallbackTimeout at e
  refine keeps_upd (fun x h => ?_) h e
  repeat' with_reducible first
    | exact h | assumption | apply keeps_dsgLinkTo hP | apply keeps_dsgCnt hP | apply keeps_doIf
    | intro _ _ _ | intro _ _

theorem keeps_execCsmaSilence {s t : State} (h : P s.toDev) (e : execCsmaSilence s = .next t) : P t.toDev := by
  unfold execCsmaSilence at e
  refine keeps_upd (fun x h => ?_) h e
  repeat' with_reducible first
    | exact h | assumption | apply keeps_dsgLinkTo hP | apply keeps_doIf

theorem keeps_execDsgClockSourceChange {s t : State} (h : P s.toDev) (e : execDsgClockSourceChange s = .next t) : P t.toDev := by
  unfold execDsgClockSourceChange at e
  refine keeps_upd (fun x h => ?_) h e
  repeat' with_reducible first
    | exact h | assumption | apply keeps_clockSource hP

theorem keeps_execDsgRealignDone {s t : State} (h : P s.toDev) (e : execDsgRealignDone s = .next t) : P t.toDev := by
  unfold execDsgRealignDone at e
  refine keeps_upd (fun x h => ?_) h e
  repeat' with_reducible first
    | exact h | assumption | apply keeps_live hP | apply keeps_raise hP | apply keeps_dsgLocked hP | apply keeps_setF hP | apply keeps_doIf
    | intro _ _ _ | intro _ _

theorem keeps_execDsgRxFrame (a0) {s t : State} (h : P s.toDev) (e : execDsgRxFrame a0 s = .next t) : P t.toDev := by
  unfold execDsgRxFrame at e
  refine keeps_upd (fun x h => ?_) h e
  repeat' with_reducible first
    | exact h | assumption | apply keeps_wakeBy hP | apply keeps_dsgReceive hP | apply keeps_doIf

theorem keeps_execDsgEchoCalPeriod {s t : State} (h : P s.toDev) (e : execDsgEchoCalPeriod s = .next t) : P t.toDev := by
  unfold execDsgEchoCalPeriod at e
  refine keeps_upd (fun x h => ?_) h e
  repeat' with_reducible first
    | exact h | assumption | apply keeps_live hP | apply keeps_echoPeriod hP
    | intro _ _ _ | intro _ _

theorem keeps_execDsgQueueEntry (a0) (a1) {s t : State} (h : P s.toDev) (e : execDsgQueueEntry a0 a1 s = .next t) : P t.toDev := by
  unfold execDsgQueueEntry at e
  refine keeps_upd (fun x h => ?_) h e
  repeat' with_reducible first
    | exact h | assumption | apply keeps_guardWrite hP | apply keeps_queueEntry hP

theorem keeps_execDsgEntryDue (a0) (a1) (a2) (a3) (a4) {s t : State} (h : P s.toDev) (e : execDsgEntryDue a0 a1 a2 a3 a4 s = .next t) :
    P t.toDev := by
  unfold execDsgEntryDue at e
  refine keeps_upd (fun x h => ?_) h e
  repeat' with_reducible first
    | exact h | assumption | apply keeps_entryDue hP

theorem keeps_execDsgLateDrop (a0) {s t : State} (h : P s.toDev) (e : execDsgLateDrop a0 s = .next t) : P t.toDev := by
  unfold execDsgLateDrop at e
  refine keeps_upd (fun x h => ?_) h e
  repeat' with_reducible first
    | exact h | assumption | apply keeps_lateDrop hP

theorem keeps_execDsgQStatusRead (a0) {s t : State} (h : P s.toDev) (e : execDsgQStatusRead a0 s = .next t) : P t.toDev := by
  unfold execDsgQStatusRead at e
  refine keeps_upd (fun x h => ?_) h e
  repeat' with_reducible first
    | exact h | assumption | apply keeps_guardRead hP | apply keeps_qStatusRead hP

theorem keeps_execDsgLwTemplateSend (a0) (a1) {s t : State} (h : P s.toDev) (e : execDsgLwTemplateSend a0 a1 s = .next t) : P t.toDev := by
  unfold execDsgLwTemplateSend at e
  refine keeps_upd (fun x h => ?_) h e
  repeat' with_reducible first
    | exact h | assumption | apply keeps_lwSend hP | apply keeps_doIf

theorem keeps_execDsgPdelayResponse (a0) {s t : State} (h : P s.toDev) (e : execDsgPdelayResponse a0 s = .next t) : P t.toDev := by
  unfold execDsgPdelayResponse at e
  refine keeps_upd (fun x h => ?_) h e
  repeat' with_reducible first
    | exact h | assumption | apply keeps_live hP | apply keeps_pdelayResponse hP

theorem keeps_execPipelineOperation (a0) (a1) {s t : State} (h : P s.toDev) (e : execPipelineOperation a0 a1 s = .next t) : P t.toDev := by
  unfold execPipelineOperation at e
  refine keeps_upd (fun x h => ?_) h e
  repeat' with_reducible first
    | exact h | assumption | apply keeps_pipeOp hP | apply keeps_doIf

theorem keeps_execCryptoCreditTimeout (a0) {s t : State} (h : P s.toDev) (e : execCryptoCreditTimeout a0 s = .next t) : P t.toDev := by
  unfold execCryptoCreditTimeout at e
  refine keeps_upd (fun x h => ?_) h e
  repeat' with_reducible first
    | exact h | assumption | apply keeps_creditTimeout hP | apply keeps_doIf

theorem keeps_execWheelSlotStart {s t : State} (h : P s.toDev) (e : execWheelSlotStart s = .next t) : P t.toDev := by
  unfold execWheelSlotStart at e
  refine keeps_upd (fun x h => ?_) h e
  repeat' with_reducible first
    | exact h | assumption | apply keeps_wheelSlot hP | apply keeps_doIf
    | intro _ _ _ | intro _ _

theorem keeps_execSessionSweep {s t : State} (h : P s.toDev) (e : execSessionSweep s = .next t) : P t.toDev := by
  unfold execSessionSweep at e
  refine keeps_upd (fun x h => ?_) h e
  repeat' with_reducible first
    | exact h | assumption | apply keeps_forEach | apply keeps_expire hP | apply keeps_doIf
    | intro _ _ _ | intro _ _

theorem keeps_execWeirSweep (a0) {s t : State} (h : P s.toDev) (e : execWeirSweep a0 s = .next t) : P t.toDev := by
  unfold execWeirSweep at e
  refine keeps_upd (fun x h => ?_) h e
  repeat' with_reducible first
    | exact h | assumption | apply keeps_weirSweepAll hP | apply keeps_doIf

theorem keeps_execSessionParity (a0) (a1) {s t : State} (h : P s.toDev) (e : execSessionParity a0 a1 s = .next t) : P t.toDev := by
  unfold execSessionParity at e
  refine keeps_upd (fun x h => ?_) h e
  repeat' with_reducible first
    | exact h | assumption | apply keeps_sessionParity hP | apply keeps_doIf

theorem keeps_execTimedLaunch (a0) (a1) {s t : State} (h : P s.toDev) (e : execTimedLaunch a0 a1 s = .next t) : P t.toDev := by
  unfold execTimedLaunch at e
  refine keeps_upd (fun x h => ?_) h e
  repeat' with_reducible first
    | exact h | assumption | apply keeps_timedDue hP | apply keeps_doIf

theorem keeps_execHostTransmitRecord {s t : State} (h : P s.toDev) (e : execHostTransmitRecord s = .next t) : P t.toDev := by
  unfold execHostTransmitRecord at e
  refine keeps_upd (fun x h => ?_) h e
  repeat' with_reducible first
    | exact h | assumption | apply keeps_hostTransmit hP | apply keeps_doIf
    | intro _ _ _ | intro _ _

theorem keeps_execNontimingResponse {s t : State} (h : P s.toDev) (e : execNontimingResponse s = .next t) : P t.toDev := by
  unfold execNontimingResponse at e
  refine keeps_upd (fun x h => ?_) h e
  repeat' with_reducible first
    | exact h | assumption | apply keeps_respond hP | apply keeps_doIf
    | intro _ _ _ | intro _ _

theorem keeps_execEsmcSend (a0) (a1) {s t : State} (h : P s.toDev) (e : execEsmcSend a0 a1 s = .next t) : P t.toDev := by
  unfold execEsmcSend at e
  refine keeps_upd (fun x h => ?_) h e
  repeat' with_reducible first
    | exact h | assumption | apply keeps_esmcSend hP | apply keeps_doIf

theorem keeps_execLeapIndicatorChange {s t : State} (h : P s.toDev) (e : execLeapIndicatorChange s = .next t) : P t.toDev := by
  unfold execLeapIndicatorChange at e
  refine keeps_upd (fun x h => ?_) h e
  repeat' with_reducible first
    | exact h | assumption | apply keeps_refreshLeapInd hP | apply keeps_doIf
    | intro _ _ _ | intro _ _

theorem keeps_execServingChange {s t : State} (h : P s.toDev) (e : execServingChange s = .next t) : P t.toDev := by
  unfold execServingChange at e
  refine keeps_upd (fun x h => ?_) h e
  repeat' with_reducible first
    | exact h | assumption | apply keeps_refreshServing hP | apply keeps_doIf
    | intro _ _ _ | intro _ _

theorem keeps_execKeyDelivery (a0) {s t : State} (h : P s.toDev) (e : execKeyDelivery a0 s = .next t) : P t.toDev := by
  unfold execKeyDelivery keyLive at e
  refine keeps_upd (fun x h => ?_) h e
  repeat' with_reducible first
    | exact h | assumption | apply keeps_dlvProcess hP | apply keeps_doIf
    | intro _ _ _ | intro _ _

theorem keeps_execKeyDeliveryDiscard (a0) {s t : State} (h : P s.toDev) (e : execKeyDeliveryDiscard a0 s = .next t) : P t.toDev := by
  unfold execKeyDeliveryDiscard keyLive at e
  refine keeps_upd (fun x h => ?_) h e
  repeat' with_reducible first
    | exact h | assumption | apply keeps_dlvDiscard hP | apply keeps_doIf
    | intro _ _ _ | intro _ _

theorem keeps_execKeyClose (a0) {s t : State} (h : P s.toDev) (e : execKeyClose a0 s = .next t) : P t.toDev := by
  unfold execKeyClose at e
  refine keeps_upd (fun x h => ?_) h e
  repeat' with_reducible first
    | exact h | assumption | apply keeps_guardWrite hP | apply keeps_keyCloseF hP
    | intro _ _ _ | intro _ _

theorem keeps_execKeyZeroize (a0) {s t : State} (h : P s.toDev) (e : execKeyZeroize a0 s = .next t) : P t.toDev := by
  unfold execKeyZeroize at e
  refine keeps_upd (fun x h => ?_) h e
  repeat' with_reducible first
    | exact h | assumption | apply keeps_guardWrite hP | apply keeps_keyZeroizeF hP
    | intro _ _ _ | intro _ _

theorem keeps_execKeyErase (a0) (a1) (a2) {s t : State} (h : P s.toDev) (e : execKeyErase a0 a1 a2 s = .next t) : P t.toDev := by
  unfold execKeyErase at e
  refine keeps_upd (fun x h => ?_) h e
  repeat' with_reducible first
    | exact h | assumption | apply keeps_guardWrite hP | apply keeps_keyEraseF hP

theorem keeps_execKeyClearOpened (a0) {s t : State} (h : P s.toDev) (e : execKeyClearOpened a0 s = .next t) : P t.toDev := by
  unfold execKeyClearOpened at e
  refine keeps_upd (fun x h => ?_) h e
  repeat' with_reducible first
    | exact h | assumption | apply keeps_rwpDo hP | apply keeps_keyClearOpenedF hP
    | intro _ _ _ | intro _ _

theorem keeps_execPresenceAssert {s t : State} (h : P s.toDev) (e : execPresenceAssert s = .next t) : P t.toDev := by
  unfold execPresenceAssert pwrLive at e
  refine keeps_upd (fun x h => ?_) h e
  repeat' with_reducible first
    | exact h | assumption | apply keeps_wakeBy hP | apply keeps_presenceAssertF hP | apply keeps_doIf
    | intro _ _ _ | intro _ _

theorem keeps_execPresenceWindowExpiry {s t : State} (h : P s.toDev) (e : execPresenceWindowExpiry s = .next t) : P t.toDev := by
  unfold execPresenceWindowExpiry keyLive at e
  refine keeps_upd (fun x h => ?_) h e
  repeat' with_reducible first
    | exact h | assumption | apply keeps_closeWindow hP | apply keeps_doIf
    | intro _ _ _ | intro _ _

theorem keeps_execSealOpen {s t : State} (h : P s.toDev) (e : execSealOpen s = .next t) : P t.toDev := by
  unfold execSealOpen pwrLive at e
  refine keeps_upd (fun x h => ?_) h e
  repeat' with_reducible first
    | exact h | assumption | apply keeps_wakeBy hP | apply keeps_sealOpenF hP | apply keeps_doIf
    | intro _ _ _ | intro _ _

theorem keeps_execSealIntact {s t : State} (h : P s.toDev) (e : execSealIntact s = .next t) : P t.toDev := by
  unfold execSealIntact keyLive at e
  refine keeps_upd (fun x h => ?_) h e
  repeat' with_reducible first
    | exact h | assumption | apply keeps_sealIntactF hP | apply keeps_doIf
    | intro _ _ _ | intro _ _

theorem keeps_execZeroizationComplete {s t : State} (h : P s.toDev) (e : execZeroizationComplete s = .next t) : P t.toDev := by
  unfold execZeroizationComplete keyLive at e
  refine keeps_upd (fun x h => ?_) h e
  repeat' with_reducible first
    | exact h | assumption | apply keeps_zeroizationCompleteF hP | apply keeps_doIf
    | intro _ _ _ | intro _ _

theorem keeps_execKeyActivationEvaluation {s t : State} (h : P s.toDev) (e : execKeyActivationEvaluation s = .next t) : P t.toDev := by
  unfold execKeyActivationEvaluation keyLive at e
  refine keeps_upd (fun x h => ?_) h e
  repeat' with_reducible first
    | exact h | assumption | apply keeps_keyEvaluate hP | apply keeps_doIf
    | intro _ _ _ | intro _ _

theorem keeps_execKeySlotParity (a0) (a1) {s t : State} (h : P s.toDev) (e : execKeySlotParity a0 a1 s = .next t) : P t.toDev := by
  unfold execKeySlotParity keyLive at e
  refine keeps_upd (fun x h => ?_) h e
  repeat' with_reducible first
    | exact h | assumption | apply keeps_keySlotParityF hP | apply keeps_doIf

theorem keeps_execProgramHash (a0) (a1) {s t : State} (h : P s.toDev) (e : execProgramHash a0 a1 s = .next t) : P t.toDev := by
  unfold execProgramHash at e
  refine keeps_upd (fun x h => ?_) h e
  repeat' with_reducible first
    | exact h | assumption | apply keeps_rwpDo hP | apply keeps_programHashF hP

theorem keeps_execRevokeHash (a0) (a1) {s t : State} (h : P s.toDev) (e : execRevokeHash a0 a1 s = .next t) : P t.toDev := by
  unfold execRevokeHash at e
  refine keeps_upd (fun x h => ?_) h e
  repeat' with_reducible first
    | exact h | assumption | apply keeps_rwpDo hP | apply keeps_revokeHashF hP

theorem keeps_execProgramKek (a0) {s t : State} (h : P s.toDev) (e : execProgramKek a0 s = .next t) : P t.toDev := by
  unfold execProgramKek at e
  refine keeps_upd (fun x h => ?_) h e
  repeat' with_reducible first
    | exact h | assumption | apply keeps_rwpDo hP | apply keeps_programKekF hP
    | intro _ _ _ | intro _ _

theorem keeps_execRevokeKek (a0) {s t : State} (h : P s.toDev) (e : execRevokeKek a0 s = .next t) : P t.toDev := by
  unfold execRevokeKek at e
  refine keeps_upd (fun x h => ?_) h e
  repeat' with_reducible first
    | exact h | assumption | apply keeps_rwpDo hP | apply keeps_fuseStart hP

theorem keeps_execDisableDebug (a0) {s t : State} (h : P s.toDev) (e : execDisableDebug a0 s = .next t) : P t.toDev := by
  unfold execDisableDebug at e
  refine keeps_upd (fun x h => ?_) h e
  repeat' with_reducible first
    | exact h | assumption | apply keeps_rwpDo hP | apply keeps_fuseStart hP

theorem keeps_execFuseCommandComplete (a0) (a1) {s t : State} (h : P s.toDev) (e : execFuseCommandComplete a0 a1 s = .next t) : P t.toDev := by
  unfold execFuseCommandComplete keyLive at e
  refine keeps_upd (fun x h => ?_) h e
  repeat' with_reducible first
    | exact h | assumption | apply keeps_fuseCompleteF hP | apply keeps_doIf

theorem keeps_execDebugUnlock (a0) {s t : State} (h : P s.toDev) (e : execDebugUnlock a0 s = .next t) : P t.toDev := by
  unfold execDebugUnlock at e
  refine keeps_upd (fun x h => ?_) h e
  repeat' with_reducible first
    | exact h | assumption | apply keeps_rwpDo hP | apply keeps_debugUnlockF hP
    | intro _ _ _ | intro _ _

theorem keeps_execEngineSelftest (a0) {s t : State} (h : P s.toDev) (e : execEngineSelftest a0 s = .next t) : P t.toDev := by
  unfold execEngineSelftest keyLive at e
  refine keeps_upd (fun x h => ?_) h e
  repeat' with_reducible first
    | exact h | assumption | apply keeps_engineTests hP | apply keeps_doIf
    | intro _ _ _ | intro _ _

theorem keeps_execEngineReadmit (a0) (a1) (a2) {s t : State} (h : P s.toDev) (e : execEngineReadmit a0 a1 a2 s = .next t) : P t.toDev := by
  unfold execEngineReadmit at e
  refine keeps_upd (fun x h => ?_) h e
  repeat' with_reducible first
    | exact h | assumption | apply keeps_guardWrite hP | apply keeps_engineReadmitF hP

theorem keeps_execRngReseed (a0) {s t : State} (h : P s.toDev) (e : execRngReseed a0 s = .next t) : P t.toDev := by
  unfold execRngReseed at e
  refine keeps_upd (fun x h => ?_) h e
  repeat' with_reducible first
    | exact h | assumption | apply keeps_guardWrite hP | apply keeps_rngReseedF hP
    | intro _ _ _ | intro _ _

theorem keeps_execRngHealthFailure {s t : State} (h : P s.toDev) (e : execRngHealthFailure s = .next t) : P t.toDev := by
  unfold execRngHealthFailure keyLive at e
  refine keeps_upd (fun x h => ?_) h e
  repeat' with_reducible first
    | exact h | assumption | apply keeps_rngFailF hP | apply keeps_doIf
    | intro _ _ _ | intro _ _

theorem keeps_execMillraceLinkTraining (a0) {s t : State} (h : P s.toDev) (e : execMillraceLinkTraining a0 s = .next t) : P t.toDev := by
  unfold execMillraceLinkTraining at e
  refine keeps_upd (fun x h => ?_) h e
  repeat' with_reducible first
    | exact h | assumption | apply keeps_millraceTrain hP

theorem keeps_execHelloReceived (a0) (a1) {s t : State} (h : P s.toDev) (e : execHelloReceived a0 a1 s = .next t) : P t.toDev := by
  unfold execHelloReceived at e
  refine keeps_upd (fun x h => ?_) h e
  repeat' first
    | (with_reducible first
      | exact h | assumption | apply keeps_helloIn hP | apply keeps_mrFrame hP | apply keeps_ite)
    | intro _ _ _ | intro _ _

theorem keeps_execMillraceLinkLoss (a0) {s t : State} (h : P s.toDev) (e : execMillraceLinkLoss a0 s = .next t) : P t.toDev := by
  unfold execMillraceLinkLoss at e
  refine keeps_upd (fun x h => ?_) h e
  repeat' with_reducible first
    | exact h | assumption | apply keeps_linkLoss hP

theorem keeps_execClaimRoundEnd (a0) (a1) {s t : State} (h : P s.toDev) (e : execClaimRoundEnd a0 a1 s = .next t) : P t.toDev := by
  unfold execClaimRoundEnd at e
  refine keeps_upd (fun x h => ?_) h e
  dsimp only
  repeat' first
    | (with_reducible first
      | exact h | assumption | apply keeps_roundEnd hP | apply keeps_wakeBy hP | apply keeps_doIf)

theorem keeps_execClaimStageChange (a0) {s t : State} (h : P s.toDev) (e : execClaimStageChange a0 s = .next t) : P t.toDev := by
  unfold execClaimStageChange at e
  refine keeps_upd (fun x h => ?_) h e
  repeat' with_reducible first
    | exact h | assumption | apply keeps_live hP | apply keeps_stageChange hP

theorem keeps_execClaimBusFault {s t : State} (h : P s.toDev) (e : execClaimBusFault s = .next t) : P t.toDev := by
  unfold execClaimBusFault at e
  refine keeps_upd (fun x h => ?_) h e
  repeat' with_reducible first
    | exact h | assumption | apply keeps_raise hP | apply keeps_twnCount hP | apply keeps_setF hP | apply keeps_modTwn hP | apply keeps_doIf
    | intro _ _ _ | intro _ _

theorem keeps_execPartnerLossExpiry {s t : State} (h : P s.toDev) (e : execPartnerLossExpiry s = .next t) : P t.toDev := by
  unfold execPartnerLossExpiry at e
  refine keeps_upd (fun x h => ?_) h e
  repeat' with_reducible first
    | exact h | assumption | apply keeps_twinTo hP | apply keeps_doIf

theorem keeps_execTwnYield (a0) {s t : State} (h : P s.toDev) (e : execTwnYield a0 s = .next t) : P t.toDev := by
  unfold execTwnYield at e
  refine keeps_upd (fun x h => ?_) h e
  repeat' with_reducible first
    | exact h | assumption | apply keeps_guardWrite hP | apply keeps_twnYield hP

theorem keeps_execTwnUnyield (a0) {s t : State} (h : P s.toDev) (e : execTwnUnyield a0 s = .next t) : P t.toDev := by
  unfold execTwnUnyield at e
  refine keeps_upd (fun x h => ?_) h e
  repeat' with_reducible first
    | exact h | assumption | apply keeps_guardWrite hP | apply keeps_twnYield hP

theorem keeps_execTwnResync (a0) {s t : State} (h : P s.toDev) (e : execTwnResync a0 s = .next t) : P t.toDev := by
  unfold execTwnResync at e
  refine keeps_upd (fun x h => ?_) h e
  repeat' with_reducible first
    | exact h | assumption | apply keeps_guardWrite hP | apply keeps_resync hP
    | intro _ _ _ | intro _ _

theorem keeps_execTwnRetrain (a0) {s t : State} (h : P s.toDev) (e : execTwnRetrain a0 s = .next t) : P t.toDev := by
  unfold execTwnRetrain at e
  refine keeps_upd (fun x h => ?_) h e
  repeat' with_reducible first
    | exact h | assumption | apply keeps_guardWrite hP | apply keeps_twnRetrain hP
    | intro _ _ _ | intro _ _

theorem keeps_execTwnAsymWrite (a0) (a1) {s t : State} (h : P s.toDev) (e : execTwnAsymWrite a0 a1 s = .next t) : P t.toDev := by
  unfold execTwnAsymWrite at e
  refine keeps_upd (fun x h => ?_) h e
  repeat' with_reducible first
    | exact h | assumption | apply keeps_guardWrite hP | apply keeps_twnAsym hP

theorem keeps_execAlignmentFrame (a0) (a1) {s t : State} (h : P s.toDev) (e : execAlignmentFrame a0 a1 s = .next t) : P t.toDev := by
  unfold execAlignmentFrame at e
  refine keeps_upd (fun x h => ?_) h e
  repeat' with_reducible first
    | exact h | assumption | apply keeps_mrFrame hP | apply keeps_alignCombine hP

theorem keeps_execJournalRecord (a0) (a1) (a2) {s t : State} (h : P s.toDev) (e : execJournalRecord a0 a1 a2 s = .next t) : P t.toDev := by
  unfold execJournalRecord at e
  refine keeps_upd (fun x h => ?_) h e
  repeat' with_reducible first
    | exact h | assumption | apply keeps_mrFrame hP | apply keeps_stageRec hP

theorem keeps_execMirrorCommitReceived (a0) (a1) {s t : State} (h : P s.toDev) (e : execMirrorCommitReceived a0 a1 s = .next t) : P t.toDev := by
  unfold execMirrorCommitReceived at e
  refine keeps_upd (fun x h => ?_) h e
  dsimp only
  repeat' first
    | (with_reducible first
      | exact h | assumption | apply keeps_mrFrame hP | apply keeps_commitIn hP | apply keeps_discardEpoch hP | apply keeps_doIf)
    | intro _ _ _ | intro _ _

theorem keeps_execMirrorAcknowledge (a0) (a1) {s t : State} (h : P s.toDev) (e : execMirrorAcknowledge a0 a1 s = .next t) : P t.toDev := by
  unfold execMirrorAcknowledge at e
  refine keeps_upd (fun x h => ?_) h e
  repeat' with_reducible first
    | exact h | assumption | apply keeps_mrFrame hP | apply keeps_modTwn hP

theorem keeps_execRequestAgain (a0) (a1) {s t : State} (h : P s.toDev) (e : execRequestAgain a0 a1 s = .next t) : P t.toDev := by
  unfold execRequestAgain at e
  refine keeps_upd (fun x h => ?_) h e
  repeat' with_reducible first
    | exact h | assumption | apply keeps_mrFrame hP | apply keeps_againIn hP

theorem keeps_execRetentionExceeded {s t : State} (h : P s.toDev) (e : execRetentionExceeded s = .next t) : P t.toDev := by
  unfold execRetentionExceeded at e
  refine keeps_upd (fun x h => ?_) h e
  repeat' with_reducible first
    | exact h | assumption | apply keeps_retention hP | apply keeps_doIf
    | intro _ _ _ | intro _ _

theorem keeps_execSweepRecord (a0) (a1) {s t : State} (h : P s.toDev) (e : execSweepRecord a0 a1 s = .next t) : P t.toDev := by
  unfold execSweepRecord at e
  refine keeps_upd (fun x h => ?_) h e
  repeat' with_reducible first
    | exact h | assumption | apply keeps_mrFrame hP | apply keeps_sweepIn hP

theorem keeps_execHealthFrameSend {s t : State} (h : P s.toDev) (e : execHealthFrameSend s = .next t) : P t.toDev := by
  unfold execHealthFrameSend at e
  refine keeps_upd (fun x h => ?_) h e
  repeat' with_reducible first
    | exact h | assumption | apply keeps_healthOut hP | apply keeps_doIf
    | intro _ _ _ | intro _ _

theorem keeps_execHealthFrameReceived (a0) (a1) {s t : State} (h : P s.toDev) (e : execHealthFrameReceived a0 a1 s = .next t) : P t.toDev := by
  unfold execHealthFrameReceived at e
  refine keeps_upd (fun x h => ?_) h e
  repeat' with_reducible first
    | exact h | assumption | apply keeps_mrFrame hP | apply keeps_healthIn hP

theorem keeps_execHealthStale {s t : State} (h : P s.toDev) (e : execHealthStale s = .next t) : P t.toDev := by
  unfold execHealthStale at e
  refine keeps_upd (fun x h => ?_) h e
  repeat' with_reducible first
    | exact h | assumption | apply keeps_healthStale hP | apply keeps_doIf
    | intro _ _ _ | intro _ _

theorem keeps_execHuntTest (a0) {s t : State} (h : P s.toDev) (e : execHuntTest a0 s = .next t) : P t.toDev := by
  unfold execHuntTest at e
  refine keeps_upd (fun x h => ?_) h e
  repeat' with_reducible first
    | exact h | assumption | apply keeps_hunt hP

theorem keeps_execCoreStart (a0) (a1) {s t : State} (h : P s.toDev) (e : execCoreStart a0 a1 s = .next t) : P t.toDev := by
  unfold execCoreStart at e
  refine keeps_upd (fun x h => ?_) h e
  repeat' with_reducible first
    | exact h | assumption | apply keeps_guardWrite hP | apply keeps_coreStartOp hP

theorem keeps_execCoreHalt (a0) (a1) {s t : State} (h : P s.toDev) (e : execCoreHalt a0 a1 s = .next t) : P t.toDev := by
  unfold execCoreHalt at e
  refine keeps_upd (fun x h => ?_) h e
  repeat' with_reducible first
    | exact h | assumption | apply keeps_guardWrite hP | apply keeps_coreHaltOp hP

theorem keeps_execCoreReadmit (a0) (a1) {s t : State} (h : P s.toDev) (e : execCoreReadmit a0 a1 s = .next t) : P t.toDev := by
  unfold execCoreReadmit at e
  refine keeps_upd (fun x h => ?_) h e
  repeat' with_reducible first
    | exact h | assumption | apply keeps_guardWrite hP | apply keeps_coreReadmitOp hP

theorem keeps_execSleepInstruction (a0) {s t : State} (h : P s.toDev) (e : execSleepInstruction a0 s = .next t) : P t.toDev := by
  unfold execSleepInstruction at e
  refine keeps_upd (fun x h => ?_) h e
  repeat' with_reducible first
    | exact h | assumption | apply keeps_sleepOp hP | apply keeps_doIf

theorem keeps_execCoreException (a0) (a1) {s t : State} (h : P s.toDev) (e : execCoreException a0 a1 s = .next t) : P t.toDev := by
  unfold execCoreException at e
  refine keeps_upd (fun x h => ?_) h e
  repeat' with_reducible first
    | exact h | assumption | apply keeps_exceptionOp hP | apply keeps_doIf

theorem keeps_execWatchdogKick (a0) (a1) (a2) {s t : State} (h : P s.toDev) (e : execWatchdogKick a0 a1 a2 s = .next t) : P t.toDev := by
  unfold execWatchdogKick at e
  refine keeps_upd (fun x h => ?_) h e
  repeat' with_reducible first
    | exact h | assumption | apply keeps_kickCore hP | apply keeps_doIf

theorem keeps_execWatchdogExpiry (a0) {s t : State} (h : P s.toDev) (e : execWatchdogExpiry a0 s = .next t) : P t.toDev := by
  unfold execWatchdogExpiry at e
  refine keeps_upd (fun x h => ?_) h e
  repeat' with_reducible first
    | exact h | assumption | apply keeps_watchdogOp hP | apply keeps_doIf

theorem keeps_execCoreTimerFire (a0) {s t : State} (h : P s.toDev) (e : execCoreTimerFire a0 s = .next t) : P t.toDev := by
  unfold execCoreTimerFire at e
  refine keeps_upd (fun x h => ?_) h e
  repeat' with_reducible first
    | exact h | assumption | apply keeps_coreTimerOp hP | apply keeps_doIf

theorem keeps_execLockstepEnableWrite (a0) (a1) {s t : State} (h : P s.toDev) (e : execLockstepEnableWrite a0 a1 s = .next t) : P t.toDev := by
  unfold execLockstepEnableWrite at e
  refine keeps_upd (fun x h => ?_) h e
  repeat' with_reducible first
    | exact h | assumption | apply keeps_guardWrite hP | apply keeps_lockstepOp hP

theorem keeps_execLockstepMismatch (a0) (a1) {s t : State} (h : P s.toDev) (e : execLockstepMismatch a0 a1 s = .next t) : P t.toDev := by
  unfold execLockstepMismatch at e
  refine keeps_upd (fun x h => ?_) h e
  repeat' with_reducible first
    | exact h | assumption | apply keeps_mismatchOp hP | apply keeps_doIf

theorem keeps_execTlbInvalidate (a0) (a1) {s t : State} (h : P s.toDev) (e : execTlbInvalidate a0 a1 s = .next t) : P t.toDev := by
  unfold execTlbInvalidate at e
  refine keeps_upd (fun x h => ?_) h e
  repeat' with_reducible first
    | exact h | assumption | apply keeps_guardWrite hP | apply keeps_tlbInvOp hP

theorem keeps_execPageReload (a0) {s t : State} (h : P s.toDev) (e : execPageReload a0 s = .next t) : P t.toDev := by
  unfold execPageReload at e
  refine keeps_upd (fun x h => ?_) h e
  repeat' with_reducible first
    | exact h | assumption | apply keeps_guardWrite hP | apply keeps_pageReloadOp hP
    | intro _ _ _ | intro _ _

theorem keeps_execSramParityAccess (a0) (a1) (a2) (a3) {s t : State} (h : P s.toDev) (e : execSramParityAccess a0 a1 a2 a3 s = .next t) :
    P t.toDev := by
  unfold execSramParityAccess at e
  refine keeps_upd (fun x h => ?_) h e
  repeat' with_reducible first
    | exact h | assumption | apply keeps_live hP | apply keeps_parityAccess hP

theorem keeps_execDmaHeadWrite (a0) (a1) (a2) {s t : State} (h : P s.toDev) (e : execDmaHeadWrite a0 a1 a2 s = .next t) : P t.toDev := by
  unfold execDmaHeadWrite at e
  refine keeps_upd (fun x h => ?_) h e
  repeat' with_reducible first
    | exact h | assumption | apply keeps_guardWrite hP | apply keeps_dmaHeadOp hP

theorem keeps_execDmaBeat (a0) {s t : State} (h : P s.toDev) (e : execDmaBeat a0 s = .next t) : P t.toDev := by
  unfold execDmaBeat at e
  refine keeps_upd (fun x h => ?_) h e
  repeat' with_reducible first
    | exact h | assumption | apply keeps_dmaBeatF hP

theorem keeps_execDescriptorRetire (a0) {s t : State} (h : P s.toDev) (e : execDescriptorRetire a0 s = .next t) : P t.toDev := by
  unfold execDescriptorRetire at e
  refine keeps_upd (fun x h => ?_) h e
  repeat' with_reducible first
    | exact h | assumption | apply keeps_retireOp hP | apply keeps_doIf

theorem keeps_execDmaPark (a0) (a1) (a2) (a3) {s t : State} (h : P s.toDev) (e : execDmaPark a0 a1 a2 a3 s = .next t) : P t.toDev := by
  unfold execDmaPark at e
  refine keeps_upd (fun x h => ?_) h e
  repeat' with_reducible first
    | exact h | assumption | apply keeps_dmaParkOp hP | apply keeps_doIf

theorem keeps_execDmaResume (a0) (a1) {s t : State} (h : P s.toDev) (e : execDmaResume a0 a1 s = .next t) : P t.toDev := by
  unfold execDmaResume at e
  refine keeps_upd (fun x h => ?_) h e
  repeat' with_reducible first
    | exact h | assumption | apply keeps_guardWrite hP | apply keeps_dmaResumeOp hP

theorem keeps_execDmaPause (a0) (a1) {s t : State} (h : P s.toDev) (e : execDmaPause a0 a1 s = .next t) : P t.toDev := by
  unfold execDmaPause at e
  refine keeps_upd (fun x h => ?_) h e
  repeat' with_reducible first
    | exact h | assumption | apply keeps_guardWrite hP | apply keeps_dmaPauseOp hP

theorem keeps_execDmaSkip (a0) (a1) {s t : State} (h : P s.toDev) (e : execDmaSkip a0 a1 s = .next t) : P t.toDev := by
  unfold execDmaSkip at e
  refine keeps_upd (fun x h => ?_) h e
  repeat' with_reducible first
    | exact h | assumption | apply keeps_guardWrite hP | apply keeps_dmaSkipOp hP

theorem keeps_execDmaAbort (a0) (a1) {s t : State} (h : P s.toDev) (e : execDmaAbort a0 a1 s = .next t) : P t.toDev := by
  unfold execDmaAbort at e
  refine keeps_upd (fun x h => ?_) h e
  repeat' with_reducible first
    | exact h | assumption | apply keeps_guardWrite hP | apply keeps_dmaAbortCmd hP

theorem keeps_execEventRaise (a0) (a1) (a2) {s t : State} (h : P s.toDev) (e : execEventRaise a0 a1 a2 s = .next t) : P t.toDev := by
  unfold execEventRaise at e
  refine keeps_upd (fun x h => ?_) h e
  repeat' with_reducible first
    | exact h | assumption | apply keeps_eventRaiseF hP

theorem keeps_execRecordDelivery (a0) {s t : State} (h : P s.toDev) (e : execRecordDelivery a0 s = .next t) : P t.toDev := by
  unfold execRecordDelivery at e
  refine keeps_upd (fun x h => ?_) h e
  repeat' with_reducible first
    | exact h | assumption | apply keeps_live hP | apply keeps_recordDeliveryF hP

theorem keeps_execEvqTgtRdWrite (a0) (a1) (a2) {s t : State} (h : P s.toDev) (e : execEvqTgtRdWrite a0 a1 a2 s = .next t) : P t.toDev := by
  unfold execEvqTgtRdWrite at e
  refine keeps_upd (fun x h => ?_) h e
  repeat' with_reducible first
    | exact h | assumption | apply keeps_guardWrite hP | apply keeps_tgtRdWriteF hP

theorem keeps_execEvqRecordRead (a0) (a1) {s t : State} (h : P s.toDev) (e : execEvqRecordRead a0 a1 s = .next t) : P t.toDev := by
  unfold execEvqRecordRead at e
  refine keeps_upd (fun x h => ?_) h e
  repeat' with_reducible first
    | exact h | assumption | apply keeps_guardRead hP | apply keeps_recordReadF hP

theorem keeps_execModerationExpiry (a0) {s t : State} (h : P s.toDev) (e : execModerationExpiry a0 s = .next t) : P t.toDev := by
  unfold execModerationExpiry at e
  refine keeps_upd (fun x h => ?_) h e
  repeat' with_reducible first
    | exact h | assumption | apply keeps_moderationExpiryF hP

theorem keeps_execEvqRetargetWrite (a0) (a1) {s t : State} (h : P s.toDev) (e : execEvqRetargetWrite a0 a1 s = .next t) : P t.toDev := by
  unfold execEvqRetargetWrite at e
  refine keeps_upd (fun x h => ?_) h e
  repeat' with_reducible first
    | exact h | assumption | apply keeps_guardWrite hP | apply keeps_retargetWriteF hP

theorem keeps_execEvqSrcTgtWrite (a0) (a1) (a2) {s t : State} (h : P s.toDev) (e : execEvqSrcTgtWrite a0 a1 a2 s = .next t) : P t.toDev := by
  unfold execEvqSrcTgtWrite at e
  refine keeps_upd (fun x h => ?_) h e
  repeat' with_reducible first
    | exact h | assumption | apply keeps_guardWrite hP | apply keeps_srcTgtWriteF hP

theorem keeps_execRetargetTimeout (a0) {s t : State} (h : P s.toDev) (e : execRetargetTimeout a0 s = .next t) : P t.toDev := by
  unfold execRetargetTimeout at e
  refine keeps_upd (fun x h => ?_) h e
  repeat' with_reducible first
    | exact h | assumption | apply keeps_retargetTimeoutF hP

theorem keeps_execEvqHoldWrite (a0) (a1) {s t : State} (h : P s.toDev) (e : execEvqHoldWrite a0 a1 s = .next t) : P t.toDev := by
  unfold execEvqHoldWrite at e
  refine keeps_upd (fun x h => ?_) h e
  repeat' with_reducible first
    | exact h | assumption | apply keeps_guardWrite hP | apply keeps_setF hP

theorem keeps_execEvqRecordParity (a0) (a1) {s t : State} (h : P s.toDev) (e : execEvqRecordParity a0 a1 s = .next t) : P t.toDev := by
  unfold execEvqRecordParity at e
  refine keeps_upd (fun x h => ?_) h e
  repeat' with_reducible first
    | exact h | assumption | apply keeps_recordParityF hP

theorem keeps_execUnitReport (a0) {s t : State} (h : P s.toDev) (e : execUnitReport a0 s = .next t) : P t.toDev := by
  unfold execUnitReport at e
  refine keeps_upd (fun x h => ?_) h e
  repeat' with_reducible first
    | exact h | assumption | apply keeps_live hP | apply keeps_unitReportF hP

theorem keeps_execRailFaultDetect (a0) (a1) {s t : State} (h : P s.toDev) (e : execRailFaultDetect a0 a1 s = .next t) : P t.toDev := by
  unfold execRailFaultDetect at e
  refine keeps_upd (fun x h => ?_) h e
  repeat' with_reducible first
    | exact h | assumption | apply keeps_live hP | apply keeps_railDetect hP

theorem keeps_execUnitPoll (a0) (a1) {s t : State} (h : P s.toDev) (e : execUnitPoll a0 a1 s = .next t) : P t.toDev := by
  unfold execUnitPoll at e
  refine keeps_upd (fun x h => ?_) h e
  repeat' with_reducible first
    | exact h | assumption | apply keeps_pollUnit hP

theorem keeps_execSelftestStart (a0) {s t : State} (h : P s.toDev) (e : execSelftestStart a0 s = .next t) : P t.toDev := by
  unfold execSelftestStart at e
  refine keeps_upd (fun x h => ?_) h e
  repeat' with_reducible first
    | exact h | assumption | apply keeps_live hP | apply keeps_testStart hP

theorem keeps_execSelftestComplete (a0) (a1) {s t : State} (h : P s.toDev) (e : execSelftestComplete a0 a1 s = .next t) : P t.toDev := by
  unfold execSelftestComplete at e
  refine keeps_upd (fun x h => ?_) h e
  repeat' with_reducible first
    | exact h | assumption | apply keeps_live hP | apply keeps_testDone hP

theorem keeps_execHandlingNoTestExpiry (a0) {s t : State} (h : P s.toDev) (e : execHandlingNoTestExpiry a0 s = .next t) : P t.toDev := by
  unfold execHandlingNoTestExpiry at e
  refine keeps_upd (fun x h => ?_) h e
  repeat' with_reducible first
    | exact h | assumption | apply keeps_live hP | apply keeps_noTestDone hP

theorem keeps_execFatalDecision (a0) (a1) (a2) {s t : State} (h : P s.toDev) (e : execFatalDecision a0 a1 a2 s = .next t) : P t.toDev := by
  unfold execFatalDecision at e
  refine keeps_upd (fun x h => ?_) h e
  repeat' with_reducible first
    | exact h | assumption | apply keeps_fatalDecisionF hP

theorem keeps_execFltReadmit (a0) (a1) {s t : State} (h : P s.toDev) (e : execFltReadmit a0 a1 s = .next t) : P t.toDev := by
  unfold execFltReadmit at e
  refine keeps_upd (fun x h => ?_) h e
  repeat' with_reducible first
    | exact h | assumption | apply keeps_guardWrite hP | apply keeps_readmitF hP

theorem keeps_execReadmitTestComplete (a0) (a1) {s t : State} (h : P s.toDev) (e : execReadmitTestComplete a0 a1 s = .next t) : P t.toDev := by
  unfold execReadmitTestComplete at e
  refine keeps_upd (fun x h => ?_) h e
  repeat' with_reducible first
    | exact h | assumption | apply keeps_readmitDone hP

theorem keeps_execFltLatchRead (a0) (a1) {s t : State} (h : P s.toDev) (e : execFltLatchRead a0 a1 s = .next t) : P t.toDev := by
  unfold execFltLatchRead at e
  refine keeps_upd (fun x h => ?_) h e
  repeat' with_reducible first
    | exact h | assumption | apply keeps_guardRead hP | apply keeps_latchRead hP

theorem keeps_execFltRailRead (a0) (a1) (a2) {s t : State} (h : P s.toDev) (e : execFltRailRead a0 a1 a2 s = .next t) : P t.toDev := by
  unfold execFltRailRead at e
  refine keeps_upd (fun x h => ?_) h e
  repeat' first
    | (with_reducible first
      | exact h | assumption | apply keeps_guardRead hP | apply keeps_railRead hP )

theorem keeps_execFltInjectGo (a0) {s t : State} (h : P s.toDev) (e : execFltInjectGo a0 s = .next t) : P t.toDev := by
  unfold execFltInjectGo at e
  refine keeps_upd (fun x h => ?_) h e
  repeat' with_reducible first
    | exact h | assumption | apply keeps_guardWrite hP | apply keeps_injGo hP

theorem keeps_execFltInjectStop (a0) {s t : State} (h : P s.toDev) (e : execFltInjectStop a0 s = .next t) : P t.toDev := by
  unfold execFltInjectStop at e
  refine keeps_upd (fun x h => ?_) h e
  repeat' with_reducible first
    | exact h | assumption | apply keeps_guardWrite hP | apply keeps_injEnd hP
    | intro _ _ _ | intro _ _

theorem keeps_execInjectedReport {s t : State} (h : P s.toDev) (e : execInjectedReport s = .next t) : P t.toDev := by
  unfold execInjectedReport at e
  refine keeps_upd (fun x h => ?_) h e
  repeat' with_reducible first
    | exact h | assumption | apply keeps_live hP | apply keeps_injReport hP
    | intro _ _ _ | intro _ _

theorem keeps_execRecorderWrite {s t : State} (h : P s.toDev) (e : execRecorderWrite s = .next t) : P t.toDev := by
  unfold execRecorderWrite at e
  refine keeps_upd (fun x h => ?_) h e
  repeat' with_reducible first
    | exact h | assumption | apply keeps_recorderWriteF hP | apply keeps_doIf
    | intro _ _ _ | intro _ _

theorem keeps_execRecorderWeirSweep {s t : State} (h : P s.toDev) (e : execRecorderWeirSweep s = .next t) : P t.toDev := by
  unfold execRecorderWeirSweep at e
  refine keeps_upd (fun x h => ?_) h e
  repeat' with_reducible first
    | exact h | assumption | apply keeps_weirSweepF hP | apply keeps_doIf
    | intro _ _ _ | intro _ _

theorem keeps_execLogRec0Read (a0) {s t : State} (h : P s.toDev) (e : execLogRec0Read a0 s = .next t) : P t.toDev := by
  unfold execLogRec0Read at e
  refine keeps_upd (fun x h => ?_) h e
  repeat' with_reducible first
    | exact h | assumption | apply keeps_guardRead hP | apply keeps_rec0ReadF hP

theorem keeps_execLogRec7Read (a0) {s t : State} (h : P s.toDev) (e : execLogRec7Read a0 s = .next t) : P t.toDev := by
  unfold execLogRec7Read at e
  refine keeps_upd (fun x h => ?_) h e
  repeat' with_reducible first
    | exact h | assumption | apply keeps_guardRead hP | apply keeps_rec7ReadF hP

theorem keeps_execLogCurWrite (a0) (a1) {s t : State} (h : P s.toDev) (e : execLogCurWrite a0 a1 s = .next t) : P t.toDev := by
  unfold execLogCurWrite at e
  refine keeps_upd (fun x h => ?_) h e
  repeat' with_reducible first
    | exact h | assumption | apply keeps_guardWrite hP | apply keeps_logCurWriteF hP

theorem keeps_execStateBlockPeriod (a0) {s t : State} (h : P s.toDev) (e : execStateBlockPeriod a0 s = .next t) : P t.toDev := by
  unfold execStateBlockPeriod at e
  refine keeps_upd (fun x h => ?_) h e
  repeat' with_reducible first
    | exact h | assumption | apply keeps_periodBlock hP

theorem keeps_execStateNow (a0) (a1) {s t : State} (h : P s.toDev) (e : execStateNow a0 a1 s = .next t) : P t.toDev := by
  unfold execStateNow at e
  refine keeps_upd (fun x h => ?_) h e
  repeat' with_reducible first
    | exact h | assumption | apply keeps_guardWrite hP | apply keeps_stateBlock hP

theorem keeps_execArchiveFlush (a0) (a1) {s t : State} (h : P s.toDev) (e : execArchiveFlush a0 a1 s = .next t) : P t.toDev := by
  unfold execArchiveFlush at e
  refine keeps_upd (fun x h => ?_) h e
  repeat' with_reducible first
    | exact h | assumption | apply keeps_guardWrite hP | apply keeps_archiveFlushF hP

theorem keeps_execForcedStateBlock (a0) {s t : State} (h : P s.toDev) (e : execForcedStateBlock a0 s = .next t) : P t.toDev := by
  unfold execForcedStateBlock at e
  refine keeps_upd (fun x h => ?_) h e
  repeat' with_reducible first
    | exact h | assumption | apply keeps_forcedBlock hP

theorem keeps_execRecorderPageProgram (a0) {s t : State} (h : P s.toDev) (e : execRecorderPageProgram a0 s = .next t) : P t.toDev := by
  unfold execRecorderPageProgram at e
  refine keeps_upd (fun x h => ?_) h e
  repeat' with_reducible first
    | exact h | assumption | apply keeps_recordPage hP | apply keeps_leapWrite hP | apply keeps_doIf
    | intro _ _ _ | intro _ _

theorem keeps_execArchiveSectorErase (a0) {s t : State} (h : P s.toDev) (e : execArchiveSectorErase a0 s = .next t) : P t.toDev := by
  unfold execArchiveSectorErase at e
  refine keeps_upd (fun x h => ?_) h e
  repeat' with_reducible first
    | exact h | assumption | apply keeps_enterSector hP | apply keeps_doIf

theorem keeps_execThermalSample (a0) (a1) {s t : State} (h : P s.toDev) (e : execThermalSample a0 a1 s = .next t) : P t.toDev := by
  unfold execThermalSample at e
  refine keeps_upd (fun x h => ?_) h e
  repeat' with_reducible first
    | exact h | assumption | apply keeps_thermalSampleF hP | apply keeps_doIf

theorem keeps_execPmcSnap (a0) {s t : State} (h : P s.toDev) (e : execPmcSnap a0 s = .next t) : P t.toDev := by
  unfold execPmcSnap at e
  refine keeps_upd (fun x h => ?_) h e
  repeat' with_reducible first
    | exact h | assumption | apply keeps_guardWrite hP | apply keeps_snapGo hP
    | intro _ _ _ | intro _ _

theorem keeps_execLedgerCopy (a0) {s t : State} (h : P s.toDev) (e : execLedgerCopy a0 s = .next t) : P t.toDev := by
  unfold execLedgerCopy at e
  refine keeps_upd (fun x h => ?_) h e
  repeat' with_reducible first
    | exact h | assumption | apply keeps_ledgerCopyF hP

theorem keeps_execPmcGenCfgWrite (a0) (a1) (a2) {s t : State} (h : P s.toDev) (e : execPmcGenCfgWrite a0 a1 a2 s = .next t) : P t.toDev := by
  unfold execPmcGenCfgWrite at e
  refine keeps_upd (fun x h => ?_) h e
  repeat' with_reducible first
    | exact h | assumption | apply keeps_guardWrite hP | apply keeps_genCfgF hP

theorem keeps_execPmcPrivWrite (a0) (a1) (a2) (a3) {s t : State} (h : P s.toDev) (e : execPmcPrivWrite a0 a1 a2 a3 s = .next t) : P t.toDev := by
  unfold execPmcPrivWrite at e
  refine keeps_upd (fun x h => ?_) h e
  repeat' with_reducible first
    | exact h | assumption | apply keeps_guardWrite hP | apply keeps_privWriteF hP

theorem keeps_execCounterWrap (a0) (a1) {s t : State} (h : P s.toDev) (e : execCounterWrap a0 a1 s = .next t) : P t.toDev := by
  unfold execCounterWrap at e
  refine keeps_upd (fun x h => ?_) h e
  repeat' with_reducible first
    | exact h | assumption | apply keeps_counterAdd hP

theorem keeps_execEsmcTimeout (a0) {s t : State} (h : P s.toDev) (e : execEsmcTimeout a0 s = .next t) : P t.toDev := by
  unfold execEsmcTimeout at e
  refine keeps_upd (fun x h => ?_) h e
  repeat' with_reducible first
    | exact h | assumption | apply keeps_setQl hP | apply keeps_doIf

theorem keeps_execSlotResultTimeout (a0) {s t : State} (h : P s.toDev) (e : execSlotResultTimeout a0 s = .next t) : P t.toDev := by
  unfold execSlotResultTimeout at e
  refine keeps_upd (fun x h => ?_) h e
  repeat' with_reducible first
    | exact h | assumption | apply keeps_slotTo hP | apply keeps_doIf

theorem keeps_execPllReferenceReturn (a0) {s t : State} (h : P s.toDev) (e : execPllReferenceReturn a0 s = .next t) : P t.toDev := by
  unfold execPllReferenceReturn at e
  refine keeps_upd (fun x h => ?_) h e
  repeat' with_reducible first
    | exact h | assumption | apply keeps_live hP | apply keeps_pllReturnF hP

theorem keeps_execDsgSignalLoss {s t : State} (h : P s.toDev) (e : execDsgSignalLoss s = .next t) : P t.toDev := by
  unfold execDsgSignalLoss at e
  refine keeps_upd (fun x h => ?_) h e
  repeat' with_reducible first
    | exact h | assumption | apply keeps_dsgLinkTo hP | apply keeps_modDsg hP | apply keeps_endCycle hP | apply keeps_doIf
    | intro _ _ _ | intro _ _

theorem keeps_execPcieConfigWrite (a0) (a1) {s t : State} (h : P s.toDev) (e : execPcieConfigWrite a0 a1 s = .next t) : P t.toDev := by
  unfold execPcieConfigWrite at e
  refine keeps_upd (fun x h => ?_) h e
  repeat' with_reducible first
    | exact h | assumption | apply keeps_configF hP | apply keeps_doIf

theorem keeps_execRailFaultRetry (a0) {s t : State} (h : P s.toDev) (e : execRailFaultRetry a0 s = .next t) : P t.toDev := by
  unfold execRailFaultRetry pwrLive at e
  refine keeps_upd (fun x h => ?_) h e
  repeat' with_reducible first
    | exact h | assumption | apply keeps_railRetry hP | apply keeps_doIf

end Sys2Proof.Laws
end

