-- ==== Sys2Proof/Laws/State.lean ====
section
/-! SUPPORT. What each shared update leaves alone: one lemma per field per update, so that no later proof unfolds a record
update. -/

namespace Sys2Proof.Laws

set_option Elab.async false

open Sys2Proof Sys2Proof.Machine

/-! ### wr -/

@[simp] theorem wr_latch (a : Nat) (v : Word) (d : Dev) : (wr a v d).latch = d.latch := rfl
@[simp] theorem wr_held (a : Nat) (v : Word) (d : Dev) : (wr a v d).held = d.held := rfl
@[simp] theorem wr_ram (a : Nat) (v : Word) (d : Dev) : (wr a v d).ram = d.ram := rfl
@[simp] theorem wr_badWords (a : Nat) (v : Word) (d : Dev) : (wr a v d).badWords = d.badWords := rfl
@[simp] theorem wr_flash (a : Nat) (v : Word) (d : Dev) : (wr a v d).flash = d.flash := rfl
@[simp] theorem wr_resp (a : Nat) (v : Word) (d : Dev) : (wr a v d).resp = d.resp := rfl
@[simp] theorem wr_spiStatus (a : Nat) (v : Word) (d : Dev) : (wr a v d).spiStatus = d.spiStatus := rfl
@[simp] theorem wr_ctr (a : Nat) (v : Word) (d : Dev) : (wr a v d).ctr = d.ctr := rfl
@[simp] theorem wr_tb (a : Nat) (v : Word) (d : Dev) : (wr a v d).tb = d.tb := rfl
@[simp] theorem wr_lpc (a : Nat) (v : Word) (d : Dev) : (wr a v d).lpc = d.lpc := rfl
@[simp] theorem wr_evq (a : Nat) (v : Word) (d : Dev) : (wr a v d).evq = d.evq := rfl
@[simp] theorem wr_log (a : Nat) (v : Word) (d : Dev) : (wr a v d).log = d.log := rfl
@[simp] theorem wr_flt (a : Nat) (v : Word) (d : Dev) : (wr a v d).flt = d.flt := rfl
@[simp] theorem wr_hif (a : Nat) (v : Word) (d : Dev) : (wr a v d).hif = d.hif := rfl
@[simp] theorem wr_pwr (a : Nat) (v : Word) (d : Dev) : (wr a v d).pwr = d.pwr := rfl
@[simp] theorem wr_meas (a : Nat) (v : Word) (d : Dev) : (wr a v d).meas = d.meas := rfl
@[simp] theorem wr_ref (a : Nat) (v : Word) (d : Dev) : (wr a v d).ref = d.ref := rfl
@[simp] theorem wr_img (a : Nat) (v : Word) (d : Dev) : (wr a v d).img = d.img := rfl
@[simp] theorem wr_bnd (a : Nat) (v : Word) (d : Dev) : (wr a v d).bnd = d.bnd := rfl
@[simp] theorem wr_syn (a : Nat) (v : Word) (d : Dev) : (wr a v d).syn = d.syn := rfl
@[simp] theorem wr_gn (a : Nat) (v : Word) (d : Dev) : (wr a v d).gn = d.gn := rfl
@[simp] theorem wr_key (a : Nat) (v : Word) (d : Dev) : (wr a v d).key = d.key := rfl
@[simp] theorem wr_net (a : Nat) (v : Word) (d : Dev) : (wr a v d).net = d.net := rfl
@[simp] theorem wr_dsg (a : Nat) (v : Word) (d : Dev) : (wr a v d).dsg = d.dsg := rfl
@[simp] theorem wr_twn (a : Nat) (v : Word) (d : Dev) : (wr a v d).twn = d.twn := rfl
@[simp] theorem wr_ctl (a : Nat) (v : Word) (d : Dev) : (wr a v d).ctl = d.ctl := rfl

/-! ### setF -/

@[simp] theorem setF_latch (f : Fld) (n : Nat) (d : Dev) : (setF f n d).latch = d.latch := rfl
@[simp] theorem setF_held (f : Fld) (n : Nat) (d : Dev) : (setF f n d).held = d.held := rfl
@[simp] theorem setF_ram (f : Fld) (n : Nat) (d : Dev) : (setF f n d).ram = d.ram := rfl
@[simp] theorem setF_badWords (f : Fld) (n : Nat) (d : Dev) : (setF f n d).badWords = d.badWords := rfl
@[simp] theorem setF_flash (f : Fld) (n : Nat) (d : Dev) : (setF f n d).flash = d.flash := rfl
@[simp] theorem setF_resp (f : Fld) (n : Nat) (d : Dev) : (setF f n d).resp = d.resp := rfl
@[simp] theorem setF_spiStatus (f : Fld) (n : Nat) (d : Dev) : (setF f n d).spiStatus = d.spiStatus := rfl
@[simp] theorem setF_ctr (f : Fld) (n : Nat) (d : Dev) : (setF f n d).ctr = d.ctr := rfl
@[simp] theorem setF_tb (f : Fld) (n : Nat) (d : Dev) : (setF f n d).tb = d.tb := rfl
@[simp] theorem setF_lpc (f : Fld) (n : Nat) (d : Dev) : (setF f n d).lpc = d.lpc := rfl
@[simp] theorem setF_evq (f : Fld) (n : Nat) (d : Dev) : (setF f n d).evq = d.evq := rfl
@[simp] theorem setF_log (f : Fld) (n : Nat) (d : Dev) : (setF f n d).log = d.log := rfl
@[simp] theorem setF_flt (f : Fld) (n : Nat) (d : Dev) : (setF f n d).flt = d.flt := rfl
@[simp] theorem setF_hif (f : Fld) (n : Nat) (d : Dev) : (setF f n d).hif = d.hif := rfl
@[simp] theorem setF_pwr (f : Fld) (n : Nat) (d : Dev) : (setF f n d).pwr = d.pwr := rfl
@[simp] theorem setF_meas (f : Fld) (n : Nat) (d : Dev) : (setF f n d).meas = d.meas := rfl
@[simp] theorem setF_ref (f : Fld) (n : Nat) (d : Dev) : (setF f n d).ref = d.ref := rfl
@[simp] theorem setF_img (f : Fld) (n : Nat) (d : Dev) : (setF f n d).img = d.img := rfl
@[simp] theorem setF_bnd (f : Fld) (n : Nat) (d : Dev) : (setF f n d).bnd = d.bnd := rfl
@[simp] theorem setF_syn (f : Fld) (n : Nat) (d : Dev) : (setF f n d).syn = d.syn := rfl
@[simp] theorem setF_gn (f : Fld) (n : Nat) (d : Dev) : (setF f n d).gn = d.gn := rfl
@[simp] theorem setF_key (f : Fld) (n : Nat) (d : Dev) : (setF f n d).key = d.key := rfl
@[simp] theorem setF_net (f : Fld) (n : Nat) (d : Dev) : (setF f n d).net = d.net := rfl
@[simp] theorem setF_dsg (f : Fld) (n : Nat) (d : Dev) : (setF f n d).dsg = d.dsg := rfl
@[simp] theorem setF_twn (f : Fld) (n : Nat) (d : Dev) : (setF f n d).twn = d.twn := rfl
@[simp] theorem setF_ctl (f : Fld) (n : Nat) (d : Dev) : (setF f n d).ctl = d.ctl := rfl

/-! ### setB -/

@[simp] theorem setB_latch (f : Fld) (b : Bool) (d : Dev) : (setB f b d).latch = d.latch := rfl
@[simp] theorem setB_held (f : Fld) (b : Bool) (d : Dev) : (setB f b d).held = d.held := rfl
@[simp] theorem setB_ram (f : Fld) (b : Bool) (d : Dev) : (setB f b d).ram = d.ram := rfl
@[simp] theorem setB_badWords (f : Fld) (b : Bool) (d : Dev) : (setB f b d).badWords = d.badWords := rfl
@[simp] theorem setB_flash (f : Fld) (b : Bool) (d : Dev) : (setB f b d).flash = d.flash := rfl
@[simp] theorem setB_resp (f : Fld) (b : Bool) (d : Dev) : (setB f b d).resp = d.resp := rfl
@[simp] theorem setB_spiStatus (f : Fld) (b : Bool) (d : Dev) : (setB f b d).spiStatus = d.spiStatus := rfl
@[simp] theorem setB_ctr (f : Fld) (b : Bool) (d : Dev) : (setB f b d).ctr = d.ctr := rfl
@[simp] theorem setB_tb (f : Fld) (b : Bool) (d : Dev) : (setB f b d).tb = d.tb := rfl
@[simp] theorem setB_lpc (f : Fld) (b : Bool) (d : Dev) : (setB f b d).lpc = d.lpc := rfl
@[simp] theorem setB_evq (f : Fld) (b : Bool) (d : Dev) : (setB f b d).evq = d.evq := rfl
@[simp] theorem setB_log (f : Fld) (b : Bool) (d : Dev) : (setB f b d).log = d.log := rfl
@[simp] theorem setB_flt (f : Fld) (b : Bool) (d : Dev) : (setB f b d).flt = d.flt := rfl
@[simp] theorem setB_hif (f : Fld) (b : Bool) (d : Dev) : (setB f b d).hif = d.hif := rfl
@[simp] theorem setB_pwr (f : Fld) (b : Bool) (d : Dev) : (setB f b d).pwr = d.pwr := rfl
@[simp] theorem setB_meas (f : Fld) (b : Bool) (d : Dev) : (setB f b d).meas = d.meas := rfl
@[simp] theorem setB_ref (f : Fld) (b : Bool) (d : Dev) : (setB f b d).ref = d.ref := rfl
@[simp] theorem setB_img (f : Fld) (b : Bool) (d : Dev) : (setB f b d).img = d.img := rfl
@[simp] theorem setB_bnd (f : Fld) (b : Bool) (d : Dev) : (setB f b d).bnd = d.bnd := rfl
@[simp] theorem setB_syn (f : Fld) (b : Bool) (d : Dev) : (setB f b d).syn = d.syn := rfl
@[simp] theorem setB_gn (f : Fld) (b : Bool) (d : Dev) : (setB f b d).gn = d.gn := rfl
@[simp] theorem setB_key (f : Fld) (b : Bool) (d : Dev) : (setB f b d).key = d.key := rfl
@[simp] theorem setB_net (f : Fld) (b : Bool) (d : Dev) : (setB f b d).net = d.net := rfl
@[simp] theorem setB_dsg (f : Fld) (b : Bool) (d : Dev) : (setB f b d).dsg = d.dsg := rfl
@[simp] theorem setB_twn (f : Fld) (b : Bool) (d : Dev) : (setB f b d).twn = d.twn := rfl
@[simp] theorem setB_ctl (f : Fld) (b : Bool) (d : Dev) : (setB f b d).ctl = d.ctl := rfl

/-! ### satAdd -/

@[simp] theorem satAdd_latch (f : Fld) (n : Nat) (d : Dev) : (satAdd f n d).latch = d.latch := rfl
@[simp] theorem satAdd_held (f : Fld) (n : Nat) (d : Dev) : (satAdd f n d).held = d.held := rfl
@[simp] theorem satAdd_ram (f : Fld) (n : Nat) (d : Dev) : (satAdd f n d).ram = d.ram := rfl
@[simp] theorem satAdd_badWords (f : Fld) (n : Nat) (d : Dev) : (satAdd f n d).badWords = d.badWords := rfl
@[simp] theorem satAdd_flash (f : Fld) (n : Nat) (d : Dev) : (satAdd f n d).flash = d.flash := rfl
@[simp] theorem satAdd_resp (f : Fld) (n : Nat) (d : Dev) : (satAdd f n d).resp = d.resp := rfl
@[simp] theorem satAdd_spiStatus (f : Fld) (n : Nat) (d : Dev) : (satAdd f n d).spiStatus = d.spiStatus := rfl
@[simp] theorem satAdd_ctr (f : Fld) (n : Nat) (d : Dev) : (satAdd f n d).ctr = d.ctr := rfl
@[simp] theorem satAdd_tb (f : Fld) (n : Nat) (d : Dev) : (satAdd f n d).tb = d.tb := rfl
@[simp] theorem satAdd_lpc (f : Fld) (n : Nat) (d : Dev) : (satAdd f n d).lpc = d.lpc := rfl
@[simp] theorem satAdd_evq (f : Fld) (n : Nat) (d : Dev) : (satAdd f n d).evq = d.evq := rfl
@[simp] theorem satAdd_log (f : Fld) (n : Nat) (d : Dev) : (satAdd f n d).log = d.log := rfl
@[simp] theorem satAdd_flt (f : Fld) (n : Nat) (d : Dev) : (satAdd f n d).flt = d.flt := rfl
@[simp] theorem satAdd_hif (f : Fld) (n : Nat) (d : Dev) : (satAdd f n d).hif = d.hif := rfl
@[simp] theorem satAdd_pwr (f : Fld) (n : Nat) (d : Dev) : (satAdd f n d).pwr = d.pwr := rfl
@[simp] theorem satAdd_meas (f : Fld) (n : Nat) (d : Dev) : (satAdd f n d).meas = d.meas := rfl
@[simp] theorem satAdd_ref (f : Fld) (n : Nat) (d : Dev) : (satAdd f n d).ref = d.ref := rfl
@[simp] theorem satAdd_img (f : Fld) (n : Nat) (d : Dev) : (satAdd f n d).img = d.img := rfl
@[simp] theorem satAdd_bnd (f : Fld) (n : Nat) (d : Dev) : (satAdd f n d).bnd = d.bnd := rfl
@[simp] theorem satAdd_syn (f : Fld) (n : Nat) (d : Dev) : (satAdd f n d).syn = d.syn := rfl
@[simp] theorem satAdd_gn (f : Fld) (n : Nat) (d : Dev) : (satAdd f n d).gn = d.gn := rfl
@[simp] theorem satAdd_key (f : Fld) (n : Nat) (d : Dev) : (satAdd f n d).key = d.key := rfl
@[simp] theorem satAdd_net (f : Fld) (n : Nat) (d : Dev) : (satAdd f n d).net = d.net := rfl
@[simp] theorem satAdd_dsg (f : Fld) (n : Nat) (d : Dev) : (satAdd f n d).dsg = d.dsg := rfl
@[simp] theorem satAdd_twn (f : Fld) (n : Nat) (d : Dev) : (satAdd f n d).twn = d.twn := rfl
@[simp] theorem satAdd_ctl (f : Fld) (n : Nat) (d : Dev) : (satAdd f n d).ctl = d.ctl := rfl

/-! ### wrapAdd -/

@[simp] theorem wrapAdd_latch (f : Fld) (n : Nat) (d : Dev) : (wrapAdd f n d).latch = d.latch := rfl
@[simp] theorem wrapAdd_held (f : Fld) (n : Nat) (d : Dev) : (wrapAdd f n d).held = d.held := rfl
@[simp] theorem wrapAdd_ram (f : Fld) (n : Nat) (d : Dev) : (wrapAdd f n d).ram = d.ram := rfl
@[simp] theorem wrapAdd_badWords (f : Fld) (n : Nat) (d : Dev) : (wrapAdd f n d).badWords = d.badWords := rfl
@[simp] theorem wrapAdd_flash (f : Fld) (n : Nat) (d : Dev) : (wrapAdd f n d).flash = d.flash := rfl
@[simp] theorem wrapAdd_resp (f : Fld) (n : Nat) (d : Dev) : (wrapAdd f n d).resp = d.resp := rfl
@[simp] theorem wrapAdd_spiStatus (f : Fld) (n : Nat) (d : Dev) : (wrapAdd f n d).spiStatus = d.spiStatus := rfl
@[simp] theorem wrapAdd_ctr (f : Fld) (n : Nat) (d : Dev) : (wrapAdd f n d).ctr = d.ctr := rfl
@[simp] theorem wrapAdd_tb (f : Fld) (n : Nat) (d : Dev) : (wrapAdd f n d).tb = d.tb := rfl
@[simp] theorem wrapAdd_lpc (f : Fld) (n : Nat) (d : Dev) : (wrapAdd f n d).lpc = d.lpc := rfl
@[simp] theorem wrapAdd_evq (f : Fld) (n : Nat) (d : Dev) : (wrapAdd f n d).evq = d.evq := rfl
@[simp] theorem wrapAdd_log (f : Fld) (n : Nat) (d : Dev) : (wrapAdd f n d).log = d.log := rfl
@[simp] theorem wrapAdd_flt (f : Fld) (n : Nat) (d : Dev) : (wrapAdd f n d).flt = d.flt := rfl
@[simp] theorem wrapAdd_hif (f : Fld) (n : Nat) (d : Dev) : (wrapAdd f n d).hif = d.hif := rfl
@[simp] theorem wrapAdd_pwr (f : Fld) (n : Nat) (d : Dev) : (wrapAdd f n d).pwr = d.pwr := rfl
@[simp] theorem wrapAdd_meas (f : Fld) (n : Nat) (d : Dev) : (wrapAdd f n d).meas = d.meas := rfl
@[simp] theorem wrapAdd_ref (f : Fld) (n : Nat) (d : Dev) : (wrapAdd f n d).ref = d.ref := rfl
@[simp] theorem wrapAdd_img (f : Fld) (n : Nat) (d : Dev) : (wrapAdd f n d).img = d.img := rfl
@[simp] theorem wrapAdd_bnd (f : Fld) (n : Nat) (d : Dev) : (wrapAdd f n d).bnd = d.bnd := rfl
@[simp] theorem wrapAdd_syn (f : Fld) (n : Nat) (d : Dev) : (wrapAdd f n d).syn = d.syn := rfl
@[simp] theorem wrapAdd_gn (f : Fld) (n : Nat) (d : Dev) : (wrapAdd f n d).gn = d.gn := rfl
@[simp] theorem wrapAdd_key (f : Fld) (n : Nat) (d : Dev) : (wrapAdd f n d).key = d.key := rfl
@[simp] theorem wrapAdd_net (f : Fld) (n : Nat) (d : Dev) : (wrapAdd f n d).net = d.net := rfl
@[simp] theorem wrapAdd_dsg (f : Fld) (n : Nat) (d : Dev) : (wrapAdd f n d).dsg = d.dsg := rfl
@[simp] theorem wrapAdd_twn (f : Fld) (n : Nat) (d : Dev) : (wrapAdd f n d).twn = d.twn := rfl
@[simp] theorem wrapAdd_ctl (f : Fld) (n : Nat) (d : Dev) : (wrapAdd f n d).ctl = d.ctl := rfl

/-! ### wrN -/

@[simp] theorem wrN_latch (a n : Nat) (d : Dev) : (wrN a n d).latch = d.latch := rfl
@[simp] theorem wrN_held (a n : Nat) (d : Dev) : (wrN a n d).held = d.held := rfl
@[simp] theorem wrN_ram (a n : Nat) (d : Dev) : (wrN a n d).ram = d.ram := rfl
@[simp] theorem wrN_badWords (a n : Nat) (d : Dev) : (wrN a n d).badWords = d.badWords := rfl
@[simp] theorem wrN_flash (a n : Nat) (d : Dev) : (wrN a n d).flash = d.flash := rfl
@[simp] theorem wrN_resp (a n : Nat) (d : Dev) : (wrN a n d).resp = d.resp := rfl
@[simp] theorem wrN_spiStatus (a n : Nat) (d : Dev) : (wrN a n d).spiStatus = d.spiStatus := rfl
@[simp] theorem wrN_ctr (a n : Nat) (d : Dev) : (wrN a n d).ctr = d.ctr := rfl
@[simp] theorem wrN_tb (a n : Nat) (d : Dev) : (wrN a n d).tb = d.tb := rfl
@[simp] theorem wrN_lpc (a n : Nat) (d : Dev) : (wrN a n d).lpc = d.lpc := rfl
@[simp] theorem wrN_evq (a n : Nat) (d : Dev) : (wrN a n d).evq = d.evq := rfl
@[simp] theorem wrN_log (a n : Nat) (d : Dev) : (wrN a n d).log = d.log := rfl
@[simp] theorem wrN_flt (a n : Nat) (d : Dev) : (wrN a n d).flt = d.flt := rfl
@[simp] theorem wrN_hif (a n : Nat) (d : Dev) : (wrN a n d).hif = d.hif := rfl
@[simp] theorem wrN_pwr (a n : Nat) (d : Dev) : (wrN a n d).pwr = d.pwr := rfl
@[simp] theorem wrN_meas (a n : Nat) (d : Dev) : (wrN a n d).meas = d.meas := rfl
@[simp] theorem wrN_ref (a n : Nat) (d : Dev) : (wrN a n d).ref = d.ref := rfl
@[simp] theorem wrN_img (a n : Nat) (d : Dev) : (wrN a n d).img = d.img := rfl
@[simp] theorem wrN_bnd (a n : Nat) (d : Dev) : (wrN a n d).bnd = d.bnd := rfl
@[simp] theorem wrN_syn (a n : Nat) (d : Dev) : (wrN a n d).syn = d.syn := rfl
@[simp] theorem wrN_gn (a n : Nat) (d : Dev) : (wrN a n d).gn = d.gn := rfl
@[simp] theorem wrN_key (a n : Nat) (d : Dev) : (wrN a n d).key = d.key := rfl
@[simp] theorem wrN_net (a n : Nat) (d : Dev) : (wrN a n d).net = d.net := rfl
@[simp] theorem wrN_dsg (a n : Nat) (d : Dev) : (wrN a n d).dsg = d.dsg := rfl
@[simp] theorem wrN_twn (a n : Nat) (d : Dev) : (wrN a n d).twn = d.twn := rfl
@[simp] theorem wrN_ctl (a n : Nat) (d : Dev) : (wrN a n d).ctl = d.ctl := rfl

/-! ### wr64 -/

@[simp] theorem wr64_latch (a n : Nat) (d : Dev) : (wr64 a n d).latch = d.latch := rfl
@[simp] theorem wr64_held (a n : Nat) (d : Dev) : (wr64 a n d).held = d.held := rfl
@[simp] theorem wr64_ram (a n : Nat) (d : Dev) : (wr64 a n d).ram = d.ram := rfl
@[simp] theorem wr64_badWords (a n : Nat) (d : Dev) : (wr64 a n d).badWords = d.badWords := rfl
@[simp] theorem wr64_flash (a n : Nat) (d : Dev) : (wr64 a n d).flash = d.flash := rfl
@[simp] theorem wr64_resp (a n : Nat) (d : Dev) : (wr64 a n d).resp = d.resp := rfl
@[simp] theorem wr64_spiStatus (a n : Nat) (d : Dev) : (wr64 a n d).spiStatus = d.spiStatus := rfl
@[simp] theorem wr64_ctr (a n : Nat) (d : Dev) : (wr64 a n d).ctr = d.ctr := rfl
@[simp] theorem wr64_tb (a n : Nat) (d : Dev) : (wr64 a n d).tb = d.tb := rfl
@[simp] theorem wr64_lpc (a n : Nat) (d : Dev) : (wr64 a n d).lpc = d.lpc := rfl
@[simp] theorem wr64_evq (a n : Nat) (d : Dev) : (wr64 a n d).evq = d.evq := rfl
@[simp] theorem wr64_log (a n : Nat) (d : Dev) : (wr64 a n d).log = d.log := rfl
@[simp] theorem wr64_flt (a n : Nat) (d : Dev) : (wr64 a n d).flt = d.flt := rfl
@[simp] theorem wr64_hif (a n : Nat) (d : Dev) : (wr64 a n d).hif = d.hif := rfl
@[simp] theorem wr64_pwr (a n : Nat) (d : Dev) : (wr64 a n d).pwr = d.pwr := rfl
@[simp] theorem wr64_meas (a n : Nat) (d : Dev) : (wr64 a n d).meas = d.meas := rfl
@[simp] theorem wr64_ref (a n : Nat) (d : Dev) : (wr64 a n d).ref = d.ref := rfl
@[simp] theorem wr64_img (a n : Nat) (d : Dev) : (wr64 a n d).img = d.img := rfl
@[simp] theorem wr64_bnd (a n : Nat) (d : Dev) : (wr64 a n d).bnd = d.bnd := rfl
@[simp] theorem wr64_syn (a n : Nat) (d : Dev) : (wr64 a n d).syn = d.syn := rfl
@[simp] theorem wr64_gn (a n : Nat) (d : Dev) : (wr64 a n d).gn = d.gn := rfl
@[simp] theorem wr64_key (a n : Nat) (d : Dev) : (wr64 a n d).key = d.key := rfl
@[simp] theorem wr64_net (a n : Nat) (d : Dev) : (wr64 a n d).net = d.net := rfl
@[simp] theorem wr64_dsg (a n : Nat) (d : Dev) : (wr64 a n d).dsg = d.dsg := rfl
@[simp] theorem wr64_twn (a n : Nat) (d : Dev) : (wr64 a n d).twn = d.twn := rfl
@[simp] theorem wr64_ctl (a n : Nat) (d : Dev) : (wr64 a n d).ctl = d.ctl := rfl

/-! ### wrS64 -/

@[simp] theorem wrS64_latch (a : Nat) (i : Int) (d : Dev) : (wrS64 a i d).latch = d.latch := by rw [wrS64, wr64_latch]
@[simp] theorem wrS64_held (a : Nat) (i : Int) (d : Dev) : (wrS64 a i d).held = d.held := by rw [wrS64, wr64_held]
@[simp] theorem wrS64_ram (a : Nat) (i : Int) (d : Dev) : (wrS64 a i d).ram = d.ram := by rw [wrS64, wr64_ram]
@[simp] theorem wrS64_badWords (a : Nat) (i : Int) (d : Dev) : (wrS64 a i d).badWords = d.badWords := by rw [wrS64, wr64_badWords]
@[simp] theorem wrS64_flash (a : Nat) (i : Int) (d : Dev) : (wrS64 a i d).flash = d.flash := by rw [wrS64, wr64_flash]
@[simp] theorem wrS64_resp (a : Nat) (i : Int) (d : Dev) : (wrS64 a i d).resp = d.resp := by rw [wrS64, wr64_resp]
@[simp] theorem wrS64_spiStatus (a : Nat) (i : Int) (d : Dev) : (wrS64 a i d).spiStatus = d.spiStatus := by rw [wrS64, wr64_spiStatus]
@[simp] theorem wrS64_ctr (a : Nat) (i : Int) (d : Dev) : (wrS64 a i d).ctr = d.ctr := by rw [wrS64, wr64_ctr]
@[simp] theorem wrS64_tb (a : Nat) (i : Int) (d : Dev) : (wrS64 a i d).tb = d.tb := by rw [wrS64, wr64_tb]
@[simp] theorem wrS64_lpc (a : Nat) (i : Int) (d : Dev) : (wrS64 a i d).lpc = d.lpc := by rw [wrS64, wr64_lpc]
@[simp] theorem wrS64_evq (a : Nat) (i : Int) (d : Dev) : (wrS64 a i d).evq = d.evq := by rw [wrS64, wr64_evq]
@[simp] theorem wrS64_log (a : Nat) (i : Int) (d : Dev) : (wrS64 a i d).log = d.log := by rw [wrS64, wr64_log]
@[simp] theorem wrS64_flt (a : Nat) (i : Int) (d : Dev) : (wrS64 a i d).flt = d.flt := by rw [wrS64, wr64_flt]
@[simp] theorem wrS64_hif (a : Nat) (i : Int) (d : Dev) : (wrS64 a i d).hif = d.hif := by rw [wrS64, wr64_hif]
@[simp] theorem wrS64_pwr (a : Nat) (i : Int) (d : Dev) : (wrS64 a i d).pwr = d.pwr := by rw [wrS64, wr64_pwr]
@[simp] theorem wrS64_meas (a : Nat) (i : Int) (d : Dev) : (wrS64 a i d).meas = d.meas := by rw [wrS64, wr64_meas]
@[simp] theorem wrS64_ref (a : Nat) (i : Int) (d : Dev) : (wrS64 a i d).ref = d.ref := by rw [wrS64, wr64_ref]
@[simp] theorem wrS64_img (a : Nat) (i : Int) (d : Dev) : (wrS64 a i d).img = d.img := by rw [wrS64, wr64_img]
@[simp] theorem wrS64_bnd (a : Nat) (i : Int) (d : Dev) : (wrS64 a i d).bnd = d.bnd := by rw [wrS64, wr64_bnd]
@[simp] theorem wrS64_syn (a : Nat) (i : Int) (d : Dev) : (wrS64 a i d).syn = d.syn := by rw [wrS64, wr64_syn]
@[simp] theorem wrS64_gn (a : Nat) (i : Int) (d : Dev) : (wrS64 a i d).gn = d.gn := by rw [wrS64, wr64_gn]
@[simp] theorem wrS64_key (a : Nat) (i : Int) (d : Dev) : (wrS64 a i d).key = d.key := by rw [wrS64, wr64_key]
@[simp] theorem wrS64_net (a : Nat) (i : Int) (d : Dev) : (wrS64 a i d).net = d.net := by rw [wrS64, wr64_net]
@[simp] theorem wrS64_dsg (a : Nat) (i : Int) (d : Dev) : (wrS64 a i d).dsg = d.dsg := by rw [wrS64, wr64_dsg]
@[simp] theorem wrS64_twn (a : Nat) (i : Int) (d : Dev) : (wrS64 a i d).twn = d.twn := by rw [wrS64, wr64_twn]
@[simp] theorem wrS64_ctl (a : Nat) (i : Int) (d : Dev) : (wrS64 a i d).ctl = d.ctl := by rw [wrS64, wr64_ctl]

/-! ### setDom -/

@[simp] theorem setDom_latch (n : Nat) (b : Bool) (d : Dev) : (setDom n b d).latch = d.latch := by rw [setDom, setF_latch]
@[simp] theorem setDom_held (n : Nat) (b : Bool) (d : Dev) : (setDom n b d).held = d.held := by rw [setDom, setF_held]
@[simp] theorem setDom_ram (n : Nat) (b : Bool) (d : Dev) : (setDom n b d).ram = d.ram := by rw [setDom, setF_ram]
@[simp] theorem setDom_badWords (n : Nat) (b : Bool) (d : Dev) : (setDom n b d).badWords = d.badWords := by rw [setDom, setF_badWords]
@[simp] theorem setDom_flash (n : Nat) (b : Bool) (d : Dev) : (setDom n b d).flash = d.flash := by rw [setDom, setF_flash]
@[simp] theorem setDom_resp (n : Nat) (b : Bool) (d : Dev) : (setDom n b d).resp = d.resp := by rw [setDom, setF_resp]
@[simp] theorem setDom_spiStatus (n : Nat) (b : Bool) (d : Dev) : (setDom n b d).spiStatus = d.spiStatus := by rw [setDom, setF_spiStatus]
@[simp] theorem setDom_ctr (n : Nat) (b : Bool) (d : Dev) : (setDom n b d).ctr = d.ctr := by rw [setDom, setF_ctr]
@[simp] theorem setDom_tb (n : Nat) (b : Bool) (d : Dev) : (setDom n b d).tb = d.tb := by rw [setDom, setF_tb]
@[simp] theorem setDom_lpc (n : Nat) (b : Bool) (d : Dev) : (setDom n b d).lpc = d.lpc := by rw [setDom, setF_lpc]
@[simp] theorem setDom_evq (n : Nat) (b : Bool) (d : Dev) : (setDom n b d).evq = d.evq := by rw [setDom, setF_evq]
@[simp] theorem setDom_log (n : Nat) (b : Bool) (d : Dev) : (setDom n b d).log = d.log := by rw [setDom, setF_log]
@[simp] theorem setDom_flt (n : Nat) (b : Bool) (d : Dev) : (setDom n b d).flt = d.flt := by rw [setDom, setF_flt]
@[simp] theorem setDom_hif (n : Nat) (b : Bool) (d : Dev) : (setDom n b d).hif = d.hif := by rw [setDom, setF_hif]
@[simp] theorem setDom_pwr (n : Nat) (b : Bool) (d : Dev) : (setDom n b d).pwr = d.pwr := by rw [setDom, setF_pwr]
@[simp] theorem setDom_meas (n : Nat) (b : Bool) (d : Dev) : (setDom n b d).meas = d.meas := by rw [setDom, setF_meas]
@[simp] theorem setDom_ref (n : Nat) (b : Bool) (d : Dev) : (setDom n b d).ref = d.ref := by rw [setDom, setF_ref]
@[simp] theorem setDom_img (n : Nat) (b : Bool) (d : Dev) : (setDom n b d).img = d.img := by rw [setDom, setF_img]
@[simp] theorem setDom_bnd (n : Nat) (b : Bool) (d : Dev) : (setDom n b d).bnd = d.bnd := by rw [setDom, setF_bnd]
@[simp] theorem setDom_syn (n : Nat) (b : Bool) (d : Dev) : (setDom n b d).syn = d.syn := by rw [setDom, setF_syn]
@[simp] theorem setDom_gn (n : Nat) (b : Bool) (d : Dev) : (setDom n b d).gn = d.gn := by rw [setDom, setF_gn]
@[simp] theorem setDom_key (n : Nat) (b : Bool) (d : Dev) : (setDom n b d).key = d.key := by rw [setDom, setF_key]
@[simp] theorem setDom_net (n : Nat) (b : Bool) (d : Dev) : (setDom n b d).net = d.net := by rw [setDom, setF_net]
@[simp] theorem setDom_dsg (n : Nat) (b : Bool) (d : Dev) : (setDom n b d).dsg = d.dsg := by rw [setDom, setF_dsg]
@[simp] theorem setDom_twn (n : Nat) (b : Bool) (d : Dev) : (setDom n b d).twn = d.twn := by rw [setDom, setF_twn]
@[simp] theorem setDom_ctl (n : Nat) (b : Bool) (d : Dev) : (setDom n b d).ctl = d.ctl := by rw [setDom, setF_ctl]

/-! ### setRam -/

@[simp] theorem setRam_regs (a : Nat) (v : Word) (d : Dev) : (setRam a v d).regs = d.regs := rfl
@[simp] theorem setRam_latch (a : Nat) (v : Word) (d : Dev) : (setRam a v d).latch = d.latch := rfl
@[simp] theorem setRam_held (a : Nat) (v : Word) (d : Dev) : (setRam a v d).held = d.held := rfl
@[simp] theorem setRam_flash (a : Nat) (v : Word) (d : Dev) : (setRam a v d).flash = d.flash := rfl
@[simp] theorem setRam_resp (a : Nat) (v : Word) (d : Dev) : (setRam a v d).resp = d.resp := rfl
@[simp] theorem setRam_spiStatus (a : Nat) (v : Word) (d : Dev) : (setRam a v d).spiStatus = d.spiStatus := rfl
@[simp] theorem setRam_ctr (a : Nat) (v : Word) (d : Dev) : (setRam a v d).ctr = d.ctr := rfl
@[simp] theorem setRam_tb (a : Nat) (v : Word) (d : Dev) : (setRam a v d).tb = d.tb := rfl
@[simp] theorem setRam_lpc (a : Nat) (v : Word) (d : Dev) : (setRam a v d).lpc = d.lpc := rfl
@[simp] theorem setRam_evq (a : Nat) (v : Word) (d : Dev) : (setRam a v d).evq = d.evq := rfl
@[simp] theorem setRam_log (a : Nat) (v : Word) (d : Dev) : (setRam a v d).log = d.log := rfl
@[simp] theorem setRam_flt (a : Nat) (v : Word) (d : Dev) : (setRam a v d).flt = d.flt := rfl
@[simp] theorem setRam_hif (a : Nat) (v : Word) (d : Dev) : (setRam a v d).hif = d.hif := rfl
@[simp] theorem setRam_pwr (a : Nat) (v : Word) (d : Dev) : (setRam a v d).pwr = d.pwr := rfl
@[simp] theorem setRam_meas (a : Nat) (v : Word) (d : Dev) : (setRam a v d).meas = d.meas := rfl
@[simp] theorem setRam_ref (a : Nat) (v : Word) (d : Dev) : (setRam a v d).ref = d.ref := rfl
@[simp] theorem setRam_img (a : Nat) (v : Word) (d : Dev) : (setRam a v d).img = d.img := rfl
@[simp] theorem setRam_bnd (a : Nat) (v : Word) (d : Dev) : (setRam a v d).bnd = d.bnd := rfl
@[simp] theorem setRam_syn (a : Nat) (v : Word) (d : Dev) : (setRam a v d).syn = d.syn := rfl
@[simp] theorem setRam_gn (a : Nat) (v : Word) (d : Dev) : (setRam a v d).gn = d.gn := rfl
@[simp] theorem setRam_key (a : Nat) (v : Word) (d : Dev) : (setRam a v d).key = d.key := rfl
@[simp] theorem setRam_net (a : Nat) (v : Word) (d : Dev) : (setRam a v d).net = d.net := rfl
@[simp] theorem setRam_dsg (a : Nat) (v : Word) (d : Dev) : (setRam a v d).dsg = d.dsg := rfl
@[simp] theorem setRam_twn (a : Nat) (v : Word) (d : Dev) : (setRam a v d).twn = d.twn := rfl
@[simp] theorem setRam_ctl (a : Nat) (v : Word) (d : Dev) : (setRam a v d).ctl = d.ctl := rfl

/-! ### setFlash -/

@[simp] theorem setFlash_regs (a : Nat) (v : Byte) (d : Dev) : (setFlash a v d).regs = d.regs := rfl
@[simp] theorem setFlash_latch (a : Nat) (v : Byte) (d : Dev) : (setFlash a v d).latch = d.latch := rfl
@[simp] theorem setFlash_held (a : Nat) (v : Byte) (d : Dev) : (setFlash a v d).held = d.held := rfl
@[simp] theorem setFlash_ram (a : Nat) (v : Byte) (d : Dev) : (setFlash a v d).ram = d.ram := rfl
@[simp] theorem setFlash_badWords (a : Nat) (v : Byte) (d : Dev) : (setFlash a v d).badWords = d.badWords := rfl
@[simp] theorem setFlash_resp (a : Nat) (v : Byte) (d : Dev) : (setFlash a v d).resp = d.resp := rfl
@[simp] theorem setFlash_spiStatus (a : Nat) (v : Byte) (d : Dev) : (setFlash a v d).spiStatus = d.spiStatus := rfl
@[simp] theorem setFlash_ctr (a : Nat) (v : Byte) (d : Dev) : (setFlash a v d).ctr = d.ctr := rfl
@[simp] theorem setFlash_tb (a : Nat) (v : Byte) (d : Dev) : (setFlash a v d).tb = d.tb := rfl
@[simp] theorem setFlash_lpc (a : Nat) (v : Byte) (d : Dev) : (setFlash a v d).lpc = d.lpc := rfl
@[simp] theorem setFlash_evq (a : Nat) (v : Byte) (d : Dev) : (setFlash a v d).evq = d.evq := rfl
@[simp] theorem setFlash_log (a : Nat) (v : Byte) (d : Dev) : (setFlash a v d).log = d.log := rfl
@[simp] theorem setFlash_flt (a : Nat) (v : Byte) (d : Dev) : (setFlash a v d).flt = d.flt := rfl
@[simp] theorem setFlash_hif (a : Nat) (v : Byte) (d : Dev) : (setFlash a v d).hif = d.hif := rfl
@[simp] theorem setFlash_pwr (a : Nat) (v : Byte) (d : Dev) : (setFlash a v d).pwr = d.pwr := rfl
@[simp] theorem setFlash_meas (a : Nat) (v : Byte) (d : Dev) : (setFlash a v d).meas = d.meas := rfl
@[simp] theorem setFlash_ref (a : Nat) (v : Byte) (d : Dev) : (setFlash a v d).ref = d.ref := rfl
@[simp] theorem setFlash_img (a : Nat) (v : Byte) (d : Dev) : (setFlash a v d).img = d.img := rfl
@[simp] theorem setFlash_bnd (a : Nat) (v : Byte) (d : Dev) : (setFlash a v d).bnd = d.bnd := rfl
@[simp] theorem setFlash_syn (a : Nat) (v : Byte) (d : Dev) : (setFlash a v d).syn = d.syn := rfl
@[simp] theorem setFlash_gn (a : Nat) (v : Byte) (d : Dev) : (setFlash a v d).gn = d.gn := rfl
@[simp] theorem setFlash_key (a : Nat) (v : Byte) (d : Dev) : (setFlash a v d).key = d.key := rfl
@[simp] theorem setFlash_net (a : Nat) (v : Byte) (d : Dev) : (setFlash a v d).net = d.net := rfl
@[simp] theorem setFlash_dsg (a : Nat) (v : Byte) (d : Dev) : (setFlash a v d).dsg = d.dsg := rfl
@[simp] theorem setFlash_twn (a : Nat) (v : Byte) (d : Dev) : (setFlash a v d).twn = d.twn := rfl
@[simp] theorem setFlash_ctl (a : Nat) (v : Byte) (d : Dev) : (setFlash a v d).ctl = d.ctl := rfl

/-! ### draw -/

@[simp] theorem draw_regs  (d : Dev) : (draw d).regs = d.regs := rfl
@[simp] theorem draw_latch  (d : Dev) : (draw d).latch = d.latch := rfl
@[simp] theorem draw_held  (d : Dev) : (draw d).held = d.held := rfl
@[simp] theorem draw_ram  (d : Dev) : (draw d).ram = d.ram := rfl
@[simp] theorem draw_badWords  (d : Dev) : (draw d).badWords = d.badWords := rfl
@[simp] theorem draw_flash  (d : Dev) : (draw d).flash = d.flash := rfl
@[simp] theorem draw_resp  (d : Dev) : (draw d).resp = d.resp := rfl
@[simp] theorem draw_spiStatus  (d : Dev) : (draw d).spiStatus = d.spiStatus := rfl
@[simp] theorem draw_tb  (d : Dev) : (draw d).tb = d.tb := rfl
@[simp] theorem draw_lpc  (d : Dev) : (draw d).lpc = d.lpc := rfl
@[simp] theorem draw_evq  (d : Dev) : (draw d).evq = d.evq := rfl
@[simp] theorem draw_log  (d : Dev) : (draw d).log = d.log := rfl
@[simp] theorem draw_flt  (d : Dev) : (draw d).flt = d.flt := rfl
@[simp] theorem draw_hif  (d : Dev) : (draw d).hif = d.hif := rfl
@[simp] theorem draw_pwr  (d : Dev) : (draw d).pwr = d.pwr := rfl
@[simp] theorem draw_meas  (d : Dev) : (draw d).meas = d.meas := rfl
@[simp] theorem draw_ref  (d : Dev) : (draw d).ref = d.ref := rfl
@[simp] theorem draw_img  (d : Dev) : (draw d).img = d.img := rfl
@[simp] theorem draw_bnd  (d : Dev) : (draw d).bnd = d.bnd := rfl
@[simp] theorem draw_syn  (d : Dev) : (draw d).syn = d.syn := rfl
@[simp] theorem draw_gn  (d : Dev) : (draw d).gn = d.gn := rfl
@[simp] theorem draw_key  (d : Dev) : (draw d).key = d.key := rfl
@[simp] theorem draw_net  (d : Dev) : (draw d).net = d.net := rfl
@[simp] theorem draw_dsg  (d : Dev) : (draw d).dsg = d.dsg := rfl
@[simp] theorem draw_twn  (d : Dev) : (draw d).twn = d.twn := rfl
@[simp] theorem draw_ctl  (d : Dev) : (draw d).ctl = d.ctl := rfl

/-! ### setLatch -/

@[simp] theorem setLatch_regs (a : Nat) (r : Req) (v : Word) (d : Dev) : (setLatch a r v d).regs = d.regs := rfl
@[simp] theorem setLatch_held (a : Nat) (r : Req) (v : Word) (d : Dev) : (setLatch a r v d).held = d.held := rfl
@[simp] theorem setLatch_ram (a : Nat) (r : Req) (v : Word) (d : Dev) : (setLatch a r v d).ram = d.ram := rfl
@[simp] theorem setLatch_badWords (a : Nat) (r : Req) (v : Word) (d : Dev) : (setLatch a r v d).badWords = d.badWords := rfl
@[simp] theorem setLatch_flash (a : Nat) (r : Req) (v : Word) (d : Dev) : (setLatch a r v d).flash = d.flash := rfl
@[simp] theorem setLatch_resp (a : Nat) (r : Req) (v : Word) (d : Dev) : (setLatch a r v d).resp = d.resp := rfl
@[simp] theorem setLatch_spiStatus (a : Nat) (r : Req) (v : Word) (d : Dev) : (setLatch a r v d).spiStatus = d.spiStatus := rfl
@[simp] theorem setLatch_ctr (a : Nat) (r : Req) (v : Word) (d : Dev) : (setLatch a r v d).ctr = d.ctr := rfl
@[simp] theorem setLatch_tb (a : Nat) (r : Req) (v : Word) (d : Dev) : (setLatch a r v d).tb = d.tb := rfl
@[simp] theorem setLatch_lpc (a : Nat) (r : Req) (v : Word) (d : Dev) : (setLatch a r v d).lpc = d.lpc := rfl
@[simp] theorem setLatch_evq (a : Nat) (r : Req) (v : Word) (d : Dev) : (setLatch a r v d).evq = d.evq := rfl
@[simp] theorem setLatch_log (a : Nat) (r : Req) (v : Word) (d : Dev) : (setLatch a r v d).log = d.log := rfl
@[simp] theorem setLatch_flt (a : Nat) (r : Req) (v : Word) (d : Dev) : (setLatch a r v d).flt = d.flt := rfl
@[simp] theorem setLatch_hif (a : Nat) (r : Req) (v : Word) (d : Dev) : (setLatch a r v d).hif = d.hif := rfl
@[simp] theorem setLatch_pwr (a : Nat) (r : Req) (v : Word) (d : Dev) : (setLatch a r v d).pwr = d.pwr := rfl
@[simp] theorem setLatch_meas (a : Nat) (r : Req) (v : Word) (d : Dev) : (setLatch a r v d).meas = d.meas := rfl
@[simp] theorem setLatch_ref (a : Nat) (r : Req) (v : Word) (d : Dev) : (setLatch a r v d).ref = d.ref := rfl
@[simp] theorem setLatch_img (a : Nat) (r : Req) (v : Word) (d : Dev) : (setLatch a r v d).img = d.img := rfl
@[simp] theorem setLatch_bnd (a : Nat) (r : Req) (v : Word) (d : Dev) : (setLatch a r v d).bnd = d.bnd := rfl
@[simp] theorem setLatch_syn (a : Nat) (r : Req) (v : Word) (d : Dev) : (setLatch a r v d).syn = d.syn := rfl
@[simp] theorem setLatch_gn (a : Nat) (r : Req) (v : Word) (d : Dev) : (setLatch a r v d).gn = d.gn := rfl
@[simp] theorem setLatch_key (a : Nat) (r : Req) (v : Word) (d : Dev) : (setLatch a r v d).key = d.key := rfl
@[simp] theorem setLatch_net (a : Nat) (r : Req) (v : Word) (d : Dev) : (setLatch a r v d).net = d.net := rfl
@[simp] theorem setLatch_dsg (a : Nat) (r : Req) (v : Word) (d : Dev) : (setLatch a r v d).dsg = d.dsg := rfl
@[simp] theorem setLatch_twn (a : Nat) (r : Req) (v : Word) (d : Dev) : (setLatch a r v d).twn = d.twn := rfl
@[simp] theorem setLatch_ctl (a : Nat) (r : Req) (v : Word) (d : Dev) : (setLatch a r v d).ctl = d.ctl := rfl

/-! ### setHeld -/

@[simp] theorem setHeld_regs (a : Nat) (r : Req) (v : Option Word) (d : Dev) : (setHeld a r v d).regs = d.regs := rfl
@[simp] theorem setHeld_latch (a : Nat) (r : Req) (v : Option Word) (d : Dev) : (setHeld a r v d).latch = d.latch := rfl
@[simp] theorem setHeld_ram (a : Nat) (r : Req) (v : Option Word) (d : Dev) : (setHeld a r v d).ram = d.ram := rfl
@[simp] theorem setHeld_badWords (a : Nat) (r : Req) (v : Option Word) (d : Dev) : (setHeld a r v d).badWords = d.badWords := rfl
@[simp] theorem setHeld_flash (a : Nat) (r : Req) (v : Option Word) (d : Dev) : (setHeld a r v d).flash = d.flash := rfl
@[simp] theorem setHeld_resp (a : Nat) (r : Req) (v : Option Word) (d : Dev) : (setHeld a r v d).resp = d.resp := rfl
@[simp] theorem setHeld_spiStatus (a : Nat) (r : Req) (v : Option Word) (d : Dev) : (setHeld a r v d).spiStatus = d.spiStatus := rfl
@[simp] theorem setHeld_ctr (a : Nat) (r : Req) (v : Option Word) (d : Dev) : (setHeld a r v d).ctr = d.ctr := rfl
@[simp] theorem setHeld_tb (a : Nat) (r : Req) (v : Option Word) (d : Dev) : (setHeld a r v d).tb = d.tb := rfl
@[simp] theorem setHeld_lpc (a : Nat) (r : Req) (v : Option Word) (d : Dev) : (setHeld a r v d).lpc = d.lpc := rfl
@[simp] theorem setHeld_evq (a : Nat) (r : Req) (v : Option Word) (d : Dev) : (setHeld a r v d).evq = d.evq := rfl
@[simp] theorem setHeld_log (a : Nat) (r : Req) (v : Option Word) (d : Dev) : (setHeld a r v d).log = d.log := rfl
@[simp] theorem setHeld_flt (a : Nat) (r : Req) (v : Option Word) (d : Dev) : (setHeld a r v d).flt = d.flt := rfl
@[simp] theorem setHeld_hif (a : Nat) (r : Req) (v : Option Word) (d : Dev) : (setHeld a r v d).hif = d.hif := rfl
@[simp] theorem setHeld_pwr (a : Nat) (r : Req) (v : Option Word) (d : Dev) : (setHeld a r v d).pwr = d.pwr := rfl
@[simp] theorem setHeld_meas (a : Nat) (r : Req) (v : Option Word) (d : Dev) : (setHeld a r v d).meas = d.meas := rfl
@[simp] theorem setHeld_ref (a : Nat) (r : Req) (v : Option Word) (d : Dev) : (setHeld a r v d).ref = d.ref := rfl
@[simp] theorem setHeld_img (a : Nat) (r : Req) (v : Option Word) (d : Dev) : (setHeld a r v d).img = d.img := rfl
@[simp] theorem setHeld_bnd (a : Nat) (r : Req) (v : Option Word) (d : Dev) : (setHeld a r v d).bnd = d.bnd := rfl
@[simp] theorem setHeld_syn (a : Nat) (r : Req) (v : Option Word) (d : Dev) : (setHeld a r v d).syn = d.syn := rfl
@[simp] theorem setHeld_gn (a : Nat) (r : Req) (v : Option Word) (d : Dev) : (setHeld a r v d).gn = d.gn := rfl
@[simp] theorem setHeld_key (a : Nat) (r : Req) (v : Option Word) (d : Dev) : (setHeld a r v d).key = d.key := rfl
@[simp] theorem setHeld_net (a : Nat) (r : Req) (v : Option Word) (d : Dev) : (setHeld a r v d).net = d.net := rfl
@[simp] theorem setHeld_dsg (a : Nat) (r : Req) (v : Option Word) (d : Dev) : (setHeld a r v d).dsg = d.dsg := rfl
@[simp] theorem setHeld_twn (a : Nat) (r : Req) (v : Option Word) (d : Dev) : (setHeld a r v d).twn = d.twn := rfl
@[simp] theorem setHeld_ctl (a : Nat) (r : Req) (v : Option Word) (d : Dev) : (setHeld a r v d).ctl = d.ctl := rfl

/-! ### zeroRam -/

@[simp] theorem zeroRam_regs (lo hi : Nat) (d : Dev) : (zeroRam lo hi d).regs = d.regs := rfl
@[simp] theorem zeroRam_latch (lo hi : Nat) (d : Dev) : (zeroRam lo hi d).latch = d.latch := rfl
@[simp] theorem zeroRam_held (lo hi : Nat) (d : Dev) : (zeroRam lo hi d).held = d.held := rfl
@[simp] theorem zeroRam_flash (lo hi : Nat) (d : Dev) : (zeroRam lo hi d).flash = d.flash := rfl
@[simp] theorem zeroRam_resp (lo hi : Nat) (d : Dev) : (zeroRam lo hi d).resp = d.resp := rfl
@[simp] theorem zeroRam_spiStatus (lo hi : Nat) (d : Dev) : (zeroRam lo hi d).spiStatus = d.spiStatus := rfl
@[simp] theorem zeroRam_ctr (lo hi : Nat) (d : Dev) : (zeroRam lo hi d).ctr = d.ctr := rfl
@[simp] theorem zeroRam_tb (lo hi : Nat) (d : Dev) : (zeroRam lo hi d).tb = d.tb := rfl
@[simp] theorem zeroRam_lpc (lo hi : Nat) (d : Dev) : (zeroRam lo hi d).lpc = d.lpc := rfl
@[simp] theorem zeroRam_evq (lo hi : Nat) (d : Dev) : (zeroRam lo hi d).evq = d.evq := rfl
@[simp] theorem zeroRam_log (lo hi : Nat) (d : Dev) : (zeroRam lo hi d).log = d.log := rfl
@[simp] theorem zeroRam_flt (lo hi : Nat) (d : Dev) : (zeroRam lo hi d).flt = d.flt := rfl
@[simp] theorem zeroRam_hif (lo hi : Nat) (d : Dev) : (zeroRam lo hi d).hif = d.hif := rfl
@[simp] theorem zeroRam_pwr (lo hi : Nat) (d : Dev) : (zeroRam lo hi d).pwr = d.pwr := rfl
@[simp] theorem zeroRam_meas (lo hi : Nat) (d : Dev) : (zeroRam lo hi d).meas = d.meas := rfl
@[simp] theorem zeroRam_ref (lo hi : Nat) (d : Dev) : (zeroRam lo hi d).ref = d.ref := rfl
@[simp] theorem zeroRam_img (lo hi : Nat) (d : Dev) : (zeroRam lo hi d).img = d.img := rfl
@[simp] theorem zeroRam_bnd (lo hi : Nat) (d : Dev) : (zeroRam lo hi d).bnd = d.bnd := rfl
@[simp] theorem zeroRam_syn (lo hi : Nat) (d : Dev) : (zeroRam lo hi d).syn = d.syn := rfl
@[simp] theorem zeroRam_gn (lo hi : Nat) (d : Dev) : (zeroRam lo hi d).gn = d.gn := rfl
@[simp] theorem zeroRam_key (lo hi : Nat) (d : Dev) : (zeroRam lo hi d).key = d.key := rfl
@[simp] theorem zeroRam_net (lo hi : Nat) (d : Dev) : (zeroRam lo hi d).net = d.net := rfl
@[simp] theorem zeroRam_dsg (lo hi : Nat) (d : Dev) : (zeroRam lo hi d).dsg = d.dsg := rfl
@[simp] theorem zeroRam_twn (lo hi : Nat) (d : Dev) : (zeroRam lo hi d).twn = d.twn := rfl
@[simp] theorem zeroRam_ctl (lo hi : Nat) (d : Dev) : (zeroRam lo hi d).ctl = d.ctl := rfl

/-! ### resetRegs -/

@[simp] theorem resetRegs_ram (p : Nat → RegRow → Bool) (d : Dev) : (resetRegs p d).ram = d.ram := rfl
@[simp] theorem resetRegs_badWords (p : Nat → RegRow → Bool) (d : Dev) : (resetRegs p d).badWords = d.badWords := rfl
@[simp] theorem resetRegs_flash (p : Nat → RegRow → Bool) (d : Dev) : (resetRegs p d).flash = d.flash := rfl
@[simp] theorem resetRegs_resp (p : Nat → RegRow → Bool) (d : Dev) : (resetRegs p d).resp = d.resp := rfl
@[simp] theorem resetRegs_spiStatus (p : Nat → RegRow → Bool) (d : Dev) : (resetRegs p d).spiStatus = d.spiStatus := rfl
@[simp] theorem resetRegs_ctr (p : Nat → RegRow → Bool) (d : Dev) : (resetRegs p d).ctr = d.ctr := rfl
@[simp] theorem resetRegs_tb (p : Nat → RegRow → Bool) (d : Dev) : (resetRegs p d).tb = d.tb := rfl
@[simp] theorem resetRegs_lpc (p : Nat → RegRow → Bool) (d : Dev) : (resetRegs p d).lpc = d.lpc := rfl
@[simp] theorem resetRegs_evq (p : Nat → RegRow → Bool) (d : Dev) : (resetRegs p d).evq = d.evq := rfl
@[simp] theorem resetRegs_log (p : Nat → RegRow → Bool) (d : Dev) : (resetRegs p d).log = d.log := rfl
@[simp] theorem resetRegs_flt (p : Nat → RegRow → Bool) (d : Dev) : (resetRegs p d).flt = d.flt := rfl
@[simp] theorem resetRegs_hif (p : Nat → RegRow → Bool) (d : Dev) : (resetRegs p d).hif = d.hif := rfl
@[simp] theorem resetRegs_pwr (p : Nat → RegRow → Bool) (d : Dev) : (resetRegs p d).pwr = d.pwr := rfl
@[simp] theorem resetRegs_meas (p : Nat → RegRow → Bool) (d : Dev) : (resetRegs p d).meas = d.meas := rfl
@[simp] theorem resetRegs_ref (p : Nat → RegRow → Bool) (d : Dev) : (resetRegs p d).ref = d.ref := rfl
@[simp] theorem resetRegs_img (p : Nat → RegRow → Bool) (d : Dev) : (resetRegs p d).img = d.img := rfl
@[simp] theorem resetRegs_bnd (p : Nat → RegRow → Bool) (d : Dev) : (resetRegs p d).bnd = d.bnd := rfl
@[simp] theorem resetRegs_syn (p : Nat → RegRow → Bool) (d : Dev) : (resetRegs p d).syn = d.syn := rfl
@[simp] theorem resetRegs_gn (p : Nat → RegRow → Bool) (d : Dev) : (resetRegs p d).gn = d.gn := rfl
@[simp] theorem resetRegs_key (p : Nat → RegRow → Bool) (d : Dev) : (resetRegs p d).key = d.key := rfl
@[simp] theorem resetRegs_net (p : Nat → RegRow → Bool) (d : Dev) : (resetRegs p d).net = d.net := rfl
@[simp] theorem resetRegs_dsg (p : Nat → RegRow → Bool) (d : Dev) : (resetRegs p d).dsg = d.dsg := rfl
@[simp] theorem resetRegs_twn (p : Nat → RegRow → Bool) (d : Dev) : (resetRegs p d).twn = d.twn := rfl
@[simp] theorem resetRegs_ctl (p : Nat → RegRow → Bool) (d : Dev) : (resetRegs p d).ctl = d.ctl := rfl

/-! ### setWeir -/

@[simp] theorem setWeir_regs (i : Nat) (w : Weir) (d : Dev) : (setWeir i w d).regs = d.regs := rfl
@[simp] theorem setWeir_latch (i : Nat) (w : Weir) (d : Dev) : (setWeir i w d).latch = d.latch := rfl
@[simp] theorem setWeir_held (i : Nat) (w : Weir) (d : Dev) : (setWeir i w d).held = d.held := rfl
@[simp] theorem setWeir_ram (i : Nat) (w : Weir) (d : Dev) : (setWeir i w d).ram = d.ram := rfl
@[simp] theorem setWeir_badWords (i : Nat) (w : Weir) (d : Dev) : (setWeir i w d).badWords = d.badWords := rfl
@[simp] theorem setWeir_flash (i : Nat) (w : Weir) (d : Dev) : (setWeir i w d).flash = d.flash := rfl
@[simp] theorem setWeir_resp (i : Nat) (w : Weir) (d : Dev) : (setWeir i w d).resp = d.resp := rfl
@[simp] theorem setWeir_spiStatus (i : Nat) (w : Weir) (d : Dev) : (setWeir i w d).spiStatus = d.spiStatus := rfl
@[simp] theorem setWeir_ctr (i : Nat) (w : Weir) (d : Dev) : (setWeir i w d).ctr = d.ctr := rfl
@[simp] theorem setWeir_tb (i : Nat) (w : Weir) (d : Dev) : (setWeir i w d).tb = d.tb := rfl
@[simp] theorem setWeir_lpc (i : Nat) (w : Weir) (d : Dev) : (setWeir i w d).lpc = d.lpc := rfl
@[simp] theorem setWeir_evq (i : Nat) (w : Weir) (d : Dev) : (setWeir i w d).evq = d.evq := rfl
@[simp] theorem setWeir_flt (i : Nat) (w : Weir) (d : Dev) : (setWeir i w d).flt = d.flt := rfl
@[simp] theorem setWeir_hif (i : Nat) (w : Weir) (d : Dev) : (setWeir i w d).hif = d.hif := rfl
@[simp] theorem setWeir_pwr (i : Nat) (w : Weir) (d : Dev) : (setWeir i w d).pwr = d.pwr := rfl
@[simp] theorem setWeir_meas (i : Nat) (w : Weir) (d : Dev) : (setWeir i w d).meas = d.meas := rfl
@[simp] theorem setWeir_ref (i : Nat) (w : Weir) (d : Dev) : (setWeir i w d).ref = d.ref := rfl
@[simp] theorem setWeir_img (i : Nat) (w : Weir) (d : Dev) : (setWeir i w d).img = d.img := rfl
@[simp] theorem setWeir_bnd (i : Nat) (w : Weir) (d : Dev) : (setWeir i w d).bnd = d.bnd := rfl
@[simp] theorem setWeir_syn (i : Nat) (w : Weir) (d : Dev) : (setWeir i w d).syn = d.syn := rfl
@[simp] theorem setWeir_gn (i : Nat) (w : Weir) (d : Dev) : (setWeir i w d).gn = d.gn := rfl
@[simp] theorem setWeir_key (i : Nat) (w : Weir) (d : Dev) : (setWeir i w d).key = d.key := rfl
@[simp] theorem setWeir_net (i : Nat) (w : Weir) (d : Dev) : (setWeir i w d).net = d.net := rfl
@[simp] theorem setWeir_dsg (i : Nat) (w : Weir) (d : Dev) : (setWeir i w d).dsg = d.dsg := rfl
@[simp] theorem setWeir_twn (i : Nat) (w : Weir) (d : Dev) : (setWeir i w d).twn = d.twn := rfl
@[simp] theorem setWeir_ctl (i : Nat) (w : Weir) (d : Dev) : (setWeir i w d).ctl = d.ctl := rfl

/-- The outcome of a command on a device is a next state that keeps the queue. -/
@[simp] theorem upd_next (s : State) (f : Dev → Dev) :
    s.upd f = .next { toDev := f s.toDev, pending := s.pending } := rfl

end Sys2Proof.Laws
end

