-- ==== Sys2Proof/Laws/Ops.lean ====
section
/-! SUPPORT. What the shared operations do, said once: fields and registers after a write, the guards of an access, and what
raising an event can change. -/

namespace Sys2Proof.Laws

set_option Elab.async false

open Sys2Proof Sys2Proof.Machine

/-! ### Bit fields -/

theorem getLsbD_maskOf (lo n i : Nat) (h : i < 32) : (maskOf lo n).getLsbD i = (decide (lo ≤ i) && decide (i < lo + n)) := by
  simp only [maskOf, BitVec.getLsbD_ofNat, h, decide_true, Bool.true_and, Nat.testBit_shiftLeft, Nat.testBit_two_pow_sub_one]
  by_cases h1 : lo ≤ i
  · simp [h1]; omega
  · simp [h1]

theorem getLsbD_putBits (w : Word) (lo n v i : Nat) (h : i < 32) :
    (putBits w lo n v).getLsbD i = if lo ≤ i ∧ i < lo + n then v.testBit (i - lo) else w.getLsbD i := by
  simp only [putBits, BitVec.getLsbD_or, BitVec.getLsbD_and, BitVec.getLsbD_not, h, decide_true, Bool.true_and,
    getLsbD_maskOf lo n i h, BitVec.getLsbD_ofNat, Nat.testBit_shiftLeft, Nat.testBit_mod_two_pow]
  by_cases h1 : lo ≤ i
  · by_cases h2 : i < lo + n
    · have h3 : i - lo < n := by omega
      simp [h1, h2, h3]
    · simp [h1, h2]
  · simp [h1]

theorem testBit_bitsOf (w : Word) (lo n i : Nat) :
    (bitsOf w lo n).testBit i = (decide (i < n) && w.getLsbD (lo + i)) := by
  simp only [bitsOf, Nat.testBit_mod_two_pow, Nat.testBit_shiftRight, BitVec.testBit_toNat]

/-- A field reads as what was put into it. -/
theorem bitsOf_putBits (w : Word) (lo n v : Nat) (h : lo + n ≤ 32) : bitsOf (putBits w lo n v) lo n = v % 2 ^ n := by
  apply Nat.eq_of_testBit_eq
  intro i
  rw [testBit_bitsOf, Nat.testBit_mod_two_pow]
  by_cases hi : i < n
  · rw [getLsbD_putBits _ _ _ _ _ (by omega)]
    simp [hi]
  · simp [hi]

/-- Putting a field leaves a disjoint field alone. -/
theorem bitsOf_putBits_disjoint (w : Word) (lo n v lo2 n2 : Nat) (h : lo2 + n2 ≤ lo ∨ lo + n ≤ lo2) :
    bitsOf (putBits w lo n v) lo2 n2 = bitsOf w lo2 n2 := by
  apply Nat.eq_of_testBit_eq
  intro i
  rw [testBit_bitsOf, testBit_bitsOf]
  by_cases hi : i < n2
  · by_cases h32 : lo2 + i < 32
    · rw [getLsbD_putBits _ _ _ _ _ h32, if_neg (by omega)]
    · simp [BitVec.getLsbD_of_ge _ _ (by omega : 32 ≤ lo2 + i)]
  · simp [hi]

/-! ### Registers -/

@[simp] theorem rd_wr_same (a : Nat) (v : Word) (d : Dev) : rd (wr a v d) a = v := cget_cput_same _ _ _ _

theorem rd_wr_other {a b : Nat} (v : Word) (d : Dev) (h : b ≠ a) : rd (wr a v d) b = rd d b := cget_cput_other _ _ _ h

theorem rd_setF_other {f : Fld} {b : Nat} (v : Nat) (d : Dev) (h : b ≠ f.reg) : rd (setF f v d) b = rd d b :=
  rd_wr_other _ _ h

theorem rd_wrN_same (a v : Nat) (d : Dev) : rd (wrN a v d) a = BitVec.ofNat 32 v := rd_wr_same _ _ _

theorem rd_wrN_other {a b : Nat} (v : Nat) (d : Dev) (h : b ≠ a) : rd (wrN a v d) b = rd d b := rd_wr_other _ _ h

theorem rd_wr64_other {a b : Nat} (v : Nat) (d : Dev) (h : b ≠ a) (h4 : b ≠ a + 4) : rd (wr64 a v d) b = rd d b := by
  rw [wr64, rd_wrN_other _ _ h4, rd_wrN_other _ _ h]

/-- A field reads as what was set. -/
theorem fld_setF_same (f : Fld) (v : Nat) (d : Dev) (h : f.lo + f.wd ≤ 32) : fld (setF f v d) f = v % 2 ^ f.wd := by
  rw [fld, setF, rd_wr_same, bitsOf_putBits _ _ _ _ h]

/-- Setting a field leaves the fields of other registers and disjoint fields of its own alone. -/
theorem fld_setF_other {f g : Fld} (v : Nat) (d : Dev) (h : g.reg ≠ f.reg ∨ g.lo + g.wd ≤ f.lo ∨ f.lo + f.wd ≤ g.lo) :
    fld (setF f v d) g = fld d g := by
  by_cases hr : g.reg = f.reg
  · rw [fld, fld, hr, setF, rd_wr_same, bitsOf_putBits_disjoint _ _ _ _ _ _ (by rcases h with h | h; exact absurd hr h; exact h)]
  · rw [fld, fld, rd_setF_other v d hr]

theorem domOnN_wr {a n : Nat} (v : Word) (d : Dev) (h : PWR_DOM_STATUS ≠ a) : domOnN (wr a v d) n = domOnN d n := by
  rw [domOnN, domOnN, rd_wr_other _ _ h]

/-! ### Conditions and lists -/

@[simp] theorem doIf_true (f : Dev → Dev) (d : Dev) : doIf true f d = f d := if_pos rfl
@[simp] theorem doIf_false (f : Dev → Dev) (d : Dev) : doIf false f d = d := if_neg Bool.false_ne_true

/-- A property that both branches have. -/
theorem doIf_ind {P : Dev → Prop} (b : Bool) (f : Dev → Dev) (d : Dev) (h1 : P (f d)) (h0 : P d) : P (doIf b f d) := by
  cases b
  · exact h0
  · exact h1

/-- A property that every element's effect keeps. -/
theorem forEach_ind {α : Type} {P : Dev → Prop} (l : List α) (f : α → Dev → Dev) (d : Dev) (h0 : P d)
    (h : ∀ x e, P e → P (f x e)) : P (forEach l f d) := by
  unfold forEach
  induction l generalizing d with
  | nil => exact h0
  | cons x xs ih => exact ih (f x d) (h x d h0)

/-! ### The guards of an access -/

/-- A write that its guards let through has its effect. -/
theorem guardWrite_granted {d : Dev} {r : Req} {a : Nat} (k : Dev → Dev) (h : granted d r a = true) :
    guardWrite r a k d = k d := by
  simp only [granted, Bool.and_eq_true, Bool.or_eq_true] at h
  obtain ⟨⟨h1, h2⟩, h3⟩ := h
  rcases h2 with h2 | h2 <;> simp [guardWrite, h1, h2, h3]

/-- A write that does not reach the device does nothing. -/
theorem guardWrite_unreached {d : Dev} {r : Req} {a : Nat} (k : Dev → Dev) (h : reaches d r = false) :
    guardWrite r a k d = d := by
  simp [guardWrite, h]

/-- A read that its guards let through has its effect. -/
theorem guardRead_on {d : Dev} {r : Req} {a : Nat} (k : Dev → Dev) (h : reaches d r = true) (hr : regOn d a = true) :
    guardRead r a k d = k d := by
  simp [guardRead, h, hr]

/-! ### Events: what raising one can change -/

/-- What raising an event keeps: everything but the performance counters, the pending events, the recorder's input and the
count of free values. -/
def keepsRaise (d e : Dev) : Prop :=
  (∀ a, isPmc (a % bankSpan) = false → rd e a = rd d a) ∧
  { e with regs := d.regs, evq := d.evq, log := d.log, ctr := d.ctr } = d

theorem keepsRaise_refl (d : Dev) : keepsRaise d d := ⟨fun _ _ => rfl, rfl⟩

theorem keepsRaise_trans {d e g : Dev} (h1 : keepsRaise d e) (h2 : keepsRaise e g) : keepsRaise d g := by
  refine ⟨fun a ha => (h2.1 a ha).trans (h1.1 a ha), ?_⟩
  have e1 := h1.2
  have e2 := h2.2
  rw [← e1, ← e2]

theorem keepsRaise_with {d : Dev} {q : Evq} {l : Log} {c : Nat} : keepsRaise d { d with evq := q, log := l, ctr := c } :=
  ⟨fun _ _ => rfl, rfl⟩

theorem keepsRaise_wr {d : Dev} {a : Nat} {v : Word} (h : isPmc (a % bankSpan) = true) : keepsRaise d (wr a v d) := by
  refine ⟨fun b hb => rd_wr_other _ _ ?_, rfl⟩
  intro e; subst e; rw [h] at hb; cases hb

theorem keepsRaise_doIf {d e : Dev} {b : Bool} {f : Dev → Dev} (h0 : keepsRaise d e) (h : keepsRaise e (f e)) :
    keepsRaise d (doIf b f e) :=
  doIf_ind (P := keepsRaise d) b f e (keepsRaise_trans h0 h) h0

theorem keepsRaise_setPending (src code param : Nat) (d : Dev) : keepsRaise d (setPending src code param d) := by
  unfold setPending
  split
  · exact keepsRaise_with (d := d) (l := d.log) (c := d.ctr)
  · split
    · exact keepsRaise_with (d := d) (l := d.log) (c := d.ctr)
    · exact keepsRaise_refl d

theorem keepsRaise_log {d : Dev} (l : Log) : keepsRaise d { d with log := l } := keepsRaise_with (d := d) (q := d.evq) (c := d.ctr)

theorem keepsRaise_enqueue (r : LRec) (d : Dev) : keepsRaise d (enqueue r d) := by
  unfold enqueue
  split
  · exact keepsRaise_log _
  · exact keepsRaise_log _

theorem keepsRaise_setWeir (i : Nat) (w : Weir) (d : Dev) : keepsRaise d (setWeir i w d) := keepsRaise_log _

theorem keepsRaise_weirSync (i : Nat) (d : Dev) : keepsRaise d (weirSync i d) := by
  unfold weirSync
  dsimp only
  split
  · exact keepsRaise_trans (keepsRaise_setPending _ _ _ _) (keepsRaise_trans (keepsRaise_enqueue _ _) (keepsRaise_setWeir _ _ _))
  · exact keepsRaise_setWeir _ _ _

theorem keepsRaise_offer (r : LRec) (d : Dev) : keepsRaise d (offer r d) := by
  unfold offer
  split
  · exact keepsRaise_enqueue _ _
  · dsimp only
    have h := keepsRaise_weirSync (weirIndex r.code) d
    split
    · exact keepsRaise_trans h (keepsRaise_enqueue _ _)
    · split
      · exact keepsRaise_trans h (keepsRaise_trans (keepsRaise_setWeir _ _ _) (keepsRaise_enqueue _ _))
      · exact keepsRaise_trans h (keepsRaise_trans (keepsRaise_log _) (keepsRaise_setWeir _ _ _))

theorem keepsRaise_raiseRaw (code param p0 p1 p2 : Nat) (d : Dev) : keepsRaise d (raiseRaw code param p0 p1 p2 d) :=
  keepsRaise_trans (keepsRaise_setPending _ _ _ _) (keepsRaise_offer _ _)

theorem isPmc_gen (n : Nat) (h : n < 64) (o : Nat) (ho : o < 16) : isPmc ((0x060100 + o + n * 0x10) % bankSpan) = true := by
  have : (0x060100 + o + n * 0x10) % bankSpan = 0x060100 + o + n * 0x10 := Nat.mod_eq_of_lt (by unfold bankSpan; omega)
  rw [this, isPmc]
  simp only [Bool.and_eq_true, decide_eq_true_eq]
  omega

theorem isPmc_priv (p : Nat) (h : p < 8) (o : Nat) (ho : o < 16) : isPmc ((0x060600 + o + p * 0x10) % bankSpan) = true := by
  have : (0x060600 + o + p * 0x10) % bankSpan = 0x060600 + o + p * 0x10 := Nat.mod_eq_of_lt (by unfold bankSpan; omega)
  rw [this, isPmc]
  simp only [Bool.and_eq_true, decide_eq_true_eq]
  omega

theorem keepsRaise_wr64 {d : Dev} {a v : Nat} (h : isPmc (a % bankSpan) = true) (h4 : isPmc ((a + 4) % bankSpan) = true) :
    keepsRaise d (wr64 a v d) :=
  keepsRaise_trans (keepsRaise_wr h) (keepsRaise_wr h4)

theorem isPmc_genLo (n : Nat) (h : n < 64) : isPmc (PMC_GEN_LO n % bankSpan) = true := isPmc_gen n h 4 (by omega)

theorem isPmc_genHi (n : Nat) (h : n < 64) : isPmc ((PMC_GEN_LO n + 4) % bankSpan) = true := by
  have := isPmc_gen n h 8 (by omega)
  rwa [show PMC_GEN_LO n + 4 = 0x060100 + 8 + n * 0x10 by unfold PMC_GEN_LO; omega]

theorem isPmc_privLo (p : Nat) (h : p < 8) : isPmc (PMC_PRIV_LO p % bankSpan) = true := isPmc_priv p h 4 (by omega)

theorem isPmc_privHi (p : Nat) (h : p < 8) : isPmc ((PMC_PRIV_LO p + 4) % bankSpan) = true := by
  have := isPmc_priv p h 8 (by omega)
  rwa [show PMC_PRIV_LO p + 4 = 0x060600 + 8 + p * 0x10 by unfold PMC_PRIV_LO; omega]

theorem keepsRaise_genWrap (n : Nat) (h : n < 64) (d : Dev) : keepsRaise d (genWrap n d) :=
  keepsRaise_doIf (keepsRaise_wr (isPmc_gen n h 12 (by omega))) (keepsRaise_raiseRaw _ _ _ _ _ _)

theorem keepsRaise_genUpper (n c : Nat) (h : n < 64) (d : Dev) : keepsRaise d (genUpper n c d) := by
  unfold genUpper
  exact keepsRaise_doIf (keepsRaise_wr64 (isPmc_genLo n h) (isPmc_genHi n h)) (keepsRaise_genWrap n h _)

theorem keepsRaise_genAdd (n c : Nat) (h : n < 64) (d : Dev) : keepsRaise d (genAdd n c d) := by
  unfold genAdd
  dsimp only
  have h1 := keepsRaise_wr64 (d := d) (v := (rd64 d (PMC_GEN_LO n) + c) % 2 ^ 48) (isPmc_genLo n h) (isPmc_genHi n h)
  split
  · exact h1
  · split
    next hc => exact keepsRaise_doIf h1 (keepsRaise_genUpper (n + 1) _ (by omega) _)
    · exact keepsRaise_trans h1 (keepsRaise_genWrap n h _)

theorem keepsRaise_privAdd (p c : Nat) (h : p < 8) (d : Dev) : keepsRaise d (privAdd p c d) := by
  unfold privAdd
  dsimp only
  have h1 := keepsRaise_wr64 (d := d) (v := (rd64 d (PMC_PRIV_LO p) + c) % 2 ^ 64) (isPmc_privLo p h) (isPmc_privHi p h)
  split
  · exact h1
  · exact keepsRaise_trans (keepsRaise_trans h1 (keepsRaise_wr (isPmc_priv p h 12 (by omega)))) (keepsRaise_raiseRaw _ _ _ _ _ _)

theorem keepsRaise_forEach {n : Nat} (f : Nat → Dev → Dev) (d e : Dev) (h0 : keepsRaise d e)
    (h : ∀ i, i < n → ∀ x, keepsRaise x (f i x)) : keepsRaise d (forEach (List.range n) f e) := by
  have key : ∀ (l : List Nat), (∀ i ∈ l, i < n) → ∀ e, keepsRaise d e → keepsRaise d (forEach l f e) := by
    intro l
    induction l with
    | nil => intro _ e he; exact he
    | cons i l ih =>
      intro hl e he
      exact ih (fun j hj => hl j (List.mem_cons_of_mem _ hj)) (f i e) (keepsRaise_trans he (h i (hl i List.mem_cons_self) e))
  exact key _ (fun i hi => List.mem_range.mp hi) e h0

theorem keepsRaise_pmcAdd (sig c : Nat) (d : Dev) : keepsRaise d (pmcAdd sig c d) := by
  unfold pmcAdd
  split
  · exact keepsRaise_refl d
  · refine keepsRaise_forEach _ _ _ (keepsRaise_forEach _ _ _ (keepsRaise_refl d) ?_) ?_
    · intro i hi x; exact keepsRaise_doIf (keepsRaise_refl x) (keepsRaise_genAdd i c hi x)
    · intro i hi x; exact keepsRaise_doIf (keepsRaise_refl x) (keepsRaise_privAdd i c hi x)

theorem keepsRaise_pmcSup (d : Dev) : keepsRaise d (pmcSup d) := by
  unfold pmcSup
  split
  · exact keepsRaise_refl d
  · exact keepsRaise_trans (keepsRaise_log _) (keepsRaise_pmcAdd _ _ _)

theorem keepsRaise_raise3 (code param p0 p1 p2 : Nat) (d : Dev) : keepsRaise d (raise3 code param p0 p1 p2 d) :=
  keepsRaise_trans (keepsRaise_raiseRaw _ _ _ _ _ _) (keepsRaise_pmcSup _)

/-- Raising an event changes nothing but the performance counters, the pending events, the recorder's input and the count of
free values. -/
theorem keepsRaise_raise (code param : Nat) (d : Dev) : keepsRaise d (raise code param d) :=
  keepsRaise_trans (keepsRaise_with (d := d) (q := d.evq) (l := d.log)) (keepsRaise_raise3 _ _ _ _ _ _)

/-- A register outside the performance counters reads the same after an event. -/
theorem rd_raise (code param : Nat) (d : Dev) {a : Nat} (h : isPmc (a % bankSpan) = false) :
    rd (raise code param d) a = rd d a := (keepsRaise_raise code param d).1 a h

theorem rd_raise3 (code param p0 p1 p2 : Nat) (d : Dev) {a : Nat} (h : isPmc (a % bankSpan) = false) :
    rd (raise3 code param p0 p1 p2 d) a = rd d a := (keepsRaise_raise3 code param p0 p1 p2 d).1 a h

theorem rd_pmcAdd (sig c : Nat) (d : Dev) {a : Nat} (h : isPmc (a % bankSpan) = false) :
    rd (pmcAdd sig c d) a = rd d a := (keepsRaise_pmcAdd sig c d).1 a h

theorem fld_raise (code param : Nat) (d : Dev) {f : Fld} (h : isPmc (f.reg % bankSpan) = false) :
    fld (raise code param d) f = fld d f := by
  rw [fld, fld, rd_raise code param d h]

theorem fld_pmcAdd (sig c : Nat) (d : Dev) {f : Fld} (h : isPmc (f.reg % bankSpan) = false) :
    fld (pmcAdd sig c d) f = fld d f := by
  rw [fld, fld, rd_pmcAdd sig c d h]

theorem keepsRaise_latch {d e : Dev} (h : keepsRaise d e) : e.latch = d.latch := by
  have h2 := congrArg Dev.latch h.2
  exact h2
theorem keepsRaise_held {d e : Dev} (h : keepsRaise d e) : e.held = d.held := by
  have h2 := congrArg Dev.held h.2
  exact h2
theorem keepsRaise_ram {d e : Dev} (h : keepsRaise d e) : e.ram = d.ram := by
  have h2 := congrArg Dev.ram h.2
  exact h2
theorem keepsRaise_badWords {d e : Dev} (h : keepsRaise d e) : e.badWords = d.badWords := by
  have h2 := congrArg Dev.badWords h.2
  exact h2
theorem keepsRaise_flash {d e : Dev} (h : keepsRaise d e) : e.flash = d.flash := by
  have h2 := congrArg Dev.flash h.2
  exact h2
theorem keepsRaise_resp {d e : Dev} (h : keepsRaise d e) : e.resp = d.resp := by
  have h2 := congrArg Dev.resp h.2
  exact h2
theorem keepsRaise_spiStatus {d e : Dev} (h : keepsRaise d e) : e.spiStatus = d.spiStatus := by
  have h2 := congrArg Dev.spiStatus h.2
  exact h2
theorem keepsRaise_tb {d e : Dev} (h : keepsRaise d e) : e.tb = d.tb := by
  have h2 := congrArg Dev.tb h.2
  exact h2
theorem keepsRaise_lpc {d e : Dev} (h : keepsRaise d e) : e.lpc = d.lpc := by
  have h2 := congrArg Dev.lpc h.2
  exact h2
theorem keepsRaise_flt {d e : Dev} (h : keepsRaise d e) : e.flt = d.flt := by
  have h2 := congrArg Dev.flt h.2
  exact h2
theorem keepsRaise_hif {d e : Dev} (h : keepsRaise d e) : e.hif = d.hif := by
  have h2 := congrArg Dev.hif h.2
  exact h2
theorem keepsRaise_pwr {d e : Dev} (h : keepsRaise d e) : e.pwr = d.pwr := by
  have h2 := congrArg Dev.pwr h.2
  exact h2
theorem keepsRaise_meas {d e : Dev} (h : keepsRaise d e) : e.meas = d.meas := by
  have h2 := congrArg Dev.meas h.2
  exact h2
theorem keepsRaise_ref {d e : Dev} (h : keepsRaise d e) : e.ref = d.ref := by
  have h2 := congrArg Dev.ref h.2
  exact h2
theorem keepsRaise_img {d e : Dev} (h : keepsRaise d e) : e.img = d.img := by
  have h2 := congrArg Dev.img h.2
  exact h2
theorem keepsRaise_bnd {d e : Dev} (h : keepsRaise d e) : e.bnd = d.bnd := by
  have h2 := congrArg Dev.bnd h.2
  exact h2
theorem keepsRaise_syn {d e : Dev} (h : keepsRaise d e) : e.syn = d.syn := by
  have h2 := congrArg Dev.syn h.2
  exact h2
theorem keepsRaise_gn {d e : Dev} (h : keepsRaise d e) : e.gn = d.gn := by
  have h2 := congrArg Dev.gn h.2
  exact h2
theorem keepsRaise_key {d e : Dev} (h : keepsRaise d e) : e.key = d.key := by
  have h2 := congrArg Dev.key h.2
  exact h2
theorem keepsRaise_net {d e : Dev} (h : keepsRaise d e) : e.net = d.net := by
  have h2 := congrArg Dev.net h.2
  exact h2
theorem keepsRaise_dsg {d e : Dev} (h : keepsRaise d e) : e.dsg = d.dsg := by
  have h2 := congrArg Dev.dsg h.2
  exact h2
theorem keepsRaise_twn {d e : Dev} (h : keepsRaise d e) : e.twn = d.twn := by
  have h2 := congrArg Dev.twn h.2
  exact h2
theorem keepsRaise_ctl {d e : Dev} (h : keepsRaise d e) : e.ctl = d.ctl := by
  have h2 := congrArg Dev.ctl h.2
  exact h2

@[simp] theorem raise_latch (code param : Nat) (d : Dev) : (raise code param d).latch = d.latch :=
  keepsRaise_latch (keepsRaise_raise code param d)
@[simp] theorem raise_held (code param : Nat) (d : Dev) : (raise code param d).held = d.held :=
  keepsRaise_held (keepsRaise_raise code param d)
@[simp] theorem raise_ram (code param : Nat) (d : Dev) : (raise code param d).ram = d.ram :=
  keepsRaise_ram (keepsRaise_raise code param d)
@[simp] theorem raise_badWords (code param : Nat) (d : Dev) : (raise code param d).badWords = d.badWords :=
  keepsRaise_badWords (keepsRaise_raise code param d)
@[simp] theorem raise_flash (code param : Nat) (d : Dev) : (raise code param d).flash = d.flash :=
  keepsRaise_flash (keepsRaise_raise code param d)
@[simp] theorem raise_resp (code param : Nat) (d : Dev) : (raise code param d).resp = d.resp :=
  keepsRaise_resp (keepsRaise_raise code param d)
@[simp] theorem raise_spiStatus (code param : Nat) (d : Dev) : (raise code param d).spiStatus = d.spiStatus :=
  keepsRaise_spiStatus (keepsRaise_raise code param d)
@[simp] theorem raise_tb (code param : Nat) (d : Dev) : (raise code param d).tb = d.tb :=
  keepsRaise_tb (keepsRaise_raise code param d)
@[simp] theorem raise_lpc (code param : Nat) (d : Dev) : (raise code param d).lpc = d.lpc :=
  keepsRaise_lpc (keepsRaise_raise code param d)
@[simp] theorem raise_flt (code param : Nat) (d : Dev) : (raise code param d).flt = d.flt :=
  keepsRaise_flt (keepsRaise_raise code param d)
@[simp] theorem raise_hif (code param : Nat) (d : Dev) : (raise code param d).hif = d.hif :=
  keepsRaise_hif (keepsRaise_raise code param d)
@[simp] theorem raise_pwr (code param : Nat) (d : Dev) : (raise code param d).pwr = d.pwr :=
  keepsRaise_pwr (keepsRaise_raise code param d)
@[simp] theorem raise_meas (code param : Nat) (d : Dev) : (raise code param d).meas = d.meas :=
  keepsRaise_meas (keepsRaise_raise code param d)
@[simp] theorem raise_ref (code param : Nat) (d : Dev) : (raise code param d).ref = d.ref :=
  keepsRaise_ref (keepsRaise_raise code param d)
@[simp] theorem raise_img (code param : Nat) (d : Dev) : (raise code param d).img = d.img :=
  keepsRaise_img (keepsRaise_raise code param d)
@[simp] theorem raise_bnd (code param : Nat) (d : Dev) : (raise code param d).bnd = d.bnd :=
  keepsRaise_bnd (keepsRaise_raise code param d)
@[simp] theorem raise_syn (code param : Nat) (d : Dev) : (raise code param d).syn = d.syn :=
  keepsRaise_syn (keepsRaise_raise code param d)
@[simp] theorem raise_gn (code param : Nat) (d : Dev) : (raise code param d).gn = d.gn :=
  keepsRaise_gn (keepsRaise_raise code param d)
@[simp] theorem raise_key (code param : Nat) (d : Dev) : (raise code param d).key = d.key :=
  keepsRaise_key (keepsRaise_raise code param d)
@[simp] theorem raise_net (code param : Nat) (d : Dev) : (raise code param d).net = d.net :=
  keepsRaise_net (keepsRaise_raise code param d)
@[simp] theorem raise_dsg (code param : Nat) (d : Dev) : (raise code param d).dsg = d.dsg :=
  keepsRaise_dsg (keepsRaise_raise code param d)
@[simp] theorem raise_twn (code param : Nat) (d : Dev) : (raise code param d).twn = d.twn :=
  keepsRaise_twn (keepsRaise_raise code param d)
@[simp] theorem raise_ctl (code param : Nat) (d : Dev) : (raise code param d).ctl = d.ctl :=
  keepsRaise_ctl (keepsRaise_raise code param d)

@[simp] theorem raise3_latch (code param p0 p1 p2 : Nat) (d : Dev) : (raise3 code param p0 p1 p2 d).latch = d.latch :=
  keepsRaise_latch (keepsRaise_raise3 code param p0 p1 p2 d)
@[simp] theorem raise3_held (code param p0 p1 p2 : Nat) (d : Dev) : (raise3 code param p0 p1 p2 d).held = d.held :=
  keepsRaise_held (keepsRaise_raise3 code param p0 p1 p2 d)
@[simp] theorem raise3_ram (code param p0 p1 p2 : Nat) (d : Dev) : (raise3 code param p0 p1 p2 d).ram = d.ram :=
  keepsRaise_ram (keepsRaise_raise3 code param p0 p1 p2 d)
@[simp] theorem raise3_badWords (code param p0 p1 p2 : Nat) (d : Dev) : (raise3 code param p0 p1 p2 d).badWords = d.badWords :=
  keepsRaise_badWords (keepsRaise_raise3 code param p0 p1 p2 d)
@[simp] theorem raise3_flash (code param p0 p1 p2 : Nat) (d : Dev) : (raise3 code param p0 p1 p2 d).flash = d.flash :=
  keepsRaise_flash (keepsRaise_raise3 code param p0 p1 p2 d)
@[simp] theorem raise3_resp (code param p0 p1 p2 : Nat) (d : Dev) : (raise3 code param p0 p1 p2 d).resp = d.resp :=
  keepsRaise_resp (keepsRaise_raise3 code param p0 p1 p2 d)
@[simp] theorem raise3_spiStatus (code param p0 p1 p2 : Nat) (d : Dev) : (raise3 code param p0 p1 p2 d).spiStatus = d.spiStatus :=
  keepsRaise_spiStatus (keepsRaise_raise3 code param p0 p1 p2 d)
@[simp] theorem raise3_tb (code param p0 p1 p2 : Nat) (d : Dev) : (raise3 code param p0 p1 p2 d).tb = d.tb :=
  keepsRaise_tb (keepsRaise_raise3 code param p0 p1 p2 d)
@[simp] theorem raise3_lpc (code param p0 p1 p2 : Nat) (d : Dev) : (raise3 code param p0 p1 p2 d).lpc = d.lpc :=
  keepsRaise_lpc (keepsRaise_raise3 code param p0 p1 p2 d)
@[simp] theorem raise3_flt (code param p0 p1 p2 : Nat) (d : Dev) : (raise3 code param p0 p1 p2 d).flt = d.flt :=
  keepsRaise_flt (keepsRaise_raise3 code param p0 p1 p2 d)
@[simp] theorem raise3_hif (code param p0 p1 p2 : Nat) (d : Dev) : (raise3 code param p0 p1 p2 d).hif = d.hif :=
  keepsRaise_hif (keepsRaise_raise3 code param p0 p1 p2 d)
@[simp] theorem raise3_pwr (code param p0 p1 p2 : Nat) (d : Dev) : (raise3 code param p0 p1 p2 d).pwr = d.pwr :=
  keepsRaise_pwr (keepsRaise_raise3 code param p0 p1 p2 d)
@[simp] theorem raise3_meas (code param p0 p1 p2 : Nat) (d : Dev) : (raise3 code param p0 p1 p2 d).meas = d.meas :=
  keepsRaise_meas (keepsRaise_raise3 code param p0 p1 p2 d)
@[simp] theorem raise3_ref (code param p0 p1 p2 : Nat) (d : Dev) : (raise3 code param p0 p1 p2 d).ref = d.ref :=
  keepsRaise_ref (keepsRaise_raise3 code param p0 p1 p2 d)
@[simp] theorem raise3_img (code param p0 p1 p2 : Nat) (d : Dev) : (raise3 code param p0 p1 p2 d).img = d.img :=
  keepsRaise_img (keepsRaise_raise3 code param p0 p1 p2 d)
@[simp] theorem raise3_bnd (code param p0 p1 p2 : Nat) (d : Dev) : (raise3 code param p0 p1 p2 d).bnd = d.bnd :=
  keepsRaise_bnd (keepsRaise_raise3 code param p0 p1 p2 d)
@[simp] theorem raise3_syn (code param p0 p1 p2 : Nat) (d : Dev) : (raise3 code param p0 p1 p2 d).syn = d.syn :=
  keepsRaise_syn (keepsRaise_raise3 code param p0 p1 p2 d)
@[simp] theorem raise3_gn (code param p0 p1 p2 : Nat) (d : Dev) : (raise3 code param p0 p1 p2 d).gn = d.gn :=
  keepsRaise_gn (keepsRaise_raise3 code param p0 p1 p2 d)
@[simp] theorem raise3_key (code param p0 p1 p2 : Nat) (d : Dev) : (raise3 code param p0 p1 p2 d).key = d.key :=
  keepsRaise_key (keepsRaise_raise3 code param p0 p1 p2 d)
@[simp] theorem raise3_net (code param p0 p1 p2 : Nat) (d : Dev) : (raise3 code param p0 p1 p2 d).net = d.net :=
  keepsRaise_net (keepsRaise_raise3 code param p0 p1 p2 d)
@[simp] theorem raise3_dsg (code param p0 p1 p2 : Nat) (d : Dev) : (raise3 code param p0 p1 p2 d).dsg = d.dsg :=
  keepsRaise_dsg (keepsRaise_raise3 code param p0 p1 p2 d)
@[simp] theorem raise3_twn (code param p0 p1 p2 : Nat) (d : Dev) : (raise3 code param p0 p1 p2 d).twn = d.twn :=
  keepsRaise_twn (keepsRaise_raise3 code param p0 p1 p2 d)
@[simp] theorem raise3_ctl (code param p0 p1 p2 : Nat) (d : Dev) : (raise3 code param p0 p1 p2 d).ctl = d.ctl :=
  keepsRaise_ctl (keepsRaise_raise3 code param p0 p1 p2 d)

@[simp] theorem pmcAdd_latch (sig c : Nat) (d : Dev) : (pmcAdd sig c d).latch = d.latch :=
  keepsRaise_latch (keepsRaise_pmcAdd sig c d)
@[simp] theorem pmcAdd_held (sig c : Nat) (d : Dev) : (pmcAdd sig c d).held = d.held :=
  keepsRaise_held (keepsRaise_pmcAdd sig c d)
@[simp] theorem pmcAdd_ram (sig c : Nat) (d : Dev) : (pmcAdd sig c d).ram = d.ram :=
  keepsRaise_ram (keepsRaise_pmcAdd sig c d)
@[simp] theorem pmcAdd_badWords (sig c : Nat) (d : Dev) : (pmcAdd sig c d).badWords = d.badWords :=
  keepsRaise_badWords (keepsRaise_pmcAdd sig c d)
@[simp] theorem pmcAdd_flash (sig c : Nat) (d : Dev) : (pmcAdd sig c d).flash = d.flash :=
  keepsRaise_flash (keepsRaise_pmcAdd sig c d)
@[simp] theorem pmcAdd_resp (sig c : Nat) (d : Dev) : (pmcAdd sig c d).resp = d.resp :=
  keepsRaise_resp (keepsRaise_pmcAdd sig c d)
@[simp] theorem pmcAdd_spiStatus (sig c : Nat) (d : Dev) : (pmcAdd sig c d).spiStatus = d.spiStatus :=
  keepsRaise_spiStatus (keepsRaise_pmcAdd sig c d)
@[simp] theorem pmcAdd_tb (sig c : Nat) (d : Dev) : (pmcAdd sig c d).tb = d.tb :=
  keepsRaise_tb (keepsRaise_pmcAdd sig c d)
@[simp] theorem pmcAdd_lpc (sig c : Nat) (d : Dev) : (pmcAdd sig c d).lpc = d.lpc :=
  keepsRaise_lpc (keepsRaise_pmcAdd sig c d)
@[simp] theorem pmcAdd_flt (sig c : Nat) (d : Dev) : (pmcAdd sig c d).flt = d.flt :=
  keepsRaise_flt (keepsRaise_pmcAdd sig c d)
@[simp] theorem pmcAdd_hif (sig c : Nat) (d : Dev) : (pmcAdd sig c d).hif = d.hif :=
  keepsRaise_hif (keepsRaise_pmcAdd sig c d)
@[simp] theorem pmcAdd_pwr (sig c : Nat) (d : Dev) : (pmcAdd sig c d).pwr = d.pwr :=
  keepsRaise_pwr (keepsRaise_pmcAdd sig c d)
@[simp] theorem pmcAdd_meas (sig c : Nat) (d : Dev) : (pmcAdd sig c d).meas = d.meas :=
  keepsRaise_meas (keepsRaise_pmcAdd sig c d)
@[simp] theorem pmcAdd_ref (sig c : Nat) (d : Dev) : (pmcAdd sig c d).ref = d.ref :=
  keepsRaise_ref (keepsRaise_pmcAdd sig c d)
@[simp] theorem pmcAdd_img (sig c : Nat) (d : Dev) : (pmcAdd sig c d).img = d.img :=
  keepsRaise_img (keepsRaise_pmcAdd sig c d)
@[simp] theorem pmcAdd_bnd (sig c : Nat) (d : Dev) : (pmcAdd sig c d).bnd = d.bnd :=
  keepsRaise_bnd (keepsRaise_pmcAdd sig c d)
@[simp] theorem pmcAdd_syn (sig c : Nat) (d : Dev) : (pmcAdd sig c d).syn = d.syn :=
  keepsRaise_syn (keepsRaise_pmcAdd sig c d)
@[simp] theorem pmcAdd_gn (sig c : Nat) (d : Dev) : (pmcAdd sig c d).gn = d.gn :=
  keepsRaise_gn (keepsRaise_pmcAdd sig c d)
@[simp] theorem pmcAdd_key (sig c : Nat) (d : Dev) : (pmcAdd sig c d).key = d.key :=
  keepsRaise_key (keepsRaise_pmcAdd sig c d)
@[simp] theorem pmcAdd_net (sig c : Nat) (d : Dev) : (pmcAdd sig c d).net = d.net :=
  keepsRaise_net (keepsRaise_pmcAdd sig c d)
@[simp] theorem pmcAdd_dsg (sig c : Nat) (d : Dev) : (pmcAdd sig c d).dsg = d.dsg :=
  keepsRaise_dsg (keepsRaise_pmcAdd sig c d)
@[simp] theorem pmcAdd_twn (sig c : Nat) (d : Dev) : (pmcAdd sig c d).twn = d.twn :=
  keepsRaise_twn (keepsRaise_pmcAdd sig c d)
@[simp] theorem pmcAdd_ctl (sig c : Nat) (d : Dev) : (pmcAdd sig c d).ctl = d.ctl :=
  keepsRaise_ctl (keepsRaise_pmcAdd sig c d)

/-- A store of flash bytes changes the flash and nothing else. -/
theorem setFlashBytes_only (a : Nat) (bs : List Byte) (d : Dev) : ∃ f, setFlashBytes a bs d = { d with flash := f } := by
  unfold setFlashBytes
  induction bs generalizing a d with
  | nil => exact ⟨d.flash, rfl⟩
  | cons b bs ih => obtain ⟨f, h⟩ := ih (a + 1) (setFlash a b d); exact ⟨f, h⟩

/-! What SRAM_PARITY_ACCESS does, by the place of the error (R40). -/

theorem parityAccess_rxPacket (c pc st : Nat) (p : Fin 4) (d : Dev) :
    parityAccess c (.rxPacket p) pc st d = doIf (domOn d .pkt) (rxPacketParity p.val) d := rfl

theorem parityAccess_txPacket (c pc st : Nat) (p : Fin 9) (i : Fin 2) (d : Dev) :
    parityAccess c (.txPacket p i) pc st d = doIf (domOn d .pkt) (txPacketParity p.val i.val) d := rfl

theorem parityAccess_config (c pc st : Nat) (a : BarAddr) (d : Dev) :
    parityAccess c (.config a) pc st d = configParity a.toNat d := rfl

theorem parityAccess_ephemerides (c pc st : Nat) (d : Dev) : parityAccess c .ephemerides pc st d = ephParity d := rfl

theorem parityAccess_history (c pc st : Nat) (i : Fin 4096) (d : Dev) :
    parityAccess c (.history i) pc st d = doIf (refOn d && domOn d .ctl) (histParity i.val) d := rfl

theorem parityAccess_sram (c pc st va : Nat) (acc : MemAcc) (user : Bool) (d : Dev) :
    parityAccess c (.sram va acc user) pc st d = doIf (domOn d .ctl && coreState d c == 2) (ctlParity c (.sram va acc user) pc st) d := rfl

theorem parityAccess_icache (c pc st : Nat) (d : Dev) :
    parityAccess c .icache pc st d = doIf (domOn d .ctl && coreState d c == 2) (ctlParity c .icache pc st) d := rfl

theorem parityAccess_dcache (c pc st : Nat) (d : Dev) :
    parityAccess c .dcache pc st d = doIf (domOn d .ctl && coreState d c == 2) (ctlParity c .dcache pc st) d := rfl

theorem parityAccess_tlb (c pc st i : Nat) (d : Dev) :
    parityAccess c (.tlb i) pc st d = doIf (domOn d .ctl && coreState d c == 2) (ctlParity c (.tlb i) pc st) d := rfl

theorem parityAccess_dmaTlb (c pc st i : Nat) (ch : Fin 16) (d : Dev) :
    parityAccess c (.dmaTlb ch i) pc st d = doIf (domOn d .ctl && coreState d c == 2) (ctlParity c (.dmaTlb ch i) pc st) d := rfl

end Sys2Proof.Laws
end

