-- ==== Sys2Proof/Laws/Step.lean ====
section
/-! SUPPORT. What a step can do, said once: a command answers a next state whose device is a function of the device alone, and
leaves the queue as it was. -/

namespace Sys2Proof.Laws

set_option Elab.async false

open Sys2Proof Sys2Proof.Machine

/-- Every command is an update of the device; none reads or writes the queue, none stops. -/
theorem exec_upd (i : Instr) : ∃ f : Dev → Dev, ∀ s : State, exec i s = s.upd f := by
  cases i with
  | registerWrite r a d =>
    change ∃ g, ∀ s0, execRegisterWrite r a d s0 = s0.upd g
    unfold execRegisterWrite; exact ⟨_, fun _ => rfl⟩
  | rcRead r a =>
    change ∃ g, ∀ s0, execRcRead r a s0 = s0.upd g
    unfold execRcRead; exact ⟨_, fun _ => rfl⟩
  | lowWordLatchRead r a =>
    change ∃ g, ∀ s0, execLowWordLatchRead r a s0 = s0.upd g
    unfold execLowWordLatchRead; exact ⟨_, fun _ => rfl⟩
  | highWordCommit r a d =>
    change ∃ g, ∀ s0, execHighWordCommit r a d s0 = s0.upd g
    unfold execHighWordCommit; exact ⟨_, fun _ => rfl⟩
  | vinRise =>
    change ∃ g, ∀ s0, execVinRise s0 = s0.upd g
    unfold execVinRise; exact ⟨_, fun _ => rfl⟩
  | vinFall =>
    change ∃ g, ∀ s0, execVinFall s0 = s0.upd g
    unfold execVinFall; exact ⟨_, fun _ => rfl⟩
  | vinWarn mv =>
    change ∃ g, ∀ s0, execVinWarn mv s0 = s0.upd g
    unfold execVinWarn pwrLive; exact ⟨_, fun _ => rfl⟩
  | resetNAssert =>
    change ∃ g, ∀ s0, execResetNAssert s0 = s0.upd g
    unfold execResetNAssert pwrLive; exact ⟨_, fun _ => rfl⟩
  | resetNRelease st =>
    change ∃ g, ∀ s0, execResetNRelease st s0 = s0.upd g
    unfold execResetNRelease pwrLive; exact ⟨_, fun _ => rfl⟩
  | bootSequence o =>
    change ∃ g, ∀ s0, execBootSequence o s0 = s0.upd g
    unfold execBootSequence pwrLive; exact ⟨_, fun _ => rfl⟩
  | ck32kSourceChange crystal =>
    change ∃ g, ∀ s0, execCk32kSourceChange crystal s0 = s0.upd g
    unfold execCk32kSourceChange pwrLive; exact ⟨_, fun _ => rfl⟩
  | railFault rail =>
    change ∃ g, ∀ s0, execRailFault rail s0 = s0.upd g
    unfold execRailFault pwrLive; exact ⟨_, fun _ => rfl⟩
  | pmbusPoll rs =>
    change ∃ g, ∀ s0, execPmbusPoll rs s0 = s0.upd g
    unfold execPmbusPoll pwrLive; exact ⟨_, fun _ => rfl⟩
  | stageAlert stage status =>
    change ∃ g, ∀ s0, execStageAlert stage status s0 = s0.upd g
    unfold execStageAlert pwrLive; exact ⟨_, fun _ => rfl⟩
  | avsStep margin move =>
    change ∃ g, ∀ s0, execAvsStep margin move s0 = s0.upd g
    unfold execAvsStep pwrLive; exact ⟨_, fun _ => rfl⟩
  | domainPowerUp d =>
    change ∃ g, ∀ s0, execDomainPowerUp d s0 = s0.upd g
    unfold execDomainPowerUp pwrLive; exact ⟨_, fun _ => rfl⟩
  | domainPowerDown d =>
    change ∃ g, ∀ s0, execDomainPowerDown d s0 = s0.upd g
    unfold execDomainPowerDown pwrLive; exact ⟨_, fun _ => rfl⟩
  | domainAckTimeout d =>
    change ∃ g, ∀ s0, execDomainAckTimeout d s0 = s0.upd g
    unfold execDomainAckTimeout pwrLive; exact ⟨_, fun _ => rfl⟩
  | pwrDomOffWrite r d =>
    change ∃ g, ∀ s0, execPwrDomOffWrite r d s0 = s0.upd g
    unfold execPwrDomOffWrite; exact ⟨_, fun _ => rfl⟩
  | reqServe r =>
    change ∃ g, ∀ s0, execReqServe r s0 = s0.upd g
    unfold execReqServe; exact ⟨_, fun _ => rfl⟩
  | reqStandby r =>
    change ∃ g, ∀ s0, execReqStandby r s0 = s0.upd g
    unfold execReqStandby; exact ⟨_, fun _ => rfl⟩
  | reqLowWater r =>
    change ∃ g, ∀ s0, execReqLowWater r s0 = s0.upd g
    unfold execReqLowWater; exact ⟨_, fun _ => rfl⟩
  | disciplineWake load lock =>
    change ∃ g, ∀ s0, execDisciplineWake load lock s0 = s0.upd g
    unfold execDisciplineWake pwrLive; exact ⟨_, fun _ => rfl⟩
  | gnssWake o =>
    change ∃ g, ∀ s0, execGnssWake o s0 = s0.upd g
    unfold execGnssWake pwrLive; exact ⟨_, fun _ => rfl⟩
  | disciplineMeasurement tau ok =>
    change ∃ g, ∀ s0, execDisciplineMeasurement tau ok s0 = s0.upd g
    unfold execDisciplineMeasurement pwrLive; exact ⟨_, fun _ => rfl⟩
  | wakeMaxExpiry =>
    change ∃ g, ∀ s0, execWakeMaxExpiry s0 = s0.upd g
    unfold execWakeMaxExpiry pwrLive; exact ⟨_, fun _ => rfl⟩
  | wakeSource src =>
    change ∃ g, ∀ s0, execWakeSource src s0 = s0.upd g
    unfold execWakeSource pwrLive; exact ⟨_, fun _ => rfl⟩
  | lwExitTargetDue =>
    change ∃ g, ∀ s0, execLwExitTargetDue s0 = s0.upd g
    unfold execLwExitTargetDue pwrLive; exact ⟨_, fun _ => rfl⟩
  | imgLoadHost r o =>
    change ∃ g, ∀ s0, execImgLoadHost r o s0 = s0.upd g
    unfold execImgLoadHost; exact ⟨_, fun _ => rfl⟩
  | imgReload r =>
    change ∃ g, ∀ s0, execImgReload r s0 = s0.upd g
    unfold execImgReload; exact ⟨_, fun _ => rfl⟩
  | reloadApply =>
    change ∃ g, ∀ s0, execReloadApply s0 = s0.upd g
    unfold execReloadApply; exact ⟨_, fun _ => rfl⟩
  | imgConfirm r =>
    change ∃ g, ∀ s0, execImgConfirm r s0 = s0.upd g
    unfold execImgConfirm; exact ⟨_, fun _ => rfl⟩
  | lkgTimeExpiry =>
    change ∃ g, ∀ s0, execLkgTimeExpiry s0 = s0.upd g
    unfold execLkgTimeExpiry; exact ⟨_, fun _ => rfl⟩
  | imgClearBad r slot =>
    change ∃ g, ∀ s0, execImgClearBad r slot s0 = s0.upd g
    unfold execImgClearBad; exact ⟨_, fun _ => rfl⟩
  | spiRead a n =>
    change ∃ g, ∀ s0, execSpiRead a n s0 = s0.upd g
    unfold execSpiRead; exact ⟨_, fun _ => rfl⟩
  | spiWrite a ws cut =>
    change ∃ g, ∀ s0, execSpiWrite a ws cut s0 = s0.upd g
    unfold execSpiWrite; exact ⟨_, fun _ => rfl⟩
  | spiQuadRead a n =>
    change ∃ g, ∀ s0, execSpiQuadRead a n s0 = s0.upd g
    unfold execSpiQuadRead; exact ⟨_, fun _ => rfl⟩
  | spiQuadWrite a ws cut =>
    change ∃ g, ∀ s0, execSpiQuadWrite a ws cut s0 = s0.upd g
    unfold execSpiQuadWrite; exact ⟨_, fun _ => rfl⟩
  | i2cWriteTransfer adr a ws cut =>
    change ∃ g, ∀ s0, execI2cWriteTransfer adr a ws cut s0 = s0.upd g
    unfold execI2cWriteTransfer; exact ⟨_, fun _ => rfl⟩
  | i2cReadTransfer adr a n =>
    change ∃ g, ∀ s0, execI2cReadTransfer adr a n s0 = s0.upd g
    unfold execI2cReadTransfer; exact ⟨_, fun _ => rfl⟩
  | pcieMemoryWrite f a ws =>
    change ∃ g, ∀ s0, execPcieMemoryWrite f a ws s0 = s0.upd g
    unfold execPcieMemoryWrite; exact ⟨_, fun _ => rfl⟩
  | pcieMemoryRead f a n =>
    change ∃ g, ∀ s0, execPcieMemoryRead f a n s0 = s0.upd g
    unfold execPcieMemoryRead; exact ⟨_, fun _ => rfl⟩
  | perstNAssert =>
    change ∃ g, ∀ s0, execPerstNAssert s0 = s0.upd g
    unfold execPerstNAssert; exact ⟨_, fun _ => rfl⟩
  | perstNRelease =>
    change ∃ g, ∀ s0, execPerstNRelease s0 = s0.upd g
    unfold execPerstNRelease; exact ⟨_, fun _ => rfl⟩
  | pcieLinkUp speed width =>
    change ∃ g, ∀ s0, execPcieLinkUp speed width s0 = s0.upd g
    unfold execPcieLinkUp; exact ⟨_, fun _ => rfl⟩
  | pcieLinkDown =>
    change ∃ g, ∀ s0, execPcieLinkDown s0 = s0.upd g
    unfold execPcieLinkDown; exact ⟨_, fun _ => rfl⟩
  | msixSend f =>
    change ∃ g, ∀ s0, execMsixSend f s0 = s0.upd g
    unfold execMsixSend; exact ⟨_, fun _ => rfl⟩
  | hifMgmtLock r d =>
    change ∃ g, ∀ s0, execHifMgmtLock r d s0 = s0.upd g
    unfold execHifMgmtLock; exact ⟨_, fun _ => rfl⟩
  | bulkSelWrite r c d =>
    change ∃ g, ∀ s0, execBulkSelWrite r c d s0 = s0.upd g
    unfold execBulkSelWrite; exact ⟨_, fun _ => rfl⟩
  | bulkDataRead r c =>
    change ∃ g, ∀ s0, execBulkDataRead r c s0 = s0.upd g
    unfold execBulkDataRead; exact ⟨_, fun _ => rfl⟩
  | bulkDataWrite r c d =>
    change ∃ g, ∀ s0, execBulkDataWrite r c d s0 = s0.upd g
    unfold execBulkDataWrite; exact ⟨_, fun _ => rfl⟩
  | bulkCursorWrite r c d =>
    change ∃ g, ∀ s0, execBulkCursorWrite r c d s0 = s0.upd g
    unfold execBulkCursorWrite; exact ⟨_, fun _ => rfl⟩
  | bulkFlush r c =>
    change ∃ g, ∀ s0, execBulkFlush r c s0 = s0.upd g
    unfold execBulkFlush; exact ⟨_, fun _ => rfl⟩
  | bulkErase r c =>
    change ∃ g, ∀ s0, execBulkErase r c s0 = s0.upd g
    unfold execBulkErase; exact ⟨_, fun _ => rfl⟩
  | bulkAbort r c =>
    change ∃ g, ∀ s0, execBulkAbort r c s0 = s0.upd g
    unfold execBulkAbort; exact ⟨_, fun _ => rfl⟩
  | bulkRelease r c =>
    change ∃ g, ∀ s0, execBulkRelease r c s0 = s0.upd g
    unfold execBulkRelease; exact ⟨_, fun _ => rfl⟩
  | flashPageProgramDone c readBack =>
    change ∃ g, ∀ s0, execFlashPageProgramDone c readBack s0 = s0.upd g
    unfold execFlashPageProgramDone; exact ⟨_, fun _ => rfl⟩
  | flashEraseDone c =>
    change ∃ g, ∀ s0, execFlashEraseDone c s0 = s0.upd g
    unfold execFlashEraseDone; exact ⟨_, fun _ => rfl⟩
  | epoch1us us =>
    change ∃ g, ∀ s0, execEpoch1us us s0 = s0.upd g
    unfold execEpoch1us; exact ⟨_, fun _ => rfl⟩
  | channelSelftestDone pass =>
    change ∃ g, ∀ s0, execChannelSelftestDone pass s0 = s0.upd g
    unfold execChannelSelftestDone; exact ⟨_, fun _ => rfl⟩
  | epoch1ms o =>
    change ∃ g, ∀ s0, execEpoch1ms o s0 = s0.upd g
    unfold execEpoch1ms; exact ⟨_, fun _ => rfl⟩
  | tbStep r =>
    change ∃ g, ∀ s0, execTbStep r s0 = s0.upd g
    unfold execTbStep; exact ⟨_, fun _ => rfl⟩
  | tbSet r =>
    change ∃ g, ∀ s0, execTbSet r s0 = s0.upd g
    unfold execTbSet; exact ⟨_, fun _ => rfl⟩
  | tbSlew r =>
    change ∃ g, ∀ s0, execTbSlew r s0 = s0.upd g
    unfold execTbSlew; exact ⟨_, fun _ => rfl⟩
  | tbCancel r =>
    change ∃ g, ∀ s0, execTbCancel r s0 = s0.upd g
    unfold execTbCancel; exact ⟨_, fun _ => rfl⟩
  | tbReadmit r ch =>
    change ∃ g, ∀ s0, execTbReadmit r ch s0 = s0.upd g
    unfold execTbReadmit; exact ⟨_, fun _ => rfl⟩
  | tbReadmitDone pass =>
    change ∃ g, ∀ s0, execTbReadmitDone pass s0 = s0.upd g
    unfold execTbReadmitDone; exact ⟨_, fun _ => rfl⟩
  | stepWaitExpiry =>
    change ∃ g, ∀ s0, execStepWaitExpiry s0 = s0.upd g
    unfold execStepWaitExpiry; exact ⟨_, fun _ => rfl⟩
  | slewComplete =>
    change ∃ g, ∀ s0, execSlewComplete s0 = s0.upd g
    unfold execSlewComplete; exact ⟨_, fun _ => rfl⟩
  | timeLatchRead r viaNear =>
    change ∃ g, ∀ s0, execTimeLatchRead r viaNear s0 = s0.upd g
    unfold execTimeLatchRead; exact ⟨_, fun _ => rfl⟩
  | tbAlarmFire n =>
    change ∃ g, ∀ s0, execTbAlarmFire n s0 = s0.upd g
    unfold execTbAlarmFire; exact ⟨_, fun _ => rfl⟩
  | leapEntrySubmit r hi =>
    change ∃ g, ∀ s0, execLeapEntrySubmit r hi s0 = s0.upd g
    unfold execLeapEntrySubmit; exact ⟨_, fun _ => rfl⟩
  | utcOffsetChange =>
    change ∃ g, ∀ s0, execUtcOffsetChange s0 = s0.upd g
    unfold execUtcOffsetChange; exact ⟨_, fun _ => rfl⟩
  | calendarLimit =>
    change ∃ g, ∀ s0, execCalendarLimit s0 = s0.upd g
    unfold execCalendarLimit; exact ⟨_, fun _ => rfl⟩
  | refinEdge pin falling =>
    change ∃ g, ∀ s0, execRefinEdge pin falling s0 = s0.upd g
    unfold execRefinEdge; exact ⟨_, fun _ => rfl⟩
  | holdoffExpiry pin =>
    change ∃ g, ∀ s0, execHoldoffExpiry pin s0 = s0.upd g
    unfold execHoldoffExpiry; exact ⟨_, fun _ => rfl⟩
  | channelCapture ch stop code =>
    change ∃ g, ∀ s0, execChannelCapture ch stop code s0 = s0.upd g
    unfold execChannelCapture; exact ⟨_, fun _ => rfl⟩
  | intervalTimeout ch =>
    change ∃ g, ∀ s0, execIntervalTimeout ch s0 = s0.upd g
    unfold execIntervalTimeout; exact ⟨_, fun _ => rfl⟩
  | schedulerGrant =>
    change ∃ g, ∀ s0, execSchedulerGrant s0 = s0.upd g
    unfold execSchedulerGrant; exact ⟨_, fun _ => rfl⟩
  | requestComplete q latch =>
    change ∃ g, ∀ s0, execRequestComplete q latch s0 = s0.upd g
    unfold execRequestComplete; exact ⟨_, fun _ => rfl⟩
  | requestDue q =>
    change ∃ g, ∀ s0, execRequestDue q s0 = s0.upd g
    unfold execRequestDue; exact ⟨_, fun _ => rfl⟩
  | requestAgeLimit q =>
    change ∃ g, ∀ s0, execRequestAgeLimit q s0 = s0.upd g
    unfold execRequestAgeLimit; exact ⟨_, fun _ => rfl⟩
  | measLoadSecond =>
    change ∃ g, ∀ s0, execMeasLoadSecond s0 = s0.upd g
    unfold execMeasLoadSecond; exact ⟨_, fun _ => rfl⟩
  | measCalInlFull r =>
    change ∃ g, ∀ s0, execMeasCalInlFull r s0 = s0.upd g
    unfold execMeasCalInlFull; exact ⟨_, fun _ => rfl⟩
  | measCalSkewAll r =>
    change ∃ g, ∀ s0, execMeasCalSkewAll r s0 = s0.upd g
    unfold execMeasCalSkewAll; exact ⟨_, fun _ => rfl⟩
  | inlRunTrigger temp =>
    change ∃ g, ∀ s0, execInlRunTrigger temp s0 = s0.upd g
    unfold execInlRunTrigger; exact ⟨_, fun _ => rfl⟩
  | inlRunComplete hits temp =>
    change ∃ g, ∀ s0, execInlRunComplete hits temp s0 = s0.upd g
    unfold execInlRunComplete; exact ⟨_, fun _ => rfl⟩
  | skewRunComplete ch sum =>
    change ∃ g, ∀ s0, execSkewRunComplete ch sum s0 = s0.upd g
    unfold execSkewRunComplete; exact ⟨_, fun _ => rfl⟩
  | measReserveWrite r p d =>
    change ∃ g, ∀ s0, execMeasReserveWrite r p d s0 = s0.upd g
    unfold execMeasReserveWrite; exact ⟨_, fun _ => rfl⟩
  | measPowerLoss =>
    change ∃ g, ∀ s0, execMeasPowerLoss s0 = s0.upd g
    unfold execMeasPowerLoss; exact ⟨_, fun _ => rfl⟩
  | refFeed r hi =>
    change ∃ g, ∀ s0, execRefFeed r hi s0 = s0.upd g
    unfold execRefFeed; exact ⟨_, fun _ => rfl⟩
  | slotSignalTimeout n =>
    change ∃ g, ∀ s0, execSlotSignalTimeout n s0 = s0.upd g
    unfold execSlotSignalTimeout; exact ⟨_, fun _ => rfl⟩
  | qualifyTimerExpiry n =>
    change ∃ g, ∀ s0, execQualifyTimerExpiry n s0 = s0.upd g
    unfold execQualifyTimerExpiry; exact ⟨_, fun _ => rfl⟩
  | suspectClearExpiry n =>
    change ∃ g, ∀ s0, execSuspectClearExpiry n s0 = s0.upd g
    unfold execSuspectClearExpiry; exact ⟨_, fun _ => rfl⟩
  | disagreeTimeExpiry a b =>
    change ∃ g, ∀ s0, execDisagreeTimeExpiry a b s0 = s0.upd g
    unfold execDisagreeTimeExpiry; exact ⟨_, fun _ => rfl⟩
  | lockTimeExpiry =>
    change ∃ g, ∀ s0, execLockTimeExpiry s0 = s0.upd g
    unfold execLockTimeExpiry; exact ⟨_, fun _ => rfl⟩
  | refSwitch r e =>
    change ∃ g, ∀ s0, execRefSwitch r e s0 = s0.upd g
    unfold execRefSwitch; exact ⟨_, fun _ => rfl⟩
  | refAuto r =>
    change ∃ g, ∀ s0, execRefAuto r s0 = s0.upd g
    unfold execRefAuto; exact ⟨_, fun _ => rfl⟩
  | refHold r =>
    change ∃ g, ∀ s0, execRefHold r s0 = s0.upd g
    unfold execRefHold; exact ⟨_, fun _ => rfl⟩
  | refRelease r =>
    change ∃ g, ∀ s0, execRefRelease r s0 = s0.upd g
    unfold execRefRelease; exact ⟨_, fun _ => rfl⟩
  | refTickSwitch r =>
    change ∃ g, ∀ s0, execRefTickSwitch r s0 = s0.upd g
    unfold execRefTickSwitch; exact ⟨_, fun _ => rfl⟩
  | historyEntry =>
    change ∃ g, ∀ s0, execHistoryEntry s0 = s0.upd g
    unfold execHistoryEntry; exact ⟨_, fun _ => rfl⟩
  | ensembleTermCommit r hi =>
    change ∃ g, ∀ s0, execEnsembleTermCommit r hi s0 = s0.upd g
    unfold execEnsembleTermCommit; exact ⟨_, fun _ => rfl⟩
  | ensembleTimeout =>
    change ∃ g, ∀ s0, execEnsembleTimeout s0 = s0.upd g
    unfold execEnsembleTimeout; exact ⟨_, fun _ => rfl⟩
  | servoBwWrite r d =>
    change ∃ g, ∀ s0, execServoBwWrite r d s0 = s0.upd g
    unfold execServoBwWrite; exact ⟨_, fun _ => rfl⟩
  | holdModelCommit r =>
    change ∃ g, ∀ s0, execHoldModelCommit r s0 = s0.upd g
    unfold execHoldModelCommit; exact ⟨_, fun _ => rfl⟩
  | synSweep r mask limits =>
    change ∃ g, ∀ s0, execSynSweep r mask limits s0 = s0.upd g
    unfold execSynSweep; exact ⟨_, fun _ => rfl⟩
  | synPllStart r p =>
    change ∃ g, ∀ s0, execSynPllStart r p s0 = s0.upd g
    unfold execSynPllStart; exact ⟨_, fun _ => rfl⟩
  | synPllStop r p =>
    change ∃ g, ∀ s0, execSynPllStop r p s0 = s0.upd g
    unfold execSynPllStop; exact ⟨_, fun _ => rfl⟩
  | synPllHop r p =>
    change ∃ g, ∀ s0, execSynPllHop r p s0 = s0.upd g
    unfold execSynPllHop; exact ⟨_, fun _ => rfl⟩
  | synPllFlush r p =>
    change ∃ g, ∀ s0, execSynPllFlush r p s0 = s0.upd g
    unfold execSynPllFlush; exact ⟨_, fun _ => rfl⟩
  | bandSearchComplete p codes =>
    change ∃ g, ∀ s0, execBandSearchComplete p codes s0 = s0.upd g
    unfold execBandSearchComplete; exact ⟨_, fun _ => rfl⟩
  | pllLock p =>
    change ∃ g, ∀ s0, execPllLock p s0 = s0.upd g
    unfold execPllLock; exact ⟨_, fun _ => rfl⟩
  | pllLockLoss p =>
    change ∃ g, ∀ s0, execPllLockLoss p s0 = s0.upd g
    unfold execPllLockLoss; exact ⟨_, fun _ => rfl⟩
  | pllReferenceLoss p =>
    change ∃ g, ∀ s0, execPllReferenceLoss p s0 = s0.upd g
    unfold execPllReferenceLoss; exact ⟨_, fun _ => rfl⟩
  | pllClockFallback pipeline =>
    change ∃ g, ∀ s0, execPllClockFallback pipeline s0 = s0.upd g
    unfold execPllClockFallback; exact ⟨_, fun _ => rfl⟩
  | pllClockReturn pipeline =>
    change ∃ g, ∀ s0, execPllClockReturn pipeline s0 = s0.upd g
    unfold execPllClockReturn; exact ⟨_, fun _ => rfl⟩
  | tickOutOfRange =>
    change ∃ g, ∀ s0, execTickOutOfRange s0 = s0.upd g
    unfold execTickOutOfRange; exact ⟨_, fun _ => rfl⟩
  | bandEntryParity p e =>
    change ∃ g, ∀ s0, execBandEntryParity p e s0 = s0.upd g
    unfold execBandEntryParity; exact ⟨_, fun _ => rfl⟩
  | synOutCfgWrite r o d =>
    change ∃ g, ∀ s0, execSynOutCfgWrite r o d s0 = s0.upd g
    unfold execSynOutCfgWrite; exact ⟨_, fun _ => rfl⟩
  | ppsPhaseCommit r q hi =>
    change ∃ g, ∀ s0, execPpsPhaseCommit r q hi s0 = s0.upd g
    unfold execPpsPhaseCommit; exact ⟨_, fun _ => rfl⟩
  | ppsEnableWrite r q d =>
    change ∃ g, ∀ s0, execPpsEnableWrite r q d s0 = s0.upd g
    unfold execPpsEnableWrite; exact ⟨_, fun _ => rfl⟩
  | ppsChangeApply q =>
    change ∃ g, ∀ s0, execPpsChangeApply q s0 = s0.upd g
    unfold execPpsChangeApply; exact ⟨_, fun _ => rfl⟩
  | calAgeExpiry o =>
    change ∃ g, ∀ s0, execCalAgeExpiry o s0 = s0.upd g
    unfold execCalAgeExpiry; exact ⟨_, fun _ => rfl⟩
  | outputRealignDone o =>
    change ∃ g, ∀ s0, execOutputRealignDone o s0 = s0.upd g
    unfold execOutputRealignDone; exact ⟨_, fun _ => rfl⟩
  | gnSnapCapture r =>
    change ∃ g, ∀ s0, execGnSnapCapture r s0 = s0.upd g
    unfold execGnSnapCapture; exact ⟨_, fun _ => rfl⟩
  | gnSnapCancel r =>
    change ∃ g, ∀ s0, execGnSnapCancel r s0 = s0.upd g
    unfold execGnSnapCancel; exact ⟨_, fun _ => rfl⟩
  | gnSnapFree r =>
    change ∃ g, ∀ s0, execGnSnapFree r s0 = s0.upd g
    unfold execGnSnapFree; exact ⟨_, fun _ => rfl⟩
  | captureTrigger =>
    change ∃ g, ∀ s0, execCaptureTrigger s0 = s0.upd g
    unfold execCaptureTrigger; exact ⟨_, fun _ => rfl⟩
  | captureComplete pins =>
    change ∃ g, ∀ s0, execCaptureComplete pins s0 = s0.upd g
    unfold execCaptureComplete; exact ⟨_, fun _ => rfl⟩
  | snapshotParity =>
    change ∃ g, ∀ s0, execSnapshotParity s0 = s0.upd g
    unfold execSnapshotParity; exact ⟨_, fun _ => rfl⟩
  | gnAcqStart r =>
    change ∃ g, ∀ s0, execGnAcqStart r s0 = s0.upd g
    unfold execGnAcqStart; exact ⟨_, fun _ => rfl⟩
  | gnAcqAbort r =>
    change ∃ g, ∀ s0, execGnAcqAbort r s0 = s0.upd g
    unfold execGnAcqAbort; exact ⟨_, fun _ => rfl⟩
  | acqJobComplete j =>
    change ∃ g, ∀ s0, execAcqJobComplete j s0 = s0.upd g
    unfold execAcqJobComplete; exact ⟨_, fun _ => rfl⟩
  | gnChStart r c =>
    change ∃ g, ∀ s0, execGnChStart r c s0 = s0.upd g
    unfold execGnChStart; exact ⟨_, fun _ => rfl⟩
  | gnChStop r c =>
    change ∃ g, ∀ s0, execGnChStop r c s0 = s0.upd g
    unfold execGnChStop; exact ⟨_, fun _ => rfl⟩
  | channelStartIndex c =>
    change ∃ g, ∀ s0, execChannelStartIndex c s0 = s0.upd g
    unfold execChannelStartIndex; exact ⟨_, fun _ => rfl⟩
  | ncoCommit r c k v =>
    change ∃ g, ∀ s0, execNcoCommit r c k v s0 = s0.upd g
    unfold execNcoCommit; exact ⟨_, fun _ => rfl⟩
  | dumpClose c pins =>
    change ∃ g, ∀ s0, execDumpClose c pins s0 = s0.upd g
    unfold execDumpClose; exact ⟨_, fun _ => rfl⟩
  | measurementEpoch idx =>
    change ∃ g, ∀ s0, execMeasurementEpoch idx s0 = s0.upd g
    unfold execMeasurementEpoch; exact ⟨_, fun _ => rfl⟩
  | epochLatchTimeout n =>
    change ∃ g, ∀ s0, execEpochLatchTimeout n s0 = s0.upd g
    unfold execEpochLatchTimeout; exact ⟨_, fun _ => rfl⟩
  | epochRecordsWrite =>
    change ∃ g, ∀ s0, execEpochRecordsWrite s0 = s0.upd g
    unfold execEpochRecordsWrite; exact ⟨_, fun _ => rfl⟩
  | gnFeedCommit r hi =>
    change ∃ g, ∀ s0, execGnFeedCommit r hi s0 = s0.upd g
    unfold execGnFeedCommit; exact ⟨_, fun _ => rfl⟩
  | verdictChange r d =>
    change ∃ g, ∀ s0, execVerdictChange r d s0 = s0.upd g
    unfold execVerdictChange; exact ⟨_, fun _ => rfl⟩
  | portLatCal r p =>
    change ∃ g, ∀ s0, execPortLatCal r p s0 = s0.upd g
    unfold execPortLatCal; exact ⟨_, fun _ => rfl⟩
  | portRestart r p sp =>
    change ∃ g, ∀ s0, execPortRestart r p sp s0 = s0.upd g
    unfold execPortRestart; exact ⟨_, fun _ => rfl⟩
  | portReadmit r p =>
    change ∃ g, ∀ s0, execPortReadmit r p s0 = s0.upd g
    unfold execPortReadmit; exact ⟨_, fun _ => rfl⟩
  | latencyCalComplete p rs =>
    change ∃ g, ∀ s0, execLatencyCalComplete p rs s0 = s0.upd g
    unfold execLatencyCalComplete; exact ⟨_, fun _ => rfl⟩
  | linkUp p sp an =>
    change ∃ g, ∀ s0, execLinkUp p sp an s0 = s0.upd g
    unfold execLinkUp; exact ⟨_, fun _ => rfl⟩
  | linkDown p sp =>
    change ∃ g, ∀ s0, execLinkDown p sp s0 = s0.upd g
    unfold execLinkDown; exact ⟨_, fun _ => rfl⟩
  | rxFrame p sp o =>
    change ∃ g, ∀ s0, execRxFrame p sp o s0 = s0.upd g
    unfold execRxFrame; exact ⟨_, fun _ => rfl⟩
  | txFrame p sp o =>
    change ∃ g, ∀ s0, execTxFrame p sp o s0 = s0.upd g
    unfold execTxFrame; exact ⟨_, fun _ => rfl⟩
  | dsgModeWrite r d =>
    change ∃ g, ∀ s0, execDsgModeWrite r d s0 = s0.upd g
    unfold execDsgModeWrite; exact ⟨_, fun _ => rfl⟩
  | dsgBeaconStart =>
    change ∃ g, ∀ s0, execDsgBeaconStart s0 = s0.upd g
    unfold execDsgBeaconStart; exact ⟨_, fun _ => rfl⟩
  | dsgBeaconReceived code cyc =>
    change ∃ g, ∀ s0, execDsgBeaconReceived code cyc s0 = s0.upd g
    unfold execDsgBeaconReceived; exact ⟨_, fun _ => rfl⟩
  | dsgTransmitOpportunity k =>
    change ∃ g, ∀ s0, execDsgTransmitOpportunity k s0 = s0.upd g
    unfold execDsgTransmitOpportunity; exact ⟨_, fun _ => rfl⟩
  | plcaFallbackTimeout =>
    change ∃ g, ∀ s0, execPlcaFallbackTimeout s0 = s0.upd g
    unfold execPlcaFallbackTimeout; exact ⟨_, fun _ => rfl⟩
  | csmaSilence =>
    change ∃ g, ∀ s0, execCsmaSilence s0 = s0.upd g
    unfold execCsmaSilence; exact ⟨_, fun _ => rfl⟩
  | dsgClockSourceChange =>
    change ∃ g, ∀ s0, execDsgClockSourceChange s0 = s0.upd g
    unfold execDsgClockSourceChange; exact ⟨_, fun _ => rfl⟩
  | dsgRealignDone =>
    change ∃ g, ∀ s0, execDsgRealignDone s0 = s0.upd g
    unfold execDsgRealignDone; exact ⟨_, fun _ => rfl⟩
  | dsgRxFrame o =>
    change ∃ g, ∀ s0, execDsgRxFrame o s0 = s0.upd g
    unfold execDsgRxFrame; exact ⟨_, fun _ => rfl⟩
  | dsgEchoCalPeriod =>
    change ∃ g, ∀ s0, execDsgEchoCalPeriod s0 = s0.upd g
    unfold execDsgEchoCalPeriod; exact ⟨_, fun _ => rfl⟩
  | dsgQueueEntry r hi =>
    change ∃ g, ∀ s0, execDsgQueueEntry r hi s0 = s0.upd g
    unfold execDsgQueueEntry; exact ⟨_, fun _ => rfl⟩
  | dsgEntryDue e delay collisions parity echo =>
    change ∃ g, ∀ s0, execDsgEntryDue e delay collisions parity echo s0 = s0.upd g
    unfold execDsgEntryDue; exact ⟨_, fun _ => rfl⟩
  | dsgLateDrop e =>
    change ∃ g, ∀ s0, execDsgLateDrop e s0 = s0.upd g
    unfold execDsgLateDrop; exact ⟨_, fun _ => rfl⟩
  | dsgQStatusRead r =>
    change ∃ g, ∀ s0, execDsgQStatusRead r s0 = s0.upd g
    unfold execDsgQStatusRead; exact ⟨_, fun _ => rfl⟩
  | dsgLwTemplateSend k delay =>
    change ∃ g, ∀ s0, execDsgLwTemplateSend k delay s0 = s0.upd g
    unfold execDsgLwTemplateSend; exact ⟨_, fun _ => rfl⟩
  | dsgPdelayResponse delay =>
    change ∃ g, ∀ s0, execDsgPdelayResponse delay s0 = s0.upd g
    unfold execDsgPdelayResponse; exact ⟨_, fun _ => rfl⟩
  | pipelineOperation p o =>
    change ∃ g, ∀ s0, execPipelineOperation p o s0 = s0.upd g
    unfold execPipelineOperation; exact ⟨_, fun _ => rfl⟩
  | cryptoCreditTimeout p =>
    change ∃ g, ∀ s0, execCryptoCreditTimeout p s0 = s0.upd g
    unfold execCryptoCreditTimeout; exact ⟨_, fun _ => rfl⟩
  | wheelSlotStart =>
    change ∃ g, ∀ s0, execWheelSlotStart s0 = s0.upd g
    unfold execWheelSlotStart; exact ⟨_, fun _ => rfl⟩
  | sessionSweep =>
    change ∃ g, ∀ s0, execSessionSweep s0 = s0.upd g
    unfold execSessionSweep; exact ⟨_, fun _ => rfl⟩
  | weirSweep bad =>
    change ∃ g, ∀ s0, execWeirSweep bad s0 = s0.upd g
    unfold execWeirSweep; exact ⟨_, fun _ => rfl⟩
  | sessionParity idx addrOk =>
    change ∃ g, ∀ s0, execSessionParity idx addrOk s0 = s0.upd g
    unfold execSessionParity; exact ⟨_, fun _ => rfl⟩
  | timedLaunch p sp =>
    change ∃ g, ∀ s0, execTimedLaunch p sp s0 = s0.upd g
    unfold execTimedLaunch; exact ⟨_, fun _ => rfl⟩
  | hostTransmitRecord =>
    change ∃ g, ∀ s0, execHostTransmitRecord s0 = s0.upd g
    unfold execHostTransmitRecord; exact ⟨_, fun _ => rfl⟩
  | nontimingResponse =>
    change ∃ g, ∀ s0, execNontimingResponse s0 = s0.upd g
    unfold execNontimingResponse; exact ⟨_, fun _ => rfl⟩
  | esmcSend p sp =>
    change ∃ g, ∀ s0, execEsmcSend p sp s0 = s0.upd g
    unfold execEsmcSend; exact ⟨_, fun _ => rfl⟩
  | leapIndicatorChange =>
    change ∃ g, ∀ s0, execLeapIndicatorChange s0 = s0.upd g
    unfold execLeapIndicatorChange; exact ⟨_, fun _ => rfl⟩
  | servingChange =>
    change ∃ g, ∀ s0, execServingChange s0 = s0.upd g
    unfold execServingChange; exact ⟨_, fun _ => rfl⟩
  | keyDelivery c =>
    change ∃ g, ∀ s0, execKeyDelivery c s0 = s0.upd g
    unfold execKeyDelivery keyLive; exact ⟨_, fun _ => rfl⟩
  | keyDeliveryDiscard c =>
    change ∃ g, ∀ s0, execKeyDeliveryDiscard c s0 = s0.upd g
    unfold execKeyDeliveryDiscard keyLive; exact ⟨_, fun _ => rfl⟩
  | keyClose r =>
    change ∃ g, ∀ s0, execKeyClose r s0 = s0.upd g
    unfold execKeyClose; exact ⟨_, fun _ => rfl⟩
  | keyZeroize r =>
    change ∃ g, ∀ s0, execKeyZeroize r s0 = s0.upd g
    unfold execKeyZeroize; exact ⟨_, fun _ => rfl⟩
  | keyErase r kind slot =>
    change ∃ g, ∀ s0, execKeyErase r kind slot s0 = s0.upd g
    unfold execKeyErase; exact ⟨_, fun _ => rfl⟩
  | keyClearOpened r =>
    change ∃ g, ∀ s0, execKeyClearOpened r s0 = s0.upd g
    unfold execKeyClearOpened; exact ⟨_, fun _ => rfl⟩
  | presenceAssert =>
    change ∃ g, ∀ s0, execPresenceAssert s0 = s0.upd g
    unfold execPresenceAssert pwrLive; exact ⟨_, fun _ => rfl⟩
  | presenceWindowExpiry =>
    change ∃ g, ∀ s0, execPresenceWindowExpiry s0 = s0.upd g
    unfold execPresenceWindowExpiry keyLive; exact ⟨_, fun _ => rfl⟩
  | sealOpen =>
    change ∃ g, ∀ s0, execSealOpen s0 = s0.upd g
    unfold execSealOpen pwrLive; exact ⟨_, fun _ => rfl⟩
  | sealIntact =>
    change ∃ g, ∀ s0, execSealIntact s0 = s0.upd g
    unfold execSealIntact keyLive; exact ⟨_, fun _ => rfl⟩
  | zeroizationComplete =>
    change ∃ g, ∀ s0, execZeroizationComplete s0 = s0.upd g
    unfold execZeroizationComplete keyLive; exact ⟨_, fun _ => rfl⟩
  | keyActivationEvaluation =>
    change ∃ g, ∀ s0, execKeyActivationEvaluation s0 = s0.upd g
    unfold execKeyActivationEvaluation keyLive; exact ⟨_, fun _ => rfl⟩
  | keySlotParity kind slot =>
    change ∃ g, ∀ s0, execKeySlotParity kind slot s0 = s0.upd g
    unfold execKeySlotParity keyLive; exact ⟨_, fun _ => rfl⟩
  | programHash r slot =>
    change ∃ g, ∀ s0, execProgramHash r slot s0 = s0.upd g
    unfold execProgramHash; exact ⟨_, fun _ => rfl⟩
  | revokeHash r slot =>
    change ∃ g, ∀ s0, execRevokeHash r slot s0 = s0.upd g
    unfold execRevokeHash; exact ⟨_, fun _ => rfl⟩
  | programKek r =>
    change ∃ g, ∀ s0, execProgramKek r s0 = s0.upd g
    unfold execProgramKek; exact ⟨_, fun _ => rfl⟩
  | revokeKek r =>
    change ∃ g, ∀ s0, execRevokeKek r s0 = s0.upd g
    unfold execRevokeKek; exact ⟨_, fun _ => rfl⟩
  | disableDebug r =>
    change ∃ g, ∀ s0, execDisableDebug r s0 = s0.upd g
    unfold execDisableDebug; exact ⟨_, fun _ => rfl⟩
  | fuseCommandComplete got mark =>
    change ∃ g, ∀ s0, execFuseCommandComplete got mark s0 = s0.upd g
    unfold execFuseCommandComplete keyLive; exact ⟨_, fun _ => rfl⟩
  | debugUnlock r =>
    change ∃ g, ∀ s0, execDebugUnlock r s0 = s0.upd g
    unfold execDebugUnlock; exact ⟨_, fun _ => rfl⟩
  | engineSelftest failed =>
    change ∃ g, ∀ s0, execEngineSelftest failed s0 = s0.upd g
    unfold execEngineSelftest keyLive; exact ⟨_, fun _ => rfl⟩
  | engineReadmit r e pass =>
    change ∃ g, ∀ s0, execEngineReadmit r e pass s0 = s0.upd g
    unfold execEngineReadmit; exact ⟨_, fun _ => rfl⟩
  | rngReseed r =>
    change ∃ g, ∀ s0, execRngReseed r s0 = s0.upd g
    unfold execRngReseed; exact ⟨_, fun _ => rfl⟩
  | rngHealthFailure =>
    change ∃ g, ∀ s0, execRngHealthFailure s0 = s0.upd g
    unfold execRngHealthFailure keyLive; exact ⟨_, fun _ => rfl⟩
  | millraceLinkTraining r =>
    change ∃ g, ∀ s0, execMillraceLinkTraining r s0 = s0.upd g
    unfold execMillraceLinkTraining; exact ⟨_, fun _ => rfl⟩
  | helloReceived h crcOk =>
    change ∃ g, ∀ s0, execHelloReceived h crcOk s0 = s0.upd g
    unfold execHelloReceived; exact ⟨_, fun _ => rfl⟩
  | millraceLinkLoss crc =>
    change ∃ g, ∀ s0, execMillraceLinkLoss crc s0 = s0.upd g
    unfold execMillraceLinkLoss; exact ⟨_, fun _ => rfl⟩
  | claimRoundEnd present claim =>
    change ∃ g, ∀ s0, execClaimRoundEnd present claim s0 = s0.upd g
    unfold execClaimRoundEnd; exact ⟨_, fun _ => rfl⟩
  | claimStageChange o =>
    change ∃ g, ∀ s0, execClaimStageChange o s0 = s0.upd g
    unfold execClaimStageChange; exact ⟨_, fun _ => rfl⟩
  | claimBusFault =>
    change ∃ g, ∀ s0, execClaimBusFault s0 = s0.upd g
    unfold execClaimBusFault; exact ⟨_, fun _ => rfl⟩
  | partnerLossExpiry =>
    change ∃ g, ∀ s0, execPartnerLossExpiry s0 = s0.upd g
    unfold execPartnerLossExpiry; exact ⟨_, fun _ => rfl⟩
  | twnYield r =>
    change ∃ g, ∀ s0, execTwnYield r s0 = s0.upd g
    unfold execTwnYield; exact ⟨_, fun _ => rfl⟩
  | twnUnyield r =>
    change ∃ g, ∀ s0, execTwnUnyield r s0 = s0.upd g
    unfold execTwnUnyield; exact ⟨_, fun _ => rfl⟩
  | twnResync r =>
    change ∃ g, ∀ s0, execTwnResync r s0 = s0.upd g
    unfold execTwnResync; exact ⟨_, fun _ => rfl⟩
  | twnRetrain r =>
    change ∃ g, ∀ s0, execTwnRetrain r s0 = s0.upd g
    unfold execTwnRetrain; exact ⟨_, fun _ => rfl⟩
  | twnAsymWrite r d =>
    change ∃ g, ∀ s0, execTwnAsymWrite r d s0 = s0.upd g
    unfold execTwnAsymWrite; exact ⟨_, fun _ => rfl⟩
  | alignmentFrame a crcOk =>
    change ∃ g, ∀ s0, execAlignmentFrame a crcOk s0 = s0.upd g
    unfold execAlignmentFrame; exact ⟨_, fun _ => rfl⟩
  | journalRecord n x crcOk =>
    change ∃ g, ∀ s0, execJournalRecord n x crcOk s0 = s0.upd g
    unfold execJournalRecord; exact ⟨_, fun _ => rfl⟩
  | mirrorCommitReceived c crcOk =>
    change ∃ g, ∀ s0, execMirrorCommitReceived c crcOk s0 = s0.upd g
    unfold execMirrorCommitReceived; exact ⟨_, fun _ => rfl⟩
  | mirrorAcknowledge n crcOk =>
    change ∃ g, ∀ s0, execMirrorAcknowledge n crcOk s0 = s0.upd g
    unfold execMirrorAcknowledge; exact ⟨_, fun _ => rfl⟩
  | requestAgain a crcOk =>
    change ∃ g, ∀ s0, execRequestAgain a crcOk s0 = s0.upd g
    unfold execRequestAgain; exact ⟨_, fun _ => rfl⟩
  | retentionExceeded =>
    change ∃ g, ∀ s0, execRetentionExceeded s0 = s0.upd g
    unfold execRetentionExceeded; exact ⟨_, fun _ => rfl⟩
  | sweepRecord x crcOk =>
    change ∃ g, ∀ s0, execSweepRecord x crcOk s0 = s0.upd g
    unfold execSweepRecord; exact ⟨_, fun _ => rfl⟩
  | healthFrameSend =>
    change ∃ g, ∀ s0, execHealthFrameSend s0 = s0.upd g
    unfold execHealthFrameSend; exact ⟨_, fun _ => rfl⟩
  | healthFrameReceived h crcOk =>
    change ∃ g, ∀ s0, execHealthFrameReceived h crcOk s0 = s0.upd g
    unfold execHealthFrameReceived; exact ⟨_, fun _ => rfl⟩
  | healthStale =>
    change ∃ g, ∀ s0, execHealthStale s0 = s0.upd g
    unfold execHealthStale; exact ⟨_, fun _ => rfl⟩
  | huntTest pass =>
    change ∃ g, ∀ s0, execHuntTest pass s0 = s0.upd g
    unfold execHuntTest; exact ⟨_, fun _ => rfl⟩
  | coreStart r c =>
    change ∃ g, ∀ s0, execCoreStart r c s0 = s0.upd g
    unfold execCoreStart; exact ⟨_, fun _ => rfl⟩
  | coreHalt r c =>
    change ∃ g, ∀ s0, execCoreHalt r c s0 = s0.upd g
    unfold execCoreHalt; exact ⟨_, fun _ => rfl⟩
  | coreReadmit r c =>
    change ∃ g, ∀ s0, execCoreReadmit r c s0 = s0.upd g
    unfold execCoreReadmit; exact ⟨_, fun _ => rfl⟩
  | sleepInstruction c =>
    change ∃ g, ∀ s0, execSleepInstruction c s0 = s0.upd g
    unfold execSleepInstruction; exact ⟨_, fun _ => rfl⟩
  | coreException c x =>
    change ∃ g, ∀ s0, execCoreException c x s0 = s0.upd g
    unfold execCoreException; exact ⟨_, fun _ => rfl⟩
  | watchdogKick src c d =>
    change ∃ g, ∀ s0, execWatchdogKick src c d s0 = s0.upd g
    unfold execWatchdogKick; exact ⟨_, fun _ => rfl⟩
  | watchdogExpiry c =>
    change ∃ g, ∀ s0, execWatchdogExpiry c s0 = s0.upd g
    unfold execWatchdogExpiry; exact ⟨_, fun _ => rfl⟩
  | coreTimerFire c =>
    change ∃ g, ∀ s0, execCoreTimerFire c s0 = s0.upd g
    unfold execCoreTimerFire; exact ⟨_, fun _ => rfl⟩
  | lockstepEnableWrite r d =>
    change ∃ g, ∀ s0, execLockstepEnableWrite r d s0 = s0.upd g
    unfold execLockstepEnableWrite; exact ⟨_, fun _ => rfl⟩
  | lockstepMismatch pass2 pass3 =>
    change ∃ g, ∀ s0, execLockstepMismatch pass2 pass3 s0 = s0.upd g
    unfold execLockstepMismatch; exact ⟨_, fun _ => rfl⟩
  | tlbInvalidate r d =>
    change ∃ g, ∀ s0, execTlbInvalidate r d s0 = s0.upd g
    unfold execTlbInvalidate; exact ⟨_, fun _ => rfl⟩
  | pageReload r =>
    change ∃ g, ∀ s0, execPageReload r s0 = s0.upd g
    unfold execPageReload; exact ⟨_, fun _ => rfl⟩
  | sramParityAccess c site pc status =>
    change ∃ g, ∀ s0, execSramParityAccess c site pc status s0 = s0.upd g
    unfold execSramParityAccess; exact ⟨_, fun _ => rfl⟩
  | dmaHeadWrite r ch d =>
    change ∃ g, ∀ s0, execDmaHeadWrite r ch d s0 = s0.upd g
    unfold execDmaHeadWrite; exact ⟨_, fun _ => rfl⟩
  | dmaBeat jobOk =>
    change ∃ g, ∀ s0, execDmaBeat jobOk s0 = s0.upd g
    unfold execDmaBeat; exact ⟨_, fun _ => rfl⟩
  | descriptorRetire ch =>
    change ∃ g, ∀ s0, execDescriptorRetire ch s0 = s0.upd g
    unfold execDescriptorRetire; exact ⟨_, fun _ => rfl⟩
  | dmaPark ch cause side va =>
    change ∃ g, ∀ s0, execDmaPark ch cause side va s0 = s0.upd g
    unfold execDmaPark; exact ⟨_, fun _ => rfl⟩
  | dmaResume r ch =>
    change ∃ g, ∀ s0, execDmaResume r ch s0 = s0.upd g
    unfold execDmaResume; exact ⟨_, fun _ => rfl⟩
  | dmaPause r ch =>
    change ∃ g, ∀ s0, execDmaPause r ch s0 = s0.upd g
    unfold execDmaPause; exact ⟨_, fun _ => rfl⟩
  | dmaSkip r ch =>
    change ∃ g, ∀ s0, execDmaSkip r ch s0 = s0.upd g
    unfold execDmaSkip; exact ⟨_, fun _ => rfl⟩
  | dmaAbort r ch =>
    change ∃ g, ∀ s0, execDmaAbort r ch s0 = s0.upd g
    unfold execDmaAbort; exact ⟨_, fun _ => rfl⟩
  | eventRaise src code param =>
    change ∃ g, ∀ s0, execEventRaise src code param s0 = s0.upd g
    unfold execEventRaise; exact ⟨_, fun _ => rfl⟩
  | recordDelivery t =>
    change ∃ g, ∀ s0, execRecordDelivery t s0 = s0.upd g
    unfold execRecordDelivery; exact ⟨_, fun _ => rfl⟩
  | evqTgtRdWrite r t d =>
    change ∃ g, ∀ s0, execEvqTgtRdWrite r t d s0 = s0.upd g
    unfold execEvqTgtRdWrite; exact ⟨_, fun _ => rfl⟩
  | evqRecordRead r t =>
    change ∃ g, ∀ s0, execEvqRecordRead r t s0 = s0.upd g
    unfold execEvqRecordRead; exact ⟨_, fun _ => rfl⟩
  | moderationExpiry t =>
    change ∃ g, ∀ s0, execModerationExpiry t s0 = s0.upd g
    unfold execModerationExpiry; exact ⟨_, fun _ => rfl⟩
  | evqRetargetWrite r d =>
    change ∃ g, ∀ s0, execEvqRetargetWrite r d s0 = s0.upd g
    unfold execEvqRetargetWrite; exact ⟨_, fun _ => rfl⟩
  | evqSrcTgtWrite r v d =>
    change ∃ g, ∀ s0, execEvqSrcTgtWrite r v d s0 = s0.upd g
    unfold execEvqSrcTgtWrite; exact ⟨_, fun _ => rfl⟩
  | retargetTimeout c =>
    change ∃ g, ∀ s0, execRetargetTimeout c s0 = s0.upd g
    unfold execRetargetTimeout; exact ⟨_, fun _ => rfl⟩
  | evqHoldWrite r d =>
    change ∃ g, ∀ s0, execEvqHoldWrite r d s0 = s0.upd g
    unfold execEvqHoldWrite; exact ⟨_, fun _ => rfl⟩
  | evqRecordParity t pos =>
    change ∃ g, ∀ s0, execEvqRecordParity t pos s0 = s0.upd g
    unfold execEvqRecordParity; exact ⟨_, fun _ => rfl⟩
  | unitReport p =>
    change ∃ g, ∀ s0, execUnitReport p s0 = s0.upd g
    unfold execUnitReport; exact ⟨_, fun _ => rfl⟩
  | railFaultDetect u high =>
    change ∃ g, ∀ s0, execRailFaultDetect u high s0 = s0.upd g
    unfold execRailFaultDetect; exact ⟨_, fun _ => rfl⟩
  | unitPoll u o =>
    change ∃ g, ∀ s0, execUnitPoll u o s0 = s0.upd g
    unfold execUnitPoll; exact ⟨_, fun _ => rfl⟩
  | selftestStart fi =>
    change ∃ g, ∀ s0, execSelftestStart fi s0 = s0.upd g
    unfold execSelftestStart; exact ⟨_, fun _ => rfl⟩
  | selftestComplete fi o =>
    change ∃ g, ∀ s0, execSelftestComplete fi o s0 = s0.upd g
    unfold execSelftestComplete; exact ⟨_, fun _ => rfl⟩
  | handlingNoTestExpiry fi =>
    change ∃ g, ∀ s0, execHandlingNoTestExpiry fi s0 = s0.upd g
    unfold execHandlingNoTestExpiry; exact ⟨_, fun _ => rfl⟩
  | fatalDecision u cause collector =>
    change ∃ g, ∀ s0, execFatalDecision u cause collector s0 = s0.upd g
    unfold execFatalDecision; exact ⟨_, fun _ => rfl⟩
  | fltReadmit r u =>
    change ∃ g, ∀ s0, execFltReadmit r u s0 = s0.upd g
    unfold execFltReadmit; exact ⟨_, fun _ => rfl⟩
  | readmitTestComplete u pass =>
    change ∃ g, ∀ s0, execReadmitTestComplete u pass s0 = s0.upd g
    unfold execReadmitTestComplete; exact ⟨_, fun _ => rfl⟩
  | fltLatchRead r u =>
    change ∃ g, ∀ s0, execFltLatchRead r u s0 = s0.upd g
    unfold execFltLatchRead; exact ⟨_, fun _ => rfl⟩
  | fltRailRead r high idle =>
    change ∃ g, ∀ s0, execFltRailRead r high idle s0 = s0.upd g
    unfold execFltRailRead; exact ⟨_, fun _ => rfl⟩
  | fltInjectGo r =>
    change ∃ g, ∀ s0, execFltInjectGo r s0 = s0.upd g
    unfold execFltInjectGo; exact ⟨_, fun _ => rfl⟩
  | fltInjectStop r =>
    change ∃ g, ∀ s0, execFltInjectStop r s0 = s0.upd g
    unfold execFltInjectStop; exact ⟨_, fun _ => rfl⟩
  | injectedReport =>
    change ∃ g, ∀ s0, execInjectedReport s0 = s0.upd g
    unfold execInjectedReport; exact ⟨_, fun _ => rfl⟩
  | recorderWrite =>
    change ∃ g, ∀ s0, execRecorderWrite s0 = s0.upd g
    unfold execRecorderWrite; exact ⟨_, fun _ => rfl⟩
  | recorderWeirSweep =>
    change ∃ g, ∀ s0, execRecorderWeirSweep s0 = s0.upd g
    unfold execRecorderWeirSweep; exact ⟨_, fun _ => rfl⟩
  | logRec0Read r =>
    change ∃ g, ∀ s0, execLogRec0Read r s0 = s0.upd g
    unfold execLogRec0Read; exact ⟨_, fun _ => rfl⟩
  | logRec7Read r =>
    change ∃ g, ∀ s0, execLogRec7Read r s0 = s0.upd g
    unfold execLogRec7Read; exact ⟨_, fun _ => rfl⟩
  | logCurWrite r d =>
    change ∃ g, ∀ s0, execLogCurWrite r d s0 = s0.upd g
    unfold execLogCurWrite; exact ⟨_, fun _ => rfl⟩
  | stateBlockPeriod ok =>
    change ∃ g, ∀ s0, execStateBlockPeriod ok s0 = s0.upd g
    unfold execStateBlockPeriod; exact ⟨_, fun _ => rfl⟩
  | stateNow r ok =>
    change ∃ g, ∀ s0, execStateNow r ok s0 = s0.upd g
    unfold execStateNow; exact ⟨_, fun _ => rfl⟩
  | archiveFlush r ok =>
    change ∃ g, ∀ s0, execArchiveFlush r ok s0 = s0.upd g
    unfold execArchiveFlush; exact ⟨_, fun _ => rfl⟩
  | forcedStateBlock ok =>
    change ∃ g, ∀ s0, execForcedStateBlock ok s0 = s0.upd g
    unfold execForcedStateBlock; exact ⟨_, fun _ => rfl⟩
  | recorderPageProgram ok =>
    change ∃ g, ∀ s0, execRecorderPageProgram ok s0 = s0.upd g
    unfold execRecorderPageProgram; exact ⟨_, fun _ => rfl⟩
  | archiveSectorErase ok =>
    change ∃ g, ∀ s0, execArchiveSectorErase ok s0 = s0.upd g
    unfold execArchiveSectorErase; exact ⟨_, fun _ => rfl⟩
  | thermalSample temp osc =>
    change ∃ g, ∀ s0, execThermalSample temp osc s0 = s0.upd g
    unfold execThermalSample; exact ⟨_, fun _ => rfl⟩
  | pmcSnap r =>
    change ∃ g, ∀ s0, execPmcSnap r s0 = s0.upd g
    unfold execPmcSnap; exact ⟨_, fun _ => rfl⟩
  | ledgerCopy l =>
    change ∃ g, ∀ s0, execLedgerCopy l s0 = s0.upd g
    unfold execLedgerCopy; exact ⟨_, fun _ => rfl⟩
  | pmcGenCfgWrite r n d =>
    change ∃ g, ∀ s0, execPmcGenCfgWrite r n d s0 = s0.upd g
    unfold execPmcGenCfgWrite; exact ⟨_, fun _ => rfl⟩
  | pmcPrivWrite r user a d =>
    change ∃ g, ∀ s0, execPmcPrivWrite r user a d s0 = s0.upd g
    unfold execPmcPrivWrite; exact ⟨_, fun _ => rfl⟩
  | counterWrap n inc =>
    change ∃ g, ∀ s0, execCounterWrap n inc s0 = s0.upd g
    unfold execCounterWrap; exact ⟨_, fun _ => rfl⟩
  | esmcTimeout n =>
    change ∃ g, ∀ s0, execEsmcTimeout n s0 = s0.upd g
    unfold execEsmcTimeout; exact ⟨_, fun _ => rfl⟩
  | slotResultTimeout n =>
    change ∃ g, ∀ s0, execSlotResultTimeout n s0 = s0.upd g
    unfold execSlotResultTimeout; exact ⟨_, fun _ => rfl⟩
  | pllReferenceReturn p =>
    change ∃ g, ∀ s0, execPllReferenceReturn p s0 = s0.upd g
    unfold execPllReferenceReturn; exact ⟨_, fun _ => rfl⟩
  | dsgSignalLoss =>
    change ∃ g, ∀ s0, execDsgSignalLoss s0 = s0.upd g
    unfold execDsgSignalLoss; exact ⟨_, fun _ => rfl⟩
  | pcieConfigWrite f w =>
    change ∃ g, ∀ s0, execPcieConfigWrite f w s0 = s0.upd g
    unfold execPcieConfigWrite; exact ⟨_, fun _ => rfl⟩
  | railFaultRetry good =>
    change ∃ g, ∀ s0, execRailFaultRetry good s0 = s0.upd g
    unfold execRailFaultRetry pwrLive; exact ⟨_, fun _ => rfl⟩

/-- A step at a state with a command in front answers a next state with the rest of the queue. -/
theorem step_cons {s : State} {i : Instr} {rest : List Instr} (h : s.pending = i :: rest) :
    ∃ d, step s = .next { toDev := d, pending := rest } := by
  obtain ⟨f, hf⟩ := exec_upd i
  exact ⟨f s.toDev, by simp [step, h, hf]⟩

end Sys2Proof.Laws
end

