-- ==== Sys2Proof/Tests/Slice0.lean ====
section
/-! SUPPORT. Tests of the model: terms that the well-formedness check refuses, small facts from the spec's own figures, and for every
statement with hypotheses a concrete state and operands that meet them. -/

namespace Sys2Proof.Tests

set_option Elab.async false

open Sys2Proof Sys2Proof.Machine

/-- A device with the registers of a list written over its reset values. -/
def devOf (l : List (Nat × Word)) : Dev := l.foldl (fun d p => wr p.1 p.2 d) Dev.reset

/-- Every domain on, the device state Serve. -/
def serveRegs : List (Nat × Word) := [(PWR_DOM_STATUS, 0x3FFF#32), (PWR_STATUS, putBits (resetOf PWR_STATUS) 0 3 4)]

/-- Every domain on, the device state Standby. -/
def standbyRegs : List (Nat × Word) := [(PWR_DOM_STATUS, 0x3FFF#32), (PWR_STATUS, putBits (resetOf PWR_STATUS) 0 3 3)]

/-- A state of a powered device in Serve with the registers of a list written. -/
def serve (l : List (Nat × Word)) : State := { toDev := devOf (serveRegs ++ l), pending := [] }

/-- A state of a powered device in Standby with the registers of a list written. -/
def standby (l : List (Nat × Word)) : State := { toDev := devOf (standbyRegs ++ l), pending := [] }

/-- Serve with TB seeded. -/
def tbRegs : List (Nat × Word) := serveRegs ++ [(TB_STATUS, putBits (putBits 0#32 TB_STATUS_seeded.lo 1 1) TB_STATUS_step_policy.lo 2 2)]

/-- `d` with the low-power counter, and with it the time of a TB that is not seeded, at `t`. -/
def atTime (t : Nat) (d : Dev) : Dev := { d with lpc := { d.lpc with val := t * 2 ^ 16 } }

/-- A state of a device in Off. -/
def offState : State := { toDev := offDev Dev.reset, pending := [] }


/-! ### Ill-formed commands, one for each check of the well-formedness -/

theorem test_wf_unaligned_write : (Instr.registerWrite .fw 0x000002 0#32).wf = false := by decide +kernel
theorem test_wf_unmapped_write : (Instr.registerWrite .fw 0x3FFFFFC 0#32).wf = false := by decide +kernel
theorem test_wf_register_write : (Instr.registerWrite .fw 0x000004 0#32).wf = true := by decide +kernel
theorem test_wf_read_without_rc : (Instr.rcRead .fw 0x000004).wf = false := by decide +kernel
theorem test_wf_low_latch_of_high_word : (Instr.lowWordLatchRead .fw (BitVec.ofNat _ (PMC_GEN_LO 0 + 4))).wf = false := by decide +kernel
theorem test_wf_high_commit_of_low_word : (Instr.highWordCommit .fw (BitVec.ofNat _ (PMC_GEN_LO 0)) 0#32).wf = false := by decide +kernel

/-- What a Boot meets, with `n` reads of images and `k` hash keys. -/
def bootObs (n k : Nat) : BootObs :=
  { readErrs := List.replicate n false, sysHz := 10000000, sysLock := true, tickLock := true, seed := 0
    pages := [], hashKeys := some (List.replicate k 0) }

theorem test_wf_boot_reads : (Instr.bootSequence (bootObs 5 4)).wf = false := by decide +kernel
theorem test_wf_boot_hash_keys : (Instr.imgLoadHost .fw (bootObs 6 3)).wf = false := by decide +kernel
theorem test_wf_boot : (Instr.bootSequence (bootObs 6 4)).wf = true := by decide +kernel
theorem test_wf_seven_stages : (Instr.pmbusPoll (List.replicate 7 { vout := 0, iout := 0, temp := 0, status := 0 })).wf = false := by decide +kernel
theorem test_wf_spi_read_nothing : (Instr.spiRead 0 0).wf = false ∧ (Instr.spiQuadRead 2 1).wf = false := by decide +kernel
theorem test_wf_spi_write_unaligned : (Instr.spiWrite 1 [] false).wf = false ∧ (Instr.spiQuadWrite 3 [] false).wf = false := by decide +kernel
theorem test_wf_i2c_unaligned : (Instr.i2cWriteTransfer 0 2 [] false).wf = false ∧ (Instr.i2cReadTransfer 0 0 0).wf = false := by decide +kernel
theorem test_wf_pcie_write_empty : (Instr.pcieMemoryWrite .pf0 0 []).wf = false := by decide +kernel
theorem test_wf_pcie_read_length : (Instr.pcieMemoryRead .pf0 0 1025).wf = false ∧ (Instr.pcieMemoryRead .pf0 0 1024).wf = true := by
  decide +kernel
theorem test_wf_page_read_back : (Instr.flashPageProgramDone 0 (List.replicate 255 0)).wf = false := by decide +kernel
theorem test_wf_sweep_limits : (Instr.synSweep .fw 1 (List.replicate 4 (List.replicate 127 (0, 0)))).wf = false := by decide +kernel
theorem test_wf_inl_hits : (Instr.inlRunComplete (List.replicate 257 0) 0).wf = false := by decide +kernel
theorem test_wf_link_width : (Instr.pcieLinkUp 1 3).wf = false ∧ (Instr.pcieLinkUp 0 1).wf = false := by decide +kernel
theorem test_wf_priv_address : (Instr.pmcPrivWrite .fw false 0x060100 0#32).wf = false := by decide +kernel
theorem test_wf_park_cause : (Instr.dmaPark 0 0 false 0).wf = false ∧ (Instr.dmaPark 0 11 false 0).wf = false := by decide +kernel
theorem test_wf_disagree_with_itself : (Instr.disagreeTimeExpiry 3 3).wf = false := by decide +kernel
theorem test_wf_fuse_words : (Instr.fuseCommandComplete (List.replicate 9 0) false).wf = false := by decide +kernel

/-! ### Small facts from the spec's own figures -/

/-- No row gives bits, so no word spells a command, and a placed word leaves the state alone. -/
theorem test_no_word_decodes (nbits w : Nat) (s : State) : decodeTableWord nbits w = none ∧ s.withFetchWord nbits w = s := ⟨rfl, rfl⟩

/-- R14: code 0x012 of TB is 0x2012, and its source lies in block 0x08. -/
theorem test_event_code_block : evSrc 0x2012 0 / 128 = 0x08 ∧ (0x08 <<< 10) ||| 0x012 = 0x2012 := by decide +kernel

/-- The CRC-32C of the nine digits, the check value of its polynomial. -/
theorem test_crc32c : crc32c [0x31, 0x32, 0x33, 0x34, 0x35, 0x36, 0x37, 0x38, 0x39] = 0xE3069283 := by decide +kernel

/-- R112's example: with the entry of 0x5868_46A5 (37 s) in the table and 36 s in force, TAI second 1,483,228,836 is 2016-12-31 23:59:60. -/
theorem test_leap_second_label :
    let d := devOf [(bank LOG_LEAP_LO 0, 0x586846A5#32), (bank LOG_LEAP_HI 0, 0x00250000#32), (TB_UTC_OFFSET, 36#32)]
    utcWords d 1483228836 = (2016 + 12 * 2 ^ 16 + 31 * 2 ^ 20, 23 + 59 * 2 ^ 5 + 60 * 2 ^ 11) := by decide +kernel
/-! ### StepRunsFrontCommand -/

/-- A queue with one command. -/
theorem wit_StepRunsFrontCommand : ({ State.reset with pending := [.vinFall] } : State).pending = .vinFall :: [] := by decide

/-! ### EmptyQueueClockPeriod -/

/-- A powered device with TB seeded, one without, one in a wake, and one without a crystal. -/
theorem wit_EmptyQueueClockPeriod :
    offState.pending = [] ∧ offState.pwr.powered = false ∧
    ((serve [(TB_STATUS, 0xFFFFFFFF#32)]).pwr.powered && domOn (serve [(TB_STATUS, 0xFFFFFFFF#32)]).toDev .tb &&
      flag (serve [(TB_STATUS, 0xFFFFFFFF#32)]).toDev TB_STATUS_seeded) = true ∧
    (State.reset.pwr.powered && !(domOn State.reset.toDev .tb && flag State.reset.toDev TB_STATUS_seeded) &&
      !(State.reset.pwr.wakeTick)) = true ∧
    ({ State.reset with pwr := { pwrReset with wakeTick := true } } : State).pwr.wakeTick = true ∧
    flag (devOf [(PWR_STATUS, 0#32)]) PWR_STATUS_ck_rc = false ∧
    flag (devOf [(PWR_STATUS, 0xFFFFFFFF#32)]) PWR_STATUS_ck_rc = true := by decide +kernel

/-! ### OffIgnoresEveryCommandButVinRise -/

/-- A device in Off, a command other than VIN_RISE, and a queue of two such commands. -/
theorem wit_OffIgnoresEveryCommandButVinRise : offState.toDev.isOff = true ∧ Instr.epoch1us [] ≠ .vinRise ∧
    ({ offState with pending := [.vinFall, .epoch1us []] } : State).toDev.isOff = true ∧
    Instr.vinRise ∉ ({ offState with pending := [.vinFall, .epoch1us []] } : State).pending := by
  refine ⟨by decide +kernel, ?_, by decide +kernel, ?_⟩ <;> intro h
  · cases h
  · simp at h

/-! ### SupplyCommandsMoveBetweenOffAndBoot -/

/-- A powered device and one in Off. -/
theorem wit_SupplyCommandsMoveBetweenOffAndBoot : State.reset.pwr.powered = true ∧ offState.pwr.powered = false := by
  decide +kernel

/-! ### UnreachedRequesterChangesNothing -/

/-- PF0 with the link down. -/
theorem wit_UnreachedRequesterChangesNothing :
    cmdReq (.tbStep .pf0) = some .pf0 ∧ reaches (serve []).toDev .pf0 = false := by decide +kernel

/-! ### ObserverWriteIsRefused -/

/-- SPI without full rights writes PWR_REQ, a register of an off domain, and another requester's channel. -/
theorem wit_ObserverWriteIsRefused : cmdWrite (.reqServe .spi) = some (.spi, PWR_REQ) ∧
    reaches (serve [(HIF_MGMT_CTL, 0#32)]).toDev .spi = true ∧ fullRights (serve [(HIF_MGMT_CTL, 0#32)]).toDev .spi = false ∧
    obsMayWrite (serve [(HIF_MGMT_CTL, 0#32)]).toDev .spi PWR_REQ = false ∧ regOn (serve []).toDev PWR_REQ = true ∧
    regOn (devOf [(PWR_DOM_STATUS, 1#32)]) TB_CMD = false ∧
    (othersChan (serve [(HIF_BULK_SEL 0, putBits 0#32 (HIF_BULK_SEL_owner 0).lo (HIF_BULK_SEL_owner 0).wd 5)]).toDev .spi (HIF_BULK_CMD 0)).isSome = true := by
  decide +kernel

/-! ### OffDomainWriteIsDiscarded -/

/-- Firmware writes SYN_CMD with both SYN domains off; a requester whose event was raised at time 0. -/
theorem wit_OffDomainWriteIsDiscarded : cmdWrite (.synSweep .fw 0 []) = some (.fw, SYN_CMD) ∧
    reaches (devOf [(PWR_DOM_STATUS, 3#32)]) .fw = true ∧ fullRights (devOf [(PWR_DOM_STATUS, 3#32)]) .fw = true ∧
    regOn (devOf [(PWR_DOM_STATUS, 3#32)]) SYN_CMD = false ∧
    (let d : Dev := { Dev.reset with hif := { hifReset with offAt := [(5, some 0)] } }
     cget (fun _ => none) d.hif.offAt (reqCode .fw) = some 0 ∧ 0 ≤ now16 d ∧ now16 d < 0 + ms16) := by decide +kernel

/-! ### ObserverEvqRightsAreItsOwnTarget -/

/-- PF1 may write its own EVQ_TGT_RD; EVQ_HOLD is refused to it. -/
theorem wit_ObserverEvqRightsAreItsOwnTarget : obsMayWrite Dev.reset .pf1 (EVQ_TGT_RD 1) = true ∧
    obsMayWrite Dev.reset .pf1 (EVQ_TGT_RD 0) = false ∧ obsMayWrite Dev.reset .pf1 EVQ_HOLD = false ∧
    reaches (serve [(HIF_STATUS, 0x3F#32)]).toDev .pf1 = true := by decide +kernel

/-! ### AccessCodesActBitwise -/

/-- One row with a bit of each kind. -/
theorem wit_AccessCodesActBitwise :
    let row : RegRow := ⟨0, 1, 4, 1, 4, .aon, .por, 0, 1, 4, 8, 0, 2, 0, 0⟩
    (row.rw.testBit 0 && !row.w1c.testBit 0 && !row.w1s.testBit 0 && row.rwp.testBit 1 && !row.rw.testBit 1 && !row.w1c.testBit 1 &&
      !row.w1s.testBit 1 && row.w1s.testBit 3 && !row.rw.testBit 3 && !row.rwp.testBit 3 && !row.w1c.testBit 3 && row.w1c.testBit 2 &&
      !row.rw.testBit 2 && !row.rwp.testBit 2 && !row.w1s.testBit 2 && !row.rw.testBit 4 && !row.rwp.testBit 4 && !row.w1c.testBit 4 &&
      !row.w1s.testBit 4) = true := by decide

/-! ### RegisterAccessesComplete -/

/-- Each clause with a register of its kind, and a latch held by firmware. -/
theorem wit_RegisterAccessesComplete :
    (granted (serve []).toDev .fw BND_RECOVER && decide ((rowOf BND_RECOVER).map (fun r => (r.wide, r.sel, r.rwp)) = some (0, 0, 0)) &&
      readable (serve []).toDev .fw HIF_OBS_DROP && readable (serve []).toDev .fw BND_HOLD_T_LO &&
      highLatched (latchHigh .fw (BND_HOLD_T_LO + 4) 7#32 (serve []).toDev) (BND_HOLD_T_LO + 4) .fw &&
      granted (serve []).toDev .fw TB_STEP_HI && granted (serve []).toDev .fw TB_SLEW_AMT_HI &&
      granted (serve []).toDev .fw (TB_ALARM_TGT_HI 7) && granted (serve []).toDev .fw (TB_ALARM_PER_HI 0)) = true := by
  decide +kernel

/-! ### SupplySensorsComplete -/

/-- A powered device for every clause: VIN below and above its limit, both clock sources, Boot with PD_CTL off, a stage with a valid
address, and the adaptive loop enabled. -/
theorem wit_SupplySensorsComplete :
    (State.reset.pwr.powered && decide (4000 < fld Dev.reset PWR_VIN_WARN_mV) && !(flag Dev.reset PWR_STATUS_vin_warn) &&
      !(decide (12000 < fld Dev.reset PWR_VIN_WARN_mV)) && decide (2 ≤ railNum .sds) && decide (railNum .core < 2) &&
      decide (devState Dev.reset = 1) && !(domOn Dev.reset .ctl) && domOn (devOf (serveRegs ++ [(PWR_AVS, 0xFFFFFFFF#32)])) .ctl &&
      flag (devOf (serveRegs ++ [(PWR_AVS, 0xFFFFFFFF#32)])) PWR_AVS_en) = true ∧
    (∀ j, j < 6 → flag (forEach [0, 1, 2, 3, 5] (fun i => setF (PWR_STG_ADDR_valid i) 0)
      { Dev.reset with pwr := { pwrReset with stagesOff := true } }) (PWR_STG_ADDR_valid j) = decide (j = 4)) := by decide +kernel

/-- Both clock sources occur, and a core rail out and not out. -/
theorem wit_SupplySensorsComplete_clock : flag (devOf [(PWR_RAIL_STAT 0, 0xFFFFFFFF#32)]) (PWR_RAIL_STAT_fault 0) = true ∧
    pwrReset.railAt ≤ now16 (devOf [(PWR_RAIL_STAT 0, 0xFFFFFFFF#32)]) ∧
    flag (devOf [(PWR_RAIL_STAT 0, 0#32)]) (PWR_RAIL_STAT_fault 0) = false ∧ flag (devOf [(PWR_STATUS, 0#32)]) PWR_STATUS_ck_rc = false ∧
    flag (devOf [(PWR_STATUS, 0xFFFFFFFF#32)]) PWR_STATUS_ck_rc = true := by decide +kernel

/-! ### ResetAndDomainCommandsComplete -/

/-- Boot with PD_CTL off, a domain called for and off, and one that is not called for and on. -/
theorem wit_ResetAndDomainCommandsComplete :
    (State.reset.pwr.powered && decide (devState Dev.reset = 1) && !(State.reset.pwr.resetLow) && !(domOn Dev.reset .ctl) &&
      !(flag Dev.reset (PWR_RAIL_STAT_fault 0)) && !(flag Dev.reset (PWR_RAIL_STAT_fault 1)) &&
      domWanted (devOf [(PWR_DOM_STATUS, 1#32), (PWR_STATUS, putBits (resetOf PWR_STATUS) 0 3 3)]) (domNum .ctl) &&
      !(domOn (devOf [(PWR_DOM_STATUS, 1#32), (PWR_STATUS, putBits (resetOf PWR_STATUS) 0 3 3)]) .ctl) &&
      decide (devState (serve []).toDev ≠ 1) && !(domWanted (serve []).toDev (domNum .sya)) && domOn (serve []).toDev .sya) = true := by
  decide +kernel

/-! ### StateRequestsComplete -/

/-- Standby and Serve without a transition, a set from flash, and an empty list of domains. -/
theorem wit_StateRequestsComplete :
    (granted (serve []).toDev .fw PWR_DOM_OFF && running (serve []).toDev && granted (serve []).toDev .fw PWR_REQ &&
      decide ((serve []).pwr.trans = .none) && decide (devState (serve []).toDev = 4) && granted (standby []).toDev .fw PWR_REQ &&
      decide ((standby []).pwr.trans = .none) && decide (devState (standby []).toDev = 3) &&
      decide (fld (devOf (standbyRegs ++ [(IMG_STATUS, 0#32)])) IMG_STATUS_source ≠ 2)) = true ∧
    (∀ n, n < 14 → bitAt (0#32) n = true → canHold (serve []).toDev n = true) := by decide +kernel

/-! ### LowWaterCommandsComplete -/

/-- Low water: Dormant with PWR_LW_DISC set and its time come, an armed exit target that is due, a wake in progress (over its limit), and a
device on its way in. -/
def lowRegs : List (Nat × Word) := [(PWR_STATUS, 0xFFFFFFBA#32), (PWR_LW_DISC, 0xFFFFFFFF#32), (PWR_LW_CTL, 0#32)]

theorem wit_LowWaterCommandsComplete :
    let d := devOf lowRegs
    (d.pwr.powered && wakeEnabled d 0 && decide (devState d = 2) && decide (fld d PWR_STATUS_lw ≠ 0) && !(d.pwr.wakeDisc) &&
      !(d.pwr.wakeGnss) && (wakesDue d).1 && !(flag d PWR_STATUS_lw_wake) && decide (d.pwr.trans ≠ .toLow) &&
      due (rd64 d PWR_LW_EXIT_LO) (near d)) = true ∧ d.pwr.refreshTo = none ∧
    flag (devOf (lowRegs ++ [(PWR_STATUS, 0xFFFFFFFA#32)])) PWR_STATUS_lw_wake = true ∧
    ({ d with pwr := { pwrReset with exitArmed := true, wakeDisc := true, trans := .toLow, refreshTo := some 0 } } : Dev).pwr.wakeDisc = true := by
  decide +kernel

/-- A wake over its limit, at a published time after it. -/
theorem wit_LowWaterCommandsComplete_cut :
    let d : Dev := { devOf (lowRegs ++ [(PWR_STATUS, 0xFFFFFFFA#32)]) with lpc := { Dev.reset.lpc with val := 2 ^ 80 } }
    (decide (devState d = 2) && flag d PWR_STATUS_lw_wake && decide (d.pwr.wakeAt + fld d PWR_LW_CTL_wake_max * sec16 < now16 d)) = true := by
  decide +kernel

/-! ### ImageCommandsComplete -/

/-- Boot with PD_CTL on and nothing running; Standby with a set that runs from flash and a reload that waits. -/
def imgState : State := { toDev := { devOf (standbyRegs ++ [(IMG_STATUS, 0#32)]) with img := { imgReset with run := [[1#8]] } }, pending := [] }

theorem wit_ImageCommandsComplete :
    (granted (devOf [(PWR_DOM_STATUS, 3#32)]) .fw IMG_CMD && decide (devState (devOf [(PWR_DOM_STATUS, 3#32)]) = 1) &&
      (devOf [(PWR_DOM_STATUS, 3#32)]).img.run.isEmpty && granted imgState.toDev .fw IMG_CMD && running imgState.toDev &&
      imgState.img.reload.isNone && !(imgState.img.run.isEmpty) && confirmable imgState.toDev && imgState.pwr.powered &&
      imgState.flt.fatal.isEmpty && elapsed (now16 imgState.toDev + 1) (Nat.max 1 (fld imgState.toDev IMG_LKG_TIME_seconds) * sec16) imgState.toDev) = true ∧
    ({ imgState.img with reload := some [1#8], reloadReady := true } : Img).reload = some [1#8] := by decide +kernel

/-! ### SerialInterfacesComplete -/

/-- A powered device whose PCIe link is up, and byte enables that are not whole. -/
theorem wit_SerialInterfacesComplete :
    ((serve []).pwr.powered && reaches (devOf (serveRegs ++ [(HIF_STATUS, putBits 0#32 HIF_STATUS_link_up.lo 1 1)])) .pf0 &&
      (burstWrite .spi [] 0#32 (serve []).toDev).pwr.powered && decide ((0x7#4 : BitVec 4) ≠ 0xF#4)) = true := by decide +kernel

/-! ### PcieEndpointCommandsComplete -/

/-- PERST_N high and low, the link down and up, a function that holds a message and may send it. -/
def pcieState : Dev := { devOf (serveRegs ++ [(HIF_STATUS, putBits 0#32 HIF_STATUS_link_up.lo 1 1)]) with
  hif := { hifReset with f0 := { pcieReset with pba := true, bme := true, msixEn := true, vmask := false, fmask := false } } }

theorem wit_PcieEndpointCommandsComplete :
    ((serve []).pwr.powered && !(flag (serve [(HIF_STATUS, 0#32)]).toDev HIF_STATUS_perst) && domOn (serve []).toDev .ctl &&
      flag (devOf (serveRegs ++ [(HIF_STATUS, 0xFFFFFFFF#32)])) HIF_STATUS_perst && !(flag (serve []).toDev HIF_STATUS_link_up) &&
      !(unitOut (serve []).toDev 0x3E) && flag pcieState HIF_STATUS_link_up && (pcieFn pcieState 0).pba && fnMaySend pcieState 0 &&
      reaches pcieState .pf0 && granted pcieState .pf0 HIF_MGMT_CTL) = true := by decide +kernel

/-! ### BulkWindowCommandsComplete -/

/-- A free channel; a flash channel of firmware with a page under way, a program and an erase that run; a staging and a snapshot
channel that firmware owns. -/
def bulkDev (sel : Nat) (ops : List FlashOp) (page : Cells (Option Byte)) : Dev :=
  { devOf (serveRegs ++ [(HIF_BULK_SEL 2, BitVec.ofNat 32 sel), (HIF_BULK_LIMIT 2, 0x1000#32), (GN_STATUS, 0x3000#32)]) with
    hif := { hifReset with flashOps := ops, pageBuf := page } }

theorem wit_BulkWindowCommandsComplete :
    (granted (serve []).toDev .fw (HIF_BULK_SEL 2) && decide (bulkOwner (serve []).toDev 2 = 0) && bitAt 0x21#32 5 &&
      readable (bulkDev 0x522 [] []) .fw (HIF_BULK_DATA 2) && decide (bulkOwner (bulkDev 0x522 [] []) 2 = 5) &&
      !(claimRefused (bulkDev 0x522 [] []) 2) && decide (bulkCursor (bulkDev 0x522 [] []) 2 < bulkEnd (bulkDev 0x522 [] []) 2) &&
      decide (bulkAvail (bulkDev 0x522 [] []) 2 ≠ 0) && decide (bulkTarget (bulkDev 0x522 [] []) 2 = 2) &&
      decide (bulkTarget (bulkDev 0x524 [] []) 2 = 4) && decide (bulkAvail (bulkDev 0x524 [] []) 2 ≠ 0) &&
      granted (bulkDev 0x531 [] []) .fw (HIF_BULK_DATA 2) && flag (bulkDev 0x531 [] []) (HIF_BULK_SEL_dir 2) &&
      decide (bulkCursor (bulkDev 0x531 [] []) 2 < bulkEnd (bulkDev 0x531 [] []) 2) && decide (bulkSpace (bulkDev 0x531 [] []) 2 ≠ 0) &&
      decide (bulkTarget (bulkDev 0x531 [] []) 2 = 1) && granted (bulkDev 0x531 [] []) .fw (HIF_BULK_CURSOR 2) &&
      granted (bulkDev 0x532 [] []) .fw (HIF_BULK_CMD 2) && decide (pagesOf (bulkDev 0x532 [] [(2 * 2 ^ 32 + 4, some 7#8)]) 2 = [0]) && flag (bulkDev 0x532 [] []) (HIF_BULK_SEL_dir 2) &&
      !(inArchive (bulkCursor (bulkDev 0x532 [] []) 2)) && decide (firstPage (bulkDev 0x532 [] []) 2 = none) &&
      decide ((bulkDev 0x532 [⟨2, 0, [some 0#8], false⟩] []).hif.flashOps.find? (fun o => o.chan == 2) = some ⟨2, 0, [some 0#8], false⟩) &&
      decide ((bulkDev 0x532 [⟨2, 0, [], true⟩] []).hif.flashOps.find? (fun o => o.chan == 2) = some ⟨2, 0, [], true⟩) &&
      decide ((List.replicate 256 0#8).length = 256)) = true := by decide +kernel

/-- The flash of that device is larger than the cursor. -/
theorem wit_BulkWindowCommandsComplete_size :
    bulkCursor { bulkDev 0x532 [] [] with hif := { hifReset with flashSize := 0x2000000 } } 2 <
      bulkSize { bulkDev 0x532 [] [] with hif := { hifReset with flashSize := 0x2000000 } } 2 := by decide +kernel

/-! ### GroupOfFiveTicksIsExact -/

/-- A channel at the start of a group, with F = 0 and a time of whole units. -/
theorem wit_GroupOfFiveTicksIsExact : chanReset.k = 0 ∧ chanReset.t = 0 * 2 ^ 38 ∧ chanF chanReset = 0 ∧ 4 < 5 := by decide

/-! ### EpochCommandsComplete -/

/-- Channels of which one differs. -/
def oddTb (a b c : Nat) : Dev :=
  { devOf tbRegs with tb := { tbReset with ch0 := { chanReset with epochs := a }, ch1 := { chanReset with epochs := b },
                                           ch2 := { chanReset with epochs := c } } }

theorem wit_EpochCommandsComplete :
    (domOn (devOf tbRegs) .tb && flag (devOf tbRegs) TB_STATUS_seeded && (devOf tbRegs).pwr.powered &&
      decide ((devOf tbRegs).tb.nextUs ≤ now16 (devOf tbRegs)) && decide ((devOf tbRegs).tb.nextMs ≤ now16 (devOf tbRegs))) = true ∧
    inService (oddTb 0 0 0) = [0, 1, 2] ∧ vecDiff (oddTb 0 0 0).tb.ch0 (oddTb 0 0 0).tb.ch1 = none ∧
    vecDiff (oddTb 0 0 0).tb.ch0 (oddTb 0 0 0).tb.ch2 = none ∧ vecDiff (oddTb 0 0 1).tb.ch0 (oddTb 0 0 1).tb.ch2 = some 5 ∧
    vecDiff (oddTb 0 1 0).tb.ch0 (oddTb 0 1 0).tb.ch1 = some 5 ∧ vecDiff (oddTb 1 0 0).tb.ch1 (oddTb 1 0 0).tb.ch2 = none ∧
    vecDiff (oddTb 0 1 2).tb.ch1 (oddTb 0 1 2).tb.ch2 = some 5 := by decide +kernel

/-! ### TimeAdjustmentCommandsComplete -/

/-- A step that may be armed; a set in Standby; something pending; a fenced channel; a readmission and a repair under way; the end of a
slew. -/
def stepDev : Dev := devOf (tbRegs ++ [(TB_STEP_HI, 1#32), (TB_STEP_THRESH, 0#32)])

def pendDev : Dev := devOf (tbRegs ++ [(TB_STATUS, 0xFFFFFFFF#32), (TB_STEP_WAIT, 1#32)])

theorem wit_TimeAdjustmentCommandsComplete :
    (granted stepDev .fw TB_CMD && !(stepPending stepDev) && policyPermits stepDev &&
      decide (rdN stepDev TB_STEP_THRESH * 65536 < (rdS64 stepDev TB_STEP_LO).natAbs) &&
      granted (standby []).toDev .fw TB_CMD && !(stepPending (standby []).toDev) && decide (devState (standby []).toDev = 3) &&
      decide (rdN (standby []).toDev TB_SET_NS ≤ 999999999) && granted pendDev .fw TB_CMD && stepPending pendDev &&
      !(slewExists stepDev) && slewExists { stepDev with tb := { tbReset with slewAdd := some 1 } } && chanFenced pendDev 2 &&
      pendDev.tb.readmit.isNone && pendDev.pwr.powered && (funit { pendDev with flt := { fltReset with units :=
        [(1, { (funit Dev.reset 1) with byBlock := true })] } } 1).byBlock &&
      decide (cget (fun _ => 0) pendDev.tb.reps 1 ≤ fld pendDev TB_VOTE_CTL_repair_limit) && flag pendDev TB_STATUS_slew_active) = true ∧
    ({ tbReset with slewEnding := true, odd := some 1, readmit := some 1 } : Tb).odd = some 1 := by decide +kernel

/-- The wait of a step is over: the signed difference is not positive. -/
theorem wit_TimeAdjustmentCommandsComplete_wait : due (0 + 1 * 1000000 * 65536) (1000000 * 65536) = true := by decide

/-! ### TimeReadingCommandsComplete -/

/-- A requester that reaches PD_TB; alarms that are due, with and without a period; an empty table; an offset that changes. -/
def alarmDev : Dev := devOf (tbRegs ++ [(TB_ALARM_CTL 3, 0xFFFFFFFF#32), (TB_ALARM_PER_LO 3, 5#32)])

theorem wit_TimeReadingCommandsComplete :
    (reaches alarmDev .fw && domOn alarmDev .tb && flag alarmDev (TB_ALARM_CTL_enable 3) &&
      due (rd64 alarmDev (TB_ALARM_TGT_LO 3)) (near alarmDev) && flag alarmDev (TB_ALARM_CTL_periodic 3) &&
      decide (rd64 alarmDev (TB_ALARM_PER_LO 3) ≠ 0) &&
      decide (rd64 (devOf (tbRegs ++ [(TB_ALARM_CTL 3, 0xFFFFFFFF#32)])) (TB_ALARM_PER_LO 3) = 0) &&
      granted alarmDev .fw LOG_LEAP_HI && decide (leapBefore alarmDev 0 = none) &&
      decide (leapAt (devOf (tbRegs ++ [(TB_UTC_OFFSET, 5#32)])) (taiSec (devOf (tbRegs ++ [(TB_UTC_OFFSET, 5#32)]))) ≠
        sx 16 (fld (devOf (tbRegs ++ [(TB_UTC_OFFSET, 5#32)])) TB_UTC_OFFSET_offset)) &&
      decide (({ devOf tbRegs with tb := { tbReset with leapSec := 1 } }).tb.leapSec ≠ taiSec (devOf tbRegs)) &&
      !(alarmDev.tb.calDone)) = true := by decide +kernel

/-- A table whose entry before is later than the one submitted (refused), and a time beyond the calendar. -/
theorem wit_TimeReadingCommandsComplete_limits :
    (decide (leapBefore (devOf (tbRegs ++ [(bank LOG_LEAP_LO 0, 9#32)])) 1 = some 9) && decide (leapE 9 = 9) &&
      decide ((7258118399 : Int) ≤ (taiSec { devOf tbRegs with tb := { tbReset with
        ch0 := { chanReset with t := 7258118399 * 10 ^ 9 * 2 ^ 54 }, ch1 := { chanReset with t := 7258118399 * 10 ^ 9 * 2 ^ 54 },
        ch2 := { chanReset with t := 7258118399 * 10 ^ 9 * 2 ^ 54 } } } : Int))) = true := by decide +kernel

/-! ### MeasEdgesAndCapturesComplete -/

/-- MEAS in service with channel 0 granted to request `q`, that request's registers and accumulators given. -/
def measDev (l : List (Nat × Word)) (q : Nat) (x : MReq) : Dev :=
  let d := devOf (serveRegs ++ (MEAS_CH_OWN 0, putBits (putBits 0#32 (MEAS_CH_OWN_req 0).lo (MEAS_CH_OWN_req 0).wd q)
    (MEAS_CH_OWN_state 0).lo (MEAS_CH_OWN_state 0).wd 1) :: l)
  { d with meas := { d.meas with reqs := [(q, x)], initCal := false } }

/-- A request that lacks samples, and its configuration: STAMP (or INTERVAL) with sources 0x78, Running. -/
def lacking : MReq := { mreqReset with reqN := 2, n := 1 }

def stampCfg (q : Nat) : List (Nat × Word) := [(bank MEAS_REQ_CFG q, 0x787801#32), (bank MEAS_REQ_STATE q, 2#32)]

def intervalCfg (q : Nat) : List (Nat × Word) := [(bank MEAS_REQ_CFG q, 0x787803#32), (bank MEAS_REQ_STATE q, 2#32)]

/-- A pin whose window runs to tick 5. -/
def heldPin : Dev := { devOf serveRegs with meas := { measReset with holdEnd := [(7, some 5)] } }

/-- A channel whose last accepted start was on this tick. -/
def soonDev : Dev :=
  let d := measDev (stampCfg 95) 95 lacking
  { d with meas := { d.meas with startAt := [(0, some 0)] } }

theorem wit_MeasEdges :
    (measOn (serve []).toDev && !(flag (serve []).toDev (MEAS_IN_CFG_falling 7)) && (serve []).pwr.powered &&
      !(inHoldoff (serve []).toDev 7) && inHoldoff heldPin 7 && measOn heldPin && tooSoon soonDev 0 &&
      !(tooSoon (measDev (stampCfg 95) 95 lacking) 0)) = true := by decide +kernel

theorem wit_MeasCaptures :
    (measOn (measDev (stampCfg 95) 95 lacking) && decide (fld (measDev (stampCfg 95) 95 lacking) (MEAS_CH_OWN_state 0) = 1) &&
      decide (fld (measDev (stampCfg 95) 95 lacking) (MEAS_CH_OWN_req 0) = 95) &&
      decide ((mreq (measDev (stampCfg 95) 95 lacking) 95).n < (mreq (measDev (stampCfg 95) 95 lacking) 95).reqN) &&
      srcOn (measDev (stampCfg 95) 95 lacking) (reqCfg (measDev (stampCfg 95) 95 lacking) 95 8 8) &&
      srcEdge (measDev (stampCfg 95) 95 lacking) (reqCfg (measDev (stampCfg 95) 95 lacking) 95 8 8) &&
      decide (reqCfg (measDev (stampCfg 95) 95 lacking) 95 1 1 = 0) &&
      decide (atLeast1 (bitsOf (rd (measDev (stampCfg 95) 95 lacking) (bank MEAS_REQ_PRESC 95)) 0 17) ≤
        (mreq (measDev (stampCfg 95) 95 lacking) 95).presc + 1) &&
      decide ((mreq (measDev ((bank MEAS_REQ_PRESC 95, 0x10000#32) :: stampCfg 95) 95 lacking) 95).presc + 1 <
        atLeast1 (bitsOf (rd (measDev ((bank MEAS_REQ_PRESC 95, 0x10000#32) :: stampCfg 95) 95 lacking) (bank MEAS_REQ_PRESC 95)) 0 17)) &&
      decide (reqCfg (measDev (intervalCfg 0) 0 lacking) 0 1 1 = 1) &&
      srcOn (measDev (intervalCfg 0) 0 { lacking with pend := some 5 })
        (reqCfg (measDev (intervalCfg 0) 0 { lacking with pend := some 5 }) 0 16 8)) = true ∧
    (mreq (measDev (intervalCfg 0) 0 { lacking with pend := some 5 }) 0).pend = some 5 := by decide +kernel

/-! ### MeasRequestsAndSchedulerComplete -/

/-- The scheduler: nothing waits; one waits and a channel is free; all 24 channels are busy and a request of a higher class runs. -/
def busyDev : Dev :=
  { devOf (serveRegs ++ (List.range 24).map (fun c => (MEAS_CH_OWN c, putBits 0#32 (MEAS_CH_OWN_state 0).lo (MEAS_CH_OWN_state 0).wd 1)) ++
      [(bank MEAS_REQ_CFG 3, 0x1D#32), (bank MEAS_REQ_STATE 3, 2#32), (bank MEAS_REQ_CFG 7, 1#32), (bank MEAS_REQ_STATE 7, 1#32)]) with
    meas := { measReset with initCal := false } }

theorem wit_MeasScheduler :
    nextGrant (startSkews (stopLate (measDev [] 0 mreqReset))) = none ∧
    (waitList (startSkews (stopLate (measDev [] 0 mreqReset))))[0]? = none ∧
    nextGrant (startSkews (stopLate (measDev [(bank MEAS_REQ_STATE 9, 1#32)] 9 mreqReset))) = some (9, 1) ∧
    nextGrant (startSkews (stopLate busyDev)) = none ∧
    (waitList (startSkews (stopLate busyDev)))[(stoppingReqs (startSkews (stopLate busyDev))).length]? = some 7 ∧
    victim (startSkews (stopLate busyDev)) 0 = some 3 ∧ victim (startSkews (stopLate busyDev)) 7 = none := by decide +kernel

/-- A request whose age limit has passed, one with all its samples, and one at its next due time. -/
theorem wit_MeasRequests :
    (decide (((reqReg (measDev ((bank MEAS_REQ_AGELIM 5, 1#32) :: stampCfg 5) 5 { lacking with lastRes := 2 ^ 64 - 65536000001 })
        MEAS_REQ_AGELIM 5 * 65536000000 : Nat) : Int) <
        nearDiff (near (measDev ((bank MEAS_REQ_AGELIM 5, 1#32) :: stampCfg 5) 5 lacking)) (2 ^ 64 - 65536000001)) &&
      decide (reqReg (measDev ((bank MEAS_REQ_AGELIM 5, 1#32) :: stampCfg 5) 5 lacking) MEAS_REQ_AGELIM 5 ≠ 0) &&
      decide (2 ≤ reqState (measDev (stampCfg 5) 5 { lacking with n := 2 }) 5) &&
      decide (0 < reqReg64 (measDev ((bank MEAS_REQ_REPEAT_LO 5, 1#32) :: stampCfg 5) 5 lacking) MEAS_REQ_REPEAT_LO 5) &&
      due ((2 ^ 64 - 1 + 1) % 2 ^ 64) (near (measDev (stampCfg 5) 5 lacking)) && !(measOn Dev.reset) && Dev.reset.pwr.powered) = true ∧
    loadMs [(0, 24001 * ms16)] 0 = 24001 ∧ loadMs [(0, 24000 * ms16)] 0 = 24000 ∧
    taiSec (devOf serveRegs) = (devOf serveRegs).meas.loadSec := by decide +kernel

/-! ### MeasCalibrationCommandsComplete -/

/-- Hits that pass, hits with a missing code, hits with a large peak; a channel in its skew run; a moved temperature; reserves. -/
def calDev : Dev :=
  let d := devOf (serveRegs ++ [(MEAS_CH_OWN 23, putBits 0#32 (MEAS_CH_OWN_state 0).lo (MEAS_CH_OWN_state 0).wd 2),
    (MEAS_STATUS, putBits 0#32 MEAS_STATUS_cal_busy.lo 1 1)])
  { d with meas := { d.meas with lastTemp := some 0 } }

def idleCal : Dev :=
  let d := devOf (serveRegs ++ [(MEAS_CAL_CTL, 0xFFFFFFFF#32)])
  { d with meas := { d.meas with lastTemp := some 0 } }

def flatHits : List Nat := 217 :: List.replicate 254 256 ++ [295]

def steepHits : List Nat := List.replicate 128 1 ++ List.replicate 128 511

theorem wit_MeasCalibration :
    (granted calDev .fw MEAS_CAL_CMD && granted calDev .fw (MEAS_RESERVE 7) && measOn calDev && flag calDev MEAS_STATUS_cal_busy &&
      measOn idleCal && !(flag idleCal MEAS_STATUS_cal_busy) && inlTempMoved 10000 idleCal && !(inlTempMoved 0 idleCal) &&
      decide (fld calDev (MEAS_CH_OWN_state 23) = 2) && decide (flatHits.length = 256) && decide (steepHits.length = 256) &&
      decide (inlPeak (inlTable (2 ^ 16) 0 flatHits) ≤ 99) && decide (99 < inlPeak (inlTable (2 ^ 16) 0 steepHits)) &&
      (List.range 256).all (fun c => flatHits.getD c 0 != 0 && steepHits.getD c 0 != 0) &&
      decide ((0 :: flatHits.tail).getD 0 0 = 0) && !(calDev.meas.fullRun) &&
      decide (idleCal.meas.inlAt ≤ now16 idleCal)) = true := by decide +kernel

/-- Sums whose mean is 50 ps and one beyond it, whatever MCAL_1's offset is. -/
theorem wit_MeasCalibration_skew : (skewMean (4096 * 3277 - 4096 * Config.mcal1Offset)).natAbs = 3277 ∧
    (skewMean (4096 * 3278 - 4096 * Config.mcal1Offset)).natAbs = 3278 := by
  simp only [skewMean, Int.sub_add_cancel]; decide

/-- Reserves of 24 and of 25 channels. -/
theorem wit_MeasCalibration_reserves :
    ((List.range 8).map (fun c => if c = 7 then bitsOf 20#32 0 5 else fld calDev (MEAS_RESERVE_channels c))).foldl (· + ·) 0 = 24 ∧
    ((List.range 8).map (fun c => if c = 7 then bitsOf 21#32 0 5 else fld calDev (MEAS_RESERVE_channels c))).foldl (· + ·) 0 = 25 := by
  decide +kernel

/-! ### ReferenceSlotCommandsComplete -/

/-- PD_TB on; slots 0 and 31 with a kind, a state and a rank; two slots whose fractional frequencies are far apart. -/
def slotRegs (k st : Nat) : List (Nat × Word) :=
  tbRegs ++ [(REF_SLOT_CFG 31, putBits 0#32 (REF_SLOT_CFG_kind 31).lo (REF_SLOT_CFG_kind 31).wd k),
    (REF_SLOT_STATE 31, BitVec.ofNat 32 st), (REF_SLOT_CFG 0, putBits 0#32 (REF_SLOT_CFG_kind 31).lo (REF_SLOT_CFG_kind 31).wd k),
    (REF_SLOT_STATE 0, BitVec.ofNat 32 st), (REF_FEED_SEL, 31#32)]

def disagreeDev : Dev :=
  let d := devOf (slotRegs 6 2 ++ [(REF_PRIO 0, putBits 0#32 (REF_PRIO_enable 0).lo 1 1),
    (REF_PRIO 1, putBits (putBits 0#32 (REF_PRIO_enable 1).lo 1 1) (REF_PRIO_slot 1).lo (REF_PRIO_slot 1).wd 31),
    (REF_DISAGREE_WIN, 1#32)])
  let ss := [(0, { rslotReset with y := some ⟨1, 1⟩ }), (31, { rslotReset with y := some ⟨-1, 1⟩ })]
  { d with ref := { d.ref with slots := ss, apart := [(0, 31, 0)], ms := 65536000 } }

theorem wit_ReferenceSlotCommandsComplete :
    (granted (devOf (slotRegs 6 2)) .fw REF_FEED_E_HI && domOn (devOf (slotRegs 6 2)) .tb &&
      decide (slotKind (commit64 .fw REF_FEED_E_HI 7#32 (devOf (slotRegs 6 2))) (fld (commit64 .fw REF_FEED_E_HI 7#32 (devOf (slotRegs 6 2)))
        REF_FEED_SEL_slot) = 6) &&
      decide (slotKind (commit64 .fw REF_FEED_E_HI 7#32 (devOf (slotRegs 1 2))) (fld (commit64 .fw REF_FEED_E_HI 7#32 (devOf (slotRegs 1 2)))
        REF_FEED_SEL_slot) = 1) &&
      slotQuiet (devOf ((REF_SLOT_JWIN 31, 0xFFFFFFFF#32) :: slotRegs 1 2)) 31 1 &&
      decide (fld (devOf ((REF_SLOT_JWIN 31, 0xFFFFFFFF#32) :: slotRegs 1 2)) (REF_SLOT_JWIN_timeout 31) ≠ 0) &&
      decide (slotState (devOf (slotRegs 6 2)) 31 = 2) && decide (slotState (devOf (slotRegs 6 1)) 31 = 1) &&
      decide (slotState (devOf (slotRegs 6 3)) 31 = 3) && decide (slotKind (devOf (slotRegs 3 2)) 31 = 3) && domOn disagreeDev .tb &&
      pairApart disagreeDev 0 31 && apartDone disagreeDev 0 31) = true ∧ disagreeDev.ref.disagrees = [] ∧
    fld (devOf (slotRegs 6 2)) REF_QUAL_qual_time * 1000 ≤ ({ rslotReset with qualMs := 65535000 } : RSlot).qualMs ∧
    ({ rslotReset with causeMs := 0 } : RSlot).causeMs + 1000 * fld (devOf (slotRegs 6 2)) REF_QUAL_sus_clear ≤ 65535000 ∧
    ({ rslotReset with esmcMs := 0 } : RSlot).esmcMs + 5000 ≤ 5000 := by decide +kernel

/-! ### ReferenceServoCommandsComplete -/

/-- A candidate entry and no candidate; forced Holdover; a tick oscillator that may be switched to; a lock within its window. -/
def candDev : Dev := devOf (slotRegs 6 2 ++ [(REF_PRIO 15, putBits (putBits 0#32 (REF_PRIO_enable 15).lo 1 1)
  (REF_PRIO_slot 15).lo (REF_PRIO_slot 15).wd 31)])

def servoDev (st : Nat) : Dev :=
  let d := devOf (tbRegs ++ [(REF_STATUS, putBits (putBits 0#32 REF_STATUS_servo.lo REF_STATUS_servo.wd st) REF_STATUS_forced_hold.lo 1 1),
    (REF_OSC_CFG 3, putBits 0#32 (REF_OSC_CFG_present 3).lo 1 1), (REF_TICK_SEL, putBits 0#32 REF_TICK_SEL_next.lo REF_TICK_SEL_next.wd 3),
    (REF_ENS_CTL, putBits 0#32 REF_ENS_CTL_valid.lo 1 1)])
  { d with ref := { d.ref with good := some 0, ms := 4000000000, ensMs := some 0, acc := { d.ref.acc with n := 64000 } } }

theorem wit_ReferenceServoCommandsComplete :
    (candidates candDev).find? (fun c => c.2.1 == 15) = some (0, 15, 31) ∧
    (candidates candDev).find? (fun c => c.2.1 == 0) = none ∧
    (granted candDev .fw REF_CMD && granted (servoDev 2) .fw REF_CMD && flag (servoDev 2) REF_STATUS_forced_hold &&
      !(flag candDev REF_STATUS_forced_hold) && decide (fld (servoDev 2) REF_STATUS_servo = 2) && decide (fld (servoDev 1) REF_STATUS_servo = 1) &&
      decide (fld (servoDev 2) REF_TICK_SEL_next = 3) && flag (servoDev 2) (REF_OSC_CFG_present 3) &&
      decide (fld (servoDev 2) REF_TICK_SEL_current ≠ 3) && domOn (servoDev 1) .tb && decide ((servoDev 1).ref.good = some 0) &&
      decide (0 + 1000 * fld (servoDev 1) REF_LOCK_time ≤ (servoDev 1).ref.ms) &&
      decide (atLeast1 (fld (servoDev 1) REF_HIST_CTL_interval) * 1000 ≤ (servoDev 1).ref.acc.n) &&
      decide (0 + 1000 * fld (servoDev 1) REF_ENS_CTL_timeout ≤ (servoDev 1).ref.ms) && granted candDev .fw REF_ENS_TERM_HI &&
      granted candDev .fw REF_SERVO_BW && granted candDev .fw REF_HOLD_MODEL_CTL) = true := by decide +kernel

/-! ### SynthesisPllCommandsComplete -/

/-- PLL 3 with a target of 12 GHz, a band that holds it (or none), in state `st`. -/
def pllDev (st : Nat) (band : Bool) : Dev :=
  devOf (serveRegs ++ [(SYN_OSC_FNOM 0, 100000000#32), (SYN_PLL_NINT 3, 120#32), (SYN_PLL_STATUS 3, BitVec.ofNat 32 st)] ++
    (if band = true then [(SYN_BAND_MIN 3 127, BitVec.ofNat 32 (2 ^ 31 + 119000)), (SYN_BAND_MAX 3 127, 121000#32)] else []))

theorem wit_SynthesisPll_commands :
    (granted (pllDev 0 true) .fw (SYN_PLL_CMD 3) && granted (pllDev 0 true) .fw SYN_CMD && decide (pllState (pllDev 0 true) 3 = 0) &&
      vcoOk (pllDev 0 true) 3 (pllN (pllDev 0 true) 3) && !(vcoOk (serve []).toDev 3 (pllN (serve []).toDev 3)) &&
      (chooseBand (pllDev 0 false) 3 (vcoOf (pllDev 0 false) 3 (pllN (pllDev 0 false) 3))).isNone &&
      (chooseBand (pllDev 0 true) 3 (vcoOf (pllDev 0 true) 3 (pllN (pllDev 0 true) 3))).isSome &&
      decide (pllState (pllDev 3 true) 3 = 3) && !((spll (pllDev 3 true) 3).hop) && decide (targetCause (pllDev 3 true) 3 (pllN (pllDev 3 true) 3) = none) &&
      decide (targetCause (pllDev 0 true) 3 (pllN (pllDev 0 true) 3) = none) &&
      decide (targetCause (pllDev 3 false) 3 (pllN (pllDev 3 false) 3) = some 1) && decide (fld (pllDev 3 true) SYN_STATUS_serdes_pll ≠ 3) &&
      (spll { pllDev 3 true with syn := { synReset with plls := [(3, { spllReset with hop := true })] } } 3).hop) = true := by decide +kernel

theorem wit_SynthesisPll_events :
    (pllOn (pllDev 1 true) 3 && decide (pllState (pllDev 1 true) 3 = 1) && decide (pllState (pllDev 2 true) 3 = 2) &&
      decide (pllState (pllDev 4 true) 3 = 4) && (pllDev 1 true).pwr.powered && decide (serdesPll (pllDev 2 true) ≠ 3) &&
      decide (serdesPll (devOf (serveRegs ++ [(SYN_PLL_STATUS 0, 2#32)])) = 0) &&
      decide (pllState (devOf (serveRegs ++ [(SYN_PLL_STATUS 0, 2#32)])) 0 = 2) &&
      domOn (pllDev 1 true) .ctl) = true ∧ searchBands 5 127 [0x8000] = some (127, 0x8000) ∧ searchBands 5 0 [] = none ∧
    (pllDev 1 true).pwr.ringDoms = [] ∧ 7 ∈ ({ (pllDev 1 true) with pwr := { (pllDev 1 true).pwr with ringDoms := [7, 9] } }).pwr.ringDoms := by
  decide +kernel

/-! ### OutputCommandsComplete -/

/-- An output that may run and one whose divider is too small; pulse settings in and out of range, at the bounds; changes that wait. -/
def outDev : Dev := devOf (serveRegs ++ [(SYN_STATUS, putBits 0#32 SYN_STATUS_mode.lo SYN_STATUS_mode.wd 1), (SYN_OUT_DIV 15, 8#32),
  (SYN_PPS_PER_LO 3, BitVec.ofNat 32 (1000 * 65536000000000)), (SYN_PPS_PER_HI 3, BitVec.ofNat 32 (1000 * 65536000000000 / 2 ^ 32)),
  (SYN_PPS_WID 3, 8#32), (SYN_PPS_STATUS 3, 0xFFFFFFFF#32), (SYN_OUT_STATUS 15, 0xFFFFFFFF#32)])

theorem wit_OutputCommandsComplete :
    (granted outDev .fw (SYN_OUT_CFG 15) && granted outDev .fw (SYN_PPS_PH_HI 3) && granted outDev .fw (SYN_PPS_CFG 3) &&
      divOk (fieldWrite .fw (SYN_OUT_CFG 15) 0#32 outDev) (outPll (fieldWrite .fw (SYN_OUT_CFG 15) 0#32 outDev) 15)
        (outDiv (fieldWrite .fw (SYN_OUT_CFG 15) 0#32 outDev) 15) &&
      !(divOk (fieldWrite .fw (SYN_OUT_CFG 0) 0xFFFFFFFF#32 outDev) (outPll (fieldWrite .fw (SYN_OUT_CFG 0) 0xFFFFFFFF#32 outDev) 0) 7) &&
      flag (fieldWrite .fw (SYN_OUT_CFG 15) 0xFFFFFFFF#32 outDev) (SYN_OUT_CFG_align 15) &&
      !(alignOk (fieldWrite .fw (SYN_OUT_CFG 15) 0xFFFFFFFF#32 outDev) (outPll (fieldWrite .fw (SYN_OUT_CFG 15) 0xFFFFFFFF#32 outDev) 15) 8) &&
      domOnN outDev 5 && flag outDev (SYN_PPS_STATUS_pending 3) && outDev.pwr.powered && flag outDev (calValid 15) &&
      !(flag (serve []).toDev (calValid 15)) && flag outDev (SYN_OUT_STATUS_realigning 15) && !((spps outDev 3).en)) = true := by decide +kernel

theorem wit_OutputCommandsComplete_pulse :
    rd64 (commit64 .fw (SYN_PPS_PH_HI 3) 0#32 outDev) (SYN_PPS_PER_LO 3) = 1000 * 65536000000000 ∧
    rdN (commit64 .fw (SYN_PPS_PH_HI 3) 0#32 outDev) (SYN_PPS_WID 3) = 8 ∧
    rd64 (commit64 .fw (SYN_PPS_PH_HI 3) 0#32 outDev) (SYN_PPS_PH_LO 3) = 0 ∧
    rd64 (commit64 .fw (SYN_PPS_PH_HI 3) 0xFFFFFFFF#32 outDev) (SYN_PPS_PH_LO 3) = 0xFFFFFFFF * 2 ^ 32 ∧
    flag (fieldWrite .fw (SYN_PPS_CFG 3) 0xFFFFFFFF#32 outDev) (SYN_PPS_CFG_enable 3) = true ∧
    flag (fieldWrite .fw (SYN_PPS_CFG 3) 0#32 outDev) (SYN_PPS_CFG_enable 3) = false ∧ (spps outDev 3).newEn = none := by decide +kernel

/-- An enabled pulse output at its edge, where it is not quiet. -/
theorem wit_OutputCommandsComplete_notQuiet : ppsQuietAt { sppsReset with en := true, per := 131072000000, wid := 8 } 0 = false := by
  decide +kernel

/-! ### GnssSnapshotCommandsComplete -/

/-- The snapshot buffer in state `st`, streams enabled, a job that may start. -/
def snapDev (st : Nat) (ms : Nat) : Dev :=
  let d := devOf (serveRegs ++ [(GN_STATUS, putBits 0#32 GN_STATUS_snap.lo GN_STATUS_snap.wd st),
    (GN_SNAP_CFG, putBits (putBits 0#32 GN_SNAP_CFG_streams.lo GN_SNAP_CFG_streams.wd 1) GN_SNAP_CFG_ms.lo GN_SNAP_CFG_ms.wd ms),
    (GN_STREAM_CFG 0, putBits 0#32 (GN_STREAM_CFG_enable 0).lo 1 1), (GN_STREAM_FS 0, 8000000#32), (GN_ACQ_SEL, 15#32),
    (bank GN_ACQ_CFG 15, BitVec.ofNat 32 (1 * 4 + 1 * 64 + 1 * 2 ^ 14)), (bank GN_ACQ_DOP 15, 0x01000000#32)])
  { d with gn := { d.gn with capMask := 1, capMs := 20, trigNow := true } }

theorem wit_GnssSnapshotCommandsComplete :
    (granted (snapDev 0 20) .fw GN_SNAP_CMD && granted (snapDev 0 20) .fw GN_ACQ_CMD && decide (snapState (snapDev 0 20) = 0) &&
      decide (maskList (fld (snapDev 0 20) GN_SNAP_CFG_streams) = [0]) && gsOn (snapDev 0 20) 0 &&
      decide (fld (snapDev 0 20) GN_SNAP_CFG_ms = 20) && decide (fld (snapDev 0 21) GN_SNAP_CFG_ms = 21) &&
      decide (snapTotal (snapDev 0 20) (fld (snapDev 0 20) GN_SNAP_CFG_streams) 20 ≤ 8388608) &&
      decide (fld (serve []).toDev GN_SNAP_CFG_streams = 0) && decide (snapState (snapDev 1 1) = 1) &&
      trigReady (snapDev 1 1) && !(unitOut (snapDev 1 1) 0x11) && decide ((snapDev 1 1).gn.capTrig ≠ 3) &&
      trigReady (atTime 1000000000000000 { snapDev 1 1 with gn := { (snapDev 1 1).gn with capTrig := 3 }, pwr := { pwrReset with wakeGnss := true } }) &&
      decide (capCause (snapDev 1 20) 1 20 = 0) && decide (snapState (snapDev 2 1) = 2) && decide (snapState (snapDev 3 1) = 3) &&
      domOn (snapDev 1 1) .gnss && decide (fld (snapDev 3 1) GN_ACQ_SEL_job = 15) && jobOk (snapDev 3 1) 15 && !(jobOk (snapDev 0 1) 15) &&
      signalOk (bitsOf (rd (snapDev 3 1) (bank GN_ACQ_CFG 15)) 0 2) (bitsOf (rd (snapDev 3 1) (bank GN_ACQ_CFG 15)) 2 4)
        (bitsOf (rd (snapDev 3 1) (bank GN_ACQ_CFG 15)) 6 8) && !(signalOk 0 0 0)) = true ∧ (snapDev 3 1).gn.jobs = [] ∧
    ({ snapDev 3 1 with gn := { (snapDev 3 1).gn with jobs := [15] } } : Dev).gn.jobs.head? = some 15 := by decide +kernel

/-! ### GnssTrackingCommandsComplete -/

/-- Channel 191 with a signal, in state `st`, with its start index ahead of or behind the stream's. -/
def chDev (st start : Nat) : Dev :=
  let d := devOf (serveRegs ++ [(GN_CH_CFG 191, putBits (putBits 0#32 (GN_CH_CFG_signal 191).lo (GN_CH_CFG_signal 191).wd 1)
      (GN_CH_CFG_prn 191).lo (GN_CH_CFG_prn 191).wd 32), (GN_CH_STATE 191, BitVec.ofNat 32 st), (GN_CH_START_LO 191, BitVec.ofNat 32 start),
    (GN_STREAM_IDX_LO 0, 5#32), (GN_EPOCH_CTL, putBits 0#32 GN_EPOCH_CTL_rate.lo GN_EPOCH_CTL_rate.wd 5),
    (GN_STREAM_CFG 0, putBits 0#32 (GN_STREAM_CFG_enable 0).lo 1 1)])
  { d with gn := { d.gn with ep := some { te := 0, o := 0, x := [], coarse := 0, latched := [], step := false } } }

theorem wit_GnssTracking_channels :
    (granted (chDev 2 5) .fw (GN_CH_CMD 191) && signalOk 0 (chSig (chDev 2 5) 191) (fld (chDev 2 5) (GN_CH_CFG_prn 191)) &&
      !(signalOk 0 0 0) && decide (sx 64 (5 + 2 ^ 64 - (loadCh 191 (chDev 2 6)).idx) < 0) &&
      decide (sx 64 (5 + 2 ^ 64 - (loadCh 191 (chDev 2 5)).idx) = 0) && granted (chDev 2 5) .fw (GN_CH_KRATE_HI 191) &&
      granted (chDev 2 5) .fw (GN_CH_CRATE_HI 191) && granted (chDev 2 5) .fw (GN_CH_KADJ 191) &&
      decide (fld (chDev 2 5) (GN_CH_STATE_state 191) = 2) && decide (fld (chDev 1 5) (GN_CH_STATE_state 191) = 1) &&
      domOn (chDev 2 5) .gnss && domOn (chDev 2 5) .tb && decide ((chDev 2 5).gn.nextTe ≤ now16 (chDev 2 5)) &&
      decide ((toDump 1 { gchReset with rho := 2 ^ 48 }) = some 1023) && !(unitOut (chDev 2 5) 0x12) && decide (gnRate (chDev 2 5) = 50) && gsOn (chDev 2 5) 0 &&
      (chDev 2 5).gn.ep.isSome) = true := by decide +kernel

/-- Feeds by firmware and by PF0 as they meet no slot, a slot of kind 0x5, and a strobe; verdicts equal and unequal to those published. -/
theorem wit_GnssTracking_feeds :
    (granted (chDev 2 5) .fw GN_FEED_E_HI && granted (devOf (serveRegs ++ [(HIF_MGMT_CTL, 0xFFFFFFFF#32)])) .spi GN_FEED_E_HI &&
      decide (gnssSlot (commit64 .fw GN_FEED_E_HI 0#32 (chDev 2 5)) = none) && !((commit64 .fw GN_FEED_E_HI 0#32 (chDev 2 5)).gn.strobed) &&
      decide (gnssSlot (commit64 .fw GN_FEED_E_HI 0#32 (devOf (slotRegs 5 2))) = some 0) &&
      granted (chDev 2 5) .fw GN_VERDICT && decide (fld (chDev 2 5) GN_STATUS_osnma = 0) && decide (fld (chDev 2 5) GN_STATUS_dir = 0) &&
      decide (snapState (chDev 2 5) = 0)) = true ∧ bitsOf 0xE#32 0 2 = 2 ∧
    ({ (chDev 2 5) with gn := { (chDev 2 5).gn with strobed := true } } : Dev).gn.strobed = true := by decide +kernel

/-! ### PortCommandsComplete -/

/-- Port block 7 in use with both subports in link state `st`; a frame waiting in the MACs of blocks 7 and 8. -/
def portDev (st : Nat) (x : TxFrame) : Dev :=
  let d := devOf (serveRegs ++ [(PORT_STATUS 7, putBits (putBits (putBits 0#32 (PORT_STATUS_mode 7).lo (PORT_STATUS_mode 7).wd 3)
      (PORT_STATUS_two_sub 7).lo 1 1) (PORT_STATUS_fenced 7).lo 1 1), (PORT_SUB_STATUS 7 0, BitVec.ofNat 32 st),
    (PORT_SUB_STATUS 7 1, BitVec.ofNat 32 st), (DSG_STATUS, putBits 0#32 DSG_STATUS_link.lo DSG_STATUS_link.wd 2)])
  modPsub 8 0 (fun p => { p with mac := [x] }) (modPsub 7 1 (fun p => { p with mac := [x] }) d)

/-- A frame whose step count is the current one, and one built before a step. -/
def plainFrame : TxFrame := { bytes := [], steps := none, target := none, pred := none, report := none, follow := none, pipe := 0, bufs := 0 }

theorem wit_PortCommandsComplete :
    (granted (portDev 3 plainFrame) .fw (PORT_CMD 7) && decide (subLink (portDev 3 plainFrame) 7 1 = 3) &&
      decide (subLink (portDev 2 plainFrame) 7 0 = 2) && decide (subLink (portDev 1 plainFrame) 7 0 = 1) &&
      (portSubs (portDev 3 plainFrame) 7).contains 1 && !((portSubs (serve []).toDev 7).contains 1) &&
      flag (portDev 3 plainFrame) (PORT_STATUS_fenced 7) && !(flag (serve []).toDev (PORT_STATUS_fenced 7)) &&
      portOn (portDev 3 plainFrame) 7 && (portDev 3 plainFrame).pwr.powered &&
      (((portLanes (portDev 1 plainFrame) 7).filter (fun j => decide (13107 < ([] : List Int).getD j (laneR0 7 j) - laneR0 7 j))).isEmpty) &&
      !(((portLanes (portDev 1 plainFrame) 7).filter (fun j =>
        decide (13107 < (([laneR0 7 0 + 13108] : List Int).getD j (laneR0 7 j) - laneR0 7 j).natAbs))).isEmpty) &&
      !((psub (portDev 3 plainFrame) 7 1).mac.isEmpty) && !((psub (portDev 3 plainFrame) 8 0).mac.isEmpty) &&
      txReady (portDev 3 plainFrame) 7 1 && txReady (portDev 3 plainFrame) 8 0 &&
      (psub (portDev 3 plainFrame) 0 0).mac.isEmpty &&
      decide (1 ≠ stepMod (modPsub 7 1 (fun x => { x with mac := [] }) (portDev 3 { plainFrame with steps := some 1 })))) = true := by
  decide +kernel

/-- A frame that is counted with another outcome than accepted, and one that is accepted. -/
theorem wit_PortCommandsComplete_rx :
    rxOutcome (portRxCfg (portDev 3 plainFrame) 7 1) true false false 0 [] = some 3 ∧
    (psub (portDev 3 plainFrame) 7 1).part = none ∧
    rxOutcome (portRxCfg (devOf (serveRegs ++ [(PORT_STATUS 7, putBits (putBits 0#32 (PORT_STATUS_mode 7).lo (PORT_STATUS_mode 7).wd 3)
      (PORT_STATUS_two_sub 7).lo 1 1), (PORT_RX_CTL 7 1, 0xFFFFFFFF#32), (PORT_MAX_FRAME 7, 9216#32)])) 7 1) true false false 0
      (let b := List.replicate 6 0xFF#8 ++ List.replicate 6 2#8 ++ [0x88#8, 0xF7#8] ++ List.replicate 46 0#8
       b ++ fcsOf b) = some 1 := by decide +kernel

/-! ### DriveSegmentLinkCommandsComplete -/

/-- The drive segment in mode `m` with link state `l` and `left` opportunities in its ledger. -/
def dsgDev (m l left : Nat) : Dev :=
  devOf (serveRegs ++ [(DSG_CFG, BitVec.ofNat 32 (m + 5 * 256 * (m / 2) + 8 * 2 ^ 16)),
    (DSG_STATUS, putBits (putBits 0#32 DSG_STATUS_link.lo DSG_STATUS_link.wd l) DSG_STATUS_realigning.lo 1 1),
    (DSG_TO_LEDGER, putBits 0#32 DSG_TO_LEDGER_remaining.lo DSG_TO_LEDGER_remaining.wd left)])

theorem wit_DriveSegmentLinkCommandsComplete :
    (granted (dsgDev 1 2 8) .fw DSG_CFG && (rowOf DSG_CFG).isSome && !(unitOut (dsgDev 1 2 8) 0x20) && (dsgDev 1 2 8).pwr.powered &&
      (match rowOf DSG_CFG with
       | some row => dsgCfgOk (codeWrite row (windowOpen (dsgDev 1 2 8)) (rd (dsgDev 1 2 8) DSG_CFG) 0x00FF0001#32) &&
           !(dsgCfgOk (codeWrite row (windowOpen (dsgDev 1 2 8)) (rd (dsgDev 1 2 8) DSG_CFG) 0x00000001#32))
       | none => false) &&
      decide (dsgLink (dsgDev 1 2 8) = 2) && decide (dsgMode (dsgDev 1 2 8) = 1) && !((dsgDev 1 2 8).dsg.cycle) &&
      decide (dsgMode (dsgDev 2 2 8) = 2) && decide (dsgMode (dsgDev 3 1 8) = 3) && decide (dsgLink (dsgDev 3 1 8) = 1) &&
      decide (fld (dsgDev 1 2 8) DSG_TO_LEDGER_remaining = 8) && decide (fld (dsgDev 1 2 1) DSG_TO_LEDGER_remaining = 1) &&
      decide (fld (dsgDev 1 2 255) DSG_TO_LEDGER_own < 255) && flag (dsgDev 1 2 8) DSG_STATUS_realigning && dsgFollows (dsgDev 1 2 8) &&
      decide (flag (dsgDev 1 2 8) DSG_STATUS_lw_src ≠ domOn (dsgDev 1 2 8) .tb) &&
      decide (flag (devOf [(PWR_DOM_STATUS, 1#32)]) DSG_STATUS_lw_src = domOn (devOf [(PWR_DOM_STATUS, 1#32)]) .tb) &&
      (modDsg (fun x => { x with cycle := true }) (dsgDev 1 2 1)).dsg.cycle && unitOut (setUnit 0x20 { funitReset with state := 2 } (dsgDev 1 2 8)) 0x20)
      = true := by decide +kernel

/-! ### DriveSegmentFrameCommandsComplete -/

/-- Launch entry 15 in state `st` with control word `c`; the segment in link state `l`. -/
def qDev (l st c : Nat) : Dev :=
  devOf (serveRegs ++ [(DSG_STATUS, putBits 0#32 DSG_STATUS_link.lo DSG_STATUS_link.wd l), (DSG_Q_SEL, 15#32),
    (bank DSG_Q_STATUS 15, BitVec.ofNat 32 st), (bank DSG_Q_CTL 15, BitVec.ofNat 32 c)])

/-- The segment in Low water with the template sender enabled. -/
def lwDev : Dev := devOf [(PWR_DOM_STATUS, 1#32), (DSG_STATUS, putBits 0#32 DSG_STATUS_link.lo DSG_STATUS_link.wd 2),
  (DSG_CFG, putBits (putBits 0#32 DSG_CFG_lw_keep.lo 1 1) DSG_CFG_gptp_en.lo 1 1)]

theorem wit_DriveSegmentFrame_queue :
    (granted (qDev 2 0 0) .fw DSG_Q_TGT_HI && decide (fld (qDev 2 0 0) DSG_Q_SEL_entry = 15) && decide (qState (qDev 2 0 0) 15 = 0) &&
      decide (qCtl (qDev 2 0 0) 15 0 2 = 0) && decide (qState (qDev 2 3 0) 15 = 3) && decide (qCtl (qDev 2 0 1) 15 0 2 = 1) &&
      decide (qLen (qDev 2 0 1) 15 < qCtl (qDev 2 0 1) 15 2 11 + tsLen 1) && qFirst (qDev 2 1 8192) 15 &&
      due (qTgt (qDev 2 1 8192) 15) (near (qDev 2 1 8192)) && dsgSends (qDev 2 1 8192) && decide (dsgLink (qDev 3 1 8192) = 3) &&
      decide (dsgLink (qDev 2 1 8192) = 2) && decide (qCtl (qDev 2 1 8192) 15 13 1 = 1) && decide (qCtl (qDev 2 1 0) 15 13 1 = 0) &&
      due ((qTgt (qDev 2 1 0) 15 + (lateTol (devOf [(DSG_LATE_TOL, 0#32)])).toNat) % 2 ^ 64) (near (qDev 2 1 0)) &&
      reaches (qDev 2 3 0) .fw && regOn (qDev 2 3 0) DSG_Q_STATUS && fullRights (qDev 2 3 0) .fw && !(fullRights (qDev 2 3 0) .pf1)) = true ∧
    (qDev 2 1 0).dsg.byStep = [] := by decide +kernel

/-- Frames of another outcome and accepted ones, echo sums of 8 that pass and fail, the Low water sender, and a waiting Pdelay_Req. -/
theorem wit_DriveSegmentFrame_others :
    rxOutcome (dsgRxCfg (qDev 2 0 0)) false false false 0 [] = some 6 ∧ domOn (qDev 2 0 0) .pkt = true ∧ unitOut (qDev 2 0 0) 0x20 = false ∧
    rxOutcome (dsgRxCfg (devOf (serveRegs ++ [(DSG_RX_CTL, 0xFFFFFFFF#32)]))) true false false 0
      (let b := List.replicate 6 0xFF#8 ++ List.replicate 6 2#8 ++ [0x88#8, 0xF7#8] ++ List.replicate 46 0#8
       b ++ fcsOf b) = some 1 ∧ (psub (qDev 2 0 0) 8 0).part = none ∧ gridReached (dsgDev 1 2 8) 2500 = true ∧
    (let e := atTime (2 * sec16) (qDev 2 0 0); e.dsg.echoFrom + atLeast1 (fld e DSG_CAL_PERIOD_s) * sec16 ≤ now16 e ∧ e.pwr.powered = true) ∧
    (roundDiv (8 * (sx 32 (resetOf DSG_LAT_TX).toNat + sx 32 (resetOf DSG_LAT_RX).toNat)) 8 -
      (sx 32 (resetOf DSG_LAT_TX).toNat + sx 32 (resetOf DSG_LAT_RX).toNat)).natAbs ≤ 131072 ∧
    131072 < (roundDiv (8 * (sx 32 (resetOf DSG_LAT_TX).toNat + sx 32 (resetOf DSG_LAT_RX).toNat + 131073)) 8 -
      (sx 32 (resetOf DSG_LAT_TX).toNat + sx 32 (resetOf DSG_LAT_RX).toNat)).natAbs ∧
    lwSends lwDev = true ∧ lwSends (qDev 2 0 0) = false ∧ dsgSends lwDev = true ∧
    (dsgDup [] (devOf [])).1 = true ∧
    (dsgDup (List.replicate 12 0#8 ++ [0x88#8, 0xF7#8]) (modDsg (fun x => { x with
      keys := (dsgDup (List.replicate 12 0#8 ++ [0x88#8, 0xF7#8]) (devOf [(DSG_CFG, 0xFFFFFFFF#32)])).2.dsg.keys })
      (devOf [(DSG_CFG, 0xFFFFFFFF#32)]))).1 = false := by decide +kernel

/-! ### PipelineCommandsComplete -/

/-- The time service of a device in Serve: a queue, sessions, frames that wait, host records. -/
def svcDev (f : Net → Net) : Dev := { (serve []).toDev with net := f (serve []).net }

/-- A request to UDP port 123 over IPv4. -/
def ntpBytes : List Byte :=
  List.replicate 12 0#8 ++ [8#8, 0#8, 0x45#8, 0#8, 0#8, 36#8] ++ List.replicate 5 0#8 ++ [17#8] ++ List.replicate 10 0#8 ++
    [0#8, 0#8, 0#8, 123#8, 0#8, 16#8, 0#8, 0#8] ++ List.replicate 12 0#8

def rxDesc : RxDesc := { port := 0, sub := 0, bytes := ntpBytes, tRx := 0, calSeq := 0, steps := 0, bufs := 0 }

/-- The queue of pipeline 3 with a Sync of multicast instance 31 sealed by a SHA-256 association, `free` credits of both kinds. -/
def sealDev (free : Nat) (again : Bool) : Dev :=
  wrN (crdReg true 0) free (setPipeQ 3 [{ msg := .mcSync 31, slot := none, late := false, again := again }]
    (devOf (serveRegs ++ [(bank KEY_SA_INFO 0, 0x00090001#32), (SVC_MC_PRIO 31, 0x00010000#32)])))

theorem wit_PipelineCommands :
    (domOn (svcDev (fun n => n)) .pkt && (pipeQ (svcDev (fun n => n)) 3).isEmpty && !(unitOut (sealDev 10 false) 0x24) &&
      unitOut (setUnit 0x24 { funitReset with state := 2 } (sealDev 10 false)) 0x24 &&
      ((credNeeds ⟨⟨0, 0, 0⟩, false, false⟩ (.rx rxDesc) (svcDev (fun n => n))).isEmpty) &&
      ((credNeeds ⟨⟨0, 0, 0⟩, false, true⟩ (.mcSync 31) (sealDev 10 false)).any (fun b => b)) && crdForPipe (sealDev 1024 false) true &&
      !(crdForPipe (sealDev 0 false) true) &&
      decide (((fld (svcDev (fun n => n)) SVC_CRY_WAIT_us * 65536000 : Nat) : Int) <
        nearDiff (near (svcDev (fun n => n))) (2 ^ 64 - fld (svcDev (fun n => n)) SVC_CRY_WAIT_us * 65536000 - 1)) &&
      !(decide (((fld (svcDev (fun n => n)) SVC_CRY_WAIT_us * 65536000 : Nat) : Int) < nearDiff (near (svcDev (fun n => n))) 0))) = true := by
  decide +kernel

/-! ### WheelSessionAndWeirCommandsComplete -/

/-- A Serve device that sends, with PD_SMEM off; an ESMC sender; a changed leap indication. -/
def mcDev : Dev := devOf [(PWR_DOM_STATUS, 0x3DFF#32), (PWR_STATUS, putBits (resetOf PWR_STATUS) 0 3 4), (SVC_CTL, 0xFFFFFFFF#32),
  (SVC_ESMC 7 1, 0xFFFFFFFF#32), (PORT_STATUS 7, putBits (putBits 0#32 (PORT_STATUS_mode 7).lo (PORT_STATUS_mode 7).wd 3)
    (PORT_STATUS_two_sub 7).lo 1 1), (PORT_SUB_STATUS 7 1, 3#32), (SVC_STATUS, 0xFFFFFFFF#32)]

/-- The last session valid in a device in Serve. -/
def lastSess (l : List (Nat × Word)) : Dev := setRam (sessAddr 262143 + 28) 0xFFFFFFFF#32 (devOf l)

theorem wit_WheelSessionAndWeirCommands :
    (domOn mcDev .pkt && !(unitOut mcDev 0x25) && servesMc mcDev && !(domOn mcDev .smem) && decide (mcDev.net.slot ≠ some (slotNow mcDev)) &&
      decide ((svcDev (fun n => { n with slot := some 0 })).net.slot = some (slotNow (svcDev (fun n => { n with slot := some 0 })))) &&
      domOn (svcDev (fun n => n)) .smem && decide ((svcDev (fun n => n)).net.slot ≠ some (slotNow (svcDev (fun n => n)))) &&
      sessValid (lastSess serveRegs) 262143 && domOn (lastSess serveRegs) .smem && domOn (lastSess serveRegs) .pkt &&
      domOn (sessEnd 262143 (lastSess serveRegs)) .pkt && !(sessValid (lastSess serveRegs) 0) &&
      domOn (lastSess [(PWR_DOM_STATUS, 0x3F7F#32)]) .smem && !(domOn (lastSess [(PWR_DOM_STATUS, 0x3F7F#32)]) .pkt) &&
      !(domOn (sessEnd 262143 (lastSess [(PWR_DOM_STATUS, 0x3F7F#32)])) .pkt)) = true := by
  decide +kernel

/-! ### SenderCommandsComplete -/

def hostRec (n : Nat) : List Byte := [BitVec.ofNat 8 (16 + n), 0#8, 0#8, 0x17#8] ++ List.replicate (12 + n) 0#8

theorem wit_SenderCommands_flags :
    (domOn mcDev .pkt && flag mcDev (SVC_ESMC_en 7 1) && macReady mcDev 7 1 && !(flag (serve []).toDev (SVC_ESMC_en 7 1)) &&
      decide (leapInd mcDev (rdN mcDev SVC_LEAP_PTP) = 0) && decide (mcDev.net.leapInd = (0, 0)) && servesAny mcDev &&
      flag mcDev SVC_STATUS_serving && !(flag (devOf (serveRegs ++ [(SVC_CTL, 0xFFFFFFFF#32)])) SVC_STATUS_serving) &&
      servesAny (devOf (serveRegs ++ [(SVC_CTL, 0xFFFFFFFF#32)])) && running mcDev && speaking mcDev && !(unitOut mcDev 0x25) &&
      !(running (devOf [(PWR_DOM_STATUS, 0x3FFF#32)]) && speaking (devOf [(PWR_DOM_STATUS, 0x3FFF#32)])) &&
      domOn (devOf [(PWR_DOM_STATUS, 0x3FFF#32)]) .pkt) = true ∧
    (ethOf (List.replicate 12 0#8 ++ [8#8, 6#8] ++ List.replicate 46 0#8)).etype = 0x0806 ∧
    (ipOf (ethOf (ntpBytes)) ntpBytes).isSome = true ∧ (ipOf (ethOf (List.replicate 60 0#8)) (List.replicate 60 0#8)).isNone = true := by
  decide +kernel

theorem wit_SenderCommands_frames :
    (psub (modPsub 8 0 (fun x => { x with timed := [plainFrame] }) mcDev) 8 0).timed = [plainFrame] ∧
    due (plainFrame.target.getD 0) (near mcDev) = true ∧ due 1 (near mcDev) = false ∧ stepMod mcDev ≠ 1 ∧
    leNat ((hostRec 60).take 2) = 76 ∧ (hostRec 60).length = 76 ∧ (hostRec 8).length = 24 ∧ leNat ((hostRec 8).take 2) = 24 ∧
    leNat (sliceOf (hostRec 60) 3 1) % 16 = 7 ∧ leNat (sliceOf (hostRec 60) 3 1) / 16 % 2 = 1 ∧
    hostRecOk (wr (PORT_MAX_FRAME 7) 64#32 mcDev) 7 1 60 = true ∧ hostRecOk (wr (PORT_MAX_FRAME 7) 63#32 mcDev) 7 1 60 = false ∧
    (sliceOf (hostRec 60) 16 60).length = 60 := by decide +kernel

/-! ### KeyPresenceAndFuseCommandsComplete -/

/-- The window open (bit `w`), fuse word 40 holding `f`, the seal's layout by `z`. -/
def keyDev (w f z : Nat) : Dev :=
  devOf (serveRegs ++ [(KEY_STATUS, putBits (resetOf KEY_STATUS) KEY_STATUS_window.lo 1 w), (KEY_FUSE_STATUS, BitVec.ofNat 32 f),
    (KEY_LAYOUT_INFO, putBits (putBits 0#32 KEY_LAYOUT_INFO_seal_en.lo 1 1) KEY_LAYOUT_INFO_zeroize.lo KEY_LAYOUT_INFO_zeroize.wd z)])

theorem wit_KeyPresenceAndFuse :
    (granted (keyDev 1 0 0) .fw KEY_FUSE_CMD && granted (keyDev 0 0 0) .fw KEY_DEBUG && granted (keyDev 0 0 0) .fw KEY_CMD &&
      !(windowOpen (keyDev 0 0 0)) && windowOpen (keyDev 1 0 0) && !(unitOut (keyDev 1 0 0) 0x33) &&
      !(flag (keyDev 1 0 0) KEY_FUSE_STATUS_busy) && !(fuseBit (keyDev 1 0 0) 3 || fuseBit (keyDev 1 0 0) 14) &&
      (fuseBit (keyDev 1 (2 ^ 14) 0) 3 || fuseBit (keyDev 1 (2 ^ 14) 0) 14) && hashValid (keyDev 1 3 0) 0 && hashValid (keyDev 1 3 0) 1 &&
      (List.range 4).all (fun k => !(hashValid (keyDev 1 0 0) k)) && fuseBit (keyDev 1 256 0) 8 && fuseBit (keyDev 1 1024 0) 10 &&
      !(flag (keyDev 1 0 0) KEY_STATUS_debug) && windowMayOpen (keyDev 0 0 0) && !(windowMayOpen (keyDev 1 0 0)) &&
      flag (keyDev 0 0 2) KEY_LAYOUT_INFO_seal_en && !(flag (keyDev 0 0 2) KEY_STATUS_seal) &&
      decide (fld (keyDev 0 0 2) KEY_LAYOUT_INFO_zeroize = 2) && decide (fld (keyDev 0 0 1) KEY_LAYOUT_INFO_zeroize = 1) &&
      decide (fld (keyDev 0 0 0) KEY_LAYOUT_INFO_zeroize = 0) && flag (setF KEY_STATUS_seal 1 (keyDev 0 0 0)) KEY_STATUS_seal &&
      flag (setF KEY_FUSE_STATUS_busy 1 (keyDev 1 0 0)) KEY_FUSE_STATUS_busy &&
      !(fuseHasData { cmd := 16, slot := 0, cut := false, data := [] }) && (keyDev 0 0 0).pwr.powered) = true ∧
    ({ keyReset with zero := some 1, fuse := some { cmd := 8, slot := 0, cut := false, data := [] } } : Key).zero = some 1 := by
  decide +kernel

/-! ### KeySlotAndEngineCommandsComplete -/

/-- Slot 15 of NTS in state `st`, engine 23 fenced. -/
def slotDev (st : Nat) : Dev :=
  devOf (serveRegs ++ [(KEY_LAYOUT_INFO, putBits 0#32 KEY_LAYOUT_INFO_nts.lo KEY_LAYOUT_INFO_nts.wd 16), (KEY_NTS_STATE 15, BitVec.ofNat 32 st),
    (KEY_ENG_FENCED, 0x800000#32)])

theorem wit_KeySlotAndEngine :
    (!(dlvComplete (slotDev 2) 7) && (slotDev 2).pwr.powered && dlvComplete { (wr (HIF_BULK_CURSOR 7) 32#32 (slotDev 2)) with
        key := { keyReset with rx := [7] } } 7 &&
      granted (slotDev 2) .fw KEY_CMD && decide (keySlots (slotDev 2) 0 = 16) && slotEmpty (slotDev 0) 0 15 && !(slotEmpty (slotDev 2) 0 15) &&
      decide (ntsState (slotDev 2) 15 = 2) && decide (ntsState (slotDev 3) 15 = 3) && !((slotDev 2).key.katDue) &&
      ({ keyReset with katDue := true } : Key).katDue && domOn (slotDev 2) .tb && domOn (slotDev 2) .cry &&
      granted (slotDev 2) .fw KEY_ENG_CMD && engFenced (slotDev 2) 23 && !(engFenced (slotDev 2) 22) &&
      !((unitEngines (engUnit 23)).any (engFenced (engineIn 23 (slotDev 2)))) &&
      (unitEngines (engUnit 23)).any (engFenced (engineIn 23 (wr KEY_ENG_FENCED 0xC00000#32 (slotDev 2)))) &&
      granted (slotDev 2) .fw KEY_RNG_CTL && flag (setF KEY_STATUS_rng_ok 1 (slotDev 2)) KEY_STATUS_rng_ok &&
      !(flag (setF KEY_STATUS_rng_ok 0 (slotDev 2)) KEY_STATUS_rng_ok)) = true := by decide +kernel

/-- The Current slot lost, with no other key and with an Accepting one. -/
theorem wit_KeySlotAndEngine_parity :
    (let d := wrN KEY_NTS_CUR 0 (reportUnit 0x32 0x01 .corrected 0x680A (15 * 65536) (raise 0x680A (15 * 65536) (setF (KEY_NTS_STATE_state 15) 4
      (slotDev 2))))
     bestKey d ((List.range 16).filter (fun m => ntsState d m == 3))) = none ∧
    (let d := wrN KEY_NTS_CUR 0 (reportUnit 0x32 0x01 .corrected 0x680A (15 * 65536) (raise 0x680A (15 * 65536) (setF (KEY_NTS_STATE_state 15) 4
      (wr (KEY_NTS_STATE 3) 3#32 (slotDev 2)))))
     bestKey d ((List.range 16).filter (fun m => ntsState d m == 3))) = some 3 := by decide +kernel

/-! ### MillraceLinkCommandsComplete -/

/-- A twin with its link in state `l` (0 Down, 1 Training, 2 Up), its twin state and mirror state `t` and `m`. -/
def twnDev (l t m : Nat) : Dev :=
  devOf (serveRegs ++ [(TWN_CTL, 0xFFFFFFFF#32), (IMG_HW_ID, 0xB0#32), (TWN_STATUS, putBits (putBits (putBits (putBits 0#32 TWN_STATUS_link.lo 2 l)
    TWN_STATUS_state.lo 2 t) TWN_STATUS_mirror.lo 2 m) TWN_STATUS_paired_ok.lo 1 1)])

/-- A hello that agrees with `twnDev`, of hardware `hw`. -/
def helloOf (hw : Nat) : Hello := { (ownHello (twnDev 1 1 0)) with hwId := hw, side := true, latTx := 0#32, latRx := 0#32 }

theorem wit_MillraceLinkCommands :
    let d := twnDev 1 1 0
    let nom := sx 32 (resetOf TWN_LAT_TX).toNat + sx 32 (resetOf TWN_LAT_RX).toNat
    (twnAlive d && decide (fld d TWN_STATUS_link = 1) && decide (13107 < (nom + 13108 - nom).natAbs) && d.twn.gotHello.isNone &&
      decide ((nom + 13107 - nom).natAbs ≤ 13107) && (modTwn (fun t => { t with gotHello := some (helloOf 0xB0) }) d).twn.gotHello.isSome &&
      !d.twn.sentHello && (modTwn (fun t => { t with sentHello := true }) d).twn.sentHello &&
      decide (helloCause (helloOf 0xB0) d = 0) && decide (helloCause (helloOf 0xB1) d = 6) &&
      decide (fld (twnDev 2 1 2) TWN_STATUS_link = 2) && decide (16 ≤ (modTwn (fun t => { t with crcErrs := 16 }) (twnDev 2 1 2)).twn.crcErrs) &&
      decide ((twnDev 2 1 2).twn.crcErrs < 16) && granted d .fw TWN_CMD && granted d .fw TWN_ASYM) = true := by decide +kernel

/-! ### ClaimCommandsComplete -/

theorem wit_ClaimCommands :
    let d := twnDev 1 1 0
    (busRuns d && !(flag d TWN_BUS_STATUS_bus_fault) && !(unitOut d 0x35) && decide (d.twn.good + 1 < 8) &&
      decide (8 ≤ (modTwn (fun t => { t with good := 7 }) d).twn.good + 1) && flag (setF TWN_BUS_STATUS_bus_fault 1 d) TWN_BUS_STATUS_bus_fault &&
      unitOut (setUnit 0x35 { funitReset with state := 2 } d) 0x35 &&
      decide (d.twn.claim < 0x8000) && decide (d.twn.claim = 0) && decide (0 < (modTwn (fun t => { t with claim := 1 }) d).twn.claim) &&
      flag (setF TWN_BUS_STATUS_side 1 d) TWN_BUS_STATUS_side && twnAlive d && !(linkUp d) && !(flag d TWN_BUS_STATUS_partner_present) &&
      decide (max (d.twn.goneAt.getD 0) (d.twn.upAt.getD 0) + fld d TWN_LOSS_TIME_ms * 65536000000 ≤ now16 (atTime (100 * sec16) d)) &&
      linkUp (twnDev 2 1 2) && d.pwr.powered && !(flag d (SYN_OUT_STATUS_running 15)) && !(flag d (SYN_OUT_STATUS_driving 15)) &&
      flag (wr (SYN_PPS_STATUS 3) 0xFFFFFFFF#32 d) (SYN_PPS_STATUS_driving 3) &&
      !(flag (setF (SYN_PPS_STATUS_driving 3) 0 (wr (SYN_PPS_STATUS 3) 0xFFFFFFFF#32 d)) (SYN_PPS_STATUS_driving 3))) = true := by
  decide +kernel

/-! ### TwinMirrorAndHealthCommandsComplete -/

theorem wit_TwinMirrorAndHealth :
    let standbyTwin := twnDev 2 1 2
    let active := modTwn (fun t => { t with mirroring := true, retained := [(1, []), (2, []), (3, []), (4, []), (5, [])] }) (twnDev 2 0 0)
    let staged := modTwn (fun t => { t with staged := some (1, []) }) standbyTwin
    (twnAlive standbyTwin && linkUp standbyTwin && mirrorIn standbyTwin && !(mirrorIn active) && standbyTwin.twn.staged.isNone &&
      decide (staged.twn.staged = some (rdN staged TWN_EPOCH + 1, [])) && decide (jrecCrc [] = 0) && !(flag staged TWN_BUS_STATUS_bus_fault) &&
      mirrorIn staged && mirrorIn (twnDev 2 1 1) && decide (fld (twnDev 2 1 1) TWN_STATUS_mirror = 1) &&
      decide (fld standbyTwin TWN_STATUS_mirror ≠ 1) && mirrors active && linkUp active && twnAlive active &&
      (active.twn.retained.find? (fun p => p.1 == 3)).isSome && (active.twn.retained.find? (fun p => p.1 == 9)).isNone &&
      decide (9 ≠ rdN active TWN_EPOCH + 1) && decide (fld active TWN_RETAIN_epochs < 5) && flag active TWN_STATUS_paired_ok &&
      decide (active.twn.healthSec ≠ some (taiSec active)) && decide (active.twn.peerAt + 3 * sec16 ≤ now16 (atTime (4 * sec16) active)) &&
      !(flag active TWN_STATUS_health_stale) && flag (setF TWN_STATUS_health_stale 1 active) TWN_STATUS_health_stale &&
      flag standbyTwin TWN_CTL_bist_en && decide (fld standbyTwin TWN_STATUS_state = 1) && decide (fld active TWN_STATUS_state = 0) &&
      huntDue standbyTwin && crdForFw standbyTwin false && decide (huntNext standbyTwin 29 standbyTwin.twn.huntPos = 0) &&
      decide (huntNext (modTwn (fun t => { t with huntPos := 28 }) standbyTwin) 29 28 = 28) && domOn standbyTwin .smem &&
      granted standbyTwin .fw TWN_CMD && !(linkUp (twnDev 1 1 0))) = true := by decide +kernel

/-! ### CoreCommandsComplete -/

/-- A Serve device with core 3 and core 2 in the states `a` and `b`, and what `f` makes of its control complex. -/
def coreDev (a b : Nat) (f : Ctl → Ctl) : Dev :=
  let d := devOf (serveRegs ++ [(CTL_CORE_STATE 3, BitVec.ofNat 32 a), (CTL_CORE_STATE 2, BitVec.ofNat 32 b)])
  { d with ctl := f d.ctl }

/-- Core 3 with `f`. -/
def core3 (f : Core → Core) (c : Ctl) : Ctl := { c with cores := cput (fun _ => coreReset) c.cores 3 (f coreReset) }

theorem wit_CoreCommands :
    let halted := coreDev 1 1 (fun c => c)
    let runs := coreDev 2 2 (fun c => c)
    (granted halted .fw (CTL_CORE_CMD 3) && coreCmdBy halted .fw && !(coreCmdBy halted .spi) && granted halted .spi (CTL_CORE_CMD 3) &&
      decide (coreGroup halted 3 = [3]) && decide (coreState halted 3 = 1) && decide (coreState runs 3 = 2) &&
      decide (coreState (coreDev 4 4 (fun c => c)) 3 = 4) && decide ((funit (fenceUnit 0x39 6 (coreDev 4 4 (fun c => c))) 0x39).state = 2) &&
      domOn runs .ctl && decide (unread runs 6 = 0) && !((Machine.core runs 3).timerExc) &&
      (Machine.core (coreDev 2 2 (core3 (fun k => { k with timerExc := true }))) 3).timerExc &&
      !(flag runs CTL_STATUS_user_ok) && flag (setF CTL_STATUS_user_ok 1 runs) CTL_STATUS_user_ok &&
      decide (fld (setF CTL_WDOG_CFG_ms 0 runs) CTL_WDOG_CFG_ms = 0) && decide (fld (setF CTL_WDOG_CFG_ms 1 runs) CTL_WDOG_CFG_ms ≠ 0) &&
      decide ((Machine.core runs 3).kickAt ≤ now16 runs) && decide (now16 runs < (Machine.core runs 3).kickAt + 1 * 65536000000) &&
      decide ((Machine.core (atTime 65536000000 runs) 3).kickAt + 65536000000 ≤ now16 (atTime 65536000000 runs)) &&
      !((Machine.core runs 3).tmr) && (Machine.core (coreDev 3 3 (core3 (fun k => { k with tmr := true }))) 3).tmr &&
      due (rd64 runs (CTL_CORE_TMR_LO 3)) (near runs) && !(due (rd64 (wr (CTL_CORE_TMR_LO 3) 1#32 runs) (CTL_CORE_TMR_LO 3)) (near runs)) &&
      decide (coreState (coreDev 3 3 (fun c => c)) 3 = 3)) = true := by decide +kernel

/-! ### CoreCheckCommandsComplete -/

theorem wit_CoreCheckCommands :
    let halted := coreDev 1 1 (fun c => c)
    let runs := coreDev 2 2 (fun c => c)
    (granted runs .fw CTL_LS_CTL && decide (coreState halted 2 = 1) && decide (coreState halted 3 = 1) && decide (coreState runs 2 ≠ 1) &&
      lockstepOn (setF CTL_LS_CTL_en 1 runs) && decide (coreState runs 2 = 2) && domOn runs .ctl && !(passOver runs 0x38) && !(passOver runs 0x39) &&
      granted runs .fw CTL_TLB_INV && granted runs .fw CTL_RELOAD_CMD && decide (fld (setF IMG_STATUS_source 2 runs) IMG_STATUS_source = 2) &&
      decide (fld (setF IMG_STATUS_source 1 runs) IMG_STATUS_source ≠ 2) && (cget (fun _ => none) runs.ctl.pages 0).isNone &&
      (cget (fun _ => none) (cput (fun _ => none) runs.ctl.pages 7 (some (0, 5))) 7).isSome && runs.pwr.powered &&
      domOn runs .pkt && refOn runs) = true ∧ runs.img.run = [] := by decide +kernel

/-! ### DmaCommandsComplete -/

/-- Channel 15 in state `st`, its descriptors fetched and its beat state `x`. -/
def dmaDev (st : Nat) (x : DCh) : Dev :=
  let d := devOf (serveRegs ++ [(CTL_DMA_STATE 15, BitVec.ofNat 32 st), (CTL_DMA_RES 15 0, 0x200000#32), (CTL_DMA_RING_SIZE 15, 12#32)])
  { d with ctl := { d.ctl with chs := cput (fun _ => dchReset) d.ctl.chs 15 x } }

/-- A descriptor of 4 bytes from memory to memory. -/
def desc4 : List Word := [0#32, 0#32, 0x1000#32, 0#32, 4#32, 0#32, 0#32, 0#32]

theorem wit_Dma :
    let idle := dmaDev 0 dchReset
    let one := dmaDev 1 { dchReset with fetched := [(0, desc4)] }
    let fetchAll := fun (d : Dev) => forEach (List.range 16) (fun ch x => forEach (List.range 8) (fun _ y => dmaFetch ch y) (dmaActivate ch x)) d
    let armed := setF (CTL_DMA_CFG_enable 15) 1 idle
    (granted idle .fw (CTL_DMA_HEAD 15) && !(dmaOn offState.toDev) && dmaOn idle &&
      (let d1 := setF (CTL_DMA_HEAD_index 15) 4095 armed
       dmaOn d1 && dmaState d1 15 == 0 && flag d1 (CTL_DMA_CFG_enable 15) && decide (dmaHead d1 15 ≠ dmaTail d1 15)) &&
      decide (dmaHead armed 15 = dmaTail armed 15) && (dmaPick (fetchAll idle)).isNone && decide (dmaPick (fetchAll one) = some 15) &&
      decide (dmaFront (fetchAll one) 15 = some (0, desc4)) && dmaReady one 15 && decide (dmaState one 15 = 1) && (dch one 15).bad.isNone &&
      decide (dmaFront one 15 = some (0, desc4)) && decide ((dch one 15).done ≠ descLen desc4) &&
      decide ((dch (dmaDev 1 { dchReset with fetched := [(0, desc4)], done := 4 }) 15).done = descLen desc4) &&
      (dch (dmaDev 1 { dchReset with fetched := [(0, desc4)], bad := some 10 }) 15).bad.isSome && (dmaFront (dmaDev 1 dchReset) 15).isNone &&
      decide (dmaState idle 15 ≠ 1) && granted idle .fw (CTL_DMA_CMD 15) && decide (dmaState (dmaDev 3 dchReset) 15 = 3) &&
      bitAt (rd (dmaDev 3 dchReset) (CTL_DMA_RES 15 0)) 21 && decide (dmaState (dmaDev 2 dchReset) 15 = 2) &&
      !(bitAt (rd (wr (CTL_DMA_RES 15 0) 0 (dmaDev 3 dchReset)) (CTL_DMA_RES 15 0)) 21)) = true := by decide +kernel

/-! ### EventQueueCommandsComplete -/

/-- A Serve device whose event queue is `f` of that after reset. -/
def evqDev (l : List (Nat × Word)) (f : Evq → Evq) : Dev := { (devOf (serveRegs ++ l)) with evq := f (devOf (serveRegs ++ l)).evq }

/-- An event of source `src`. -/
def pendOf (src : Nat) : EvPend := { src := src, code := 0x3009, param := 0, near := 0 }

theorem wit_EventQueue :
    let d := evqDev [] (fun e => e)
    let waits := evqDev [(EVQ_MASK 48, 0#32)] (fun e => { e with pend := [pendOf 0x601] })
    let two := evqDev [(EVQ_TGT_WR 6, 1024#32)] (fun e => { e with timers := [(6, 0)], failed := [(6, 1023)], active := [{ src := 0x601, ring := 6, idx := 0 }] })
    let badRing := { (two) with badWords := [ringAddr 6 1022 / 4, ringAddr 6 1023 / 4] }
    (d.pwr.powered && sourceExists 0x601 && decide (0x3009 / 1024 = 0x601 / 128) && decide (0x1800 / 1024 = 0x301 / 128) && sourceExists 0x301 &&
      decide (0x3009 / 1024 ≠ 0x301 / 128) && deliveryOn d && !(deliveryOn (setF EVQ_HOLD_hold 1 d)) &&
      srcReady waits 0x601 && decide (routeOf waits 0x601 = 0) && decide (unread two 6 = 1024) && two.evq.timers.any (fun x => x.1 == 6 && decide (x.2 ≤ now16 two)) && decide (unread d 6 = 0) && domOn d .ctl &&
      ringBad badRing 6 1022 && ringBad badRing 6 1023 && !(ringBad two 6 0) && coreUnavailable (atTime 1000000000000000 (wr (CTL_CORE_STATE 3) 4#32 d)) 3 &&
      !(coreUnavailable (wr (CTL_CORE_STATE 3) 2#32 d) 3) && decide (bitsOf (rd d EVQ_STATUS) 18 1 = 0) && granted d .fw (EVQ_TGT_RD 6) &&
      decide ((1024 + 2048 - fld two (EVQ_TGT_RD_index 6)) % 2048 = unread two 6) &&
      decide (unread two 6 < (1025 + 2048 - fld two (EVQ_TGT_RD_index 6)) % 2048) && readable d .fw (EVQ_TGT_REC 6 0) &&
      decide (fld d (EVQ_TGT_REC_SEL_index 6) = 0) && ringBad { (two) with badWords := [ringAddr 6 0 / 4] } 6 0 && granted d .fw EVQ_RETARGET &&
      !(sourceExists 0xFFF) && srcActive two 0x601 && !(srcActive d 0x601) && granted d .fw (EVQ_SRC_TGT 511) && granted d .fw EVQ_HOLD) = true := by
  decide +kernel

/-! ### FaultHandlingCommandsComplete -/

/-- A Serve device with handling `x` in slot 7 and unit 0x3A polled as `p` says. -/
def fltDev (x : FSlot) (p : Bool) : Dev :=
  let d := (serve []).toDev
  modUnit 0x3A (fun y => { y with polled := p }) { d with flt := { d.flt with slots := [{ x with idx := 7 }] } }

theorem wit_FaultHandling :
    let plain := fltDev (bareSlot 0x05 1 .corrected false Dev.reset) false
    let rep : FltReport := { unit := 0x3A, cause := 1, cls := .corrected, ev := 0, evParam := 0 }
    (plain.pwr.powered && domOn plain .ctl && unitAlive plain 0x3A && !(unitAlive offState.toDev 0x3A) && decide (rep.cls ≠ .fatal) &&
      decide ((funit plain 0x3A).state = 0) && (slotOf plain 0x3A false).isNone && decide (freeSlot plain = some 0) &&
      !((funit plain 0x3A).polled) && (funit (fltDev (bareSlot 5 1 .corrected false Dev.reset) true) 0x3A).polled &&
      (handlingAt plain 7).isSome && (plain.flt.slots.all (fun x => x.phase == 1 && !(unitNoTest x.unit) && x.unit != 0x25 && !x.inj && !x.stFail)) &&
      (let tested := fltDev { (bareSlot 0x05 1 .corrected false Dev.reset) with phase := 2 } false
       (handlingAt tested 7).isSome && tested.flt.slots.all (fun x => x.phase == 2) && !(upsetLimit (countUpset 5 tested) 5) &&
       upsetLimit (countUpset 5 (setF FLT_UPSET_LIMIT_n 1 (modUnit 5 (fun y => { y with upsets := [0] }) tested))) 5) &&
      !(unitFenced plain 5) && unitFenced (modUnit 5 (fun y => { y with state := 2 }) plain) 5 && !(unitEssential 5) && unitNoTest 0x0A &&
      (let bare := fltDev (bareSlot 0x0A 1 .corrected false Dev.reset) false
       (near bare + 2 ^ 64 - near Dev.reset) % 2 ^ 64 < us16 && decide (us16 ≤ (near (atTime us16 bare) + 2 ^ 64 - near Dev.reset) % 2 ^ 64)) &&
      !(domOn offState.toDev .ctl) && (serve []).flt.fatal.isEmpty && (serve []).flt.slots.isEmpty) = true := by decide +kernel

/-! ### FaultServiceCommandsComplete -/

/-- A Serve device with an injection, and units 0, 63 in state `st`. -/
def injDev (st : Nat) (l : List (Nat × Word)) (x : Option FInj) : Dev :=
  let d := devOf (serveRegs ++ l)
  modUnit 0 (fun y => { y with state := st }) (modUnit 0x3A (fun y => { y with state := st }) { d with flt := { d.flt with injn := x } })

theorem wit_FaultService :
    let d := injDev 2 [] none
    let inj : FInj := { unit := 5, cause := 1, cls := .corrected, stFail := false, inUnit := false, left := 2, lastAt := none }
    let cfg := fun (w : Nat) => injDev 0 [(FLT_INJ_CFG, BitVec.ofNat 32 w)] none
    let put := fun (u c k i : Nat) => cfg ((putBits (putBits (putBits (putBits 0#32 FLT_INJ_CFG_unit.lo FLT_INJ_CFG_unit.wd u) FLT_INJ_CFG_cause.lo FLT_INJ_CFG_cause.wd c)
      FLT_INJ_CFG_class.lo FLT_INJ_CFG_class.wd k) FLT_INJ_CFG_in_unit.lo 1 i).toNat)
    (granted d .fw FLT_CMD && decide ((funit d 0).state = 2) && decide ((funit d 0x3A).state = 2) && decide ((funit (injDev 3 [] none) 0).state = 3) &&
      decide ((funit (injDev 3 [] none) 0x3A).state = 3) && !((funit (injDev 3 [] none) 0x3A).byBlock) && !((funit (injDev 0 [] none) 0).part) &&
      domOn d .ctl && readable d .fw (FLT_LATCH 63) && fullRights d .fw && readable d .i2c (FLT_LATCH 63) && !(fullRights (setF HIF_MGMT_CTL_i2c_full 0 d) .i2c) &&
      readable d .fw FLT_RAIL_LO && readable d .fw FLT_RAIL_HI && granted d .fw FLT_INJ_CMD && (injDev 0 [] (some inj)).flt.injn.isSome &&
      d.flt.injn.isNone && flag (put 0x3F 3 1 1) FLT_INJ_CFG_in_unit && !(injInUnit 0x3F 3) && !(flag (put 5 1 3 0) FLT_INJ_CFG_in_unit) &&
      decide (injClass (fld (put 5 1 3 0) FLT_INJ_CFG_class) = .fatal) && !(windowOpen d) && decide (injClass (fld (put 5 1 1 0) FLT_INJ_CFG_class) ≠ .fatal) &&
      !(unitEssential (fld (put 5 1 1 0) FLT_INJ_CFG_unit)) && decide (fld (setF FLT_INJ_REP_count 0 d) FLT_INJ_REP_count = 0) &&
      decide (fld (setF FLT_INJ_REP_count 1 d) FLT_INJ_REP_count ≠ 0) && d.pwr.powered && !inj.inUnit && decide (1 < inj.left) && injDue inj d && !(injDue { (inj) with lastAt := some (now16 d) } (setF FLT_INJ_REP_gap 1 d))) = true := by decide +kernel

/-! ### RecorderCommandsComplete -/

/-- A Serve device whose recorder has written 3 records, with cursor `c` of firmware and its read control `k`. -/
def logDev (c k : Nat) (f : Log → Log) : Dev :=
  let d := devOf (serveRegs ++ [(LOG_WR_SEQ, 3#32), (own LOG_CUR (reqCode .fw), BitVec.ofNat 32 c), (own LOG_RD_CTL (reqCode .fw), BitVec.ofNat 32 k)])
  { d with log := f d.log }

/-- A recorder record. -/
def logRec : LRec := { code := 0x1001, cls := 1, sev := 4, inj := false, merged := false, supp := false, t16 := 5, p0 := 1, p1 := 2, p2 := 3 }

theorem wit_RecorderSeconds :
    let d := logDev 2 1 (fun l => l)
    let later := { (d) with lpc := { d.lpc with ck := 32768 } }
    let xo := setF PWR_STATUS_ck_rc 0
    (d.pwr.powered && !(aonSecond (d.log.sweeps + 1) (xo d)) && !(aonSecond (d.log.samples + 1) (xo d)) &&
      aonSecond (later.log.sweeps + 1) (xo later) && aonSecond (later.log.samples + 1) (xo later)) = true := by decide +kernel

theorem wit_Recorder :
    let d := logDev 2 1 (fun l => l)
    let atEnd := logDev 3 0 (fun l => { l with emptyRd := [reqCode .fw] })
    (d.pwr.powered && d.log.inq.isEmpty && !((logDev 2 1 (fun l => { l with inq := [logRec] })).log.inq.isEmpty) &&
      readable d .fw (LOG_REC 0) && readable d .fw (LOG_REC 7) && decide (seqDiff (logOldest d) (logCur d .fw) ≤ 0) &&
      decide (logCur (cursorFloor .fw d) .fw ≠ rdN (cursorFloor .fw d) LOG_WR_SEQ) &&
      decide (logCur (cursorFloor .fw atEnd) .fw = rdN (cursorFloor .fw atEnd) LOG_WR_SEQ) &&
      decide (bitsOf (rd d (own LOG_RD_CTL (reqCode .fw))) 0 1 = 1) && !(d.log.emptyRd.contains (reqCode .fw)) &&
      decide (bitsOf (rd atEnd (own LOG_RD_CTL (reqCode .fw))) 0 1 = 0) && atEnd.log.emptyRd.contains (reqCode .fw) && granted d .fw LOG_CUR &&
      decide (seqDiff 3 (rdN d LOG_WR_SEQ) ≤ 0) && decide (0 < seqDiff 4 (rdN d LOG_WR_SEQ))) = true := by decide +kernel

/-! ### ArchiveCommandsComplete -/

theorem wit_Archive :
    let d := logDev 2 1 (fun l => l)
    (domOn d .ctl && !(domOn offState.toDev .ctl) && decide (d.lpc.ck < d.log.periodAt + atLeast1 (rdN d LOG_ARCH_PERIOD) * 32768) && d.log.forcedAt.isNone &&
      (let l := { (setF LOG_STATUS_gap 0 d) with lpc := { d.lpc with ck := 2 ^ 40 } }
       decide (l.log.periodAt + atLeast1 (rdN l LOG_ARCH_PERIOD) * 32768 ≤ l.lpc.ck)) && !((offState.toDev).log.forced) && (logDev 2 1 (fun l => { l with forced := true })).log.forced &&
      decide (archPage (setF LOG_ARCH_HEAD_page 0 d) = 0) && decide (archPage (setF LOG_ARCH_HEAD_page 255 d) ≠ 0) &&
      pageDue (wr LOG_WR_SEQ 8 d) && !(pageDue (wr LOG_WR_SEQ 0 d)) && granted d .fw LOG_ARCH_CMD && (pageSeqs (wr LOG_WR_SEQ 0 d)).isEmpty &&
      granted (standby [(PWR_DOM_STATUS, 1#32)]).toDev .i2c LOG_ARCH_CMD && !(domOn (standby [(PWR_DOM_STATUS, 1#32)]).toDev .ctl)) = true := by decide +kernel

/-! ### PerformanceCounterCommandsComplete -/

theorem wit_PerformanceCounter :
    let d := (serve []).toDev
    let busy := setF PMC_STATUS_busy 1 d
    (granted d .fw (PMC_GEN_CFG 63) && !(knownSel 0) && knownSel 0x1C0A && granted d .fw (PMC_PRIV_CFG 7) && privReg (PMC_PRIV_CFG 7) &&
      privCfg (PMC_PRIV_CFG 7) && granted d .spi PMC_USER_EN_LO && privReg PMC_USER_EN_LO && !(privCfg PMC_USER_EN_LO) && !(domOn offState.toDev .ctl) &&
      flag (setF PMC_FREEZE_freeze 1 d) PMC_FREEZE_freeze && domOn d .ctl && !(flag d PMC_FREEZE_freeze) &&
      flag (setF (PMC_GEN_CFG_en 63) 1 d) (PMC_GEN_CFG_en 63) && !(flag (setF (PMC_GEN_CFG_en 63) 1 d) (PMC_GEN_CFG_chain 63)) &&
      !(flag d (PMC_GEN_CFG_en 63)) && flag (setF (PMC_PRIV_CFG_en 7) 1 d) (PMC_PRIV_CFG_en 7) && !(flag d (PMC_PRIV_CFG_en 7)) && clockSignal (setF (PMC_GEN_CFG_sel 63) 0x0701 d) (fld (setF (PMC_GEN_CFG_sel 63) 0x0701 d) (PMC_GEN_CFG_sel 63)) &&
      !(clockSignal d (fld (setF (PMC_GEN_CFG_sel 63) 0x0601 d) (PMC_GEN_CFG_sel 63))) && !(clockSignal d (fld (setF (PMC_PRIV_CFG_sel 7) 0x0601 d) (PMC_PRIV_CFG_sel 7))) &&
      clockSignal d (fld (setF (PMC_PRIV_CFG_sel 7) 0x1C01 d) (PMC_PRIV_CFG_sel 7)) &&
      granted d .fw PMC_SNAP && !(flag d PMC_STATUS_busy) && flag busy PMC_STATUS_busy && decide (fld busy PMC_SNAP_DONE_done / 2 ^ 5 % 2 = 0) &&
      decide (fld busy PMC_SNAP_DONE_off / 2 ^ 5 % 2 = 0) && decide (fld (wr PMC_SNAP_DONE 63#32 busy) PMC_SNAP_DONE_done / 2 ^ 5 % 2 = 1) &&
      (let d1 := setF ⟨PMC_SNAP_DONE, 5, 1⟩ 1 (ledgerTerms 5 (wr PMC_SNAP_DONE 31#32 busy))
       decide (fld d1 PMC_SNAP_DONE_done + fld d1 PMC_SNAP_DONE_off = 63))) = true := by decide +kernel

/-! ### EveryStepKeepsCanonicalStores -/

theorem wit_EveryStepKeepsCanonicalStores :
    let s : State := { toDev := (serve []).toDev, pending := [.reqStandby .fw] }
    ((serve []).toDev.canonical && (match step s with | .next t => t.pending.isEmpty | _ => false)) = true := by decide +kernel

/-! ### GeneralCountersWrapAndChain -/

theorem wit_GeneralCountersWrapAndChain :
    let d := devOf (serveRegs ++ [(PMC_GEN_LO 62, 0xFFFFFFFF#32), (PMC_GEN_LO 62 + 4, 0xFFFF#32)])
    let c := setF (PMC_GEN_CFG_chain 63) 1 (setF (PMC_GEN_CFG_en 63) 1 d)
    (flag c (PMC_GEN_CFG_chain (2 * 31 + 1)) && flag c (PMC_GEN_CFG_en 63) && decide (rd64 c (PMC_GEN_LO 62) < 2 ^ 48) && decide (rd64 c (PMC_GEN_LO 63) < 2 ^ 48) &&
      !(flag d (PMC_GEN_CFG_chain 63)) && decide (rd64 d (PMC_GEN_LO 62) = 2 ^ 48 - 1) && decide (rd64 d (PMC_GEN_LO 63) < 2 ^ 48 - 1) &&
      !(flag d (PMC_GEN_CFG_ovf_ev 62)) && flag (setF (PMC_GEN_CFG_ovf_ev 62) 1 d) (PMC_GEN_CFG_ovf_ev 62) &&
      decide (rd64 (setF (PMC_GEN_CFG_ovf_ev 62) 1 d) (PMC_GEN_LO 62) = 2 ^ 48 - 1) && domOn d .ctl) = true := by decide +kernel

/-! ### PerstKeepsStateTimescaleAndBlocks -/

theorem wit_PerstKeepsStateTimescaleAndBlocks :
    let d := (serve []).toDev
    (d.pwr.powered && (List.range 8).all (fun c => decide (bulkOwner d c ≠ 1) && decide (bulkOwner d c ≠ 2)) && !(flag d HIF_STATUS_link_up) &&
      !(isPmc (0x008000 % bankSpan))) = true := by decide +kernel

/-! ### RaiseKeepsTheLatestOfItsSource -/

theorem wit_RaiseKeepsTheLatestOfItsSource :
    let d := (serve []).toDev
    (domOn d .ctl && d.pwr.powered && sourceExists (0x505#12).toNat && decide ((0x2805#16).toNat / 1024 = (0x505#12).toNat / 128) &&
      decide ((0x2805#16).toNat % 1024 ≠ 0) && decide ((0x505#12).toNat ≠ 0x301) && decide ((0x505#12).toNat ≠ 0x381)) = true := by decide +kernel

/-! ### EventSourceLiesInTheBlockOfItsCode -/

theorem wit_EventSourceLiesInTheBlockOfItsCode : (decide (0x7FFF < 2 ^ 15) && decide (0 < 2 ^ 15)) = true := by decide +kernel

end Sys2Proof.Tests
end

/-! PROOFS about accesses to the register map, event sources, time reading, the presence window and fuses, the cores and the
recorder. The lemmas on how a command runs and on latches serve every block. -/

namespace Sys2Proof.Proofs

open Sys2Proof Sys2Proof.Machine Sys2Proof.Laws

/-! ### Event sources (R12) -/

/-- The number of a source within its block is never the reserved 0 and fits five bits (R12). -/
theorem evSrcLow_range (code param : Nat) : 1 ≤ evSrcLow code param ∧ evSrcLow code param ≤ 31 := by
  unfold evSrcLow
  dsimp only
  split
  all_goals (try split_ifs) <;> omega

/-- Settles O60: the source ID is the block of the code followed by five bits that are not all 0. -/
theorem eventSourceLiesInTheBlockOfItsCode : Obligations.EventSourceLiesInTheBlockOfItsCode := by
  unfold Obligations.EventSourceLiesInTheBlockOfItsCode
  intro code param hcode
  obtain ⟨hpos, hle⟩ := evSrcLow_range code param
  unfold evSrc
  omega

/-! ### Access codes (R5, R10) -/

/-- Bit `i` of a written register: an RW bit, or an RWP bit inside the window, takes the written bit; a W1C bit written 1 is
then cleared and a W1S bit written 1 set. -/
theorem getLsbD_codeWrite (row : RegRow) (window : Bool) (old v : Word) {i : Nat} (hi : i < 32) :
    (codeWrite row window old v).getLsbD i =
      (((if row.rw.testBit i || (window && row.rwp.testBit i) then v.getLsbD i else old.getLsbD i) &&
        !(v.getLsbD i && row.w1c.testBit i)) || (v.getLsbD i && row.w1s.testBit i)) := by
  have hmask : (if window then row.rw ||| row.rwp else row.rw).testBit i =
      (row.rw.testBit i || (window && row.rwp.testBit i)) := by
    cases window <;> simp
  simp only [codeWrite, BitVec.getLsbD_or, BitVec.getLsbD_and, BitVec.getLsbD_not, BitVec.getLsbD_ofNat, hi, decide_true,
    Bool.true_and, hmask]
  cases row.rw.testBit i || (window && row.rwp.testBit i) <;> simp

/-- Settles O10: each case is the bit's own access code read off `getLsbD_codeWrite`. -/
theorem accessCodesActBitwise : Obligations.AccessCodesActBitwise := by
  unfold Obligations.AccessCodesActBitwise
  intro row window old v i hi
  rw [getLsbD_codeWrite row window old v hi]
  refine ⟨?rw, ?rwp, ?w1s, ?w1c, ?none⟩
  case rw => intro hrw hc hs; simp [hrw, hc, hs]
  case rwp => intro hp hrw hc hs; simp [hp, hrw, hc, hs]
  case w1s => intro hs hrw hp hc; simp [hs, hrw, hp, hc]
  case w1c =>
    intro hc hrw hp hs
    simp [hc, hrw, hp, hs]
  case none => intro hrw hp hc hs; simp [hrw, hp, hc, hs]

/-! ### How a command runs -/

/-- A command whose effect on the device is `f` leaves `f` of the device. -/
theorem runsTo_of_upd {i : Instr} {s : State} {f : Dev → Dev} {d : Dev} (hx : exec i s = s.upd f) (hd : f s.toDev = d) :
    runsTo i s d := by
  subst hd; exact hx

/-- A command that is a register write has its effect where its guards let it through. -/
theorem runsTo_of_write {i : Instr} {r : Req} {a : Nat} {s : State} {k : Dev → Dev} {d : Dev}
    (hx : exec i s = s.upd (guardWrite r a k)) (hg : granted s.toDev r a = true) (hd : k s.toDev = d) : runsTo i s d :=
  runsTo_of_upd hx ((guardWrite_granted k hg).trans hd)

/-- A command that is a register read has its effect where its guards let it see the register. -/
theorem runsTo_of_read {i : Instr} {r : Req} {a : Nat} {s : State} {k : Dev → Dev} {d : Dev}
    (hx : exec i s = s.upd (guardRead r a k)) (hg : readable s.toDev r a = true) (hd : k s.toDev = d) : runsTo i s d := by
  obtain ⟨hreach, hon⟩ := Bool.and_eq_true_iff.mp hg
  exact runsTo_of_upd hx ((guardRead_on k hreach hon).trans hd)

/-- A command that acts under a condition has its effect where the condition holds. -/
theorem runsTo_of_doIf {i : Instr} {s : State} {c : Dev → Bool} {f : Dev → Dev} {d : Dev}
    (hx : exec i s = s.upd (fun x => doIf (c x) f x)) (hc : c s.toDev = true) (hd : f s.toDev = d) : runsTo i s d :=
  runsTo_of_upd hx (by simp only [hc, doIf_true, hd])

/-- A command that acts under a condition changes nothing where the condition fails. -/
theorem runsTo_of_doIf_false {i : Instr} {s : State} {c : Dev → Bool} {f : Dev → Dev}
    (hx : exec i s = s.upd (fun x => doIf (c x) f x)) (hc : c s.toDev = false) : runsTo i s s.toDev :=
  runsTo_of_upd hx (by simp only [hc, doIf_false])

/-! ### The registers of a plain access -/

theorem maskBase_of_ge {a : Nat} (h : 0x040A00 ≤ a) : maskBase a = a := if_neg (by omega)

/-- An aligned address below the sub-apertures is the register's own (R80). -/
theorem busAddr_aligned {a : Nat} (h4 : a % 4 = 0) (hlt : a < 0x01000000) : busAddr (a / 4 * 4) = a := by
  have haligned : a / 4 * 4 = a := by omega
  have hwin : winChan a = none := if_neg (by omega)
  simp only [haligned, busAddr, hwin]
  exact if_pos (by omega)

theorem effAddr_of_sel_zero {a : Nat} {row : RegRow} (hrow : rowOf a = some row) (hsel : row.sel = 0) (d : Dev) :
    effAddr d a = a := by
  simp [effAddr, hrow, hsel]

/-- Bits of a register without RWP fields leave no record of a refusal (R10). -/
theorem rwpGuard_of_rwp_zero {a : Nat} {row : RegRow} (hrow : rowOf a = some row) (hrwp : row.rwp = 0) (hall : allRwp a = false)
    (r : Req) (v : Word) (d : Dev) : rwpGuard r a v d = d := by
  simp [rwpGuard, hrow, hrwp, hall]

/-- A 32-bit register without RWP fields takes its bits by their access codes. -/
theorem fieldWrite_narrow {a : Nat} {row : RegRow} (hrow : rowOf a = some row) (hwide : row.wide = 0) (hrwp : row.rwp = 0)
    (hall : allRwp a = false) (r : Req) (v : Word) (d : Dev) :
    fieldWrite r a v d = wr a (codeWrite row (windowOpen d) (rd d a) v) d := by
  simp [fieldWrite, hrow, hwide, rwpGuard_of_rwp_zero hrow hrwp hall]

/-- Every bit of the row is RW and nothing else. -/
def AllRw (row : RegRow) : Prop := row.rw = 0xFFFFFFFF ∧ row.w1c = 0 ∧ row.w1s = 0 ∧ row.rwp = 0

theorem codeWrite_allRw {row : RegRow} (h : AllRw row) (window : Bool) (old v : Word) : codeWrite row window old v = v := by
  obtain ⟨hrw, hc, hs, _⟩ := h
  refine BitVec.eq_of_getLsbD_eq fun i hi => ?_
  have hbit : row.rw.testBit i = true := by
    rw [hrw]; exact (Nat.testBit_two_pow_sub_one 32 i).trans (decide_eq_true hi)
  simp [getLsbD_codeWrite row window old v hi, hbit, hc, hs]

/-- The write of the high word of a 64-bit register all of whose bits are RW: the held low word, or the current one, and the high
word are written together and the held word is used up (R7, R77). -/
theorem fieldWrite_commit {a : Nat} {rl rh : RegRow} (hlow : rowOf (a - 4) = some rl) (hrow : rowOf a = some rh) (hl : AllRw rl)
    (hh : AllRw rh) (hwide : rh.wide = 2) (hall : allRwp a = false) (r : Req) (v : Word) (d : Dev) :
    fieldWrite r a v d =
      setHeld (a - 4) r none (wr a v (wr (a - 4) ((heldLow d (a - 4) r).getD (rd d (a - 4))) d)) := by
  have hne : rh.rw ≠ 0 := by rw [hh.1]; decide
  have hrwp : rh.rwp = 0 := hh.2.2.2
  simp [fieldWrite, commit64, hlow, hrow, hwide, hne, codeWrite_allRw hl, codeWrite_allRw hh,
    rwpGuard_of_rwp_zero hrow hrwp hall]

/-- A write of the map that its guards let through. -/
theorem busWrite_granted {a : Nat} {r : Req} {d : Dev} (hg : granted d r a = true) (h4 : a % 4 = 0) (hlt : a < 0x01000000)
    (hm : maskBase a = a) (v : Word) : busWrite r a v d = regWrite r a v d := by
  simp only [granted, Bool.and_eq_true, Bool.or_eq_true] at hg
  obtain ⟨⟨hreach, hmay⟩, hon⟩ := hg
  have hright : (!(fullRights d r) && !(obsMayWrite d r a)) = false := by
    rcases hmay with h | h <;> simp [h]
  simp [busWrite, busAddr_aligned h4 hlt, hm, hreach, hright, hon]

/-! ### Block BND -/

theorem blockOf_bnd {a : Nat} (hlo : 0x0B0000 ≤ a) (hhi : a < 0x0C0000) : blockOf a = 0x0B := by
  have hb : a % bankSpan / 0x10000 = 0x0B := by unfold bankSpan; omega
  simp [blockOf, hb]

theorem allRwp_bnd {a : Nat} (hlo : 0x0B0000 ≤ a) (hhi : a < 0x0C0000) : allRwp a = false := by
  simp only [allRwp, KEY_DEBUG, Bool.or_eq_false_iff, Bool.and_eq_false_iff, beq_eq_false_iff_ne, decide_eq_false_iff_not]
  omega

/-- A register of BND takes its bits by their access codes. -/
theorem regWrite_bnd {a : Nat} {row : RegRow} (hlo : 0x0B0000 ≤ a) (hhi : a < 0x0C0000) (hrow : rowOf a = some row) (r : Req)
    (v : Word) (d : Dev) : regWrite r a v d = fieldWrite r (effAddr d a) v d := by
  simp [regWrite, maskBase_of_ge (show 0x040A00 ≤ a by omega), hrow, blockOf_bnd hlo hhi]

/-! ### Reads without a rule of their own -/

/-- The read of register `a` has no rule of its own: the word shown, the latch of a high word and the RC fields are all there
is (R5, R7). -/
def ReadsByRow (a : Nat) : Prop :=
  a % 4 = 0 ∧ a < 0x01000000 ∧ maskBase a = a ∧ inLatchGroup a = false ∧ latchGroup a = [] ∧
  (a ∉ [TB_NOW_FRAC, TB_NEAR_LO, LOG_REC 0, LOG_REC 7, FLT_RAIL_LO, FLT_RAIL_HI, DSG_Q_STATUS, KEY_OSN_DATA, LOG_RD_STATUS, LOG_DROP,
    LOG_WEIR_TOTAL]) ∧ ¬ (0x081024 ≤ a ∧ a ≤ 0x081034) ∧
  idxOf a 0x114 0x20 8 = none ∧ idxOf a 0x030104 0x10 64 = none ∧ idxOf a 0x040054 0x40 7 = none ∧ idxOf a 0x030108 0x10 64 = none

/-- What the read of a register shows and which latches it leaves, by its row's place in a 64-bit quantity (R7). -/
def wideRead (row : RegRow) (r : Req) (a : Nat) (d : Dev) : Word × Dev :=
  if row.wide = 1 then (viewReg d r a, latchHigh r (a + 4) (viewReg d r (a + 4)) d)
  else if row.wide = 2 then highRead r a (viewReg d r a) d
  else (viewReg d r a, d)

/-- A read that its guards let see a register without a rule of its own and without a selector. -/
theorem busRead_of_readsByRow {a : Nat} {row : RegRow} {r : Req} {d : Dev} (ha : ReadsByRow a) (hrow : rowOf a = some row)
    (hsel : row.sel = 0) (hg : readable d r a = true) :
    busRead r a d = ((wideRead row r a d).1, doIf (fullRights d r) (rcClear a) (wideRead row r a d).2) := by
  obtain ⟨h4, hlt, hm, hgrp, hlist, hne, hchan, hbulk, hcol, hevq, hcnt⟩ := ha
  simp only [List.mem_cons, List.not_mem_nil, or_false, not_or] at hne
  obtain ⟨hfrac, hnear, hrec0, hrec7, hrailLo, hrailHi, hq, hosn, hstat, hdrop, hweir⟩ := hne
  obtain ⟨hreach, hon⟩ := Bool.and_eq_true_iff.mp hg
  have hread : busRead r a d = plainRead r a d := by
    simp [busRead, busAddr_aligned h4 hlt, hm, hreach, hon, regRead, hfrac, hnear, hrec0, hrec7, hrailLo, hrailHi, hq, hosn, hchan,
      hbulk, hcol, hevq]
  have hclear : ∀ y : Dev, rcHidden a (rcClear (effAddr d a) y) = rcClear a y := by
    intro y
    simp [rcHidden, hdrop, hweir, hcnt, effAddr_of_sel_zero hrow hsel]
  simp [hread, plainRead, hgrp, hlist, hrow, hstat, hclear, forEach, wideRead]

/-- A read without an RC field clears nothing. -/
theorem rcClear_of_rc_zero {a : Nat} {row : RegRow} (hrow : rowOf a = some row) (hrc : row.rc = 0) (d : Dev) : rcClear a d = d := by
  simp [rcClear, hrow, hrc]

/-- A register of BND shows what it holds. -/
theorem viewReg_bnd {a : Nat} {row : RegRow} (hlo : 0x0B0000 ≤ a) (hhi : a < 0x0C0000) (hrow : rowOf a = some row)
    (hsel : row.sel = 0) (d : Dev) (r : Req) : viewReg d r a = rd d a := by
  simp [viewReg, maskBase_of_ge (show 0x040A00 ≤ a by omega), hrow, blockOf_bnd hlo hhi, effAddr_of_sel_zero hrow hsel]


/-- Two registers of PD_TB, or two of PD_AON, are on together. -/
theorem regOn_eq_of_dom {a b : Nat} {ra rb : RegRow} (ha : rowOf a = some ra) (hb : rowOf b = some rb) (hdom : rb.dom = ra.dom)
    (h : ra.dom = .tb ∨ ra.dom = .aon) (d : Dev) : regOn d b = regOn d a := by
  rcases h with h | h <;> simp [regOn, ha, hb, hdom, h]

/-- What holds of the row at an address by evaluation of the map. -/
theorem exists_row_of_any {a : Nat} {p : RegRow → Bool} (h : (rowOf a).any p = true) : ∃ row, rowOf a = some row ∧ p row = true :=
  (Option.any_eq_true p _).mp h

/-! ### The plain accesses (R5, R7, R77) -/

theorem registerWrite_bnd {r : Req} {a : BarAddr} {row : RegRow} {s : State} (v : Word) (hg : granted s.toDev r a.toNat = true)
    (hlo : 0x0B0000 ≤ a.toNat) (hhi : a.toNat < 0x0C0000) (h4 : a.toNat % 4 = 0) (hrow : rowOf a.toNat = some row)
    (hwide : row.wide = 0) (hsel : row.sel = 0) (hrwp : row.rwp = 0) :
    runsTo (.registerWrite r a v) s (wr a.toNat (codeWrite row (windowOpen s.toDev) (rd s.toDev a.toNat) v) s.toDev) := by
  refine runsTo_of_upd (f := busWrite r a.toNat v) rfl ?_
  rw [busWrite_granted hg h4 (by omega) (maskBase_of_ge (by omega)), regWrite_bnd hlo hhi hrow, effAddr_of_sel_zero hrow hsel,
    fieldWrite_narrow hrow hwide hrwp (allRwp_bnd hlo hhi)]

theorem toNat_ofNat_addr {a : Nat} (h : a < 0x01000000) : (BitVec.ofNat 32 a).toNat = a := by
  rw [BitVec.toNat_ofNat, Nat.mod_eq_of_lt (by omega)]

theorem exec_rcRead {a : Nat} (h : a < 0x01000000) (r : Req) (s : State) :
    exec (.rcRead r (BitVec.ofNat 32 a)) s = s.upd (fun d => doIf (reaches d r) (readF r a) d) := by
  change execRcRead r (BitVec.ofNat 32 a) s = _
  rw [execRcRead, toNat_ofNat_addr h]

theorem exec_lowWordLatchRead {a : Nat} (h : a < 0x01000000) (r : Req) (s : State) :
    exec (.lowWordLatchRead r (BitVec.ofNat 32 a)) s = s.upd (fun d => doIf (reaches d r) (readF r a) d) := by
  change execLowWordLatchRead r (BitVec.ofNat 32 a) s = _
  rw [execLowWordLatchRead, toNat_ofNat_addr h]

/-- A read command of a register without a rule of its own returns the word `w` shown, with the latches of `d1` and the clearing
of `d2`. -/
theorem runsTo_of_readsByRow {i : Instr} {a : Nat} {row : RegRow} {r : Req} {s : State} {w : Word} {d1 d2 : Dev}
    (hx : exec i s = s.upd (fun d => doIf (reaches d r) (readF r a) d)) (ha : ReadsByRow a) (hrow : rowOf a = some row)
    (hsel : row.sel = 0) (hg : readable s.toDev r a = true) (hshown : wideRead row r a s.toDev = (w, d1))
    (hclear : doIf (fullRights s.toDev r) (rcClear a) d1 = d2) : runsTo i s { d2 with resp := [w] } := by
  have hreach : reaches s.toDev r = true := (Bool.and_eq_true_iff.mp hg).1
  refine runsTo_of_doIf (c := fun d => reaches d r) hx hreach ?_
  simp only [readF, busRead_of_readsByRow ha hrow hsel hg, hshown, hclear]

theorem rcRead_obsDrop {r : Req} {s : State} (hg : readable s.toDev r HIF_OBS_DROP = true) :
    runsTo (.rcRead r (BitVec.ofNat 32 HIF_OBS_DROP)) s
      { (if fullRights s.toDev r = true then wr HIF_OBS_DROP (rd s.toDev HIF_OBS_DROP &&& 0xFFFF0000#32) s.toDev
          else s.toDev) with resp := [rd s.toDev HIF_OBS_DROP] } := by
  have ha : ReadsByRow HIF_OBS_DROP := by unfold ReadsByRow; decide
  obtain ⟨row, hrow, hp⟩ := exists_row_of_any (a := HIF_OBS_DROP)
    (p := fun row => row.sel == 0 && row.wide == 0 && row.rc == 0xFFFF) (by decide)
  simp only [Bool.and_eq_true, beq_iff_eq] at hp
  obtain ⟨⟨hsel, hwide⟩, hrc⟩ := hp
  have hview : viewReg s.toDev r HIF_OBS_DROP = rd s.toDev HIF_OBS_DROP := rfl
  refine runsTo_of_readsByRow (exec_rcRead (by decide) r s) ha hrow hsel hg (d1 := s.toDev) ?_ ?_
  · simp [wideRead, hwide, hview]
  · simp [doIf, rcClear, hrow, hrc]

/-- The 64-bit registers of BND, by their low words. -/
def bndLows : List Nat := [BND_SUM_LO, BND_EPOCH_LO, BND_FREEBOARD_LO, BND_HOLD_T_LO, BND_LIMIT_LO]

theorem bndLows_readsByRow : ∀ a ∈ bndLows, ReadsByRow a ∧ ReadsByRow (a + 4) ∧ 0x0B0000 ≤ a ∧ a + 4 < 0x0C0000 := by
  unfold ReadsByRow; decide

theorem bndLows_rows : ∀ a ∈ bndLows, ∃ rl rh, rowOf a = some rl ∧ rowOf (a + 4) = some rh ∧ rl.sel = 0 ∧ rl.rc = 0 ∧
    rl.wide = 1 ∧ rh.sel = 0 ∧ rh.rc = 0 ∧ rh.wide = 2 ∧ rh.dom = rl.dom ∧ (rl.dom = .tb ∨ rl.dom = .aon) := by
  simp only [bndLows, List.forall_mem_cons]
  exact ⟨⟨_, _, rfl, rfl, by decide⟩, ⟨_, _, rfl, rfl, by decide⟩, ⟨_, _, rfl, rfl, by decide⟩, ⟨_, _, rfl, rfl, by decide⟩,
    ⟨_, _, rfl, rfl, by decide⟩, by simp⟩

/-- The read of a low word of BND latches the high word for its requester (R7, R77). -/
theorem lowWordLatchRead_bnd {a : Nat} (ha : a ∈ bndLows) {r : Req} {s : State} (hg : readable s.toDev r a = true) :
    runsTo (.lowWordLatchRead r (BitVec.ofNat 32 a)) s
      { latchHigh r (a + 4) (rd s.toDev (a + 4)) s.toDev with resp := [rd s.toDev a] } := by
  obtain ⟨hread, _, hlo, hhi⟩ := bndLows_readsByRow a ha
  obtain ⟨rl, rh, hrl, hrh, hsel, hrc, hwide, hselh, -⟩ := bndLows_rows a ha
  refine runsTo_of_readsByRow (exec_lowWordLatchRead (by omega) r s) hread hrl hsel hg
    (d1 := latchHigh r (a + 4) (rd s.toDev (a + 4)) s.toDev) ?_ ?_
  · simp [wideRead, hwide, viewReg_bnd hlo (by omega) hrl hsel, viewReg_bnd (show 0x0B0000 ≤ a + 4 by omega) hhi hrh hselh]
  · simp [doIf, rcClear_of_rc_zero hrl hrc]

/-- The next read of the high word of BND returns the latched word and uses the latch up (R7, R77). -/
theorem rcRead_bnd_latched {a : Nat} (ha : a ∈ bndLows) {r : Req} {s : State} (hg : readable s.toDev r a = true)
    (hl : highLatched s.toDev (a + 4) r = true) :
    answers (.rcRead r (BitVec.ofNat 32 (a + 4))) s (fun e =>
      e.resp = [latched s.toDev (a + 4) r] ∧ e.regs = s.regs ∧ highLatched e (a + 4) r = false) := by
  obtain ⟨_, hread, hlo, hhi⟩ := bndLows_readsByRow a ha
  obtain ⟨rl, rh, hrl, hrh, -, -, -, hsel, hrc, hwide, hdom, haon⟩ := bndLows_rows a ha
  have hgh : readable s.toDev r (a + 4) = true := by
    rw [readable, regOn_eq_of_dom hrl hrh hdom haon]; exact hg
  refine ⟨_, runsTo_of_readsByRow (exec_rcRead (by omega) r s) hread hrh hsel hgh
    (w := latched s.toDev (a + 4) r)
    (d1 := { s.toDev with latch := cput (fun _ => 0#32) s.latch (own (a + 4) (latchMark r)) 0#32 }) ?_ rfl, rfl, ?_, ?_⟩
  · simp [wideRead, hwide, highRead, hl]
  · simp [doIf, rcClear_of_rc_zero hrh hrc]
  · simp [doIf, rcClear_of_rc_zero hrh hrc, highLatched, cget_cput_same]

/-- The 64-bit registers of TB that a write of their high word commits: their high words. -/
def tbHighs : List Nat :=
  TB_STEP_HI :: TB_SLEW_AMT_HI :: ((List.range 8).map TB_ALARM_TGT_HI ++ (List.range 8).map TB_ALARM_PER_HI)

/-- A register of TB other than TB_CMD takes its bits by their access codes. -/
theorem regWrite_tb {a : Nat} (hmap : (rowOf a).isSome = true) (hm : maskBase a = a) (hb : blockOf a = 0x08) (hcmd : a ≠ TB_CMD)
    (r : Req) (v : Word) (d : Dev) : regWrite r a v d = fieldWrite r a v d := by
  have hnone : (rowOf (maskBase a)).isNone = false := by rw [hm, ← Option.not_isSome, hmap]; rfl
  simp [regWrite, hnone, hb, writeTb, hcmd]

theorem tbHighs_place : ∀ a ∈ tbHighs,
    a % 4 = 0 ∧ a < 0x01000000 ∧ maskBase a = a ∧ blockOf a = 0x08 ∧ a ≠ TB_CMD ∧ allRwp a = false := by decide

theorem tbHighs_rows : ∀ a ∈ tbHighs, ∃ rl rh, rowOf (a - 4) = some rl ∧ rowOf a = some rh ∧ AllRw rl ∧ AllRw rh ∧ rh.wide = 2 := by
  have hrw : ∀ a ∈ tbHighs, (rowOf (a - 4)).any (fun w => w.rw == 0xFFFFFFFF && w.w1c == 0 && w.w1s == 0 && w.rwp == 0) = true ∧
      (rowOf a).any (fun w => w.rw == 0xFFFFFFFF && w.w1c == 0 && w.w1s == 0 && w.rwp == 0 && w.wide == 2) = true := by decide
  intro a ha
  obtain ⟨rl, hrl, hl⟩ := exists_row_of_any (hrw a ha).1
  obtain ⟨rh, hrh, hh⟩ := exists_row_of_any (hrw a ha).2
  simp only [Bool.and_eq_true, beq_iff_eq, and_assoc] at hl hh
  obtain ⟨hr, hc, hs, hp, hwide⟩ := hh
  exact ⟨rl, rh, hrl, hrh, hl, ⟨hr, hc, hs, hp⟩, hwide⟩

/-- The write of a high word of TB commits the requester's held low word, or the current one, with it (R7, R64, R77). -/
theorem highWordCommit_tb {a : Nat} (ha : a ∈ tbHighs) {r : Req} {s : State} (hi : Word) (hg : granted s.toDev r a = true) :
    runsTo (.highWordCommit r (BitVec.ofNat 32 a) hi) s
      (setHeld (a - 4) r none (wr a hi (wr (a - 4) ((heldLow s.toDev (a - 4) r).getD (rd s.toDev (a - 4))) s.toDev))) := by
  obtain ⟨h4, hlt, hm, hb, hcmd, hall⟩ := tbHighs_place a ha
  obtain ⟨rl, rh, hrl, hrh, hl, hh, hwide⟩ := tbHighs_rows a ha
  refine runsTo_of_upd (f := fun d => busWrite r (BitVec.ofNat 32 a).toNat hi d) rfl ?_
  rw [toNat_ofNat_addr hlt, busWrite_granted hg h4 hlt hm, regWrite_tb (by simp [hrh]) hm hb hcmd,
    fieldWrite_commit hrl hrh hl hh hwide hall]

/-- Settles O11: one lemma per command, by the rows of the registers it names. -/
theorem registerAccessesComplete : Obligations.RegisterAccessesComplete := by
  unfold Obligations.RegisterAccessesComplete
  refine ⟨?write, ?clear, ?latch, ?commit⟩
  case write =>
    intro r a v row s hg hlo hhi h4 hrow hwide hsel hrwp
    exact registerWrite_bnd v hg hlo hhi h4 hrow hwide hsel hrwp
  case clear => intro r s hg; exact rcRead_obsDrop hg
  case latch => intro r a s ha hg; exact ⟨lowWordLatchRead_bnd ha hg, rcRead_bnd_latched ha hg⟩
  case commit =>
    intro r n a hi s ha hg
    refine highWordCommit_tb ?_ hi hg
    simp only [tbHighs, List.mem_cons, List.mem_append, List.mem_map, List.mem_range]
    rcases ha with h | h | h | h
    · exact .inl h
    · exact .inr (.inl h)
    · exact .inr (.inr (.inl ⟨n, n.isLt, h.symm⟩))
    · exact .inr (.inr (.inr ⟨n, n.isLt, h.symm⟩))

/-! ### Latches and 64-bit registers -/

theorem own_inj {a b c : Nat} : own a c = own b c ↔ a = b := by
  unfold own; omega

@[simp] theorem latched_setLatch_same (a : Nat) (r : Req) (v : Word) (d : Dev) : latched (setLatch a r v d) a r = v :=
  cget_cput_same _ _ _ _

theorem latched_setLatch_other {a b : Nat} (h : b ≠ a) (r : Req) (v : Word) (d : Dev) :
    latched (setLatch a r v d) b r = latched d b r :=
  cget_cput_other _ _ _ (fun e => h (own_inj.mp e))

theorem forEach_cons {α : Type} (x : α) (l : List α) (f : α → Dev → Dev) (d : Dev) : forEach (x :: l) f d = forEach l f (f x d) := rfl

/-- The registers of a list latched for a requester, each with its value. -/
def latchAll (r : Req) (ws : List (Nat × Nat)) (d : Dev) : Dev := forEach ws (fun w x => setLatch w.1 r (BitVec.ofNat 32 w.2) x) d

theorem latched_latchAll_other (r : Req) {ws : List (Nat × Nat)} {a : Nat} (h : a ∉ ws.map Prod.fst) (d : Dev) :
    latched (latchAll r ws d) a r = latched d a r := by
  induction ws generalizing d with
  | nil => rfl
  | cons w ws ih =>
    simp only [List.map_cons, List.mem_cons, not_or] at h
    rw [latchAll, forEach_cons]
    exact (ih h.2 _).trans (latched_setLatch_other h.1 r _ d)

/-- Registers latched together each read as their own value, where none is named twice. -/
theorem latched_latchAll (r : Req) {ws : List (Nat × Nat)} (hnd : (ws.map Prod.fst).Nodup) {w : Nat × Nat} (hw : w ∈ ws) (d : Dev) :
    latched (latchAll r ws d) w.1 r = BitVec.ofNat 32 w.2 := by
  induction ws generalizing d with
  | nil => cases hw
  | cons x ws ih =>
    obtain ⟨hx, hnd⟩ := List.nodup_cons.mp hnd
    rw [latchAll, forEach_cons]
    rcases List.mem_cons.mp hw with rfl | hw
    · exact (latched_latchAll_other r hx _).trans (latched_setLatch_same _ _ _ _)
    · exact ih hnd hw _

/-- Two devices with the same registers read the same. -/
theorem rd_eq_of_regs {d e : Dev} (h : e.regs = d.regs) (a : Nat) : rd e a = rd d a := by
  rw [rd, rd, h]

/-- A 64-bit write gives the same registers on devices with the same registers. -/
theorem regs_wr64_congr {d e : Dev} (h : e.regs = d.regs) (a v : Nat) : (wr64 a v e).regs = (wr64 a v d).regs := by
  simp only [wr64, wrN, wr, h]

/-- What a command returns is no latched value. -/
@[simp] theorem latched_with_resp (d : Dev) (l : List Word) (a : Nat) (r : Req) : latched { d with resp := l } a r = latched d a r := rfl

/-- Latching changes no register and no memory. -/
theorem latchAll_frame (r : Req) (ws : List (Nat × Nat)) (d : Dev) :
    (latchAll r ws d).regs = d.regs ∧ sameMem d (latchAll r ws d) :=
  forEach_ind (P := fun e => e.regs = d.regs ∧ sameMem d e) ws _ d ⟨rfl, rfl, rfl, rfl⟩ (fun _ _ h => h)

theorem rd64_wr64_same {a v : Nat} (h : v < 2 ^ 64) (d : Dev) : rd64 (wr64 a v d) a = v := by
  have hlo : rd (wr64 a v d) a = BitVec.ofNat 32 v := by
    rw [wr64, rd_wrN_other _ _ (by omega), rd_wrN_same]
  have hhi : rd (wr64 a v d) (a + 4) = BitVec.ofNat 32 (v / 2 ^ 32) := by rw [wr64, rd_wrN_same]
  simp only [rd64, rdN, hlo, hhi, BitVec.toNat_ofNat]
  omega

/-! ### Latched reads of the time (R77) -/

theorem timeWords_nodup (d : Dev) : ((timeWords d).map Prod.fst).Nodup := by
  have h : (timeWords d).map Prod.fst = [TB_NOW_FRAC, TB_NOW_NS, TB_NOW_SEC_LO, TB_NOW_SEC_HI, TB_NEAR_LO, TB_NEAR_HI, TB_UTC_DATE,
    TB_UTC_TIME, TB_GPS_WEEK, TB_GPS_TOW] := rfl
  rw [h]; decide

/-- The word that a latching read of the time returns is its own register's. -/
theorem latched_timeWord (r : Req) (viaNear : Bool) (d : Dev) :
    latched (latchAll r (timeWords d) d) (if viaNear then TB_NEAR_LO else TB_NOW_FRAC) r =
      BitVec.ofNat 32 (if viaNear = true then now16 d % 2 ^ 32 else now16 d % 65536) := by
  have hword : ∀ w ∈ timeWords d, latched (latchAll r (timeWords d) d) w.1 r = BitVec.ofNat 32 w.2 :=
    fun w hw => latched_latchAll r (timeWords_nodup d) hw d
  cases viaNear with
  | true => exact hword (TB_NEAR_LO, now16 d % 2 ^ 32) (by simp [timeWords])
  | false => exact hword (TB_NOW_FRAC, now16 d % 65536) (by simp [timeWords])

theorem timeLatchF_eq (r : Req) (viaNear : Bool) (d : Dev) :
    timeLatchF r viaNear d = { latchAll r (timeWords d) d with
      resp := [BitVec.ofNat 32 (if viaNear = true then now16 d % 2 ^ 32 else now16 d % 65536)] } := by
  rw [← latched_timeWord r viaNear d]
  rfl

theorem timeLatchRead_runsTo {r : Req} (viaNear : Bool) {s : State} (hreach : reaches s.toDev r = true)
    (hon : domOn s.toDev .tb = true) : runsTo (.timeLatchRead r viaNear) s (timeLatchF r viaNear s.toDev) := by
  change execTimeLatchRead r viaNear s = _
  simp [execTimeLatchRead, hreach, hon]

/-- What a device holds for a requester after its read of a group of registers: each of them latched, the word returned, registers
and memories as they were. -/
def GroupRead (r : Req) (ws : List (Nat × Nat)) (v : Word) (d e : Dev) : Prop :=
  (∀ w ∈ ws, latched e w.1 r = BitVec.ofNat 32 w.2) ∧ e.resp = [v] ∧ e.regs = d.regs ∧ sameMem d e

theorem groupRead_with_resp {r : Req} {ws : List (Nat × Nat)} {d x : Dev} (v : Word)
    (hword : ∀ w ∈ ws, latched x w.1 r = BitVec.ofNat 32 w.2) (hregs : x.regs = d.regs) (hmem : sameMem d x) :
    GroupRead r ws v d { x with resp := [v] } := ⟨hword, rfl, hregs, hmem⟩

theorem timeLatchF_groupRead (r : Req) (viaNear : Bool) (d : Dev) :
    GroupRead r (timeWords d) (BitVec.ofNat 32 (if viaNear = true then now16 d % 2 ^ 32 else now16 d % 65536)) d
      (timeLatchF r viaNear d) := by
  obtain ⟨hregs, hmem⟩ := latchAll_frame r (timeWords d) d
  rw [timeLatchF_eq]
  exact groupRead_with_resp _ (fun w hw => latched_latchAll r (timeWords_nodup d) hw d) hregs hmem

/-! ### Alarms (R101) -/

theorem tbAlarmFire_runsTo {n : Fin 8} {s : State} {d : Dev} (hon : domOn s.toDev .tb = true)
    (hen : flag s.toDev (TB_ALARM_CTL_enable n) = true) (hdue : due (rd64 s.toDev (TB_ALARM_TGT_LO n)) (near s.toDev) = true)
    (hd : fireAlarm false n.val s.toDev = d) : runsTo (.tbAlarmFire n) s d := by
  have halarm : alarmDue s.toDev n.val = true := by simp [alarmDue, alarmTgt, hen, hdue]
  exact runsTo_of_doIf (c := fun d => domOn d .tb && alarmDue d n.val) rfl (by simp [hon, halarm]) hd

/-- A single alarm ends disabled (R101). -/
theorem fireAlarm_single {n : Nat} {d : Dev} (byStep : Bool)
    (h : flag d (TB_ALARM_CTL_periodic n) = false ∨ rd64 d (TB_ALARM_PER_LO n) = 0) :
    fireAlarm byStep n d = setB (TB_ALARM_CTL_enable n) false
      (raise 0x200C (n + b2n byStep * 8) (setB (TB_ALARM_CTL_by_step n) byStep (setB (TB_ALARM_CTL_fired n) true d))) := by
  have hcond : (flag d (TB_ALARM_CTL_periodic n) && decide (rd64 d (TB_ALARM_PER_LO n) ≠ 0)) = false := by
    rcases h with h | h <;> simp [h]
  simp only [fireAlarm, hcond, Bool.false_eq_true, if_false]

/-- The target of a periodic alarm advances past the present time (R101). -/
theorem fireAlarm_periodic {n : Nat} {d : Dev} (byStep : Bool) (hper : flag d (TB_ALARM_CTL_periodic n) = true)
    (h0 : rd64 d (TB_ALARM_PER_LO n) ≠ 0) :
    fireAlarm byStep n d =
      let m := advances (- nearDiff (alarmTgt d n) (near d)).toNat (rd64 d (TB_ALARM_PER_LO n))
      satAdd (TB_ALARM_CTL_skipped n) (m - 1) (wr64 (TB_ALARM_TGT_LO n) (alarmTgt d n + m * rd64 d (TB_ALARM_PER_LO n))
        (raise 0x200C (n + b2n byStep * 8) (setB (TB_ALARM_CTL_by_step n) byStep (setB (TB_ALARM_CTL_fired n) true d)))) := by
  simp [fireAlarm, hper, h0]

/-! ### The leap-second table (R111, R112) -/

/-- The rule by which the device accepts entry `e` at index `i` (R111). -/
theorem leapOk_iff (d : Dev) (i e : Nat) : leapOk d i e = true ↔
    (leapBefore d i = none ∨ ∃ p, leapBefore d i = some p ∧ leapE p < leapE e ∧
      (leapOff e = leapOff p + 1 ∨ leapOff e = leapOff p - 1)) := by
  unfold leapOk
  cases leapBefore d i <;> simp

/-- The entry that a write of LOG_LEAP_HI submits (R111). -/
def submitted (r : Req) (hi : Word) (d : Dev) : Nat :=
  let a := bank LOG_LEAP_LO (fld d LOG_LEAP_SEL_index)
  ((heldLow d a r).getD (rd d a)).toNat + 2 ^ 32 * hi.toNat

/-- The leap pages marked for the archive (R431), and the second of the commit. -/
def leapMarked (tai : Nat) (d : Dev) : Dev :=
  { d with log := { d.log with leapVer := d.log.leapVer + 1, leapDirty := true }, tb := { d.tb with leapSec := tai } }

@[simp] theorem rd_leapMarked (tai : Nat) (d : Dev) (b : Nat) : rd (leapMarked tai d) b = rd d b := rfl
@[simp] theorem leapMarked_leapDirty (tai : Nat) (d : Dev) : (leapMarked tai d).log.leapDirty = true := rfl
@[simp] theorem leapMarked_leapVer (tai : Nat) (d : Dev) : (leapMarked tai d).log.leapVer = d.log.leapVer + 1 := rfl

/-- The device with the submitted entry in the table. -/
def leapPut (r : Req) (hi : Word) (d : Dev) : Dev :=
  let a := bank LOG_LEAP_LO (fld d LOG_LEAP_SEL_index)
  wr64 a (submitted r hi d) (setHeld a r none d)

/-- The device with the submitted entry stored, before its event (R111). -/
def leapStored (r : Req) (hi : Word) (d : Dev) : Dev :=
  setF LOG_LEAP_COUNT_entries (leapCount (leapPut r hi d)) (leapMarked (taiSec d) (leapPut r hi d))

theorem leapSubmitF_eq (r : Req) (hi : Word) (d : Dev) : leapSubmitF r hi d =
    if leapOk d (fld d LOG_LEAP_SEL_index) (submitted r hi d) then
      refreshLeap (raise 0x2009 (fld d LOG_LEAP_SEL_index) (leapStored r hi d))
    else raise 0x200A (fld d LOG_LEAP_SEL_index) (setHeld (bank LOG_LEAP_LO (fld d LOG_LEAP_SEL_index)) r none d) := rfl

/-- Beside the count of entries the stored entry's two words are the only registers that change. -/
theorem rd_leapStored (r : Req) (hi : Word) (d : Dev) {b : Nat} (hb : b ≠ LOG_LEAP_COUNT) :
    rd (leapStored r hi d) b = rd (wr64 (bank LOG_LEAP_LO (fld d LOG_LEAP_SEL_index)) (submitted r hi d) d) b := by
  rw [leapStored, rd_setF_other (f := LOG_LEAP_COUNT_entries) _ _ hb, rd_leapMarked]
  exact rd_eq_of_regs (regs_wr64_congr rfl _ _) b

theorem rd64_leapStored (r : Req) (hi : Word) (d : Dev) :
    rd64 (leapStored r hi d) (bank LOG_LEAP_LO (fld d LOG_LEAP_SEL_index)) = submitted r hi d := by
  have hfar : LOG_LEAP_COUNT < bank LOG_LEAP_LO (fld d LOG_LEAP_SEL_index) := by
    unfold bank bankSpan LOG_LEAP_COUNT; omega
  have hlt : submitted r hi d < 2 ^ 64 := by
    unfold submitted; dsimp only; omega
  rw [rd64, rdN, rdN, rd_leapStored r hi d (by omega), rd_leapStored r hi d (by omega)]
  exact rd64_wr64_same hlt d

theorem leapStored_frame (r : Req) (hi : Word) (d : Dev) :
    sameRegsBut [bank LOG_LEAP_LO (fld d LOG_LEAP_SEL_index), bank LOG_LEAP_LO (fld d LOG_LEAP_SEL_index) + 4, LOG_LEAP_COUNT] d
      (leapStored r hi d) := by
  intro b hb _
  simp only [List.mem_cons, List.not_mem_nil, or_false, not_or] at hb
  obtain ⟨hlo, hhi, hcnt⟩ := hb
  rw [rd_leapStored r hi d hcnt, rd_wr64_other _ _ hlo hhi]

theorem leapStored_log (r : Req) (hi : Word) (d : Dev) :
    (leapStored r hi d).log.leapDirty = true ∧ (leapStored r hi d).log.leapVer = d.log.leapVer + 1 := by
  constructor
  · rw [leapStored, setF_log, leapMarked_leapDirty]
  · rw [leapStored, setF_log, leapMarked_leapVer, leapPut, wr64_log, setHeld_log]

/-! ### The offset in force and the end of the calendar (R112, R114) -/

theorem utcOffsetChange_runsTo {s : State} (hon : domOn s.toDev .tb = true) (hsec : s.tb.leapSec ≠ taiSec s.toDev)
    (hoff : leapAt s.toDev (taiSec s.toDev) ≠ sx 16 (fld s.toDev TB_UTC_OFFSET_offset)) :
    runsTo .utcOffsetChange s (raise 0x200B (wrapN 32 (leapAt s.toDev (taiSec s.toDev)))
      (refreshLeap (setF TB_UTC_OFFSET_offset (wrapN 16 (leapAt s.toDev (taiSec s.toDev))) s.toDev))) :=
  runsTo_of_upd (f := utcOffsetChangeF) rfl (by simp [utcOffsetChangeF, hon, hsec, hoff])

theorem calendarLimit_first {s : State} (hon : domOn s.toDev .tb = true)
    (hend : 7258118399 ≤ (taiSec s.toDev : Int) - sx 16 (fld s.toDev TB_UTC_OFFSET_offset)) (hdone : s.tb.calDone = false) :
    runsTo .calendarLimit s (raise 0x200D 0 { s.toDev with tb := { s.tb with calDone := true } }) :=
  runsTo_of_upd (f := calendarLimitF) rfl (by simp [calendarLimitF, calLimit, hon, hend, hdone])

theorem calendarLimit_again {s : State} (hdone : s.tb.calDone = true) : runsTo .calendarLimit s s.toDev :=
  runsTo_of_upd (f := calendarLimitF) rfl (by simp [calendarLimitF, hdone])

/-- Settles O23: the latched words, the alarm, the submitted entry, the offset and the calendar each by their own lemma. -/
theorem timeReadingCommandsComplete : Obligations.TimeReadingCommandsComplete := by
  unfold Obligations.TimeReadingCommandsComplete
  refine ⟨?read, ?words, ?alarm, ?entry, ?offset⟩
  case read =>
    intro r viaNear s hreach hon
    exact ⟨_, timeLatchRead_runsTo viaNear hreach hon, timeLatchF_groupRead r viaNear s.toDev⟩
  case words => intro d; rfl
  case alarm =>
    intro n s hon hen hdue
    refine ⟨fun h => ?_, fun hper h0 => ?_⟩
    · exact tbAlarmFire_runsTo hon hen hdue (fireAlarm_single false h)
    · exact tbAlarmFire_runsTo hon hen hdue (fireAlarm_periodic false hper h0)
  case entry =>
    intro r hi s hg
    dsimp only
    refine ⟨fun hok => ?_, fun hno => ?_⟩
    · refine ⟨leapStored r hi s.toDev, runsTo_of_write rfl hg ?_, rd64_leapStored r hi s.toDev,
        (leapStored_log r hi s.toDev).1, (leapStored_log r hi s.toDev).2, leapStored_frame r hi s.toDev⟩
      rw [leapSubmitF_eq]
      exact if_pos ((leapOk_iff _ _ _).mpr hok)
    · refine runsTo_of_write rfl hg ?_
      rw [leapSubmitF_eq]
      exact if_neg (fun h => hno ((leapOk_iff _ _ _).mp h))
  case offset =>
    intro s hon
    exact ⟨utcOffsetChange_runsTo hon, calendarLimit_first hon, calendarLimit_again⟩

/-! ### Commands that need power, and RWP commands (R10, R41) -/

/-- A command that needs power has its effect where the supply is present. -/
theorem runsTo_of_powered {i : Instr} {s : State} (f : Dev → Dev) {d : Dev}
    (hx : exec i s = s.upd (fun x => doIf x.pwr.powered f x)) (hp : s.pwr.powered = true) (hd : f s.toDev = d) : runsTo i s d :=
  runsTo_of_doIf (c := fun x => x.pwr.powered) hx hp hd

/-- An RWP command inside the presence window has its effect. -/
theorem runsTo_of_rwp_open {i : Instr} {r : Req} {a : Nat} {s : State} (k : Dev → Dev) {d : Dev}
    (hx : exec i s = s.upd (rwpDo r a k)) (hg : granted s.toDev r a = true) (hw : windowOpen s.toDev = true)
    (hd : k s.toDev = d) : runsTo i s d :=
  runsTo_of_write hx hg (by simp only [hw, if_true, hd])

/-- An RWP command outside the presence window leaves the record of its refusal alone (R10). -/
theorem runsTo_of_rwp_closed {i : Instr} {r : Req} {a : Nat} {s : State} {k : Dev → Dev}
    (hx : exec i s = s.upd (rwpDo r a k)) (hg : granted s.toDev r a = true) (hw : windowOpen s.toDev = false) :
    runsTo i s (rwpRefuse r a s.toDev) :=
  runsTo_of_write hx hg (by simp only [hw, Bool.false_eq_true, if_false])

/-! ### Fuse commands (R335) -/

/-- A fuse command in progress with the data words latched. -/
def fuseStarted (cmd slot : Nat) (d : Dev) : Dev :=
  setF KEY_FUSE_STATUS_busy 1 { d with key := { d.key with
    fuse := some { cmd := cmd, slot := slot, cut := false, data := (List.range 8).map (fun w => rd d (KEY_FUSE_DATA w)) } } }

theorem fuseStart_idle {d : Dev} (hu : unitOut d 0x33 = false) (hb : flag d KEY_FUSE_STATUS_busy = false) (cmd slot : Nat) :
    fuseStart cmd slot d = fuseStarted cmd slot d := by
  simp only [fuseStart, hu, hb, Bool.false_eq_true, if_false, fuseStarted]

theorem fuseStart_busy {d : Dev} (hu : unitOut d 0x33 = false) (hb : flag d KEY_FUSE_STATUS_busy = true) (cmd slot : Nat) :
    fuseStart cmd slot d = keyResult 0x04 2 d := by
  simp only [fuseStart, hu, hb, Bool.false_eq_true, if_false, if_true]

/-- Each of the five fuse commands is an RWP command, and refused by a busy controller in service. -/
theorem fuseCommand_exec (r : Req) (i : Fin 4) :
    ∀ c ∈ [Instr.programHash r i, .revokeHash r i, .programKek r, .revokeKek r, .disableDebug r], ∃ k : Dev → Dev,
      (∀ s, exec c s = s.upd (rwpDo r KEY_FUSE_CMD k)) ∧
      ∀ d, unitOut d 0x33 = false → flag d KEY_FUSE_STATUS_busy = true → k d = keyResult 0x04 2 d := by
  simp only [List.forall_mem_cons]
  refine ⟨⟨programHashF i.val, fun _ => rfl, fun d hu hb => ?_⟩, ⟨revokeHashF i.val, fun _ => rfl, fun d hu hb => ?_⟩,
    ⟨programKekF, fun _ => rfl, fun d hu hb => ?_⟩, ⟨fuseStart 8 0, fun _ => rfl, fun d hu hb => fuseStart_busy hu hb 8 0⟩,
    ⟨fuseStart 16 0, fun _ => rfl, fun d hu hb => fuseStart_busy hu hb 16 0⟩, by simp⟩
  all_goals
    simp only [programHashF, revokeHashF, programKekF, hb, Bool.not_true, Bool.false_and, Bool.false_eq_true, if_false,
      fuseStart_busy hu hb]

theorem programHashF_used {d : Dev} {i : Nat} (hb : flag d KEY_FUSE_STATUS_busy = false)
    (hused : (fuseBit d i || fuseBit d (11 + i)) = true) : programHashF i d = keyResult 0x06 2 d := by
  simp only [programHashF, hb, hused, Bool.not_false, Bool.and_self, if_true]

theorem programHashF_free {d : Dev} {i : Nat} (hused : (fuseBit d i || fuseBit d (11 + i)) = false) :
    programHashF i d = fuseStart (1 + i * 64) i d := by
  simp only [programHashF, hused, Bool.and_false, Bool.false_eq_true, if_false]

/-- Another hash slot than `i` is programmed and unrevoked. -/
theorem any_hashValid_iff (d : Dev) (i : Nat) :
    (List.range 4).any (fun s => s != i && hashValid d s) = true ↔ ∃ k, k < 4 ∧ k ≠ i ∧ hashValid d k = true := by
  simp

theorem revokeHashF_other {d : Dev} {i : Nat} (h : ∃ k, k < 4 ∧ k ≠ i ∧ hashValid d k = true) :
    revokeHashF i d = fuseStart (2 + i * 64) i d := by
  simp only [revokeHashF, (any_hashValid_iff d i).mpr h, Bool.not_true, Bool.and_false, Bool.false_eq_true, if_false]

theorem revokeHashF_last {d : Dev} {i : Nat} (hb : flag d KEY_FUSE_STATUS_busy = false)
    (h : ∀ k, k < 4 → k ≠ i → hashValid d k = false) : revokeHashF i d = keyResult 0x03 2 d := by
  have hnone : (List.range 4).any (fun s => s != i && hashValid d s) = false := by
    rw [← Bool.not_eq_true, any_hashValid_iff]
    rintro ⟨k, hk, hne, hv⟩
    simp [h k hk hne] at hv
  simp only [revokeHashF, hb, hnone, Bool.not_false, Bool.and_self, if_true]

theorem programKekF_used {d : Dev} (hb : flag d KEY_FUSE_STATUS_busy = false) (hused : fuseBit d 8 = true) :
    programKekF d = keyResult 0x06 2 d := by
  simp only [programKekF, hb, hused, Bool.not_false, Bool.and_self, if_true]

theorem programKekF_free {d : Dev} (hused : fuseBit d 8 = false) : programKekF d = fuseStart 4 0 d := by
  simp only [programKekF, hused, Bool.and_false, Bool.false_eq_true, if_false]

/-! ### The end of a fuse command (R332, R335) -/

/-- The device with a fuse command over and the bits of its data words that took. -/
def fuseWritten (got : List Word) (o : FuseOp) (d : Dev) : Dev :=
  let d0 := setF KEY_FUSE_STATUS_busy 0 { d with key := { d.key with fuse := none } }
  if fuseHasData o = true then
    forEach (List.range 8) (fun w x => setFuseWord o w (fuseWord x o w ||| (o.data.getD w 0#32 &&& got.getD w 0#32)) x) d0
  else d0

/-- A fuse command has succeeded: its mark took and, where it programs data words, none is missing and the seal stayed shut. -/
def FuseGood (got : List Word) (mark : Bool) (o : FuseOp) (d : Dev) : Prop :=
  mark = true ∧ (fuseHasData o = true → o.cut = false ∧ ∀ w, w < 8 → fuseWord (fuseWritten got o d) o w = o.data.getD w 0#32)

theorem fuseGood_iff (got : List Word) (mark : Bool) (o : FuseOp) (d : Dev) :
    ((!(fuseHasData o) || (List.range 8).all (fun w => fuseWord (fuseWritten got o d) o w == o.data.getD w 0#32)) && mark &&
      !(o.cut && fuseHasData o)) = true ↔ FuseGood got mark o d := by
  unfold FuseGood
  cases fuseHasData o
  · simp
  · simp only [Bool.not_true, Bool.false_or, Bool.and_true, Bool.and_eq_true, List.all_eq_true, List.mem_range, beq_iff_eq,
      Bool.not_eq_true', forall_const]
    tauto

theorem fuseCompleteF_good {got : List Word} {mark : Bool} {o : FuseOp} {d : Dev} (ho : d.key.fuse = some o)
    (hgood : FuseGood got mark o d) : fuseCompleteF got mark d =
      raise 0x680C o.cmd (keyResult 0x00 2 (setF ⟨KEY_FUSE_STATUS, fuseMark o, 1⟩ 1 (fuseWritten got o d))) := by
  simp only [fuseCompleteF, ho]
  exact if_pos ((fuseGood_iff got mark o d).mpr hgood)

theorem fuseCompleteF_bad {got : List Word} {mark : Bool} {o : FuseOp} {d : Dev} (ho : d.key.fuse = some o)
    (hbad : ¬ FuseGood got mark o d) : fuseCompleteF got mark d =
      raise 0x680D o.cmd (keyResult 0x07 2
        (doIf (o.cmd % 2 == 1) (setF ⟨KEY_FUSE_STATUS, 11 + o.slot, 1⟩ 1) (fuseWritten got o d))) := by
  simp only [fuseCompleteF, ho]
  exact if_neg (fun h => hbad ((fuseGood_iff got mark o d).mp h))

theorem fuseCommandComplete_runsTo {got : List Word} {mark : Bool} {s : State} {d : Dev} (hp : s.pwr.powered = true)
    (hd : fuseCompleteF got mark s.toDev = d) : runsTo (.fuseCommandComplete got mark) s d :=
  runsTo_of_powered (fuseCompleteF got mark) rfl hp hd

theorem fuseCompleteF_none {got : List Word} {mark : Bool} {d : Dev} (ho : d.key.fuse = none) : fuseCompleteF got mark d = d := by
  simp only [fuseCompleteF, ho]

/-! ### The presence window and the seal (R329 to R331) -/

theorem presenceAssert_runsTo {s : State} {d : Dev} (hp : s.pwr.powered = true) (hd : presenceAssertF s.toDev = d) :
    runsTo .presenceAssert s (wakeBy 6 d) :=
  runsTo_of_powered (fun x => wakeBy 6 (presenceAssertF x)) rfl hp (congrArg (wakeBy 6) hd)

theorem presenceAssertF_open {d : Dev} (hm : windowMayOpen d = true) : presenceAssertF d =
    raise 0x6801 1 (satAdd KEY_PRESENCE_opens 1
      (setF KEY_STATUS_window 1 { d with key := { d.key with winEnd := d.lpc.ck + 60 * 32768 } })) := by
  simp only [presenceAssertF, hm, doIf_true]

theorem presenceAssertF_barred {d : Dev} (hm : windowMayOpen d = false) : presenceAssertF d = d := by
  simp only [presenceAssertF, hm, doIf_false]

theorem closeWindow_open {d : Dev} (hw : windowOpen d = true) : closeWindow d = raise 0x6801 0 (setF KEY_STATUS_window 0 d) :=
  if_pos hw

theorem closeWindow_closed {d : Dev} (hw : windowOpen d = false) : closeWindow d = d := by
  simp only [closeWindow, hw, Bool.false_eq_true, if_false]

theorem presenceWindowExpiry_runsTo {s : State} {d : Dev} (hp : s.pwr.powered = true)
    (hd : doIf (decide (s.key.winEnd ≤ s.lpc.ck)) closeWindow s.toDev = d) : runsTo .presenceWindowExpiry s d :=
  runsTo_of_powered (fun x => doIf (decide (x.key.winEnd ≤ x.lpc.ck)) closeWindow x) rfl hp hd

/-- The seal found open: the window shut, opened latched, the opening counted and a fuse command cut short, before the policy
acts (R331). -/
def sealOpened (d : Dev) : Dev :=
  let d1 := setF KEY_STATUS_opened 1 (closeWindow (setF KEY_SEAL_state 1 (setF KEY_STATUS_seal 1 d)))
  let d2 := lifeAdd 15 1 (keyCount 6 (satAdd KEY_SEAL_opens 1 d1))
  raise 0x6802 (zeroPolicy d) { d2 with key := { d2.key with fuse := d2.key.fuse.map (fun o => { o with cut := true }) } }

theorem sealOpenF_eq (d : Dev) : sealOpenF d =
    let d4 := doIf (zeroPolicy d == 1 || zeroPolicy d == 2) (zeroStart 1) (sealOpened d)
    if zeroPolicy d = 2 then { d4 with key := { d4.key with zeroKek := true } } else d4 := rfl

theorem sealOpenF_keep {d : Dev} (h : zeroPolicy d = 0) : sealOpenF d = sealOpened d := by
  simp [sealOpenF_eq, h]

theorem sealOpenF_zeroize {d : Dev} (h : zeroPolicy d = 1) : sealOpenF d = zeroStart 1 (sealOpened d) := by
  simp [sealOpenF_eq, h]

theorem sealOpenF_revoke {d : Dev} (h : zeroPolicy d = 2) : sealOpenF d =
    { zeroStart 1 (sealOpened d) with key := { (zeroStart 1 (sealOpened d)).key with zeroKek := true } } := by
  simp [sealOpenF_eq, h]

theorem sealOpen_runsTo {s : State} {d : Dev} (hp : s.pwr.powered = true) (hen : flag s.toDev KEY_LAYOUT_INFO_seal_en = true)
    (hu : unitOut s.toDev 0x33 = false) (hseal : flag s.toDev KEY_STATUS_seal = false) (hd : sealOpenF s.toDev = d) :
    runsTo .sealOpen s (wakeBy 5 d) := by
  refine runsTo_of_powered (fun x => doIf (flag x KEY_LAYOUT_INFO_seal_en && !(flag x KEY_STATUS_seal) && !(unitOut x 0x33))
    (fun y => wakeBy 5 (sealOpenF y)) x) rfl hp ?_
  simp only [hen, hu, hseal, Bool.not_false, Bool.and_self, doIf_true, hd]

theorem sealIntact_runsTo {s : State} (hp : s.pwr.powered = true) (hen : flag s.toDev KEY_LAYOUT_INFO_seal_en = true)
    (hu : unitOut s.toDev 0x33 = false) (hseal : flag s.toDev KEY_STATUS_seal = true) :
    runsTo .sealIntact s (raise 0x6803 0 (setF KEY_SEAL_state 0 (setF KEY_STATUS_seal 0 s.toDev))) := by
  refine runsTo_of_powered (fun x => doIf (flag x KEY_LAYOUT_INFO_seal_en && flag x KEY_STATUS_seal && !(unitOut x 0x33))
    sealIntactF x) rfl hp ?_
  simp only [hen, hu, hseal, Bool.not_false, Bool.and_self, doIf_true, sealIntactF]

theorem zeroizationCompleteF_some {d : Dev} {why : Nat} (hz : d.key.zero = some why) : zeroizationCompleteF d =
    raise 0x6804 (why + b2n d.key.zeroKek * 8)
      (doIf d.key.zeroKek blowKekRevoke { d with key := { d.key with zero := none, zeroKek := false } }) := by
  simp only [zeroizationCompleteF, hz]

/-! ### Debug access (R333) -/

theorem debugUnlockF_barred {d : Dev} (hb : fuseBit d 10 = true) : debugUnlockF d = keyResult 0x05 3 d := if_pos hb

theorem debugUnlockF_opens {d : Dev} (hb : fuseBit d 10 = false) (hdbg : flag d KEY_STATUS_debug = false) : debugUnlockF d =
    raise 0x680E 0 (keyResult 0x00 3 (setF KEY_DEBUG_unlock 1 (setF KEY_STATUS_debug 1 (zeroStart 2 d)))) := by
  simp only [debugUnlockF, hb, hdbg, Bool.false_eq_true, if_false]

/-- Settles O39: by command, the window open or shut and the controller idle or busy. -/
theorem keyPresenceAndFuseCommandsComplete : Obligations.KeyPresenceAndFuseCommandsComplete := by
  delta Obligations.KeyPresenceAndFuseCommandsComplete
  refine ⟨?fuses, ?debug, ?window, ?presence, ?complete, ?idle⟩
  case fuses =>
    intro r i s hg
    refine ⟨fun hw c hc => ?_, fun hw hu hb => ?_, fun hw hu hb c hc => ?_⟩
    · obtain ⟨k, hx, -⟩ := fuseCommand_exec r i c hc
      exact runsTo_of_rwp_closed (hx s) hg hw
    · refine ⟨fun h => ?_, fun h => ?_, fun h => ?_, fun h => ?_, fun h => ?_, fun h => ?_, ?_, ?_⟩
      · exact runsTo_of_rwp_open _ rfl hg hw ((programHashF_free h).trans (fuseStart_idle hu hb _ _))
      · exact runsTo_of_rwp_open _ rfl hg hw (programHashF_used hb h)
      · exact runsTo_of_rwp_open _ rfl hg hw ((revokeHashF_other h).trans (fuseStart_idle hu hb _ _))
      · exact runsTo_of_rwp_open _ rfl hg hw (revokeHashF_last hb h)
      · exact runsTo_of_rwp_open _ rfl hg hw ((programKekF_free h).trans (fuseStart_idle hu hb _ _))
      · exact runsTo_of_rwp_open _ rfl hg hw (programKekF_used hb h)
      · exact runsTo_of_rwp_open _ rfl hg hw (fuseStart_idle hu hb 8 0)
      · exact runsTo_of_rwp_open _ rfl hg hw (fuseStart_idle hu hb 16 0)
    · obtain ⟨k, hx, hbusy⟩ := fuseCommand_exec r i c hc
      exact runsTo_of_rwp_open k (hx s) hg hw (hbusy s.toDev hu hb)
  case debug =>
    intro r s hg
    refine ⟨fun hw => ?_, fun hw hb => ?_, fun hw hb hdbg => ?_⟩
    · exact runsTo_of_rwp_closed (k := debugUnlockF) rfl hg hw
    · exact runsTo_of_rwp_open debugUnlockF rfl hg hw (debugUnlockF_barred hb)
    · exact runsTo_of_rwp_open debugUnlockF rfl hg hw (debugUnlockF_opens hb hdbg)
  case window =>
    intro r s hg
    refine ⟨fun hw => ?_, fun hw => ?_, fun hw => ?_, fun hw => ?_⟩
    · exact runsTo_of_rwp_closed (k := keyClearOpenedF) rfl hg hw
    · exact runsTo_of_rwp_open keyClearOpenedF rfl hg hw rfl
    · exact runsTo_of_write (k := keyCloseF) rfl hg (congrArg (keyResult 0x00 1) (closeWindow_open hw))
    · exact runsTo_of_write (k := keyCloseF) rfl hg (congrArg (keyResult 0x00 1) (closeWindow_closed hw))
  case presence =>
    intro s hp
    refine ⟨fun hm => ?_, fun hm => ?_, fun hck => ?_, fun hw hck => ?_, ?sealed, fun why hz => ?_⟩
    · exact presenceAssert_runsTo hp (presenceAssertF_open hm)
    · exact presenceAssert_runsTo hp (presenceAssertF_barred hm)
    · refine presenceWindowExpiry_runsTo hp ?_
      rw [decide_eq_false (Nat.not_le.mpr hck), doIf_false]
    · refine presenceWindowExpiry_runsTo hp ?_
      rw [decide_eq_true hck, doIf_true, closeWindow_open hw]
    case sealed =>
      intro hen hu pol d1 d2 d3
      have hd3 : d3 = sealOpened s.toDev := rfl
      clear_value d3
      subst hd3
      exact ⟨fun hs hpol => sealOpen_runsTo hp hen hu hs (sealOpenF_keep hpol),
        fun hs hpol => sealOpen_runsTo hp hen hu hs (sealOpenF_zeroize hpol),
        fun hs hpol => sealOpen_runsTo hp hen hu hs (sealOpenF_revoke hpol), sealIntact_runsTo hp hen hu⟩
    · exact runsTo_of_powered zeroizationCompleteF rfl hp (zeroizationCompleteF_some hz)
  case complete =>
    intro got mark o s hp ho
    refine ⟨fun hgood => ?_, fun hbad hcmd => ?_, fun hbad hcmd => ?_⟩
    · exact fuseCommandComplete_runsTo hp (fuseCompleteF_good ho hgood)
    · refine fuseCommandComplete_runsTo hp ((fuseCompleteF_bad ho hbad).trans ?_)
      rw [hcmd]; rfl
    · refine fuseCommandComplete_runsTo hp ((fuseCompleteF_bad ho hbad).trans ?_)
      rw [hcmd]; rfl
  case idle =>
    intro got mark s ho
    refine runsTo_of_upd (f := fun d => doIf d.pwr.powered (fuseCompleteF got mark) d) rfl ?_
    exact doIf_ind (P := fun d => d = s.toDev) _ _ _ (fuseCompleteF_none ho) rfl

/-! ### Core commands (R368) -/

theorem coreCmd_barred {r : Req} {d : Dev} (h : coreCmdBy d r = false) (fits : Dev → Bool) (f : Dev → Dev) :
    coreCmd r fits f d = ctlResult 1 d := by
  simp only [coreCmd, h, Bool.not_false, if_true]

theorem coreCmd_unfit {r : Req} {d : Dev} (h : coreCmdBy d r = true) {fits : Dev → Bool} (hf : fits d = false) (f : Dev → Dev) :
    coreCmd r fits f d = ctlResult 3 d := by
  simp only [coreCmd, h, hf, Bool.not_true, Bool.not_false, Bool.false_eq_true, if_false, if_true]

theorem coreCmd_fits {r : Req} {d : Dev} (h : coreCmdBy d r = true) {fits : Dev → Bool} (hf : fits d = true) (f : Dev → Dev) :
    coreCmd r fits f d = f d := by
  simp only [coreCmd, h, hf, Bool.not_true, Bool.false_eq_true, if_false]

/-- Each of the three core commands is a core command of CTL_CORE_CMD. -/
theorem coreCommand_exec (r : Req) (c : Fin 4) : ∀ i ∈ [Instr.coreStart r c, .coreHalt r c, .coreReadmit r c],
    ∃ fits f, ∀ s, exec i s = s.upd (guardWrite r (CTL_CORE_CMD c.val) (coreCmd r fits f)) := by
  simp only [List.forall_mem_cons]
  exact ⟨⟨_, _, fun _ => rfl⟩, ⟨_, _, fun _ => rfl⟩, ⟨_, _, fun _ => rfl⟩, by simp⟩

/-! ### Sleep (R368) -/

theorem sleepOp_sleeps {c : Nat} {d : Dev} (hst : coreState d c = 2)
    (h : ∀ k ∈ coreGroup d c, unread d (3 + k) = 0 ∧ (Machine.core d k).timerExc = false) :
    sleepOp c d = forEach (coreGroup d c) (fun k x => setCore k 3 x) d := by
  refine if_neg ?_
  rintro (hne | hany)
  · exact hne hst
  · obtain ⟨k, hk, hw⟩ := List.any_eq_true.mp hany
    simp [h k hk] at hw

theorem sleepOp_runsOn {c : Nat} {d : Dev}
    (h : ∃ k ∈ coreGroup d c, unread d (3 + k) ≠ 0 ∨ (Machine.core d k).timerExc = true) : sleepOp c d = d := by
  obtain ⟨k, hk, hw⟩ := h
  refine if_pos (.inr (List.any_eq_true.mpr ⟨k, hk, ?_⟩))
  rcases hw with hw | hw <;> simp [hw]

/-! ### Exceptions (R369) -/

/-- The banks of the returns before an exception given back (R369). -/
def banksGivenBack (c : Nat) (x : CoreExc) (d : Dev) : Dev :=
  modGroup c (fun k => { k with banks := k.banks.take (k.banks.length - x.returns) }) d

theorem exceptionOp_plain {c : Nat} {x : CoreExc} {d : Dev}
    (h : x.kind = .illegal ∨ x.kind = .other ∨ (x.kind = .userEntry ∧ flag d CTL_STATUS_user_ok = false)) :
    exceptionOp c x d = takeExc c x.pc x.status (freeVal (banksGivenBack c x d)) (draw (banksGivenBack c x d)) := by
  rcases h with h | h | ⟨h, hu⟩
  · simp only [exceptionOp, h, banksGivenBack]
  · simp only [exceptionOp, h, banksGivenBack]
  · simp only [exceptionOp, h, hu, Bool.false_eq_true, if_false, banksGivenBack]

theorem exceptionOp_userEntry {c : Nat} {x : CoreExc} {d : Dev} (h : x.kind = .userEntry)
    (hu : flag d CTL_STATUS_user_ok = true) : exceptionOp c x d = banksGivenBack c x d := by
  simp only [exceptionOp, h, hu, if_true, banksGivenBack]

theorem exceptionOp_timer {c : Nat} {x : CoreExc} {d : Dev} (h : x.kind = .timer)
    (ht : (Machine.core (banksGivenBack c x d) c).timerExc = true) : exceptionOp c x d =
      takeExc c x.pc x.status (freeVal (banksGivenBack c x d))
        (modCore c (fun k => { k with timerExc := false }) (draw (banksGivenBack c x d))) := by
  unfold banksGivenBack at ht ⊢
  simp only [exceptionOp, h, ht, if_true]

theorem exceptionOp_timer_idle {c : Nat} {x : CoreExc} {d : Dev} (h : x.kind = .timer)
    (ht : (Machine.core (banksGivenBack c x d) c).timerExc = false) : exceptionOp c x d = banksGivenBack c x d := by
  unfold banksGivenBack at ht ⊢
  simp only [exceptionOp, h, ht, Bool.false_eq_true, if_false]

theorem exceptionOp_access {c : Nat} {x : CoreExc} {d : Dev} {va : Nat} {acc : MemAcc} {user : Bool}
    (h : x.kind = .access va acc user) :
    exceptionOp c x d = coreAccess c va x.pc x.status acc user (banksGivenBack c x d) := by
  simp only [exceptionOp, h, banksGivenBack]

theorem coreAccess_ok {c va pc status : Nat} {acc : MemAcc} {user : Bool} {d : Dev}
    (h : accessFault (coreXlat c va acc user d).2 (coreXlat c va acc user d).1 acc = none) :
    coreAccess c va pc status acc user d = (coreXlat c va acc user d).2 := by
  simp only [coreAccess, h]

theorem coreAccess_fault {c va pc status cause lvl : Nat} {acc : MemAcc} {user : Bool} {d : Dev}
    (h : accessFault (coreXlat c va acc user d).2 (coreXlat c va acc user d).1 acc = some (cause, lvl)) :
    coreAccess c va pc status acc user d =
      takeExc c pc status va (mmuFault c cause lvl va acc user (coreXlat c va acc user d).2) := by
  simp only [coreAccess, h]

theorem coreException_runsTo {c : Fin 4} {x : CoreExc} {s : State} {d : Dev} (hon : domOn s.toDev .ctl = true)
    (hst : coreState s.toDev c.val = 2) (hd : exceptionOp c.val x s.toDev = d) : runsTo (.coreException c x) s d :=
  runsTo_of_doIf (c := fun d => domOn d .ctl && coreState d c.val == 2) rfl (by simp [hon, hst]) hd

/-! ### Watchdogs and timers (R370, R371) -/

theorem elapsed_of_le {t span : Nat} {d : Dev} (h : t + span ≤ now16 d) : elapsed t span d = true := by
  simp [elapsed, h]

theorem not_elapsed {t span : Nat} {d : Dev} (hle : t ≤ now16 d) (hlt : now16 d < t + span) : elapsed t span d = false := by
  simp only [elapsed, Bool.or_eq_false_iff, decide_eq_false_iff_not]
  omega

/-- The watchdog is off, or its period has not passed. -/
theorem watchdogOp_waits {c : Nat} {d : Dev}
    (h : fld d CTL_WDOG_CFG_ms = 0 ∨ elapsed (Machine.core d c).kickAt (fld d CTL_WDOG_CFG_ms * 65536000000) d = false) :
    watchdogOp c d = d := by
  refine if_pos ?_
  rcases h with h | h <;> simp [h]

theorem watchdogOp_expires {c : Nat} {d : Dev} (hst : coreState d c = 2) (hms : fld d CTL_WDOG_CFG_ms ≠ 0)
    (he : elapsed (Machine.core d c).kickAt (fld d CTL_WDOG_CFG_ms * 65536000000) d = true) :
    watchdogOp c d = coreFail c 2 0x08 (coreReport c 0x08 0x7002 (setCore c 1 d)) := by
  refine if_neg ?_
  simp [hst, hms, he]

theorem coreTimerOp_waits {c : Nat} {d : Dev}
    (h : (Machine.core d c).tmr = false ∨ due (rd64 d (CTL_CORE_TMR_LO c)) (near d) = false) : coreTimerOp c d = d := by
  refine if_pos ?_
  rcases h with h | h <;> simp [h]

/-- The comparator of a core disarmed with its exception raised (R371). -/
def timerRaised (c : Nat) (d : Dev) : Dev := modCore c (fun x => { x with tmr := false, timerExc := true }) d

theorem coreTimerOp_fires {c : Nat} {d : Dev} (ht : (Machine.core d c).tmr = true)
    (hdue : due (rd64 d (CTL_CORE_TMR_LO c)) (near d) = true) : coreTimerOp c d =
      doIf (coreState d c == 3) (fun y => forEach (coreGroup d c) (fun k x => setCore k 2 x) y) (timerRaised c d) := by
  refine if_neg ?_
  simp [ht, hdue]

theorem coreTimerFire_runsTo {c : Fin 4} {s : State} {d : Dev} (hon : domOn s.toDev .ctl = true)
    (hd : coreTimerOp c.val s.toDev = d) : runsTo (.coreTimerFire c) s d :=
  runsTo_of_doIf (c := fun d => domOn d .ctl) rfl hon hd

theorem watchdogExpiry_runsTo {c : Fin 4} {s : State} {d : Dev} (hon : domOn s.toDev .ctl = true)
    (hd : watchdogOp c.val s.toDev = d) : runsTo (.watchdogExpiry c) s d :=
  runsTo_of_doIf (c := fun d => domOn d .ctl) rfl hon hd

theorem sleepInstruction_runsTo {c : Fin 4} {s : State} {d : Dev} (hon : domOn s.toDev .ctl = true)
    (hd : sleepOp c.val s.toDev = d) : runsTo (.sleepInstruction c) s d :=
  runsTo_of_doIf (c := fun d => domOn d .ctl) rfl hon hd

/-- Settles O44: the core commands by requester and state, the events of a running core, and its kick and timer. -/
theorem coreCommandsComplete : Obligations.CoreCommandsComplete := by
  delta Obligations.CoreCommandsComplete
  refine ⟨?commands, ?running, ?timers⟩
  case commands =>
    intro r c s hg
    refine ⟨fun hby i hi => ?_, fun hby => ⟨fun hst => ?_, fun hst => ?_, fun hst => ?_, fun hst => ?_, fun hst hu => ?_,
      fun hst => ?_⟩⟩
    · obtain ⟨fits, f, hx⟩ := coreCommand_exec r c i hi
      exact runsTo_of_write (hx s) hg (coreCmd_barred hby fits f)
    · exact runsTo_of_write rfl hg (coreCmd_fits hby (by simp [hst]) _)
    · exact runsTo_of_write rfl hg (coreCmd_unfit hby (by simp [hst]) _)
    · exact runsTo_of_write rfl hg (coreCmd_fits hby (by simp [hst]) _)
    · exact runsTo_of_write rfl hg (coreCmd_unfit hby (by simp [hst]) _)
    · exact runsTo_of_write rfl hg (coreCmd_fits hby (by simp [hst, hu]) _)
    · exact runsTo_of_write rfl hg (coreCmd_unfit hby (by rcases hst with h | h <;> simp [h]) _)
  case running =>
    intro c s hon hst
    refine ⟨fun h => ?_, fun h => ?_, ?exception, fun h => ?_, fun hle hlt => ?_, fun hms hle => ?_⟩
    · exact sleepInstruction_runsTo hon (sleepOp_sleeps hst h)
    · exact sleepInstruction_runsTo hon (sleepOp_runsOn h)
    case exception =>
      intro x d0 takes
      have hd0 : d0 = banksGivenBack c.val x s.toDev := rfl
      have htakes : takes = takeExc c.val x.pc x.status := rfl
      clear_value d0 takes
      subst hd0 htakes
      refine ⟨fun h => ?_, fun h hu => ?_, fun h ht => ?_, fun h ht => ?_, fun va acc user h => ⟨fun hok => ?_, fun cause lvl hf => ?_⟩⟩
      · exact coreException_runsTo hon hst (exceptionOp_plain h)
      · exact coreException_runsTo hon hst (exceptionOp_userEntry h hu)
      · exact coreException_runsTo hon hst (exceptionOp_timer h ht)
      · exact coreException_runsTo hon hst (exceptionOp_timer_idle h ht)
      · exact coreException_runsTo hon hst ((exceptionOp_access h).trans (coreAccess_ok hok))
      · exact coreException_runsTo hon hst ((exceptionOp_access h).trans (coreAccess_fault hf))
    · exact watchdogExpiry_runsTo hon (watchdogOp_waits (.inl h))
    · exact watchdogExpiry_runsTo hon (watchdogOp_waits (.inr (not_elapsed hle hlt)))
    · exact watchdogExpiry_runsTo hon (watchdogOp_expires hst hms (elapsed_of_le hle))
  case timers =>
    intro c s hon
    refine ⟨?_, fun k v h => ?_, fun ht => ?_, fun hdue => ?_, fun ht hdue => ⟨fun hst => ?_, fun hst => ?_⟩⟩
    · exact runsTo_of_doIf (c := fun d => domOn d .ctl && c == c && 0x0000C0DE#32 == 0x0000C0DE#32) (f := kickCore c.val) rfl
        (by simp [hon]) rfl
    · refine runsTo_of_doIf_false (c := fun d => domOn d .ctl && k == c && v == 0x0000C0DE#32) (f := kickCore c.val) rfl ?_
      rcases h with h | h <;> simp [h]
    · exact coreTimerFire_runsTo hon (coreTimerOp_waits (.inl ht))
    · exact coreTimerFire_runsTo hon (coreTimerOp_waits (.inr hdue))
    · refine coreTimerFire_runsTo hon ((coreTimerOp_fires ht hdue).trans ?_)
      rw [beq_eq_false_iff_ne.mpr hst]; rfl
    · refine coreTimerFire_runsTo hon ((coreTimerOp_fires ht hdue).trans ?_)
      rw [beq_iff_eq.mpr hst]; rfl

/-! ### The recorder (R425, R427, R428, R435, R436) -/

theorem recorderWriteF_nil {d : Dev} (h : d.log.inq = []) : recorderWriteF d = d := by
  simp only [recorderWriteF, h]

theorem recorderWriteF_cons {d : Dev} {x : LRec} {xs : List LRec} (h : d.log.inq = x :: xs) : recorderWriteF d =
    pmcSup (pmcAdd 0x0601 1 (wrN LOG_WR_SEQ (rdN d LOG_WR_SEQ + 1)
      (setRamWords (recBase + 32 * (rdN d LOG_WR_SEQ % 8192)) (recWords x) { d with log := { d.log with inq := xs } }))) := by
  simp only [recorderWriteF, h]

/-- A cursor that does not lie before LOG_OLDEST stays (R428). -/
theorem cursorFloor_within {r : Req} {d : Dev} (h : seqDiff (logOldest d) (logCur d r) ≤ 0) : cursorFloor r d = d :=
  if_neg (not_lt.mpr h)

/-- The record at the cursor latched whole (R428). -/
theorem rec0ReadF_record {r : Req} {d : Dev} (h : logCur (cursorFloor r d) r ≠ rdN (cursorFloor r d) LOG_WR_SEQ) :
    rec0ReadF r d =
      let d1 := cursorFloor r d
      let word := fun w => ramWord d1 (recBase + 32 * (logCur d1 r % 8192) + 4 * w)
      let d3 := setF ⟨own LOG_RD_STATUS (reqCode r), 0, 1⟩ 0 (forEach (List.range 8) (fun w x => setLatch (LOG_REC w) r (word w) x) d1)
      { d3 with resp := [word 0], log := { d3.log with emptyRd := d3.log.emptyRd.filter (fun x => x != reqCode r) } } := by
  simp only [rec0ReadF, decide_eq_false h, Bool.false_eq_true, if_false, b2n]

/-- Zeros latched at a cursor with no record (R428). -/
theorem rec0ReadF_empty {r : Req} {d : Dev} (h : logCur (cursorFloor r d) r = rdN (cursorFloor r d) LOG_WR_SEQ) :
    rec0ReadF r d =
      let d1 := cursorFloor r d
      let d3 := setF ⟨own LOG_RD_STATUS (reqCode r), 0, 1⟩ 1 (forEach (List.range 8) (fun w x => setLatch (LOG_REC w) r 0#32 x) d1)
      { d3 with resp := [0#32], log := { d3.log with emptyRd := reqCode r :: d3.log.emptyRd.filter (fun x => x != reqCode r) } } := by
  simp only [rec0ReadF, decide_eq_true h, if_true, b2n]
  rfl

theorem rec7ReadF_advance {r : Req} {d : Dev} (hinc : bitsOf (rd d (own LOG_RD_CTL (reqCode r))) 0 1 = 1)
    (he : reqCode r ∉ d.log.emptyRd) : rec7ReadF r d =
      { wrN (own LOG_CUR (reqCode r)) (logCur d r + 1) d with resp := [latched d (LOG_REC 7) r] } := by
  have hcond : (bitsOf (rd d (own LOG_RD_CTL (reqCode r))) 0 1 == 1 && !(d.log.emptyRd.contains (reqCode r))) = true := by
    simp [hinc, he]
  simp only [rec7ReadF, hcond, doIf_true]

theorem rec7ReadF_stay {r : Req} {d : Dev}
    (h : bitsOf (rd d (own LOG_RD_CTL (reqCode r))) 0 1 = 0 ∨ reqCode r ∈ d.log.emptyRd) :
    rec7ReadF r d = { d with resp := [latched d (LOG_REC 7) r] } := by
  have hcond : (bitsOf (rd d (own LOG_RD_CTL (reqCode r))) 0 1 == 1 && !(d.log.emptyRd.contains (reqCode r))) = false := by
    rcases h with h | h <;> simp [h]
  simp only [rec7ReadF, hcond, doIf_false]

theorem recorderWeirSweep_runsTo {s : State} {d : Dev} (hp : s.pwr.powered = true) (hd : weirSweepF s.toDev = d) :
    runsTo .recorderWeirSweep s d :=
  runsTo_of_powered weirSweepF rfl hp hd

theorem thermalSample_runsTo {t : Int} {osc : Fin 16} {s : State} {d : Dev} (hp : s.pwr.powered = true)
    (hd : thermalSampleF t osc.val s.toDev = d) : runsTo (.thermalSample t osc) s d :=
  runsTo_of_powered (thermalSampleF t osc.val) rfl hp hd

/-- Settles O50: each command of the recorder by the branch that its state picks. -/
theorem recorderCommandsComplete : Obligations.RecorderCommandsComplete := by
  delta Obligations.RecorderCommandsComplete
  refine ⟨?seconds, ?reads, ?cursor⟩
  case seconds =>
    intro s hp
    refine ⟨fun h => ?_, fun x xs h => ?_, fun hs => ?_, fun hs => ?_, fun t osc hs => ?_, fun t osc hs => ?_⟩
    · exact runsTo_of_powered recorderWriteF rfl hp (recorderWriteF_nil h)
    · exact runsTo_of_powered recorderWriteF rfl hp (recorderWriteF_cons h)
    · refine recorderWeirSweep_runsTo hp ?_
      rw [weirSweepF, hs, doIf_true]
    · refine recorderWeirSweep_runsTo hp ?_
      rw [weirSweepF, hs, doIf_false]
    · refine thermalSample_runsTo hp ?_
      rw [thermalSampleF, hs, doIf_false]
    · refine thermalSample_runsTo hp ?_
      rw [thermalSampleF, hs, doIf_true]
      rfl
  case reads =>
    intro r s hg0 hg7
    refine ⟨cursorFloor_within, fun h => ?_, fun h => ?_, fun hinc he => ?_, fun h => ?_⟩
    · exact runsTo_of_read rfl hg0 (rec0ReadF_record h)
    · exact runsTo_of_read rfl hg0 (rec0ReadF_empty h)
    · exact runsTo_of_read rfl hg7 (rec7ReadF_advance hinc he)
    · exact runsTo_of_read rfl hg7 (rec7ReadF_stay h)
  case cursor =>
    intro r v s hg
    refine ⟨fun h => ?_, fun h => ?_⟩
    · exact runsTo_of_write rfl hg (congrArg (fun n => wrN (own LOG_CUR (reqCode r)) n s.toDev) (if_neg (not_lt.mpr h)))
    · exact runsTo_of_write rfl hg (congrArg (fun n => wrN (own LOG_CUR (reqCode r)) n s.toDev) (if_pos h))

end Sys2Proof.Proofs

/-! PROOFS about the supply: Off, what runs in it, and the commands that enter and leave it. -/

namespace Sys2Proof.Proofs

open Sys2Proof Sys2Proof.Machine Sys2Proof.Laws

/-! ### Writes of one register, as commands -/

/-- A command that is a write of one register is a guarded write of that register. -/
theorem exec_of_cmdWrite {i : Instr} {r : Req} {a : Nat} (h : cmdWrite i = some (r, a)) :
    ∃ k, ∀ s, exec i s = s.upd (guardWrite r a k) := by
  cases i <;> cases h <;> exact ⟨_, fun _ => rfl⟩

/-! ### Off (R41) -/

theorem isOff_iff (d : Dev) : d.isOff = true ↔ d.pwr.powered = false ∧ ∀ n < 14, n ≠ 0 → domOnN d n = false := by
  simp only [Dev.isOff, Bool.and_eq_true, Bool.not_eq_true', List.all_eq_true, List.mem_range, Bool.or_eq_true, beq_iff_eq]
  exact and_congr_right fun _ => forall₂_congr fun n _ => or_iff_not_imp_left

theorem domNum_ne_zero {p : Dom} (h : p ≠ .aon) : domNum p ≠ 0 := by
  revert h
  cases p <;> decide

theorem domNum_lt (p : Dom) : domNum p < 14 := by
  cases p <;> decide

theorem powered_of_isOff {d : Dev} (h : d.isOff = true) : d.pwr.powered = false := ((isOff_iff d).mp h).1

theorem domOn_of_isOff {d : Dev} (h : d.isOff = true) {p : Dom} (hp : p ≠ .aon) : domOn d p = false :=
  ((isOff_iff d).mp h).2 (domNum p) (domNum_lt p) (domNum_ne_zero hp)

theorem reaches_of_isOff {d : Dev} (h : d.isOff = true) (r : Req) : reaches d r = false := by
  simp [reaches, powered_of_isOff h]

/-- A command whose effect on the device is none answers the state it was given. -/
theorem exec_eq_self {i : Instr} {s : State} {f : Dev → Dev} (hx : exec i s = s.upd f) (h : f s.toDev = s.toDev) :
    exec i s = .next s := by
  rw [hx, upd_next, h]

/-- A command whose effect stands under a condition that fails answers the state it was given. -/
theorem exec_of_cond_false {i : Instr} {s : State} {c : Dev → Bool} {f : Dev → Dev → Dev}
    (hx : exec i s = s.upd (fun d => doIf (c d) (f d) d)) (hc : c s.toDev = false) : exec i s = .next s :=
  exec_eq_self hx (by simp only [hc, doIf_false])

theorem live_of_isOff {d : Dev} (h : d.isOff = true) (f : Dev → Dev) : live f d = d := by
  rw [live, powered_of_isOff h, doIf_false]

theorem busWrite_of_isOff {d : Dev} (h : d.isOff = true) (r : Req) (a : Nat) (v : Word) : busWrite r a v d = d := by
  simp [busWrite, reaches_of_isOff h]

theorem measOn_of_isOff {d : Dev} (h : d.isOff = true) : measOn d = false := by
  simp [measOn, domOn_of_isOff h]

theorem gnOn_of_isOff {d : Dev} (h : d.isOff = true) : gnOn d = false := domOn_of_isOff h (by decide)

theorem refOn_of_isOff {d : Dev} (h : d.isOff = true) : refOn d = false := domOn_of_isOff h (by decide)

theorem archOn_of_isOff {d : Dev} (h : d.isOff = true) : archOn d = false := domOn_of_isOff h (by decide)

theorem dmaOn_of_isOff {d : Dev} (h : d.isOff = true) : dmaOn d = false := by
  simp [dmaOn, domOn_of_isOff h]

theorem twnAlive_of_isOff {d : Dev} (h : d.isOff = true) : twnAlive d = false := by
  simp [twnAlive, domOn_of_isOff h]

theorem dsgAlive_of_isOff {d : Dev} (h : d.isOff = true) : dsgAlive d = false := powered_of_isOff h

theorem dsgHears_of_isOff {d : Dev} (h : d.isOff = true) : dsgHears d = false := by
  simp [dsgHears, dsgAlive_of_isOff h]

theorem epochDue_of_isOff {d : Dev} (h : d.isOff = true) (t : Nat) : epochDue d t = false := by
  simp [epochDue, domOn_of_isOff h]

theorem mrFrame_of_isOff {d : Dev} (h : d.isOff = true) (ok : Bool) (k : Dev → Dev) : mrFrame ok k d = d := by
  simp [mrFrame, twnAlive_of_isOff h]

/-- A round of the claim bus in Off hears nothing, and so finds no partner lost. -/
theorem roundEnd_of_isOff {d : Dev} (h : d.isOff = true) (present : Bool) (claim : Nat) : roundEnd present claim d = d := by
  simp [roundEnd, busRuns, powered_of_isOff h]

/-- In Off every command but VIN_RISE does nothing: by the guard it stands behind. -/
theorem exec_of_isOff {i : Instr} {s : State} (h : s.toDev.isOff = true) (hi : i ≠ .vinRise) : exec i s = .next s := by
  have hp := powered_of_isOff h
  have hreach := reaches_of_isOff h
  have hdom := fun p (hne : p ≠ Dom.aon) => domOn_of_isOff h hne
  have hmeas := measOn_of_isOff h
  have htwn := twnAlive_of_isOff h
  have hdsg := dsgAlive_of_isOff h
  have hdma := dmaOn_of_isOff h
  have harch := archOn_of_isOff h
  have href := refOn_of_isOff h
  have hgn := gnOn_of_isOff h
  cases i with
  | vinRise => exact absurd rfl hi
  -- the accesses of a requester
  | registerWrite | highWordCommit => exact exec_eq_self rfl (busWrite_of_isOff h _ _ _)
  | rcRead | lowWordLatchRead | pcieConfigWrite => exact exec_of_cond_false (by unfold exec; exact rfl) (hreach _)
  | dsgQStatusRead | evqRecordRead | fltLatchRead | fltRailRead | logRec0Read | logRec7Read =>
    exact exec_eq_self rfl (by simp [guardRead, hreach])
  | bulkDataRead => exact exec_eq_self rfl (by simp [bulkReadF, hreach])
  | pcieMemoryRead | timeLatchRead => exact exec_eq_self (by unfold exec; exact rfl) (by simp [hreach])
  -- what needs power
  | lkgTimeExpiry => exact exec_of_cond_false (by unfold exec; exact rfl) (by simp [hp])
  | vinFall | i2cWriteTransfer | i2cReadTransfer => exact exec_eq_self (by unfold exec; exact rfl) (by simp [hp])
  | eventRaise => exact exec_eq_self rfl (by simp [eventRaiseF, hp])
  | vinWarn | resetNAssert | resetNRelease | bootSequence | ck32kSourceChange | railFault | railFaultRetry | pmbusPoll | stageAlert
  | avsStep | domainPowerUp | domainPowerDown | domainAckTimeout | disciplineWake | gnssWake | disciplineMeasurement
  | wakeMaxExpiry | wakeSource | lwExitTargetDue | reloadApply | spiRead | spiWrite | spiQuadRead | spiQuadWrite | pcieMemoryWrite
  | perstNAssert | perstNRelease | pcieLinkDown | flashPageProgramDone | flashEraseDone | channelSelftestDone | tbReadmitDone
  | stepWaitExpiry | slewComplete | holdoffExpiry | measPowerLoss | bandSearchComplete | pllLock | pllLockLoss | pllReferenceLoss
  | pllReferenceReturn | bandEntryParity | ppsChangeApply | calAgeExpiry | outputRealignDone | latencyCalComplete | linkUp
  | linkDown | rxFrame | txFrame | dsgTransmitOpportunity | dsgRealignDone | dsgEchoCalPeriod | dsgPdelayResponse | keyDelivery
  | keyDeliveryDiscard | presenceAssert | presenceWindowExpiry | sealOpen | sealIntact | zeroizationComplete
  | keyActivationEvaluation | keySlotParity | fuseCommandComplete | engineSelftest | rngHealthFailure | claimStageChange
  | sramParityAccess | recordDelivery | unitReport | railFaultDetect | selftestStart | selftestComplete | handlingNoTestExpiry
  | injectedReport | recorderWrite | recorderWeirSweep | thermalSample => exact exec_eq_self rfl (live_of_isOff h _)
  -- what needs PD_CTL
  | msixSend | pllClockReturn | sleepInstruction | watchdogExpiry | coreTimerFire | coreException | watchdogKick
  | lockstepMismatch => exact exec_of_cond_false (by unfold exec; exact rfl) (by simp [hdom])
  | pcieLinkUp | pllClockFallback | moderationExpiry | retargetTimeout | evqRecordParity | unitPoll | fatalDecision
  | readmitTestComplete | ledgerCopy | counterWrap =>
    exact exec_eq_self rfl (by simp [hdom, linkUpF, fallBackF, moderationExpiryF, retargetTimeoutF, recordParityF, pollUnit,
      fatalDecisionF, readmitDone, ledgerCopyF, counterAdd])
  | descriptorRetire | dmaPark => exact exec_of_cond_false (by unfold exec; exact rfl) (by simp [hdma])
  | dmaBeat => exact exec_eq_self rfl (by simp [hdma, dmaBeatF])
  | recorderPageProgram | archiveSectorErase => exact exec_of_cond_false (by unfold exec; exact rfl) (by simp [harch])
  | stateBlockPeriod | forcedStateBlock => exact exec_eq_self rfl (by simp [harch, periodBlock, forcedBlock])
  -- what needs PD_TB
  | epoch1us => exact exec_eq_self rfl (by simp [epoch1usF, epochDue_of_isOff h])
  | epoch1ms => exact exec_eq_self rfl (by simp [epoch1msF, hp])
  | tbAlarmFire => exact exec_of_cond_false (by unfold exec; exact rfl) (by simp [hdom])
  | utcOffsetChange | calendarLimit | tickOutOfRange =>
    exact exec_eq_self rfl (by simp [hdom, utcOffsetChangeF, calendarLimitF, tickRangeF])
  | qualifyTimerExpiry | suspectClearExpiry | slotResultTimeout | lockTimeExpiry | historyEntry | esmcTimeout =>
    exact exec_of_cond_false (by unfold exec; exact rfl) (by simp [href])
  | slotSignalTimeout | disagreeTimeExpiry | ensembleTimeout =>
    exact exec_eq_self rfl (by simp [href, slotSignalTimeoutF, disagreeExpiryF, ensembleTimeoutF])
  -- what needs PD_MEAS or PD_GNSS
  | schedulerGrant | measLoadSecond => exact exec_of_cond_false (by unfold exec; exact rfl) hmeas
  | refinEdge | channelCapture | intervalTimeout | requestComplete | requestDue | requestAgeLimit | inlRunTrigger | inlRunComplete
  | skewRunComplete =>
    exact exec_eq_self rfl (by simp [hmeas, refinEdgeF, channelCaptureF, intervalTimeoutF, requestDone, requestDueF, requestAgeLimitF,
      inlTriggerF, inlCompleteF, skewCompleteF])
  | dumpClose | epochLatchTimeout | epochRecordsWrite => exact exec_of_cond_false (by unfold exec; exact rfl) (by simp [hgn])
  | captureTrigger | captureComplete | snapshotParity | acqJobComplete | channelStartIndex | measurementEpoch =>
    exact exec_eq_self rfl (by simp [hgn, captureTriggerF, captureCompleteF, snapParityF, jobCompleteF, startIndexF,
      measurementEpochF])
  -- the drive segment
  | plcaFallbackTimeout | csmaSilence | dsgLwTemplateSend | dsgSignalLoss => exact exec_of_cond_false (by unfold exec; exact rfl) (by simp [hdsg])
  | dsgBeaconStart | dsgBeaconReceived | dsgClockSourceChange | dsgEntryDue | dsgLateDrop =>
    exact exec_eq_self rfl (by simp [hdsg, beaconStart, beaconReceived, clockSource, entryDue, lateDrop])
  | dsgRxFrame => exact exec_eq_self (by unfold exec; exact rfl) (by simp [dsgWakes, dsgReceive, dsgHears_of_isOff h])
  -- what needs PD_PKT or PD_SMEM
  | pipelineOperation | cryptoCreditTimeout | weirSweep | sessionParity | timedLaunch | hostTransmitRecord | nontimingResponse
  | esmcSend | leapIndicatorChange | servingChange | wheelSlotStart | sessionSweep =>
    exact exec_of_cond_false (by unfold exec; exact rfl) (by simp [hdom])
  -- the twin
  | claimBusFault | partnerLossExpiry | retentionExceeded | healthFrameSend | healthStale =>
    exact exec_of_cond_false (by unfold exec; exact rfl) (by simp [htwn])
  | millraceLinkTraining | millraceLinkLoss | huntTest => exact exec_eq_self rfl (by simp [htwn, millraceTrain, linkLoss, hunt])
  | alignmentFrame | journalRecord | mirrorAcknowledge | requestAgain | sweepRecord | healthFrameReceived =>
    exact exec_eq_self rfl (mrFrame_of_isOff h _ _)
  | helloReceived => exact exec_eq_self (by unfold exec; exact rfl) (by simp [htwn])
  | mirrorCommitReceived => exact exec_eq_self (by unfold exec; exact rfl) (by simp [mrFrame_of_isOff h, htwn])
  | claimRoundEnd present claim =>
    have hstill : (decide (s.twn.absent < 2) && decide (s.twn.absent = 2)) = false := by
      rw [Bool.and_eq_false_iff, decide_eq_false_iff_not, decide_eq_false_iff_not]; omega
    change execClaimRoundEnd present claim s = _
    simp only [execClaimRoundEnd, upd_next, roundEnd_of_isOff h, hstill, doIf_false]
  -- every other command is a write of one register
  | _ => exact exec_eq_self rfl (guardWrite_unreached _ (hreach _))

theorem step_of_isOff {s : State} {i : Instr} {rest : List Instr} (hq : s.pending = i :: rest) (h : s.toDev.isOff = true)
    (hi : i ≠ .vinRise) : step s = .next { s with pending := rest } := by
  simp only [step, hq]
  exact exec_of_isOff (s := { s with pending := rest }) h hi

theorem run_succ {M : Host.Core} {s t : M.State} (h : M.step s = .next t) (k : Nat) : M.run (k + 1) s = M.run k t := by
  simp only [Host.Core.run, h]

/-- A queue without VIN_RISE drains in Off and leaves the device as it was. -/
theorem run_of_isOff (q : List Instr) : ∀ s : State, s.pending = q → s.toDev.isOff = true → .vinRise ∉ q →
    Host.Core.run core q.length s = .next { s with pending := [] } := by
  induction q with
  | nil => intro s hq _ _; cases s; cases hq; rfl
  | cons i rest ih =>
    intro s hq h hi
    obtain ⟨hne, hrest⟩ := not_or.mp (mt List.mem_cons.mpr hi)
    have hstep : Host.Core.step core s = .next { s with pending := rest } := step_of_isOff hq h (Ne.symm hne)
    exact (run_succ hstep rest.length).trans (ih { s with pending := rest } rfl h hrest)

/-- Settles O4: command by command by its guard, then along the queue. -/
theorem offIgnoresEveryCommandButVinRise : Obligations.OffIgnoresEveryCommandButVinRise :=
  ⟨fun _ _ h hi => exec_of_isOff h hi, fun s h hi => run_of_isOff s.pending s rfl h hi⟩

end Sys2Proof.Proofs

namespace Sys2Proof.Proofs

open Sys2Proof Sys2Proof.Machine Sys2Proof.Laws

/-! ### VIN_FALL and VIN_RISE (R41, R443) -/

theorem cget_ckeep {α : Type} (dflt : Nat → α) (p : Nat → Bool) (m : Cells α) (a : Nat) :
    cget dflt (ckeep p m) a = if p a = true then cget dflt m a else dflt a := by
  induction m with
  | nil => simp [ckeep, cget]
  | cons c m ih =>
    unfold ckeep at ih ⊢
    by_cases hc : c.1 = a
    · subst hc
      cases hp : p c.1 <;> simp_all [cget]
    · cases hp : p c.1 <;> simp_all [cget]

/-- Without supply the fuses alone keep their contents. -/
theorem rd_offDev (d : Dev) (a : Nat) : rd (offDev d) a = if isFuse a = true then rd d a else resetOf a :=
  cget_ckeep resetOf isFuse d.regs a

theorem rd_offDev_fuse (d : Dev) {a : Nat} (h : isFuse a = true) : rd (offDev d) a = rd d a := by
  rw [rd_offDev, if_pos h]

theorem rd_offDev_other (d : Dev) {a : Nat} (h : isFuse a = false) : rd (offDev d) a = resetOf a := by
  rw [rd_offDev, h]; rfl

theorem rd_offDev_domStatus (d : Dev) : rd (offDev d) PWR_DOM_STATUS = 1#32 :=
  (rd_offDev_other d (by decide)).trans (by decide)

theorem isOff_offDev (d : Dev) : (offDev d).isOff = true := by
  have hbit : ∀ n < 14, n ≠ 0 → (bitsOf (1#32) n 1 == 1) = false := by decide
  refine (isOff_iff _).mpr ⟨rfl, fun n hn h0 => ?_⟩
  rw [domOnN, rd_offDev_domStatus]
  exact hbit n hn h0

/-- The device as VIN rises, before the straps show. -/
def risenDev (d : Dev) : Dev := { offDev d with pwr := { (offDev d).pwr with powered := true } }

theorem vinRiseF_off {d : Dev} (h : d.pwr.powered = false) : vinRiseF d = showStraps d.pwr.straps (risenDev d) := by
  simp only [vinRiseF, h, risenDev]
  rfl

/-- The straps show in PWR_SYSREF and TWN_BUS_STATUS alone. -/
theorem rd_showStraps (st : Straps) (d : Dev) {a : Nat} (hs : a ≠ PWR_SYSREF) (ht : a ≠ TWN_BUS_STATUS) :
    rd (showStraps st d) a = rd d a := by
  rw [showStraps, setB, rd_setF_other (f := TWN_BUS_STATUS_side) _ _ ht, rd_setF_other (f := PWR_SYSREF_strap) _ _ hs]
  rfl

theorem rd_vinRise (d : Dev) {a : Nat} (hs : a ≠ PWR_SYSREF) (ht : a ≠ TWN_BUS_STATUS) :
    rd (showStraps d.pwr.straps (risenDev d)) a = rd (offDev d) a := rd_showStraps _ _ hs ht

theorem isFuse_straps {a : Nat} (h : isFuse a = true) : a ≠ PWR_SYSREF ∧ a ≠ TWN_BUS_STATUS := by
  have hs : isFuse PWR_SYSREF = false := by decide
  have ht : isFuse TWN_BUS_STATUS = false := by decide
  exact ⟨fun e => by simp [e, hs] at h, fun e => by simp [e, ht] at h⟩

theorem fld_vinRise_reset (d : Dev) {f : Fld} (hs : f.reg ≠ PWR_SYSREF) (ht : f.reg ≠ TWN_BUS_STATUS) (hf : isFuse f.reg = false) :
    fld (showStraps d.pwr.straps (risenDev d)) f = bitsOf (resetOf f.reg) f.lo f.wd := by
  rw [fld, rd_vinRise d hs ht, rd_offDev_other d hf]

/-- Settles O5: what stands without supply, and what VIN_RISE makes of it. -/
theorem supplyCommandsMoveBetweenOffAndBoot : Obligations.SupplyCommandsMoveBetweenOffAndBoot := by
  unfold Obligations.SupplyCommandsMoveBetweenOffAndBoot
  refine fun s => ⟨fun hp => ?fall, fun hp => ?rise⟩
  case fall =>
    refine ⟨offDev s.toDev, runsTo_of_upd (f := fun d => if d.pwr.powered = true then offDev d else d) rfl (if_pos hp), ?_⟩
    exact ⟨isOff_offDev _, rfl, rfl, fun a ha => rd_offDev_fuse _ ha, fun a ha => rd_offDev_other _ ha⟩
  case rise =>
    refine ⟨showStraps s.pwr.straps (risenDev s.toDev), runsTo_of_upd (f := vinRiseF) rfl (vinRiseF_off hp), rfl, ?_, ?_, ?_, rfl,
      fun a ha => ?_, fun a ha hs ht => ?_⟩
    · exact (fld_vinRise_reset s.toDev (by decide) (by decide) (by decide)).trans (by decide)
    · exact (fld_vinRise_reset s.toDev (by decide) (by decide) (by decide)).trans (by decide)
    · exact (rd_vinRise s.toDev (by decide) (by decide)).trans (rd_offDev_domStatus _)
    · obtain ⟨hs, ht⟩ := isFuse_straps ha
      exact (rd_vinRise s.toDev hs ht).trans (rd_offDev_fuse _ ha)
    · exact (rd_vinRise s.toDev hs ht).trans (rd_offDev_other _ ha)

end Sys2Proof.Proofs

/-! PROOFS about register writes whose domain is off, and about PERST_N. -/

namespace Sys2Proof.Proofs

open Sys2Proof Sys2Proof.Machine Sys2Proof.Laws

/-! ### Writes of a register whose domain is off (R23, R78) -/

theorem guardWrite_offDomain {d : Dev} {r : Req} {a : Nat} (k : Dev → Dev) (hreach : reaches d r = true)
    (hmay : (fullRights d r || obsMayWrite d r a) = true) (hoff : regOn d a = false) : guardWrite r a k d = offAccess r a d := by
  have hright : (!(fullRights d r) && !(obsMayWrite d r a)) = false := by
    rw [← Bool.not_or, hmay]; rfl
  simp [guardWrite, hreach, hright, hoff]

/-- The registers of an access to a domain that is off, before its event. -/
def offMarks (r : Req) (a : Nat) (d : Dev) : Dev :=
  setF HIF_OFF_ACCESS_block (blkNum a) (satAdd HIF_OFF_ACCESS_count 1 (hifErr HIF_ERR_off_domain r d))

/-- The requester's last event 0x0401 is less than 1 ms old. -/
def offRecent (r : Req) (d : Dev) : Prop :=
  ∃ t, cget (fun _ => none) d.hif.offAt (reqCode r) = some t ∧ t ≤ now16 d ∧ now16 d < t + ms16

theorem offAccess_recent {r : Req} {d : Dev} (h : offRecent r d) (a : Nat) : offAccess r a d = offMarks r a d := by
  obtain ⟨t, hlast, hle, hlt⟩ := h
  simp only [offAccess, hlast, hle, hlt, decide_true, Bool.and_self, if_true]
  rfl

/-- The marks with the time of the event noted for the requester. -/
def offNoted (r : Req) (a : Nat) (d : Dev) : Dev :=
  { offMarks r a d with hif := { (offMarks r a d).hif with
      offAt := cput (fun _ => none) (offMarks r a d).hif.offAt (reqCode r) (some (now16 d)) } }

/-- An access to a domain that is off leaves its marks alone, or notes and raises its event beside. -/
theorem offAccess_cases (r : Req) (a : Nat) (d : Dev) :
    offAccess r a d = offMarks r a d ∨ offAccess r a d = raise 0x0401 (hifParam r (blkNum a)) (offNoted r a d) :=
  ite_eq_or_eq _ _ _

/-- Beside the marks and the note of its time, an access to a domain that is off changes what raising an event can change. -/
theorem keepsRaise_offAccess (r : Req) (a : Nat) (d : Dev) :
    ∃ h : Hif, keepsRaise { offMarks r a d with hif := h } (offAccess r a d) := by
  rcases offAccess_cases r a d with h | h <;> rw [h]
  · exact ⟨(offMarks r a d).hif, keepsRaise_refl _⟩
  · exact ⟨(offNoted r a d).hif, keepsRaise_raise _ _ _⟩

theorem rd_offAccess (r : Req) (a : Nat) (d : Dev) {b : Nat} (hb : isPmc (b % bankSpan) = false) :
    rd (offAccess r a d) b = rd (offMarks r a d) b := by
  obtain ⟨h, hk⟩ := keepsRaise_offAccess r a d
  exact hk.1 b hb

theorem fld_offAccess (r : Req) (a : Nat) (d : Dev) {f : Fld} (hf : isPmc (f.reg % bankSpan) = false) :
    fld (offAccess r a d) f = fld (offMarks r a d) f := by
  rw [fld, fld, rd_offAccess r a d hf]

/-- HIF_ERR takes its error bit and, where no error bit was set, the requester. -/
theorem rd_hifErr_other (f : Fld) (r : Req) (d : Dev) {b : Nat} (hf : f.reg = HIF_ERR) (hb : b ≠ HIF_ERR) :
    rd (hifErr f r d) b = rd d b := by
  have hset : rd (setF f 1 d) b = rd d b := rd_setF_other _ _ (hf ▸ hb)
  refine doIf_ind (P := fun e => rd e b = rd d b) _ _ _ ?_ hset
  rw [rd_setF_other (f := HIF_ERR_who) _ _ hb, hset]

theorem fld_hifErr_other (f : Fld) (r : Req) (d : Dev) {g : Fld} (hf : f.reg = HIF_ERR) (hg : g.reg ≠ HIF_ERR) :
    fld (hifErr f r d) g = fld d g := by
  rw [fld, fld, rd_hifErr_other f r d hf hg]

theorem fld_hifErr_bit (r : Req) (d : Dev) : fld (hifErr HIF_ERR_off_domain r d) HIF_ERR_off_domain = 1 := by
  have hset : fld (setF HIF_ERR_off_domain 1 d) HIF_ERR_off_domain = 1 := fld_setF_same _ _ _ (by decide)
  refine doIf_ind (P := fun e => fld e HIF_ERR_off_domain = 1) _ _ _ ?_ hset
  rw [fld_setF_other _ _ (by decide), hset]

theorem reqCode_lt (r : Req) : reqCode r < 2 ^ HIF_ERR_who.wd := by cases r <;> decide

theorem fld_hifErr_who (r : Req) (d : Dev) :
    fld (hifErr HIF_ERR_off_domain r d) HIF_ERR_who = if bitsOf (rd d HIF_ERR) 0 5 = 0 then reqCode r else fld d HIF_ERR_who := by
  unfold hifErr
  by_cases h : bitsOf (rd d HIF_ERR) 0 5 = 0
  · simp only [h, decide_true, doIf_true, if_true]
    rw [fld_setF_same _ _ _ (by decide), Nat.mod_eq_of_lt (reqCode_lt r)]
  · simp only [h, decide_false, doIf_false, if_false]
    exact fld_setF_other _ _ (by decide)

theorem fld_offMarks_err (r : Req) (a : Nat) (d : Dev) {f : Fld} (hf : f.reg = HIF_ERR) :
    fld (offMarks r a d) f = fld (hifErr HIF_ERR_off_domain r d) f := by
  have hne : f.reg ≠ HIF_OFF_ACCESS := by rw [hf]; decide
  rw [offMarks, satAdd, fld_setF_other _ _ (.inl hne), fld_setF_other _ _ (.inl hne)]

theorem satU_lt (w n : Nat) : satU w n < 2 ^ w := by
  unfold satU
  have := Nat.two_pow_pos w
  split <;> omega

theorem fld_offMarks_count (r : Req) (a : Nat) (d : Dev) :
    fld (offMarks r a d) HIF_OFF_ACCESS_count = satU HIF_OFF_ACCESS_count.wd (fld d HIF_OFF_ACCESS_count + 1) := by
  rw [offMarks, fld_setF_other _ _ (by decide), satAdd, fld_setF_same _ _ _ (by decide), Nat.mod_eq_of_lt (satU_lt _ _),
    fld_hifErr_other _ _ _ rfl (by decide)]

theorem fld_offMarks_block (r : Req) (a : Nat) (d : Dev) :
    fld (offMarks r a d) HIF_OFF_ACCESS_block = blkNum a % 2 ^ HIF_OFF_ACCESS_block.wd := fld_setF_same _ _ _ (by decide)

theorem rd_offMarks_other (r : Req) (a : Nat) (d : Dev) {b : Nat} (herr : b ≠ HIF_ERR) (hoff : b ≠ HIF_OFF_ACCESS) :
    rd (offMarks r a d) b = rd d b := by
  rw [offMarks, satAdd, rd_setF_other (f := HIF_OFF_ACCESS_block) _ _ hoff, rd_setF_other (f := HIF_OFF_ACCESS_count) _ _ hoff,
    rd_hifErr_other _ _ _ rfl herr]

/-- The marks are writes of registers. -/
theorem offMarks_regs_only (r : Req) (a : Nat) (d : Dev) : ∃ c, offMarks r a d = { d with regs := c } := by
  unfold offMarks hifErr
  cases decide (bitsOf (rd d HIF_ERR) 0 5 = 0) <;> exact ⟨_, rfl⟩

theorem sameMem_offAccess (r : Req) (a : Nat) (d : Dev) : sameMem d (offAccess r a d) := by
  obtain ⟨h, hk⟩ := keepsRaise_offAccess r a d
  obtain ⟨c, hc⟩ := offMarks_regs_only r a d
  have hmem : sameMem d { offMarks r a d with hif := h } := by rw [hc]; exact ⟨rfl, rfl, rfl⟩
  obtain ⟨hram, hbad, hflash⟩ := hmem
  exact ⟨(keepsRaise_ram hk).trans hram, (keepsRaise_badWords hk).trans hbad, (keepsRaise_flash hk).trans hflash⟩

/-- Settles O8: the guard's second branch, and what it records, register by register. -/
theorem offDomainWriteIsDiscarded : Obligations.OffDomainWriteIsDiscarded := by
  unfold Obligations.OffDomainWriteIsDiscarded
  refine ⟨fun i r a s hw hreach hmay hoff => ?_, fun r a d => ⟨?bit, ?count, ?block, ?who, ?quiet, ?regs, sameMem_offAccess r a d⟩⟩
  · obtain ⟨k, hx⟩ := exec_of_cmdWrite hw
    exact runsTo_of_upd (hx s) (guardWrite_offDomain k hreach hmay hoff)
  case bit => rw [fld_offAccess r a d (by decide), fld_offMarks_err r a d rfl, fld_hifErr_bit]
  case count => rw [fld_offAccess r a d (by decide), fld_offMarks_count]
  case block => rw [fld_offAccess r a d (by decide), fld_offMarks_block]
  case who => rw [fld_offAccess r a d (by decide), fld_offMarks_err r a d rfl, fld_hifErr_who]
  case quiet =>
    intro t hlast hle hlt
    obtain ⟨c, hc⟩ := offMarks_regs_only r a d
    rw [offAccess_recent ⟨t, hlast, hle, hlt⟩, hc]
    exact ⟨rfl, rfl⟩
  case regs =>
    intro b hb hpmc
    simp only [List.mem_cons, List.not_mem_nil, or_false, not_or] at hb
    rw [rd_offAccess r a d hpmc, rd_offMarks_other r a d hb.1 hb.2]

end Sys2Proof.Proofs

namespace Sys2Proof.Proofs

open Sys2Proof Sys2Proof.Machine Sys2Proof.Laws

/-! ### PERST_N (R69) -/

/-- What releasing a bulk channel keeps: the device state, and everything but registers, events, the recorder's input, the free
values, and the hidden state of HIF, KEY and the time service. -/
def keepsBlocks (d e : Dev) : Prop :=
  rd e PWR_STATUS = rd d PWR_STATUS ∧
  { e with regs := d.regs, evq := d.evq, log := d.log, ctr := d.ctr, hif := d.hif, key := d.key, net := d.net } = d

theorem keepsBlocks_refl (d : Dev) : keepsBlocks d d := ⟨rfl, rfl⟩

theorem keepsBlocks_trans {d e g : Dev} (h1 : keepsBlocks d e) (h2 : keepsBlocks e g) : keepsBlocks d g := by
  obtain ⟨hr1, he1⟩ := h1
  obtain ⟨hr2, he2⟩ := h2
  exact ⟨hr2.trans hr1, by rw [← he1, ← he2]⟩

theorem keepsBlocks_of_keepsRaise {d e : Dev} (h : keepsRaise d e) : keepsBlocks d e := by
  obtain ⟨hreg, he⟩ := h
  exact ⟨hreg _ (by decide), by rw [← he]⟩

theorem keepsBlocks_raise {d e : Dev} (code param : Nat) (h : keepsBlocks d e) : keepsBlocks d (raise code param e) :=
  keepsBlocks_trans h (keepsBlocks_of_keepsRaise (keepsRaise_raise _ _ _))

theorem keepsBlocks_wr {d e : Dev} {a : Nat} (v : Word) (ha : PWR_STATUS ≠ a) (h : keepsBlocks d e) : keepsBlocks d (wr a v e) :=
  keepsBlocks_trans h ⟨rd_wr_other _ _ ha, rfl⟩

theorem keepsBlocks_wrN {d e : Dev} {a : Nat} (v : Nat) (ha : PWR_STATUS ≠ a) (h : keepsBlocks d e) : keepsBlocks d (wrN a v e) :=
  keepsBlocks_wr _ ha h

theorem keepsBlocks_setF {d e : Dev} {f : Fld} (v : Nat) (ha : PWR_STATUS ≠ f.reg) (h : keepsBlocks d e) :
    keepsBlocks d (setF f v e) := keepsBlocks_wr _ ha h

theorem keepsBlocks_with {d e : Dev} (q : Evq) (l : Log) (c : Nat) (m : Hif) (k : Key) (n : Net) (h : keepsBlocks d e) :
    keepsBlocks d { e with evq := q, log := l, ctr := c, hif := m, key := k, net := n } :=
  keepsBlocks_trans h ⟨rfl, rfl⟩

theorem keepsBlocks_key {d e : Dev} (k : Key) (h : keepsBlocks d e) : keepsBlocks d { e with key := k } :=
  keepsBlocks_with _ _ _ _ k _ h

theorem keepsBlocks_hif {d e : Dev} (m : Hif) (h : keepsBlocks d e) : keepsBlocks d { e with hif := m } :=
  keepsBlocks_with _ _ _ m _ _ h

theorem keepsBlocks_doIf {d e : Dev} (b : Bool) {f : Dev → Dev} (hf : ∀ x, keepsBlocks d x → keepsBlocks d (f x))
    (h : keepsBlocks d e) : keepsBlocks d (doIf b f e) := keeps_doIf hf h

/-- A delivery refused is dropped, counted, shown and raised (R322). -/
theorem keepsBlocks_dlvRefuse {d e : Dev} (c cause : Nat) (h : keepsBlocks d e) : keepsBlocks d (dlvRefuse c cause e) := by
  unfold dlvRefuse keyCount satAdd dlvDone
  exact keepsBlocks_raise _ _ (keepsBlocks_setF _ (by decide) (keepsBlocks_wrN _ (by decide) (keepsBlocks_key _ h)))

theorem keepsBlocks_wr64 {d e : Dev} {a : Nat} (v : Nat) (ha : PWR_STATUS < a) (h : keepsBlocks d e) : keepsBlocks d (wr64 a v e) :=
  keepsBlocks_wrN _ (by omega) (keepsBlocks_wrN _ (by omega) h)

theorem lt_bank {a : Nat} (i : Nat) (h : PWR_STATUS < a) : PWR_STATUS < bank a i := by
  unfold bank; omega

/-- A delivery is written into registers of KEY and its slot. -/
theorem keepsBlocks_dlvWrite {d e : Dev} (kind slot keyId act exp : Nat) (b : List Byte) (h : keepsBlocks d e) :
    keepsBlocks d (dlvWrite kind slot keyId act exp b e) := by
  have hreg : ∀ {a : Nat}, PWR_STATUS < a → PWR_STATUS ≠ a := fun ha => by omega
  unfold dlvWrite markFresh
  split
  · exact keepsBlocks_key _ (keepsBlocks_key _ (keepsBlocks_wr64 _ (by unfold KEY_NTS_END_LO PWR_STATUS; omega)
      (keepsBlocks_wr64 _ (by unfold KEY_NTS_ACT_LO PWR_STATUS; omega)
        (keepsBlocks_setF _ (hreg (by unfold KEY_NTS_STATE_state KEY_NTS_STATE PWR_STATUS; dsimp only; omega))
          (keepsBlocks_wrN _ (hreg (by unfold KEY_NTS_ID PWR_STATUS; omega)) h)))))
  · exact keepsBlocks_key _ (keepsBlocks_key _ (keepsBlocks_wr64 _ (lt_bank _ (by decide)) (keepsBlocks_wr64 _ (lt_bank _ (by decide))
      (keepsBlocks_wrN _ (hreg (lt_bank _ (by decide))) (keepsBlocks_wrN _ (hreg (lt_bank _ (by decide)))
        (keepsBlocks_wrN _ (hreg (lt_bank _ (by decide))) h))))))
  · exact keepsBlocks_key _ (keepsBlocks_wrN _ (hreg (by unfold KEY_OSN_ID PWR_STATUS; omega))
      (keepsBlocks_wrN _ (hreg (by unfold KEY_OSN_STATE PWR_STATUS; omega)) h))
  · exact keepsBlocks_setF _ (by decide) (keepsBlocks_key _ h)

theorem keepsBlocks_dlvFinish {d e : Dev} (c type kind slot keyId : Nat) (b : List Byte) (h : keepsBlocks d e) :
    keepsBlocks d (dlvFinish c type kind slot keyId b e) := by
  unfold dlvFinish
  split
  · exact keepsBlocks_dlvRefuse _ _ h
  · split
    · exact keepsBlocks_dlvRefuse _ _ h
    · unfold keyCount satAdd dlvDone
      exact keepsBlocks_raise _ _ (keepsBlocks_setF _ (by decide) (keepsBlocks_wrN _ (by decide) (keepsBlocks_key _
        (keepsBlocks_wrN _ (by decide) (keepsBlocks_with _ _ _ _ _ _ (keepsBlocks_dlvWrite _ _ _ _ _ _ h))))))

theorem keepsBlocks_crdMove {d e : Dev} (sha : Bool) (src dst n : Nat) (h : keepsBlocks d e) :
    keepsBlocks d (crdMove sha src dst n e) := by
  have hreg : ∀ t, PWR_STATUS ≠ crdReg sha t := by
    intro t
    unfold crdReg KEY_CRD_SHA_FREE KEY_CRD_AES_FREE PWR_STATUS
    split <;> omega
  exact keepsBlocks_wrN _ (hreg dst) (keepsBlocks_wrN _ (hreg src) h)

theorem keepsBlocks_crdUse {d e : Dev} (t : Nat) (kinds : List Bool) {k : Dev → Dev}
    (hk : ∀ x, keepsBlocks d x → keepsBlocks d (k x)) (h : keepsBlocks d e) : keepsBlocks d (crdUse t kinds k e) :=
  keeps_forEach (fun b _ hx => keepsBlocks_crdMove b t 0 1 hx)
    (hk _ (keeps_forEach (fun b _ hx => keepsBlocks_crdMove b 0 t 1 hx) h))

theorem keepsBlocks_jobDone {d e : Dev} (sha : Bool) (h : keepsBlocks d e) : keepsBlocks d (jobDone sha e) :=
  keepsBlocks_trans (keepsBlocks_with _ _ _ _ _ _ h) (keepsBlocks_of_keepsRaise (keepsRaise_pmcAdd _ _ (draw e)))

theorem keepsBlocks_dlvProcess {d e : Dev} (c : Nat) (h : keepsBlocks d e) : keepsBlocks d (dlvProcess c e) := by
  unfold dlvProcess
  split
  · exact keepsBlocks_dlvRefuse _ _ h
  · dsimp only
    split
    · exact keepsBlocks_dlvFinish _ _ _ _ _ _ h
    · split
      · exact keepsBlocks_setF _ (by decide) (keepsBlocks_setF _ (by decide) (keepsBlocks_key _ h))
      · refine keepsBlocks_crdUse _ _ (fun x hx => ?_) (keepsBlocks_jobDone _ h)
        split
        · exact keepsBlocks_dlvRefuse _ _ hx
        · exact keepsBlocks_dlvFinish _ _ _ _ _ _ hx

theorem keepsBlocks_dlvDiscard {d e : Dev} (c : Nat) (h : keepsBlocks d e) : keepsBlocks d (dlvDiscard c e) := by
  unfold dlvDiscard
  split
  · exact keepsBlocks_doIf _ (fun _ => keepsBlocks_dlvProcess c) h
  · exact keepsBlocks_doIf _ (fun _ => keepsBlocks_dlvRefuse c 0x0B) h

theorem keepsBlocks_bulkAbortOp {d e : Dev} (c : Nat) (h : keepsBlocks d e) : keepsBlocks d (bulkAbortOp c e) := by
  have hcl : keepsBlocks d (dropPages c (setF (HIF_BULK_STATUS_err c) 0 e)) :=
    keepsBlocks_hif _ (keepsBlocks_setF _ (by unfold HIF_BULK_STATUS_err HIF_BULK_STATUS PWR_STATUS; dsimp only; omega) h)
  have hdlv := keepsBlocks_doIf (bulkTarget e c == 0x3) (fun _ => keepsBlocks_dlvDiscard c) hcl
  unfold bulkAbortOp
  dsimp only
  split
  · split
    · exact hdlv
    · exact keepsBlocks_wrN _ (by decide) (keepsBlocks_wrN _ (by decide) (keepsBlocks_with _ _ _ _ _ _ hdlv))
  · exact hdlv

theorem keepsBlocks_snapSettle {d e : Dev} (h : keepsBlocks d e) : keepsBlocks d (snapSettle e) := by
  unfold snapSettle
  dsimp only
  split
  · exact h
  · split
    · exact keepsBlocks_setF _ (by decide) h
    · exact keepsBlocks_setF _ (by decide) (keepsBlocks_setF _ (by decide) h)

theorem keepsBlocks_bulkReleaseOp {d e : Dev} {c : Nat} (hc : c < 8) (h : keepsBlocks d e) : keepsBlocks d (bulkReleaseOp c e) :=
  keepsBlocks_snapSettle (keepsBlocks_hif _ (keepsBlocks_wrN _ (by unfold HIF_BULK_SEL PWR_STATUS; omega) (keepsBlocks_bulkAbortOp c h)))

/-- The endpoint's own registers and functions cleared, before the channels of PF0 and PF1 are released (R69). -/
def endpointCleared (d : Dev) : Dev :=
  wr HIF_LINK_DBG 0 (wr HIF_REPLAY_CNT 0 (wr HIF_RXERR_CNT 0 (setF HIF_STATUS_link_up 0 (setF HIF_STATUS_speed 0
    (setF HIF_STATUS_width 0 (setF HIF_STATUS_pf0_d 0 (setF HIF_STATUS_pf1_d 0 { d with hif := { d.hif with
      f0 := { pcieReset with pba := d.hif.f0.pba, sent := d.hif.f0.sent }
      f1 := { pcieReset with pba := d.hif.f1.pba, sent := d.hif.f1.sent } } })))))))

theorem rd_endpointCleared_other (d : Dev) {b : Nat} (hs : b ≠ HIF_STATUS) (hl : b ≠ HIF_LINK_DBG) (hr : b ≠ HIF_REPLAY_CNT)
    (hx : b ≠ HIF_RXERR_CNT) : rd (endpointCleared d) b = rd d b := by
  rw [endpointCleared, rd_wr_other _ _ hl, rd_wr_other _ _ hr, rd_wr_other _ _ hx, rd_setF_other (f := HIF_STATUS_link_up) _ _ hs,
    rd_setF_other (f := HIF_STATUS_speed) _ _ hs, rd_setF_other (f := HIF_STATUS_width) _ _ hs,
    rd_setF_other (f := HIF_STATUS_pf0_d) _ _ hs, rd_setF_other (f := HIF_STATUS_pf1_d) _ _ hs]
  rfl

/-- A bulk channel released with its cursor and limit cleared. -/
def channelFreed (c : Nat) (d : Dev) : Dev := wr (HIF_BULK_CURSOR c) 0 (wr (HIF_BULK_LIMIT c) 0 (bulkReleaseOp c d))

theorem endpointReset_eq (d : Dev) : endpointReset d =
    forEach (List.range 8) (fun c x => doIf (bulkOwner x c == 1 || bulkOwner x c == 2) (channelFreed c) x) (endpointCleared d) := rfl

theorem keepsBlocks_endpointCleared (d : Dev) : keepsBlocks d (endpointCleared d) :=
  keepsBlocks_wr _ (by decide) (keepsBlocks_wr _ (by decide) (keepsBlocks_wr _ (by decide) (keepsBlocks_setF _ (by decide)
    (keepsBlocks_setF _ (by decide) (keepsBlocks_setF _ (by decide) (keepsBlocks_setF _ (by decide) (keepsBlocks_setF _ (by decide)
      (keepsBlocks_hif _ (keepsBlocks_refl d)))))))))

theorem keepsBlocks_channelFreed {d e : Dev} {c : Nat} (hc : c < 8) (h : keepsBlocks d e) : keepsBlocks d (channelFreed c e) :=
  keepsBlocks_wr _ (by unfold HIF_BULK_CURSOR PWR_STATUS; omega)
    (keepsBlocks_wr _ (by unfold HIF_BULK_LIMIT PWR_STATUS; omega) (keepsBlocks_bulkReleaseOp hc h))

/-- A property that the effect of each element of a list keeps. -/
theorem forEach_mem_ind {α : Type} {P : Dev → Prop} (l : List α) (f : α → Dev → Dev) (h : ∀ x ∈ l, ∀ e, P e → P (f x e)) :
    ∀ d, P d → P (forEach l f d) := by
  induction l with
  | nil => exact fun _ h0 => h0
  | cons x xs ih =>
    intro d h0
    rw [forEach_cons]
    exact ih (fun y hy => h y (List.mem_cons_of_mem _ hy)) _ (h x List.mem_cons_self d h0)

theorem keepsBlocks_endpointReset {d e : Dev} (h : keepsBlocks d e) : keepsBlocks d (endpointReset e) := by
  rw [endpointReset_eq]
  refine forEach_mem_ind (P := keepsBlocks d) _ _ (fun c hc x hx => ?_) _ (keepsBlocks_trans h (keepsBlocks_endpointCleared e))
  exact keepsBlocks_doIf _ (fun _ => keepsBlocks_channelFreed (List.mem_range.mp hc)) hx

/-- With no channel of PF0 or PF1 the reset of the endpoint releases none. -/
theorem endpointReset_noChannel {d : Dev} (h : ∀ c : Fin 8, bulkOwner d c.val ≠ 1 ∧ bulkOwner d c.val ≠ 2) :
    endpointReset d = endpointCleared d := by
  rw [endpointReset_eq]
  refine forEach_mem_ind (P := fun x => x = endpointCleared d) _ _ (fun c hc x hx => ?_) _ rfl
  have howner : bulkOwner x c = bulkOwner d c := by
    have hc8 := List.mem_range.mp hc
    rw [hx, bulkOwner, fld, rd_endpointCleared_other]
    · rfl
    all_goals simp only [HIF_BULK_SEL_owner, HIF_BULK_SEL, HIF_STATUS, HIF_LINK_DBG, HIF_REPLAY_CNT, HIF_RXERR_CNT]; omega
  obtain ⟨h1, h2⟩ := h ⟨c, List.mem_range.mp hc⟩
  have hfree : (bulkOwner x c == 1 || bulkOwner x c == 2) = false := by simp [howner, h1, h2]
  rw [hfree, doIf_false, hx]

/-- The device as PERST_N goes low, before the event. -/
def perstMarked (d : Dev) : Dev := setF HIF_STATUS_perst 1 (doIf (domOn d .ctl) endpointReset d)

theorem perstLow_low {d : Dev} (h : flag d HIF_STATUS_perst = true) : perstLow d = d := if_pos h

theorem perstLow_high {d : Dev} (h : flag d HIF_STATUS_perst = false) : perstLow d = raise 0x0407 0 (perstMarked d) :=
  if_neg (by simp [h])

theorem keepsBlocks_perstLow (d : Dev) : keepsBlocks d (perstLow d) := by
  cases h : flag d HIF_STATUS_perst
  · rw [perstLow_high h]
    exact keepsBlocks_raise _ _ (keepsBlocks_setF _ (by decide)
      (keepsBlocks_doIf _ (fun _ => keepsBlocks_endpointReset) (keepsBlocks_refl d)))
  · rw [perstLow_low h]
    exact keepsBlocks_refl d

/-- What stands where no channel of PF0 or PF1 is released: keys, the time service, the memories and the registers outside HIF. -/
def keepsOutsideHif (d e : Dev) : Prop :=
  e.key = d.key ∧ e.net = d.net ∧ sameMem d e ∧ ∀ a, 0x008000 ≤ a → isPmc (a % bankSpan) = false → rd e a = rd d a

theorem keepsOutsideHif_endpointCleared (d : Dev) : keepsOutsideHif d (endpointCleared d) := by
  refine ⟨rfl, rfl, ⟨rfl, rfl, rfl⟩, fun a ha _ => rd_endpointCleared_other d ?_ ?_ ?_ ?_⟩
  all_goals simp only [HIF_STATUS, HIF_LINK_DBG, HIF_REPLAY_CNT, HIF_RXERR_CNT]; omega

theorem keepsOutsideHif_raise {d e : Dev} (code param : Nat) (h : keepsOutsideHif d e) : keepsOutsideHif d (raise code param e) := by
  obtain ⟨hkey, hnet, ⟨hram, hbad, hflash⟩, hreg⟩ := h
  refine ⟨(raise_key _ _ _).trans hkey, (raise_net _ _ _).trans hnet,
    ⟨(raise_ram _ _ _).trans hram, (raise_badWords _ _ _).trans hbad, (raise_flash _ _ _).trans hflash⟩, fun a ha hpmc => ?_⟩
  rw [rd_raise _ _ _ hpmc, hreg a ha hpmc]

theorem keepsOutsideHif_perstLow {d : Dev} (h : ∀ c : Fin 8, bulkOwner d c.val ≠ 1 ∧ bulkOwner d c.val ≠ 2) :
    keepsOutsideHif d (perstLow d) := by
  have hself : keepsOutsideHif d d := ⟨rfl, rfl, ⟨rfl, rfl, rfl⟩, fun _ _ _ => rfl⟩
  cases hp : flag d HIF_STATUS_perst
  · rw [perstLow_high hp]
    have hreset : keepsOutsideHif d (doIf (domOn d .ctl) endpointReset d) := by
      refine doIf_ind _ _ _ ?_ hself
      rw [endpointReset_noChannel h]
      exact keepsOutsideHif_endpointCleared d
    obtain ⟨hkey, hnet, hmem, hreg⟩ := hreset
    refine keepsOutsideHif_raise _ _ ⟨hkey, hnet, hmem, fun a ha hpmc => ?_⟩
    rw [perstMarked, rd_setF_other (f := HIF_STATUS_perst) _ _ (by simp only [HIF_STATUS_perst, HIF_STATUS]; omega), hreg a ha hpmc]
  · rw [perstLow_low hp]
    exact hself

theorem devState_of_keepsBlocks {d e : Dev} (h : keepsBlocks d e) : devState e = devState d := by
  rw [devState, devState, fld, fld]
  exact congrArg (bitsOf · 0 3) h.1

theorem keepsBlocks_fields {d e : Dev} (h : keepsBlocks d e) :
    e.tb = d.tb ∧ e.lpc = d.lpc ∧ e.flt = d.flt ∧ e.pwr = d.pwr ∧ e.meas = d.meas ∧ e.ref = d.ref ∧ e.img = d.img ∧ e.bnd = d.bnd ∧
    e.syn = d.syn ∧ e.gn = d.gn ∧ e.dsg = d.dsg ∧ e.twn = d.twn ∧ e.ctl = d.ctl := by
  obtain ⟨-, he⟩ := h
  rw [← he]
  exact ⟨rfl, rfl, rfl, rfl, rfl, rfl, rfl, rfl, rfl, rfl, rfl, rfl, rfl⟩

/-- Settles O58: the blocks stand through every release of a channel, and the rest where no channel is released. -/
theorem perstKeepsStateTimescaleAndBlocks : Obligations.PerstKeepsStateTimescaleAndBlocks := by
  unfold Obligations.PerstKeepsStateTimescaleAndBlocks
  intro s hp
  have hblocks := keepsBlocks_perstLow s.toDev
  obtain ⟨htb, hlpc, hflt, hpwr, hmeas, href, himg, hbnd, hsyn, hgn, hdsg, htwn, hctl⟩ := keepsBlocks_fields hblocks
  exact ⟨perstLow s.toDev, runsTo_of_powered perstLow rfl hp rfl, devState_of_keepsBlocks hblocks, htb, hlpc, hflt, hpwr, hmeas, href,
    himg, hbnd, hsyn, hgn, hdsg, htwn, hctl, keepsOutsideHif_perstLow⟩

end Sys2Proof.Proofs

/-! PROOFS about one clock period without a command, and about the state after reset. -/

namespace Sys2Proof.Proofs

open Sys2Proof Sys2Proof.Machine Sys2Proof.Laws

/-! ### One clock period (log entry 32) -/

theorem step_nil {s : State} (h : s.pending = []) : step s = .next { s with toDev := idleF s.toDev } := by
  simp only [step, h, upd_next]

theorem idleF_off {d : Dev} (h : d.pwr.powered = false) : idleF d = d := by
  simp [idleF, h]

/-- What stands under a free bit happens or does not. -/
theorem withFreeBit_doIf (f : Dev → Dev) (d : Dev) :
    withFreeBit (fun b x => doIf b f x) d = draw d ∨ withFreeBit (fun b x => doIf b f x) d = f (draw d) := by
  unfold withFreeBit
  cases freeBits d 0 1 == 1
  · exact .inl (doIf_false f _)
  · exact .inr (doIf_true f _)

theorem idleF_seeded {d : Dev} (hp : d.pwr.powered = true) (htb : domOn d .tb = true) (hs : flag d TB_STATUS_seeded = true) :
    idleF d = withFreeBit (fun edge x => doIf edge lpcEdge x)
      (pmcAdd 0x0703 1 (measTick 1 (ppsTick (chanT (leadChan d)) (steerPlls (tickTb d))))) := by
  simp [idleF, hp, htb, hs]

theorem idleF_wake {d : Dev} (hp : d.pwr.powered = true) (hs : (domOn d .tb && flag d TB_STATUS_seeded) = false)
    (hw : d.pwr.wakeTick = true) : idleF d = withFreeBit (fun edge x => doIf edge lpcTick x) (measTick 1 d) := by
  simp only [idleF, hp, hs, hw, Bool.not_true, Bool.false_eq_true, if_false, if_true]

theorem idleF_edge {d : Dev} (hp : d.pwr.powered = true) (hs : (domOn d .tb && flag d TB_STATUS_seeded) = false)
    (hw : d.pwr.wakeTick = false) : idleF d = measTick 38146 (lpcTick d) := by
  simp only [idleF, hp, hs, hw, Bool.not_true, Bool.false_eq_true, if_false]

theorem lpcTick_crystal {d : Dev} (h : flag d PWR_STATUS_ck_rc = false) :
    lpcTick d = { d with lpc := { d.lpc with val := d.lpc.val + rd64 d TB_LPC_INC_LO, ck := d.lpc.ck + 1 } } :=
  if_neg (by simp [h])

theorem lpcTick_stands {d : Dev} (h : flag d PWR_STATUS_ck_rc = true) : lpcTick d = d := if_pos h

/-- Settles O2: by the branch of the clock period that the state picks. -/
theorem emptyQueueClockPeriod : Obligations.EmptyQueueClockPeriod := by
  unfold Obligations.EmptyQueueClockPeriod
  intro s hq
  rw [step_nil hq]
  refine ⟨fun hp => ?off, fun hp htb hs => ?seeded, fun hp hs hw => ⟨fun hck => ?crystal, fun hck => ?none⟩, fun hp hs hw => ?wake⟩
  case off => rw [idleF_off hp]
  case seeded =>
    rw [idleF_seeded hp htb hs]
    exact (withFreeBit_doIf lpcEdge _).imp (fun h => by rw [h]) (fun h => by rw [h])
  case crystal => rw [idleF_edge hp hs hw, lpcTick_crystal hck]
  case none => rw [idleF_edge hp hs hw, lpcTick_stands hck]
  case wake =>
    rw [idleF_wake hp hs hw]
    exact (withFreeBit_doIf lpcTick _).imp (fun h => by rw [h]) (fun h => by rw [h])

/-! ### The state after reset (R22, R41, R443) -/

/-- With no register written, each reads its reset value. -/
theorem rd_reset (a : Nat) : rd State.reset.toDev a = resetOf a := rfl

theorem domOnN_reset (n : Fin 14) : domOnN State.reset.toDev n.val = (n.val == 0) := by
  have hstatus : resetOf PWR_DOM_STATUS = 1#32 := by decide
  have hbit : ∀ n : Fin 14, (bitsOf (1#32) n.val 1 == 1) = (n.val == 0) := by decide
  rw [domOnN, rd_reset, hstatus, hbit]

theorem devState_reset : devState State.reset.toDev = stBoot := by
  rw [devState, fld, rd_reset]; decide

/-- Settles O53: the stores are empty, and the registers read their reset values. -/
theorem resetState : Obligations.ResetState :=
  ⟨rfl, rfl, devState_reset, domOnN_reset, rfl, rfl, rfl, rfl, rfl, rfl⟩

end Sys2Proof.Proofs

/-! PROOFS about RESET_N, the Boot sequence and the power domains. -/

namespace Sys2Proof.Proofs

open Sys2Proof Sys2Proof.Machine Sys2Proof.Laws

/-! ### RESET_N (R443, R456) -/

/-- The device in Boot with its cause, before the event of the change of state. -/
def bootMarked (cause : Nat) (d : Dev) : Dev :=
  let d1 := allDown upOrder d
  let d2 := { d1 with
    pwr := { d1.pwr with trans := .none, exitArmed := false, wakeDisc := false, wakeGnss := false, wakeTick := false, refreshTo := none,
                         ringDoms := [], declared := 0 }
    img := { d1.img with run := [], reload := none } }
  setF PWR_STATUS_boot_cause cause (setF PWR_STATUS_busy 0 (setF PWR_STATUS_lw 0 (setF PWR_STATUS_lw_wake 0 (bootRegs d2))))

theorem enterBoot_eq (cause : Nat) (d : Dev) : enterBoot cause d =
    if devState d = stBoot then lifeAdd 13 1 (bootMarked cause d)
    else raise 0x0C01 (devState d + stBoot * 16) (setF PWR_STATUS_state stBoot (lifeAdd 13 1 (bootMarked cause d))) := rfl

/-- The life counters of LOG lie beyond PWR_STATUS. -/
theorem fld_lifeAdd {f : Fld} (hf : f.reg = PWR_STATUS) (i n : Nat) (d : Dev) : fld (lifeAdd i n d) f = fld d f := by
  have hlo : f.reg ≠ LOG_LIFE_LO i ∧ f.reg ≠ LOG_LIFE_LO i + 4 := by
    rw [hf]; unfold PWR_STATUS LOG_LIFE_LO; omega
  rw [fld, fld, lifeAdd, rd_wr64_other _ _ hlo.1 hlo.2]

theorem fld_enterBoot_cause {cause : Nat} (hc : cause < 2 ^ PWR_STATUS_boot_cause.wd) (d : Dev) :
    fld (enterBoot cause d) PWR_STATUS_boot_cause = cause := by
  have hmark : fld (lifeAdd 13 1 (bootMarked cause d)) PWR_STATUS_boot_cause = cause := by
    rw [fld_lifeAdd rfl, bootMarked, fld_setF_same _ _ _ (by decide), Nat.mod_eq_of_lt hc]
  rw [enterBoot_eq]
  split
  · exact hmark
  · rw [fld_raise _ _ _ (by decide), fld_setF_other _ _ (by decide), hmark]

theorem devState_enterBoot {d : Dev} (h : devState d ≠ stBoot) (cause : Nat) : devState (enterBoot cause d) = stBoot := by
  rw [enterBoot_eq, if_neg h, devState, fld_raise _ _ _ (by decide), fld_setF_same _ _ _ (by decide)]
  rfl

theorem resetNAssert_answers {s : State} (hp : s.pwr.powered = true) : answers .resetNAssert s (fun e =>
    e.pwr.resetLow = true ∧ fld e PWR_STATUS_boot_cause = 2 ∧ (devState s.toDev ≠ 1 → devState e = 1)) :=
  ⟨resetAssert s.toDev, runsTo_of_powered resetAssert rfl hp rfl, rfl, fld_enterBoot_cause (by decide) _,
    fun h => devState_enterBoot h 2⟩

theorem fld_showStraps_sysref (st : Straps) (d : Dev) : fld (showStraps st d) PWR_SYSREF_strap = st.sysref.val := by
  rw [showStraps, setB, fld_setF_other _ _ (by decide), fld_setF_same _ _ _ (by decide)]
  exact Nat.mod_eq_of_lt st.sysref.isLt

theorem flag_showStraps_side (st : Straps) (d : Dev) : flag (showStraps st d) TWN_BUS_STATUS_side = st.side := by
  rw [showStraps, setB, flag, fld_setF_same _ _ _ (by decide)]
  cases st.side <;> rfl

/-- The rising edge of RESET_N samples the straps. -/
theorem resetNRelease_answers {st : Straps} {s : State} (hp : s.pwr.powered = true) : answers (.resetNRelease st) s (fun e =>
    e.pwr = { s.pwr with resetLow := false, straps := st } ∧ fld e PWR_SYSREF_strap = st.sysref.val ∧
    flag e TWN_BUS_STATUS_side = st.side ∧ sameRegsBut [PWR_SYSREF, TWN_BUS_STATUS] s.toDev e ∧ sameMem s.toDev e) := by
  refine ⟨resetRelease st s.toDev, runsTo_of_powered (resetRelease st) rfl hp rfl, rfl, fld_showStraps_sysref _ _,
    flag_showStraps_side _ _, fun a ha _ => ?_, rfl, rfl, rfl⟩
  simp only [List.mem_cons, List.not_mem_nil, or_false, not_or] at ha
  exact rd_showStraps _ _ ha.1 ha.2

/-! ### The Boot sequence and the domains (R451, R452, R457) -/

theorem bootSequence_runsTo {o : BootObs} {s : State} (hp : s.pwr.powered = true) (hst : devState s.toDev = 1)
    (hlow : s.pwr.resetLow = false) (hctl : domOn s.toDev .ctl = false) (hrail : coreRailOut s.toDev = false) :
    runsTo (.bootSequence o) s (bootSequenceF o s.toDev) := by
  refine runsTo_of_powered (fun d => doIf (devState d == stBoot && !d.pwr.resetLow && !(domOn d .ctl) && !(coreRailOut d))
    (bootSequenceF o) d) rfl hp ?_
  simp [hst, hlow, hctl, hrail, stBoot]

theorem domFree_of {d : Dev} {p : Dom} (hp : p ≠ .aon) (h : devState d ≠ 1) : domFree d (domNum p) = true := by
  simp [domFree, domNum_ne_zero hp, stBoot, h]

theorem domainPowerUp_runsTo {p : Dom} {s : State} (hp : s.pwr.powered = true) (hp0 : p ≠ .aon) (hst : devState s.toDev ≠ 1)
    (hw : domWanted s.toDev (domNum p) = true) : runsTo (.domainPowerUp p) s (powerUp (domNum p) s.toDev) := by
  refine runsTo_of_powered (fun d => doIf (domFree d (domNum p) && domWanted d (domNum p)) (powerUp (domNum p)) d) rfl hp ?_
  simp only [domFree_of hp0 hst, hw, Bool.and_self, doIf_true]

theorem domainPowerDown_runsTo {p : Dom} {s : State} (hp : s.pwr.powered = true) (hp0 : p ≠ .aon) (hst : devState s.toDev ≠ 1)
    (hw : domWanted s.toDev (domNum p) = false) : runsTo (.domainPowerDown p) s (powerDown (domNum p) s.toDev) := by
  refine runsTo_of_powered (fun d => doIf (domFree d (domNum p) && !(domWanted d (domNum p))) (powerDown (domNum p)) d) rfl hp ?_
  simp only [domFree_of hp0 hst, hw, Bool.not_false, Bool.and_self, doIf_true]

theorem powerUp_off {d : Dev} {n : Nat} (h : domOnN d n = false) :
    powerUp n d = hiddenUp n (setDom n true (imageDom n (resetDom n (fillDom n d)))) := by
  simp only [powerUp, h, Bool.false_eq_true, if_false]

theorem powerDown_on {d : Dev} {n : Nat} (h0 : n ≠ 0) (h : domOnN d n = true) :
    powerDown n d = resetDom n (setDom n false (hiddenDown n d)) :=
  if_neg (by simp [h0, h])

theorem ackTimeout_off {d : Dev} {n : Nat} (h0 : n ≠ 0) (h : domOnN d n = false) :
    ackTimeout n d = reportUnit (firstUnit n) 0x03 .contained 0x0C0B n (raise 0x0C0B n d) :=
  if_neg (by simp [h0, h])

/-- Settles O13: RESET_N by what Boot writes, the others by the branch that the state picks. -/
theorem resetAndDomainCommandsComplete : Obligations.ResetAndDomainCommandsComplete := by
  delta Obligations.ResetAndDomainCommandsComplete
  refine ⟨fun s => resetNAssert_answers, fun st s => resetNRelease_answers, ?boot, ?up, ?down, ?ack⟩
  case boot =>
    intro o s hp hst hlow hctl hcore hsram
    exact bootSequence_runsTo hp hst hlow hctl (by simp [coreRailOut, hcore, hsram])
  case up =>
    intro p s hp hp0 hst hw hoff n
    have h := domainPowerUp_runsTo hp hp0 hst hw
    rwa [powerUp_off hoff] at h
  case down =>
    intro p s hp hp0 hst hw hon n
    have h := domainPowerDown_runsTo hp hp0 hst hw
    rwa [powerDown_on (domNum_ne_zero hp0) hon] at h
  case ack =>
    intro p s hp hp0 hoff n
    exact runsTo_of_powered (ackTimeout (domNum p)) rfl hp (ackTimeout_off (domNum_ne_zero hp0) hoff)

end Sys2Proof.Proofs

/-! PROOFS about the checks of the control complex: lockstep, TLB invalidation, page reload and parity errors. -/

namespace Sys2Proof.Proofs

open Sys2Proof Sys2Proof.Machine Sys2Proof.Laws

/-! ### Lockstep (R374) -/

theorem lockstepOp_halted {d : Dev} (h2 : coreState d 2 = 1) (h3 : coreState d 3 = 1) (v : Word) :
    lockstepOp v d = setB CTL_STATUS_lockstep (bitAt v 0) (setB CTL_LS_CTL_en (bitAt v 0) (ctlResult 0 d)) := if_pos ⟨h2, h3⟩

theorem lockstepOp_barred {d : Dev} (h : coreState d 2 ≠ 1 ∨ coreState d 3 ≠ 1) (v : Word) : lockstepOp v d = ctlResult 2 d :=
  if_neg (by rw [not_and_or]; exact h)

theorem lockstepMismatch_runsTo {pass2 pass3 : Bool} {s : State} {d : Dev} (hon : domOn s.toDev .ctl = true)
    (hls : lockstepOn s.toDev = true) (hst : coreState s.toDev 2 = 2) (hd : mismatchOp pass2 pass3 s.toDev = d) :
    runsTo (.lockstepMismatch pass2 pass3) s d :=
  runsTo_of_doIf (c := fun d => domOn d .ctl && lockstepOn d && coreState d 2 == 2) rfl (by simp [hon, hls, hst]) hd

/-- A core returns from a mismatch: it passed its self-test and lies within the upset limit. -/
theorem returns_iff {d : Dev} {pass : Bool} {u : Nat} : (pass && !(passOver d u)) = true ↔ pass = true ∧ passOver d u = false := by
  simp

theorem not_returns_iff {d : Dev} {pass : Bool} {u : Nat} :
    (pass && !(passOver d u)) = false ↔ ¬ (pass = true ∧ passOver d u = false) := by
  rw [← returns_iff, Bool.not_eq_true]

/-! ### Page reload (R376) -/

theorem pageReloadOp_lowWater {d : Dev} (h : fld d IMG_STATUS_source = 2) :
    pageReloadOp d = reloadRefuse (fld d CTL_RELOAD_ADDR_page) 1 d := if_pos h

theorem pageReloadOp_unknown {d : Dev} (h : fld d IMG_STATUS_source ≠ 2)
    (hp : cget (fun _ => none) d.ctl.pages (fld d CTL_RELOAD_ADDR_page) = none) :
    pageReloadOp d = reloadRefuse (fld d CTL_RELOAD_ADDR_page) 2 d := by
  simp only [pageReloadOp, h, hp, if_false]

theorem pageReloadOp_wrongHash {d : Dev} {a h : Nat} (hs : fld d IMG_STATUS_source ≠ 2)
    (hp : cget (fun _ => none) d.ctl.pages (fld d CTL_RELOAD_ADDR_page) = some (a, h))
    (hne : Config.sha256 (flashBytes d a 4096) ≠ h) : pageReloadOp d = reloadRefuse (fld d CTL_RELOAD_ADDR_page) 3 d := by
  simp only [pageReloadOp, hs, hp, if_false]
  exact if_pos hne

theorem pageReloadOp_restores {d : Dev} {a h : Nat} (hs : fld d IMG_STATUS_source ≠ 2)
    (hp : cget (fun _ => none) d.ctl.pages (fld d CTL_RELOAD_ADDR_page) = some (a, h))
    (he : Config.sha256 (flashBytes d a 4096) = h) :
    pageReloadOp d = raise 0x7008 (fld d CTL_RELOAD_ADDR_page) (setF CTL_RELOAD_CMD_result 0
      (setRamWords (fld d CTL_RELOAD_ADDR_page * 4096) (wordsOf (flashBytes d a 4096)) d)) := by
  simp only [pageReloadOp, hs, hp, if_false]
  exact if_neg (not_not.mpr he)

/-! ### Parity errors (R40, R377) -/

theorem sramParityAccess_runsTo {c : Fin 4} {site : ParitySite} {pc st : Nat} {s : State} {d : Dev} (hp : s.pwr.powered = true)
    (hd : parityAccess c.val site pc st s.toDev = d) : runsTo (.sramParityAccess c site pc st) s d :=
  runsTo_of_powered (parityAccess c.val site pc st) rfl hp hd

/-- A parity error that a running core of PD_CTL meets. -/
theorem ctlParity_runsTo {c : Fin 4} {site : ParitySite} {pc st : Nat} {s : State} {d : Dev} (hp : s.pwr.powered = true)
    (hon : domOn s.toDev .ctl = true) (hst : coreState s.toDev c.val = 2)
    (hsite : parityAccess c.val site pc st s.toDev =
      doIf (domOn s.toDev .ctl && coreState s.toDev c.val == 2) (ctlParity c.val site pc st) s.toDev)
    (hd : ctlParity c.val site pc st s.toDev = d) : runsTo (.sramParityAccess c site pc st) s d := by
  refine sramParityAccess_runsTo hp (hsite.trans ?_)
  simp only [hon, hst, beq_self_eq_true, Bool.and_self, doIf_true, hd]

section

variable {c va pc st : Nat} {acc : MemAcc} {user : Bool} {d : Dev}

theorem ctlParity_sram_ok (h : accessFault (coreXlat c va acc user d).2 (coreXlat c va acc user d).1 acc = none) :
    ctlParity c (.sram va acc user) pc st d = (coreXlat c va acc user d).2 := by
  simp only [ctlParity, h]

theorem ctlParity_sram_fault {cause lvl : Nat}
    (h : accessFault (coreXlat c va acc user d).2 (coreXlat c va acc user d).1 acc = some (cause, lvl)) (hc : cause ≠ 5) :
    ctlParity c (.sram va acc user) pc st d =
      takeExc c pc st va (mmuFault c cause lvl va acc user (coreXlat c va acc user d).2) := by
  simp only [ctlParity, h]

theorem ctlParity_sram_word {lvl pa : Nat}
    (h : accessFault (coreXlat c va acc user d).2 (coreXlat c va acc user d).1 acc = some (5, lvl))
    (hpa : (coreXlat c va acc user d).1 = .ok pa) (hring : ringAt pa = none) :
    ctlParity c (.sram va acc user) pc st d =
      takeExc c pc st va (mmuFault c 5 lvl va acc user (reportUnit 0x3B 0x01 .corrected 0 0 (coreXlat c va acc user d).2)) := by
  rw [hpa] at h
  simp only [ctlParity, hpa, h, hring]

theorem ctlParity_sram_ring {lvl pa u pos : Nat}
    (h : accessFault (coreXlat c va acc user d).2 (coreXlat c va acc user d).1 acc = some (5, lvl))
    (hpa : (coreXlat c va acc user d).1 = .ok pa) (hring : ringAt pa = some (u, pos)) :
    ctlParity c (.sram va acc user) pc st d =
      takeExc c pc st va (mmuFault c 5 lvl va acc user (ringParity u pos (coreXlat c va acc user d).2)) := by
  rw [hpa] at h
  simp only [ctlParity, hpa, h, hring]

end

theorem rxPacketParity_nil {p : Nat} {d : Dev} (h : pipeQ d p = []) : rxPacketParity p d = d := by
  simp only [rxPacketParity, h]

theorem rxPacketParity_rx {p : Nat} {d : Dev} {x : PItem} {xs : List PItem} {f : RxDesc} (h : pipeQ d p = x :: xs) (hx : x.msg = .rx f) :
    rxPacketParity p d = reportUnit 0x27 0x01 .corrected 0 0 (svcCnt 24 1 (rxFree f (setWait p none (setPipeQ p xs d)))) := by
  simp only [rxPacketParity, h, hx]

theorem rxPacketParity_other {p : Nat} {d : Dev} {x : PItem} {xs : List PItem} (h : pipeQ d p = x :: xs) (hx : ∀ f, x.msg ≠ .rx f) :
    rxPacketParity p d = reportUnit 0x27 0x01 .corrected 0 0 (setWait p none (setPipeQ p xs d)) := by
  simp only [rxPacketParity, h]

theorem txPacketParity_nil {p i : Nat} {d : Dev} (h : (psub d p i).mac = []) : txPacketParity p i d = d := by
  simp only [txPacketParity, h]

theorem txPacketParity_cons {p i : Nat} {d : Dev} {f : TxFrame} {fs : List TxFrame} (h : (psub d p i).mac = f :: fs) :
    txPacketParity p i d =
      let d1 := txFree f (modPsub p i (fun y => { y with mac := fs }) d)
      reportUnit 0x27 0x01 .corrected 0 0 (if p = 8 then d1 else portCnt p i 27 1 d1) := by
  simp only [txPacketParity, h]

theorem configParity_noImage {a : Nat} {d : Dev} (h : d.img.run = []) :
    configParity a d = reportUnit 0x3C 0x01 .corrected 0 0 d := by
  simp [configParity, h]

theorem configParity_image {a : Nat} {d : Dev} (h : d.img.run ≠ []) :
    configParity a d = reportUnit 0x3C 0x01 .corrected 0 0 (applyImage (fun x => x % bankSpan == a) d) := by
  have hrun : d.img.run.isEmpty = false := by rwa [← Bool.not_eq_true, List.isEmpty_iff]
  simp only [configParity, hrun, Bool.not_false, doIf_true]

/-- Settles O45: lockstep by which cores return, the reload by what the page table holds, parity by the place of the error. -/
theorem coreCheckCommandsComplete : Obligations.CoreCheckCommandsComplete := by
  delta Obligations.CoreCheckCommandsComplete
  refine ⟨?lockstep, ?mismatch, ?tlb, ?reload, ?core, ?tables⟩
  case lockstep =>
    intro r v s hg
    exact ⟨fun h2 h3 => runsTo_of_write rfl hg (lockstepOp_halted h2 h3 v), fun h => runsTo_of_write rfl hg (lockstepOp_barred h v)⟩
  case mismatch =>
    intro pass2 pass3 s hon hls hst
    refine ⟨fun h2 h3 => ?_, fun h2 h3 => ?_, fun h2 h3 => ?_, fun h2 h3 => ?_⟩
    · refine lockstepMismatch_runsTo hon hls hst ?_
      simp only [mismatchOp, returns_iff.mpr h2, returns_iff.mpr h3]
      rfl
    · refine lockstepMismatch_runsTo hon hls hst ?_
      simp only [mismatchOp, not_returns_iff.mpr h2, returns_iff.mpr h3]
      rfl
    · refine lockstepMismatch_runsTo hon hls hst ?_
      simp only [mismatchOp, returns_iff.mpr h2, not_returns_iff.mpr h3]
      rfl
    · refine lockstepMismatch_runsTo hon hls hst ?_
      simp only [mismatchOp, not_returns_iff.mpr h2, not_returns_iff.mpr h3]
      rfl
  case tlb =>
    intro r v s hg
    exact runsTo_of_write rfl hg rfl
  case reload =>
    intro r s hg
    refine ⟨fun h => ?_, fun h hp => ?_, fun a h hs hp => ⟨fun hne => ?_, fun he => ?_⟩⟩
    · exact runsTo_of_write rfl hg (pageReloadOp_lowWater h)
    · exact runsTo_of_write rfl hg (pageReloadOp_unknown h hp)
    · exact runsTo_of_write rfl hg (pageReloadOp_wrongHash hs hp hne)
    · exact runsTo_of_write rfl hg (pageReloadOp_restores hs hp he)
  case core =>
    intro c pc st s hp hon hst
    refine ⟨?_, ?_, fun i => ?_, fun ch i => ?_, fun va acc user => ⟨fun h => ?_, fun cause lvl h hc => ?_, fun lvl pa h hpa hr => ?_,
      fun lvl pa u pos h hpa hr => ?_⟩⟩
    · exact ctlParity_runsTo hp hon hst (parityAccess_icache _ _ _ _) rfl
    · exact ctlParity_runsTo hp hon hst (parityAccess_dcache _ _ _ _) rfl
    · exact ctlParity_runsTo hp hon hst (parityAccess_tlb _ _ _ _ _) rfl
    · exact ctlParity_runsTo hp hon hst (parityAccess_dmaTlb _ _ _ _ _ _) rfl
    · exact ctlParity_runsTo hp hon hst (parityAccess_sram _ _ _ _ _ _ _) (ctlParity_sram_ok h)
    · exact ctlParity_runsTo hp hon hst (parityAccess_sram _ _ _ _ _ _ _) (ctlParity_sram_fault h hc)
    · exact ctlParity_runsTo hp hon hst (parityAccess_sram _ _ _ _ _ _ _) (ctlParity_sram_word h hpa hr)
    · exact ctlParity_runsTo hp hon hst (parityAccess_sram _ _ _ _ _ _ _) (ctlParity_sram_ring h hpa hr)
  case tables =>
    intro c pc st s hp
    refine ⟨fun p hpkt => ?rx, fun p i hpkt => ?tx, fun a => ⟨fun h => ?_, fun h => ?_⟩, fun i href hctl => ?_, ?_⟩
    case rx =>
      have hrun : ∀ {d}, rxPacketParity p.val s.toDev = d → runsTo (.sramParityAccess c (.rxPacket p) pc st) s d := by
        intro d hd
        refine sramParityAccess_runsTo hp ((parityAccess_rxPacket _ _ _ _ _).trans ?_)
        rw [hpkt, doIf_true, hd]
      exact ⟨fun h => hrun (rxPacketParity_nil h), fun x xs h => ⟨fun f hf => hrun (rxPacketParity_rx h hf),
        fun hf => hrun (rxPacketParity_other h hf)⟩⟩
    case tx =>
      have hrun : ∀ {d}, txPacketParity p.val i.val s.toDev = d → runsTo (.sramParityAccess c (.txPacket p i) pc st) s d := by
        intro d hd
        refine sramParityAccess_runsTo hp ((parityAccess_txPacket _ _ _ _ _ _).trans ?_)
        rw [hpkt, doIf_true, hd]
      exact ⟨fun h => hrun (txPacketParity_nil h), fun f fs h => hrun (txPacketParity_cons h)⟩
    · exact sramParityAccess_runsTo hp ((parityAccess_config _ _ _ _ _).trans (configParity_noImage h))
    · exact sramParityAccess_runsTo hp ((parityAccess_config _ _ _ _ _).trans (configParity_image h))
    · refine sramParityAccess_runsTo hp ((parityAccess_history _ _ _ _ _).trans ?_)
      rw [href, hctl, Bool.and_self, doIf_true]
    · exact sramParityAccess_runsTo hp (parityAccess_ephemerides _ _ _ _)

end Sys2Proof.Proofs

/-! PROOFS about the epochs of TB, and the comparison of its channels. -/

namespace Sys2Proof.Proofs

open Sys2Proof Sys2Proof.Machine Sys2Proof.Laws

/-! ### The instants of the epochs (R29, R90) -/

theorem epochDue_of_le {d : Dev} {t : Nat} (htb : domOn d .tb = true) (hs : flag d TB_STATUS_seeded = true) (ht : t ≤ now16 d) :
    epochDue d t = true := by
  simp [epochDue, htb, hs, ht]

theorem doIf_decide (p : Prop) [Decidable p] (f : Dev → Dev) (d : Dev) : doIf (decide p) f d = if p then f d else d := by
  by_cases h : p <;> simp [doIf, h]

/-- The 1 µs epoch where its instant is reached. -/
theorem epoch1usF_due {us : List Upset} {d : Dev} (h : epochDue d d.tb.nextUs = true) :
    epoch1usF us d =
      let d1 := mapChans (fun c => { c with epochs := c.epochs + 1 }) (holdServo d)
      let d2 := forEach us (fun u x =>
        { x with tb := setChan x.tb u.chan.val (upsetChan u.word.val u.flip (chan x.tb u.chan.val)) }) d1
      let d3 := { d2 with tb := { d2.tb with nextUs := nextEpoch us16 d } }
      pmcAdd 0x0704 1 (capture1us (forEach (List.range 4) restartPll (compareChans d3))) := by
  simp only [epoch1usF, h, doIf_true]

/-- The 1 ms epoch where its instant is reached. -/
theorem epoch1msF_due {o : EpochObs} {d : Dev} (hp : d.pwr.powered = true) (h : epochDue d d.tb.nextMs = true) :
    epoch1msF o d =
      let b := boundary (epochMarks d)
      let e := if b.2.1 = true then alignGn (alignEpochs b.2.2)
        else { b.2.2 with tb := { b.2.2.tb with nextMs := nextEpoch ms16 b.2.2 } }
      let d1 := refWork (lpcReload e)
      let d2 := twinEpoch b.1 (ledgerStep o.adder d1)
      let d3 := streamMonitors o.streams (outEpoch (pllMonitors o.mons d2))
      let d4 := dsgLocked (refreshPreds (if b.2.1 = true then fireDueAlarms d3 else d3))
      let d5 := if now16 d4 % sec16 < ms16 then wholeSecond d4 else d4
      transition o.block d5 := by
  have hgo : ¬ (!(d.pwr.powered) || !(epochDue d d.tb.nextMs)) = true := by simp [hp, h]
  exact (if_neg hgo).trans (congrArg (transition o.block) (doIf_decide _ _ _))

/-! ### The comparison of the channels (R104, R106) -/

section

variable {d : Dev}

theorem compareChans_equal (h : inService d = [0, 1, 2]) (h01 : vecDiff d.tb.ch0 d.tb.ch1 = none)
    (h02 : vecDiff d.tb.ch0 d.tb.ch2 = none) : compareChans d = d := by
  simp only [compareChans, h, h01, h02]

theorem compareChans_two {w : Nat} (h : inService d = [0, 1, 2]) (h01 : vecDiff d.tb.ch0 d.tb.ch1 = none)
    (h02 : vecDiff d.tb.ch0 d.tb.ch2 = some w) : compareChans d = repairChan 2 w d := by
  simp only [compareChans, h, h01, h02]

theorem compareChans_one {w : Nat} (h : inService d = [0, 1, 2]) (h01 : vecDiff d.tb.ch0 d.tb.ch1 = some w)
    (h02 : vecDiff d.tb.ch0 d.tb.ch2 = none) : compareChans d = repairChan 1 w d := by
  simp only [compareChans, h, h01, h02]

theorem compareChans_zero {w v : Nat} (h : inService d = [0, 1, 2]) (h01 : vecDiff d.tb.ch0 d.tb.ch1 = some w)
    (h02 : vecDiff d.tb.ch0 d.tb.ch2 = some v) (h12 : vecDiff d.tb.ch1 d.tb.ch2 = none) : compareChans d = repairChan 0 w d := by
  simp only [compareChans, h, h01, h02, h12]

theorem compareChans_noMajority {w v u : Nat} (h : inService d = [0, 1, 2]) (h01 : vecDiff d.tb.ch0 d.tb.ch1 = some w)
    (h02 : vecDiff d.tb.ch0 d.tb.ch2 = some v) (h12 : vecDiff d.tb.ch1 d.tb.ch2 = some u) : compareChans d = noMajority w d := by
  simp only [compareChans, h, h01, h02, h12]

end

/-! ### A report leaves TB alone (R406, R409) -/

theorem railsIdle_tb (u : Nat) (d : Dev) : (railsIdle u d).tb = d.tb := by
  unfold railsIdle
  dsimp only
  split
  · rfl
  · split
    · exact raise_tb _ _ _
    · rfl

theorem openSlot_tb (x : FSlot) (d : Dev) : (openSlot x d).tb = d.tb := by
  unfold openSlot
  split <;> rfl

theorem fltCount_tb (i : Nat) (d : Dev) : (fltCount i d).tb = d.tb := rfl

theorem putSlot_tb (x : FSlot) (d : Dev) : (putSlot x d).tb = d.tb := rfl

theorem modUnit_tb (u : Nat) (f : FUnit → FUnit) (d : Dev) : (modUnit u f d).tb = d.tb := rfl

theorem latchCause_tb (u c : Nat) (inj : Bool) (d : Dev) : (latchCause u c inj d).tb = d.tb := rfl

theorem collect_tb (p : FltReport) (inj stFail polled : Bool) (seen : Option Nat) (d : Dev) :
    (collect p inj stFail polled seen d).tb = d.tb := by
  unfold collect
  dsimp only
  split
  · rfl
  split
  · exact (railsIdle_tb _ _).trans (latchCause_tb _ _ _ _)
  split
  · split
    · rfl
    · rw [fltCount_tb, modUnit_tb, putSlot_tb, latchCause_tb, modUnit_tb]
  · have hinj : ∀ e : Dev, (doIf inj (fltCount 7) e).tb = e.tb := fun e => doIf_ind (P := fun x => x.tb = e.tb) _ _ _ rfl rfl
    split
    · exact hinj _
    · exact (openSlot_tb _ _).trans (hinj _)

theorem reportUnit_tb (u cause : Nat) (cls : FCls) (ev param : Nat) (d : Dev) : (reportUnit u cause cls ev param d).tb = d.tb := by
  unfold reportUnit report
  split
  · exact collect_tb _ _ _ _ _ _
  · split <;> rfl

/-- The hidden state of TB after a repair: the odd channel marked and the repair counted. -/
theorem repairChan_tb (i w : Nat) (d : Dev) : (repairChan i w d).tb.odd = some i ∧ (repairChan i w d).tb.repTotal = d.tb.repTotal + 1 := by
  rw [repairChan, reportUnit_tb, raise_tb]
  exact ⟨rfl, rfl⟩

/-- Settles O21: the epochs where their instant is reached, and the comparison by which pairs differ. -/
theorem epochCommandsComplete : Obligations.EpochCommandsComplete := by
  delta Obligations.EpochCommandsComplete
  refine ⟨fun us s htb hs ht => ?us, fun d h => ⟨?_, ?_, ?_, ?_, ?_⟩, fun o s hp htb hs ht => ?ms, repairChan_tb⟩
  case us => exact runsTo_of_upd (f := epoch1usF us) rfl (epoch1usF_due (epochDue_of_le htb hs ht))
  · exact compareChans_equal h
  · exact fun w => compareChans_two h
  · exact fun w => compareChans_one h
  · exact fun w v => compareChans_zero h
  · exact fun w v u => compareChans_noMajority h
  case ms => exact runsTo_of_upd (f := epoch1msF o) rfl (epoch1msF_due hp (epochDue_of_le htb hs ht))

end Sys2Proof.Proofs

/-! PROOFS about the PLLs of SYN: start, hop, search, lock, loss and the fall-back of the clocks. -/

namespace Sys2Proof.Proofs

open Sys2Proof Sys2Proof.Machine Sys2Proof.Laws

/-! ### The targets of a start and a hop (R192, R193) -/

section

variable {p n : Nat} {d : Dev}

theorem targetCause_eq (d : Dev) (p n : Nat) : targetCause d p n =
    if vcoOk d p n = false then some 0x02
    else if chooseBand d p (vcoOf d p n) = none then some 0x01 else outsCause d p (vcoOf d p n) := by
  simp only [targetCause, Bool.not_eq_true', Option.isNone_iff_eq_none]

theorem vcoOf_forgetAuto : vcoOf (forgetAuto p d) p n = vcoOf d p n := rfl

theorem vcoOk_forgetAuto : vcoOk (forgetAuto p d) p n = vcoOk d p n := by
  rw [vcoOk, vcoOk, vcoOf_forgetAuto]

theorem chooseBand_forgetAuto (v : Nat) : chooseBand (forgetAuto p d) p v = chooseBand d p v := rfl

theorem outsCause_forgetAuto (v : Nat) : outsCause (forgetAuto p d) p v = outsCause d p v := rfl

/-- That a PLL no longer waits for its automatic start does not reach its target. -/
theorem targetCause_forgetAuto : targetCause (forgetAuto p d) p n = targetCause d p n := by
  rw [targetCause, targetCause, vcoOk_forgetAuto, vcoOf_forgetAuto, chooseBand_forgetAuto, outsCause_forgetAuto]

theorem startPll_notOff (h : pllState d p ≠ 0) : startPll p d = pllResult p 0x04 (forgetAuto p d) :=
  if_pos h

theorem pllN_forgetAuto : pllN (forgetAuto p d) p = pllN d p := rfl

theorem pllState_forgetAuto : pllState (forgetAuto p d) p = pllState d p := rfl

theorem startPll_off (h : pllState d p = 0) : startPll p d =
    match targetCause d p (pllN d p) with
    | some c => pllResult p c (forgetAuto p d)
    | none => pllResult p 0x00 (seekPll p (pllN d p) (forgetAuto p d)) := by
  rw [startPll, pllState_forgetAuto, pllN_forgetAuto, targetCause_forgetAuto]
  exact if_neg (not_not.mpr h)

theorem startPll_refused {c : Nat} (h : pllState d p = 0) (ht : targetCause d p (pllN d p) = some c) :
    startPll p d = pllResult p c (forgetAuto p d) := by
  rw [startPll_off h, ht]

theorem startPll_seeks (h : pllState d p = 0) (ht : targetCause d p (pllN d p) = none) :
    startPll p d = pllResult p 0x00 (seekPll p (pllN d p) (forgetAuto p d)) := by
  rw [startPll_off h, ht]

theorem hopPll_notLocked (h : (spll d p).hop = true ∨ pllState d p ≠ 3) : hopPll p n d = pllResult p 0x04 d :=
  if_pos (by simpa using h)

section

variable (hh : (spll d p).hop = false) (h : pllState d p = 3)

include hh h

theorem hopPll_serdes (hs : fld d SYN_STATUS_serdes_pll = p) (hq : quadsPowered d = true) :
    hopPll p n d = pllResult p 0x03 d := by
  simp [hopPll, hh, h, hs, hq]

variable (hs : ¬ (fld d SYN_STATUS_serdes_pll = p ∧ quadsPowered d = true))

include hs

theorem hopPll_refused {c : Nat} (ht : targetCause d p n = some c) : hopPll p n d = pllResult p c d := by
  simp [hopPll, hh, h, hs, ht]

theorem hopPll_begins (ht : targetCause d p n = none) : hopPll p n d = beginHop p n d := by
  simp [hopPll, hh, h, hs, ht]

end

end

/-! ### The cache and the band tables (R187, R189) -/

theorem flushHops_eq (p : Nat) (d : Dev) : flushHops p d = forEach (List.range 32) (fun e x =>
    if flag x (SYN_HOP_CTL_pin p e) = true then x else setF (SYN_HOP_CTL_valid p e) 0 x) d := by
  refine congrArg (forEach (List.range 32) · d) (funext fun e => funext fun x => ?_)
  cases flag x (SYN_HOP_CTL_pin p e) <;> rfl

theorem synSweepF_eq (mask : Nat) (l : List (List (Nat × Nat))) (d : Dev) : synSweepF mask l d =
    forEach (List.range 4) (fun p x => if mask / 2 ^ p % 2 = 1 then sweepPll p (l.getD p []) x else x) d :=
  congrArg (forEach (List.range 4) · d) (funext fun p => funext fun x => doIf_decide (mask / 2 ^ p % 2 = 1) _ x)

/-! ### Search, lock, loss and return (R188, R190, R192) -/

section

variable {p : Nat} {d : Dev}

theorem bandSearchF_found {codes : List Nat} {b t : Nat} (hon : pllOn d p = true) (h : pllState d p = 1)
    (hs : searchBands 5 ((chooseBand d p (vcoOf d p (spll d p).n)).getD 0) codes = some (b, t)) :
    bandSearchF p codes d =
      pllTo p 2 (setF (SYN_PLL_STATUS_band p) b (wrN (SYN_PLL_TUNE p) t (writeHop p (spll d p).n b t d))) := by
  simp only [bandSearchF, hon, h, hs, Bool.not_true, bne_self_eq_false, Bool.or_self, Bool.false_eq_true, if_false]

theorem bandSearchF_failed {codes : List Nat} (hon : pllOn d p = true) (h : pllState d p = 1)
    (hs : searchBands 5 ((chooseBand d p (vcoOf d p (spll d p).n)).getD 0) codes = none) :
    bandSearchF p codes d =
      reportUnit (0x0B + p) 0x04 .contained 0x3004 p (raise 0x3004 p (setF (SYN_PLL_RESULT_cause p) 0x05 (offPll p d))) := by
  simp only [bandSearchF, hon, h, hs, Bool.not_true, bne_self_eq_false, Bool.or_self, Bool.false_eq_true, if_false, pllResult]

/-- An acquiring PLL: Locked, and the ports of the SerDes PLL start. -/
theorem pllLockF_acquiring (hon : pllOn d p = true) (h : pllState d p = 2) : pllLockF p d =
    if serdesPll d ≠ p then lockPll p d
    else refreshPreds (forEach (List.range 8) startPort
      (if devState (lockPll p d) = stBoot then lockPll p d else settleDoms (lockPll p d))) := by
  have hgo : ¬ (!(pllOn d p) || decide (pllState d p ≠ 2)) = true := by simp [hon, h]
  have hdoms : doIf (devState (lockPll p d) != stBoot) settleDoms (lockPll p d) =
      if devState (lockPll p d) = stBoot then lockPll p d else settleDoms (lockPll p d) := by
    by_cases hb : devState (lockPll p d) = stBoot <;> simp [doIf, hb]
  rw [← hdoms]
  exact if_neg hgo

theorem pllLossF_locked {lost : Bool} (hon : pllOn d p = true) (h : pllState d p = 3) :
    pllLossF p lost d = refreshPreds (coastPll p lost d) := by
  simp [pllLossF, hon, h]

theorem pllLossF_other {lost : Bool} (hon : pllOn d p = true) (h0 : pllState d p ≠ 0) (h : pllState d p ≠ 3) :
    pllLossF p lost d = doIf lost (setF (SYN_PLL_STATUS_ref_lost p) 1) d := by
  simp only [pllLossF, hon, h0, h, Bool.not_true, decide_false, Bool.or_self, Bool.false_eq_true, if_false]

theorem pllLossF_off {lost : Bool} (h0 : pllState d p = 0) : pllLossF p lost d = d :=
  if_pos (by simp [h0])

/-- A lock that a PLL does not hold cannot be lost. -/
theorem pllLossF_lock_notLocked (hon : pllOn d p = true) (h : pllState d p ≠ 3) : pllLossF p false d = d := by
  by_cases h0 : pllState d p = 0
  · exact pllLossF_off h0
  · rw [pllLossF_other hon h0 h, doIf_false]

theorem pllReturnF_coasting (hon : pllOn d p = true) (h : pllState d p = 4) :
    pllReturnF p d = pllTo p 2 (setF (SYN_PLL_STATUS_ref_lost p) 0 d) := by
  simp only [pllReturnF, hon, h, beq_self_eq_true, doIf_true]

end

/-! ### The fall-back of the core and pipeline clocks (R25) -/

section

variable {pl : Bool} {d : Dev}

/-- The ring bit does not reach DMA: its domain and its unit stand. -/
theorem dmaOn_refreshRing (l : List Nat) :
    dmaOn (refreshRing { d with pwr := { d.pwr with ringDoms := l } }) = dmaOn d := by
  have hdom : rd (refreshRing { d with pwr := { d.pwr with ringDoms := l } }) PWR_DOM_STATUS = rd d PWR_DOM_STATUS :=
    rd_setF_other _ _ (by decide)
  have hout : unitOut (refreshRing { d with pwr := { d.pwr with ringDoms := l } }) 0x3A = unitOut d 0x3A := rfl
  simp only [dmaOn, domOn, domOnN, hdom, hout]

/-- What the fall-back of the core clock, or of the pipeline clock, fences. -/
theorem fallBackF_free (hon : domOn d .ctl = true) (h : ∀ n ∈ clockDoms pl, n ∉ d.pwr.ringDoms) :
    fallBackF pl d =
      let d1 := refreshRing { d with pwr := { d.pwr with ringDoms := d.pwr.ringDoms ++ clockDoms pl } }
      reportUnit 0x10 0x04 .contained 0 0 (if pl = true then
          (if domOn d .pkt = true then forEach (List.range 4) dropInFlight d1 else d1)
        else setF CTL_STATUS_ring_clock 1 (if dmaOn d1 = true then dropBeat d1 else d1)) := by
  have hgo : ¬ (!(domOn d .ctl) || (clockDoms pl).any (fun n => d.pwr.ringDoms.contains n)) = true := by
    simpa [hon] using h
  simp only [dmaOn_refreshRing]
  exact if_neg hgo

theorem clockReturnF_moved (h : ∃ n ∈ clockDoms pl, n ∈ d.pwr.ringDoms) :
    clockReturnF pl d =
      let d3 := { d with pwr := { d.pwr with ringDoms := d.pwr.ringDoms.filter (fun n => !((clockDoms pl).contains n)) } }
      refreshRing (if pl = true then d3 else setF CTL_STATUS_ring_clock 0 d3) := by
  have hgo : ¬ (!((clockDoms pl).any (fun n => d.pwr.ringDoms.contains n))) = true := by
    simpa using h
  refine (if_neg hgo).trans (congrArg refreshRing ?_)
  cases pl <;> rfl

end

/-- Settles O29: each command by the branch of its function that the state picks. -/
theorem synthesisPllCommandsComplete : Obligations.SynthesisPllCommandsComplete := by
  delta Obligations.SynthesisPllCommandsComplete
  refine ⟨?cmds, targetCause_eq, ?sweep, ?plls, ?tick, ?clocks⟩
  case cmds =>
    intro r p s hg n cause d0
    refine ⟨fun h => ?_, fun c h ht => ?_, fun h ht => ?_, ?_, fun h => ?_,
      fun hh h => ⟨fun hs hq => ?_, fun hs => ⟨fun c ht => ?_, fun ht => ?_⟩⟩, ?_⟩
    · exact runsTo_of_write rfl hg (startPll_notOff h)
    · exact runsTo_of_write rfl hg (startPll_refused h ht)
    · exact runsTo_of_write rfl hg (startPll_seeks h ht)
    · exact runsTo_of_write (k := stopPll p.val) rfl hg rfl
    · exact runsTo_of_write rfl hg (hopPll_notLocked h)
    · exact runsTo_of_write rfl hg (hopPll_serdes hh h hs hq)
    · exact runsTo_of_write rfl hg (hopPll_refused hh h hs ht)
    · exact runsTo_of_write rfl hg (hopPll_begins hh h hs ht)
    · exact runsTo_of_write rfl hg (congrArg (pllResult p.val 0x00) (flushHops_eq _ _))
  case sweep => exact fun r m l s hg => runsTo_of_write rfl hg (synSweepF_eq _ _ _)
  case plls =>
    intro p codes s hp hon n found
    refine ⟨fun h => ⟨fun b t hs => ?_, fun hs => ?_⟩, fun h => ⟨fun hs => ?_, fun hs => ?_⟩, fun h => ⟨?_, ?_⟩,
      fun h => ⟨?_, fun h0 => ?_⟩, fun h => ?_, fun e => ?_, fun b => ?_⟩
    · exact runsTo_of_powered _ rfl hp (bandSearchF_found hon h hs)
    · exact runsTo_of_powered _ rfl hp (bandSearchF_failed hon h hs)
    · exact runsTo_of_powered _ rfl hp ((pllLockF_acquiring hon h).trans (if_pos hs))
    · exact runsTo_of_powered _ rfl hp ((pllLockF_acquiring hon h).trans (if_neg (not_not.mpr hs)))
    · exact runsTo_of_powered _ rfl hp (pllLossF_locked hon h)
    · exact runsTo_of_powered _ rfl hp (pllLossF_locked hon h)
    · exact runsTo_of_powered _ rfl hp (pllLossF_lock_notLocked hon h)
    · exact runsTo_of_powered _ rfl hp (pllLossF_other hon h0 h)
    · exact runsTo_of_powered _ rfl hp (pllReturnF_coasting hon h)
    · exact runsTo_of_powered (hopParityF p.val e.val) rfl hp (by simp only [hopParityF, hon, doIf_true])
    · exact runsTo_of_powered (bandParityF p.val b.val) rfl hp (by simp only [bandParityF, hon, doIf_true])
  case tick => exact fun s hon => runsTo_of_doIf (c := fun d => domOn d .tb) rfl hon rfl
  case clocks =>
    intro pl s hon doms d1 d2
    refine ⟨fun h => ?_, fun h => ?_⟩
    · exact runsTo_of_upd (f := fallBackF pl) rfl (fallBackF_free hon h)
    · exact runsTo_of_doIf (c := fun d => domOn d .ctl) rfl hon (clockReturnF_moved h)

end Sys2Proof.Proofs

/-! PROOFS about the images (R52 to R60): a set from the host, live reload, confirmation and bad marks. -/

namespace Sys2Proof.Proofs

open Sys2Proof Sys2Proof.Machine Sys2Proof.Laws

section

variable {d : Dev}

/-! ### A set from the host (R57) -/

theorem loadHostF_boot (o : BootObs) (hb : devState d = 1) (hrun : d.img.run = []) :
    loadHostF o d =
      let l := setOf (stageImage d 1) (stageImage d 2) (stageImage d 3)
      let c := checkStaged d l
      if c.cause = 0 then bootRun o (acceptSet c 2 l d) else imgRefuse c 2 d := by
  have hgo : ¬ (devState d ≠ stBoot ∨ (!d.img.run.isEmpty) = true) := by simp [hb, hrun, stBoot]
  exact if_neg hgo

/-! ### Live reload (R58, R59) -/

theorem reloadMay_iff : reloadMay d = true ↔ running d = true ∧ d.img.reload = none ∧ d.img.run ≠ [] := by
  simp [reloadMay, and_assoc]

theorem reloadF_may (h : reloadMay d = true) :
    reloadF d =
      let b := stageImage d 1
      let c := checkReload d b
      if c.cause = 0 then setF IMG_STATUS_reload_busy 1
        { d with img := { d.img with reload := some b, reloadAt := now16 d, reloadReady := false } }
      else imgEvent 0x0808 c.builds (imgCause c 2 d) := by
  have hgo : ¬ (!(reloadMay d)) = true := by simp [h]
  exact if_neg hgo

/-- The device with the reload of image `b` over: the live sections in force, reload_busy clear, event 0x0807. -/
def reloaded (b : List Byte) (d : Dev) : Dev :=
  let d0 := setF IMG_STATUS_reload_busy 0 { d with img := { d.img with reload := none, reloadReady := false } }
  let d1 := putBuilds (applyLive { d0 with img := { d0.img with run := b :: d0.img.run.drop 1 } })
  imgEvent 0x0807 none (setB IMG_STATUS_untested (firstUntested (reloadParties d b)).isSome d1)

theorem reloadApplyF_due {b : List Byte} (hb : d.img.reload = some b) (hready : d.img.reloadReady = true)
    (hfatal : d.flt.fatal = []) (hrun : running d = true) :
    reloadApplyF d =
      match firstUntested (reloadParties d b) with
      | some (_, x, y) => imgEvent 0x0805 (some (x, y)) (reloaded b d)
      | none => reloaded b d := by
  have hkeep : ¬ ((!d.flt.fatal.isEmpty) || !(running d)) = true := by simp [hfatal, hrun]
  have hdue : ¬ (!d.img.reloadReady) = true := by simp [hready]
  unfold reloadApplyF
  rw [hb]
  exact (if_neg hkeep).trans (if_neg hdue)

/-! ### Confirmation (R56) -/

theorem confirmF_confirmable (h : confirmable d = true) : confirmF d = confirmSlot d := if_pos h

/-- IMG_LKG_TIME ends for a slot that may be confirmed, where no fault is fatal. -/
theorem lkgTimeExpiry_runsTo {s : State} (hp : s.pwr.powered = true) (hc : confirmable s.toDev = true)
    (hw : lkgWaited s.toDev = true) (hf : s.flt.fatal = []) : runsTo .lkgTimeExpiry s (confirmSlot s.toDev) :=
  runsTo_of_doIf (c := fun d => d.pwr.powered && confirmable d && lkgWaited d && d.flt.fatal.isEmpty) rfl
    (by simp [hp, hc, hw, hf]) rfl

end

/-- Settles O16: each command by the branch of its function that the state picks. -/
theorem imageCommandsComplete : Obligations.ImageCommandsComplete := by
  delta Obligations.ImageCommandsComplete
  refine ⟨?host, ?reload, ?apply, ?confirm, ?clear⟩
  case host => exact fun r o s hg hb hrun => runsTo_of_write rfl hg (loadHostF_boot o hb hrun)
  case reload =>
    exact fun r s hg hrun hnone hset => runsTo_of_write rfl hg (reloadF_may (reloadMay_iff.mpr ⟨hrun, hnone, hset⟩))
  case apply =>
    exact fun b s hp hb hready hfatal hrun => runsTo_of_powered _ rfl hp (reloadApplyF_due hb hready hfatal hrun)
  case confirm =>
    intro r s hc slot d1 d2
    refine ⟨fun hg => ?_, fun hp hf hw => ?_⟩
    · exact runsTo_of_write rfl hg (confirmF_confirmable hc)
    · exact lkgTimeExpiry_runsTo hp hc hw hf
  case clear =>
    intro r s hg
    refine ⟨?_, ?_⟩
    · exact runsTo_of_write (k := clearBadF 0) rfl hg rfl
    · exact runsTo_of_write (k := clearBadF 1) rfl hg rfl

end Sys2Proof.Proofs

/-! PROOFS about the queue of commands (R76), and about commands whose requester does not reach the device (R69). -/

namespace Sys2Proof.Proofs

open Sys2Proof Sys2Proof.Machine Sys2Proof.Laws

/-! ### The queue (R76, log entry 114) -/

theorem step_front {s : State} {i : Instr} {rest : List Instr} (h : s.pending = i :: rest) :
    step s = exec i { s with pending := rest } := by
  simp only [step, h]

/-- Settles O1: a step takes the branch of a queue that is not empty. -/
theorem stepRunsFrontCommand : Obligations.StepRunsFrontCommand := fun _ _ _ h => step_front h

/-- Every command leaves the device that it leaves on an empty queue, and the queue as it was. -/
theorem runsTo_afterCmd (i : Instr) (s : State) : runsTo i s (afterCmd i s.toDev) := by
  obtain ⟨f, hf⟩ := exec_upd i
  have hafter : afterCmd i s.toDev = f s.toDev := by simp only [afterCmd, hf, upd_next]
  exact runsTo_of_upd (hf s) hafter.symm

/-- Settles O56: every command leaves a device. -/
theorem everyCommandAnswersNext : Obligations.EveryCommandAnswersNext := fun i s => ⟨afterCmd i s.toDev, runsTo_afterCmd i s⟩

theorem step_afterCmd {s : State} {i : Instr} {rest : List Instr} (h : s.pending = i :: rest) :
    step s = .next { toDev := afterCmd i s.toDev, pending := rest } :=
  (step_front h).trans (runsTo_afterCmd i { s with pending := rest })

/-- As many steps as commands wait run them first in, first out. -/
theorem run_queue (q : List Instr) : ∀ s : State, s.pending = q →
    Host.Core.run core q.length s = .next { toDev := q.foldl (fun d i => afterCmd i d) s.toDev, pending := [] } := by
  induction q with
  | nil => intro s hq; cases s; cases hq; rfl
  | cons i rest ih =>
    intro s hq
    have hstep : Host.Core.step core s = .next { toDev := afterCmd i s.toDev, pending := rest } := step_afterCmd hq
    exact (run_succ hstep rest.length).trans (ih _ rfl)

/-- Settles O3: along the queue, each step by the device that its command leaves. -/
theorem runExecutesQueueInOrder : Obligations.RunExecutesQueueInOrder := fun s => run_queue s.pending s rfl

/-! ### Requesters that do not reach the device (R69) -/

section

variable {d : Dev} {r : Req}

theorem guardRead_unreached {a : Nat} (k : Dev → Dev) (h : reaches d r = false) : guardRead r a k d = d := by
  simp [guardRead, h]

theorem busWrite_unreached (h : reaches d r = false) (a : Nat) (v : Word) : busWrite r a v d = d := by
  simp [busWrite, h]

theorem pcieWords_unreached (h : reaches d r = false) (ws : List (Word × BitVec 4)) (a : BarAddr) : pcieWords r ws a d = d := by
  induction ws generalizing a with
  | nil => rfl
  | cons x ws ih =>
    have hword : (if x.2 = 0xF#4 then busWrite r a.toNat x.1 d else doIf (reaches d r) (hifErr HIF_ERR_partial r) d) = d := by
      rw [busWrite_unreached h, h, doIf_false, ite_self]
    rw [pcieWords, hword, ih]

end

/-- A write of one register does nothing where its requester does not reach the device. -/
theorem exec_of_cmdWrite_unreached {i : Instr} {r : Req} {a : Nat} {s : State} (hw : cmdWrite i = some (r, a))
    (h : reaches s.toDev r = false) : exec i s = .next s := by
  obtain ⟨k, hx⟩ := exec_of_cmdWrite hw
  exact exec_eq_self (hx s) (guardWrite_unreached k h)

/-- Settles O6: the plain accesses, the reads behind a guard and the requests of PCIe by their own guard; every other command of a
requester is a write of one register. -/
theorem unreachedRequesterChangesNothing : Obligations.UnreachedRequesterChangesNothing := by
  unfold Obligations.UnreachedRequesterChangesNothing
  intro i r s hreq h
  cases i with
  | registerWrite | highWordCommit => cases hreq; exact exec_eq_self rfl (busWrite_unreached h _ _)
  | rcRead | lowWordLatchRead | pcieConfigWrite => cases hreq; exact exec_of_cond_false (by unfold exec; exact rfl) h
  | dsgQStatusRead | evqRecordRead | fltLatchRead | fltRailRead | logRec0Read | logRec7Read =>
    cases hreq; exact exec_eq_self rfl (guardRead_unreached _ h)
  | bulkDataRead => cases hreq; exact exec_eq_self rfl (by simp [bulkReadF, h])
  | pcieMemoryRead | timeLatchRead => cases hreq; exact exec_eq_self (by unfold exec; exact rfl) (by simp [h])
  | pcieMemoryWrite f a ws =>
    cases hreq
    exact exec_eq_self rfl (doIf_ind (P := fun e => e = s.toDev) _ _ _ (pcieWords_unreached h ws a) rfl)
  | _ => cases hreq <;> exact exec_of_cmdWrite_unreached rfl h

end Sys2Proof.Proofs

/-! PROOFS about register writes that observation rights do not allow. -/

namespace Sys2Proof.Proofs

open Sys2Proof Sys2Proof.Machine Sys2Proof.Laws

/-! ### Error bits of HIF_ERR (R78) -/

/-- A field of HIF_ERR is one of its five error bits. -/
def IsErrBit (f : Fld) : Prop := f.reg = HIF_ERR ∧ f.lo + f.wd ≤ 5 ∧ f.wd = 1

section

variable {d : Dev} {r : Req} {f : Fld}

theorem hifErr_first (h : bitsOf (rd d HIF_ERR) 0 5 = 0) : hifErr f r d = setF HIF_ERR_who (reqCode r) (setF f 1 d) := by
  simp only [hifErr, h, decide_true, doIf_true]

theorem hifErr_again (h : bitsOf (rd d HIF_ERR) 0 5 ≠ 0) : hifErr f r d = setF f 1 d := by
  simp only [hifErr, h, decide_false, doIf_false]

theorem fld_hifErr_set (hf : IsErrBit f) : fld (hifErr f r d) f = 1 := by
  obtain ⟨hreg, hlo, hwd⟩ := hf
  have hset : fld (setF f 1 d) f = 1 := by rw [fld_setF_same _ _ _ (by omega), hwd]; rfl
  refine doIf_ind (P := fun e => fld e f = 1) _ _ _ ?_ hset
  rw [fld_setF_other _ _ (.inr (.inl (by unfold HIF_ERR_who; dsimp only; omega))), hset]

/-- `who` takes the requester that sets the first error bit. -/
theorem fld_hifErr_requester (hf : IsErrBit f) :
    fld (hifErr f r d) HIF_ERR_who = if bitsOf (rd d HIF_ERR) 0 5 = 0 then reqCode r else fld d HIF_ERR_who := by
  obtain ⟨hreg, hlo, -⟩ := hf
  by_cases h : bitsOf (rd d HIF_ERR) 0 5 = 0
  · rw [hifErr_first h, if_pos h, fld_setF_same _ _ _ (by decide), Nat.mod_eq_of_lt (reqCode_lt r)]
  · rw [hifErr_again h, if_neg h]
    exact fld_setF_other _ _ (.inr (.inr (by unfold HIF_ERR_who; dsimp only; omega)))

end

theorem bitsOf_low_ne_zero {w : Word} (h : bitsOf w 1 1 = 1) : bitsOf w 0 5 ≠ 0 := by
  unfold bitsOf at *
  rw [Nat.shiftRight_eq_div_pow] at *
  omega

theorem satU_eq_min (n v : Nat) : satU n v = min (2 ^ n - 1) v := by
  have := Nat.two_pow_pos n
  unfold satU
  split <;> omega

/-! ### A refused write, alone (R63) -/

theorem guardWrite_refused {d : Dev} {r : Req} {a : Nat} (k : Dev → Dev) (hreach : reaches d r = true) (hfull : fullRights d r = false)
    (hmay : obsMayWrite d r a = false) : guardWrite r a k d = obsRefuse r a d := by
  simp [guardWrite, hreach, hfull, hmay]

/-- The registers of a refused write, before its event. -/
def obsMarks (r : Req) (d : Dev) : Dev := satAdd HIF_OBS_DROP_count 1 (hifErr HIF_ERR_obs_write r d)

/-- A refused write with its event. -/
def obsNoted (r : Req) (a : Nat) (d : Dev) : Dev := raise 0x0403 (hifParam r (blkNum a)) (obsMarks r d)

section

variable (r : Req) (a : Nat) (d : Dev)

theorem rd_obsNoted {b : Nat} (h : isPmc (b % bankSpan) = false) (herr : b ≠ HIF_ERR) (hdrop : b ≠ HIF_OBS_DROP) :
    rd (obsNoted r a d) b = rd d b := by
  rw [obsNoted, rd_raise _ _ _ h, obsMarks, satAdd, rd_setF_other (f := HIF_OBS_DROP_count) _ _ hdrop, rd_hifErr_other _ _ _ rfl herr]

theorem fld_obsNoted_err {f : Fld} (hf : f.reg = HIF_ERR) :
    fld (obsNoted r a d) f = fld (hifErr HIF_ERR_obs_write r d) f := by
  have hne : f.reg ≠ HIF_OBS_DROP := by rw [hf]; decide
  rw [obsNoted, fld_raise _ _ _ (by rw [hf]; decide), obsMarks, satAdd, fld_setF_other _ _ (.inl hne)]

theorem fld_obsNoted_bit : fld (obsNoted r a d) HIF_ERR_obs_write = 1 := by
  rw [fld_obsNoted_err r a d rfl, fld_hifErr_set ⟨rfl, by decide, rfl⟩]

theorem fld_obsNoted_who : fld (obsNoted r a d) HIF_ERR_who =
    if bitsOf (rd d HIF_ERR) 0 5 = 0 then reqCode r else fld d HIF_ERR_who := by
  rw [fld_obsNoted_err r a d rfl, fld_hifErr_requester ⟨rfl, by decide, rfl⟩]

theorem fld_obsNoted_count : fld (obsNoted r a d) HIF_OBS_DROP_count = min 0xFFFF (fld d HIF_OBS_DROP_count + 1) := by
  rw [obsNoted, fld_raise _ _ _ (by decide), obsMarks, satAdd, fld_setF_same _ _ _ (by decide), Nat.mod_eq_of_lt (satU_lt _ _),
    fld_hifErr_other _ _ _ rfl (by decide), satU_eq_min]
  rfl

/-- After the refusal an error bit is set, so that no later one of the access names a requester. -/
theorem errBits_obsNoted : bitsOf (rd (obsNoted r a d) HIF_ERR) 0 5 ≠ 0 := bitsOf_low_ne_zero (fld_obsNoted_bit r a d)

theorem obsMarks_regs_only : ∃ c, obsMarks r d = { d with regs := c } := by
  unfold obsMarks hifErr
  cases decide (bitsOf (rd d HIF_ERR) 0 5 = 0) <;> exact ⟨_, rfl⟩

theorem obsNoted_stores : sameMem d (obsNoted r a d) ∧ (obsNoted r a d).latch = d.latch ∧ (obsNoted r a d).held = d.held := by
  obtain ⟨c, hc⟩ := obsMarks_regs_only r d
  rw [obsNoted, hc]
  exact ⟨⟨raise_ram _ _ _, raise_badWords _ _ _, raise_flash _ _ _⟩, raise_latch _ _ _, raise_held _ _ _⟩

end

/-! ### What R78 and R79 add to a refused write -/

/-- The record of a refused write stands, and nothing changes but HIF_ERR and HIF_OFF_ACCESS. -/
def keepsRefusal (d e : Dev) : Prop :=
  fld e HIF_ERR_obs_write = fld d HIF_ERR_obs_write ∧ fld e HIF_ERR_who = fld d HIF_ERR_who ∧
  sameRegsBut [HIF_ERR, HIF_OFF_ACCESS] d e ∧ sameMem d e ∧ e.latch = d.latch ∧ e.held = d.held

section

variable {d e : Dev}

theorem keepsRefusal_refl (d : Dev) : keepsRefusal d d := ⟨rfl, rfl, fun _ _ _ => rfl, ⟨rfl, rfl, rfl⟩, rfl, rfl⟩

theorem keepsRefusal_trans {g : Dev} (h : keepsRefusal d e) (h' : keepsRefusal e g) : keepsRefusal d g := by
  obtain ⟨hbit, hwho, hreg, ⟨hram, hbad, hflash⟩, hlatch, hheld⟩ := h
  obtain ⟨hbit', hwho', hreg', ⟨hram', hbad', hflash'⟩, hlatch', hheld'⟩ := h'
  exact ⟨hbit'.trans hbit, hwho'.trans hwho, fun b hb hp => (hreg' b hb hp).trans (hreg b hb hp),
    ⟨hram'.trans hram, hbad'.trans hbad, hflash'.trans hflash⟩, hlatch'.trans hlatch, hheld'.trans hheld⟩

theorem keepsRefusal_setF {f : Fld} (v : Nat) (hf : f.reg ∈ [HIF_ERR, HIF_OFF_ACCESS])
    (hbit : HIF_ERR_obs_write.reg ≠ f.reg ∨ HIF_ERR_obs_write.lo + HIF_ERR_obs_write.wd ≤ f.lo ∨ f.lo + f.wd ≤ HIF_ERR_obs_write.lo)
    (hwho : HIF_ERR_who.reg ≠ f.reg ∨ HIF_ERR_who.lo + HIF_ERR_who.wd ≤ f.lo ∨ f.lo + f.wd ≤ HIF_ERR_who.lo)
    (h : keepsRefusal d e) : keepsRefusal d (setF f v e) :=
  keepsRefusal_trans h ⟨fld_setF_other _ _ hbit, fld_setF_other _ _ hwho,
    fun _ hb _ => rd_setF_other _ _ (fun heq => hb (heq ▸ hf)), ⟨rfl, rfl, rfl⟩, rfl, rfl⟩

theorem keepsRefusal_of_keepsRaise (h : keepsRaise d e) : keepsRefusal d e := by
  have hfld : ∀ f : Fld, f.reg = HIF_ERR → fld e f = fld d f := fun f hf => by
    rw [fld, fld, h.1 _ (by rw [hf]; decide)]
  exact ⟨hfld _ rfl, hfld _ rfl, fun b _ hp => h.1 b hp, ⟨keepsRaise_ram h, keepsRaise_badWords h, keepsRaise_flash h⟩,
    keepsRaise_latch h, keepsRaise_held h⟩

theorem keepsRefusal_hif (m : Hif) (h : keepsRefusal d e) : keepsRefusal d { e with hif := m } := h

theorem keepsRefusal_ownedErr (r : Req) (c : Nat) (h : bitsOf (rd d HIF_ERR) 0 5 ≠ 0) : keepsRefusal d (ownedErr r c d) := by
  rw [ownedErr, hifErr_again h]
  exact keepsRefusal_trans (keepsRefusal_setF _ (by decide) (by decide) (by decide) (keepsRefusal_refl d))
    (keepsRefusal_of_keepsRaise (keepsRaise_raise _ _ _))

theorem keepsRefusal_offAccess (r : Req) (a : Nat) (h : bitsOf (rd d HIF_ERR) 0 5 ≠ 0) : keepsRefusal d (offAccess r a d) := by
  have hmarks : keepsRefusal d (offMarks r a d) := by
    rw [offMarks, satAdd, hifErr_again h]
    exact keepsRefusal_setF _ (by decide) (by decide) (by decide) (keepsRefusal_setF _ (by decide) (by decide) (by decide)
      (keepsRefusal_setF _ (by decide) (by decide) (by decide) (keepsRefusal_refl d)))
  obtain ⟨m, hk⟩ := keepsRaise_offAccess r a d
  exact keepsRefusal_trans (keepsRefusal_hif m hmarks) (keepsRefusal_of_keepsRaise hk)

end

/-! ### A refused write (R63, R78, R79) -/

section

variable {r : Req} {a : Nat} {d : Dev}

theorem obsRefuse_off (h : regOn d a = false) : obsRefuse r a d = offAccess r a (obsNoted r a d) := by
  simp [obsRefuse, h, obsNoted, obsMarks]

theorem obsRefuse_owned {c : Nat} (h : regOn d a = true) (hc : othersChan d r a = some c) :
    obsRefuse r a d = ownedErr r c (obsNoted r a d) := by
  simp [obsRefuse, h, hc, obsNoted, obsMarks]

theorem obsRefuse_plain (h : regOn d a = true) (hc : othersChan d r a = none) : obsRefuse r a d = obsNoted r a d := by
  simp [obsRefuse, h, hc, obsNoted, obsMarks]

theorem keepsRefusal_obsRefuse : keepsRefusal (obsNoted r a d) (obsRefuse r a d) := by
  have herr := errBits_obsNoted r a d
  cases hon : regOn d a with
  | false => rw [obsRefuse_off hon]; exact keepsRefusal_offAccess r a herr
  | true =>
    cases hc : othersChan d r a with
    | none => rw [obsRefuse_plain hon hc]; exact keepsRefusal_refl _
    | some c => rw [obsRefuse_owned hon hc]; exact keepsRefusal_ownedErr r c herr

/-- Where the register's domain is on, HIF_OFF_ACCESS stands too. -/
theorem rd_obsRefuse_on (h : regOn d a = true) {b : Nat} (hp : isPmc (b % bankSpan) = false) (hb : b ≠ HIF_ERR) :
    rd (obsRefuse r a d) b = rd (obsNoted r a d) b := by
  cases hc : othersChan d r a with
  | none => rw [obsRefuse_plain h hc]
  | some c => rw [obsRefuse_owned h hc, ownedErr, rd_raise _ _ _ hp, rd_hifErr_other _ _ _ rfl hb]

theorem fld_obsRefuse_offDomain (h : regOn d a = false) : fld (obsRefuse r a d) HIF_ERR_off_domain = 1 ∧
    fld (obsRefuse r a d) HIF_OFF_ACCESS_count = satU HIF_OFF_ACCESS_count.wd (fld d HIF_OFF_ACCESS_count + 1) := by
  have hcount : fld (obsNoted r a d) HIF_OFF_ACCESS_count = fld d HIF_OFF_ACCESS_count := by
    rw [fld, rd_obsNoted r a d (by decide) (by decide) (by decide), fld]
  rw [obsRefuse_off h, fld_offAccess r a _ (by decide), fld_offAccess r a _ (by decide), fld_offMarks_err r a _ rfl,
    fld_offMarks_count, hcount]
  exact ⟨fld_hifErr_bit r _, rfl⟩

theorem fld_obsRefuse_owned (h : regOn d a = true) (hc : (othersChan d r a).isSome = true) :
    fld (obsRefuse r a d) HIF_ERR_owned = 1 := by
  obtain ⟨c, hc⟩ := Option.isSome_iff_exists.mp hc
  rw [obsRefuse_owned h hc, ownedErr, fld_raise _ _ _ (by decide), fld_hifErr_set ⟨rfl, by decide, rfl⟩]

end

/-- Settles O7: the guard's first branch, and what it records, register by register. -/
theorem observerWriteIsRefused : Obligations.ObserverWriteIsRefused := by
  unfold Obligations.ObserverWriteIsRefused
  refine ⟨?command, ?record⟩
  case command =>
    intro i r a s hw hreach hfull hmay
    obtain ⟨k, hx⟩ := exec_of_cmdWrite hw
    exact runsTo_of_upd (hx s) (guardWrite_refused k hreach hfull hmay)
  case record =>
    intro r a d
    obtain ⟨hbit, hwho, hreg, ⟨hram, hbad, hflash⟩, hlatch, hheld⟩ := keepsRefusal_obsRefuse (r := r) (a := a) (d := d)
    obtain ⟨⟨hram0, hbad0, hflash0⟩, hlatch0, hheld0⟩ := obsNoted_stores r a d
    refine ⟨hbit.trans (fld_obsNoted_bit r a d), ?count, hwho.trans (fld_obsNoted_who r a d), fld_obsRefuse_offDomain, ?regsOn,
      fld_obsRefuse_owned, ?regs, ⟨hram.trans hram0, hbad.trans hbad0, hflash.trans hflash0⟩, hlatch.trans hlatch0,
      hheld.trans hheld0⟩
    case count => rw [fld, hreg _ (by decide) (by decide), ← fld, fld_obsNoted_count]
    case regsOn =>
      intro hon b hb hp
      simp only [List.mem_cons, List.not_mem_nil, or_false, not_or] at hb
      rw [rd_obsRefuse_on hon hp hb.1, rd_obsNoted r a d hp hb.1 hb.2]
    case regs =>
      intro b hb hp
      simp only [List.mem_cons, List.not_mem_nil, or_false, not_or] at hb
      obtain ⟨herr, hdrop, hoff⟩ := hb
      rw [hreg b (by simp [herr, hoff]) hp, rd_obsNoted r a d hp herr hdrop]

end Sys2Proof.Proofs

/-! PROOFS about SPI frames, I2C transfers and PCIe memory requests. -/

namespace Sys2Proof.Proofs

open Sys2Proof Sys2Proof.Machine Sys2Proof.Laws

/-! ### Bursts, word by word (R68, R72, R73) -/

section

variable (r : Req)

theorem burstRead_length (n : Nat) (a : BarAddr) (d : Dev) : (burstRead r n a d).1.length = n := by
  induction n generalizing a d with
  | zero => rfl
  | succ n ih => exact congrArg Nat.succ (ih _ _)

theorem burstRead_head {n : Nat} (hn : 0 < n) (a : BarAddr) (d : Dev) :
    (burstRead r n a d).1.head? = some (busRead r a.toNat d).1 := by
  cases n with
  | zero => exact absurd hn (by decide)
  | succ n => rfl

theorem i2cRead_length (n : Nat) (a : BarAddr) (d : Dev) : (i2cRead n a d).1.length = n := by
  induction n generalizing a d with
  | zero => rfl
  | succ n ih => exact congrArg Nat.succ (ih _ _)

/-- One bus write of a burst: the address moves on by a word. -/
def writeNext (p : BarAddr × Dev) (w : Word) : BarAddr × Dev := (p.1 + 4, busWrite r p.1.toNat w p.2)

theorem burstWrite_eq_foldl (ws : List Word) (a : BarAddr) (d : Dev) :
    burstWrite r ws a d = (ws.foldl (writeNext r) (a, d)).2 := by
  induction ws generalizing a d with
  | nil => rfl
  | cons w ws ih => exact ih _ _

/-- A PCIe write whose words carry all byte enables is a burst (R68). -/
theorem pcieWords_allEnabled (ws : List Word) (a : BarAddr) (d : Dev) :
    pcieWords r (ws.map (fun w => (w, 0xF#4))) a d = burstWrite r ws a d := by
  induction ws generalizing a d with
  | nil => rfl
  | cons w ws ih =>
    rw [List.map_cons, pcieWords, if_pos rfl]
    exact ih _ _

theorem pcieWords_partial {be : BitVec 4} (hbe : be ≠ 0xF#4) {d : Dev} (h : reaches d r = true) (a : BarAddr) (w : Word) :
    pcieWords r [(w, be)] a d = hifErr HIF_ERR_partial r d := by
  rw [pcieWords, if_neg hbe, h, doIf_true]
  rfl

theorem cutWord_cut {d : Dev} (h : d.pwr.powered = true) : cutWord r true d = hifErr HIF_ERR_partial r d := by
  rw [cutWord, h, Bool.and_self, doIf_true]

end

/-! ### Frames and transfers (R68, R70 to R73) -/

theorem powered_of_reaches {d : Dev} {r : Req} (h : reaches d r = true) : d.pwr.powered = true :=
  (Bool.and_eq_true_iff.mp h).1

section

variable {s : State} (hp : s.pwr.powered = true)
include hp

theorem spiReadF_powered (a : BarAddr) (n : Nat) : spiReadF a n s.toDev =
    { (burstRead .spi n a s.toDev).2 with resp := (burstRead .spi n a s.toDev).1, spiStatus := spiStatusOf s.toDev a.toNat } := by
  simp only [spiReadF, hp, Bool.not_true, Bool.false_eq_true, if_false]

theorem spiWrite_runsTo (a : BarAddr) (ws : List Word) (cut : Bool) :
    runsTo (.spiWrite a ws cut) s (cutWord .spi cut (burstWrite .spi ws a s.toDev)) ∧
    runsTo (.spiQuadWrite a ws cut) s (cutWord .spi cut (burstWrite .spi ws a s.toDev)) :=
  ⟨runsTo_of_powered (fun d => cutWord .spi cut (burstWrite .spi ws a d)) rfl hp rfl,
    runsTo_of_powered (fun d => cutWord .spi cut (burstWrite .spi ws a d)) rfl hp rfl⟩

theorem i2cAddress_answers : (s.pwr.powered && i2cAddress s.toDev == i2cAddress s.toDev) = true := by
  rw [hp, beq_self_eq_true]; rfl

theorem i2cWrite_runsTo (a : BarAddr) (ws : List Word) (cut : Bool) :
    runsTo (.i2cWriteTransfer (i2cAddress s.toDev) a ws cut) s (cutWord .i2c cut (burstWrite .i2c ws a s.toDev)) :=
  runsTo_of_upd (f := fun d => if d.pwr.powered && i2cAddress s.toDev == i2cAddress d then
    cutWord .i2c cut (burstWrite .i2c ws a d) else d) rfl (if_pos (i2cAddress_answers hp))

theorem i2cRead_runsTo (a : BarAddr) (n : Nat) : runsTo (.i2cReadTransfer (i2cAddress s.toDev) a n) s
    { (i2cRead n a s.toDev).2 with resp := (i2cRead n a s.toDev).1 } :=
  runsTo_of_upd (f := fun d => if d.pwr.powered && i2cAddress s.toDev == i2cAddress d then
    { (i2cRead n a d).2 with resp := (i2cRead n a d).1 } else d) rfl (if_pos (i2cAddress_answers hp))

end

theorem pcieMemoryRead_runsTo {f : Pf} {s : State} (h : reaches s.toDev (pfReq f) = true) (a : BarAddr) (n : Nat) :
    runsTo (.pcieMemoryRead f a n) s
      { (burstRead (pfReq f) n a s.toDev).2 with resp := (burstRead (pfReq f) n a s.toDev).1 } :=
  runsTo_of_upd (f := fun d => if reaches d (pfReq f) then
    { (burstRead (pfReq f) n a d).2 with resp := (burstRead (pfReq f) n a d).1 } else d) rfl (if_pos h)

/-- Settles O17: each interface by its own lemma, the bursts word by word. -/
theorem serialInterfacesComplete : Obligations.SerialInterfacesComplete := by
  delta Obligations.SerialInterfacesComplete
  refine ⟨?spiRead, ?spiWrite, ?i2cWrite, ?i2cRead, ?pcieWrite, ?pciePartial, ?pcieRead⟩
  case spiRead =>
    intro a n s hp x e
    exact ⟨runsTo_of_powered (spiReadF a n) rfl hp (spiReadF_powered hp a n),
      runsTo_of_powered (spiReadF a n) rfl hp (spiReadF_powered hp a n), burstRead_length _ _ _ _⟩
  case spiWrite =>
    intro a ws s hp e
    have he : e.2 = burstWrite .spi ws a s.toDev := (burstWrite_eq_foldl .spi ws a s.toDev).symm
    rw [he]
    refine ⟨spiWrite_runsTo hp a ws false, fun hon => ?_⟩
    have hcut := spiWrite_runsTo hp a ws true
    rwa [cutWord_cut .spi hon] at hcut
  case i2cWrite =>
    intro a ws s hp adr e
    have he : e.2 = burstWrite .i2c ws a s.toDev := (burstWrite_eq_foldl .i2c ws a s.toDev).symm
    rw [he]
    refine ⟨i2cWrite_runsTo hp a ws false, fun hon => ?_⟩
    have hcut := i2cWrite_runsTo hp a ws true
    rwa [cutWord_cut .i2c hon] at hcut
  case i2cRead => exact fun a n s hp => ⟨i2cRead_runsTo hp a n, i2cRead_length _ _ _⟩
  case pcieWrite =>
    intro f a ws s h e
    have he : e.2 = burstWrite (pfReq f) ws a s.toDev := (burstWrite_eq_foldl (pfReq f) ws a s.toDev).symm
    rw [he]
    exact runsTo_of_powered (pcieWords (pfReq f) _ a) rfl (powered_of_reaches h) (pcieWords_allEnabled _ _ _ _)
  case pciePartial =>
    exact fun f a w be s h hbe =>
      runsTo_of_powered (pcieWords (pfReq f) _ a) rfl (powered_of_reaches h) (pcieWords_partial _ hbe h a w)
  case pcieRead =>
    exact fun f a n s h => ⟨pcieMemoryRead_runsTo h a n, burstRead_length _ _ _ _, fun hn => burstRead_head _ hn _ _⟩

end Sys2Proof.Proofs

/-! PROOFS about the PCIe endpoint: PERST_N, the link, held messages, configuration writes, and the lock of the management rights. -/

namespace Sys2Proof.Proofs

open Sys2Proof Sys2Proof.Machine Sys2Proof.Laws

/-! ### Flags -/

theorem flag_setB_same {f : Fld} (hlo : f.lo < 32) (hwd : f.wd = 1) (b : Bool) (d : Dev) : flag (setB f b d) f = b := by
  rw [flag, setB, fld_setF_same _ _ _ (by omega), hwd]
  cases b <;> rfl

theorem flag_setB_other {f g : Fld} (b : Bool) (d : Dev) (h : g.reg ≠ f.reg ∨ g.lo + g.wd ≤ f.lo ∨ f.lo + f.wd ≤ g.lo) :
    flag (setB f b d) g = flag d g := by
  rw [flag, setB, fld_setF_other _ _ h, flag]

theorem flag_eq_bit (d : Dev) (a i : Nat) : flag d ⟨a, i, 1⟩ = (rdN d a / 2 ^ i % 2 == 1) := by
  simp only [flag, fld, bitsOf, rdN, Nat.shiftRight_eq_div_pow, pow_one]

/-! ### PERST_N and the link (R69, R489) -/

section

variable {d : Dev}

theorem perstHigh_low (h : flag d HIF_STATUS_perst = true) : perstHigh d = wakeBy 1 (setF HIF_STATUS_perst 0 d) := by
  rw [perstHigh, h, doIf_true]

/-- HIF_STATUS as the link reaches L0. -/
def linkShown (speed width : Nat) (d : Dev) : Dev :=
  setF HIF_STATUS_link_up 1 (setF HIF_STATUS_speed speed (setF HIF_STATUS_width width (linkDebug d)))

theorem linkUpF_up (hon : domOn d .ctl = true) (hperst : flag d HIF_STATUS_perst = false) (hlink : flag d HIF_STATUS_link_up = false)
    (hunit : unitOut d 0x3E = false) (speed width : Nat) : linkUpF speed width d =
      raise 0x0406 0 { linkShown speed width d with hif := { (linkShown speed width d).hif with wakeHost := false } } := by
  simp only [linkUpF, hon, hperst, hlink, hunit, Bool.not_true, Bool.or_self, Bool.false_eq_true, if_false, linkShown]

theorem linkDownF_up (h : flag d HIF_STATUS_link_up = true) : linkDownF d = raise 0x0405 0
    (setF HIF_STATUS_link_up 0 (setF HIF_STATUS_speed 0 (setF HIF_STATUS_width 0 (linkDebug d)))) := by
  rw [linkDownF, h, doIf_true]

theorem sendHeld_free {i : Nat} (hheld : (pcieFn d i).pba = true) (hmay : fnMaySend d i = true) : sendHeld i d = notifyPf i d := by
  rw [sendHeld, hheld, hmay, Bool.and_self, doIf_true]

end

/-! ### Configuration writes (R397) -/

theorem pcieConfigWrite_runsTo {f : Pf} {s : State} (h : reaches s.toDev (pfReq f) = true) (w : CfgWrite) :
    runsTo (.pcieConfigWrite f w) s (configF f w s.toDev) :=
  runsTo_of_doIf (c := fun d => reaches d (pfReq f)) (f := configF f w) rfl h rfl

theorem configF_d3 (f : Pf) (on : Bool) (d : Dev) : configF f (.d3 on) d =
    setF (if f = .pf0 then HIF_STATUS_pf0_d else HIF_STATUS_pf1_d) (if on = true then 3 else 0) d := by
  cases f <;> rfl

/-! ### The management rights (R62, R75) -/

section

variable (v : Word) (d : Dev)

theorem flag_mgmtCtlF_lock : flag (mgmtCtlF v d) HIF_MGMT_CTL_lock = (flag d HIF_MGMT_CTL_lock || bitAt v 2) :=
  flag_setB_same (by decide) rfl _ _

theorem flag_mgmtCtlF_i2cFull : flag (mgmtCtlF v d) HIF_MGMT_CTL_i2c_full =
    (bitAt v 1 && (!(flag d HIF_MGMT_CTL_lock) || flag d HIF_MGMT_CTL_i2c_full)) := by
  rw [mgmtCtlF, flag_setB_other _ _ (by decide), flag_setB_same (by decide) rfl, HIF_MGMT_CTL_i2c_full, flag_eq_bit]

theorem flag_mgmtCtlF_spiFull : flag (mgmtCtlF v d) HIF_MGMT_CTL_spi_full =
    (bitAt v 0 && (!(flag d HIF_MGMT_CTL_lock) || flag d HIF_MGMT_CTL_spi_full)) := by
  rw [mgmtCtlF, flag_setB_other _ _ (by decide), flag_setB_other _ _ (by decide), flag_setB_same (by decide) rfl,
    HIF_MGMT_CTL_spi_full, flag_eq_bit]

theorem sameRegsBut_mgmtCtlF : sameRegsBut [HIF_MGMT_CTL] d (mgmtCtlF v d) := by
  intro b hb _
  have hne : b ≠ HIF_MGMT_CTL := fun h => hb (List.mem_singleton.mpr h)
  rw [mgmtCtlF, setB, setB, setB, rd_setF_other (f := HIF_MGMT_CTL_lock) _ _ hne, rd_setF_other (f := HIF_MGMT_CTL_i2c_full) _ _ hne,
    rd_setF_other (f := HIF_MGMT_CTL_spi_full) _ _ hne]

end

/-- Settles O18: PERST_N, link and messages by the branch that the state picks, a configuration write by what it names, and the
rights flag by flag. -/
theorem pcieEndpointCommandsComplete : Obligations.PcieEndpointCommandsComplete := by
  delta Obligations.PcieEndpointCommandsComplete
  refine ⟨?perstLow, ?perstHigh, ?linkUp, ?linkDown, ?message, ?configBits, ?configWords, ?rights⟩
  case perstLow => exact fun s hp h => runsTo_of_powered perstLow rfl hp (perstLow_high h)
  case perstHigh => exact fun s hp h => runsTo_of_powered perstHigh rfl hp (perstHigh_low h)
  case linkUp =>
    exact fun speed width s hon hperst hlink hunit => runsTo_of_upd (f := linkUpF speed.val width.val) rfl
      (linkUpF_up hon hperst hlink hunit _ _)
  case linkDown => exact fun s hp h => runsTo_of_powered linkDownF rfl hp (linkDownF_up h)
  case message =>
    exact fun f s hon hheld hmay => runsTo_of_doIf (c := fun d => domOn d .ctl) (f := sendHeld (pfIdx f)) rfl hon
      (sendHeld_free hheld hmay)
  case configBits =>
    intro f on s h x
    have hd3 := pcieConfigWrite_runsTo h (.d3 on)
    rw [configF_d3] at hd3
    exact ⟨pcieConfigWrite_runsTo h _, pcieConfigWrite_runsTo h _, pcieConfigWrite_runsTo h _, pcieConfigWrite_runsTo h _,
      pcieConfigWrite_runsTo h _, pcieConfigWrite_runsTo h _, hd3⟩
  case configWords =>
    exact fun f l1 l11 l12 u c m a s h => ⟨pcieConfigWrite_runsTo h _, pcieConfigWrite_runsTo h _, pcieConfigWrite_runsTo h _,
      pcieConfigWrite_runsTo h _, pcieConfigWrite_runsTo h _⟩
  case rights =>
    exact fun r v s hg => ⟨mgmtCtlF v s.toDev, runsTo_of_write rfl hg rfl, flag_mgmtCtlF_lock v _, flag_mgmtCtlF_spiFull v _,
      flag_mgmtCtlF_i2cFull v _, sameRegsBut_mgmtCtlF v _, ⟨rfl, rfl, rfl⟩⟩

end Sys2Proof.Proofs

/-! PROOFS about the bulk window: channels, the data port, and the ends of flash operations. -/

namespace Sys2Proof.Proofs

open Sys2Proof Sys2Proof.Machine Sys2Proof.Laws

section

variable {d : Dev} {r : Req} {c : Nat}

/-! ### Commands of a channel (R79) -/

theorem onChannel_allowed (f : Dev → Dev) (h : bulkOwner d c = 0 ∨ bulkOwner d c = reqCode r) : onChannel r c f d = f d := if_pos h

/-- A command of a free channel, or of the requester's own, has its effect where its guards let it through. -/
theorem runsTo_of_bulk {i : Instr} {a : Nat} {s : State} (f : Dev → Dev) {e : Dev} (hx : exec i s = s.upd (onBulk r c a f))
    (hg : granted s.toDev r a = true) (hown : bulkOwner s.toDev c = 0 ∨ bulkOwner s.toDev c = reqCode r) (he : f s.toDev = e) :
    runsTo i s e :=
  runsTo_of_write hx hg ((onChannel_allowed f hown).trans he)

/-- HIF_BULK_SEL as a claim with own = 1 leaves it. -/
def claimed (r : Req) (c : Nat) (v : Word) (d : Dev) : Dev :=
  wrN (HIF_BULK_SEL c) (bitsOf v 0 4 + b2n (bitAt v 4) * 16 + 32 + reqCode r * 256) d

theorem setRefused_chanErr (ok : Bool) (d : Dev) : doIf (!ok) (chanErr r c 4) (setRefused c (!ok) d) =
    if ok = true then setRefused c false d else chanErr r c 4 (setRefused c true d) := by
  cases ok <;> rfl

theorem bulkSelOp_claim {v : Word} (hfree : bulkOwner d c = 0) (hv : bitAt v 5 = true) : bulkSelOp r c v d =
    snapSettle (if bulkAllowed (claimed r c v d) r c (bitsOf v 0 4) (bitAt v 4) = true
      then setRefused c false (setF (HIF_BULK_STATUS_err c) 0 (claimed r c v d))
      else chanErr r c 4 (setRefused c true (setF (HIF_BULK_STATUS_err c) 0 (claimed r c v d)))) := by
  have hown : b2n true * 32 = 32 := rfl
  simp only [bulkSelOp, hfree, hv, bne_self_eq_false, Bool.false_or, if_true, doIf_false, hown, claimed]
  exact congrArg snapSettle (setRefused_chanErr _ _)

theorem bulkCursorOp_memory (v : Word) (h : bulkTarget d c ≠ 2) :
    bulkCursorOp c v d = wrN (HIF_BULK_CURSOR c) (v.toNat / 4 * 4) d := by
  rw [bulkCursorOp, beq_false_of_ne h, doIf_false]

theorem bulkFlushOp_flash (h : bulkTarget d c = 2) : bulkFlushOp c d = forEach (pagesOf d c) (startProgram c) d := by
  rw [bulkFlushOp, beq_iff_eq.mpr h, doIf_true]

theorem bulkEraseOp_sector (ht : bulkTarget d c = 2) (hdir : flag d (HIF_BULK_SEL_dir c) = true) (hclaim : claimRefused d c = false)
    (hsize : bulkCursor d c < bulkSize d 2) (harch : inArchive (bulkCursor d c) = false) : bulkEraseOp r c d =
      lifeAdd 12 1 (touchSlot (bulkCursor d c) { d with hif := { d.hif with flashOps := d.hif.flashOps ++
        [{ chan := c, base := bulkCursor d c / 65536 * 65536, data := [], erase := true }] } }) := by
  have hwrites : ¬ (bulkTarget d c ≠ 0x2 ∨ (!(flag d (HIF_BULK_SEL_dir c))) = true ∨ claimRefused d c = true) := by
    simp [ht, hdir, hclaim]
  rw [bulkEraseOp, if_neg hwrites, if_neg (not_le.mpr hsize), harch]
  rfl

theorem bulkAbortOp_plain (hkey : bulkTarget d c ≠ 3) (hqueue : bulkTarget d c ≠ 6) :
    bulkAbortOp c d = dropPages c (setF (HIF_BULK_STATUS_err c) 0 d) := by
  rw [bulkAbortOp, beq_false_of_ne hkey]
  exact if_neg fun h => hqueue h.1

/-! ### The data port (R80) -/

theorem bulkData_place : ∀ c : Fin 8, HIF_BULK_DATA c % 4 = 0 ∧ HIF_BULK_DATA c < 0x01000000 ∧
    maskBase (HIF_BULK_DATA c) = HIF_BULK_DATA c ∧ idxOf (HIF_BULK_DATA c) 0x114 0x20 8 = some c.val ∧
    HIF_BULK_DATA c ∉ [TB_NOW_FRAC, TB_NEAR_LO, LOG_REC 0, LOG_REC 7, FLT_RAIL_LO, FLT_RAIL_HI, DSG_Q_STATUS, KEY_OSN_DATA] ∧
    HIF_BULK_DATA c < 0x081024 := by decide

theorem reqCode_ne_zero (r : Req) : reqCode r ≠ 0 := by cases r <;> decide

/-- The owner's read of the data port. -/
theorem busRead_bulkData {c : Fin 8} (hg : readable d r (HIF_BULK_DATA c) = true) (hown : bulkOwner d c = reqCode r) :
    busRead r (HIF_BULK_DATA c) d = bulkGet r c d := by
  obtain ⟨h4, hlt, hm, hidx, hne, hlow⟩ := bulkData_place c
  simp only [List.mem_cons, List.not_mem_nil, or_false, not_or] at hne
  obtain ⟨hfrac, hnear, hrec0, hrec7, hrailLo, hrailHi, hq, hosn⟩ := hne
  obtain ⟨hreach, hon⟩ := Bool.and_eq_true_iff.mp hg
  have hchan : ¬ (0x081024 ≤ HIF_BULK_DATA c ∧ HIF_BULK_DATA c ≤ 0x081034) := fun h => absurd h.1 (not_le.mpr hlow)
  simp [busRead, busAddr_aligned h4 hlt, hm, hreach, hon, regRead, hfrac, hnear, hrec0, hrec7, hrailLo, hrailHi, hq, hosn, hchan, hidx,
    hown, reqCode_ne_zero]

/-- A memory target with words available: the word at the cursor, which moves on. -/
theorem bulkGet_memory (hclaim : claimRefused d c = false) (hcur : bulkCursor d c < bulkEnd d c) (havail : bulkAvail d c ≠ 0)
    (hqueue : bulkTarget d c ≠ 6) : bulkGet r c d = ((bulkMem r c d).1, bulkStep c (bulkMem r c d).2) := by
  have hend : (!(bulkIsQueue (bulkTarget d c)) && decide (bulkEnd d c ≤ bulkCursor d c)) = false := by
    simp [hcur]
  simp only [bulkGet, hclaim, hend, havail, hqueue, Bool.false_eq_true, if_false]

theorem bulkMem_flash (h : bulkTarget d c = 2) :
    bulkMem r c d = (BitVec.ofNat 32 (leNat (flashBytes d (bulkCursor d c) 4)), d) := by
  simp only [bulkMem, h]

theorem bulkMem_snapshot (h : bulkTarget d c = 4) : bulkMem r c d = (ramWord d (snapBase + bulkCursor d c), d) := by
  simp only [bulkMem, h]

/-- The data port read by its owner returns the word `w` of a memory target, and the cursor moves on. -/
theorem bulkDataRead_runsTo {c : Fin 8} {s : State} {w : Word} (hg : readable s.toDev r (HIF_BULK_DATA c) = true)
    (hown : bulkOwner s.toDev c = reqCode r) (hget : bulkGet r c s.toDev = (w, bulkStep c s.toDev)) :
    runsTo (.bulkDataRead r c) s { wrN (HIF_BULK_CURSOR c) (bulkCursor s.toDev c + 4) s.toDev with resp := [w] } := by
  have hreach : reaches s.toDev r = true := (Bool.and_eq_true_iff.mp hg).1
  refine runsTo_of_upd (f := bulkReadF r c) rfl ?_
  simp only [bulkReadF, hreach, busRead_bulkData hg hown, hget, Bool.not_true, Bool.false_eq_true, if_false, bulkStep]

theorem bulkPut_staging {v : Word} (hclaim : claimRefused d c = false) (hdir : flag d (HIF_BULK_SEL_dir c) = true)
    (hcur : bulkCursor d c < bulkEnd d c) (hspace : bulkSpace d c ≠ 0) (ht : bulkTarget d c = 1) :
    bulkPut r c v d = bulkStep c (setStage (bulkCursor d c) v d) := by
  have hend : (!(bulkIsQueue 1) && decide (bulkEnd d c ≤ bulkCursor d c)) = false := by simp [hcur]
  simp [bulkPut, bulkStore, hclaim, hdir, hend, hspace, ht]

/-! ### The ends of flash operations (R84) -/

theorem takeOp_found {o : FlashOp} (h : d.hif.flashOps.find? (fun o => o.chan == c) = some o) :
    takeOp c o.erase d = some (o, { d with hif := { d.hif with flashOps := d.hif.flashOps.erase o } }) := by
  simp [takeOp, h]

theorem programLeft_none (h : firstPage d c = none) : programLeft c d = d := by
  simp only [programLeft, h]

theorem firstPage_congr {e : Dev} (h : e.hif.pageBuf = d.hif.pageBuf) : firstPage e c = firstPage d c := by
  rw [firstPage, h, firstPage]

theorem hifErr_hif (f : Fld) : (hifErr f r d).hif = d.hif :=
  doIf_ind (P := fun e => e.hif = d.hif) _ _ _ rfl rfl

theorem chanErr_hif (n : Nat) : (chanErr r c n d).hif = d.hif := by
  unfold chanErr
  split
  · rfl
  · rw [raise_hif, hifErr_hif, setF_hif]

theorem map_getD_range {rb : List Byte} {n : Nat} (h : rb.length = n) (dflt : Nat → Byte) :
    (List.range n).map (fun i => rb.getD i (dflt i)) = rb := by
  refine List.ext_getElem (by simp [h]) fun i _ hi => ?_
  simp [List.getElem?_eq_getElem hi]

/-- A byte of the page buffer `data` differs from what was read back. -/
def readBackDiffers (data : List (Option Byte)) (rb : List Byte) : Bool :=
  (List.range 256).any (fun n => (data.getD n none).any (fun b => rb.getD n 0 != b))

theorem readBackDiffers_iff (data : List (Option Byte)) (rb : List Byte) :
    readBackDiffers data rb = true ↔ ∃ n b, n < 256 ∧ data.getD n none = some b ∧ rb.getD n 0 ≠ b := by
  simp only [readBackDiffers, List.any_eq_true, List.mem_range, Option.any_eq_true, bne_iff_ne]
  exact exists_congr fun n => by tauto

/-- The page of operation `o` as read back, with the operation off the list. -/
def programmed (o : FlashOp) (rb : List Byte) (d : Dev) : Dev :=
  setFlashBytes o.base rb { d with hif := { d.hif with flashOps := d.hif.flashOps.erase o } }

theorem programmed_frame (o : FlashOp) (rb : List Byte) :
    (programmed o rb d).regs = d.regs ∧ (programmed o rb d).hif.pageBuf = d.hif.pageBuf := by
  obtain ⟨f, hf⟩ := setFlashBytes_only o.base rb { d with hif := { d.hif with flashOps := d.hif.flashOps.erase o } }
  rw [programmed, hf]
  exact ⟨rfl, rfl⟩

theorem bulkOwner_congr {e : Dev} (h : e.regs = d.regs) : bulkOwner e c = bulkOwner d c := by
  rw [bulkOwner, fld, rd_eq_of_regs h, bulkOwner, fld]

/-- The end of a page program: the page is what was read back, and a byte that differs sets err 5. -/
theorem programDone_found {o : FlashOp} {rb : List Byte} (hfind : d.hif.flashOps.find? (fun o => o.chan == c) = some o)
    (hprog : o.erase = false) (hlen : rb.length = 256) : programDone c rb d =
      programLeft c (doIf (readBackDiffers o.data rb && bulkOwner d c != 0) (chanErr (ownerReq d c) c 5) (programmed o rb d)) := by
  have htake := takeOp_found hfind
  rw [hprog] at htake
  have howner : bulkOwner (programmed o rb d) c = bulkOwner d c := bulkOwner_congr (programmed_frame o rb).1
  have hreq : ownerReq (programmed o rb d) c = ownerReq d c := by rw [ownerReq, howner, ownerReq]
  simp only [programDone, htake, map_getD_range hlen, ← howner, ← hreq]
  refine congrArg (fun b => programLeft c (doIf (b && _) _ _)) ?_
  rw [readBackDiffers, Bool.eq_iff_iff, List.any_eq_true, List.any_eq_true]
  refine exists_congr fun n => and_congr_right fun hn => ?_
  have hget : ∀ x, rb.getD n x = rb.getD n 0 := fun x => by
    rw [List.getD_eq_getElem _ _ (by simpa [hlen] using hn), List.getD_eq_getElem _ _ (by simpa [hlen] using hn)]
  rw [hget]
  cases o.data.getD n none <;> rfl

theorem programLeft_chanErr {e : Dev} (hpage : e.hif.pageBuf = d.hif.pageBuf) (hnone : firstPage d c = none) (b : Bool) (n : Nat) :
    programLeft c (doIf b (chanErr r c n) e) = doIf b (chanErr r c n) e :=
  programLeft_none ((firstPage_congr (d := d) (doIf_ind (P := fun x => x.hif.pageBuf = d.hif.pageBuf) _ _ _
    (by rw [chanErr_hif, hpage]) hpage)).trans hnone)

theorem flashPageProgramDone_runsTo {c : Fin 8} {o : FlashOp} {rb : List Byte} {s : State} (hp : s.pwr.powered = true)
    (hlen : rb.length = 256) (hfind : s.hif.flashOps.find? (fun o => o.chan == c.val) = some o) (hprog : o.erase = false)
    (hown : bulkOwner s.toDev c ≠ 0) (hpage : firstPage s.toDev c = none) : runsTo (.flashPageProgramDone c rb) s
      (doIf (readBackDiffers o.data rb) (chanErr (ownerReq s.toDev c) c 5) (programmed o rb s.toDev)) := by
  refine runsTo_of_powered (programDone c rb) rfl hp ?_
  rw [programDone_found hfind hprog hlen, programLeft_chanErr (programmed_frame o rb).2 hpage, bne_iff_ne.mpr hown, Bool.and_true]

/-- The 64 KiB of operation `o` erased, with the operation off the list. -/
def sectorErased (o : FlashOp) (d : Dev) : Dev :=
  { d with
    hif := { d.hif with flashOps := d.hif.flashOps.erase o }
    flash := ckeep (fun a => decide (a < o.base) || decide (o.base + 65536 ≤ a)) d.flash }

theorem eraseDone_found {o : FlashOp} (hfind : d.hif.flashOps.find? (fun o => o.chan == c) = some o) (her : o.erase = true)
    (hpage : firstPage d c = none) : eraseDone c d = sectorErased o d := by
  have htake := takeOp_found hfind
  rw [her] at htake
  simp only [eraseDone, htake]
  exact programLeft_none hpage

theorem flashByte_sectorErased (o : FlashOp) (a : Nat) : flashByte (sectorErased o d) a =
    if o.base ≤ a ∧ a < o.base + 65536 then 0xFF#8 else flashByte d a := by
  rw [flashByte, sectorErased, cget_ckeep, flashByte]
  by_cases h : o.base ≤ a ∧ a < o.base + 65536
  · rw [if_pos h, if_neg]
    simp only [Bool.or_eq_true, decide_eq_true_eq]
    omega
  · rw [if_neg h, if_pos]
    simp only [Bool.or_eq_true, decide_eq_true_eq]
    omega

end

/-- Settles O19: each command of the window by its own lemma. -/
theorem bulkWindowCommandsComplete : Obligations.BulkWindowCommandsComplete := by
  delta Obligations.BulkWindowCommandsComplete
  refine ⟨?claim, ?read, ?write, ?cursor, ?command, ?program, ?erase⟩
  case claim =>
    intro r c v s hg hfree hv d2
    exact runsTo_of_bulk (bulkSelOp r c v) rfl hg (.inl hfree) (bulkSelOp_claim hfree hv)
  case read =>
    intro r c s hg hown hclaim hcur havail
    refine ⟨fun ht => ?_, fun ht => ?_⟩
    · refine bulkDataRead_runsTo hg hown ?_
      rw [bulkGet_memory hclaim hcur havail (by omega), bulkMem_flash ht]
    · refine bulkDataRead_runsTo hg hown ?_
      rw [bulkGet_memory hclaim hcur havail (by omega), bulkMem_snapshot ht]
  case write =>
    intro r c v s hg hown hclaim hdir hcur hspace ht
    exact runsTo_of_bulk (bulkPut r c v) rfl hg (.inr hown) (bulkPut_staging hclaim hdir hcur hspace ht)
  case cursor =>
    intro r c v s hg hown ht
    exact runsTo_of_bulk (bulkCursorOp c v) rfl hg (.inr hown) (bulkCursorOp_memory v ht)
  case command =>
    intro r c s hg hown
    refine ⟨fun ht => ?_, fun ht hdir hclaim hsize harch => ?_, fun hkey hqueue => ⟨?_, ?_⟩⟩
    · exact runsTo_of_bulk (bulkFlushOp c) rfl hg (.inr hown) (bulkFlushOp_flash ht)
    · exact runsTo_of_bulk (bulkEraseOp r c) rfl hg (.inr hown) (bulkEraseOp_sector ht hdir hclaim hsize harch)
    · exact runsTo_of_bulk (bulkAbortOp c) rfl hg (.inr hown) (bulkAbortOp_plain hkey hqueue)
    · refine runsTo_of_bulk (bulkReleaseOp c) rfl hg (.inr hown) ?_
      rw [bulkReleaseOp, bulkAbortOp_plain hkey hqueue]
  case program =>
    intro c rb o s hp hlen hfind hprog hown hpage d2
    have hrun := flashPageProgramDone_runsTo hp hlen hfind hprog hown hpage
    refine ⟨fun hsame => ?_, fun n b hn hb hne => ?_⟩
    · have hgood : readBackDiffers o.data rb = false := by
        rw [← Bool.not_eq_true, readBackDiffers_iff]
        rintro ⟨n, b, hn, hb, hne⟩
        exact hne (hsame n b hn hb)
      rwa [hgood, doIf_false] at hrun
    · rwa [(readBackDiffers_iff _ _).mpr ⟨n, b, hn, hb, hne⟩, doIf_true] at hrun
  case erase =>
    intro c o s hp hfind her hpage
    refine ⟨sectorErased o s.toDev, runsTo_of_powered (eraseDone c) rfl hp (eraseDone_found hfind her hpage), fun a hlo hhi => ?_,
      fun a ha => ?_, rfl, rfl, rfl⟩
    · rw [flashByte_sectorErased, if_pos ⟨hlo, hhi⟩]
    · rw [flashByte_sectorErased, if_neg (by omega)]

end Sys2Proof.Proofs

/-! PROOFS about the fault collector's service commands: readmission, latched causes, the polling of rails, and injection. -/

namespace Sys2Proof.Proofs

open Sys2Proof Sys2Proof.Machine Sys2Proof.Laws

section

variable {d : Dev} {r : Req} {u : Nat}

/-! ### Readmission (R415) -/

/-- The unit in its readmission test. -/
def testing (u : Nat) (d : Dev) : Dev := modUnit u (fun y => { y with state := 3, byBlock := false }) d

theorem readmitF_refused (h : (funit d u).state = 3 ∨ ((funit d u).state ≠ 2 ∧ (funit d u).part = false)) :
    readmitF u d = setF FLT_RESULT_cause 1 d := by
  have hcond : ((funit d u).state = 3 || !((funit d u).state == 2 || (funit d u).part)) = true := by
    rcases h with h | ⟨h, hp⟩
    · simp [h]
    · simp [h, hp]
  exact if_pos hcond

theorem readmitF_fenced (h : (funit d u).state = 2) :
    readmitF u d = doIf (decide (u < 3)) (fun y => { y with tb := { y.tb with readmit := some u } }) (testing u d) := by
  have hcond : ¬ ((funit d u).state = 3 || !((funit d u).state == 2 || (funit d u).part)) = true := by simp [h]
  exact if_neg hcond

theorem readmitDone_idle {pass : Bool} (h : (funit d u).state ≠ 3) : readmitDone u pass d = d :=
  if_pos (by simp [h])

theorem readmitDone_chan {pass : Bool} (hon : domOn d .ctl = true) (h : (funit d u).state = 3) (hu : u < 3) :
    readmitDone u pass d = tbReadmitDoneF pass d := by
  simp only [readmitDone, hon, h, hu, Bool.not_true, ne_eq, not_true_eq_false, decide_false, Bool.or_self, Bool.false_eq_true, if_false,
    if_true]

/-- The end of the test of a unit that is no TB channel and was not readmitted by its block. -/
theorem readmitDone_unit (pass : Bool) (hon : domOn d .ctl = true) (h : (funit d u).state = 3) (hu : 3 ≤ u)
    (hblock : (funit d u).byBlock = false) : readmitDone u pass d =
      if pass then admitUnit u (putBack u (modUnit u (fun y => { y with state := 0 }) (setF FLT_RESULT_cause 0 d)))
      else modUnit u (fun y => { y with state := if y.part then 0 else 2, byBlock := false }) (setF FLT_RESULT_cause 2 d) := by
  have hresult : readmitResult u pass d = setF FLT_RESULT_cause (if pass then 0 else 2) d := if_pos (by simp [hblock])
  simp only [readmitDone, hon, h, hblock, hresult, not_lt.mpr hu, Bool.not_true, ne_eq, not_true_eq_false, decide_false, Bool.or_self,
    Bool.and_false, Bool.false_eq_true, if_false]
  cases pass <;> simp only [if_true, Bool.false_eq_true, if_false]

/-! ### Latched causes and rails (R64, R407, R416) -/

theorem latchRead_full (h : fullRights d r = true) : latchRead r u d =
    modUnit u (fun y => { y with cause := 0, valid := false, cbr := false, inj := false, merges := 0 })
      { d with resp := [latchWord d u] } := by
  rw [latchRead, h, doIf_true]

theorem latchRead_observer (h : fullRights d r = false) : latchRead r u d = { d with resp := [latchWord d u] } := by
  rw [latchRead, h, doIf_false]

/-- The polling ends of the idle units of one word of FLT_RAIL. -/
def pollingEnds (high : Bool) (idle : List (Fin 64)) (d : Dev) : Dev :=
  forEach (idle.filter (fun u => decide (32 ≤ u.val) == high))
    (fun u => modUnit u.val (fun x => { x with polled := false, stuck := none })) d

/-- The word of FLT_RAIL returned, with the latch of the high word set by the read of the low one, or used up. -/
def railShown (r : Req) (high : Bool) (d : Dev) : Dev :=
  if high then
    { (highRead r FLT_RAIL_HI (unitBits d true FUnit.polled) d).2 with
      resp := [(highRead r FLT_RAIL_HI (unitBits d true FUnit.polled) d).1] }
  else { latchHigh r FLT_RAIL_HI (unitBits d true FUnit.polled) d with resp := [unitBits d false FUnit.polled] }

theorem railRead_eq (high : Bool) (idle : List (Fin 64)) :
    railRead r high idle d = doIf (fullRights d r) (pollingEnds high idle) (railShown r high d) := by
  cases high <;> rfl

theorem railRead_full (high : Bool) (idle : List (Fin 64)) (h : fullRights d r = true) :
    railRead r high idle d = pollingEnds high idle (railShown r high d) := by
  rw [railRead_eq, h, doIf_true]

theorem railRead_observer (high : Bool) (idle : List (Fin 64)) (h : fullRights d r = false) :
    railRead r high idle d = railShown r high d := by
  rw [railRead_eq, h, doIf_false]

/-! ### Injection (R418, R419) -/

/-- The injection that FLT_INJ_CFG and FLT_INJ_REP describe. -/
def injConfigured (d : Dev) : FInj :=
  { unit := fld d FLT_INJ_CFG_unit, cause := fld d FLT_INJ_CFG_cause, cls := injClass (fld d FLT_INJ_CFG_class)
    stFail := flag d FLT_INJ_CFG_st_fail, inUnit := flag d FLT_INJ_CFG_in_unit, left := fld d FLT_INJ_REP_count, lastAt := none }

/-- The configured injection started, with its event. -/
def injStarted (d : Dev) : Dev :=
  raise 0x1007 (fld d FLT_INJ_CFG_unit + 256)
    (setF FLT_RESULT_cause 0 { d with flt := { d.flt with injn := some (injConfigured d) } })

theorem injGo_running (h : d.flt.injn.isSome = true) : injGo r d = setF FLT_RESULT_cause 4 d := if_pos h

theorem injGo_pairRefused (hnone : d.flt.injn = none) (hin : flag d FLT_INJ_CFG_in_unit = true)
    (hpair : injInUnit (fld d FLT_INJ_CFG_unit) (fld d FLT_INJ_CFG_cause) = false) : injGo r d = setF FLT_RESULT_cause 5 d := by
  simp [injGo, hnone, hin, hpair]

section

variable (hnone : d.flt.injn = none)
  (hpair : (flag d FLT_INJ_CFG_in_unit && !(injInUnit (fld d FLT_INJ_CFG_unit) (fld d FLT_INJ_CFG_cause))) = false)
include hnone hpair

theorem injGo_windowRefused
    (hneeds : injClass (fld d FLT_INJ_CFG_class) = .fatal ∨ unitEssential (fld d FLT_INJ_CFG_unit) = true)
    (hshut : windowOpen d = false) : injGo r d = setF FLT_RESULT_cause 3 (rwpRefuse r FLT_INJ_CMD d) := by
  have hcond : ((injClass (fld d FLT_INJ_CFG_class) == .fatal || unitEssential (fld d FLT_INJ_CFG_unit)) && !(windowOpen d)) = true := by
    simpa [hshut] using hneeds
  simp only [injGo, hnone, hpair, hcond, Option.isSome_none, Bool.false_eq_true, if_false, if_true]

theorem injGo_starts
    (hmay : (injClass (fld d FLT_INJ_CFG_class) ≠ .fatal ∧ unitEssential (fld d FLT_INJ_CFG_unit) = false) ∨ windowOpen d = true) :
    injGo r d = doIf (fld d FLT_INJ_REP_count == 0) injEnd (injStarted d) := by
  have hcond : ((injClass (fld d FLT_INJ_CFG_class) == .fatal || unitEssential (fld d FLT_INJ_CFG_unit)) && !(windowOpen d)) = false := by
    rcases hmay with ⟨hcls, hess⟩ | hopen
    · simp [hcls, hess]
    · simp [hopen]
  simp only [injGo, hnone, hpair, hcond, Option.isSome_none, Bool.false_eq_true, if_false]
  rfl

end

theorem injEnd_none (h : d.flt.injn = none) : injEnd d = d := by
  simp only [injEnd, h]

theorem injEnd_some {y : FInj} (h : d.flt.injn = some y) :
    injEnd d = raise 0x1007 y.unit { d with flt := { d.flt with injn := none } } := by
  simp only [injEnd, h]
  rfl

theorem injReport_none (h : d.flt.injn = none) : injReport d = d := by
  simp only [injReport, h]

theorem injReport_waits {y : FInj} (h : d.flt.injn = some y) (hdue : injDue y d = false) : injReport d = d := by
  simp [injReport, h, hdue]

/-- The report of a running injection at the rails, taken as injected, with the rest of the injection. -/
def injReported (y : FInj) (d : Dev) : Dev :=
  let p : FltReport := { unit := Fin.ofNat 64 y.unit, cause := BitVec.ofNat 8 y.cause, cls := y.cls, ev := 0, evParam := 0 }
  let d1 := collect p true y.stFail false none d
  { d1 with flt := { d1.flt with injn := some { y with left := y.left - 1, lastAt := some (now16 d) } } }

theorem injReport_due {y : FInj} (h : d.flt.injn = some y) (hon : domOn d .ctl = true) (hdue : injDue y d = true)
    (hrail : y.inUnit = false) : injReport d = doIf (decide (y.left ≤ 1)) injEnd (injReported y d) := by
  simp only [injReport, h, hon, hdue, hrail, Bool.not_true, Bool.not_false, Bool.true_or, Bool.or_self, Bool.false_eq_true, if_false,
    doIf_true, injReported]

end

/-- Settles O49: readmission by the unit's state, the reads by the requester's rights, injection by what runs and what its
configuration needs. -/
theorem faultServiceCommandsComplete : Obligations.FaultServiceCommandsComplete := by
  delta Obligations.FaultServiceCommandsComplete
  refine ⟨?readmit, ?tested, ?latch, ?rails, ?inject, ?report⟩
  case readmit =>
    intro r u s hg x d1
    refine ⟨fun h => ?_, fun h hu => ?_, fun h hu => ?_⟩
    · exact runsTo_of_write rfl hg (readmitF_refused h)
    · refine runsTo_of_write rfl hg ((readmitF_fenced h).trans ?_)
      rw [decide_eq_false (not_lt.mpr hu), doIf_false]; rfl
    · refine runsTo_of_write rfl hg ((readmitF_fenced h).trans ?_)
      rw [decide_eq_true hu, doIf_true]; rfl
  case tested =>
    intro u pass s hon
    refine ⟨fun h => ?_, fun h hu => ?_, fun h hu hblock => ⟨?_, ?_⟩⟩
    · exact runsTo_of_upd (f := readmitDone u.val pass) rfl (readmitDone_idle h)
    · exact runsTo_of_upd (f := readmitDone u.val pass) rfl (readmitDone_chan hon h hu)
    · exact runsTo_of_upd (f := readmitDone u.val true) rfl (readmitDone_unit true hon h hu hblock)
    · exact runsTo_of_upd (f := readmitDone u.val false) rfl (readmitDone_unit false hon h hu hblock)
  case latch =>
    exact fun r u s hg => ⟨fun h => runsTo_of_read rfl hg (latchRead_full h), fun h => runsTo_of_read rfl hg (latchRead_observer h)⟩
  case rails =>
    intro r idle s hlo hhi dlo hi clear
    refine ⟨fun h => ⟨?_, ?_⟩, fun h => ⟨?_, ?_⟩⟩
    · exact runsTo_of_read (k := railRead r false idle) rfl hlo (railRead_full false idle h)
    · exact runsTo_of_read (k := railRead r true idle) rfl hhi (railRead_full true idle h)
    · exact runsTo_of_read (k := railRead r false idle) rfl hlo (railRead_observer false idle h)
    · exact runsTo_of_read (k := railRead r true idle) rfl hhi (railRead_observer true idle h)
  case inject =>
    intro r s hg u cause cls inUnit x started
    refine ⟨fun h => ?_, fun h hin hpair => ?_, fun h hpair hneeds hshut => ?_, fun h hpair hmay => ⟨fun hleft => ?_, fun hleft => ?_⟩,
      fun h => ?_, fun y h => ?_⟩
    · exact runsTo_of_write rfl hg (injGo_running h)
    · exact runsTo_of_write rfl hg (injGo_pairRefused h hin hpair)
    · exact runsTo_of_write rfl hg (injGo_windowRefused h hpair hneeds hshut)
    · refine runsTo_of_write rfl hg ((injGo_starts h hpair hmay).trans ?_)
      rw [beq_false_of_ne hleft, doIf_false]; rfl
    · refine runsTo_of_write rfl hg ((injGo_starts h hpair hmay).trans ?_)
      rw [beq_iff_eq.mpr hleft, doIf_true]; rfl
    · exact runsTo_of_write rfl hg (injEnd_none h)
    · exact runsTo_of_write rfl hg (injEnd_some h)
  case report =>
    intro s hp
    refine ⟨fun h => ?_, fun y h hdue => ?_, ?due⟩
    · exact runsTo_of_powered injReport rfl hp (injReport_none h)
    · exact runsTo_of_powered injReport rfl hp (injReport_waits h hdue)
    case due =>
      intro y h hon hdue hrail p d1 d2
      have hrun := runsTo_of_powered (i := .injectedReport) injReport rfl hp (injReport_due h hon hdue hrail)
      refine ⟨fun hleft => ?_, fun hleft => ?_⟩
      · rwa [decide_eq_false (not_le.mpr hleft), doIf_false] at hrun
      · rwa [decide_eq_true hleft, doIf_true] at hrun

end Sys2Proof.Proofs

/-! PROOFS about the groups of five ticks of a channel (R87 to R89). -/

namespace Sys2Proof.Proofs

open Sys2Proof Sys2Proof.Machine Sys2Proof.Laws

/-! ### The frequency word (R88, R89) -/

/-- A saturated value lies within the signed range that it is saturated to. -/
theorem satS_range (n : Nat) (i : Int) : -((2 ^ (n - 1) : Nat) : Int) ≤ satS n i ∧ satS n i < ((2 ^ (n - 1) : Nat) : Int) := by
  have hpos : 0 < 2 ^ (n - 1) := Nat.two_pow_pos _
  unfold satS
  dsimp only
  split_ifs <;> omega

/-- A tick never runs backwards: the frequency word is far smaller than the nominal 2^56. -/
theorem two_pow_add_chanF_nonneg (c : Chan) : 0 ≤ (2 : Int) ^ 56 + chanF c := by
  obtain ⟨hlo, -⟩ := satS_range 48 c.f
  unfold chanF
  norm_num at hlo ⊢
  omega

/-! ### Ticks within a group and at its end (R87) -/

section

variable {c : Chan}

theorem tickChan_within (h : c.k < 4) : tickChan c = { c with k := c.k + 1 } := if_pos h

theorem tickChan_last (h : ¬ c.k < 4) : tickChan c = endGroup c := if_neg h

theorem chanT_at (n : Nat) : chanT { c with k := n } = c.t + n * ((2 : Int) ^ 56 + chanF c).toNat / 5 := rfl

theorem chanPub_at (n : Nat) : chanPub { c with k := n } = (c.t + n * ((2 : Int) ^ 56 + chanF c).toNat / 5) / 2 ^ 38 := rfl

/-- The end of a group reads no group position. -/
theorem endGroup_at (n : Nat) : endGroup { c with k := n } = endGroup c := rfl

theorem endGroup_k : (endGroup c).k = 0 := rfl

theorem endGroup_t : (endGroup c).t = c.t + ((2 : Int) ^ 56 + chanF c).toNat := rfl

/-- The frequency word of the next group: servo, ensemble and the slew term taken with it, saturated (R88, R99). -/
theorem endGroup_f : (endGroup c).f = satS 48 (c.servo + c.ens + (endGroup c).slew) := rfl

/-- Ticks within a group move nothing but the group position. -/
theorem ticks_within (hk : c.k = 0) : ∀ n, n ≤ 4 → (List.replicate n ()).foldl (fun x _ => tickChan x) c = { c with k := n }
  | 0, _ => by cases c; cases hk; rfl
  | n + 1, hn => by
    rw [List.replicate_succ', List.foldl_append, ticks_within hk n (by omega)]
    exact tickChan_within (show n < 4 by omega)

/-- The fifth tick of a group ends it. -/
theorem fifth_tick (hk : c.k = 0) : tickChan (tickChan (tickChan (tickChan (tickChan c)))) = endGroup c := by
  have hfour : tickChan (tickChan (tickChan (tickChan c))) = { c with k := 4 } := ticks_within hk 4 le_rfl
  rw [hfour, tickChan_last (show ¬ 4 < 4 by omega), endGroup_at]

/-- Without a frequency word every tick of a group adds its whole share of 2^56 / 5 units. -/
theorem chanPub_ticks_nominal {m n : Nat} (hk : c.k = 0) (ht : c.t = m * 2 ^ 38) (hf : chanF c = 0) (hn : n ≤ 4) :
    chanPub ((List.replicate n ()).foldl (fun x _ => tickChan x) c) = m + n * 2 ^ 56 / 5 / 2 ^ 38 := by
  have hnominal : ((2 : Int) ^ 56 + 0).toNat = 2 ^ 56 := rfl
  rw [ticks_within hk n hn, chanPub_at, ht, hf, hnominal, Nat.mul_comm m, Nat.mul_add_div (Nat.two_pow_pos 38)]

end

/-- Settles O20: within a group only the position moves, and the fifth tick ends the group. -/
theorem groupOfFiveTicksIsExact : Obligations.GroupOfFiveTicksIsExact := by
  delta Obligations.GroupOfFiveTicksIsExact
  refine ⟨fun c k hk hlt => ?group, fun c m hk ht hf => ?nominal⟩
  case group =>
    intro f ck tk
    have hck : ck = { c with k := k } := ticks_within hk k (by omega)
    have hT : chanT ck = tk := by rw [hck]; exact chanT_at k
    rw [fifth_tick hk]
    exact ⟨by rw [hck], by rw [hck], hT, by rw [chanPub, hT], endGroup_t, endGroup_k, endGroup_f, two_pow_add_chanF_nonneg c⟩
  case nominal =>
    refine ⟨?_, ?_, ?_, ?_, ?_⟩
    · exact (chanPub_ticks_nominal (n := 1) hk ht hf (by omega)).trans (by omega)
    · exact (chanPub_ticks_nominal (n := 2) hk ht hf (by omega)).trans (by omega)
    · exact (chanPub_ticks_nominal (n := 3) hk ht hf (by omega)).trans (by omega)
    · exact (chanPub_ticks_nominal (n := 4) hk ht hf (by omega)).trans (by omega)
    · rw [fifth_tick hk, endGroup_t, ht, hf]
      omega

end Sys2Proof.Proofs

/-! PROOFS about the adjustments of the time (R93 to R99) and the return of a channel (R105, R106). -/

namespace Sys2Proof.Proofs

open Sys2Proof Sys2Proof.Machine Sys2Proof.Laws

section

variable {d : Dev} {i : Nat}

/-! ### Steps and sets (R93, R95, R96) -/

theorem armStep_arms {n : Int} (hidle : stepPending d = false) (hpol : policyPermits d = true)
    (hbig : rdN d TB_STEP_THRESH * 65536 < n.natAbs) :
    armStep n d =
      let d1 := mapChans (fun c => { c with step := some n }) d
      setB TB_STATUS_step_pending true { d1 with tb := { d1.tb with armedAt := near d } } := by
  simp only [armStep, hidle, hpol, not_le.mpr hbig, Bool.not_true, Bool.false_eq_true, if_false]

theorem armSet_arms (hidle : stepPending d = false) (hstate : devState d = stStandby) (hns : rdN d TB_SET_NS ≤ 999999999) :
    armSet d =
      let v := ((rdN d TB_SET_SEC_LO + 2 ^ 32 * rdN d TB_SET_SEC_HI) * 1000000000 + rdN d TB_SET_NS) * 65536 + rdN d TB_SET_FRAC
      let d1 := mapChans (fun c => { c with set := some v }) d
      setB TB_STATUS_set_pending true { d1 with tb := { d1.tb with armedAt := near d } } := by
  simp only [armSet, hidle, hstate, not_lt.mpr hns, ne_eq, not_true_eq_false, Bool.false_eq_true, if_false]

theorem stepWaitExpiryF_due (hpend : stepPending d = true)
    (hdue : due (d.tb.armedAt + atLeast1 (fld d TB_STEP_WAIT_ms) * 1000000 * 65536) (near d) = true) :
    stepWaitExpiryF d = refStepRefused (tbRefuse 0x03 (pendCmd d) (dropPending d)) :=
  if_pos (Bool.and_eq_true_iff.mpr ⟨hpend, hdue⟩)

/-! ### Cancel, and the end of a slew (R97, R99) -/

/-- The running slew and the one that waits dropped (R97). -/
def slewStopped (d : Dev) : Dev :=
  let y := mapChans (fun c => { c with rem := 0 }) d
  { y with tb := { y.tb with slewAdd := none, slewEnding := false } }

theorem cancelTb_pending (h : stepPending d = true) : cancelTb d =
    tbRefuse 0x06 (pendCmd d) (slewStopped (dropPending { d with ref := { d.ref with stepPend := none } })) := if_pos h

theorem cancelTb_not_pending (h : stepPending d = false) :
    cancelTb d = if slewExists d then tbRefuse 0x06 3 (slewStopped d) else d := if_neg (Bool.eq_false_iff.mp h)

theorem slewCompleteF_ending (hact : flag d TB_STATUS_slew_active = true) (hend : d.tb.slewEnding = true) :
    slewCompleteF d = groupMarks (mapChans endGroup d) := if_pos (Bool.and_eq_true_iff.mpr ⟨hact, hend⟩)

/-! ### The return of a channel (R105, R106) -/

theorem tbReadmitF_fenced (hi : i < 3) (hf : chanFenced d i = true) (hnone : d.tb.readmit = none) : tbReadmitF i d =
    modUnit i (fun x => { x with state := 3, byBlock := true }) { d with tb := { d.tb with readmit := some i } } := by
  have hle : ¬ 2 < i := by omega
  simp only [tbReadmitF, hf, hnone, hle, decide_false, Bool.not_true, Option.isSome_none, Bool.or_self, Bool.false_eq_true, if_false]

theorem tbReadmitDoneF_passed (h : d.tb.readmit = some i) (hblock : (funit d i).byBlock = true) : tbReadmitDoneF true d =
    let d2 := tbResult 0x00 4 { d with tb := { d.tb with readmit := none } }
    admitUnit i (raise 0x200E i (settleVoter (setF ⟨TB_STATUS, 4 + i, 1⟩ 0 (loadChan i d2)))) := by
  simp only [tbReadmitDoneF, h, hblock, if_true]

theorem channelSelftestDoneF_failed (h : d.tb.odd = some i) : channelSelftestDoneF false d = fenceChan i false d := by
  simp only [channelSelftestDoneF, h, Bool.not_false, if_true]

theorem channelSelftestDoneF_passed (h : d.tb.odd = some i)
    (hlim : fld d TB_VOTE_CTL_repair_limit = 0 ∨ cget (fun _ => 0) d.tb.reps i ≤ fld d TB_VOTE_CTL_repair_limit) :
    channelSelftestDoneF true d =
      let d1 := loadChan i d
      settleVoter { d1 with tb := { d1.tb with odd := none } } := by
  have hwithin : ¬ (fld d TB_VOTE_CTL_repair_limit ≠ 0 ∧ fld d TB_VOTE_CTL_repair_limit < cget (fun _ => 0) d.tb.reps i) := by
    omega
  simp only [channelSelftestDoneF, h, hwithin, Bool.not_true, Bool.false_eq_true, if_false]

end

/-- Settles O22: each command by what it finds pending, and each wait by its end. -/
theorem timeAdjustmentCommandsComplete : Obligations.TimeAdjustmentCommandsComplete := by
  delta Obligations.TimeAdjustmentCommandsComplete
  refine ⟨fun r s hg hidle => ⟨fun hpol hbig => ?step, fun hstate hns => ?set⟩, fun r s hg => ?slew, fun r s hg => ?cancel,
    fun r ch s hg hlt hf hnone => ?readmit, fun i s hp h hblock => ?readmitted, fun i s hp h => ⟨fun hlim => ?repaired, ?fenced⟩,
    fun s hp hpend hdue => ?expired, fun s hp hact hend => ?slewEnd⟩
  case step => exact runsTo_of_write rfl hg (armStep_arms hidle hpol hbig)
  case set => exact runsTo_of_write rfl hg (armSet_arms hidle hstate hns)
  case slew => exact runsTo_of_write (k := tbSlewF) rfl hg rfl
  case cancel =>
    intro stop
    refine ⟨fun h => ?_, fun h hslew => ?_, fun h hslew => ?_⟩
    · exact runsTo_of_write rfl hg (cancelTb_pending h)
    · exact runsTo_of_write rfl hg ((cancelTb_not_pending h).trans (if_pos hslew))
    · exact runsTo_of_write rfl hg ((cancelTb_not_pending h).trans (if_neg (Bool.eq_false_iff.mp hslew)))
  case readmit => exact runsTo_of_write rfl hg (tbReadmitF_fenced hlt hf hnone)
  case readmitted => exact runsTo_of_powered _ rfl hp (tbReadmitDoneF_passed h hblock)
  case repaired => exact runsTo_of_powered _ rfl hp (channelSelftestDoneF_passed h hlim)
  case fenced => exact runsTo_of_powered _ rfl hp (channelSelftestDoneF_failed h)
  case expired => exact runsTo_of_powered _ rfl hp (stepWaitExpiryF_due hpend hdue)
  case slewEnd => exact runsTo_of_powered _ rfl hp (slewCompleteF_ending hact hend)

end Sys2Proof.Proofs

/-! PROOFS about the clock and pulse outputs of SYN (R194 to R202). -/

namespace Sys2Proof.Proofs

open Sys2Proof Sys2Proof.Machine Sys2Proof.Laws

/-! ### A calibration request leaves SYN alone (R201) -/

@[simp] theorem setMreq_syn (q : Nat) (x : MReq) (d : Dev) : (setMreq q x d).syn = d.syn := rfl

@[simp] theorem setReqState_syn (q st : Nat) (d : Dev) : (setReqState q st d).syn = d.syn := by
  rw [setReqState, setF_syn, loadSync]
  dsimp only
  split <;> rfl

@[simp] theorem releaseChan_syn (q : Nat) (d : Dev) : (releaseChan q d).syn = d.syn := by
  unfold releaseChan
  split
  · rfl
  · exact doIf_ind (P := fun x => x.syn = d.syn) _ _ _ rfl rfl

@[simp] theorem reqEnable_syn (q : Nat) (d : Dev) : (reqEnable q d).syn = d.syn := by
  rw [reqEnable, setReqState_syn, setMreq_syn, setF_syn]

@[simp] theorem reqDisable_syn (q : Nat) (d : Dev) : (reqDisable q d).syn = d.syn := by
  rw [reqDisable, setF_syn, setReqState_syn, setMreq_syn, releaseChan_syn]

@[simp] theorem postReq_syn (q owner mode cls src stop presc n rep : Nat) (d : Dev) :
    (postReq q owner mode cls src stop presc n rep d).syn = d.syn := by
  unfold postReq
  dsimp only
  refine doIf_ind (P := fun x => x.syn = d.syn) _ _ _ ?_ ?_
  · rw [reqEnable_syn, wr64_syn, wrN_syn, wrN_syn, wrN_syn]
  · rw [wr64_syn, wrN_syn, wrN_syn, wrN_syn]

@[simp] theorem postCal_syn (i : Nat) (d : Dev) : (postCal i d).syn = d.syn := by
  unfold postCal
  dsimp only
  split
  · rw [postReq_syn, wr64_syn]
  · rw [postReq_syn, wr64_syn]

@[simp] theorem calRequest_syn (i : Nat) (d : Dev) : (calRequest i d).syn = d.syn := by
  unfold calRequest
  split
  · exact postCal_syn i d
  split
  · rfl
  · exact reqDisable_syn _ d

@[simp] theorem setDriving_syn (i : Nat) (on : Bool) (d : Dev) : (setDriving i on d).syn = d.syn := by
  unfold setDriving
  split
  · rfl
  · exact raise_syn _ _ _

@[simp] theorem runOut_syn (i : Nat) (b : Bool) (d : Dev) : (runOut i b d).syn = d.syn := setDriving_syn _ _ _

/-! ### The hidden state of a pulse output (R200) -/

theorem spps_eq_of_syn {d e : Dev} (h : e.syn = d.syn) (q : Nat) : spps e q = spps d q := by rw [spps, h]; rfl

@[simp] theorem spps_setSpps_same (q : Nat) (x : SPps) (d : Dev) : spps (setSpps q x d) q = x := cget_cput_same _ _ _ _

/-- The settings and enable of a pulse output once its waiting change is in force. -/
def ppsChanged (x : SPps) : SPps :=
  let y := match x.newSet with
    | some v => { x with per := v.1, wid := v.2.1, phi := v.2.2, newSet := none }
    | none => x
  { y with en := x.newEn.getD x.en, newEn := none }

/-- What follows the new state of a pulse output on the quiet epoch leaves that state alone. -/
theorem spps_inForce (q : Nat) (x : SPps) (on skip : Bool) (d : Dev) :
    spps (doIf skip (fun w => raise 0x3008 (q + 256) (satAdd (SYN_PPS_SKIP_skipped q) 1 w))
      (calRequest (16 + q) (ppsRun q on (setF (SYN_PPS_STATUS_pending q) 0 (setSpps q x d))))) q = x := by
  refine (spps_eq_of_syn ?_ q).trans (spps_setSpps_same q x d)
  refine doIf_ind (P := fun y => y.syn = (setSpps q x d).syn) _ _ _ ?_ ?_
  · rw [raise_syn, satAdd_syn, calRequest_syn, ppsRun, runOut_syn, setF_syn]
  · rw [calRequest_syn, ppsRun, runOut_syn, setF_syn]

theorem spps_ppsApply (q : Nat) (d : Dev) : ∃ m, spps (ppsApply q d) q = { ppsChanged (spps d q) with mute := m } :=
  ⟨_, spps_inForce q _ _ _ d⟩

theorem ppsChanged_newSet (x : SPps) : (ppsChanged x).newSet = none := by
  unfold ppsChanged
  dsimp only
  split
  · rfl
  · assumption

/-- Once a change is in force nothing waits, and enable is what waited or what it was. -/
theorem ppsApply_settled (q : Nat) (d : Dev) : (spps (ppsApply q d) q).newSet = none ∧ (spps (ppsApply q d) q).newEn = none ∧
    (spps (ppsApply q d) q).en = (spps d q).newEn.getD (spps d q).en := by
  obtain ⟨m, hm⟩ := spps_ppsApply q d
  rw [hm]
  exact ⟨ppsChanged_newSet _, rfl, rfl⟩

/-! ### The configuration of a clock output (R194 to R196) -/

section

variable {r : Req} {o : Nat} {v : Word} {d d1 : Dev}

/-- What a write of SYN_OUT_CFG that is not refused does with the output. -/
def outSettled (o : Nat) (d : Dev) : Dev :=
  if !(flag d (SYN_OUT_CFG_enable o)) then outRun o false (setF (SYN_OUT_STATUS_squelched o) 0 d)
  else if flag d (SYN_OUT_STATUS_running o) then outRun o true d
  else if outMay d o then startOut o d
  else setB (SYN_OUT_STATUS_squelched o) ((spll d (outPll d o)).coasted && squelches d o) d

theorem outSettled_disabled (hen : flag d (SYN_OUT_CFG_enable o) = false) :
    outSettled o d = outRun o false (setF (SYN_OUT_STATUS_squelched o) 0 d) := by
  simp only [outSettled, hen, Bool.not_false, if_true]

theorem outSettled_running (hen : flag d (SYN_OUT_CFG_enable o) = true) (hrun : flag d (SYN_OUT_STATUS_running o) = true) :
    outSettled o d = outRun o true d := by
  simp only [outSettled, hen, hrun, Bool.not_true, Bool.false_eq_true, if_false, if_true]

theorem outSettled_starts (hen : flag d (SYN_OUT_CFG_enable o) = true) (hrun : flag d (SYN_OUT_STATUS_running o) = false)
    (hmay : outMay d o = true) : outSettled o d = startOut o d := by
  simp only [outSettled, hen, hrun, hmay, Bool.not_true, Bool.false_eq_true, if_false, if_true]

theorem outSettled_waits (hen : flag d (SYN_OUT_CFG_enable o) = true) (hrun : flag d (SYN_OUT_STATUS_running o) = false)
    (hmay : outMay d o = false) :
    outSettled o d = setB (SYN_OUT_STATUS_squelched o) ((spll d (outPll d o)).coasted && squelches d o) d := by
  simp only [outSettled, hen, hrun, hmay, Bool.not_true, Bool.false_eq_true, if_false]

variable (hd1 : fieldWrite r (SYN_OUT_CFG o) v d = d1)

include hd1

theorem outCfgF_accepted (hdiv : divOk d1 (outPll d1 o) (outDiv d1 o) = true)
    (halign : flag d1 (SYN_OUT_CFG_align o) = false ∨ alignOk d1 (outPll d1 o) (outDiv d1 o) = true) :
    outCfgF r o v d = pllResult (outPll d1 o) 0x00 (calRequest o (outSettled o d1)) := by
  have hpossible : (flag d1 (SYN_OUT_CFG_align o) && !(alignOk d1 (outPll d1 o) (outDiv d1 o))) = false := by
    rcases halign with h | h <;> simp [h]
  simp only [outCfgF, hd1, hdiv, hpossible, Bool.not_true, Bool.false_eq_true, if_false, outSettled]

theorem outCfgF_dividerRefused (hdiv : divOk d1 (outPll d1 o) (outDiv d1 o) = false) :
    outCfgF r o v d = pllResult (outPll d1 o) 0x07 d := by
  simp only [outCfgF, hd1, hdiv, Bool.not_false, if_true]

theorem outCfgF_alignRefused (hdiv : divOk d1 (outPll d1 o) (outDiv d1 o) = true) (hal : flag d1 (SYN_OUT_CFG_align o) = true)
    (halign : alignOk d1 (outPll d1 o) (outDiv d1 o) = false) : outCfgF r o v d = pllResult (outPll d1 o) 0x09 d := by
  simp only [outCfgF, hd1, hdiv, hal, halign, Bool.not_true, Bool.not_false, Bool.and_self, Bool.false_eq_true, if_false, if_true]

end

/-! ### The changes of a pulse output (R198, R200) -/

section

variable {r : Req} {q : Nat} {v : Word} {d d1 : Dev}

/-- The range of the settings of a pulse output (R198): period 2 ms to 1,000 s, a pulse and 1.001 ms within it, phase below it. -/
theorem ppsOk_iff (per wid ph : Nat) : ppsOk per wid ph = true ↔
    2 * 65536000000 ≤ per ∧ per ≤ 1000 * 65536000000000 ∧ 8 ≤ wid ∧ wid * 65536 + 65601536000 ≤ per ∧ ph < per := by
  rw [ppsOk]
  simp only [Bool.and_eq_true, decide_eq_true_eq, and_assoc]
  rfl

theorem ppsEnableF_same (hd1 : fieldWrite r (SYN_PPS_CFG q) v d = d1)
    (hen : flag d1 (SYN_PPS_CFG_enable q) = (spps d1 q).en) (hnone : (spps d1 q).newEn = none) :
    ppsEnableF r q v d = ppsRun q (spps d1 q).en (calRequest (16 + q) d1) := by
  simp only [ppsEnableF, hd1, hen, hnone, Option.isNone_none, and_self, if_true]

theorem ppsEnableF_changes (hd1 : fieldWrite r (SYN_PPS_CFG q) v d = d1)
    (hen : flag d1 (SYN_PPS_CFG_enable q) ≠ (spps d1 q).en) :
    ppsEnableF r q v d = setF (SYN_PPS_STATUS_pending q) 1
      (setSpps q { spps d1 q with newEn := some (flag d1 (SYN_PPS_CFG_enable q)) }
        (ppsRun q (spps d1 q).en (calRequest (16 + q) d1))) := by
  simp only [ppsEnableF, hd1, hen, false_and, if_false]

variable (hon : domOnN d (if q < 2 then 4 else 5) = true) (hms : d.syn.msTick = some d.meas.tick)
  (hpend : flag d (SYN_PPS_STATUS_pending q) = true)

include hon hms hpend

/-- On a 1 ms epoch a pending change waits only for its output to be quiet or disabled (R200). -/
theorem ppsChangeF_epoch : ppsChangeF q d = doIf (!(spps d q).en || ppsQuietAt (spps d q) (now16 d)) (ppsApply q) d := by
  simp only [ppsChangeF, hon, hms, hpend, beq_self_eq_true, Bool.true_and]

theorem ppsChangeF_quiet (h : (spps d q).en = false ∨ ppsQuietAt (spps d q) (now16 d) = true) :
    ppsChangeF q d = ppsApply q d := by
  have hmay : (!(spps d q).en || ppsQuietAt (spps d q) (now16 d)) = true := by
    rcases h with h | h <;> simp [h]
  rw [ppsChangeF_epoch hon hms hpend, hmay, doIf_true]

theorem ppsChangeF_busy (hen : (spps d q).en = true) (hquiet : ppsQuietAt (spps d q) (now16 d) = false) :
    ppsChangeF q d = d := by
  rw [ppsChangeF_epoch hon hms hpend, hen, hquiet, Bool.not_true, Bool.or_self, doIf_false]

end

/-! ### Calibration ages and realignment (R197, R202) -/

section

variable {i : Nat} {d : Dev}

theorem calAgeF_expired (hage : fld d SYN_CAL_AGELIM_s < fld d (calAge i)) (hvalid : flag d (calValid i) = true) :
    calAgeF i d = raise 0x3007 (i + 1 * 256 + errSat d i * 65536) (setF (calValid i) 0 d) := by
  rw [calAgeF, decide_eq_true hage, doIf_true]
  exact if_pos hvalid

theorem calAgeF_within (hage : fld d (calAge i) ≤ fld d SYN_CAL_AGELIM_s) : calAgeF i d = d := by
  rw [calAgeF, decide_eq_false (not_lt.mpr hage), doIf_false]

theorem realignDoneF_done (hre : flag d (SYN_OUT_STATUS_realigning i) = true) (hleft : (sout d (outKey d i)).left = 0)
    (htarget : rdN d (outReg d SYN_OUT_DELAY i) = (sout d (outKey d i)).target) :
    realignDoneF i d = raise 0x300A i (setF (SYN_OUT_STATUS_realigning i) 0 d) := by
  simp only [realignDoneF, hre, hleft, htarget, decide_true, Bool.and_self, doIf_true]

end

/-- Settles O30: a write of the configuration by what it is refused for and what it finds, a change of a pulse output by the quiet epoch. -/
theorem outputCommandsComplete : Obligations.OutputCommandsComplete := by
  delta Obligations.OutputCommandsComplete
  refine ⟨?config, ?phase, ?enable, ?apply, ?age, ?realign, fun q d => ppsApply_settled q.val d⟩
  case config =>
    intro r o v s hg d1 p en al done
    refine ⟨fun hdiv halign => ⟨fun hen => ?_, fun hen hrun => ?_, fun hen hrun hmay => ?_, fun hen hrun hmay => ?_⟩,
      fun hdiv => ?_, fun hdiv hal halign => ?_⟩
    · exact runsTo_of_write rfl hg ((outCfgF_accepted rfl hdiv halign).trans (congrArg done (outSettled_disabled hen)))
    · exact runsTo_of_write rfl hg ((outCfgF_accepted rfl hdiv halign).trans (congrArg done (outSettled_running hen hrun)))
    · exact runsTo_of_write rfl hg ((outCfgF_accepted rfl hdiv halign).trans (congrArg done (outSettled_starts hen hrun hmay)))
    · exact runsTo_of_write rfl hg ((outCfgF_accepted rfl hdiv halign).trans (congrArg done (outSettled_waits hen hrun hmay)))
    · exact runsTo_of_write rfl hg (outCfgF_dividerRefused rfl hdiv)
    · exact runsTo_of_write rfl hg (outCfgF_alignRefused rfl hdiv hal halign)
  case phase =>
    intro r q hi s hg d1 per wid ph ok
    refine ⟨fun hok => ?_, fun hno => ?_⟩
    · exact runsTo_of_write (k := ppsCommitF r q.val hi) rfl hg (if_pos ((ppsOk_iff _ _ _).mpr hok))
    · exact runsTo_of_write (k := ppsCommitF r q.val hi) rfl hg (if_neg (fun h => hno ((ppsOk_iff _ _ _).mp h)))
  case enable =>
    intro r q v s hg d1 x en d2
    refine ⟨fun hen hnone => ?_, fun hen => ?_⟩
    · exact runsTo_of_write rfl hg (ppsEnableF_same rfl hen hnone)
    · exact runsTo_of_write rfl hg (ppsEnableF_changes rfl hen)
  case apply =>
    intro q s hp hon hms hpend
    refine ⟨fun h => ?_, fun hen hquiet => ?_⟩
    · exact runsTo_of_powered (ppsChangeF q.val) rfl hp (ppsChangeF_quiet hon hms hpend h)
    · exact runsTo_of_powered (ppsChangeF q.val) rfl hp (ppsChangeF_busy hon hms hpend hen hquiet)
  case age =>
    intro o s hp
    refine ⟨fun hage hvalid => ?_, fun hage => ?_⟩
    · exact runsTo_of_powered (calAgeF o.val) rfl hp (calAgeF_expired hage hvalid)
    · exact runsTo_of_powered (calAgeF o.val) rfl hp (calAgeF_within hage)
  case realign =>
    exact fun o s hp hre hleft htarget => runsTo_of_powered (realignDoneF o.val) rfl hp (realignDoneF_done hre hleft htarget)

end Sys2Proof.Proofs

/-! PROOFS about the edges and captures of MEAS (R117 to R122, R127). -/

namespace Sys2Proof.Proofs

open Sys2Proof Sys2Proof.Machine Sys2Proof.Laws

/-! ### Pin edges and hold-off windows (R121) -/

section

variable {pin : Nat} {f : Bool} {d : Dev}

theorem refinEdgeF_otherDirection (h : flag d (MEAS_IN_CFG_falling pin) ≠ f) : refinEdgeF pin f d = d :=
  if_pos (by simp [h])

/-- An edge of the selected direction meets the window or is accepted. -/
theorem refinEdgeF_selected (hon : measOn d = true) (h : flag d (MEAS_IN_CFG_falling pin) = f) :
    refinEdgeF pin f d = if inHoldoff d pin = true then satAdd (MEAS_IN_CFG_sup pin) 1 d else
      { d with meas := { d.meas with
        pinLast := cput (fun _ => none) d.meas.pinLast pin (some (near d))
        pinTick := cput (fun _ => none) d.meas.pinTick pin (some d.meas.tick)
        holdEnd := cput (fun _ => none) d.meas.holdEnd pin
          (if rdN d (MEAS_IN_HOLDOFF pin) = 0 then none else some (d.meas.tick + rdN d (MEAS_IN_HOLDOFF pin))) } } :=
  if_neg (by simp [hon, h])

theorem holdoffOver_open (h : inHoldoff d pin = true) : holdoffOver pin d = d := if_pos h

theorem holdoffOver_over (h : inHoldoff d pin = false) :
    holdoffOver pin d = { d with meas := { d.meas with holdEnd := cput (fun _ => none) d.meas.holdEnd pin none } } :=
  if_neg (Bool.eq_false_iff.mp h)

end

/-! ### Captures (R117, R118, R122, R127) -/

section

variable {ch q code : Nat} {d : Dev}

/-- A granted channel takes an edge that its source delivers for a request that lacks samples. -/
theorem channelCaptureF_taken {stop : Bool} {src : Nat} (hq : fld d (MEAS_CH_OWN_req ch) = q)
    (hsel : (if stop = true then reqCfg d q 16 8 else reqCfg d q 8 8) = src) (hon : measOn d = true)
    (hst : fld d (MEAS_CH_OWN_state ch) = 1) (hlack : (mreq d q).n < (mreq d q).reqN) (hsrc : srcOn d src = true)
    (hedge : srcEdge d src = true) :
    channelCaptureF ch stop code d = if stop = true then stopEdge ch q code d else startEdge ch q code d := by
  subst hq hsel
  exact if_neg (by simp [hon, hst, hlack, hsrc, hedge])

/-- What a start edge does that no awaited stop bars: the prescaler lets it through to the sample or only counts it. -/
def prescaled (ch q code : Nat) (d : Dev) : Dev :=
  if (mreq d q).presc + 1 < atLeast1 (bitsOf (rd d (bank MEAS_REQ_PRESC q)) 0 17) then
    setMreq q { mreq d q with presc := (mreq d q).presc + 1 } d
  else startSample ch q code (setMreq q { mreq d q with presc := 0 } d)

theorem startEdge_stamp (hmode : reqCfg d q 1 1 = 0) : startEdge ch q code d = holdIfStopping q (prescaled ch q code d) := by
  simp only [startEdge, hmode, prescaled, Nat.reduceBEq, Bool.false_and, Bool.false_eq_true, if_false, Bool.not_false, doIf_true]

theorem startEdge_interval (hmode : reqCfg d q 1 1 = 1) :
    startEdge ch q code d = if (mreq d q).pend.isSome = true then d else prescaled ch q code d := by
  simp only [startEdge, hmode, prescaled, beq_self_eq_true, Bool.true_and, Bool.not_true, doIf_false]

theorem prescaled_counts (h : (mreq d q).presc + 1 < atLeast1 (bitsOf (rd d (bank MEAS_REQ_PRESC q)) 0 17)) :
    prescaled ch q code d = setMreq q { mreq d q with presc := (mreq d q).presc + 1 } d := if_pos h

theorem prescaled_through (h : atLeast1 (bitsOf (rd d (bank MEAS_REQ_PRESC q)) 0 17) ≤ (mreq d q).presc + 1) :
    prescaled ch q code d = startSample ch q code (setMreq q { mreq d q with presc := 0 } d) := if_neg (not_lt.mpr h)

theorem startSample_tooSoon (h : tooSoon d ch = true) : startSample ch q code d = chanOverrun ch d := if_pos h

/-- A start accepted on this tick. -/
def startAccepted (ch : Nat) (d : Dev) : Dev :=
  { d with meas := { d.meas with startAt := cput (fun _ => none) d.meas.startAt ch (some d.meas.tick) } }

/-- Neither a request's accumulators nor the tick of an accepted start enter a stamp or a register. -/
theorem stampOf_startAccepted (src : Nat) : stampOf (startAccepted ch d) ch src code = stampOf d ch src code := rfl

theorem stampOf_setMreq (x : MReq) (src : Nat) : stampOf (setMreq q x d) ch src code = stampOf d ch src code := rfl

theorem startSample_accepted (h : tooSoon d ch = false) : startSample ch q code d =
    if reqCfg d q 1 1 = 1 then
      setMreq q { mreq (startAccepted ch d) q with pend := some (stampOf d ch (reqCfg d q 8 8) code) } (startAccepted ch d)
    else addSample q (residual (stampOf d ch (reqCfg d q 8 8) code) (reqReg64 d MEAS_REQ_ANCHOR_LO q) (reqReg64 d MEAS_REQ_P_LO q))
      (stampOf d ch (reqCfg d q 8 8) code) (startAccepted ch d) := by
  rw [← stampOf_startAccepted]
  exact (if_neg (Bool.eq_false_iff.mp h)).trans (if_congr beq_iff_eq rfl rfl)

/-- A start edge that passes the prescaler and comes late enough (R118, R122). -/
theorem prescaled_accepted (hpre : atLeast1 (bitsOf (rd d (bank MEAS_REQ_PRESC q)) 0 17) ≤ (mreq d q).presc + 1)
    (h : tooSoon (setMreq q { mreq d q with presc := 0 } d) ch = false) : prescaled ch q code d =
      let first := startAccepted ch (setMreq q { mreq d q with presc := 0 } d)
      let st := stampOf d ch (reqCfg d q 8 8) code
      if reqCfg d q 1 1 = 1 then setMreq q { mreq first q with pend := some st } first
      else addSample q (residual st (reqReg64 d MEAS_REQ_ANCHOR_LO q) (reqReg64 d MEAS_REQ_P_LO q)) st first := by
  rw [prescaled_through hpre, startSample_accepted h, stampOf_setMreq]
  rfl

theorem prescaled_overrun (hpre : atLeast1 (bitsOf (rd d (bank MEAS_REQ_PRESC q)) 0 17) ≤ (mreq d q).presc + 1)
    (h : tooSoon (setMreq q { mreq d q with presc := 0 } d) ch = true) :
    prescaled ch q code d = chanOverrun ch (setMreq q { mreq d q with presc := 0 } d) :=
  (prescaled_through hpre).trans (startSample_tooSoon h)

theorem stopEdge_awaited {st : Nat} (hpend : (mreq d q).pend = some st) : stopEdge ch q code d =
    let sp := stampOf d ch (reqCfg d q 16 8) code
    holdIfStopping q (addSample q (nearDiff sp st - sx 64 (reqReg64 d MEAS_REQ_ANCHOR_LO q)) sp
      (setMreq q { mreq d q with pend := none } d)) := by
  simp only [stopEdge, hpend]

theorem intervalTimeoutF_awaited {st : Nat} (hq : fld d (MEAS_CH_OWN_req ch) = q) (hon : measOn d = true)
    (hst : fld d (MEAS_CH_OWN_state ch) = 1) (hpend : (mreq d q).pend = some st) :
    intervalTimeoutF ch d = holdIfStopping q (setMreq q { mreq d q with pend := none, timeout := true } d) := by
  subst hq
  exact if_pos (by simp [hon, hst, hpend])

end

/-- Settles O24: an edge of a pin by its window; a start edge by what awaits it, the prescaler and the last start; a stop edge and its
absence by the start that waits. -/
theorem measEdgesAndCapturesComplete : Obligations.MeasEdgesAndCapturesComplete := by
  delta Obligations.MeasEdgesAndCapturesComplete
  refine ⟨?edge, ?window, ?start, ?stop⟩
  case edge =>
    intro pin f s hon n
    refine ⟨fun h => ?_, fun h hin => ?_, fun h hout => ?_⟩
    · exact runsTo_of_upd (f := refinEdgeF pin.val f) rfl (refinEdgeF_otherDirection h)
    · exact runsTo_of_upd (f := refinEdgeF pin.val f) rfl ((refinEdgeF_selected hon h).trans (if_pos hin))
    · exact runsTo_of_upd (f := refinEdgeF pin.val f) rfl ((refinEdgeF_selected hon h).trans (if_neg (Bool.eq_false_iff.mp hout)))
  case window =>
    intro pin s hp
    refine ⟨fun h => ?_, fun h => ?_⟩
    · exact runsTo_of_powered (holdoffOver pin.val) rfl hp (holdoffOver_open h)
    · exact runsTo_of_powered (holdoffOver pin.val) rfl hp (holdoffOver_over h)
  case start =>
    intro ch code s q r src pre kept first st hon hst hlack hsrc hedge
    have htaken : channelCaptureF ch.val false code.val s.toDev = startEdge ch.val q code.val s.toDev :=
      channelCaptureF_taken rfl rfl hon hst hlack hsrc hedge
    have hrun : ∀ {e : Dev}, startEdge ch.val q code.val s.toDev = e → runsTo (.channelCapture ch false code) s e :=
      fun he => runsTo_of_upd (f := channelCaptureF ch.val false code.val) rfl (htaken.trans he)
    refine ⟨fun hmode => ?stamp, fun hmode => ?interval⟩
    case stamp =>
      have hhold : ∀ {e : Dev}, prescaled ch.val q code.val s.toDev = e → startEdge ch.val q code.val s.toDev = holdIfStopping q e :=
        fun he => (startEdge_stamp hmode).trans (congrArg (holdIfStopping q) he)
      have hplain : ¬ reqCfg s.toDev q 1 1 = 1 := by omega
      refine ⟨fun hpre => ?_, fun hpre hsoon => ?_, fun hpre hlate => ?_⟩
      · exact hrun (hhold (prescaled_counts hpre))
      · exact hrun (hhold (prescaled_overrun hpre hsoon))
      · exact hrun (hhold ((prescaled_accepted hpre hlate).trans (if_neg hplain)))
    case interval =>
      have hfree : ∀ {e : Dev}, r.pend = none → prescaled ch.val q code.val s.toDev = e → startEdge ch.val q code.val s.toDev = e :=
        fun hnone he => ((startEdge_interval hmode).trans (if_neg (by simp [r, hnone]))).trans he
      refine ⟨fun hwait => ?_, fun hnone hpre => ?_, fun hnone hpre hsoon => ?_, fun hnone hpre hlate => ?_⟩
      · exact hrun ((startEdge_interval hmode).trans (if_pos (Option.isSome_iff_ne_none.mpr hwait)))
      · exact hrun (hfree hnone (prescaled_counts hpre))
      · exact hrun (hfree hnone (prescaled_overrun hpre hsoon))
      · exact hrun (hfree hnone ((prescaled_accepted hpre hlate).trans (if_pos hmode)))
  case stop =>
    intro ch code st0 s q r src sp hon hst hpend
    refine ⟨?_, fun hlack hsrc hedge => ?_⟩
    · exact runsTo_of_upd (f := intervalTimeoutF ch.val) rfl (intervalTimeoutF_awaited rfl hon hst hpend)
    · exact runsTo_of_upd (f := channelCaptureF ch.val true code.val) rfl
        ((channelCaptureF_taken (stop := true) rfl rfl hon hst hlack hsrc hedge).trans (stopEdge_awaited hpend))

end Sys2Proof.Proofs

/-! PROOFS about the requests, the scheduler and the load of MEAS (R123 to R129, R134). -/

namespace Sys2Proof.Proofs

open Sys2Proof Sys2Proof.Machine Sys2Proof.Laws

/-! ### A decision of the scheduler (R126, R127, R132) -/

section

variable {d : Dev}

/-- What a decision finds once the skew runs that are due have started and the late preemptions have ended. -/
def skewsServed (d : Dev) : Dev := startSkews (stopLate d)

/-- The first waiting request that no preemption under way serves. -/
def unserved (d : Dev) : Option Nat := (waitList d)[(stoppingReqs d).length]?

theorem schedule_firstCalibration (h : (skewsServed d).meas.initCal = true) : schedule d = skewsServed d := if_pos h

/-- Outside the first calibration a decision grants. -/
theorem schedule_grants (h : (skewsServed d).meas.initCal = false) {q c : Nat} (hnext : nextGrant (skewsServed d) = some (q, c)) :
    schedule d = grant q c (skewsServed d) := by
  unfold skewsServed at *
  simp only [schedule, h, hnext, Bool.false_eq_true, if_false]

theorem schedule_nobodyUnserved (h : (skewsServed d).meas.initCal = false) (hnext : nextGrant (skewsServed d) = none)
    (hwants : unserved (skewsServed d) = none) : schedule d = skewsServed d := by
  unfold unserved skewsServed at *
  simp only [schedule, h, hnext, hwants, Bool.false_eq_true, if_false]

/-- With no grant to make, the first request that nothing serves has a victim preempted, or waits. -/
theorem schedule_unserved (h : (skewsServed d).meas.initCal = false) (hnext : nextGrant (skewsServed d) = none) {q : Nat}
    (hwants : unserved (skewsServed d) = some q) :
    schedule d = ((victim (skewsServed d) (reqClass (skewsServed d) q)).elim id preempt) (skewsServed d) := by
  unfold unserved skewsServed at *
  simp only [schedule, h, hnext, hwants, Bool.false_eq_true, if_false]
  cases victim (startSkews (stopLate d)) (reqClass (startSkews (stopLate d)) q) <;> rfl

end

/-! ### Results and age limits (R123, R124, R128) -/

section

variable {q : Nat} {d : Dev}

theorem requestAgeLimitF_late (hon : measOn d = true) (hst : reqState d q ≠ 0) (hlim : reqReg d MEAS_REQ_AGELIM q ≠ 0)
    (hfirst : (mreq d q).starved = false)
    (hlate : ((reqReg d MEAS_REQ_AGELIM q * 65536000000 : Nat) : Int) < nearDiff (near d) (mreq d q).lastRes) :
    requestAgeLimitF q d =
      raise 0x2404 q (setB MEAS_STATUS_starved true (setMreq q { mreq d q with starved := true } d)) :=
  if_pos (by
    simp only [Bool.and_eq_true, bne_iff_ne, decide_eq_true_eq, Bool.not_eq_true']
    exact ⟨⟨⟨⟨hon, hlim⟩, hst⟩, hfirst⟩, hlate⟩)

theorem requestAgeLimitF_again (h : (mreq d q).starved = true) : requestAgeLimitF q d = d := if_neg (by simp [h])

theorem requestDone_complete {latch : Int} (hon : measOn d = true) (hst : reqState d q = 2 ∨ reqState d q = 3)
    (hn : (mreq d q).reqN ≤ (mreq d q).n) : requestDone q latch d = resultOut q false false latch d :=
  if_pos (by simp [hon, hst, hn])

theorem requestDueF_due (hon : measOn d = true) (hst : reqState d q ≠ 0) (hrep : 0 < reqReg64 d MEAS_REQ_REPEAT_LO q)
    (hdue : due (((mreq d q).due + reqReg64 d MEAS_REQ_REPEAT_LO q) % 2 ^ 64) (near d) = true) :
    requestDueF q d = resultOut q false true 0 d :=
  if_pos (by
    simp only [Bool.and_eq_true, bne_iff_ne, decide_eq_true_eq]
    exact ⟨⟨⟨hon, hst⟩, hrep⟩, hdue⟩)

end

/-! ### The load of a second (R129) -/

section

variable {d : Dev}

/-- The channel-milliseconds that the classes have demanded since the last whole second. -/
def demandMs (d : Dev) : Nat := ((List.range 8).map (loadMs d.meas.loadD)).foldl (· + ·) 0

/-- MEAS_LOAD taken and the count begun again. -/
def loadTaken (d : Dev) : Dev :=
  let d1 := forEach (List.range 8) (fun p x => setF (MEAS_LOAD_granted p) (satU 16 (loadMs d.meas.loadG p))
    (setF (MEAS_LOAD_demand p) (satU 16 (loadMs d.meas.loadD p)) x)) d
  { d1 with meas := { d1.meas with loadD := [], loadG := [], loadSec := taiSec d } }

theorem measLoadF_sameSecond (h : taiSec d = d.meas.loadSec) : measLoadF d = d := if_pos h

theorem measLoadF_newSecond (h : taiSec d ≠ d.meas.loadSec) :
    measLoadF d = if 24000 < demandMs (loadSync d) then
      raise 0x2406 (demandMs (loadSync d)) (setB MEAS_STATUS_oversub true (loadTaken (loadSync d)))
    else loadTaken (loadSync d) :=
  (if_neg h).trans (doIf_decide _ _ _)

end

/-- Settles O25: a decision by what it finds, a request by its samples and times, a second by its demand, a loss as a whole. -/
theorem measRequestsAndSchedulerComplete : Obligations.MeasRequestsAndSchedulerComplete := by
  delta Obligations.MeasRequestsAndSchedulerComplete
  refine ⟨?scheduler, ?requests, ?load, ?loss⟩
  case scheduler =>
    intro s hon d1 wants
    have hrun : ∀ {e : Dev}, schedule s.toDev = e → runsTo .schedulerGrant s e :=
      fun he => runsTo_of_doIf (c := measOn) rfl hon he
    refine ⟨fun hinit => ?_, fun hinit => ⟨fun q c hnext => ?_, fun hnext hwants => ?_, fun q hnext hwants hv => ?_,
      fun q v hnext hwants hv => ?_⟩⟩
    · exact hrun (schedule_firstCalibration hinit)
    · exact hrun (schedule_grants hinit hnext)
    · exact hrun (schedule_nobodyUnserved hinit hnext hwants)
    · exact hrun ((schedule_unserved hinit hnext hwants).trans (congrArg (fun o => o.elim id preempt d1) hv))
    · exact hrun ((schedule_unserved hinit hnext hwants).trans (congrArg (fun o => o.elim id preempt d1) hv))
  case requests =>
    intro q s hon hst
    refine ⟨fun hlim hfirst hlate => ?_, fun hstarved => ?_, fun hrun hn latch => ?_, fun hrep hdue => ?_⟩
    · exact runsTo_of_upd (f := requestAgeLimitF q.val) rfl (requestAgeLimitF_late hon hst hlim hfirst hlate)
    · exact runsTo_of_upd (f := requestAgeLimitF q.val) rfl (requestAgeLimitF_again hstarved)
    · exact runsTo_of_upd (f := requestDone q.val latch) rfl (requestDone_complete hon hrun hn)
    · exact runsTo_of_upd (f := requestDueF q.val) rfl (requestDueF_due hon hst hrep hdue)
  case load =>
    intro s hon d total d1 d2
    have hrun : ∀ {e : Dev}, measLoadF s.toDev = e → runsTo .measLoadSecond s e := fun he => runsTo_of_doIf (c := measOn) rfl hon he
    refine ⟨fun h => ?_, fun h hle => ?_, fun h hgt => ?_⟩
    · exact hrun (measLoadF_sameSecond h)
    · exact hrun ((measLoadF_newSecond h).trans (if_neg (not_lt.mpr hle)))
    · exact hrun ((measLoadF_newSecond h).trans (if_pos hgt))
  case loss =>
    intro s hp hoff d1
    refine runsTo_of_powered (fun d => doIf (!(measOn d)) measLoss d) rfl hp ?_
    simp only [hoff, Bool.not_false, doIf_true, measLoss, d1]

end Sys2Proof.Proofs

/-! PROOFS about the calibration of MEAS (R126, R130 to R133). -/

namespace Sys2Proof.Proofs

open Sys2Proof Sys2Proof.Machine Sys2Proof.Laws

/-! ### The start of an INL run (R133) -/

section

variable {temp : Int} {d : Dev}

/-- The skews that are a period old made due. -/
def skewsDue (d : Dev) : Dev := { d with meas := { d.meas with skewDue := d.meas.skewDue ++ skewLate d } }

theorem inlTriggerF_inService (hon : measOn d = true) : inlTriggerF temp d =
    doIf ((decide (d.meas.inlAt + calPeriod d ≤ now16 d) || inlTempMoved temp d) && !(flag d MEAS_STATUS_cal_busy)) (startInl true)
      (skewsDue d) :=
  if_neg (by simp [hon])

theorem inlTriggerF_busy (hon : measOn d = true) (hbusy : flag d MEAS_STATUS_cal_busy = true) :
    inlTriggerF temp d = skewsDue d := by
  rw [inlTriggerF_inService hon, hbusy, Bool.not_true, Bool.and_false, doIf_false]

theorem inlTriggerF_starts (hon : measOn d = true) (hidle : flag d MEAS_STATUS_cal_busy = false)
    (h : d.meas.inlAt + calPeriod d ≤ now16 d ∨ inlTempMoved temp d = true) : inlTriggerF temp d = startInl true (skewsDue d) := by
  have hdue : (decide (d.meas.inlAt + calPeriod d ≤ now16 d) || inlTempMoved temp d) = true := by simpa using h
  rw [inlTriggerF_inService hon, hidle, hdue, Bool.not_false, Bool.and_self, doIf_true]

theorem inlTriggerF_waits (hon : measOn d = true) (hperiod : now16 d < d.meas.inlAt + calPeriod d)
    (htemp : inlTempMoved temp d = false) : inlTriggerF temp d = skewsDue d := by
  rw [inlTriggerF_inService hon, decide_eq_false (not_le.mpr hperiod), htemp, Bool.or_self, Bool.false_and, doIf_false]

end

/-! ### The end of an INL run (R130, R131) -/

section

variable {hits : List Nat} {temp : Int} {d : Dev}

/-- A list read position by position is the list. -/
theorem map_range_getD {α : Type} {l : List α} {n : Nat} (h : l.length = n) (dflt : α) :
    (List.range n).map (fun c => l.getD c dflt) = l :=
  List.ext_getElem (by simp [h]) fun i _ hi => by simp [hi]

/-- The table of a run. -/
def runTable (hits : List Nat) (d : Dev) : List Nat := inlTable (if d.meas.fullRun = true then 2 ^ 20 else 2 ^ 16) 0 hits

/-- A run over: its hits stored, its peak and its result shown, cal_busy clear. -/
def runShown (hits : List Nat) (v : Nat) (d : Dev) : Dev :=
  setF MEAS_CAL_STATUS_last v (setF MEAS_CAL_STATUS_inl_peak (inlPeak (runTable hits d)) (setB MEAS_STATUS_cal_busy false
    (forEach (List.range 256) (fun c x => wrN (bank MEAS_INL_HITS c) (hits.getD c 0 % 2 ^ 20) x) d)))

/-- Writes of registers leave the hidden state of MEAS. -/
theorem forEach_wrN_meas (l : List Nat) (a v : Nat → Nat) : (forEach l (fun c x => wrN (a c) (v c) x) d).meas = d.meas :=
  forEach_ind (P := fun e => e.meas = d.meas) l _ d rfl (fun _ _ h => h)

theorem runShown_meas (v : Nat) : (runShown hits v d).meas = d.meas := by
  rw [runShown, setF_meas, setF_meas, setB_meas, forEach_wrN_meas]

/-- A run over with its table in the shadow, and its time and temperature kept. -/
def runPassed (hits : List Nat) (temp : Int) (v : Nat) (d : Dev) : Dev :=
  setB MEAS_STATUS_cal_valid true { runShown hits v d with meas := { d.meas with
    shadow := some (runTable hits d, temp), lastTemp := some temp, inlAt := now16 d } }

theorem runPassed_eq (v : Nat) : runPassed hits temp v d =
    setB MEAS_STATUS_cal_valid true { runShown hits v d with meas := { (runShown hits v d).meas with
      shadow := some (runTable hits d, temp), lastTemp := some temp, inlAt := now16 d } } := by
  rw [runShown_meas, runPassed]

theorem inlCompleteF_verdict {v : Nat} (hon : measOn d = true) (hbusy : flag d MEAS_STATUS_cal_busy = true)
    (hlen : hits.length = 256) (hv : inlVerdict hits (inlPeak (runTable hits d)) = v) :
    inlCompleteF hits temp d = endInitCal (if v = 1 then runPassed hits temp v d else raise 0x2402 v (runShown hits v d)) := by
  have hgo : ¬ (!(measOn d) || !(flag d MEAS_STATUS_cal_busy)) = true := by simp [hon, hbusy]
  subst hv
  rw [inlCompleteF, if_neg hgo, map_range_getD hlen, runPassed_eq]
  rfl

theorem inlVerdict_missing {peak : Nat} (hlen : hits.length = 256) (h : ∃ c, c < 256 ∧ hits.getD c 0 = 0) :
    inlVerdict hits peak = 2 := by
  obtain ⟨c, hc, h0⟩ := h
  rw [← hlen] at hc
  rw [List.getD_eq_getElem _ _ hc] at h0
  exact if_pos (List.any_eq_true.mpr ⟨_, List.getElem_mem hc, by simp [h0]⟩)

/-- Without a missing code the peak decides. -/
theorem inlVerdict_peak {peak : Nat} (hlen : hits.length = 256) (h : ∀ c, c < 256 → hits.getD c 0 ≠ 0) :
    inlVerdict hits peak = if 99 < peak then 3 else 1 := by
  refine if_neg ?_
  intro hany
  obtain ⟨x, hx, h0⟩ := List.any_eq_true.mp hany
  obtain ⟨c, hc, rfl⟩ := List.getElem_of_mem hx
  exact h c (hlen ▸ hc) ((List.getD_eq_getElem _ _ hc).trans (beq_iff_eq.mp h0))

end

/-! ### Skews and reserves (R126, R132) -/

section

variable {ch : Nat} {sum : Int} {d : Dev}

/-- The skew of a channel measured now. -/
def skewTaken (ch : Nat) (sum : Int) (d : Dev) : Dev :=
  setF (MEAS_SKEW_d_ch ch) (wrapN 16 (satS 16 (skewMean sum))) { d with meas := { d.meas with
    skewDue := d.meas.skewDue.filter (fun c => c != ch), skewAt := cput (fun _ => 0) d.meas.skewAt ch (now16 d) } }

theorem skewCompleteF_running (hon : measOn d = true) (hst : fld d (MEAS_CH_OWN_state ch) = 2) :
    skewCompleteF ch sum d =
      let v := wrapN 16 (satS 16 (skewMean sum))
      let u := if ch < 12 then 0x07 else 0x08
      endInitCal (if 3277 < (skewMean sum).natAbs then
          raise 0x2407 (ch + v * 65536)
            (partFence u (resolved u 0x07 2 0x2407 (ch + v * 65536) false (fenceMch ch (skewTaken ch sum d))))
        else setF (MEAS_CH_OWN_state ch) 0 (skewTaken ch sum d)) :=
  if_neg (by simp [hon, hst])

end

/-- Settles O26: the starts of runs by what is due, the end of a run by its verdict, a skew by its size, a reserve by the total. -/
theorem measCalibrationCommandsComplete : Obligations.MeasCalibrationCommandsComplete := by
  delta Obligations.MeasCalibrationCommandsComplete
  refine ⟨?starts, ?trigger, ?inl, ?skew, ?reserve⟩
  case starts =>
    intro r s hg
    refine ⟨?_, ?_⟩
    · exact runsTo_of_write (k := startInl true) rfl hg rfl
    · exact runsTo_of_write (k := skewAll) rfl hg rfl
  case trigger =>
    intro temp s hon d1
    refine ⟨fun hbusy => ?_, fun hidle => ⟨fun h => ?_, fun hperiod htemp => ?_⟩⟩
    · exact runsTo_of_upd (f := inlTriggerF temp) rfl (inlTriggerF_busy hon hbusy)
    · exact runsTo_of_upd (f := inlTriggerF temp) rfl (inlTriggerF_starts hon hidle h)
    · exact runsTo_of_upd (f := inlTriggerF temp) rfl (inlTriggerF_waits hon hperiod htemp)
  case inl =>
    intro hits temp s hon hbusy hlen pos d1 done
    have hrun : ∀ {v : Nat} {e : Dev}, inlVerdict hits (inlPeak pos) = v →
        (if v = 1 then runPassed hits temp v s.toDev else raise 0x2402 v (runShown hits v s.toDev)) = e →
        runsTo (.inlRunComplete hits temp) s (endInitCal e) := fun hv he =>
      runsTo_of_upd (f := inlCompleteF hits temp) rfl ((inlCompleteF_verdict hon hbusy hlen hv).trans (congrArg endInitCal he))
    refine ⟨fun hmissing => ?_, fun hall => ⟨fun hpeak => ?_, fun hpeak => ?_⟩⟩
    · exact hrun (inlVerdict_missing hlen hmissing) rfl
    · exact hrun ((inlVerdict_peak hlen hall).trans (if_pos hpeak)) rfl
    · exact hrun ((inlVerdict_peak hlen hall).trans (if_neg (not_lt.mpr hpeak))) rfl
  case skew =>
    intro ch sum s hon hst m v u d1
    refine ⟨fun h => ?_, fun h => ?_⟩
    · exact runsTo_of_upd (f := skewCompleteF ch.val sum) rfl
        ((skewCompleteF_running hon hst).trans (congrArg endInitCal (if_neg (not_lt.mpr h))))
    · exact runsTo_of_upd (f := skewCompleteF ch.val sum) rfl ((skewCompleteF_running hon hst).trans (congrArg endInitCal (if_pos h)))
  case reserve =>
    intro r p v s hg total
    refine ⟨fun h => ?_, fun h => ?_⟩
    · exact runsTo_of_write (k := reserveF r p.val v) rfl hg ((doIf_decide _ _ _).trans (if_pos h))
    · exact runsTo_of_write (k := reserveF r p.val v) rfl hg ((doIf_decide _ _ _).trans (if_neg (not_le.mpr h)))

end Sys2Proof.Proofs

/-! PROOFS about the reference slots of REF (R136 to R142, R146, R147). -/

namespace Sys2Proof.Proofs

open Sys2Proof Sys2Proof.Machine Sys2Proof.Laws

/-! ### Feeds (R138) -/

/-- Firmware feeds the kinds that have no pin, every other requester kind 0x6 alone. -/
theorem feedAllowed_iff (r : Req) (k : Nat) :
    feedAllowed r k = true ↔ (r = .fw ∧ 4 ≤ k ∧ k ≤ 6) ∨ (r ≠ .fw ∧ k = 6) := by
  by_cases hr : r = .fw
  · simp [feedAllowed, hr]
  · simp [feedAllowed, hr]

/-! ### Timeouts of a slot (R140 to R142) -/

section

variable {n : Nat} {d : Dev}

theorem slotSignalTimeoutF_quiet (hon : refOn d = true) (hkind : slotKind d n ≠ 0) (hlim : fld d (REF_SLOT_JWIN_timeout n) ≠ 0)
    (hquiet : slotQuiet d n (fld d (REF_SLOT_JWIN_timeout n)) = true) : slotSignalTimeoutF n d =
      setRslot n { rslot d n with hard := if (rslot d n).hard = 0 then 1 else (rslot d n).hard } d := by
  simp only [slotSignalTimeoutF, hon, hkind, hlim, hquiet, ne_eq, not_false_eq_true, decide_true, Bool.and_self, doIf_true]

theorem qualDone_iff : qualDone d n = true ↔ slotState d n = 1 ∧ fld d REF_QUAL_qual_time * 1000 ≤ (rslot d n).qualMs := by
  simp only [qualDone, Bool.and_eq_true, beq_iff_eq, decide_eq_true_eq]

theorem suspectDone_iff : suspectDone d n = true ↔
    slotState d n = 3 ∧ (rslot d n).causeMs + 1000 * fld d REF_QUAL_sus_clear ≤ d.ref.ms := by
  simp only [suspectDone, Bool.and_eq_true, beq_iff_eq, decide_eq_true_eq]

end

/-! ### Disagreement of two slots (R146, R147) -/

/-- A slot found to disagree: a Qualified one becomes Suspect, a Suspect one takes the cause. -/
def disagreeing (n : Nat) (d : Dev) : Dev := if slotState d n = 2 then slotTo n 3 0x8 d else setF (REF_SLOT_STATE_cause n) 0x8 d

/-- A pair found to disagree, with its event. -/
def pairSuspect (a b : Nat) (d : Dev) : Dev := raise 0x2804 (a + b * 256) (disagreeing b (disagreeing a d))

theorem disagreeExpiryF_apart {a b : Nat} {d : Dev} (hon : refOn d = true) (hpair : pairApart d a b = true)
    (hdone : apartDone d a b = true) :
    disagreeExpiryF a b d =
      let d1 := pairSuspect a b d
      let p : Disagree := { a := a, b := b, judged := false, held := false }
      if d1.ref.disagrees.any (fun q => q.a == a && q.b == b) = true then d1
      else arbitrate p { d1 with ref := { d1.ref with disagrees := d1.ref.disagrees ++ [p] } } :=
  if_pos (by simp [hon, hpair, hdone])

/-! ### The registers of a transition (R141) -/

section

variable {n st c : Nat} {d : Dev}

/-- The fields that a transition writes: state, cause, and the time that Qualifying has left. -/
def slotShown (n st c : Nat) (d : Dev) : Dev :=
  setF (REF_SLOT_STATE_qual_left n) (if st = 1 then qualLeft d 0 else 0)
    (setF (REF_SLOT_STATE_cause n) c (setF (REF_SLOT_STATE_state n) st d))

/-- Setting a field gives the same registers on devices with the same registers. -/
theorem regs_setF_congr {d e : Dev} (h : e.regs = d.regs) (f : Fld) (v : Nat) : (setF f v e).regs = (setF f v d).regs := by
  simp only [setF, wr, rd, h]

theorem regs_doIf {f : Dev → Dev} (hf : ∀ x, (f x).regs = x.regs) (b : Bool) (d : Dev) : (doIf b f d).regs = d.regs :=
  doIf_ind (P := fun e => e.regs = d.regs) b f d (hf d) rfl

/-- Neither the slot's timers, nor a rewind asked for, nor the event of a transition is seen in a register. -/
theorem rd_slotTo {a : Nat} (ha : isPmc (a % bankSpan) = false) : rd (slotTo n st c d) a = rd (slotShown n st c d) a := by
  rw [slotTo, rd_raise _ _ _ ha]
  refine rd_eq_of_regs ((regs_doIf ?_ _ _).trans ?_) a
  · exact fun _ => rfl
  · exact regs_setF_congr (regs_setF_congr (regs_setF_congr rfl _ _) _ _) _ _

theorem fld_slotTo {f : Fld} (hf : isPmc (f.reg % bankSpan) = false) : fld (slotTo n st c d) f = fld (slotShown n st c d) f := by
  rw [fld, fld, rd_slotTo hf]

/-- The state register of a slot is no performance counter. -/
theorem isPmc_slotState (hn : n < 32) : isPmc (REF_SLOT_STATE n % bankSpan) = false := by
  have hmod : REF_SLOT_STATE n % bankSpan = REF_SLOT_STATE n := Nat.mod_eq_of_lt (by unfold REF_SLOT_STATE bankSpan; omega)
  have hge : 0x060680 ≤ REF_SLOT_STATE n := by unfold REF_SLOT_STATE; omega
  rw [hmod, isPmc, decide_eq_false (not_lt.mpr hge), Bool.and_false]

theorem slotState_slotTo (hn : n < 32) (hst : st < 4) : slotState (slotTo n st c d) n = st := by
  rw [slotState, fld_slotTo (isPmc_slotState hn), slotShown, fld_setF_other _ _ (.inr (.inl (show 0 + 2 ≤ 16 by decide))),
    fld_setF_other _ _ (.inr (.inl (show 0 + 2 ≤ 4 by decide))), fld_setF_same _ _ _ (show 0 + 2 ≤ 32 by decide)]
  exact Nat.mod_eq_of_lt hst

theorem slotCause_slotTo (hn : n < 32) (hc : c < 16) : fld (slotTo n st c d) (REF_SLOT_STATE_cause n) = c := by
  rw [fld_slotTo (isPmc_slotState hn), slotShown, fld_setF_other _ _ (.inr (.inl (show 4 + 4 ≤ 16 by decide))),
    fld_setF_same _ _ _ (show 4 + 4 ≤ 32 by decide)]
  exact Nat.mod_eq_of_lt hc

theorem sameRegsBut_slotTo : sameRegsBut [REF_SLOT_STATE n] d (slotTo n st c d) := by
  intro a ha hpmc
  have hne : a ≠ REF_SLOT_STATE n := fun h => ha (List.mem_singleton.mpr h)
  rw [rd_slotTo hpmc, slotShown, rd_setF_other (f := REF_SLOT_STATE_qual_left n) _ _ hne,
    rd_setF_other (f := REF_SLOT_STATE_cause n) _ _ hne, rd_setF_other (f := REF_SLOT_STATE_state n) _ _ hne]

end

/-- Settles O27: a feed by who may address its slot, the timeouts each by its condition, a pair by whether its disagreement is known. -/
theorem referenceSlotCommandsComplete : Obligations.ReferenceSlotCommandsComplete := by
  delta Obligations.ReferenceSlotCommandsComplete
  refine ⟨?feed, ?timeouts, ?pair, ?transition⟩
  case feed =>
    intro r hi s hg d1 n may
    have hmay : feedAllowed r (slotKind d1 n) = true ↔ may := feedAllowed_iff r _
    refine ⟨fun h => ?_, fun h => ?_⟩
    · exact runsTo_of_write (k := refFeedF r hi) rfl hg (if_pos (hmay.mpr h))
    · exact runsTo_of_write (k := refFeedF r hi) rfl hg (if_neg (h ∘ hmay.mp))
  case timeouts =>
    intro n s hon
    refine ⟨fun hkind hlim hquiet => ?signal, fun hst htime => ?qualified, fun hst => ?notQualifying, fun hst htime => ?cleared,
      fun hst hnone => ?unmeasured, fun hkind htime => ?esmc⟩
    case signal => exact runsTo_of_upd (f := slotSignalTimeoutF n.val) rfl (slotSignalTimeoutF_quiet hon hkind hlim hquiet)
    case qualified =>
      exact runsTo_of_doIf (c := fun d => refOn d && qualDone d n.val) rfl
        (Bool.and_eq_true_iff.mpr ⟨hon, qualDone_iff.mpr ⟨hst, htime⟩⟩) rfl
    case notQualifying =>
      refine runsTo_of_doIf_false (c := fun d => refOn d && qualDone d n.val) rfl (Bool.and_eq_false_iff.mpr (.inr ?_))
      exact Bool.eq_false_iff.mpr fun h => hst (qualDone_iff.mp h).1
    case cleared =>
      exact runsTo_of_doIf (c := fun d => refOn d && suspectDone d n.val) rfl
        (Bool.and_eq_true_iff.mpr ⟨hon, suspectDone_iff.mpr ⟨hst, htime⟩⟩) rfl
    case unmeasured =>
      exact runsTo_of_doIf (c := fun d => refOn d && slotState d n.val == 2 && unmeasured d n.val) rfl
        (by simp [refOn, hon, hst, hnone]) rfl
    case esmc =>
      exact runsTo_of_doIf (c := fun d => refOn d && slotKind d n.val == 3 && decide ((rslot d n.val).esmcMs + 5000 ≤ d.ref.ms)) rfl
        (by simp [refOn, hon, hkind, htime]) rfl
  case pair =>
    intro a b s hon hpair hdone susp d1 p known
    have happly := disagreeExpiryF_apart hon hpair hdone
    refine ⟨fun h => ?_, fun h => ?_⟩
    · exact runsTo_of_upd (f := disagreeExpiryF a.val b.val) rfl (happly.trans (if_pos h))
    · exact runsTo_of_upd (f := disagreeExpiryF a.val b.val) rfl (happly.trans (if_neg (Bool.eq_false_iff.mp h)))
  case transition =>
    intro n st c d hn hst hc
    exact ⟨slotState_slotTo hn hst, slotCause_slotTo hn hc, sameRegsBut_slotTo⟩

end Sys2Proof.Proofs

/-! PROOFS about the selection, the servo and the Holdover of REF (R145, R148 to R160). -/

namespace Sys2Proof.Proofs

open Sys2Proof Sys2Proof.Machine Sys2Proof.Laws

/-! ### The commands of REF_CMD (R145, R160) -/

section

variable {d : Dev}

theorem refSwitchF_candidate {e : Nat} {c : Nat × Nat × Nat} (h : (candidates d).find? (fun c => c.2.1 == e) = some c) :
    refSwitchF e d = setF REF_RESULT_cause 0x00 (setB REF_STATUS_manual true (setActive (some (c.2.1, c.2.2)) d)) := by
  simp only [refSwitchF, h, refResult]

theorem refSwitchF_noCandidate {e : Nat} (h : (candidates d).find? (fun c => c.2.1 == e) = none) :
    refSwitchF e d = setF REF_RESULT_cause 0x02 d := by
  simp only [refSwitchF, h, refResult]

theorem refReleaseF_forced (h : flag d REF_STATUS_forced_hold = true) : refReleaseF d =
    setF REF_RESULT_cause 0x00 (setB REF_STATUS_forced_hold false { d with ref := { d.ref with changed := true } }) := by
  simp only [refReleaseF, h, if_true, refResult]

theorem refReleaseF_notForced (h : flag d REF_STATUS_forced_hold = false) :
    refReleaseF d = setF REF_RESULT_cause 0x00 (setB REF_STATUS_forced_hold false d) := by
  simp only [refReleaseF, h, Bool.false_eq_true, if_false, refResult]

/-- The tick oscillator that REF_TICK_SEL names may take over (R160). -/
def maySwitchTick (d : Dev) : Prop :=
  (fld d REF_STATUS_servo = 1 ∨ fld d REF_STATUS_servo = 2) ∧ flag d (REF_OSC_CFG_present (fld d REF_TICK_SEL_next)) = true ∧
    fld d REF_TICK_SEL_next ≠ fld d REF_TICK_SEL_current

/-- The tick oscillator switched, with the summary and the running interval no longer of one oscillator. -/
def tickSwitched (d : Dev) : Dev :=
  tickHops (fld d REF_TICK_SEL_current) (fld d REF_TICK_SEL_next) (setF REF_TICK_SEL_current (fld d REF_TICK_SEL_next)
    (setB REF_HOLD_SUM_CTL_valid false { d with ref := { d.ref with acc := { d.ref.acc with clean := false } } }))

theorem tickSwitchF_may (h : maySwitchTick d) : tickSwitchF d = setF REF_RESULT_cause 0x00 (tickSwitched d) := by
  obtain ⟨hservo, hpresent, hother⟩ := h
  exact if_pos (by simp [hservo, hpresent, hother])

theorem tickSwitchF_mayNot (h : ¬ maySwitchTick d) : tickSwitchF d = setF REF_RESULT_cause 0x03 d := by
  refine if_neg fun hc => h ?_
  simp only [Bool.and_eq_true, Bool.or_eq_true, beq_iff_eq, bne_iff_ne, and_assoc] at hc
  exact hc

/-! ### Lock and ensemble timers (R156, R159) -/

theorem lockDone_of_good {m : Nat} (hgood : d.ref.good = some m) (htime : m + 1000 * fld d REF_LOCK_time ≤ d.ref.ms) :
    lockDone d = true := by
  simp only [lockDone, hgood, htime, decide_true]

theorem ensLate_of_commit {m : Nat} (h : d.ref.ensMs = some m) :
    ensLate d = decide (m + 1000 * fld d REF_ENS_CTL_timeout ≤ d.ref.ms) := by
  simp only [ensLate, h]

theorem ensembleTimeoutF_late (hon : refOn d = true) (h : ensLate d = true) : ensembleTimeoutF d =
    raise 0x280D 0 (setB REF_ENS_CTL_valid false { d with ref := { d.ref with ensRate := 0, ensMs := none } }) :=
  if_pos (Bool.and_eq_true_iff.mpr ⟨hon, h⟩)

theorem ensembleTimeoutF_inTime (h : ensLate d = false) : ensembleTimeoutF d = d := if_neg (by simp [h])

/-! ### A history entry written (R148, R149, R151, R152) -/

/-- The words of a history entry, from word `k` on, leave the hidden state of REF. -/
theorem histWords_ref (idx : Nat) (ws : List Nat) (k : Nat) :
    (ws.foldl (fun (p : Nat × Dev) w => (p.1 + 1, wrN (bank (REF_HIST_W p.1) idx) w p.2)) (k, d)).2.ref = d.ref := by
  induction ws generalizing k d with
  | nil => rfl
  | cons w ws ih => exact (ih (k + 1)).trans (wrN_ref _ _ _)

theorem movePointer_acc : (movePointer d).ref.acc = d.ref.acc := rfl

theorem movePointer_histN : (movePointer d).ref.histN = d.ref.histN := rfl

/-- A new fit replaces the fit alone. -/
theorem refit_ref : ∃ f, (refit d).ref = { d.ref with fit := f } := by
  unfold refit
  split
  · exact ⟨_, rfl⟩
  · exact ⟨_, rfl⟩

theorem refit_acc : (refit d).ref.acc = d.ref.acc := by
  obtain ⟨f, h⟩ := refit_ref (d := d)
  rw [h]

theorem refit_histN : (refit d).ref.histN = d.ref.histN := by
  obtain ⟨f, h⟩ := refit_ref (d := d)
  rw [h]

/-- The summary stands in registers. -/
theorem copySum_ref : (copySum d).ref = d.ref := by
  unfold copySum
  cases predAt d (near d) with
  | none => rfl
  | some p => exact keeps_ite (P := fun e => e.ref = d.ref) rfl rfl

theorem writeHistory_acc : (writeHistory d).ref.acc = histAccReset := by
  rw [writeHistory, copySum_ref, refit_acc, movePointer_acc]

theorem writeHistory_histN : (writeHistory d).ref.histN = d.ref.histN + 1 := by
  rw [writeHistory, copySum_ref, refit_histN, movePointer_histN]
  exact congrArg (fun x : Ref => x.histN + 1) (histWords_ref _ _ _)

end

/-- Settles O28: the commands of REF_CMD by what they find, the timers by their conditions, the commits as a whole. -/
theorem referenceServoCommandsComplete : Obligations.ReferenceServoCommandsComplete := by
  delta Obligations.ReferenceServoCommandsComplete
  refine ⟨?commands, ?timers, ?ensemble, ?bandwidth, ?model, ?history⟩
  case commands =>
    intro r s hg
    refine ⟨fun e c h => ?_, fun e h => ?_, ?_, ?_, fun h => ?_, fun h => ?_, fun h => ?_, fun h => ?_⟩
    · exact runsTo_of_write (k := refSwitchF e.val) rfl hg (refSwitchF_candidate h)
    · exact runsTo_of_write (k := refSwitchF e.val) rfl hg (refSwitchF_noCandidate h)
    · exact runsTo_of_write (k := refAutoF) rfl hg rfl
    · exact runsTo_of_write (k := refHoldF) rfl hg rfl
    · exact runsTo_of_write (k := refReleaseF) rfl hg (refReleaseF_forced h)
    · exact runsTo_of_write (k := refReleaseF) rfl hg (refReleaseF_notForced h)
    · exact runsTo_of_write (k := tickSwitchF) rfl hg (tickSwitchF_may h)
    · exact runsTo_of_write (k := tickSwitchF) rfl hg (tickSwitchF_mayNot h)
  case timers =>
    intro s hon
    refine ⟨fun m hservo hgood htime => ?lock, fun hn => ?entry, fun m hcommit hlate => ?late, fun m hcommit hearly => ?early⟩
    case lock =>
      exact runsTo_of_doIf (c := fun d => refOn d && fld d REF_STATUS_servo == 1 && lockDone d) rfl
        (by simp [refOn, hon, hservo, lockDone_of_good hgood htime]) rfl
    case entry =>
      exact runsTo_of_doIf (c := fun d => refOn d && histDone d) rfl (Bool.and_eq_true_iff.mpr ⟨hon, decide_eq_true hn⟩) rfl
    case late =>
      exact runsTo_of_upd (f := ensembleTimeoutF) rfl
        (ensembleTimeoutF_late hon ((ensLate_of_commit hcommit).trans (decide_eq_true hlate)))
    case early =>
      exact runsTo_of_upd (f := ensembleTimeoutF) rfl
        (ensembleTimeoutF_inTime ((ensLate_of_commit hcommit).trans (decide_eq_false (not_le.mpr hearly))))
  case ensemble => exact fun r hi s hg => runsTo_of_write (k := ensembleCommitF r hi) rfl hg rfl
  case bandwidth => exact fun r v s hg => runsTo_of_write (k := servoBwF r v) rfl hg rfl
  case model => exact fun r s hg => runsTo_of_write (k := modelCommitF) rfl hg rfl
  case history => exact fun d => ⟨writeHistory_acc, writeHistory_histN⟩

end Sys2Proof.Proofs

/-! PROOFS about the claim rounds, the claim stages and the twin states (R203, R204, R343 to R347, R464). -/

namespace Sys2Proof.Proofs

open Sys2Proof Sys2Proof.Machine Sys2Proof.Laws

/-! ### A claim round (R344 to R346) -/

section

variable {p : Bool} {claim : Nat} {d : Dev}

/-- The rounds without the presence bit, up to two, once a round with presence `p` has ended (R345). -/
def absentAfter (p : Bool) (d : Dev) : Nat := if p = true then 0 else min 2 (d.twn.absent + 1)

/-- The partner is present once a round with presence `p` has ended (R345). -/
def presentAfter (p : Bool) (d : Dev) : Bool := decide (absentAfter p d < 2)

/-- A round counted: absence, the good rounds of a faulted bus, and since when the partner is gone. -/
def roundCounted (p : Bool) (d : Dev) : Dev :=
  modTwn (fun t => { t with
    absent := absentAfter p d
    good := if flag d TWN_BUS_STATUS_bus_fault = true then t.good + 1 else 0
    goneAt := if presentAfter p d = true then none else some (d.twn.goneAt.getD (now16 d)) }) d

/-- A round whose claims are not compared: it counts and shows the presence of the partner. -/
def roundShown (p : Bool) (d : Dev) : Dev := setB TWN_BUS_STATUS_partner_present (presentAfter p d) (roundCounted p d)

/-- The claim computed now is driven in the next round (R343). -/
def claimDriven (d : Dev) : Dev := modTwn (fun t => { t with claim := claimNow d }) d

/-- The end of a round that found `n` rounds without presence: the claim of the next one, and wake source 8 where the partner
has just become absent (R345, R464). -/
def roundNext (n : Nat) (d : Dev) : Dev :=
  if n < 2 ∧ (claimDriven d).twn.absent = 2 then wakeBy 8 (claimDriven d) else claimDriven d

/-- What the partner drove: an absent partner has claim 0 (R345). -/
def partnerClaim (p : Bool) (claim : Nat) : Nat := if p = true then claim else 0

/-- The chip wins a round: its claim is the greater one, or equal with TWN_SIDE high or no partner. -/
def WinsRound (p : Bool) (claim : Nat) (d : Dev) : Prop :=
  partnerClaim p claim < d.twn.claim ∨
    partnerClaim p claim = d.twn.claim ∧ (flag d TWN_BUS_STATUS_side = true ∨ p = false)

theorem winsRound_iff : WinsRound p claim d ↔
    (claimBeats d.twn.claim (partnerClaim p claim) d || (decide (partnerClaim p claim = d.twn.claim) && !p)) = true := by
  simp only [WinsRound, claimBeats, Bool.or_eq_true, Bool.and_eq_true, decide_eq_true_eq, Bool.not_eq_true']
  tauto

/-- Claims go over Millrace under a bus fault or with unit 0x35 out (R346, R405). -/
theorem overLink_iff : overLink d = true ↔ flag d TWN_BUS_STATUS_bus_fault = true ∨ unitOut d 0x35 = true := by
  simp only [overLink, Bool.or_eq_true]

theorem overLink_false (hf : flag d TWN_BUS_STATUS_bus_fault = false) (hu : unitOut d 0x35 = false) : overLink d = false := by
  simp only [overLink, hf, hu, Bool.or_self]

/-- A round on a bus that compares no claims: the eighth good one ends the fault. -/
theorem roundEnd_overLink (hb : busRuns d = true) (ho : overLink d = true) : roundEnd p claim d =
    claimDriven (doIf (flag d TWN_BUS_STATUS_bus_fault && decide (8 ≤ (roundCounted p d).twn.good))
      (setF TWN_BUS_STATUS_bus_fault 0) (roundShown p d)) := by
  simp only [roundEnd, hb, ho, Bool.not_true, Bool.false_eq_true, if_false, if_true]
  rfl

theorem roundEnd_counts (hb : busRuns d = true) (ho : overLink d = true)
    (hgood : ¬ (flag d TWN_BUS_STATUS_bus_fault = true ∧ 8 ≤ d.twn.good + 1)) :
    roundEnd p claim d = claimDriven (roundShown p d) := by
  have hstays : (flag d TWN_BUS_STATUS_bus_fault && decide (8 ≤ (roundCounted p d).twn.good)) = false := by
    refine Bool.eq_false_iff.mpr fun h => hgood ?_
    obtain ⟨hf, hg⟩ := Bool.and_eq_true_iff.mp h
    exact ⟨hf, by simpa [roundCounted, modTwn, hf] using hg⟩
  rw [roundEnd_overLink hb ho, hstays, doIf_false]

theorem roundEnd_faultEnds (hb : busRuns d = true) (hf : flag d TWN_BUS_STATUS_bus_fault = true) (hgood : 8 ≤ d.twn.good + 1) :
    roundEnd p claim d = claimDriven (setF TWN_BUS_STATUS_bus_fault 0 (roundShown p d)) := by
  have hends : (flag d TWN_BUS_STATUS_bus_fault && decide (8 ≤ (roundCounted p d).twn.good)) = true := by
    simp [roundCounted, modTwn, hf, hgood]
  rw [roundEnd_overLink hb (overLink_iff.mpr (.inl hf)), hends, doIf_true]

/-- A won round: the partner's claim, where it is present, is the one last heard over Millrace (R345). -/
theorem roundEnd_won (hb : busRuns d = true) (ho : overLink d = false) (hw : WinsRound p claim d) : roundEnd p claim d =
    claimDriven (claimKnown true (claimBeats d.twn.claim (partnerClaim p claim) d) d.twn.claim
      (if presentAfter p d = true then d.twn.peerClaim else 0) (b2n (presentAfter p d)) (presentAfter p d) (roundCounted p d)) := by
  have hwon := winsRound_iff.mp hw
  unfold partnerClaim at hwon
  simp only [roundEnd, hb, ho, hwon, Bool.not_true, Bool.false_eq_true, if_false, if_true, Bool.true_and]
  rfl

/-- A lost round: the partner's claim comes from the bus (R345). -/
theorem roundEnd_lost (hb : busRuns d = true) (ho : overLink d = false) (hw : ¬ WinsRound p claim d) : roundEnd p claim d =
    claimDriven (claimKnown false (claimBeats d.twn.claim (partnerClaim p claim) d) d.twn.claim (partnerClaim p claim) 0
      (presentAfter p d) (roundCounted p d)) := by
  have hlost := Bool.eq_false_iff.mpr (mt winsRound_iff.mpr hw)
  unfold partnerClaim at hlost
  simp only [roundEnd, hb, ho, hlost, Bool.not_true, Bool.false_eq_true, if_false, Bool.false_and]
  rfl

end

/-- A round whose end leaves `e`, its claim for the next round still to be driven. -/
theorem claimRoundEnd_runsTo {p : Bool} {c : BitVec 16} {s : State} {e : Dev}
    (h : roundEnd p c.toNat s.toDev = claimDriven e) : runsTo (.claimRoundEnd p c) s (roundNext s.twn.absent e) := by
  refine runsTo_of_upd (f := fun d =>
    doIf (decide (d.twn.absent < 2) && decide ((roundEnd p c.toNat d).twn.absent = 2)) (wakeBy 8) (roundEnd p c.toNat d)) rfl ?_
  simp only [h, ← Bool.decide_and, doIf_decide, roundNext]

/-! ### The loss of the partner (R347) -/

theorem partnerLost_of_elapsed {d : Dev} (hp : flag d TWN_BUS_STATUS_partner_present = false) (hl : linkUp d = false)
    (ht : max (d.twn.goneAt.getD 0) (d.twn.upAt.getD 0) + fld d TWN_LOSS_TIME_ms * 65536000000 ≤ now16 d) :
    partnerLost d = true := by
  simp only [partnerLost, hp, hl, elapsed_of_le ht, Bool.not_false, Bool.and_self]

theorem partnerLost_not {d : Dev} (h : flag d TWN_BUS_STATUS_partner_present = true ∨ linkUp d = true) :
    partnerLost d = false := by
  rcases h with h | h <;> simp [partnerLost, h]

theorem partnerLossExpiry_lost {s : State} (hon : twnAlive s.toDev = true) (hlost : partnerLost s.toDev = true) :
    runsTo .partnerLossExpiry s (twinTo 2 s.toDev) :=
  runsTo_of_doIf (c := fun d => twnAlive d && partnerLost d) rfl (Bool.and_eq_true_iff.mpr ⟨hon, hlost⟩) rfl

theorem partnerLossExpiry_notLost {s : State} (hlost : partnerLost s.toDev = false) : runsTo .partnerLossExpiry s s.toDev :=
  runsTo_of_doIf_false (c := fun d => twnAlive d && partnerLost d) (f := twinTo 2) rfl (by simp only [hlost, Bool.and_false])

/-! ### The stages of the outputs (R203, R204) -/

section

variable {o : Nat} {d : Dev}

/-- Outputs 0 to 15 are the clocks, 16 to 19 the pulses. -/
theorem mayDrive_eq : mayDrive d o =
    if o < 16 then flag d (SYN_OUT_STATUS_running o) && (!(flag d (SYN_OUT_CFG_claim o)) || claimDrives d)
    else flag d (SYN_PPS_STATUS_running (o - 16)) && (!(flag d (SYN_PPS_CFG_claim (o - 16))) || claimDrives d) := by
  unfold mayDrive runBit claimBit
  split <;> rfl

theorem stageChange_same (h : mayDrive d o = flag d (driveBit o)) : stageChange o d = d :=
  if_pos (beq_iff_eq.mpr h)

theorem stageChange_changed (h : mayDrive d o ≠ flag d (driveBit o)) : stageChange o d =
    raise 0x3009 (o + b2n (mayDrive d o) * 256) (setB (driveBit o) (mayDrive d o) d) :=
  if_neg (mt beq_iff_eq.mp h)

end

/-- Settles O42: a round by whether claims are compared and who wins, the bus fault and the loss of the partner by their
conditions, a stage by whether it changes. -/
theorem claimCommandsComplete : Obligations.ClaimCommandsComplete := by
  delta Obligations.ClaimCommandsComplete
  refine ⟨?round, ?twin, ?stage⟩
  case round =>
    intro p c s hb absent here own theirs faulted gone d1 next wins
    refine ⟨fun hover hgood => ?_, fun hf hgood => ?_, fun hf hu hw => ?_, fun hf hu hw => ?_⟩
    · exact claimRoundEnd_runsTo (roundEnd_counts hb (overLink_iff.mpr hover) hgood)
    · exact claimRoundEnd_runsTo (roundEnd_faultEnds hb hf hgood)
    · exact claimRoundEnd_runsTo (roundEnd_won hb (overLink_false hf hu) hw)
    · exact claimRoundEnd_runsTo (roundEnd_lost hb (overLink_false hf hu) hw)
  case twin =>
    intro s hon gone
    refine ⟨?_, fun hp hl ht => ?_, fun h => ?_⟩
    · exact runsTo_of_doIf (c := twnAlive) rfl hon rfl
    · exact partnerLossExpiry_lost hon (partnerLost_of_elapsed hp hl ht)
    · exact partnerLossExpiry_notLost (partnerLost_not h)
  case stage =>
    intro o s hp on f
    have hon : mayDrive s.toDev o.val = on := mayDrive_eq
    refine ⟨fun h => ?_, fun h => ?_⟩
    · exact runsTo_of_powered (stageChange o.val) rfl hp (stageChange_same (hon.trans h))
    · refine runsTo_of_powered (stageChange o.val) rfl hp ?_
      rw [stageChange_changed (hon.trans_ne h), hon]
      rfl

end Sys2Proof.Proofs

/-! PROOFS about the snapshot buffer and the acquisition jobs of GN (R212 to R217). -/

namespace Sys2Proof.Proofs

open Sys2Proof Sys2Proof.Machine Sys2Proof.Laws

/-! ### The snapshot buffer (R212 to R215, R230) -/

section

variable {mask ms : Nat} {d : Dev}

/-- The buffer takes a capture: Free, or Full with overwrite (R214). -/
def BufferTakes (d : Dev) : Prop := snapState d = 0 ∨ (snapState d = 3 ∧ flag d GN_SNAP_CFG_overwrite = true)

/-- A mask names streams, and enabled ones only. -/
def StreamsEnabled (mask : Nat) (d : Dev) : Prop := mask ≠ 0 ∧ ∀ n ∈ maskList mask, gsOn d n = true

/-- A capture has 1 to 20 ms and at most 8 MiB (R212). -/
def CaptureFits (mask ms : Nat) (d : Dev) : Prop := 1 ≤ ms ∧ ms ≤ 20 ∧ snapTotal d mask ms ≤ 8388608

theorem streamsEnabled_iff : StreamsEnabled mask d ↔ ¬ (mask = 0 ∨ (maskList mask).any (fun n => !(gsOn d n)) = true) := by
  simp [StreamsEnabled]

theorem capCause_disabled (h : ¬ StreamsEnabled mask d) : capCause d mask ms = 0x04 :=
  if_pos (not_not.mp (mt streamsEnabled_iff.mpr h))

theorem capCause_enabled (h : StreamsEnabled mask d) :
    capCause d mask ms = if ms = 0 ∨ 20 < ms ∨ 8388608 < snapTotal d mask ms then 0x02 else 0x00 :=
  if_neg (streamsEnabled_iff.mp h)

theorem capCause_unfit (h : StreamsEnabled mask d) (hfit : ¬ CaptureFits mask ms d) : capCause d mask ms = 0x02 :=
  (capCause_enabled h).trans (if_pos (by unfold CaptureFits at hfit; omega))

theorem capCause_fits (h : StreamsEnabled mask d) (hfit : CaptureFits mask ms d) : capCause d mask ms = 0x00 :=
  (capCause_enabled h).trans (if_neg (by unfold CaptureFits at hfit; omega))

theorem bufferTakes_iff : BufferTakes d ↔ (snapState d == 0 || (snapState d == 3 && flag d GN_SNAP_CFG_overwrite)) = true := by
  simp [BufferTakes]

theorem snapCaptureF_busy (h : ¬ BufferTakes d) : snapCaptureF d = snapRefuse 0x03 d :=
  if_pos (by rw [Bool.eq_false_iff.mpr (mt bufferTakes_iff.mpr h), Bool.not_false])

theorem snapCaptureF_takes (h : BufferTakes d) : snapCaptureF d =
    let mask := fld d GN_SNAP_CFG_streams
    let ms := fld d GN_SNAP_CFG_ms
    if capCause d mask ms ≠ 0 then snapRefuse (capCause d mask ms) d
    else gnResult 0x00 2 (snapArm mask ms (fld d GN_SNAP_CFG_trig) (snapRegions mask ms d)) :=
  if_neg (by rw [bufferTakes_iff.mp h]; exact Bool.false_ne_true)

theorem snapCaptureF_refused {c : Nat} (h : BufferTakes d) (hc : capCause d (fld d GN_SNAP_CFG_streams) (fld d GN_SNAP_CFG_ms) = c)
    (hne : c ≠ 0) : snapCaptureF d = snapRefuse c d := by
  subst hc
  exact (snapCaptureF_takes h).trans (if_pos hne)

theorem snapCaptureF_armed (h : BufferTakes d) (hc : capCause d (fld d GN_SNAP_CFG_streams) (fld d GN_SNAP_CFG_ms) = 0) :
    snapCaptureF d = gnResult 0x00 2 (snapArm (fld d GN_SNAP_CFG_streams) (fld d GN_SNAP_CFG_ms) (fld d GN_SNAP_CFG_trig)
      (snapRegions (fld d GN_SNAP_CFG_streams) (fld d GN_SNAP_CFG_ms) d)) :=
  (snapCaptureF_takes h).trans (if_neg (not_not.mpr hc))

theorem snapToFree_same {st : Nat} (h : snapState d = st) : snapToFree st d = gnResult 0x00 2 (setF GN_STATUS_snap 0 d) := by
  simp only [snapToFree, h, if_true, beq_self_eq_true, doIf_true]

theorem snapToFree_other {st : Nat} (h : snapState d ≠ st) : snapToFree st d = gnResult 0x03 2 d := by
  simp only [snapToFree, h, if_false, beq_false_of_ne h, doIf_false]

/-- A trigger that has come begins the Armed capture. -/
theorem captureTriggerF_ready (hon : gnOn d = true) (hu : unitOut d 0x11 = false) (hst : snapState d = 1) (ht : trigReady d = true) :
    captureTriggerF d = if d.gn.capTrig = 3 then wakeStrobe d
      else snapStrobe 0x68 (if d.gn.trigNow = true then d.gn.capAt else now16 d) d :=
  if_neg (by simp [hon, hu, hst, ht])

theorem wakeStrobe_accepted (h : capCause d d.gn.capMask d.gn.capMs = 0) :
    wakeStrobe d = snapStrobe 0x78 (now16 d) (snapRegions d.gn.capMask d.gn.capMs d) := if_neg (not_not.mpr h)

theorem captureCompleteF_capturing (pins : List (List Byte)) (hon : gnOn d = true) (hst : snapState d = 2) :
    captureCompleteF pins d = raise 0x340A (d.gn.capMask + fld d GN_SNAP_STATUS_retakes * 256)
      (snapSettle (setF GN_STATUS_snap 3 (forEach (maskList d.gn.capMask) (fun n x => snapStamp n none x) (snapStore pins d)))) :=
  if_pos (by simp [hon, hst])

/-- The bulk channels that hold target 0x4 get err 6 (R215). -/
def holdersErr (d : Dev) : Dev :=
  forEach (List.range 8) (fun c x =>
    if bulkOwner x c ≠ 0 ∧ fld x (HIF_BULK_SEL_target c) = 4 then setF (HIF_BULK_STATUS_err c) 6 x else x) d

/-- The buffer armed once more with trigger 0 after a parity error, the retake counted (R215). -/
def rearmed (d : Dev) : Dev :=
  let d2 := snapSettle (setF GN_STATUS_snap 1 (raise 0x340B 256 d))
  satAdd GN_SNAP_STATUS_retakes 1 { d2 with gn := { d2.gn with capTrig := 0, trigNow := false, capWait := [] } }

theorem holdersErr_eq : forEach (List.range 8) (fun c x =>
    doIf (bulkOwner x c != 0 && fld x (HIF_BULK_SEL_target c) == 4) (setF (HIF_BULK_STATUS_err c) 6) x) d = holdersErr d := by
  simp only [holdersErr, doIf, Bool.and_eq_true, bne_iff_ne, beq_iff_eq]

theorem snapParityF_valid (hon : gnOn d = true) (hst : 3 ≤ snapState d) :
    snapParityF d = reportUnit 0x13 0x01 .corrected 0 0 (rearmed (holdersErr (endJobs d))) := by
  rw [← holdersErr_eq]
  exact if_neg (by simp [hon, hst])

end

/-! ### Acquisition jobs (R210, R216, R217) -/

section

variable {j : Nat} {d : Dev}

/-- The signal that a job's registers select is supported (R210). -/
def jobSignalOk (d : Dev) (j : Nat) : Bool :=
  let cfg := rd d (bank GN_ACQ_CFG j)
  signalOk (bitsOf cfg 0 2) (bitsOf cfg 2 4) (bitsOf cfg 6 8)

/-- A job at the end of the queue with the parameters of its registers; the first one runs (R216). -/
def jobQueued (j : Nat) (d : Dev) : Dev :=
  wrN (bank GN_ACQ_RES_MET j) ((if d.gn.jobs = [] then 2 else 1) * 2 ^ 28)
    { d with gn := { d.gn with
        jobs := d.gn.jobs ++ [j]
        jobPar := cput (fun _ => (0, 0)) d.gn.jobPar j ((rd d (bank GN_ACQ_CFG j)).toNat, (rd d (bank GN_ACQ_DOP j)).toNat) } }

theorem acqStartF_unsupported (hsig : jobSignalOk d (fld d GN_ACQ_SEL_job) = false) : acqStartF d = gnResult 0x06 3 d := by
  unfold jobSignalOk at hsig
  exact if_pos (by rw [hsig, Bool.not_false])

theorem acqStartF_supported (hj : fld d GN_ACQ_SEL_job = j) (hsig : jobSignalOk d j = true) :
    acqStartF d = if jobOk d j = false ∨ j ∈ d.gn.jobs then gnResult 0x05 3 d
      else snapSettle (gnResult 0x00 3 (jobQueued j d)) := by
  subst hj
  unfold jobSignalOk at hsig
  simp only [acqStartF, hsig, Bool.not_true, Bool.false_eq_true, if_false, jobQueued, List.isEmpty_iff, Bool.or_eq_true,
    Bool.not_eq_true', List.contains_iff_mem]

theorem acqAbortF_queued (hj : fld d GN_ACQ_SEL_job = j) (h : j ∈ d.gn.jobs) : acqAbortF d =
    gnResult 0x00 3 (setF ⟨bank GN_ACQ_RES_MET j, 28, 2⟩ 3 (setF ⟨bank GN_ACQ_RES_MET j, 26, 1⟩ 0 (dropJob j d))) := by
  subst hj
  exact if_pos (List.contains_iff_mem.mpr h)

theorem acqAbortF_notQueued (h : fld d GN_ACQ_SEL_job ∉ d.gn.jobs) : acqAbortF d = gnResult 0x00 3 d :=
  if_neg (mt List.contains_iff_mem.mp h)

theorem jobCompleteF_running (hon : gnOn d = true) (hu : unitOut d 0x11 = false) (h : d.gn.jobs.head? = some j) :
    jobCompleteF j d = jobPublish j (acqResult d (acqJob d j)) d :=
  if_pos (by simp [hon, hu, h])

end

/-- Settles O31: a capture by why it would be refused, the buffer's commands by its state, a job by whether it may start or stands in
the queue. -/
theorem gnssSnapshotCommandsComplete : Obligations.GnssSnapshotCommandsComplete := by
  delta Obligations.GnssSnapshotCommandsComplete
  refine ⟨?requests, ?buffer, ?jobs, ?result⟩
  case requests =>
    intro r s hg mask ms free streams fits refused
    refine ⟨fun hfree hen hfit => ?_, fun hbusy => ?_, fun hfree hdis => ?_, fun hfree hen hunfit => ?_, fun h => ?_, fun h => ?_,
      fun h => ?_, fun h => ?_⟩
    · exact runsTo_of_write (k := snapCaptureF) rfl hg (snapCaptureF_armed hfree (capCause_fits hen hfit))
    · exact runsTo_of_write (k := snapCaptureF) rfl hg (snapCaptureF_busy hbusy)
    · exact runsTo_of_write (k := snapCaptureF) rfl hg (snapCaptureF_refused hfree (capCause_disabled hdis) (by decide))
    · exact runsTo_of_write (k := snapCaptureF) rfl hg (snapCaptureF_refused hfree (capCause_unfit hen hunfit) (by decide))
    · exact runsTo_of_write (k := snapToFree 1) rfl hg (snapToFree_same h)
    · exact runsTo_of_write (k := snapToFree 1) rfl hg (snapToFree_other h)
    · exact runsTo_of_write (k := snapToFree 3) rfl hg (snapToFree_same h)
    · exact runsTo_of_write (k := snapToFree 3) rfl hg (snapToFree_other h)
  case buffer =>
    intro pins s hon
    refine ⟨fun hu hst ht => ⟨fun hplain => ?_, fun hwake hcause => ?_⟩, fun hst => ?_, fun hst => ?_⟩
    · exact runsTo_of_upd (f := captureTriggerF) rfl ((captureTriggerF_ready hon hu hst ht).trans (if_neg hplain))
    · exact runsTo_of_upd (f := captureTriggerF) rfl
        (((captureTriggerF_ready hon hu hst ht).trans (if_pos hwake)).trans (wakeStrobe_accepted hcause))
    · exact runsTo_of_upd (f := captureCompleteF pins) rfl (captureCompleteF_capturing pins hon hst)
    · exact runsTo_of_upd (f := snapParityF) rfl (snapParityF_valid hon hst)
  case jobs =>
    intro r s hg j cfg sig
    refine ⟨fun hsig => ?_, fun hsig hbad => ?_, fun hsig hok hnew => ?_, fun h => ?_, fun h => ?_⟩
    · exact runsTo_of_write (k := acqStartF) rfl hg (acqStartF_unsupported hsig)
    · exact runsTo_of_write (k := acqStartF) rfl hg ((acqStartF_supported rfl hsig).trans (if_pos hbad))
    · exact runsTo_of_write (k := acqStartF) rfl hg
        ((acqStartF_supported rfl hsig).trans (if_neg (not_or.mpr ⟨ne_false_of_eq_true hok, hnew⟩)))
    · exact runsTo_of_write (k := acqAbortF) rfl hg (acqAbortF_queued rfl h)
    · exact runsTo_of_write (k := acqAbortF) rfl hg (acqAbortF_notQueued h)
  case result =>
    intro j s hon hu hhead res det d1
    exact runsTo_of_upd (f := jobCompleteF j.val) rfl (jobCompleteF_running hon hu hhead)

end Sys2Proof.Proofs

/-! PROOFS about the tracking channels, the measurement epoch and the feed of GN (R218 to R229). -/

namespace Sys2Proof.Proofs

open Sys2Proof Sys2Proof.Machine Sys2Proof.Laws

/-! ### The start of a channel (R210, R222) -/

section

variable {c : Nat} {d : Dev}

/-- The signal that a channel's registers select is supported (R210). -/
def chSignalOk (d : Dev) (c : Nat) : Bool := signalOk (fld d (GN_CH_CFG_stream c)) (chSig d c) (fld d (GN_CH_CFG_prn c))

/-- By how many samples a channel's start index lies behind its stream; negative where it lies ahead. -/
def startLate (c : Nat) (d : Dev) : Int :=
  sx 64 (rd64 d (GN_STREAM_IDX_LO (fld d (GN_CH_CFG_stream c))) + 2 ^ 64 - (loadCh c d).idx)

/-- A start taken: its result, and whether its index lies behind. -/
def startTaken (c : Nat) (d : Dev) : Dev := gnResult 0x00 4 (setB (GN_CH_STATE_late c) (decide (0 < startLate c d)) d)

theorem startCh_unsupported (h : chSignalOk d c = false) : startCh c d = gnResult 0x06 4 d :=
  if_pos (by rw [← chSignalOk, h, Bool.not_false])

theorem startCh_supported (h : chSignalOk d c = true) : startCh c d =
    if unitOut d 0x12 = true then stallCh c (startTaken c d)
    else if startLate c d < 0 then gnCount (setF (GN_CH_STATE_state c) 1 (setGch c (loadCh c d) (startTaken c d)))
    else gnCount (setF (GN_CH_STATE_state c) 2
      (setGch c (advCh (sigChips (chSig d c)) (startLate c d).toNat (loadCh c d)) (startTaken c d))) :=
  if_neg (by rw [← chSignalOk, h]; exact Bool.false_ne_true)

theorem startCh_inService (h : chSignalOk d c = true) (hu : unitOut d 0x12 = false) : startCh c d =
    if startLate c d < 0 then gnCount (setF (GN_CH_STATE_state c) 1 (setGch c (loadCh c d) (startTaken c d)))
    else gnCount (setF (GN_CH_STATE_state c) 2
      (setGch c (advCh (sigChips (chSig d c)) (startLate c d).toNat (loadCh c d)) (startTaken c d))) :=
  (startCh_supported h).trans (if_neg (Bool.eq_false_iff.mp hu))

/-- An Armed channel runs from its start index. -/
theorem startIndexF_armed (hon : gnOn d = true) (h : fld d (GN_CH_STATE_state c) = 1) : startIndexF c d =
    idxReach (fld d (GN_CH_CFG_stream c)) (gch d c).idx (gnCount (setF (GN_CH_STATE_state c) 2
      (setGch c (applyCommits (sigChips (chSig d c)) (gch d c)) d))) :=
  if_pos (by simp [hon, h])

end

/-! ### Commits of the rates and of the code adjustment (R221) -/

section

variable {r : Req} {c : Nat} {v : Word} {d : Dev}

/-- A channel that takes commits is Armed or Running. -/
def TakesCommits (d : Dev) (c : Nat) : Prop := fld d (GN_CH_STATE_state c) = 1 ∨ fld d (GN_CH_STATE_state c) = 2

/-- The registers of a channel once a commit of `k` has been written. -/
def commitWritten (r : Req) (c : Nat) (k : NcoReg) (v : Word) (d : Dev) : Dev :=
  match k with
  | .krate => commit64 r (GN_CH_KRATE_HI c) v d
  | .crate => commit64 r (GN_CH_CRATE_HI c) v d
  | .kadj => fieldWrite r (GN_CH_KADJ c) v d

/-- A written commit noted for the next integration. -/
def commitNoted (c : Nat) (k : NcoReg) (v : Word) (d1 : Dev) : Dev :=
  setGch c (match k with
    | .krate => { gch d1 c with newRho := some (rd64 d1 (GN_CH_KRATE_LO c) % 2 ^ 48) }
    | .crate => { gch d1 c with newOm := some (sx 48 (rd64 d1 (GN_CH_CRATE_LO c))) }
    | .kadj => { gch d1 c with newAdj := some (sx 32 v.toNat) }) d1

theorem takesCommits_iff :
    TakesCommits d c ↔ (fld d (GN_CH_STATE_state c) == 1 || fld d (GN_CH_STATE_state c) == 2) = true := by
  simp [TakesCommits]

theorem ncoCommitF_eq (k : NcoReg) : ncoCommitF r c k v d =
    doIf (fld d (GN_CH_STATE_state c) == 1 || fld d (GN_CH_STATE_state c) == 2) (commitNoted c k v) (commitWritten r c k v d) := by
  cases k <;> rfl

/-- The register whose write commits (R221). -/
def commitReg (c : Nat) (k : NcoReg) : Nat :=
  match k with | .krate => GN_CH_KRATE_HI c | .crate => GN_CH_CRATE_HI c | .kadj => GN_CH_KADJ c

/-- A commit waits for the next integration of a channel that takes commits, and else stands in its register alone. -/
theorem ncoCommit_runsTo {c : Fin 192} {s : State} (k : NcoReg) (hg : granted s.toDev r (commitReg c.val k) = true) :
    (TakesCommits s.toDev c.val →
      runsTo (.ncoCommit r c k v) s (commitNoted c.val k v (commitWritten r c.val k v s.toDev))) ∧
    (¬ TakesCommits s.toDev c.val → runsTo (.ncoCommit r c k v) s (commitWritten r c.val k v s.toDev)) := by
  refine ⟨fun h => ?_, fun h => ?_⟩
  all_goals refine runsTo_of_write (a := commitReg c.val k) (k := ncoCommitF r c.val k v) rfl hg ((ncoCommitF_eq k).trans ?_)
  · rw [takesCommits_iff.mp h, doIf_true]
  · rw [Bool.eq_false_iff.mpr (mt takesCommits_iff.mpr h), doIf_false]

end

/-! ### Dumps (R218 to R222, R225) -/

section

variable {c k : Nat} {pins : List Byte} {d : Dev}

theorem dumpCh_closes (hk : toDump (chSig d c) (gch d c) = some k) (hlen : k ≤ pins.length) : dumpCh c pins d =
    dumpRecord c k (tapSums d c (gch d c) ((pins.take k).map
      (sampleVal (flag d (GN_STREAM_CFG_fmt (fld d (GN_CH_CFG_stream c))))))) d := by
  simp only [dumpCh, hk, decide_eq_true hlen, doIf_true]

/-- The registers that a dump of a channel may write: its C/N0, the write index of its ring and the sample index of its stream. -/
def dumpRegs (c : Nat) (d : Dev) : List Nat :=
  [GN_CH_CN0 c, GN_RING_WR (fld d (GN_CH_CFG_ring c)), GN_STREAM_IDX_LO (fld d (GN_CH_CFG_stream c)),
    GN_STREAM_IDX_LO (fld d (GN_CH_CFG_stream c)) + 4]

theorem rd_idxReach_other {n a : Nat} (i : Nat) (h : a ≠ GN_STREAM_IDX_LO n) (h4 : a ≠ GN_STREAM_IDX_LO n + 4) :
    rd (idxReach n i d) a = rd d a :=
  doIf_ind (P := fun e => rd e a = rd d a) _ _ _ (rd_wr64_other _ _ h h4) rfl

/-- The hidden state of GN is no register. -/
theorem rd_with_gn (g : Gn) (a : Nat) : rd { d with gn := g } a = rd d a := rfl

theorem rd_setGch (x : GCh) (a : Nat) : rd (setGch c x d) a = rd d a := rd_with_gn _ a

/-- Words written to RAM leave the registers alone. -/
theorem rd_putWords (base : Nat) (ws : List Nat) (a : Nat) : rd (putWords base ws d) a = rd d a :=
  keeps_foldlSnd (P := fun e => rd e a = rd d a) (fun _ _ _ h => h) rfl

theorem sameRegsBut_dumpRecord (iq : List Int) : sameRegsBut (dumpRegs c d) d (dumpRecord c k iq d) := by
  intro a ha hpmc
  simp only [dumpRegs, List.mem_cons, List.not_mem_nil, or_false, not_or] at ha
  obtain ⟨hcn0, hring, hlo, hhi⟩ := ha
  unfold dumpRecord
  extract_lets sig x r step pw y d1 d2 g2 d3
  have hshown : rd d1 a = rd d a := (rd_idxReach_other x.idx hlo hhi).trans (rd_setF_other _ _ hcn0)
  clear_value d1 y
  have hdropped : rd d3 a = rd d a := (rd_with_gn _ a).trans ((rd_setGch _ a).trans hshown)
  split
  · split
    · exact hdropped
    · exact (rd_raise _ _ _ hpmc).trans ((rd_with_gn _ a).trans hdropped)
  · exact (rd_setF_other _ _ hring).trans ((rd_putWords _ _ a).trans ((rd_setGch _ a).trans hshown))

theorem sameRegsBut_dumpCh : sameRegsBut (dumpRegs c d) d (dumpCh c pins d) := by
  unfold dumpCh
  split
  · exact fun _ _ _ => rfl
  · exact doIf_ind _ _ _ (sameRegsBut_dumpRecord _) (fun _ _ _ => rfl)

end

/-! ### The measurement epoch (R223, R224) -/

section

variable {n : Nat} {e : GEpoch} {d : Dev}

/-- An epoch whose interval of stream `n` is missing: half a sample period, coarse. -/
def epochCoarse (n : Nat) (e : GEpoch) (d : Dev) : Dev :=
  { d with gn := { d.gn with ep := some { e with
      x := cput (fun _ => none) e.x n (some (halfSample d n)), coarse := e.coarse ||| 2 ^ n } } }

theorem epochX_missing (hep : d.gn.ep = some e) (hx : cget (fun _ => none) e.x n = none) :
    epochX n (halfSample d n) true d = epochCoarse n e d := by
  simp only [epochX, hep, hx, Option.isSome_none, Bool.false_eq_true, if_false, if_true, epochCoarse]

theorem snapStamp_notAwaited {v : Option Int} (h : n ∉ d.gn.capWait) : snapStamp n v d = d := if_pos (by simpa using h)

theorem latchTimeoutF_missing (hgs : gsOn d n = true) (hep : d.gn.ep = some e) (hx : cget (fun _ => none) e.x n = none)
    (hlate : e.te + e.o + 200 * us16 < now16 d) (hwait : n ∉ d.gn.capWait) : latchTimeoutF n d = epochCoarse n e d := by
  have hstamp : ∀ b, doIf b (snapStamp n none) (epochCoarse n e d) = epochCoarse n e d := by
    intro b
    cases b
    · exact doIf_false _ _
    · exact (doIf_true _ _).trans (snapStamp_notAwaited hwait)
  have hdue : (gsOn d n && latchLate (e.te + e.o) d) = true := by simp [hgs, latchLate, hlate]
  simp only [latchTimeoutF, hep, hdue, doIf_true, epochX_missing hep hx, hstamp]

end

/-! ### The feed and the verdicts (R227 to R229) -/

section

variable {r : Req} {v : Word} {d : Dev}

theorem fwOnly_other (h : r ≠ .fw) (k : Dev → Dev) : fwOnly r k d = gnResult 0x08 5 d := if_neg h

theorem fwOnly_fw (k : Dev → Dev) : fwOnly .fw k d = k d := if_pos rfl

theorem gnFeed_late (h : d.gn.strobed = true) : gnFeed d = feedDrop 0x09 GN_FEED_CNT_late d := if_pos h

theorem gnFeed_noSlot (h : d.gn.strobed = false) (hslot : gnssSlot d = none) : gnFeed d = feedDrop 0x07 GN_FEED_CNT_refused d := by
  simp only [gnFeed, h, hslot, Bool.false_eq_true, if_false]

theorem gnFeed_forwards {n : Nat} (h : d.gn.strobed = false) (hslot : gnssSlot d = some n) : gnFeed d =
    gnResult 0x00 5 (feedSample n (rdS64 d GN_FEED_E_LO) (fld d GN_FEED_U_u + coarseAdd d)
      (flag d GN_FEED_U_suspect || osnmaSuspect d || dirSuspect d)
      (flag d GN_FEED_U_invalid || (maskList (fld d GN_FEED_U_streams)).any (gsLost d)) d) := by
  simp only [gnFeed, h, hslot, Bool.false_eq_true, if_false]

/-- A written verdict equals the published one. -/
def VerdictSame (v : Word) (d : Dev) : Prop := bitsOf v 0 2 = fld d GN_STATUS_osnma ∧ bitsOf v 2 2 = fld d GN_STATUS_dir

theorem verdictF_same (h : VerdictSame v d) : verdictF r v d = fieldWrite r GN_VERDICT v d := if_pos h

/-- A changed verdict where no Armed capture waits for one that fails (R213). -/
theorem verdictF_changed (h : ¬ VerdictSame v d) (htrig : snapState d ≠ 1 ∨ d.gn.capTrig ≠ 2) : verdictF r v d =
    raise 0x3409 (bitsOf v 0 2 + bitsOf v 2 2 * 4)
      (setF GN_STATUS_dir (bitsOf v 2 2) (setF GN_STATUS_osnma (bitsOf v 0 2) (fieldWrite r GN_VERDICT v d))) := by
  have hnone : ∀ b, (b && snapState d == 1 && d.gn.capTrig == 2) = false := by
    intro b
    rcases htrig with h | h <;> simp [h]
  refine (if_neg h).trans ?_
  simp only [hnone, doIf_false]

end

/-- Settles O32: a start by its signal, the correlators and its index; a commit by the channel's state; a feed and a verdict by their
requester and by what they find; a dump by the registers that its record writes. -/
theorem gnssTrackingCommandsComplete : Obligations.GnssTrackingCommandsComplete := by
  delta Obligations.GnssTrackingCommandsComplete
  refine ⟨?channels, ?commits, ?running, ?feed, ?verdict, ?dump⟩
  case channels =>
    intro r c s hg n ok x late d1
    refine ⟨fun hsig => ?_, fun hsig hu hahead => ?_, fun hsig hu hbehind => ?_, fun hsig hu => ?_, ?_⟩
    · exact runsTo_of_write (k := startCh c.val) rfl hg (startCh_unsupported hsig)
    · exact runsTo_of_write (k := startCh c.val) rfl hg ((startCh_inService hsig hu).trans (if_pos hahead))
    · exact runsTo_of_write (k := startCh c.val) rfl hg ((startCh_inService hsig hu).trans (if_neg (not_lt.mpr hbehind)))
    · exact runsTo_of_write (k := startCh c.val) rfl hg ((startCh_supported hsig).trans (if_pos hu))
    · exact runsTo_of_write (k := stopCh c.val) rfl hg rfl
  case commits =>
    intro r c v s run
    exact ⟨ncoCommit_runsTo .krate, ncoCommit_runsTo .crate, ncoCommit_runsTo .kadj⟩
  case running =>
    intro c pins idx n s hon
    refine ⟨fun h => ?_, fun k h hk hlen => ?_, fun h => ?_, fun htb hrate hte => ?_, fun e hgs hep hx hlate hwait => ?_, ?_⟩
    · exact runsTo_of_upd (f := startIndexF c.val) rfl (startIndexF_armed hon h)
    · exact runsTo_of_doIf (c := fun d => gnOn d && fld d (GN_CH_STATE_state c.val) == 2) rfl (by simp [gnOn, hon, h])
        (dumpCh_closes hk hlen)
    · exact runsTo_of_doIf_false (c := fun d => gnOn d && fld d (GN_CH_STATE_state c.val) == 2) (f := dumpCh c.val pins) rfl
        (by simp [h])
    · exact runsTo_of_doIf (c := fun d => gnOn d && domOn d .tb && decide (gnRate d ≠ 0) && decide (d.gn.nextTe ≤ now16 d)) rfl
        (by simp [gnOn, hon, htb, hrate, hte]) rfl
    · exact runsTo_of_doIf (c := gnOn) rfl hon (latchTimeoutF_missing hgs hep hx hlate hwait)
    · exact runsTo_of_doIf (c := gnOn) rfl hon rfl
  case feed =>
    intro r hi s hg d1
    have hfw : ∀ {e : Dev}, r = .fw → gnFeed d1 = e → runsTo (.gnFeedCommit r hi) s e := by
      rintro e rfl he
      exact runsTo_of_write (k := fwOnly .fw (gnFeedHi .fw hi)) rfl hg ((fwOnly_fw _).trans he)
    refine ⟨fun hr => ?_, fun hr hs => ?_, fun hr hs hslot => ?_, fun n hr hs hslot => ?_⟩
    · exact runsTo_of_write (k := fwOnly r (gnFeedHi r hi)) rfl hg (fwOnly_other hr _)
    · exact hfw hr (gnFeed_late hs)
    · exact hfw hr (gnFeed_noSlot hs hslot)
    · exact hfw hr (gnFeed_forwards hs hslot)
  case verdict =>
    intro r v s hg d1
    have hfw : ∀ {e : Dev}, r = .fw → verdictF r v s.toDev = e → runsTo (.verdictChange r v) s e := by
      rintro e rfl he
      exact runsTo_of_write (k := fwOnly .fw (verdictF .fw v)) rfl hg ((fwOnly_fw _).trans he)
    refine ⟨fun hr => ?_, fun hr ho hz => ?_, fun hr hchanged htrig => ?_⟩
    · exact runsTo_of_write (k := fwOnly r (verdictF r v)) rfl hg (fwOnly_other hr _)
    · exact hfw hr (verdictF_same ⟨ho, hz⟩)
    · exact hfw hr (verdictF_changed hchanged htrig)
  case dump => exact fun c pins d _ => sameRegsBut_dumpCh

end Sys2Proof.Proofs

/-! PROOFS about the port blocks: their commands, the latency calibration, and the frames of their MACs (R236 to R254, R280). -/

namespace Sys2Proof.Proofs

open Sys2Proof Sys2Proof.Machine Sys2Proof.Laws

/-! ### PORT_CMD (R236, R415) -/

section

variable {p i : Nat} {d : Dev}

/-- A block in Training or Up, in either subport (R236). -/
theorem portLatCal_trainingOrUp (h : subLink d p 0 = 2 ∨ subLink d p 0 = 3 ∨ subLink d p 1 = 3) :
    portLatCal p d = toCalibrating p d :=
  if_pos (by simpa [or_assoc] using h)

theorem portRestart_noSubport (h : i ∉ portSubs d p) : portRestart p i d = portResult p 4 d := if_pos (by simpa using h)

theorem portRestart_subport (h : i ∈ portSubs d p) :
    portRestart p i d = portResult p 0 (doIf (subLink d p i == 3) (leaveUp p i 2) d) := if_neg (by simpa using h)

theorem portRestart_up (h : i ∈ portSubs d p) (hup : subLink d p i = 3) :
    portRestart p i d = portResult p 0 (leaveUp p i 2 d) := by
  rw [portRestart_subport h, beq_iff_eq.mpr hup, doIf_true]

theorem portRestart_notUp (h : i ∈ portSubs d p) (hup : subLink d p i ≠ 3) : portRestart p i d = portResult p 0 d := by
  rw [portRestart_subport h, beq_false_of_ne hup, doIf_false]

theorem portReadmit_notFenced (h : flag d (PORT_STATUS_fenced p) = false) : portReadmit p d = portResult p 3 d :=
  if_pos (by rw [h, Bool.not_false])

theorem portReadmit_fenced (h : flag d (PORT_STATUS_fenced p) = true) : portReadmit p d =
    doIf (unitFenced d (0x18 + p)) (modUnit (0x18 + p) (fun x => { x with state := 3, byBlock := true }))
      (toCalibrating p (setF (PORT_STATUS_fenced p) 0 d)) :=
  if_neg (by rw [h]; exact Bool.false_ne_true)

end

/-! ### The latency calibration (R250) -/

section

variable {p j : Nat} {rs : List Int} {l : List Nat} {d : Dev}

/-- R of lane `j` as the loopback measured it. -/
def laneMean (p : Nat) (rs : List Int) (j : Nat) : Int := rs.getD j (laneR0 p j)

/-- By how much R of lane `j` departs from R0. -/
def laneOff (p : Nat) (rs : List Int) (j : Nat) : Int := laneMean p rs j - laneR0 p j

/-- The lanes of a block whose R departs too far from R0. -/
def failingLanes (p : Nat) (rs : List Int) (d : Dev) : List Nat :=
  (portLanes d p).filter (fun j => decide (13107 < (laneOff p rs j).natAbs))

/-- The latencies set from the lanes that pass. -/
def lanesSet (p : Nat) (rs : List Int) (d : Dev) : Dev := forEach (portLanes d p) (fun j x => laneLat p j (laneMean p rs j) x) d

/-- The unit of a block is in its readmission test (R415). -/
def portTesting (p : Nat) (d : Dev) : Bool := (funit d (0x18 + p)).state == 3

/-- The calibration passed: Training, result 0, and a readmission test ended. -/
def latencyPassed (p : Nat) (d : Dev) : Dev :=
  doIf (portTesting p d) (admitUnit (0x18 + p)) (refreshCal p (portResult p 0
    (forEach (portSubs d p) (fun i x => setF (PORT_SUB_STATUS_link p i) 2 x) d)))

/-- The calibration failed: a readmission test ended, event 0x005 of each lane of `bad`, and the block fenced on a report with `par`. -/
def latencyFailed (p : Nat) (rs : List Int) (bad : List Nat) (par : Nat) (d : Dev) : Dev :=
  let d2 := doIf (portTesting p d) (modUnit (0x18 + p) (fun x => { x with state := 2, byBlock := false })) d
  let d3 := forEach bad (fun k x => raise ((0x10 + p) * 1024 + 5) (latParam (laneNo x p k) (laneOff p rs k)) x) d2
  fenceUnit (0x18 + p) 0x07 (fencePort p 1 (portResult p 2
    (reportUnit (0x18 + p) 0x07 .contained ((0x10 + p) * 1024 + 5) par d3)))

theorem latencyDone_passes (hon : portOn d p = true) (hst : subLink d p 0 = 1) (h : failingLanes p rs d = []) :
    latencyDone p rs d = latencyPassed p (lanesSet p rs d) := by
  unfold failingLanes laneOff laneMean at h
  simp only [latencyDone, hon, hst, h, Bool.not_true, ne_eq, not_true_eq_false]
  rfl

theorem latencyDone_fails (hon : portOn d p = true) (hst : subLink d p 0 = 1) (h : failingLanes p rs d = j :: l) :
    latencyDone p rs d =
      latencyFailed p rs (failingLanes p rs d) (latParam (laneNo d p j) (laneOff p rs j)) (lanesSet p rs d) := by
  rw [h]
  unfold failingLanes laneOff laneMean at h
  simp only [latencyDone, hon, hst, h, Bool.not_true, ne_eq, not_true_eq_false]
  rfl

end

/-! ### The link of a subport (R236) -/

section

variable {p i : Nat} {d : Dev}

/-- What LINK_UP does with a subport of a device that has power. -/
def portLinkUp (p i : Nat) (an : Bool) (d : Dev) : Dev :=
  doIf (portOn d p && (portSubs d p).contains i && subLink d p i == 2) (enterUp p i an) d

/-- What LINK_DOWN does with a subport of a device that has power. -/
def portLinkDown (p i : Nat) (d : Dev) : Dev := doIf (portOn d p && subLink d p i == 3) (leaveUp p i 2) d

theorem portLinkUp_trained (an : Bool) (hon : portOn d p = true) (hsub : i ∈ portSubs d p) (h : subLink d p i = 2) :
    portLinkUp p i an d = enterUp p i an d := if_pos (by simp [hon, hsub, h])

theorem portLinkDown_up (hon : portOn d p = true) (h : subLink d p i = 3) : portLinkDown p i d = leaveUp p i 2 d :=
  if_pos (by simp [hon, h])

theorem portLinkDown_notUp (h : subLink d p i ≠ 3) : portLinkDown p i d = d := if_neg (by simp [h])

end

/-! ### A frame at a receiver (R237 to R241), of a port or of the drive segment -/

section

variable {p i out : Nat} {c : RxCfg} {pool : Bool} {stamp : Nat × Nat × Nat} {o : RxObs} {d : Dev}

/-- A frame that comes whole, with `k` buffers. -/
def wholePart (stamp : Nat × Nat × Nat) (o : RxObs) (k : Nat) : RxPart :=
  { bytes := o.bytes, start := o.startOk, err := o.err, tRx := stamp.1, calSeq := stamp.2.1, steps := stamp.2.2, held := k
    done := false }

/-- A whole frame that fails a test takes no buffer. -/
theorem rxTake_wholeFails (hpart : (psub d p i).part = none) (hmore : o.more = false)
    (hout : rxOutcome c o.startOk o.err false 0 o.bytes = some out) (hne : out ≠ 1) :
    rxTake p i c pool stamp o d = (some (out, wholePart stamp o 0), modPsub p i (fun z => { z with part := none }) d) := by
  simp [rxTake, hpart, hmore, hout, wholePart]

/-- A whole frame that passes takes its buffers from the pool. -/
theorem rxTake_wholePasses (hpart : (psub d p i).part = none) (hmore : o.more = false)
    (hout : rxOutcome c o.startOk o.err false 0 o.bytes = some 1) :
    rxTake p i c true stamp o d = (some (1, wholePart stamp o (bufsAt o.bytes.length c.max)),
      modPsub p i (fun z => { z with part := none }) (bufMove SVC_BUF_FREE (rxTerm p) (bufsAt o.bytes.length c.max) d)) := by
  simp [rxTake, hpart, hmore, hout, wholePart]

end

/-! ### A frame on a subport that is Up (R237, R244, R254) -/

section

variable {p i out : Nat} {o : RxObs} {x : RxPart} {d : Dev}

/-- The FEC codewords that came with the bytes counted (R254). -/
def fecCounted (p i : Nat) (o : RxObs) (d : Dev) : Dev :=
  doIf (decide (0 < o.fecU)) (portCnt p i 30 o.fecU) (doIf (decide (0 < o.fecC)) (portCnt p i 29 o.fecC) d)

/-- What a frame that starts now is stamped with: its timestamp, cal_seq and the step count (R244). -/
def startStamp (p i : Nat) (o : RxObs) (d : Dev) : Nat × Nat × Nat :=
  (rxStamp d p i o.lane o.ui o.code, rdN d MEAS_CAL_SEQ, stepMod d)

/-- The bytes joined to the frame being received on a subport. -/
def portTake (p i : Nat) (o : RxObs) (d : Dev) : Option (Nat × RxPart) × Dev :=
  rxTake p i (portRxCfg d p i) true (startStamp p i o d) o d

/-- A whole frame that passes at a port holds its buffers in the port's term of the ledger (R239, R310). -/
theorem portTake_wholePasses (hp : p ≠ 8) (hpart : (psub d p i).part = none) (hmore : o.more = false)
    (hout : rxOutcome (portRxCfg d p i) o.startOk o.err false 0 o.bytes = some 1) :
    portTake p i o d = (some (1, wholePart (startStamp p i o d) o (bufsAt o.bytes.length (portRxCfg d p i).max)),
      modPsub p i (fun z => { z with part := none })
        (bufMove SVC_BUF_FREE (PORT_BUF_RX p) (bufsAt o.bytes.length (portRxCfg d p i).max) d)) := by
  have hterm : rxTerm p = PORT_BUF_RX p := if_neg hp
  rw [portTake, rxTake_wholePasses hpart hmore hout, hterm]

/-- A subport that takes the bytes of frames: its block is on, it exists, and it is Up. -/
def Receives (p i : Nat) (d : Dev) : Prop := portOn d p = true ∧ i ∈ portSubs d p ∧ subLink d p i = 3

theorem portReceive_undecided (hr : Receives p i d) (h : (portTake p i o (fecCounted p i o d)).1 = none) :
    portReceive p i o d = (portTake p i o (fecCounted p i o d)).2 := by
  obtain ⟨hon, hsub, hup⟩ := hr
  unfold portTake startStamp fecCounted at h
  simp [portReceive, hon, hsub, hup, h, portTake, startStamp, fecCounted]

theorem portReceive_decided {e : Dev} (hr : Receives p i d) (h : portTake p i o (fecCounted p i o d) = (some (out, x), e)) :
    portReceive p i o d = doIf (decide (out = 1)) (portAccept p i x) (rxCount p i out e) := by
  obtain ⟨hon, hsub, hup⟩ := hr
  unfold portTake startStamp fecCounted at h
  simp [portReceive, hon, hsub, hup, h]

theorem portReceive_rejects {e : Dev} (hr : Receives p i d) (h : portTake p i o (fecCounted p i o d) = (some (out, x), e))
    (hne : out ≠ 1) : portReceive p i o d = rxCount p i out e := by
  rw [portReceive_decided hr h, decide_eq_false hne, doIf_false]

theorem portReceive_accepts {e : Dev} (hr : Receives p i d) (h : portTake p i o (fecCounted p i o d) = (some (1, x), e)) :
    portReceive p i o d = portAccept p i x (rxCount p i 1 e) := by
  rw [portReceive_decided hr h, decide_eq_true rfl, doIf_true]

end

/-! ### The oldest frame of a MAC (R242, R280) -/

section

variable {p i : Nat} {o : TxObs} {f : TxFrame} {fs : List TxFrame} {d : Dev}

/-- The oldest frame taken out of a MAC. -/
def macPopped (p i : Nat) (fs : List TxFrame) (d : Dev) : Dev := modPsub p i (fun x => { x with mac := fs }) d

/-- A frame was built before a step: it carries a step count, and not the present one (R280). -/
def Stale (f : TxFrame) (d : Dev) : Prop := ∃ n, f.steps = some n ∧ n ≠ stepMod d

theorem transmit_empty (h : (psub d p i).mac = []) : transmit p i o d = d := by simp only [transmit, h]

theorem transmit_stale (h : (psub d p i).mac = f :: fs) (hready : txReady d p i = true) (hst : Stale f (macPopped p i fs d)) :
    transmit p i o d = svcCnt 21 1 (txFree f (macPopped p i fs d)) := by
  obtain ⟨n, hn, hne⟩ := hst
  unfold macPopped at hne
  simp [transmit, h, hready, hn, hne, macPopped]

theorem transmit_current (h : (psub d p i).mac = f :: fs) (hready : txReady d p i = true)
    (hst : f.steps = none ∨ f.steps = some (stepMod (macPopped p i fs d))) : transmit p i o d =
      if p = 8 then dsgTransmit f o (macPopped p i fs d) else portTransmit p i f o (macPopped p i fs d) := by
  unfold macPopped at hst
  rcases hst with hn | hn <;> simp [transmit, h, hready, hn, macPopped]

end

/-- Settles O33: a command by the block's link states, a calibration by its failing lanes, received bytes by the outcome that they decide,
and a frame to be sent by its step count and its MAC. -/
theorem portCommandsComplete : Obligations.PortCommandsComplete := by
  delta Obligations.PortCommandsComplete
  refine ⟨?commands, ?calibration, ?links, ?receive, ?transmit⟩
  case commands =>
    intro r p s hg
    refine ⟨fun h => ?_, fun i hi => ⟨fun hup => ?_, fun hup => ?_⟩, fun i hi => ?_, fun h => ?_, fun h => ?_⟩
    · exact runsTo_of_write (k := portLatCal p.val) rfl hg (portLatCal_trainingOrUp h)
    · exact runsTo_of_write (k := portRestart p.val i.val) rfl hg (portRestart_up hi hup)
    · exact runsTo_of_write (k := portRestart p.val i.val) rfl hg (portRestart_notUp hi hup)
    · exact runsTo_of_write (k := portRestart p.val i.val) rfl hg (portRestart_noSubport hi)
    · exact runsTo_of_write (k := portReadmit p.val) rfl hg (portReadmit_notFenced h)
    · exact runsTo_of_write (k := portReadmit p.val) rfl hg (portReadmit_fenced h)
  case calibration =>
    intro p rs s hp hon hst rOf bad d1 testing
    refine ⟨fun hpass => ?_, fun j l hfail => ?_⟩
    · exact runsTo_of_powered (latencyDone p.val rs) rfl hp (latencyDone_passes hon hst hpass)
    · exact runsTo_of_powered (latencyDone p.val rs) rfl hp (latencyDone_fails hon hst hfail)
  case links =>
    intro p i an s hp hon
    refine ⟨fun hi htrained => ?_, fun hup => ?_, fun hup => ?_⟩
    · exact runsTo_of_powered (portLinkUp p.val i.val an) rfl hp (portLinkUp_trained an hon hi htrained)
    · exact runsTo_of_powered (portLinkDown p.val i.val) rfl hp (portLinkDown_up hon hup)
    · exact runsTo_of_powered (portLinkDown p.val i.val) rfl hp (portLinkDown_notUp hup)
  case receive =>
    intro p i o s hp hon hsub hup d0 c t r
    have hr : Receives p.val i.val s.toDev := ⟨hon, hsub, hup⟩
    have hrun : ∀ {e : Dev}, portReceive p.val i.val o s.toDev = e → runsTo (.rxFrame p i o) s e :=
      runsTo_of_powered (portReceive p.val i.val o) rfl hp
    refine ⟨fun h => ?_, fun out x h hne => ?_, fun x h => ?_, ?whole⟩
    · exact hrun (portReceive_undecided hr h)
    · exact hrun (portReceive_rejects hr (Prod.ext h rfl) hne)
    · exact hrun (portReceive_accepts hr (Prod.ext h rfl))
    case whole =>
      intro hpart hmore d1
      refine ⟨fun out hout hne => ?_, fun hout => ?_⟩
      · exact hrun (portReceive_rejects hr (rxTake_wholeFails hpart hmore hout hne) hne)
      · have hdone := portReceive_accepts hr (portTake_wholePasses p.isLt.ne hpart hmore hout)
        exact hrun hdone
  case transmit =>
    intro p i o s hp
    have hrun : ∀ {e : Dev}, transmit p.val i.val o s.toDev = e → runsTo (.txFrame p i o) s e :=
      runsTo_of_powered (transmit p.val i.val o) rfl hp
    refine ⟨fun h => hrun (transmit_empty h), ?_⟩
    intro f fs h hready d1
    refine ⟨fun hst => ?_, fun hst => ⟨fun hport => ?_, fun hdsg => ?_⟩⟩
    · exact hrun (transmit_stale h hready hst)
    · exact hrun ((transmit_current h hready hst).trans (if_neg hport.ne))
    · exact hrun ((transmit_current h hready hst).trans (if_pos hdsg))

end Sys2Proof.Proofs

/-! PROOFS about the link of the drive segment: its modes, beacons, transmit opportunities and symbol clock (R257 to R262). -/

namespace Sys2Proof.Proofs

open Sys2Proof Sys2Proof.Machine Sys2Proof.Laws

/-! ### Writes of DSG_CFG (R259) -/

section

variable {row : RegRow} {v : Word} {d : Dev}

/-- The DSG_CFG that a write of `v` asks for. -/
def cfgAsked (row : RegRow) (v : Word) (d : Dev) : Word := codeWrite row (windowOpen d) (rd d DSG_CFG) v

/-- A DSG_CFG waits for the end of the cycle in progress. -/
def cfgWaits (w : Word) (d : Dev) : Dev := { d with dsg := { d.dsg with next := some w } }

theorem dsgModeF_refused (hrow : rowOf DSG_CFG = some row) (h : dsgCfgOk (cfgAsked row v d) = false) :
    dsgModeF v d = setF DSG_STATUS_cause 1 d := by
  unfold cfgAsked at h
  simp [dsgModeF, hrow, h, dsgCause]

theorem dsgModeF_outOfService (hrow : rowOf DSG_CFG = some row) (h : dsgCfgOk (cfgAsked row v d) = true)
    (hu : unitOut d 0x20 = true) : dsgModeF v d = setF DSG_STATUS_cause 0 (wr DSG_CFG (cfgAsked row v d) d) := by
  unfold cfgAsked at h
  simp [dsgModeF, hrow, h, hu, dsgCause, cfgAsked]

/-- A permitted write with unit 0x20 in service, by whether a cycle is in progress. -/
theorem dsgModeF_inService (hrow : rowOf DSG_CFG = some row) (h : dsgCfgOk (cfgAsked row v d) = true)
    (hu : unitOut d 0x20 = false) : dsgModeF v d = if d.dsg.cycle = true
      then setF DSG_STATUS_cause 0 (cfgWaits (cfgAsked row v d) d)
      else setF DSG_STATUS_cause 0 (dsgApply (cfgAsked row v d) d) := by
  unfold cfgAsked at h
  simp [dsgModeF, hrow, h, hu, dsgCause, cfgAsked, cfgWaits, modDsg]

end

/-! ### Beacons (R260, R261) -/

section

variable {d : Dev}

/-- The segment works: it has power, its link is not Off, and unit 0x20 is in service. -/
def SegmentWorks (d : Dev) : Prop := d.pwr.powered = true ∧ dsgLink d ≠ 0 ∧ unitOut d 0x20 = false

/-- The beacon period that is used. -/
def gridPeriod (d : Dev) : Nat := atLeast1 (fld d DSG_BCN_PERIOD_period)

/-- The grid instants that passed since the last beacon, with bcn_lock (R261). -/
def missedInstants (d : Dev) : Nat :=
  match d.dsg.beaconAt with
  | some b =>
    if flag d DSG_CFG_bcn_lock = true then
      gridBetween (gridPeriod d) ((now16 d : Int) + nearDiff b (near d)).toNat (now16 d) else 0
  | none => 0

/-- A beacon sent now: a cycle in progress, and the beacon counted. -/
def beaconSent (d : Dev) : Dev := dsgCnt 17 1 { d with dsg := { d.dsg with cycle := true, beaconAt := some (near d) } }

/-- `n` missed grid instants counted. -/
def missesCounted (n : Nat) (d : Dev) : Dev := if n = 0 then d else dsgCnt 18 n d

/-- The cycle of a coordinator begins: the link in PLCA, the ledger at node_count. -/
def cycleBegun (d : Dev) : Dev := dsgCoord (wrN DSG_TO_LEDGER (fld d DSG_CFG_node_count) (dsgLinkTo 2 d))

theorem doIf_pos_eq_missesCounted (n : Nat) (d : Dev) : doIf (decide (0 < n)) (dsgCnt 18 n) d = missesCounted n d := by
  rw [doIf_decide, missesCounted]
  simp only [Nat.pos_iff_ne_zero, ite_not]

theorem beaconStart_coordinator (hw : SegmentWorks d) (hm : dsgMode d = 1) (hc : d.dsg.cycle = false)
    (hg : gridReached d (gridPeriod d) = true) :
    beaconStart d = cycleBegun (missesCounted (missedInstants d) (beaconSent d)) := by
  obtain ⟨hp, hl, hu⟩ := hw
  have hstart : beaconStart d = cycleBegun (doIf (decide (0 < missedInstants d)) (dsgCnt 18 (missedInstants d)) (beaconSent d)) := by
    refine if_neg ?_
    unfold gridPeriod at hg
    simp [dsgAlive, hp, hm, hl, hu, hc, hg]
  rw [hstart, doIf_pos_eq_missesCounted]

/-- A beacon stamped, and the cycle before it ended. -/
def beaconStamped (code cyc : Nat) (d : Dev) : Dev := cycleEnds (wr64 DSG_BCN_RX_LO (dsgRx d (dsgStamp d code cyc)) d)

theorem beaconReceived_follower (code cyc : Nat) (hw : SegmentWorks d) (hm : dsgMode d = 2) : beaconReceived code cyc d =
    doIf d.dsg.next.isNone (fun x => dsgLinkTo 2 (modDsg (fun y => { y with cycle := true }) x)) (beaconStamped code cyc d) := by
  obtain ⟨hp, hl, hu⟩ := hw
  exact if_neg (by simp [dsgAlive, hp, hm, hl, hu])

theorem beaconReceived_nextCycle {code cyc : Nat} (hw : SegmentWorks d) (hm : dsgMode d = 2) (hn : d.dsg.next = none) :
    beaconReceived code cyc d = dsgLinkTo 2 (modDsg (fun y => { y with cycle := true }) (beaconStamped code cyc d)) := by
  rw [beaconReceived_follower code cyc hw hm, Option.isNone_iff_eq_none.mpr hn, doIf_true]

theorem beaconReceived_cfgWaited {code cyc : Nat} (hw : SegmentWorks d) (hm : dsgMode d = 2) (hn : d.dsg.next ≠ none) :
    beaconReceived code cyc d = beaconStamped code cyc d := by
  rw [beaconReceived_follower code cyc hw hm, Option.isNone_eq_false_iff.mpr (Option.isSome_iff_ne_none.mpr hn), doIf_false]

end

/-! ### Transmit opportunities and their ledger (R262) -/

section

variable {k : ToKind} {d : Dev}

/-- The term of the ledger that an opportunity of kind `k` joins. -/
def fateTerm (k : ToKind) : Fld :=
  match k with
  | .own => DSG_TO_LEDGER_own
  | .other => DSG_TO_LEDGER_other
  | .silent => DSG_TO_LEDGER_silent

/-- One opportunity taken from `remaining`. -/
def oneFewer (d : Dev) : Dev := setF DSG_TO_LEDGER_remaining (fld d DSG_TO_LEDGER_remaining - 1) d

/-- One opportunity moved from `remaining` to its fate. -/
def opportunityMoved (k : ToKind) (d : Dev) : Dev := wrapAdd (fateTerm k) 1 (oneFewer d)

theorem opportunity_none (h : d.dsg.cycle = false ∨ fld d DSG_TO_LEDGER_remaining = 0) : opportunity k d = d :=
  if_pos (by simpa using h)

theorem opportunity_moves (hc : d.dsg.cycle = true) (h : fld d DSG_TO_LEDGER_remaining ≠ 0) :
    opportunity k d = doIf (fld d DSG_TO_LEDGER_remaining == 1) cycleEnds (opportunityMoved k d) :=
  if_neg (by simp [hc, h])

theorem opportunity_notLast (hc : d.dsg.cycle = true) (h : 1 < fld d DSG_TO_LEDGER_remaining) :
    opportunity k d = opportunityMoved k d := by
  rw [opportunity_moves hc (by omega), beq_false_of_ne (by omega), doIf_false]

theorem opportunity_last (hc : d.dsg.cycle = true) (h : fld d DSG_TO_LEDGER_remaining = 1) :
    opportunity k d = cycleEnds (opportunityMoved k d) := by
  rw [opportunity_moves hc (by omega), beq_iff_eq.mpr h, doIf_true]

theorem fld_fateTerm_oneFewer (k : ToKind) (d : Dev) : fld (oneFewer d) (fateTerm k) = fld d (fateTerm k) :=
  fld_setF_other _ _ (by cases k <;> decide)

theorem fld_opportunityMoved_fate (h : fld d (fateTerm k) < 255) :
    fld (opportunityMoved k d) (fateTerm k) = fld d (fateTerm k) + 1 := by
  have hin : (fateTerm k).lo + (fateTerm k).wd ≤ 32 := by cases k <;> decide
  have hwd : (fateTerm k).wd = 8 := by cases k <;> rfl
  rw [opportunityMoved, wrapAdd, fld_setF_same _ _ _ hin, fld_fateTerm_oneFewer, hwd]
  omega

theorem fld_opportunityMoved_otherFate {j : ToKind} (hj : j ≠ k) :
    fld (opportunityMoved k d) (fateTerm j) = fld d (fateTerm j) := by
  have hapart : (fateTerm j).lo + (fateTerm j).wd ≤ (fateTerm k).lo ∨ (fateTerm k).lo + (fateTerm k).wd ≤ (fateTerm j).lo := by
    revert hj
    cases j <;> cases k <;> decide
  rw [opportunityMoved, wrapAdd, fld_setF_other _ _ (.inr hapart), fld_fateTerm_oneFewer]

theorem fld_opportunityMoved_remaining (h : 0 < fld d DSG_TO_LEDGER_remaining) :
    fld (opportunityMoved k d) DSG_TO_LEDGER_remaining + 1 = fld d DSG_TO_LEDGER_remaining := by
  have hlt : fld d DSG_TO_LEDGER_remaining < 2 ^ 8 := Nat.mod_lt _ (by decide)
  have hmod : fld (opportunityMoved k d) DSG_TO_LEDGER_remaining = (fld d DSG_TO_LEDGER_remaining - 1) % 2 ^ 8 := by
    rw [opportunityMoved, wrapAdd, fld_setF_other _ _ (by cases k <;> decide)]
    exact fld_setF_same _ _ _ (by decide)
  omega

/-- The four terms of the ledger together. -/
def ledgerSum (d : Dev) : Nat :=
  fld d (fateTerm .own) + fld d (fateTerm .other) + fld d (fateTerm .silent) + fld d DSG_TO_LEDGER_remaining

theorem ledgerSum_opportunityMoved (h : 0 < fld d DSG_TO_LEDGER_remaining) (hf : fld d (fateTerm k) < 255) :
    ledgerSum (opportunityMoved k d) = ledgerSum d := by
  have hleft := fld_opportunityMoved_remaining (k := k) h
  have hfate : ∀ j, fld (opportunityMoved k d) (fateTerm j) = fld d (fateTerm j) + if j = k then 1 else 0 := by
    intro j
    by_cases hj : j = k
    · rw [hj, fld_opportunityMoved_fate hf, if_pos rfl]
    · rw [fld_opportunityMoved_otherFate hj, if_neg hj, Nat.add_zero]
  simp only [ledgerSum, hfate]
  cases k <;> simp only [reduceIte, reduceCtorEq] <;> omega

end

/-! ### Link states and the symbol clock (R257, R258, R260) -/

section

variable {d : Dev}

/-- What PLCA_FALLBACK_TIMEOUT acts on: a follower in PLCA. -/
def fallsBack (d : Dev) : Bool := dsgAlive d && dsgMode d == 2 && dsgLink d == 2

theorem clockSource_follows (hp : d.pwr.powered = true) (h : flag d DSG_STATUS_lw_src = domOn d .tb) :
    clockSource d = dsgLocked (setF DSG_STATUS_realigning 1 (setB DSG_STATUS_lw_src (!(domOn d .tb)) d)) :=
  if_neg (by simp [dsgAlive, hp, h])

theorem clockSource_same (h : flag d DSG_STATUS_lw_src ≠ domOn d .tb) : clockSource d = d :=
  if_pos (by simp [Bool.eq_not.mpr h])

/-- The symbol clock reaches its new grid phase. -/
def realignEnded (d : Dev) : Dev := raise 0x6009 0 (dsgLocked (setF DSG_STATUS_realigning 0 d))

/-- What DSG_REALIGN_DONE does with a device that has power. -/
def realignDone (d : Dev) : Dev := doIf (flag d DSG_STATUS_realigning && (!(domOn d .tb) || dsgFollows d)) realignEnded d

theorem realignDone_ends (h : flag d DSG_STATUS_realigning = true) (hf : domOn d .tb = false ∨ dsgFollows d = true) :
    realignDone d = realignEnded d :=
  if_pos (by simpa [h] using hf)

end

/-- Settles O34: a DSG_CFG by what it asks for and whether a cycle is in progress, a beacon by the role, an opportunity by how many
remain and by its fate, the others each by its condition. -/
theorem driveSegmentLinkCommandsComplete : Obligations.DriveSegmentLinkCommandsComplete := by
  delta Obligations.DriveSegmentLinkCommandsComplete
  refine ⟨?modes, ?beacons, ?opportunities, ?links, ?ledger⟩
  case modes =>
    intro r v row s hg hrow w
    have hrun : ∀ {e : Dev}, dsgModeF v s.toDev = e → runsTo (.dsgModeWrite r v) s e :=
      runsTo_of_write (k := dsgModeF v) rfl hg
    refine ⟨fun h => hrun (dsgModeF_refused hrow h), fun h hu => hrun (dsgModeF_outOfService hrow h hu), fun h hu => ?_⟩
    have hin := dsgModeF_inService hrow h hu
    exact ⟨fun hc => hrun (hin.trans (if_pos hc)), fun hc => hrun (hin.trans (if_neg (ne_true_of_eq_false hc)))⟩
  case beacons =>
    intro s hp hu hl per
    have hw : SegmentWorks s.toDev := ⟨hp, hl, hu⟩
    refine ⟨fun hm hc hg => ?_, fun code cyc hm => ⟨fun hn => ?_, fun hn => ?_⟩⟩
    · exact runsTo_of_upd (f := beaconStart) rfl (beaconStart_coordinator hw hm hc hg)
    · exact runsTo_of_upd (f := beaconReceived code cyc) rfl (beaconReceived_nextCycle hw hm hn)
    · exact runsTo_of_upd (f := beaconReceived code cyc) rfl (beaconReceived_cfgWaited hw hm hn)
  case opportunities =>
    intro k s hp left f d1
    have hrun : ∀ {e : Dev}, opportunity k s.toDev = e → runsTo (.dsgTransmitOpportunity k) s e :=
      runsTo_of_powered (opportunity k) rfl hp
    exact ⟨fun hc h => hrun (opportunity_notLast hc h), fun hc h => hrun (opportunity_last hc h), fun h => hrun (opportunity_none h)⟩
  case links =>
    intro s hp
    refine ⟨fun hm hl => ?_, fun hm hl => ?_, fun hl => ?_, fun h => ?_, fun h => ?_, fun hr hf => ?_, fun hl => ?_⟩
    · exact runsTo_of_doIf (c := fallsBack) rfl (by simp [fallsBack, dsgAlive, hp, hm, hl]) rfl
    · exact runsTo_of_doIf (c := fun d => dsgAlive d && dsgMode d == 3 && dsgLink d == 1) rfl (by simp [dsgAlive, hp, hm, hl]) rfl
    · exact runsTo_of_doIf_false (c := fallsBack) rfl (by simp [fallsBack, hl])
    · exact runsTo_of_upd (f := clockSource) rfl (clockSource_follows hp h)
    · exact runsTo_of_upd (f := clockSource) rfl (clockSource_same h)
    · exact runsTo_of_powered realignDone rfl hp (realignDone_ends hr hf)
    · exact runsTo_of_doIf (c := fun d => dsgAlive d && decide (2 ≤ dsgLink d)) rfl (by simp [dsgAlive, hp, hl]) rfl
  case ledger =>
    intro k d hleft f e hf
    exact ⟨fld_opportunityMoved_fate hf, fld_opportunityMoved_remaining hleft, ledgerSum_opportunityMoved hleft hf⟩

end Sys2Proof.Proofs

/-! PROOFS about the frames of the drive segment: reception, echo calibration, the launch queue, and the Low water sender and
responder (R263 to R268, R271, R273). -/

namespace Sys2Proof.Proofs

open Sys2Proof Sys2Proof.Machine Sys2Proof.Laws

/-! ### A received frame (R263, R264, R271) -/

section

variable {o : RxObs} {out : Nat} {x : RxPart} {d e : Dev}

/-- What a frame that starts now on the segment is stamped with. -/
def segStamp (o : RxObs) (d : Dev) : Nat × Nat × Nat := (dsgRx d (dsgStamp d o.code o.ui), rdN d MEAS_CAL_SEQ, stepMod d)

/-- With PD_PKT on, the bytes of a frame take buffers from the pool. -/
theorem dsgTake_pooled (hpkt : domOn d .pkt = true) : dsgTake o d = rxTake 8 0 (dsgRxCfg d) true (segStamp o d) o d := by
  rw [dsgTake, hpkt, segStamp]

theorem dsgHears_of_works (hw : SegmentWorks d) : dsgHears d = true := by
  obtain ⟨hp, hl, hu⟩ := hw
  simp [dsgHears, dsgAlive, hp, hl, hu]

/-- What DSG_RX_FRAME does: the frame received, and wake source 7 where it wakes the device. -/
def segHeard (o : RxObs) (d : Dev) : Dev := doIf (dsgWakes o d) (wakeBy 7) (dsgReceive o d)

theorem segHeard_undecided (hw : SegmentWorks d) (h : (dsgTake o d).1 = none) : segHeard o d = (dsgTake o d).2 := by
  simp [segHeard, dsgWakes, dsgReceive, dsgHears_of_works hw, h]

theorem segHeard_rejects (hw : SegmentWorks d) (h : dsgTake o d = (some (out, x), e)) (hne : out ≠ 1) :
    segHeard o d = rxCount 8 0 out e := by
  simp [segHeard, dsgWakes, dsgReceive, dsgHears_of_works hw, h, hne]

/-- With PD_PKT on, a frame that passes the tests goes on to the duplicate discard. -/
theorem segHeard_accepts (hw : SegmentWorks d) (hpkt : domOn d .pkt = true) (h : dsgTake o d = (some (1, x), e)) :
    segHeard o d = doIf (dsgWakes o d) (wakeBy 7) (dsgAccept false x (rxCount 8 0 1 e)) := by
  simp [segHeard, dsgReceive, dsgHears_of_works hw, hpkt, h]

/-- The duplicate discard of an accepted frame, whose bytes are counted (R271). -/
def dupTested (x : RxPart) (d : Dev) : Bool × Dev := dsgDup x.bytes (dsgCnt 2 x.bytes.length d)

/-- An accepted frame as the pipelines get it. -/
def segDesc (x : RxPart) : RxDesc :=
  { port := 8, sub := 0, bytes := x.bytes, tRx := x.tRx, calSeq := x.calSeq, steps := x.steps, bufs := x.held }

theorem dsgAccept_duplicate (h : (dupTested x d).1 = false) :
    dsgAccept false x d = bufMove DSG_BUF_RX SVC_BUF_FREE x.held (dupTested x d).2 :=
  if_pos (by rw [Bool.not_eq_true']; exact h)

theorem dsgAccept_new (h : (dupTested x d).1 = true) :
    dsgAccept false x d = svcAccept (segDesc x) (bufMove DSG_BUF_RX SVC_BUF_PIPE x.held (dupTested x d).2) := by
  unfold dupTested at h
  simp [dsgAccept, h, dupTested, segDesc]

end

/-! ### Echo calibration (R265) -/

section

variable {d : Dev}

/-- A calibration period has passed. -/
def EchoPassed (d : Dev) : Prop := d.dsg.echoFrom + atLeast1 (fld d DSG_CAL_PERIOD_s) * sec16 ≤ now16 d

/-- A new calibration period begins. -/
def echoBegun (d : Dev) : Dev := modDsg (fun x => { x with echoFrom := now16 d, echoN := 0, echoSum := 0 }) d

/-- The transmit latency of the reset state. -/
def latTx0 : Int := sx 32 (resetOf DSG_LAT_TX).toNat

/-- R0: the sum of the latencies of the reset state. -/
def segR0 : Int := latTx0 + sx 32 (resetOf DSG_LAT_RX).toNat

/-- R: the mean of the echoes of the period. -/
def echoMean (d : Dev) : Int := roundDiv d.dsg.echoSum d.dsg.echoN

/-- The mean shown, and a new period begun. -/
def echoShown (d : Dev) : Dev := wrN DSG_ECHO_MEAN (wrapN 32 (echoMean d)) (echoBegun d)

/-- A mean too far from R0 is refused. -/
def echoRefused (m : Int) (d : Dev) : Dev :=
  raise 0x6005 (wrapN 32 (satS 32 (m - segR0))) (setF DSG_STATUS_calibrated 0 d)

/-- The latencies that `n` echoes of mean `m` set. -/
def echoSet (m : Int) (n : Nat) (d : Dev) : Dev :=
  let tx := latTx0 + roundDiv (fld d DSG_SPLIT_sigma * (m - segR0)) 65536
  let seq := (rdN d DSG_CAL_SEQ + 1) % 2 ^ 32
  let d3 := wrN DSG_CAL_SEQ seq (wrN DSG_LAT_RX (wrapN 32 (m - tx)) (wrN DSG_LAT_TX (wrapN 32 tx) d))
  raise3 0x6004 seq seq n (rdN d3 MEAS_CAL_SEQ)
    (setF DSG_STATUS_calibrated 1 (modDsg (fun x => { x with calAt := some (now16 d3) }) d3))

theorem echoPeriod_passed (hp : d.pwr.powered = true) (h : EchoPassed d) : echoPeriod d =
    if (!(domOn d .tb) || d.dsg.echoN < 8) = true then echoBegun d
    else if 131072 < (echoMean d - segR0).natAbs then echoRefused (echoMean d) (echoShown d)
    else echoSet (echoMean d) d.dsg.echoN (echoShown d) := by
  unfold EchoPassed at h
  have hdue : echoDue d = true := by simp [echoDue, h]
  exact if_neg (by simp [dsgAlive, hp, hdue])

theorem echoPeriod_few (hp : d.pwr.powered = true) (h : EchoPassed d) (hn : d.dsg.echoN < 8) : echoPeriod d = echoBegun d := by
  rw [echoPeriod_passed hp h, if_pos (by simp [hn])]

theorem echoPeriod_enough (hp : d.pwr.powered = true) (h : EchoPassed d) (hn : 8 ≤ d.dsg.echoN) (htb : domOn d .tb = true) :
    echoPeriod d = if 131072 < (echoMean d - segR0).natAbs then echoRefused (echoMean d) (echoShown d)
      else echoSet (echoMean d) d.dsg.echoN (echoShown d) := by
  rw [echoPeriod_passed hp h, if_neg (by simp [htb, hn])]

end

/-! ### The launch queue (R266 to R268) -/

section

variable {r : Req} {hi : Word} {e delay col : Nat} {echo : Option Int} {d : Dev}

/-- The entry that DSG_Q_SEL selects. -/
def qSel (d : Dev) : Nat := fld d DSG_Q_SEL_entry

/-- The target of the selected entry written. -/
def qTargeted (r : Req) (hi : Word) (d : Dev) : Dev := commit64 r (bank DSG_Q_TGT_HI (qSel d)) hi d

/-- The inserted field of the selected entry ends beyond its length (R268). -/
def InsertsBeyond (d : Dev) : Prop :=
  qCtl d (qSel d) 0 2 ≠ 0 ∧ qLen d (qSel d) < qCtl d (qSel d) 2 11 + tsLen (qCtl d (qSel d) 0 2)

theorem queueEntry_busy (h : qState d (qSel d) ≠ 0) : queueEntry r hi d = setF DSG_STATUS_cause 3 d := if_pos h

theorem queueEntry_queues (h : qState d (qSel d) = 0) (hins : ¬ InsertsBeyond d) :
    queueEntry r hi d = setF DSG_STATUS_cause 0 (qPut (qSel d) (qTargeted r hi d)) :=
  (if_neg (not_not.mpr h)).trans (if_neg hins)

theorem queueEntry_insertsBeyond (h : qState d (qSel d) = 0) (hins : InsertsBeyond d) :
    queueEntry r hi d = setF DSG_STATUS_cause 4 (qTargeted r hi d) :=
  (if_neg (not_not.mpr h)).trans (if_pos hins)

/-- Entry `e` is the first of the queue, due, and the segment carries frames. -/
def EntryStarts (e : Nat) (d : Dev) : Prop :=
  d.pwr.powered = true ∧ qFirst d e = true ∧ due (qTgt d e) (near d) = true ∧ dsgSends d = true

theorem entryDue_starts (parity : Bool) (h : EntryStarts e d) : entryDue e delay col parity echo d =
    if parity = true then reportUnit 0x3C 0x01 .corrected 0x6007 (e + 80) (qDrop e 5 d)
    else if dsgLink d = 3 ∧ 16 ≤ col then qDrop e 4 (dsgCnt 16 16 d)
    else qStart e delay echo (doIf (dsgLink d == 3 && decide (0 < col)) (dsgCnt 16 col) d) := by
  obtain ⟨hp, hfirst, hdue, hsends⟩ := h
  exact if_neg (by simp [dsgAlive, hp, hfirst, hdue, hsends])

theorem entryDue_badWord (h : EntryStarts e d) :
    entryDue e delay col true echo d = reportUnit 0x3C 0x01 .corrected 0x6007 (e + 80) (qDrop e 5 d) :=
  (entryDue_starts true h).trans (if_pos rfl)

theorem entryDue_plca (h : EntryStarts e d) (hl : dsgLink d = 2) :
    entryDue e delay col false echo d = qStart e delay echo d := by
  simp [entryDue_starts false h, hl]

theorem entryDue_collisions (h : EntryStarts e d) (hl : dsgLink d = 3) (hc : 16 ≤ col) :
    entryDue e delay col false echo d = qDrop e 4 (dsgCnt 16 16 d) := by
  simp [entryDue_starts false h, hl, hc]

/-- Entry `e` is Queued past its tolerance, and no step made it due (R267). -/
def EntryLate (e : Nat) (d : Dev) : Prop :=
  d.pwr.powered = true ∧ qState d e = 1 ∧ due ((qTgt d e + (lateTol d).toNat) % 2 ^ 64) (near d) = true ∧
    d.dsg.byStep.contains e = false

theorem lateDrop_drops (h : EntryLate e d) (hdl : qCtl d e 13 1 = 1) : lateDrop e d = qDrop e 3 d := by
  obtain ⟨hp, hq, hdue, hstep⟩ := h
  exact if_pos (by simp only [dsgAlive, hp, hq, hdl, hdue, hstep, beq_self_eq_true, Bool.not_false, Bool.and_self])

theorem lateDrop_stays (hdl : qCtl d e 13 1 ≠ 1) : lateDrop e d = d := if_neg (by simp [hdl])

/-- DSG_Q_STATUS of the selected entry answered. -/
def qStatusShown (d : Dev) : Dev := { d with resp := [rd d (bank DSG_Q_STATUS (qSel d))] }

/-- A read by `r` frees the selected entry: it is Done, and `r` has full rights. -/
def ReadFrees (r : Req) (d : Dev) : Prop := qState d (qSel d) = 3 ∧ fullRights d r = true

theorem qStatusRead_frees (h : ReadFrees r d) : qStatusRead r d = qFree (qSel d) (qStatusShown d) :=
  if_pos (by simpa [ReadFrees, qSel] using h)

theorem qStatusRead_keeps (h : ¬ ReadFrees r d) : qStatusRead r d = qStatusShown d :=
  if_neg (by simpa [ReadFrees, qSel] using h)

end

/-! ### The Low water sender and responder (R273) -/

section

variable {f : RxDesc} {fs : List RxDesc} {delay : Nat} {d : Dev}

/-- The Pdelay_Resp sent, and its request taken out of the list. -/
def pdelayAnswered (f : RxDesc) (fs : List RxDesc) (d : Dev) : Dev :=
  dsgWire (lwPdelay f 3 f.tRx d) (modDsg (fun x => { x with pd := fs }) d)

theorem pdelayResponse_answers (hp : d.pwr.powered = true) (h : d.dsg.pd = f :: fs) (hs : dsgSends d = true) :
    pdelayResponse delay d =
      dsgWire (lwPdelay f 0xA ((near d + delay + pointAfter) % 2 ^ 64) (pdelayAnswered f fs d)) (pdelayAnswered f fs d) := by
  simp [pdelayResponse, h, dsgAlive, hp, hs, pdelayAnswered]

end

/-- Settles O35: received bytes by the outcome that they decide, a calibration period by its echoes and their mean, a launch entry by
its state and what befalls it, the Low water messages by whether the segment sends. -/
theorem driveSegmentFrameCommandsComplete : Obligations.DriveSegmentFrameCommandsComplete := by
  delta Obligations.DriveSegmentFrameCommandsComplete
  refine ⟨?receive, ?echoes, ?queueing, ?launch, ?late, ?status, ?lowWater⟩
  case receive =>
    intro o s hp hl hu hpkt c t r frame wake
    have hw : SegmentWorks s.toDev := ⟨hp, hl, hu⟩
    have htake : dsgTake o s.toDev = r := dsgTake_pooled hpkt
    have hrun : ∀ {e : Dev}, segHeard o s.toDev = e → runsTo (.dsgRxFrame o) s e := runsTo_of_upd rfl
    refine ⟨fun h => ?_, fun out x h hne => ?_, ?accepts, ?whole⟩
    · rw [← htake] at h ⊢
      exact hrun (segHeard_undecided hw h)
    · exact hrun (segHeard_rejects hw (htake.trans (Prod.ext h rfl)) hne)
    case accepts =>
      intro x h k
      have hacc := segHeard_accepts hw hpkt (htake.trans (Prod.ext h rfl))
      refine ⟨fun hk => ?_, fun hk => ?_⟩
      · exact hrun (hacc.trans (congrArg wake (dsgAccept_duplicate hk)))
      · exact hrun (hacc.trans (congrArg wake (dsgAccept_new hk)))
    case whole =>
      intro hpart hmore d1
      refine ⟨fun out hout hne => ?fails, ?passes⟩
      case fails => exact hrun (segHeard_rejects hw (htake.trans (rxTake_wholeFails hpart hmore hout hne)) hne)
      case passes =>
        intro hout b d2 k hk
        have hacc := segHeard_accepts hw hpkt (htake.trans (rxTake_wholePasses hpart hmore hout))
        exact hrun (hacc.trans (congrArg wake (dsgAccept_new hk)))
  case echoes =>
    intro s hp hdue d1 tx0 r0 m d2
    have hrun : ∀ {e : Dev}, echoPeriod s.toDev = e → runsTo .dsgEchoCalPeriod s e := runsTo_of_powered echoPeriod rfl hp
    refine ⟨fun hn => hrun (echoPeriod_few hp hdue hn), fun hn htb => ?_⟩
    have henough := echoPeriod_enough hp hdue hn htb
    exact ⟨fun hfar => hrun (henough.trans (if_pos hfar)), fun hnear => hrun (henough.trans (if_neg (Nat.not_lt.mpr hnear)))⟩
  case queueing =>
    intro r hi s hg e fmt d1
    have hrun : ∀ {e : Dev}, queueEntry r hi s.toDev = e → runsTo (.dsgQueueEntry r hi) s e :=
      runsTo_of_write (k := queueEntry r hi) rfl hg
    refine ⟨fun h => hrun (queueEntry_busy h), fun h hin => hrun (queueEntry_queues h ?_), fun h hf hlt =>
      hrun (queueEntry_insertsBeyond h ⟨hf, hlt⟩)⟩
    rintro ⟨hf, hlt⟩
    exact hin.elim hf (Nat.not_le.mpr hlt)
  case launch =>
    intro e delay col echo s hp hfirst hdue hsends
    have hstarts : EntryStarts e.val s.toDev := ⟨hp, hfirst, hdue, hsends⟩
    have hrun : ∀ {parity : Bool} {d : Dev}, entryDue e.val delay col parity echo s.toDev = d →
        runsTo (.dsgEntryDue e delay col parity echo) s d :=
      fun {parity} => runsTo_of_upd (f := entryDue e.val delay col parity echo) rfl
    exact ⟨fun hl => hrun (entryDue_plca hstarts hl), hrun (entryDue_badWord hstarts), fun hl hc =>
      hrun (entryDue_collisions hstarts hl hc)⟩
  case late =>
    intro e s hp hq hdue hstep
    have hlate : EntryLate e.val s.toDev := ⟨hp, hq, hdue, hstep⟩
    refine ⟨fun h => runsTo_of_upd (f := lateDrop e.val) rfl (lateDrop_drops hlate h), fun h => ?_⟩
    exact runsTo_of_upd (f := lateDrop e.val) rfl (lateDrop_stays (by omega))
  case status =>
    intro r s hreach hon e d1
    have hrun : ∀ {e : Dev}, qStatusRead r s.toDev = e → runsTo (.dsgQStatusRead r) s e :=
      runsTo_of_read (k := qStatusRead r) rfl (Bool.and_eq_true_iff.mpr ⟨hreach, hon⟩)
    exact ⟨fun h => hrun (qStatusRead_frees h), fun h => hrun (qStatusRead_keeps h)⟩
  case lowWater =>
    intro k delay s hp
    refine ⟨fun h => ?_, fun h => ?_, fun f fs hpd hs => ?_⟩
    · exact runsTo_of_doIf (c := fun d => dsgAlive d && lwSends d) rfl (by simp [dsgAlive, hp, h]) rfl
    · exact runsTo_of_doIf_false (c := fun d => dsgAlive d && lwSends d) rfl (by simp [h])
    · exact runsTo_of_powered (pdelayResponse delay) rfl hp (pdelayResponse_answers hp hpd hs)

end Sys2Proof.Proofs

/-! PROOFS about the canonical form of the addressed stores, at reset and along every step. -/

namespace Sys2Proof.Proofs

open Sys2Proof Sys2Proof.Machine Sys2Proof.Laws

/-- What the primitive writes of the stores keep, every command keeps. -/
theorem keeps_exec {P : Dev → Prop} (hP : Closed P) {s t : State} (i : Instr) (h : P s.toDev) (e : exec i s = .next t) : P t.toDev :=
  match i with
  | .registerWrite _ _ _ => keeps_execRegisterWrite hP _ _ _ h e
  | .rcRead _ _ => keeps_execRcRead hP _ _ h e
  | .lowWordLatchRead _ _ => keeps_execLowWordLatchRead hP _ _ h e
  | .highWordCommit _ _ _ => keeps_execHighWordCommit hP _ _ _ h e
  | .vinRise => keeps_execVinRise hP h e
  | .vinFall => keeps_execVinFall hP h e
  | .vinWarn _ => keeps_execVinWarn hP _ h e
  | .resetNAssert => keeps_execResetNAssert hP h e
  | .resetNRelease _ => keeps_execResetNRelease hP _ h e
  | .bootSequence _ => keeps_execBootSequence hP _ h e
  | .ck32kSourceChange _ => keeps_execCk32kSourceChange hP _ h e
  | .railFault _ => keeps_execRailFault hP _ h e
  | .pmbusPoll _ => keeps_execPmbusPoll hP _ h e
  | .stageAlert _ _ => keeps_execStageAlert hP _ _ h e
  | .avsStep _ _ => keeps_execAvsStep hP _ _ h e
  | .domainPowerUp _ => keeps_execDomainPowerUp hP _ h e
  | .domainPowerDown _ => keeps_execDomainPowerDown hP _ h e
  | .domainAckTimeout _ => keeps_execDomainAckTimeout hP _ h e
  | .pwrDomOffWrite _ _ => keeps_execPwrDomOffWrite hP _ _ h e
  | .reqServe _ => keeps_execReqServe hP _ h e
  | .reqStandby _ => keeps_execReqStandby hP _ h e
  | .reqLowWater _ => keeps_execReqLowWater hP _ h e
  | .disciplineWake _ _ => keeps_execDisciplineWake hP _ _ h e
  | .gnssWake _ => keeps_execGnssWake hP _ h e
  | .disciplineMeasurement _ _ => keeps_execDisciplineMeasurement hP _ _ h e
  | .wakeMaxExpiry => keeps_execWakeMaxExpiry hP h e
  | .wakeSource _ => keeps_execWakeSource hP _ h e
  | .lwExitTargetDue => keeps_execLwExitTargetDue hP h e
  | .imgLoadHost _ _ => keeps_execImgLoadHost hP _ _ h e
  | .imgReload _ => keeps_execImgReload hP _ h e
  | .reloadApply => keeps_execReloadApply hP h e
  | .imgConfirm _ => keeps_execImgConfirm hP _ h e
  | .lkgTimeExpiry => keeps_execLkgTimeExpiry hP h e
  | .imgClearBad _ _ => keeps_execImgClearBad hP _ _ h e
  | .spiRead _ _ => keeps_execSpiRead hP _ _ h e
  | .spiWrite _ _ _ => keeps_execSpiWrite hP _ _ _ h e
  | .spiQuadRead _ _ => keeps_execSpiQuadRead hP _ _ h e
  | .spiQuadWrite _ _ _ => keeps_execSpiQuadWrite hP _ _ _ h e
  | .i2cWriteTransfer _ _ _ _ => keeps_execI2cWriteTransfer hP _ _ _ _ h e
  | .i2cReadTransfer _ _ _ => keeps_execI2cReadTransfer hP _ _ _ h e
  | .pcieMemoryWrite _ _ _ => keeps_execPcieMemoryWrite hP _ _ _ h e
  | .pcieMemoryRead _ _ _ => keeps_execPcieMemoryRead hP _ _ _ h e
  | .perstNAssert => keeps_execPerstNAssert hP h e
  | .perstNRelease => keeps_execPerstNRelease hP h e
  | .pcieLinkUp _ _ => keeps_execPcieLinkUp hP _ _ h e
  | .pcieLinkDown => keeps_execPcieLinkDown hP h e
  | .msixSend _ => keeps_execMsixSend hP _ h e
  | .hifMgmtLock _ _ => keeps_execHifMgmtLock hP _ _ h e
  | .bulkSelWrite _ _ _ => keeps_execBulkSelWrite hP _ _ _ h e
  | .bulkDataRead _ _ => keeps_execBulkDataRead hP _ _ h e
  | .bulkDataWrite _ _ _ => keeps_execBulkDataWrite hP _ _ _ h e
  | .bulkCursorWrite _ _ _ => keeps_execBulkCursorWrite hP _ _ _ h e
  | .bulkFlush _ _ => keeps_execBulkFlush hP _ _ h e
  | .bulkErase _ _ => keeps_execBulkErase hP _ _ h e
  | .bulkAbort _ _ => keeps_execBulkAbort hP _ _ h e
  | .bulkRelease _ _ => keeps_execBulkRelease hP _ _ h e
  | .flashPageProgramDone _ _ => keeps_execFlashPageProgramDone hP _ _ h e
  | .flashEraseDone _ => keeps_execFlashEraseDone hP _ h e
  | .epoch1us _ => keeps_execEpoch1us hP _ h e
  | .channelSelftestDone _ => keeps_execChannelSelftestDone hP _ h e
  | .epoch1ms _ => keeps_execEpoch1ms hP _ h e
  | .tbStep _ => keeps_execTbStep hP _ h e
  | .tbSet _ => keeps_execTbSet hP _ h e
  | .tbSlew _ => keeps_execTbSlew hP _ h e
  | .tbCancel _ => keeps_execTbCancel hP _ h e
  | .tbReadmit _ _ => keeps_execTbReadmit hP _ _ h e
  | .tbReadmitDone _ => keeps_execTbReadmitDone hP _ h e
  | .stepWaitExpiry => keeps_execStepWaitExpiry hP h e
  | .slewComplete => keeps_execSlewComplete hP h e
  | .timeLatchRead _ _ => keeps_execTimeLatchRead hP _ _ h e
  | .tbAlarmFire _ => keeps_execTbAlarmFire hP _ h e
  | .leapEntrySubmit _ _ => keeps_execLeapEntrySubmit hP _ _ h e
  | .utcOffsetChange => keeps_execUtcOffsetChange hP h e
  | .calendarLimit => keeps_execCalendarLimit hP h e
  | .refinEdge _ _ => keeps_execRefinEdge hP _ _ h e
  | .holdoffExpiry _ => keeps_execHoldoffExpiry hP _ h e
  | .channelCapture _ _ _ => keeps_execChannelCapture hP _ _ _ h e
  | .intervalTimeout _ => keeps_execIntervalTimeout hP _ h e
  | .schedulerGrant => keeps_execSchedulerGrant hP h e
  | .requestComplete _ _ => keeps_execRequestComplete hP _ _ h e
  | .requestDue _ => keeps_execRequestDue hP _ h e
  | .requestAgeLimit _ => keeps_execRequestAgeLimit hP _ h e
  | .measLoadSecond => keeps_execMeasLoadSecond hP h e
  | .measCalInlFull _ => keeps_execMeasCalInlFull hP _ h e
  | .measCalSkewAll _ => keeps_execMeasCalSkewAll hP _ h e
  | .inlRunTrigger _ => keeps_execInlRunTrigger hP _ h e
  | .inlRunComplete _ _ => keeps_execInlRunComplete hP _ _ h e
  | .skewRunComplete _ _ => keeps_execSkewRunComplete hP _ _ h e
  | .measReserveWrite _ _ _ => keeps_execMeasReserveWrite hP _ _ _ h e
  | .measPowerLoss => keeps_execMeasPowerLoss hP h e
  | .refFeed _ _ => keeps_execRefFeed hP _ _ h e
  | .slotSignalTimeout _ => keeps_execSlotSignalTimeout hP _ h e
  | .qualifyTimerExpiry _ => keeps_execQualifyTimerExpiry hP _ h e
  | .suspectClearExpiry _ => keeps_execSuspectClearExpiry hP _ h e
  | .disagreeTimeExpiry _ _ => keeps_execDisagreeTimeExpiry hP _ _ h e
  | .lockTimeExpiry => keeps_execLockTimeExpiry hP h e
  | .refSwitch _ _ => keeps_execRefSwitch hP _ _ h e
  | .refAuto _ => keeps_execRefAuto hP _ h e
  | .refHold _ => keeps_execRefHold hP _ h e
  | .refRelease _ => keeps_execRefRelease hP _ h e
  | .refTickSwitch _ => keeps_execRefTickSwitch hP _ h e
  | .historyEntry => keeps_execHistoryEntry hP h e
  | .ensembleTermCommit _ _ => keeps_execEnsembleTermCommit hP _ _ h e
  | .ensembleTimeout => keeps_execEnsembleTimeout hP h e
  | .servoBwWrite _ _ => keeps_execServoBwWrite hP _ _ h e
  | .holdModelCommit _ => keeps_execHoldModelCommit hP _ h e
  | .synSweep _ _ _ => keeps_execSynSweep hP _ _ _ h e
  | .synPllStart _ _ => keeps_execSynPllStart hP _ _ h e
  | .synPllStop _ _ => keeps_execSynPllStop hP _ _ h e
  | .synPllHop _ _ => keeps_execSynPllHop hP _ _ h e
  | .synPllFlush _ _ => keeps_execSynPllFlush hP _ _ h e
  | .bandSearchComplete _ _ => keeps_execBandSearchComplete hP _ _ h e
  | .pllLock _ => keeps_execPllLock hP _ h e
  | .pllLockLoss _ => keeps_execPllLockLoss hP _ h e
  | .pllReferenceLoss _ => keeps_execPllReferenceLoss hP _ h e
  | .pllClockFallback _ => keeps_execPllClockFallback hP _ h e
  | .pllClockReturn _ => keeps_execPllClockReturn hP _ h e
  | .tickOutOfRange => keeps_execTickOutOfRange hP h e
  | .bandEntryParity _ _ => keeps_execBandEntryParity hP _ _ h e
  | .synOutCfgWrite _ _ _ => keeps_execSynOutCfgWrite hP _ _ _ h e
  | .ppsPhaseCommit _ _ _ => keeps_execPpsPhaseCommit hP _ _ _ h e
  | .ppsEnableWrite _ _ _ => keeps_execPpsEnableWrite hP _ _ _ h e
  | .ppsChangeApply _ => keeps_execPpsChangeApply hP _ h e
  | .calAgeExpiry _ => keeps_execCalAgeExpiry hP _ h e
  | .outputRealignDone _ => keeps_execOutputRealignDone hP _ h e
  | .gnSnapCapture _ => keeps_execGnSnapCapture hP _ h e
  | .gnSnapCancel _ => keeps_execGnSnapCancel hP _ h e
  | .gnSnapFree _ => keeps_execGnSnapFree hP _ h e
  | .captureTrigger => keeps_execCaptureTrigger hP h e
  | .captureComplete _ => keeps_execCaptureComplete hP _ h e
  | .snapshotParity => keeps_execSnapshotParity hP h e
  | .gnAcqStart _ => keeps_execGnAcqStart hP _ h e
  | .gnAcqAbort _ => keeps_execGnAcqAbort hP _ h e
  | .acqJobComplete _ => keeps_execAcqJobComplete hP _ h e
  | .gnChStart _ _ => keeps_execGnChStart hP _ _ h e
  | .gnChStop _ _ => keeps_execGnChStop hP _ _ h e
  | .channelStartIndex _ => keeps_execChannelStartIndex hP _ h e
  | .ncoCommit _ _ _ _ => keeps_execNcoCommit hP _ _ _ _ h e
  | .dumpClose _ _ => keeps_execDumpClose hP _ _ h e
  | .measurementEpoch _ => keeps_execMeasurementEpoch hP _ h e
  | .epochLatchTimeout _ => keeps_execEpochLatchTimeout hP _ h e
  | .epochRecordsWrite => keeps_execEpochRecordsWrite hP h e
  | .gnFeedCommit _ _ => keeps_execGnFeedCommit hP _ _ h e
  | .verdictChange _ _ => keeps_execVerdictChange hP _ _ h e
  | .portLatCal _ _ => keeps_execPortLatCal hP _ _ h e
  | .portRestart _ _ _ => keeps_execPortRestart hP _ _ _ h e
  | .portReadmit _ _ => keeps_execPortReadmit hP _ _ h e
  | .latencyCalComplete _ _ => keeps_execLatencyCalComplete hP _ _ h e
  | .linkUp _ _ _ => keeps_execLinkUp hP _ _ _ h e
  | .linkDown _ _ => keeps_execLinkDown hP _ _ h e
  | .rxFrame _ _ _ => keeps_execRxFrame hP _ _ _ h e
  | .txFrame _ _ _ => keeps_execTxFrame hP _ _ _ h e
  | .dsgModeWrite _ _ => keeps_execDsgModeWrite hP _ _ h e
  | .dsgBeaconStart => keeps_execDsgBeaconStart hP h e
  | .dsgBeaconReceived _ _ => keeps_execDsgBeaconReceived hP _ _ h e
  | .dsgTransmitOpportunity _ => keeps_execDsgTransmitOpportunity hP _ h e
  | .plcaFallbackTimeout => keeps_execPlcaFallbackTimeout hP h e
  | .csmaSilence => keeps_execCsmaSilence hP h e
  | .dsgClockSourceChange => keeps_execDsgClockSourceChange hP h e
  | .dsgRealignDone => keeps_execDsgRealignDone hP h e
  | .dsgRxFrame _ => keeps_execDsgRxFrame hP _ h e
  | .dsgEchoCalPeriod => keeps_execDsgEchoCalPeriod hP h e
  | .dsgQueueEntry _ _ => keeps_execDsgQueueEntry hP _ _ h e
  | .dsgEntryDue _ _ _ _ _ => keeps_execDsgEntryDue hP _ _ _ _ _ h e
  | .dsgLateDrop _ => keeps_execDsgLateDrop hP _ h e
  | .dsgQStatusRead _ => keeps_execDsgQStatusRead hP _ h e
  | .dsgLwTemplateSend _ _ => keeps_execDsgLwTemplateSend hP _ _ h e
  | .dsgPdelayResponse _ => keeps_execDsgPdelayResponse hP _ h e
  | .pipelineOperation _ _ => keeps_execPipelineOperation hP _ _ h e
  | .cryptoCreditTimeout _ => keeps_execCryptoCreditTimeout hP _ h e
  | .wheelSlotStart => keeps_execWheelSlotStart hP h e
  | .sessionSweep => keeps_execSessionSweep hP h e
  | .weirSweep _ => keeps_execWeirSweep hP _ h e
  | .sessionParity _ _ => keeps_execSessionParity hP _ _ h e
  | .timedLaunch _ _ => keeps_execTimedLaunch hP _ _ h e
  | .hostTransmitRecord => keeps_execHostTransmitRecord hP h e
  | .nontimingResponse => keeps_execNontimingResponse hP h e
  | .esmcSend _ _ => keeps_execEsmcSend hP _ _ h e
  | .leapIndicatorChange => keeps_execLeapIndicatorChange hP h e
  | .servingChange => keeps_execServingChange hP h e
  | .keyDelivery _ => keeps_execKeyDelivery hP _ h e
  | .keyDeliveryDiscard _ => keeps_execKeyDeliveryDiscard hP _ h e
  | .keyClose _ => keeps_execKeyClose hP _ h e
  | .keyZeroize _ => keeps_execKeyZeroize hP _ h e
  | .keyErase _ _ _ => keeps_execKeyErase hP _ _ _ h e
  | .keyClearOpened _ => keeps_execKeyClearOpened hP _ h e
  | .presenceAssert => keeps_execPresenceAssert hP h e
  | .presenceWindowExpiry => keeps_execPresenceWindowExpiry hP h e
  | .sealOpen => keeps_execSealOpen hP h e
  | .sealIntact => keeps_execSealIntact hP h e
  | .zeroizationComplete => keeps_execZeroizationComplete hP h e
  | .keyActivationEvaluation => keeps_execKeyActivationEvaluation hP h e
  | .keySlotParity _ _ => keeps_execKeySlotParity hP _ _ h e
  | .programHash _ _ => keeps_execProgramHash hP _ _ h e
  | .revokeHash _ _ => keeps_execRevokeHash hP _ _ h e
  | .programKek _ => keeps_execProgramKek hP _ h e
  | .revokeKek _ => keeps_execRevokeKek hP _ h e
  | .disableDebug _ => keeps_execDisableDebug hP _ h e
  | .fuseCommandComplete _ _ => keeps_execFuseCommandComplete hP _ _ h e
  | .debugUnlock _ => keeps_execDebugUnlock hP _ h e
  | .engineSelftest _ => keeps_execEngineSelftest hP _ h e
  | .engineReadmit _ _ _ => keeps_execEngineReadmit hP _ _ _ h e
  | .rngReseed _ => keeps_execRngReseed hP _ h e
  | .rngHealthFailure => keeps_execRngHealthFailure hP h e
  | .millraceLinkTraining _ => keeps_execMillraceLinkTraining hP _ h e
  | .helloReceived _ _ => keeps_execHelloReceived hP _ _ h e
  | .millraceLinkLoss _ => keeps_execMillraceLinkLoss hP _ h e
  | .claimRoundEnd _ _ => keeps_execClaimRoundEnd hP _ _ h e
  | .claimStageChange _ => keeps_execClaimStageChange hP _ h e
  | .claimBusFault => keeps_execClaimBusFault hP h e
  | .partnerLossExpiry => keeps_execPartnerLossExpiry hP h e
  | .twnYield _ => keeps_execTwnYield hP _ h e
  | .twnUnyield _ => keeps_execTwnUnyield hP _ h e
  | .twnResync _ => keeps_execTwnResync hP _ h e
  | .twnRetrain _ => keeps_execTwnRetrain hP _ h e
  | .twnAsymWrite _ _ => keeps_execTwnAsymWrite hP _ _ h e
  | .alignmentFrame _ _ => keeps_execAlignmentFrame hP _ _ h e
  | .journalRecord _ _ _ => keeps_execJournalRecord hP _ _ _ h e
  | .mirrorCommitReceived _ _ => keeps_execMirrorCommitReceived hP _ _ h e
  | .mirrorAcknowledge _ _ => keeps_execMirrorAcknowledge hP _ _ h e
  | .requestAgain _ _ => keeps_execRequestAgain hP _ _ h e
  | .retentionExceeded => keeps_execRetentionExceeded hP h e
  | .sweepRecord _ _ => keeps_execSweepRecord hP _ _ h e
  | .healthFrameSend => keeps_execHealthFrameSend hP h e
  | .healthFrameReceived _ _ => keeps_execHealthFrameReceived hP _ _ h e
  | .healthStale => keeps_execHealthStale hP h e
  | .huntTest _ => keeps_execHuntTest hP _ h e
  | .coreStart _ _ => keeps_execCoreStart hP _ _ h e
  | .coreHalt _ _ => keeps_execCoreHalt hP _ _ h e
  | .coreReadmit _ _ => keeps_execCoreReadmit hP _ _ h e
  | .sleepInstruction _ => keeps_execSleepInstruction hP _ h e
  | .coreException _ _ => keeps_execCoreException hP _ _ h e
  | .watchdogKick _ _ _ => keeps_execWatchdogKick hP _ _ _ h e
  | .watchdogExpiry _ => keeps_execWatchdogExpiry hP _ h e
  | .coreTimerFire _ => keeps_execCoreTimerFire hP _ h e
  | .lockstepEnableWrite _ _ => keeps_execLockstepEnableWrite hP _ _ h e
  | .lockstepMismatch _ _ => keeps_execLockstepMismatch hP _ _ h e
  | .tlbInvalidate _ _ => keeps_execTlbInvalidate hP _ _ h e
  | .pageReload _ => keeps_execPageReload hP _ h e
  | .sramParityAccess _ _ _ _ => keeps_execSramParityAccess hP _ _ _ _ h e
  | .dmaHeadWrite _ _ _ => keeps_execDmaHeadWrite hP _ _ _ h e
  | .dmaBeat _ => keeps_execDmaBeat hP _ h e
  | .descriptorRetire _ => keeps_execDescriptorRetire hP _ h e
  | .dmaPark _ _ _ _ => keeps_execDmaPark hP _ _ _ _ h e
  | .dmaResume _ _ => keeps_execDmaResume hP _ _ h e
  | .dmaPause _ _ => keeps_execDmaPause hP _ _ h e
  | .dmaSkip _ _ => keeps_execDmaSkip hP _ _ h e
  | .dmaAbort _ _ => keeps_execDmaAbort hP _ _ h e
  | .eventRaise _ _ _ => keeps_execEventRaise hP _ _ _ h e
  | .recordDelivery _ => keeps_execRecordDelivery hP _ h e
  | .evqTgtRdWrite _ _ _ => keeps_execEvqTgtRdWrite hP _ _ _ h e
  | .evqRecordRead _ _ => keeps_execEvqRecordRead hP _ _ h e
  | .moderationExpiry _ => keeps_execModerationExpiry hP _ h e
  | .evqRetargetWrite _ _ => keeps_execEvqRetargetWrite hP _ _ h e
  | .evqSrcTgtWrite _ _ _ => keeps_execEvqSrcTgtWrite hP _ _ _ h e
  | .retargetTimeout _ => keeps_execRetargetTimeout hP _ h e
  | .evqHoldWrite _ _ => keeps_execEvqHoldWrite hP _ _ h e
  | .evqRecordParity _ _ => keeps_execEvqRecordParity hP _ _ h e
  | .unitReport _ => keeps_execUnitReport hP _ h e
  | .railFaultDetect _ _ => keeps_execRailFaultDetect hP _ _ h e
  | .unitPoll _ _ => keeps_execUnitPoll hP _ _ h e
  | .selftestStart _ => keeps_execSelftestStart hP _ h e
  | .selftestComplete _ _ => keeps_execSelftestComplete hP _ _ h e
  | .handlingNoTestExpiry _ => keeps_execHandlingNoTestExpiry hP _ h e
  | .fatalDecision _ _ _ => keeps_execFatalDecision hP _ _ _ h e
  | .fltReadmit _ _ => keeps_execFltReadmit hP _ _ h e
  | .readmitTestComplete _ _ => keeps_execReadmitTestComplete hP _ _ h e
  | .fltLatchRead _ _ => keeps_execFltLatchRead hP _ _ h e
  | .fltRailRead _ _ _ => keeps_execFltRailRead hP _ _ _ h e
  | .fltInjectGo _ => keeps_execFltInjectGo hP _ h e
  | .fltInjectStop _ => keeps_execFltInjectStop hP _ h e
  | .injectedReport => keeps_execInjectedReport hP h e
  | .recorderWrite => keeps_execRecorderWrite hP h e
  | .recorderWeirSweep => keeps_execRecorderWeirSweep hP h e
  | .logRec0Read _ => keeps_execLogRec0Read hP _ h e
  | .logRec7Read _ => keeps_execLogRec7Read hP _ h e
  | .logCurWrite _ _ => keeps_execLogCurWrite hP _ _ h e
  | .stateBlockPeriod _ => keeps_execStateBlockPeriod hP _ h e
  | .stateNow _ _ => keeps_execStateNow hP _ _ h e
  | .archiveFlush _ _ => keeps_execArchiveFlush hP _ _ h e
  | .forcedStateBlock _ => keeps_execForcedStateBlock hP _ h e
  | .recorderPageProgram _ => keeps_execRecorderPageProgram hP _ h e
  | .archiveSectorErase _ => keeps_execArchiveSectorErase hP _ h e
  | .thermalSample _ _ => keeps_execThermalSample hP _ _ h e
  | .pmcSnap _ => keeps_execPmcSnap hP _ h e
  | .ledgerCopy _ => keeps_execLedgerCopy hP _ h e
  | .pmcGenCfgWrite _ _ _ => keeps_execPmcGenCfgWrite hP _ _ _ h e
  | .pmcPrivWrite _ _ _ _ => keeps_execPmcPrivWrite hP _ _ _ _ h e
  | .counterWrap _ _ => keeps_execCounterWrap hP _ _ h e
  | .esmcTimeout _ => keeps_execEsmcTimeout hP _ h e
  | .slotResultTimeout _ => keeps_execSlotResultTimeout hP _ h e
  | .pllReferenceReturn _ => keeps_execPllReferenceReturn hP _ h e
  | .dsgSignalLoss => keeps_execDsgSignalLoss hP h e
  | .pcieConfigWrite _ _ => keeps_execPcieConfigWrite hP _ _ h e
  | .railFaultRetry _ => keeps_execRailFaultRetry hP _ h e

/-- What the primitive writes of the stores keep, every step keeps: a command in front, or one clock period on an empty queue. -/
theorem keeps_step {P : Dev → Prop} (hP : Closed P) {s t : State} (h : P s.toDev) (e : step s = .next t) : P t.toDev := by
  unfold step at e
  split at e
  case h_1 => exact keeps_upd (fun _ => keeps_idleF hP) h e
  case h_2 i rest _ => exact keeps_exec hP (s := { s with pending := rest }) i h e

/-- Settles O55: the canonical form is kept by the primitive writes, so by every step. -/
theorem everyStepKeepsCanonicalStores : Obligations.EveryStepKeepsCanonicalStores := by
  unfold Obligations.EveryStepKeepsCanonicalStores
  exact fun s t => keeps_step closed_canonical

/-- Settles O54: the stores of the reset state are empty. -/
theorem resetMemoriesCanonical : Obligations.ResetMemoriesCanonical := by
  unfold Obligations.ResetMemoriesCanonical
  rw [canonical_iff]
  exact ⟨rfl, rfl, rfl, rfl, rfl⟩

end Sys2Proof.Proofs

/-! PROOFS about the rights of observation requesters on the event queues, what a raise leaves pending, and the general performance
counters. -/

namespace Sys2Proof.Proofs

open Sys2Proof Sys2Proof.Machine Sys2Proof.Laws

/-! ### Observation rights on EVQ (R395) -/

/-- Register `a` is one of the three that a requester may write of its own event queue. -/
def OwnEvqRegister (r : Req) (a : Nat) : Prop :=
  ∃ t, ownTarget r = some t ∧ (a = EVQ_TGT_CTL t ∨ a = EVQ_TGT_RD t ∨ a = EVQ_TGT_REC_SEL t)

/-- No other register that an observer may write, and no bulk channel, lies in EVQ. -/
theorem obsMayWrite_evq {a : Nat} (hlo : 0x040000 ≤ a) (hhi : a < 0x050000) (r : Req) (d : Dev) :
    obsMayWrite d r a = true ↔ OwnEvqRegister r a := by
  have hsnap : a ≠ PMC_SNAP := by unfold PMC_SNAP; omega
  have hcur : a ≠ LOG_CUR := by unfold LOG_CUR; omega
  have hctl : a ≠ LOG_RD_CTL := by unfold LOG_RD_CTL; omega
  have hchan : bulkChan a = none := if_neg (by omega)
  simp only [obsMayWrite, OwnEvqRegister, hsnap, hcur, hctl, hchan, beq_false_of_ne, ne_eq, not_false_eq_true, Bool.false_or,
    Bool.or_false]
  cases ownTarget r with
  | none => simp
  | some t => simp [or_assoc]

/-- Settles O9: the rights themselves, and the guard of a write that they shut. -/
theorem observerEvqRightsAreItsOwnTarget : Obligations.ObserverEvqRightsAreItsOwnTarget := by
  unfold Obligations.ObserverEvqRightsAreItsOwnTarget
  refine ⟨fun r a d hlo hhi => obsMayWrite_evq hlo hhi r d, ?refused⟩
  case refused =>
    intro r a v d hlo hhi h4 hreach hfull hown
    have hmay : obsMayWrite d r a = false := by rw [← Bool.not_eq_true, obsMayWrite_evq hlo hhi]; exact hown
    simp [busWrite, busAddr_aligned h4 (show a < 0x01000000 by omega), hreach, hfull, hmay]

/-! ### The events pending (R390, R402) -/

/-- What is pending for source `q`. -/
def pendOf (d : Dev) (q : Nat) : Option EvPend := d.evq.pend.find? (fun x => x.src == q)

theorem find?_pendPut_same (l : List EvPend) (e : EvPend) : (pendPut l e).find? (fun x => x.src == e.src) = some e := by
  induction l with
  | nil => simp [pendPut]
  | cons x xs ih =>
    unfold pendPut
    split_ifs with hsame hbefore
    · simp
    · simp
    · simp [hsame, ih]

theorem find?_pendPut_other (l : List EvPend) (e : EvPend) {q : Nat} (h : q ≠ e.src) :
    (pendPut l e).find? (fun x => x.src == q) = l.find? (fun x => x.src == q) := by
  induction l with
  | nil => simp [pendPut, h.symm]
  | cons x xs ih =>
    unfold pendPut
    split_ifs with hsame hbefore
    · simp [hsame, h.symm]
    · simp [h.symm]
    · simp [List.find?_cons, ih]

theorem pendOf_setPending_same {d : Dev} (h : domOn d .ctl = true) (src code param : Nat) : pendOf (setPending src code param d) src =
    some { src := src, code := code, param := param % 2 ^ 32, near := near d } := by
  simp only [pendOf, setPending, h, if_true]
  exact find?_pendPut_same d.evq.pend { src := src, code := code, param := param % 2 ^ 32, near := near d }

theorem pendOf_setPending_other (d : Dev) (code param : Nat) {src q : Nat} (h : q ≠ src) :
    pendOf (setPending src code param d) q = pendOf d q := by
  unfold setPending
  split_ifs
  · exact find?_pendPut_other _ _ h
  · rfl
  · rfl

/-- A property that a recorder weir keeps: it survives a suppression record raised, and says of the log only which sectors of the
archive are skipped. -/
structure WeirKeeps (P : Dev → Prop) : Prop where
  suppressed : ∀ d param, P d → P (setPending 0x301 0x1806 param d)
  log : ∀ (d : Dev) (l : Log), l.badSect = d.log.badSect → P d → P { d with log := l }

/-- A property that the recorder and the performance counters keep: it also survives register writes and a counter's wrap raised. -/
structure CounterKeeps (P : Dev → Prop) : Prop extends WeirKeeps P where
  reg : ∀ d a v, P d → P (wr a v d)
  wrapped : ∀ d code param, P d → P (setPending 0x381 code param d)

namespace WeirKeeps

variable {P : Dev → Prop} {d : Dev}

theorem enqueue (hP : WeirKeeps P) (r : LRec) (h : P d) : P (enqueue r d) := by
  unfold Machine.enqueue
  split
  · exact hP.log d _ (by rfl) h
  · exact hP.log d _ (by rfl) h

theorem setWeir (hP : WeirKeeps P) (i : Nat) (w : Weir) (h : P d) : P (setWeir i w d) := hP.log d _ (by rfl) h

theorem weirSync (hP : WeirKeeps P) (i : Nat) (h : P d) : P (weirSync i d) := by
  unfold Machine.weirSync
  dsimp only
  split
  · exact hP.setWeir _ _ (hP.enqueue _ (hP.suppressed _ _ h))
  · exact hP.setWeir _ _ h

/-- What a weir keeps, a record offered to the recorder keeps. -/
theorem offer (hP : WeirKeeps P) (r : LRec) (h : P d) : P (offer r d) := by
  have hsync := hP.weirSync (weirIndex r.code) h
  unfold Machine.offer
  dsimp only
  split
  · exact hP.enqueue r h
  split
  · exact hP.enqueue r hsync
  split
  · exact hP.enqueue r (hP.setWeir _ _ hsync)
  · exact hP.setWeir _ _ (hP.log _ _ (by rfl) hsync)

end WeirKeeps

namespace CounterKeeps

variable {P : Dev → Prop} {d : Dev}

theorem wrapEvent (hP : CounterKeeps P) {code : Nat} (hcode : code = 0x1C01 ∨ code = 0x1C02) (param p0 p1 p2 : Nat) (h : P d) :
    P (raiseRaw code param p0 p1 p2 d) := by
  have hsrc : evSrc code param = 0x381 := by rcases hcode with rfl | rfl <;> rfl
  rw [raiseRaw, hsrc]
  exact hP.offer _ (hP.wrapped d code param h)

theorem wr64 (hP : CounterKeeps P) (a v : Nat) (h : P d) : P (wr64 a v d) := hP.reg _ _ _ (hP.reg _ _ _ h)

theorem genWrap (hP : CounterKeeps P) (n : Nat) (h : P d) : P (genWrap n d) := by
  have hovf : P (setF (PMC_GEN_STATUS_ovf n) 1 d) := hP.reg _ _ _ h
  exact doIf_ind _ _ _ (hP.wrapEvent (.inl rfl) _ _ _ _ hovf) hovf

theorem genUpper (hP : CounterKeeps P) (n c : Nat) (h : P d) : P (genUpper n c d) :=
  doIf_ind _ _ _ (hP.genWrap n (hP.wr64 _ _ h)) (hP.wr64 _ _ h)

theorem genAdd (hP : CounterKeeps P) (n c : Nat) (h : P d) : P (genAdd n c d) := by
  unfold Machine.genAdd
  dsimp only
  split_ifs
  · exact hP.wr64 _ _ h
  · exact doIf_ind _ _ _ (hP.genUpper _ _ (hP.wr64 _ _ h)) (hP.wr64 _ _ h)
  · exact hP.genWrap n (hP.wr64 _ _ h)

theorem privAdd (hP : CounterKeeps P) (p c : Nat) (h : P d) : P (privAdd p c d) := by
  unfold Machine.privAdd
  dsimp only
  split_ifs
  · exact hP.wr64 _ _ h
  · exact hP.wrapEvent (.inr rfl) _ _ _ _ (hP.reg _ _ _ (hP.wr64 _ _ h))

theorem pmcAdd (hP : CounterKeeps P) (sig c : Nat) (h : P d) : P (pmcAdd sig c d) := by
  unfold Machine.pmcAdd
  split
  · exact h
  · refine forEach_ind _ _ _ (forEach_ind _ _ _ h fun n x hx => ?_) fun p x hx => ?_
    · exact doIf_ind _ _ _ (hP.genAdd n c hx) hx
    · exact doIf_ind _ _ _ (hP.privAdd p c hx) hx

theorem pmcSup (hP : CounterKeeps P) (h : P d) : P (pmcSup d) := by
  unfold Machine.pmcSup
  split
  · exact h
  · exact hP.pmcAdd _ _ (hP.log d _ (by rfl) h)

/-- What the recorder and the counters keep, a record alone keeps. -/
theorem note (hP : CounterKeeps P) (r : LRec) (h : P d) : P (note r d) := hP.pmcSup (hP.offer r h)

end CounterKeeps

/-- A source that neither the recorder nor a performance counter raises. -/
def OutsideRecorder (q : Nat) : Prop := q ≠ 0x301 ∧ q ≠ 0x381

theorem weirKeeps_pendOf {q : Nat} (h : q ≠ 0x301) (x : Option EvPend) : WeirKeeps (fun e => pendOf e q = x) where
  suppressed d param hd := (pendOf_setPending_other d 0x1806 param h).trans hd
  log _ _ _ hd := hd

theorem counterKeeps_pendOf {q : Nat} (h : OutsideRecorder q) (x : Option EvPend) : CounterKeeps (fun e => pendOf e q = x) where
  toWeirKeeps := weirKeeps_pendOf h.1 x
  reg _ _ _ hd := hd
  wrapped d code param hd := (pendOf_setPending_other d code param h.2).trans hd

/-- A raise skips no sector of the archive. -/
theorem counterKeeps_badSect (l : List Nat) : CounterKeeps (fun e => e.log.badSect = l) where
  suppressed d _ hd := by unfold setPending; split_ifs <;> exact hd
  log _ _ hl hd := hl.trans hd
  reg _ _ _ hd := hd
  wrapped d _ _ hd := by unfold setPending; split_ifs <;> exact hd

theorem keepsRaise_note (r : LRec) (d : Dev) : keepsRaise d (note r d) :=
  keepsRaise_trans (keepsRaise_offer r d) (keepsRaise_pmcSup _)

/-- What a raise from its own block leaves: its event pending, and the record that goes to the recorder. -/
def raisedBySource (src code param : Nat) (d : Dev) : Dev :=
  note (evRec code param (Config.freeNat d.ctr) (Config.freeNat (d.ctr + 1)) (now16 d)) { setPending src code param d with ctr := d.ctr + 2 }

theorem eventRaiseF_ownBlock {src code param : Nat} {d : Dev} (hp : d.pwr.powered = true) (hsrc : sourceExists src = true)
    (hblk : code / 1024 = src / 128) (hcode : code % 1024 ≠ 0) : eventRaiseF src code param d = raisedBySource src code param d :=
  if_pos (by simp [hp, hsrc, hblk, hcode])

theorem pendOf_raisedBySource (src code param : Nat) (d : Dev) {q : Nat} (hq : OutsideRecorder q) :
    pendOf (raisedBySource src code param d) q = pendOf (setPending src code param d) q :=
  (counterKeeps_pendOf hq _).note _ rfl

theorem keepsRaise_raisedBySource (src code param : Nat) (d : Dev) : keepsRaise d (raisedBySource src code param d) :=
  keepsRaise_trans (keepsRaise_trans (keepsRaise_setPending src code param d) keepsRaise_with) (keepsRaise_note _ _)

/-- Settles O59: the source raised holds the event, and the record disturbs no source but the two of the recorder and the counters. -/
theorem raiseKeepsTheLatestOfItsSource : Obligations.RaiseKeepsTheLatestOfItsSource := by
  unfold Obligations.RaiseKeepsTheLatestOfItsSource
  intro src code param s hctl hp hsrc hblk hcode hrec hcnt
  have hkeep := keepsRaise_raisedBySource src.toNat code.toNat param.toNat s.toDev
  refine ⟨raisedBySource src.toNat code.toNat param.toNat s.toDev, runsTo_of_upd rfl (eventRaiseF_ownBlock hp hsrc hblk hcode),
    ?own, fun q hq hqrec hqcnt => ?others, fun a _ ha => hkeep.1 a ha,
    ⟨keepsRaise_ram hkeep, keepsRaise_badWords hkeep, keepsRaise_flash hkeep⟩⟩
  case own =>
    have hown := pendOf_setPending_same hctl src.toNat code.toNat param.toNat
    rw [Nat.mod_eq_of_lt param.isLt, ← pendOf_raisedBySource _ _ _ _ ⟨hrec, hcnt⟩] at hown
    exact hown
  case others =>
    exact (pendOf_raisedBySource _ _ _ _ ⟨hqrec, hqcnt⟩).trans (pendOf_setPending_other _ _ _ hq)

/-! ### The general performance counters (R437, R438) -/

section

variable {n : Nat} {d : Dev}

theorem setPending_regs (src code param : Nat) (d : Dev) : (setPending src code param d).regs = d.regs := by
  unfold setPending
  split_ifs <;> rfl

theorem weirKeeps_regs (m : Cells Word) : WeirKeeps (fun e => e.regs = m) where
  suppressed d _ hd := (setPending_regs _ _ _ d).trans hd
  log _ _ _ hd := hd

/-- An event writes no register, but for the counting of a suppressed record. -/
theorem rd_raiseRaw (code param p0 p1 p2 : Nat) (d : Dev) (a : Nat) : rd (raiseRaw code param p0 p1 p2 d) a = rd d a := by
  have hregs : (raiseRaw code param p0 p1 p2 d).regs = d.regs := (weirKeeps_regs _).offer _ (setPending_regs _ _ _ d)
  rw [rd, hregs, rd]

theorem rd_genWrap_other (n : Nat) (d : Dev) {a : Nat} (h : a ≠ PMC_GEN_STATUS n) : rd (genWrap n d) a = rd d a :=
  doIf_ind (P := fun e => rd e a = rd d a) _ _ _ ((rd_raiseRaw _ _ _ _ _ _ a).trans (rd_setF_other (f := PMC_GEN_STATUS_ovf n) _ d h))
    (rd_setF_other (f := PMC_GEN_STATUS_ovf n) _ d h)

theorem flag_genWrap_ovf (n : Nat) (d : Dev) : flag (genWrap n d) (PMC_GEN_STATUS_ovf n) = true := by
  have hset : fld (setF (PMC_GEN_STATUS_ovf n) 1 d) (PMC_GEN_STATUS_ovf n) = 1 :=
    fld_setF_same (PMC_GEN_STATUS_ovf n) 1 d (Nat.le_of_ble_eq_true rfl)
  have hrd : fld (genWrap n d) (PMC_GEN_STATUS_ovf n) = 1 := by
    refine doIf_ind (P := fun e => fld e (PMC_GEN_STATUS_ovf n) = 1) _ _ _ ?_ hset
    rw [fld, rd_raiseRaw]
    exact hset
  rw [flag, hrd]
  rfl

theorem rd64_genWrap (m : Nat) (d : Dev) : rd64 (genWrap n d) (PMC_GEN_LO m) = rd64 d (PMC_GEN_LO m) := by
  have hlo : PMC_GEN_LO m ≠ PMC_GEN_STATUS n := by unfold PMC_GEN_LO PMC_GEN_STATUS; omega
  have hhi : PMC_GEN_LO m + 4 ≠ PMC_GEN_STATUS n := by unfold PMC_GEN_LO PMC_GEN_STATUS; omega
  rw [rd64, rdN, rdN, rd_genWrap_other n d hlo, rd_genWrap_other n d hhi, ← rdN, ← rdN, ← rd64]

theorem rd64_wr64_otherCounter {m : Nat} (h : m ≠ n) (v : Nat) (d : Dev) :
    rd64 (wr64 (PMC_GEN_LO n) v d) (PMC_GEN_LO m) = rd64 d (PMC_GEN_LO m) := by
  rw [rd64, rdN, rdN, rd_wr64_other, rd_wr64_other, ← rdN, ← rdN, ← rd64]
  all_goals unfold PMC_GEN_LO; omega

theorem fld_wr64_counter {f : Fld} (h : f.reg % 16 = 0 ∨ f.reg % 16 = 12) (n v : Nat) (d : Dev) :
    fld (wr64 (PMC_GEN_LO n) v d) f = fld d f := by
  rw [fld, rd_wr64_other, fld]
  all_goals unfold PMC_GEN_LO; omega

theorem cfg_reg_mod (n : Nat) : PMC_GEN_CFG n % 16 = 0 := by unfold PMC_GEN_CFG; omega

theorem status_reg_mod (n : Nat) : PMC_GEN_STATUS n % 16 = 12 := by unfold PMC_GEN_STATUS; omega

theorem flag_wr64_status (m n v : Nat) (d : Dev) :
    flag (wr64 (PMC_GEN_LO n) v d) (PMC_GEN_STATUS_ovf m) = flag d (PMC_GEN_STATUS_ovf m) := by
  rw [flag, fld_wr64_counter (f := PMC_GEN_STATUS_ovf m) (.inr (status_reg_mod m)), flag]

theorem flag_wr64_ovfEv (m n v : Nat) (d : Dev) :
    flag (wr64 (PMC_GEN_LO n) v d) (PMC_GEN_CFG_ovf_ev m) = flag d (PMC_GEN_CFG_ovf_ev m) := by
  rw [flag, fld_wr64_counter (f := PMC_GEN_CFG_ovf_ev m) (.inl (cfg_reg_mod m)), flag]

/-- One count below the end of a counter. -/
theorem genAdd_below (h : rd64 d (PMC_GEN_LO n) + 1 < 2 ^ 48) :
    genAdd n 1 d = wr64 (PMC_GEN_LO n) (rd64 d (PMC_GEN_LO n) + 1) d := by
  simp only [genAdd, h, if_true, Nat.mod_eq_of_lt h]

/-- One count at the end of a counter with a chained partner steps the partner, where that is enabled (R438). -/
theorem genAdd_carries (h : rd64 d (PMC_GEN_LO n) + 1 = 2 ^ 48) (heven : n % 2 = 0) (hchain : flag d (PMC_GEN_CFG_chain (n + 1)) = true)
    (hen : flag d (PMC_GEN_CFG_en (n + 1)) = true) : genAdd n 1 d = genUpper (n + 1) 1 (wr64 (PMC_GEN_LO n) 0 d) := by
  simp [genAdd, h, heven, hchain, hen]

/-- One count at the end of a counter that carries into none (R438). -/
theorem genAdd_wraps (h : rd64 d (PMC_GEN_LO n) + 1 = 2 ^ 48) (hun : ¬ (n % 2 = 0 ∧ flag d (PMC_GEN_CFG_chain (n + 1)) = true)) :
    genAdd n 1 d = genWrap n (wr64 (PMC_GEN_LO n) 0 d) := by
  simp only [genAdd, h, lt_self_iff_false, if_false, hun, Nat.mod_self]

theorem rd64_genUpper (n c : Nat) (d : Dev) :
    rd64 (genUpper n c d) (PMC_GEN_LO n) = (rd64 d (PMC_GEN_LO n) + c) % 2 ^ 48 := by
  have hset : ∀ v, rd64 (wr64 (PMC_GEN_LO n) (v % 2 ^ 48) d) (PMC_GEN_LO n) = v % 2 ^ 48 := fun v =>
    rd64_wr64_same (lt_trans (Nat.mod_lt v (by decide)) (by decide)) d
  exact doIf_ind (P := fun e => rd64 e (PMC_GEN_LO n) = _) _ _ _ ((rd64_genWrap n _).trans (hset _)) (hset _)

theorem rd64_genUpper_other {m : Nat} (h : m ≠ n) (c : Nat) (d : Dev) :
    rd64 (genUpper n c d) (PMC_GEN_LO m) = rd64 d (PMC_GEN_LO m) :=
  doIf_ind (P := fun e => rd64 e (PMC_GEN_LO m) = _) _ _ _ ((rd64_genWrap m _).trans (rd64_wr64_otherCounter h _ d))
    (rd64_wr64_otherCounter h _ d)

theorem flag_genUpper_otherOvf {m : Nat} (h : m ≠ n) (c : Nat) (d : Dev) :
    flag (genUpper n c d) (PMC_GEN_STATUS_ovf m) = flag d (PMC_GEN_STATUS_ovf m) := by
  have hreg : PMC_GEN_STATUS m ≠ PMC_GEN_STATUS n := by unfold PMC_GEN_STATUS; omega
  refine doIf_ind (P := fun e => flag e (PMC_GEN_STATUS_ovf m) = _) _ _ _ ?_ (flag_wr64_status m n _ d)
  have hwrap := rd_genWrap_other n (wr64 (PMC_GEN_LO n) ((rd64 d (PMC_GEN_LO n) + c) % 2 ^ 48) d) hreg
  rw [flag, fld, show (PMC_GEN_STATUS_ovf m).reg = PMC_GEN_STATUS m from rfl, hwrap]
  exact flag_wr64_status m n _ d

/-- A chained pair counts as one counter of 96 bits (R438). -/
theorem genAdd_chained (heven : n % 2 = 0) (hchain : flag d (PMC_GEN_CFG_chain (n + 1)) = true)
    (hen : flag d (PMC_GEN_CFG_en (n + 1)) = true) (hlo : rd64 d (PMC_GEN_LO n) < 2 ^ 48) (hhi : rd64 d (PMC_GEN_LO (n + 1)) < 2 ^ 48) :
    rd64 (genAdd n 1 d) (PMC_GEN_LO (n + 1)) * 2 ^ 48 + rd64 (genAdd n 1 d) (PMC_GEN_LO n) =
      (rd64 d (PMC_GEN_LO (n + 1)) * 2 ^ 48 + rd64 d (PMC_GEN_LO n) + 1) % 2 ^ 96 ∧
    flag (genAdd n 1 d) (PMC_GEN_STATUS_ovf n) = flag d (PMC_GEN_STATUS_ovf n) := by
  have hne : n ≠ n + 1 := by omega
  by_cases hend : rd64 d (PMC_GEN_LO n) + 1 < 2 ^ 48
  · rw [genAdd_below hend, rd64_wr64_otherCounter hne.symm, rd64_wr64_same (by omega), flag_wr64_status]
    exact ⟨by omega, rfl⟩
  · rw [genAdd_carries (by omega) heven hchain hen, rd64_genUpper, rd64_genUpper_other hne, rd64_wr64_otherCounter hne.symm,
      rd64_wr64_same (by decide), flag_genUpper_otherOvf hne, flag_wr64_status]
    exact ⟨by omega, rfl⟩

theorem mem_pend_genWrap (hctl : domOn d .ctl = true) (hev : flag d (PMC_GEN_CFG_ovf_ev n) = true) (hn : n < 64) :
    ∃ x ∈ (genWrap n d).evq.pend, x.src = evSrc 0x1C01 n ∧ x.code = 0x1C01 ∧ x.param = n := by
  have hon : domOn (setF (PMC_GEN_STATUS_ovf n) 1 d) .ctl = true := by
    refine (domOnN_wr _ d ?_).trans hctl
    simp only [PMC_GEN_STATUS_ovf, PMC_GEN_STATUS, PWR_DOM_STATUS]
    omega
  have hsrc : evSrc 0x1C01 n ≠ 0x301 := (show evSrc 0x1C01 n = 0x381 from rfl).trans_ne (by decide)
  have hpend : pendOf (genWrap n d) (evSrc 0x1C01 n) = some
      { src := evSrc 0x1C01 n, code := 0x1C01, param := n % 2 ^ 32, near := near (setF (PMC_GEN_STATUS_ovf n) 1 d) } := by
    rw [genWrap, hev, doIf_true]
    exact (weirKeeps_pendOf hsrc _).offer _ (pendOf_setPending_same hon _ _ _)
  exact ⟨_, List.mem_of_find?_eq_some hpend, rfl, rfl, Nat.mod_eq_of_lt (by omega)⟩

/-- A counter wraps without a raise where it enables no event. -/
theorem genWrap_silent (hev : flag d (PMC_GEN_CFG_ovf_ev n) = false) : genWrap n d = setF (PMC_GEN_STATUS_ovf n) 1 d := by
  rw [genWrap, hev, doIf_false]

theorem not_carries_of_unchained (h : (if n % 2 = 0 then flag d (PMC_GEN_CFG_chain (n + 1)) else flag d (PMC_GEN_CFG_chain n)) = false) :
    ¬ (n % 2 = 0 ∧ flag d (PMC_GEN_CFG_chain (n + 1)) = true) := by
  rintro ⟨heven, hchain⟩
  rw [if_pos heven, hchain] at h
  cases h

end

/-- Settles O57: a chained pair by whether its lower counter is at its end, any other counter by whether it is. -/
theorem generalCountersWrapAndChain : Obligations.GeneralCountersWrapAndChain := by
  unfold Obligations.GeneralCountersWrapAndChain
  refine ⟨fun k d hchain hlo hhi => ⟨fun sig => ?upper, fun hen => genAdd_chained (by omega) hchain hen hlo hhi⟩, ?unchained⟩
  case upper => simp [genCounts, hchain]
  case unchained =>
    intro n d hun e
    refine ⟨fun hbelow => ?below, fun hend => ?wraps⟩
    case below =>
      have he : e = wr64 (PMC_GEN_LO n.val) (rd64 d (PMC_GEN_LO n.val) + 1) d := genAdd_below (by omega)
      rw [he, rd64_wr64_same (by omega), flag_wr64_status]
      exact ⟨rfl, rfl, rfl, rfl⟩
    case wraps =>
      have he : e = genWrap n.val (wr64 (PMC_GEN_LO n.val) 0 d) := genAdd_wraps (by omega) (not_carries_of_unchained hun)
      have hev := flag_wr64_ovfEv n.val n.val 0 d
      have hctl : domOn (wr64 (PMC_GEN_LO n.val) 0 d) .ctl = domOn d .ctl := by
        rw [domOn, domOnN, rd_wr64_other, ← domOnN, ← domOn]
        all_goals unfold PMC_GEN_LO PWR_DOM_STATUS; omega
      rw [he]
      refine ⟨(rd64_genWrap n.val _).trans (rd64_wr64_same (by decide) d), flag_genWrap_ovf n.val _, fun hoff => ?_, fun hon hd => ?_⟩
      · rw [genWrap_silent (hev.trans hoff)]
        exact ⟨rfl, rfl⟩
      · exact mem_pend_genWrap (hctl.trans hd) (hev.trans hon) n.isLt

end Sys2Proof.Proofs

/-! PROOFS about the requests for a device state, and about Low water and its wakes (R453, R458 to R464). -/

namespace Sys2Proof.Proofs

open Sys2Proof Sys2Proof.Machine Sys2Proof.Laws

/-! ### PWR_DOM_OFF and PWR_REQ (R453, R458) -/

section

variable {d : Dev} {st : Nat} {v : Word}

/-- No quad stays on without the SerDes reference domain that `v` names. -/
def NoQuadLeft (v : Word) (d : Dev) : Prop :=
  bitAt v (serdesDom d) = true → ∀ n, n ∈ [10, 11, 12, 13] → domOnN d n = true → bitAt v n = true

theorem domOffF_held (hrun : running d = true) (hhold : ∀ n, n < 14 → bitAt v n = true → canHold d n = true) (hquad : NoQuadLeft v d) :
    domOffF v d = settleDoms (setF PWR_RESULT_cause 0 (setF PWR_DOM_OFF_hold v.toNat d)) := by
  have hall : ((List.range 14).filter (fun n => bitAt v n)).any (fun n => !(canHold d n)) = false := by
    rw [List.any_eq_false]
    intro n hn
    obtain ⟨hlt, hbit⟩ := List.mem_filter.mp hn
    simp [hhold n (List.mem_range.mp hlt) hbit]
  have hlast : ¬ (((List.range 14).filter (fun n => bitAt v n)).contains (serdesDom d) = true ∧
      [10, 11, 12, 13].any (fun n => domOnN d n && !(((List.range 14).filter (fun n => bitAt v n)).contains n)) = true) := by
    rintro ⟨hserdes, hstays⟩
    obtain ⟨n, hn, hstay⟩ := List.any_eq_true.mp hstays
    obtain ⟨-, hbit⟩ := List.mem_filter.mp (List.contains_iff_mem.mp hserdes)
    obtain ⟨hon, hout⟩ := Bool.and_eq_true_iff.mp hstay
    have hlt : n < 14 := by simp only [List.mem_cons, List.not_mem_nil, or_false] at hn; omega
    have hin : n ∈ (List.range 14).filter (fun n => bitAt v n) :=
      List.mem_filter.mpr ⟨List.mem_range.mpr hlt, hquad hbit n hn hon⟩
    rw [List.contains_iff_mem.mpr hin] at hout
    cases hout
  unfold domOffF
  dsimp only
  rw [hrun, hall, if_neg (by decide), if_neg Bool.false_ne_true, if_neg (by rwa [Bool.and_eq_true])]

theorem running_of_state (h : devState d = 3 ∨ devState d = 4) : running d = true := by
  rcases h with h | h <;> simp [running, h, stStandby, stServe]

/-- A request with none pending, in Standby or Serve, by what it asks for. -/
theorem pwrRequest_accepts (h : devState d = 3 ∨ devState d = 4) (ht : d.pwr.trans = .none) : pwrRequest st d =
    if devState d = st then setF PWR_RESULT_cause 0 d
    else if st = stServe then reqAccept .toServe d
    else if st = stStandby then reqAccept .toStandby d
    else if devState d ≠ stStandby then reqRefuse 1 d
    else if fld d IMG_STATUS_source = 2 then reqRefuse 2 d
    else setF PWR_STATUS_lw 0 (reqAccept .toLow d) := by
  have hlow : devState d ≠ stLow := by unfold stLow; omega
  rw [pwrRequest, if_neg hlow, if_neg (not_not.mpr ht), running_of_state h]
  rfl

theorem pwrRequest_present (h : devState d = 3 ∨ devState d = 4) (ht : d.pwr.trans = .none) (hst : devState d = st) :
    pwrRequest st d = setF PWR_RESULT_cause 0 d := by
  rw [pwrRequest_accepts h ht, if_pos hst]

theorem pwrRequest_serve (h : devState d = 3) (ht : d.pwr.trans = .none) : pwrRequest stServe d = reqAccept .toServe d := by
  rw [pwrRequest_accepts (.inl h) ht, h]
  rfl

theorem pwrRequest_standby (h : devState d = 4) (ht : d.pwr.trans = .none) : pwrRequest stStandby d = reqAccept .toStandby d := by
  rw [pwrRequest_accepts (.inr h) ht, h]
  rfl

theorem pwrRequest_low (h : devState d = 3) (ht : d.pwr.trans = .none) (hflash : fld d IMG_STATUS_source ≠ 2) :
    pwrRequest stLow d = setF PWR_STATUS_lw 0 (reqAccept .toLow d) := by
  rw [pwrRequest_accepts (.inl h) ht, h]
  exact if_neg hflash

end

/-- Settles O14: the held domains by why they may be held, a request by the state it asks for. -/
theorem stateRequestsComplete : Obligations.StateRequestsComplete := by
  delta Obligations.StateRequestsComplete
  refine ⟨fun r v s hg hrun hhold hquad => ?domOff, fun r s hg ht => ?requests⟩
  case domOff => exact runsTo_of_write (k := domOffF v) rfl hg (domOffF_held hrun hhold hquad)
  case requests =>
    have hrun : ∀ {i : Instr} {st : Nat} {e : Dev}, exec i s = s.upd (guardWrite r PWR_REQ (pwrRequest st)) →
        pwrRequest st s.toDev = e → runsTo i s e := fun hx he => runsTo_of_write hx hg he
    refine ⟨fun h => ?_, fun h => ?_, fun h => ?_, fun h => ?_, fun h hflash => ?_⟩
    · exact hrun (st := stServe) rfl (pwrRequest_serve h ht)
    · exact hrun (st := stServe) rfl (pwrRequest_present (.inr h) ht h)
    · exact hrun (st := stStandby) rfl (pwrRequest_standby h ht)
    · exact hrun (st := stStandby) rfl (pwrRequest_present (.inl h) ht h)
    · exact hrun (st := stLow) rfl (pwrRequest_low h ht hflash)

/-! ### Wake sources (R459, R464) -/

section

variable {d : Dev} {n : Nat}

theorem wakeBy_abandons (hen : wakeEnabled d n = true) (ht : d.pwr.trans = .toLow) : wakeBy n d = lwAbandon d := by
  rw [wakeBy, hen, if_neg (by decide), if_pos ht]

theorem wakeBy_exits (hen : wakeEnabled d n = true) (ht : d.pwr.trans ≠ .toLow) (hlow : devState d = 2) :
    wakeBy n d = lwExit (setF ⟨PWR_WAKE_SRC, n, 1⟩ 1 d) := by
  rw [wakeBy, hen, if_neg (by decide), if_neg ht]
  exact if_pos hlow

/-- The exit target is armed and due. -/
def exitDue (d : Dev) : Bool := d.pwr.exitArmed && due (rd64 d PWR_LW_EXIT_LO) (near d)

/-- The exit target acts as wake source 2. -/
def exitTaken (d : Dev) : Dev := wakeBy 2 { d with pwr := { d.pwr with exitArmed := false } }

end

/-! ### The wakes (R460) -/

section

variable {d : Dev} {load lock : Bool}

theorem wakesDue_discipline (hs : fld d PWR_LW_DISC_s ≠ 0) (h : d.pwr.nextDisc ≤ now16 d) : (wakesDue d).1 = true := by
  simp only [wakesDue, hs, ne_eq, not_false_eq_true, decide_true, Bool.true_and, decide_eq_true_eq]
  exact Nat.le_add_right_of_le h

theorem wakesDue_gnss (hs : rdN d GN_LW_PERIOD ≠ 0) (hdom : domDeclared d 6 = true) (h : d.pwr.nextGnss ≤ now16 d) :
    (wakesDue d).2 = true := by
  simp only [wakesDue, hs, hdom, ne_eq, not_false_eq_true, decide_true, Bool.true_and, decide_eq_true_eq]
  exact Nat.le_add_right_of_le h

/-- The wake that starts with what is due now; without lock of PLL_TICK its discipline part fails. -/
def wakeBegins (load lock : Bool) (d : Dev) : Dev :=
  let d1 := wakeStart (wakesDue d).1 (wakesDue d).2 load lock d
  if devState d1 = 2 ∧ d1.pwr.wakeDisc = true ∧ lock = false then discFail d1 else d1

/-- A wake of one kind may start: Dormant or in a wake of the other kind, and due. -/
def WakeStarts (gnss : Bool) (d : Dev) : Prop :=
  devState d = 2 ∧ fld d PWR_STATUS_lw ≠ 0 ∧
    (if gnss then (wakesDue d).2 && !d.pwr.wakeGnss else (wakesDue d).1 && !d.pwr.wakeDisc) = true

theorem wakeF_starts {gnss : Bool} (h : WakeStarts gnss d) : wakeF gnss load lock d =
    if flag d PWR_STATUS_lw_wake then
      (if gnss then doIf (!(wakeJoin (!gnss) gnss d).pwr.wakeDisc) gnssBegin (wakeJoin (!gnss) gnss d) else wakeJoin (!gnss) gnss d)
    else wakeBegins load lock d := by
  obtain ⟨hlow, hlw, hmine⟩ := h
  have hready : wakeReady d = true := by simp [wakeReady, hlow, stLow, hlw]
  unfold wakeF
  dsimp only
  rw [hready, hmine, if_neg (by decide)]
  simp only [wakeBegins, Bool.and_eq_true, decide_eq_true_eq, Bool.not_eq_true', and_assoc]
  rfl

theorem wakeF_begins {gnss : Bool} (h : WakeStarts gnss d) (hw : flag d PWR_STATUS_lw_wake = false) :
    wakeF gnss load lock d = wakeBegins load lock d := by
  rw [wakeF_starts h, if_neg (ne_true_of_eq_false hw)]

theorem wakeF_disciplineJoins (h : WakeStarts false d) (hw : flag d PWR_STATUS_lw_wake = true) :
    wakeF false load lock d = wakeJoin true false d := by
  rw [wakeF_starts h, if_pos hw]
  rfl

/-- A GNSS wake that joins a discipline wake waits for its end. -/
theorem wakeF_gnssJoins (h : WakeStarts true d) (hw : flag d PWR_STATUS_lw_wake = true) (hdisc : d.pwr.wakeDisc = true) :
    wakeF true load lock d = wakeJoin false true d := by
  have hwait : (wakeJoin false true d).pwr.wakeDisc = true := by simp [wakeJoin, hdisc]
  rw [wakeF_starts h, if_pos hw, if_pos rfl, Bool.not_true, hwait, Bool.not_true, doIf_false]

end

/-! ### The discipline measurement and the end of a wake (R460 to R462, R230) -/

section

variable {d : Dev} {tau : Nat}

/-- A discipline wake runs in Low water. -/
def disciplines (d : Dev) : Bool := devState d == 2 && d.pwr.wakeDisc

theorem discMeasure_good {p : Int} (h : predAt d (near d) = some p) : discMeasure tau true d =
    (let t := discTerms tau (satS 48 (p + d.pwr.lwEns)) d
     let d1 := wr64 TB_LPC_INC_LO t.1 { d with lpc := { d.lpc with incAt := d.lpc.ck } }
     discOver (raise 0x0C07 (min t.2 (2 ^ 31 - 1)) (addBase t.2 d1))) := by
  simp only [discMeasure, h, Bool.not_true, Bool.false_eq_true, if_false]

theorem discMeasure_bad : discMeasure tau false d = discFail d := by
  cases h : predAt d (near d) <;> simp only [discMeasure, h, Bool.not_false, if_true]

theorem ephStored_noTracking (h : d.pwr.refreshTo = none) :
    ephStored d = { d with pwr := { d.pwr with ephAt := some (now16 d), ephBad := false } } := by
  simp [ephStored, h]

theorem refreshEnd_over {t : Nat} (h : d.pwr.refreshTo = some t) (ht : t ≤ now16 d) : refreshEnd d = gnssOver d := by
  simp only [refreshEnd, h, ht, decide_true, doIf_true]

theorem refreshEnd_tracks {t : Nat} (h : d.pwr.refreshTo = some t) (ht : now16 d < t) : refreshEnd d = d := by
  simp only [refreshEnd, h, decide_eq_false (Nat.not_le.mpr ht), doIf_false]

/-- A wake of Low water is over its limit. -/
theorem wakeCut_over (hlow : devState d = 2) (hw : flag d PWR_STATUS_lw_wake = true)
    (h : d.pwr.wakeAt + fld d PWR_LW_CTL_wake_max * sec16 < now16 d) :
    wakeCut d = wakeEnd (raise 0x0C08 2 d).pwr.wakeGnss (raise 0x0C08 2 d) := by
  rw [raise_pwr]
  exact if_pos (by simp [hlow, stLow, hw, h])

end

/-- Settles O15: each wake source and command by the branch that the state picks. -/
theorem lowWaterCommandsComplete : Obligations.LowWaterCommandsComplete := by
  delta Obligations.LowWaterCommandsComplete
  refine ⟨?sources, ?exitTarget, ?wakes, ?due, ?measured, ?failed, ?ephemerides, ?limit⟩
  case sources =>
    intro k s hp hen
    refine ⟨fun ht => ?_, fun ht hlow => ?_⟩
    · exact runsTo_of_powered (wakeBy k.val) rfl hp (wakeBy_abandons hen ht)
    · exact runsTo_of_powered (wakeBy k.val) rfl hp (wakeBy_exits hen ht hlow)
  case exitTarget =>
    intro s hp harm hdue
    have htaken : doIf (exitDue s.toDev) exitTaken s.toDev = exitTaken s.toDev := by simp [exitDue, harm, hdue]
    exact runsTo_of_powered (fun d => doIf (exitDue d) exitTaken d) rfl hp htaken
  case wakes =>
    intro load lock s hp hlow hlw w d1 d2
    have hdisc : ∀ {e : Dev}, wakeF false load lock s.toDev = e → runsTo (.disciplineWake load lock) s e :=
      runsTo_of_powered (wakeF false load lock) rfl hp
    have hgnss : ∀ {e : Dev}, wakeF true load lock s.toDev = e → runsTo (.gnssWake (.start load lock)) s e :=
      runsTo_of_powered (gnssWakeF (.start load lock)) rfl hp
    refine ⟨fun hdue hnot => ?_, fun hdue hnot => ?_⟩
    · have hstarts : WakeStarts false s.toDev := ⟨hlow, hlw, Bool.and_eq_true_iff.mpr ⟨hdue, by rw [hnot, Bool.not_false]⟩⟩
      exact ⟨fun hw => hdisc (wakeF_begins hstarts hw), fun hw => hdisc (wakeF_disciplineJoins hstarts hw)⟩
    · have hstarts : WakeStarts true s.toDev := ⟨hlow, hlw, Bool.and_eq_true_iff.mpr ⟨hdue, by rw [hnot, Bool.not_false]⟩⟩
      exact ⟨fun hw => hgnss (wakeF_begins hstarts hw), fun hw hd => hgnss (wakeF_gnssJoins hstarts hw hd)⟩
  case due => exact fun d => ⟨wakesDue_discipline, wakesDue_gnss⟩
  case measured =>
    intro tau p s hp hlow hdisc hpred
    have hruns : disciplines s.toDev = true := by simp [disciplines, hlow, hdisc]
    exact runsTo_of_powered (fun d => doIf (disciplines d) (discMeasure tau true) d) rfl hp
      ((if_pos hruns).trans (discMeasure_good hpred))
  case failed =>
    intro tau s hp hlow hdisc
    have hruns : disciplines s.toDev = true := by simp [disciplines, hlow, hdisc]
    exact runsTo_of_powered (fun d => doIf (disciplines d) (discMeasure tau false) d) rfl hp ((if_pos hruns).trans discMeasure_bad)
  case ephemerides =>
    intro s hp
    have hover : ∀ {e : Dev}, refreshEnd s.toDev = e → runsTo (.gnssWake .refreshOver) s e :=
      runsTo_of_powered (gnssWakeF .refreshOver) rfl hp
    refine ⟨fun hon hnone => ?_, fun t h => ⟨fun ht => hover (refreshEnd_over h ht), fun ht => hover (refreshEnd_tracks h ht)⟩⟩
    exact runsTo_of_powered (gnssWakeF .ephemerides) rfl hp ((if_pos hon).trans (ephStored_noTracking hnone))
  case limit => exact fun s hp hlow hw h => runsTo_of_powered wakeCut rfl hp (wakeCut_over hlow hw h)

end Sys2Proof.Proofs

/-! PROOFS about the archive of the recorder, and about the performance counters and their snapshot. -/

namespace Sys2Proof.Proofs

open Sys2Proof Sys2Proof.Machine Sys2Proof.Laws

/-! ### The archive (R429 to R432) -/

section

variable {ok : Bool} {d : Dev}

/-- A state block at the head, after the leap pages that wait. -/
def stateWritten (ok : Bool) (d : Dev) : Dev := putState (archTry ok (leapWrite d))

/-- The page in progress, after the leap pages that wait. -/
def recordsWritten (ok : Bool) (d : Dev) : Dev := recordPage ok (leapWrite d)

theorem stateBlock_on (h : domOn d .ctl = true) : stateBlock ok d = stateWritten ok d := if_pos h

theorem stateBlock_off (h : domOn d .ctl = false) : stateBlock ok d = d := if_neg (ne_true_of_eq_false h)

theorem archiveFlushF_on (h : domOn d .ctl = true) : archiveFlushF ok d = recordsWritten ok d := if_pos h

theorem archiveFlushF_off (h : domOn d .ctl = false) : archiveFlushF ok d = d := if_neg (ne_true_of_eq_false h)

/-- When the next periodic state block is due. -/
def periodEnd (d : Dev) : Nat := d.log.periodAt + atLeast1 (rdN d LOG_ARCH_PERIOD) * 32768

theorem periodBlock_due (hon : domOn d .ctl = true) (h : periodEnd d ≤ d.lpc.ck) :
    periodBlock ok d = stateWritten ok { d with log := { d.log with periodAt := d.lpc.ck } } := by
  unfold periodEnd at h
  rw [periodBlock, archOn, hon, decide_eq_true h, Bool.and_self, doIf_true]
  exact stateBlock_on hon

theorem periodBlock_rests (h : domOn d .ctl = false ∨ d.lpc.ck < periodEnd d) : periodBlock ok d = d :=
  if_neg (by rcases h with h | h <;> simp_all [archOn, periodEnd])

/-- From when on a forced state block may be written. -/
def forcedFrom (d : Dev) : Nat := d.log.forcedAt.elim 0 (fun t => t + 32768)

/-- A forced block is written where PD_CTL is on, one waits, and the last one is a second old. -/
theorem forcedBlock_eq : forcedBlock ok d = doIf (domOn d .ctl && d.log.forced && decide (forcedFrom d ≤ d.lpc.ck))
    (fun x => stateBlock ok { x with log := { x.log with forcedAt := some x.lpc.ck } }) d := by
  unfold forcedBlock forcedFrom
  cases d.log.forcedAt with
  | none => simp [archOn]
  | some t => rfl

theorem forcedBlock_due (hon : domOn d .ctl = true) (hw : d.log.forced = true) (h : forcedFrom d ≤ d.lpc.ck) :
    forcedBlock ok d = stateWritten ok { d with log := { d.log with forcedAt := some d.lpc.ck } } := by
  rw [forcedBlock_eq, hon, hw, decide_eq_true h, Bool.and_self, Bool.and_self, doIf_true]
  exact stateBlock_on hon

theorem forcedBlock_rests (h : domOn d .ctl = false ∨ d.log.forced = false ∨ d.lpc.ck < forcedFrom d) : forcedBlock ok d = d := by
  rw [forcedBlock_eq]
  exact if_neg (by rcases h with h | h | h <;> simp [h])

/-- The head waits to enter its sector. -/
def entersSector (d : Dev) : Bool := archOn d && archPage d == 0

/-- The page in progress is to be programmed. -/
def programsPage (d : Dev) : Bool := archOn d && pageDue d

theorem recordPage_empty (h : pageSeqs d = []) : recordPage ok d = d := by rw [recordPage, h]; rfl

/-- A raise skips no sector. -/
theorem raise_badSect (code param : Nat) (d : Dev) : (raise code param d).log.badSect = d.log.badSect := by
  refine (counterKeeps_badSect d.log.badSect).note _ ?_
  unfold setPending
  split_ifs <;> rfl

/-- A sector that three erases gave no header is skipped (R432). -/
theorem enterSector_skips : enterSector false d = lifeAdd 11 3 (setF LOG_ARCH_HEAD_sector
    (nextSector (d.log.badSect ++ [archSector d]) 64 (archSector d + 1)) (raise 0x1803 (archSector d) (setF LOG_STATUS_flash_err 1
      { d with log := { d.log with badSect := d.log.badSect ++ [archSector d] } }))) := by
  simp only [enterSector, archFail, raise_badSect, Bool.not_false, if_true, Nat.zero_mul, Nat.add_zero, setF_log]

end

/-- Settles O51: each command by whether PD_CTL is on and what it waits for. -/
theorem archiveCommandsComplete : Obligations.ArchiveCommandsComplete := by
  delta Obligations.ArchiveCommandsComplete
  refine ⟨?blocks, ?commands, fun d h ok => recordPage_empty h, fun d => enterSector_skips⟩
  case blocks =>
    intro ok s wait soon
    have hperiod : ∀ {e : Dev}, periodBlock ok s.toDev = e → runsTo (.stateBlockPeriod ok) s e := runsTo_of_upd rfl
    have hforced : ∀ {e : Dev}, forcedBlock ok s.toDev = e → runsTo (.forcedStateBlock ok) s e := runsTo_of_upd rfl
    have herase : ∀ {e : Dev}, doIf (entersSector s.toDev) (enterSector ok) s.toDev = e → runsTo (.archiveSectorErase ok) s e :=
      runsTo_of_upd (f := fun d => doIf (entersSector d) (enterSector ok) d) rfl
    have hprogram : ∀ {e : Dev}, doIf (programsPage s.toDev) (recordsWritten ok) s.toDev = e → runsTo (.recorderPageProgram ok) s e :=
      runsTo_of_upd (f := fun d => doIf (programsPage d) (recordsWritten ok) d) rfl
    refine ⟨fun hoff => ?off, fun hon => ?on, fun h => hperiod (periodBlock_rests (.inr h)), fun h => hforced (forcedBlock_rests (.inr h))⟩
    case off =>
      simp only [List.forall_mem_cons, List.not_mem_nil, false_imp_iff, implies_true, and_true]
      refine ⟨hperiod (periodBlock_rests (.inl hoff)), hforced (forcedBlock_rests (.inl hoff)), herase ?_, hprogram ?_⟩
      · exact if_neg (by simp [entersSector, archOn, hoff])
      · exact if_neg (by simp [programsPage, archOn, hoff])
    case on =>
      refine ⟨fun h => hperiod (periodBlock_due hon h), fun hw h => hforced (forcedBlock_due hon hw h), fun h => herase ?_,
        fun h => herase ?_, fun h => hprogram ?_, fun h => hprogram ?_⟩
      · exact if_pos (by simp [entersSector, archOn, hon, h])
      · exact if_neg (by simp [entersSector, h])
      · exact if_pos (by simp [programsPage, archOn, hon, h])
      · exact if_neg (by simp [programsPage, h])
  case commands =>
    intro r ok s hg
    have hnow : ∀ {e : Dev}, stateBlock ok s.toDev = e → runsTo (.stateNow r ok) s e := runsTo_of_write (k := stateBlock ok) rfl hg
    have hflush : ∀ {e : Dev}, archiveFlushF ok s.toDev = e → runsTo (.archiveFlush r ok) s e :=
      runsTo_of_write (k := archiveFlushF ok) rfl hg
    exact ⟨fun hon => ⟨hnow (stateBlock_on hon), hflush (archiveFlushF_on hon)⟩,
      fun hoff => ⟨hnow (stateBlock_off hoff), hflush (archiveFlushF_off hoff)⟩⟩

/-! ### Configurations and counting (R437 to R440) -/

section

variable {r : Req} {user : Bool} {a n inc : Nat} {v : Word} {d : Dev}

theorem genCfgF_unknown (h : knownSel (bitsOf v 0 16) = false) : genCfgF r n v d = setF PMC_RESULT_cause 1 d := by
  rw [genCfgF, h]
  rfl

theorem genCfgF_known (h : knownSel (bitsOf v 0 16) = true) :
    genCfgF r n v d = setF PMC_RESULT_cause 0 (fieldWrite r (PMC_GEN_CFG n) v d) := by
  rw [genCfgF, h]
  rfl

/-- A write of a privileged register, by who writes. -/
theorem privWriteF_priv (ha : privReg a = true) : privWriteF r user a v d =
    if r ≠ .fw ∨ user = true then setF PMC_RESULT_cause 2 d
    else if (privCfg a && !(knownSel (bitsOf v 0 16))) = true then setF PMC_RESULT_cause 1 d
    else setF PMC_RESULT_cause 0 (fieldWrite r a v d) := by
  rw [privWriteF, ha]
  rfl

/-- The signal of counter `n` of the general ones reaches it. -/
def genTakes (n : Nat) (d : Dev) : Bool :=
  genCounts d n (fld d (PMC_GEN_CFG_sel n)) && clockSignal d (fld d (PMC_GEN_CFG_sel n))

/-- The signal of privileged counter `p` reaches it. -/
def privTakes (p : Nat) (d : Dev) : Bool := flag d (PMC_PRIV_CFG_en p) && clockSignal d (fld d (PMC_PRIV_CFG_sel p))

theorem counterAdd_stopped (h : domOn d .ctl = false ∨ flag d PMC_FREEZE_freeze = true) : counterAdd n inc d = d :=
  if_pos (by rcases h with h | h <;> simp [h])

theorem counterAdd_general (hon : domOn d .ctl = true) (hf : flag d PMC_FREEZE_freeze = false) (hn : n < 64) :
    counterAdd n inc d = doIf (genTakes n d) (fun x => pmcSup (genAdd n inc x)) d := by
  simp only [counterAdd, hon, hf, hn, Bool.not_true, Bool.or_self, Bool.false_eq_true, if_false, if_true, genTakes]

theorem counterAdd_privileged (hon : domOn d .ctl = true) (hf : flag d PMC_FREEZE_freeze = false) (hn : 64 ≤ n) :
    counterAdd n inc d = doIf (privTakes (n - 64) d) (fun x => pmcSup (privAdd (n - 64) inc x)) d := by
  simp only [counterAdd, hon, hf, Nat.not_lt.mpr hn, Bool.not_true, Bool.or_self, Bool.false_eq_true, if_false, privTakes]

theorem genTakes_eq (n : Nat) (d : Dev) : genTakes n d = (flag d (PMC_GEN_CFG_en n) &&
    !(n % 2 == 1 && flag d (PMC_GEN_CFG_chain n)) && clockSignal d (fld d (PMC_GEN_CFG_sel n))) := by
  rw [genTakes, genCounts, beq_self_eq_true, Bool.and_true]

end

/-! ### The snapshot (R441) -/

section

variable {l : Nat} {d : Dev}

theorem snapGo_busy (h : flag d PMC_STATUS_busy = true) : snapGo d = setF PMC_RESULT_cause 3 d := if_pos h

/-- Ledger `l` is copied or marked off in the snapshot. -/
def ledgerSeen (l : Nat) (d : Dev) : Prop :=
  fld d PMC_SNAP_DONE_done / 2 ^ l % 2 = 1 ∨ fld d PMC_SNAP_DONE_off / 2 ^ l % 2 = 1

/-- Ledger `l` copied, or marked off where its domain is off. -/
def ledgerTaken (l : Nat) (d : Dev) : Dev :=
  if ledgerOn d l = true then setF ⟨PMC_SNAP_DONE, l, 1⟩ 1 (ledgerTerms l d) else setF ⟨PMC_SNAP_DONE, 8 + l, 1⟩ 1 d

theorem ledgerCopyF_rests (h : domOn d .ctl = false ∨ flag d PMC_STATUS_busy = false ∨ ledgerSeen l d) : ledgerCopyF l d = d := by
  unfold ledgerSeen at h
  refine if_pos ?_
  rcases h with h | h | h
  · simp [h]
  · simp [h]
  · rcases h with h | h <;> simp [h]

/-- The end of a snapshot, with event 0x1C03 of its sequence number. -/
def snapshotEnds (d : Dev) : Dev := raise 0x1C03 (rdN (setF PMC_STATUS_busy 0 d) PMC_SNAP_SEQ) (setF PMC_STATUS_busy 0 d)

theorem rdN_snapSeq (d : Dev) : rdN (setF PMC_STATUS_busy 0 d) PMC_SNAP_SEQ = rdN d PMC_SNAP_SEQ := by
  rw [rdN, rd_setF_other (f := PMC_STATUS_busy) _ _ (by decide), ← rdN]

theorem ledgerCopyF_copies (hon : domOn d .ctl = true) (hb : flag d PMC_STATUS_busy = true) (h : ¬ ledgerSeen l d) :
    ledgerCopyF l d = doIf (fld (ledgerTaken l d) PMC_SNAP_DONE_done + fld (ledgerTaken l d) PMC_SNAP_DONE_off == 63) snapshotEnds
      (ledgerTaken l d) := by
  unfold ledgerSeen at h
  have hrun : ¬ (!(domOn d .ctl) || !(flag d PMC_STATUS_busy) ||
      (fld d PMC_SNAP_DONE_done / 2 ^ l % 2 == 1 || fld d PMC_SNAP_DONE_off / 2 ^ l % 2 == 1)) = true := by simpa [hon, hb] using h
  rw [show snapshotEnds = fun x => raise 0x1C03 (rdN x PMC_SNAP_SEQ) (setF PMC_STATUS_busy 0 x) from
    funext fun x => by rw [snapshotEnds, rdN_snapSeq]]
  exact if_neg hrun

end

/-- Settles O52: a write by its selector and its writer, a count by what reaches the counter, the snapshot by whether one runs, a ledger by
whether it was seen and is the last. -/
theorem performanceCounterCommandsComplete : Obligations.PerformanceCounterCommandsComplete := by
  delta Obligations.PerformanceCounterCommandsComplete
  refine ⟨?general, ?privileged, ?counts, ?snapshot, ?ledgers⟩
  case general =>
    intro r n v s hg
    have hrun : ∀ {e : Dev}, genCfgF r n.val v s.toDev = e → runsTo (.pmcGenCfgWrite r n v) s e :=
      runsTo_of_write (k := genCfgF r n.val v) rfl hg
    exact ⟨fun h => hrun (genCfgF_unknown h), fun h => hrun (genCfgF_known h)⟩
  case privileged =>
    intro r user a v s hg ha
    have hrun : ∀ {e : Dev}, _ = e → runsTo (.pmcPrivWrite r user a v) s e := fun he =>
      runsTo_of_write (k := privWriteF r user a.toNat v) rfl hg ((privWriteF_priv ha).trans he)
    refine ⟨fun h => hrun (if_pos h), fun hr hu hc hk => hrun ?_, fun hr hu h => hrun ?_⟩
    · simp [hr, hu, hc, hk]
    · rcases h with h | h <;> simp [hr, hu, h]
  case counts =>
    intro n inc s
    have hrun : ∀ {e : Dev}, counterAdd n.val inc s.toDev = e → runsTo (.counterWrap n inc) s e := runsTo_of_upd rfl
    refine ⟨fun h => hrun (counterAdd_stopped h), fun hon hf => ⟨fun hn hen hch hsig => ?_, fun hn h => ?_, fun hn hen hsig => ?_,
      fun hn h => ?_⟩⟩
    · refine hrun ((counterAdd_general hon hf hn).trans (if_pos ?_))
      rcases hch with hch | hch <;> simp [genTakes_eq, hen, hch, hsig]
    · refine hrun ((counterAdd_general hon hf hn).trans (if_neg ?_))
      rcases h with h | ⟨hodd, hch⟩ | h
      · simp [genTakes_eq, h]
      · simp [genTakes_eq, hodd, hch]
      · simp [genTakes_eq, h]
    · exact hrun ((counterAdd_privileged hon hf hn).trans (if_pos (by simp [privTakes, hen, hsig])))
    · refine hrun ((counterAdd_privileged hon hf hn).trans (if_neg ?_))
      rcases h with h | h <;> simp [privTakes, h]
  case snapshot =>
    intro r s hg
    have hrun : ∀ {e : Dev}, snapGo s.toDev = e → runsTo (.pmcSnap r) s e := runsTo_of_write (k := snapGo) rfl hg
    refine ⟨fun h => hrun (snapGo_busy h), fun h => hrun ?_⟩
    exact if_neg (ne_true_of_eq_false h)
  case ledgers =>
    intro l s seen d1
    have hrun : ∀ {e : Dev}, ledgerCopyF l.val s.toDev = e → runsTo (.ledgerCopy l) s e := runsTo_of_upd rfl
    refine ⟨fun h => hrun (ledgerCopyF_rests h), fun hon hb hnot => ⟨fun h => hrun ?_, fun h => hrun ?_⟩⟩
    · exact (ledgerCopyF_copies hon hb hnot).trans (if_neg (mt eq_of_beq h))
    · exact (ledgerCopyF_copies hon hb hnot).trans (if_pos (beq_iff_eq.mpr h))

end Sys2Proof.Proofs

/-! PROOFS about the DMA unit (R378 to R384). -/

namespace Sys2Proof.Proofs

open Sys2Proof Sys2Proof.Machine Sys2Proof.Laws

/-! ### Heads and activation (R378, R384) -/

section

variable {ch : Nat} {d : Dev}

/-- A channel is Idle and enabled with work in its ring. -/
def dmaHasWork (ch : Nat) (d : Dev) : Bool :=
  dmaOn d && dmaState d ch == 0 && flag d (CTL_DMA_CFG_enable ch) && decide (dmaHead d ch ≠ dmaTail d ch)

theorem dmaActivate_work (h : dmaHasWork ch d = true) : dmaActivate ch d = setF (CTL_DMA_STATE_state ch) 1 d := if_pos h

theorem dmaActivate_rests (h : dmaHasWork ch d = false) : dmaActivate ch d = d := if_neg (ne_true_of_eq_false h)

end

/-! ### The channel that moves a beat (R381) -/

theorem le_foldl_max (f : Nat → Nat) (l : List Nat) (m : Nat) :
    m ≤ l.foldl (fun m c => max m (f c)) m ∧ ∀ k ∈ l, f k ≤ l.foldl (fun m c => max m (f c)) m := by
  induction l generalizing m with
  | nil => simp
  | cons x xs ih =>
    obtain ⟨hstart, hall⟩ := ih (max m (f x))
    refine ⟨(le_max_left m (f x)).trans hstart, List.forall_mem_cons.mpr ⟨(le_max_right m (f x)).trans hstart, hall⟩⟩

/-- The channel picked is ready, and no ready channel has a higher priority. -/
theorem dmaPick_highest {d : Dev} {ch : Nat} (h : dmaPick d = some ch) : dmaReady d ch = true ∧
    ∀ k, k < 16 → dmaReady d k = true → fld d (CTL_DMA_CFG_prio k) ≤ fld d (CTL_DMA_CFG_prio ch) := by
  unfold dmaPick at h
  dsimp only at h
  have hpicked := List.find?_some h
  rw [Bool.and_eq_true_iff] at hpicked
  obtain ⟨hin, htop⟩ := hpicked
  obtain ⟨-, hready⟩ := List.mem_filter.mp (List.contains_iff_mem.mp hin)
  refine ⟨hready, fun k hk hkr => ?_⟩
  obtain ⟨-, hall⟩ := le_foldl_max (fun c => fld d (CTL_DMA_CFG_prio c)) ((List.range 16).filter (dmaReady d)) 0
  exact (hall k (List.mem_filter.mpr ⟨List.mem_range.mpr hk, hkr⟩)).trans_eq (eq_of_beq htop).symm

section

variable {ok : Bool} {d : Dev}

/-- The channels with work activated and their descriptors fetched. -/
def dmaFilled (d : Dev) : Dev :=
  forEach (List.range 16) (fun ch x => forEach (List.range 8) (fun _ y => dmaFetch ch y) (dmaActivate ch x)) d

/-- Channel `ch` noted as the one served last of its priority. -/
def dmaServed (ch : Nat) (d : Dev) : Dev :=
  { d with ctl := { d.ctl with served := cput (fun _ => 0) d.ctl.served (fld d (CTL_DMA_CFG_prio ch)) ((ch + 1) % 16) } }

theorem dmaBeatF_off (h : dmaOn d = false) : dmaBeatF ok d = d := if_pos (by rw [h, Bool.not_false])

theorem dmaBeatF_none (hon : dmaOn d = true) (h : dmaPick (dmaFilled d) = none) : dmaBeatF ok d = dmaFilled d := by
  unfold dmaFilled at h
  simp [dmaBeatF, hon, h, dmaFilled]

theorem dmaFront_dmaServed (ch k : Nat) (d : Dev) : dmaFront (dmaServed k d) ch = dmaFront d ch := rfl

theorem dmaBeatF_moves {ch i : Nat} {ws : List Word} (hon : dmaOn d = true) (h : dmaPick (dmaFilled d) = some ch)
    (hf : dmaFront (dmaFilled d) ch = some (i, ws)) : dmaBeatF ok d = dmaBeatOf ch ok ws (dmaServed ch (dmaFilled d)) := by
  rw [← dmaFront_dmaServed ch ch] at hf
  unfold dmaServed dmaFilled at hf
  unfold dmaFilled at h
  simp only [dmaBeatF, hon, h, hf, Bool.not_true, Bool.false_eq_true, if_false, dmaServed, dmaFilled]

end

/-! ### Retiring, parking and the commands of a channel (R378, R382, R383) -/

section

variable {ch : Nat} {d : Dev}

theorem retireOp_invalid {x : Nat × List Word} {c : Nat} (hf : dmaFront d ch = some x) (hb : (dch d ch).bad = some c) :
    retireOp ch d = dmaGoOn ch (dmaRetire ch 3 c d) := by
  simp only [retireOp, hf, hb]

theorem retireOp_valid {i : Nat} {ws : List Word} (hf : dmaFront d ch = some (i, ws)) (hb : (dch d ch).bad = none) :
    retireOp ch d = if (dch d ch).done = descLen ws then dmaGoOn ch (dmaRetire ch 0 0 d) else d := by
  simp only [retireOp, hf, hb]

theorem retireOp_empty (hf : dmaFront d ch = none) : retireOp ch d = d := by simp only [retireOp, hf]

/-- What DESCRIPTOR_RETIRE acts on. -/
def dmaRuns (ch : Nat) (d : Dev) : Bool := dmaOn d && dmaState d ch == 1

/-- What DMA_PARK acts on: a running channel, for one of the causes of R382. -/
def dmaParks (ch cause : Nat) (d : Dev) : Bool := dmaOn d && dmaState d ch == 1 && decide (1 ≤ cause) && decide (cause ≤ 10)

/-- A resume fits the channel: parked with a resumable record, or paused. -/
def dmaResumes (ch : Nat) (d : Dev) : Bool :=
  (dmaState d ch == 3 && bitAt (rd d (CTL_DMA_RES ch 0)) 21) || dmaState d ch == 2

/-- The parked descriptor retired with result 2. -/
def dmaSkipped (ch : Nat) (d : Dev) : Dev := dmaGoOn ch (dmaRetire ch 2 0 d)

/-- A command of a channel has its effect, after result 0, in a state that fits. -/
theorem runsTo_of_dmaCmd {i : Instr} {r : Req} {s : State} {e : Dev} (fits : Dev → Bool) (f : Dev → Dev)
    (hx : exec i s = s.upd (guardWrite r (CTL_DMA_CMD ch) (fun d => dmaCmd (fits d) f d)))
    (hg : granted s.toDev r (CTL_DMA_CMD ch) = true) (h : fits s.toDev = true) (he : f (setF CTL_RESULT_cause 0 s.toDev) = e) :
    runsTo i s e :=
  runsTo_of_write hx hg ((if_pos h).trans he)

/-- In another state it gets cause 3. -/
theorem runsTo_of_dmaCmd_refused {i : Instr} {r : Req} {s : State} (fits : Dev → Bool) (f : Dev → Dev)
    (hx : exec i s = s.upd (guardWrite r (CTL_DMA_CMD ch) (fun d => dmaCmd (fits d) f d)))
    (hg : granted s.toDev r (CTL_DMA_CMD ch) = true) (h : fits s.toDev = false) :
    runsTo i s (setF CTL_RESULT_cause 3 s.toDev) :=
  runsTo_of_write hx hg (if_neg (ne_true_of_eq_false h))

end

/-- Settles O46: a head by whether it activates the channel, a beat by the channel picked, a retirement by the descriptor in front, a
command by the channel's state. -/
theorem dmaCommandsComplete : Obligations.DmaCommandsComplete := by
  delta Obligations.DmaCommandsComplete
  refine ⟨?heads, ?beats, fun d ch => dmaPick_highest, ?running, ?resting, ?commands⟩
  case heads =>
    intro r ch v s hg d1 go
    have hrun : ∀ {e : Dev}, dmaActivate ch.val d1 = e → runsTo (.dmaHeadWrite r ch v) s e :=
      runsTo_of_write (k := dmaHeadOp ch.val v) rfl hg
    exact ⟨fun h => hrun (dmaActivate_work h), fun h => hrun (dmaActivate_rests h)⟩
  case beats =>
    intro ok s
    have hrun : ∀ {e : Dev}, dmaBeatF ok s.toDev = e → runsTo (.dmaBeat ok) s e := runsTo_of_upd rfl
    refine ⟨fun hoff => hrun (dmaBeatF_off hoff), fun hon => ?_⟩
    intro d1
    have hfilled : d1 = dmaFilled s.toDev := rfl
    clear_value d1
    rw [hfilled]
    exact ⟨fun h => hrun (dmaBeatF_none hon h), fun ch i ws h hf => hrun (dmaBeatF_moves hon h hf)⟩
  case running =>
    intro ch s hon hst
    have hrun : ∀ {e : Dev}, retireOp ch.val s.toDev = e → runsTo (.descriptorRetire ch) s e :=
      runsTo_of_doIf (c := dmaRuns ch.val) rfl (by simp [dmaRuns, hon, hst])
    refine ⟨fun x c hf hb => hrun (retireOp_invalid hf hb), fun i ws hf hb h => hrun ((retireOp_valid hf hb).trans (if_pos h)),
      fun i ws hf hb h => hrun ((retireOp_valid hf hb).trans (if_neg h)), fun hf => hrun (retireOp_empty hf), fun c side va hlo hhi => ?_⟩
    have hparks : dmaParks ch.val c.val s.toDev = true := by simp [dmaParks, hon, hst, hlo, hhi]
    exact runsTo_of_upd
      (f := fun d => doIf (dmaParks ch.val c.val d) (dmaParkOp ch.val c.val side (memBoth d ch.val) va) d) rfl (if_pos hparks)
  case resting =>
    intro ch c side va s hst
    have hparks : ¬ dmaParks ch.val c.val s.toDev = true := by simp [dmaParks, hst]
    have hruns : dmaRuns ch.val s.toDev = false := by simp [dmaRuns, hst]
    exact ⟨runsTo_of_upd
      (f := fun d => doIf (dmaParks ch.val c.val d) (dmaParkOp ch.val c.val side (memBoth d ch.val) va) d) rfl (if_neg hparks),
      runsTo_of_doIf_false (c := dmaRuns ch.val) rfl hruns⟩
  case commands =>
    intro r ch s hg ok no
    refine ⟨fun h => ?_, fun h => ?_, fun h => ?_, fun h => ?_, fun h => ?_, fun h => ?_, fun h => ?_, fun h => ?_⟩
    · exact runsTo_of_dmaCmd (dmaResumes ch.val) (setF (CTL_DMA_STATE_state ch.val) 1) rfl hg (by simpa [dmaResumes] using h) rfl
    · refine runsTo_of_dmaCmd_refused (dmaResumes ch.val) (setF (CTL_DMA_STATE_state ch.val) 1) rfl hg ?_
      rcases h with h | ⟨h, hres⟩
      · simp [dmaResumes, show dmaState s.toDev ch.val ≠ 3 by omega, show dmaState s.toDev ch.val ≠ 2 by omega]
      · simp [dmaResumes, h, hres]
    · exact runsTo_of_dmaCmd (fun d => dmaState d ch.val == 1) (setF (CTL_DMA_STATE_state ch.val) 2) rfl hg (by simp [h]) rfl
    · exact runsTo_of_dmaCmd_refused (fun d => dmaState d ch.val == 1) (setF (CTL_DMA_STATE_state ch.val) 2) rfl hg (by simp [h])
    · exact runsTo_of_dmaCmd (fun d => dmaState d ch.val == 3) (dmaSkipped ch.val) rfl hg (by simp [h]) rfl
    · exact runsTo_of_dmaCmd_refused (fun d => dmaState d ch.val == 3) (dmaSkipped ch.val) rfl hg (by simp [h])
    · exact runsTo_of_dmaCmd (fun d => dmaState d ch.val != 0) (dmaAbortOp ch.val) rfl hg (by simp [h]) rfl
    · exact runsTo_of_dmaCmd_refused (fun d => dmaState d ch.val != 0) (dmaAbortOp ch.val) rfl hg (by simp [h])

end Sys2Proof.Proofs

/-! PROOFS about the pipelines and the credits that they wait for (R279, R281, R316, R317). -/

namespace Sys2Proof.Proofs

open Sys2Proof Sys2Proof.Machine Sys2Proof.Laws

/-! ### One operation of a pipeline (R279, R316) -/

section

variable {p : Nat} {o : PipeObs} {x : PItem} {xs : List PItem} {d : Dev}

/-- The kinds of credit that the message of `x` needs, each once. -/
def itemNeeds (o : PipeObs) (x : PItem) (d : Dev) : List Bool := (credNeeds o x.msg d).eraseDups

/-- Every credit that `x` needs is to be had. -/
def CreditsFree (o : PipeObs) (x : PItem) (d : Dev) : Prop := ∀ k ∈ itemNeeds o x d, crdForPipe d k = true

/-- The job of `x` was lost with an engine that is fenced. -/
def JobIsLost (o : PipeObs) (x : PItem) (d : Dev) : Prop :=
  o.lost = true ∧ ∃ k ∈ itemNeeds o x d, ∃ e, e < 24 ∧ decide (8 ≤ e) = k ∧ engFenced d e = true

/-- The head of a queue holds its credits while it is worked on. -/
def itemWorked (p : Nat) (o : PipeObs) (x : PItem) (xs : List PItem) (d : Dev) : Dev :=
  crdUse (p + 1) (itemNeeds o x d) (msgOp p x.msg o) (setWait p none (setPipeQ p xs d))

theorem pipeOp_empty (hq : pipeQ d p = []) : pipeOp p o d = d := by simp only [pipeOp, hq]

theorem pipeOp_fenced (hu : unitOut d (0x21 + p) = true) : pipeOp p o d = d := by
  cases hq : pipeQ d p with
  | nil => exact pipeOp_empty hq
  | cons x xs => simp only [pipeOp, hq, hu, if_true]

theorem pipeOp_lacks (hq : pipeQ d p = x :: xs) (hu : unitOut d (0x21 + p) = false)
    (h : ∃ k ∈ itemNeeds o x d, crdForPipe d k = false) :
    pipeOp p o d = if (cget (fun _ => none) d.net.waits p).isSome = true then d else setWait p (some (near d)) d := by
  have hlack : (itemNeeds o x d).any (fun k => !(crdForPipe d k)) = true := by
    obtain ⟨k, hk, hno⟩ := h
    exact List.any_eq_true.mpr ⟨k, hk, by rw [hno, Bool.not_false]⟩
  unfold itemNeeds at hlack
  simp only [pipeOp, hq, hu, hlack, Bool.false_eq_true, if_false, if_true]
  cases cget (fun _ => none) d.net.waits p <;> rfl

theorem not_lacks_of_free (h : CreditsFree o x d) : (itemNeeds o x d).any (fun k => !(crdForPipe d k)) = false := by
  rw [List.any_eq_false]
  intro k hk
  simp [h k hk]

theorem jobIsLost_iff : JobIsLost o x d ↔ (o.lost && (itemNeeds o x d).any
    (fun k => (List.range 24).any (fun e => decide (8 ≤ e) == k && engFenced d e))) = true := by
  simp only [JobIsLost, Bool.and_eq_true, List.any_eq_true, List.mem_range, beq_iff_eq]

theorem pipeOp_works (hq : pipeQ d p = x :: xs) (hu : unitOut d (0x21 + p) = false) (hfree : CreditsFree o x d)
    (hlost : ¬ JobIsLost o x d) : pipeOp p o d = itemWorked p o x xs d := by
  have hnone := not_lacks_of_free hfree
  rw [jobIsLost_iff] at hlost
  unfold itemNeeds at hnone hlost
  simp only [pipeOp, hq, hu, hnone, hlost, Bool.false_eq_true, if_false, itemWorked, itemNeeds]

theorem pipeOp_loses (hq : pipeQ d p = x :: xs) (hu : unitOut d (0x21 + p) = false) (hfree : CreditsFree o x d)
    (hlost : JobIsLost o x d) : pipeOp p o d = jobLost p x xs (setWait p none d) := by
  have hnone := not_lacks_of_free hfree
  rw [jobIsLost_iff] at hlost
  unfold itemNeeds at hnone hlost
  simp only [pipeOp, hq, hu, hnone, hlost, Bool.false_eq_true, if_false, if_true]

theorem jobLost_request {f : RxDesc} (hm : x.msg = .rx f) : jobLost p x xs d = keyCount 4 (rxFree f (setPipeQ p xs d)) := by
  simp only [jobLost, hm]

/-- A scheduled message is resubmitted once. -/
theorem jobLost_scheduled (hm : ∀ f, x.msg ≠ .rx f) : jobLost p x xs d =
    if x.again = true then keyCount 4 (setPipeQ p xs d) else setPipeQ p ({ x with again := true } :: xs) d := by
  unfold jobLost
  split
  case h_1 f hf => exact absurd hf (hm f)
  case h_2 => rfl

end

/-! ### The wait for a credit (R281) -/

section

variable {p t : Nat} {x : PItem} {xs : List PItem} {d : Dev}

theorem creditTimeout_noWait (h : cget (fun _ => none) d.net.waits p = none) : creditTimeout p d = d := by
  unfold creditTimeout
  rw [h]
  split
  case h_1 hsome => cases hsome
  case h_2 => rfl

theorem creditTimeout_empty (hq : pipeQ d p = []) : creditTimeout p d = d := by
  unfold creditTimeout
  rw [hq]

theorem creditTimeout_request {f : RxDesc} (hq : pipeQ d p = x :: xs) (h : cget (fun _ => none) d.net.waits p = some t)
    (hm : x.msg = .rx f) : creditTimeout p d = if (fld d SVC_CRY_WAIT_us * 65536000 : Int) < nearDiff (near d) t then
      svcCnt 24 1 (rxFree f (setWait p none (setPipeQ p xs d))) else d := by
  obtain ⟨msg, slot, late, again⟩ := x
  obtain rfl : msg = .rx f := hm
  unfold creditTimeout
  rw [hq, h]

theorem creditTimeout_scheduled (hq : pipeQ d p = x :: xs) (hm : ∀ f, x.msg ≠ .rx f) : creditTimeout p d = d := by
  unfold creditTimeout
  rw [hq]
  split
  case h_1 f _ _ _ _ _ hx _ =>
    obtain ⟨rfl, -⟩ := List.cons.inj hx
    exact absurd rfl (hm f)
  case h_2 => rfl

end

/-- Settles O36: an operation by the queue, the fence, the credits and the lost job; the timeout by who waits and for how long. -/
theorem pipelineCommandsComplete : Obligations.PipelineCommandsComplete := by
  delta Obligations.PipelineCommandsComplete
  refine ⟨?operation, ?timeout⟩
  case operation =>
    intro p o s hpkt
    have hrun : ∀ {e : Dev}, pipeOp p.val o s.toDev = e → runsTo (.pipelineOperation p o) s e :=
      runsTo_of_doIf (c := fun d => domOn d .pkt) rfl hpkt
    refine ⟨fun hq => hrun (pipeOp_empty hq), fun hu => hrun (pipeOp_fenced hu), fun x xs hq hu => ?_⟩
    intro needs d1 lost
    refine ⟨fun hfree hlost => hrun (pipeOp_works hq hu hfree hlost), fun hfree hlost => ?_, fun hlack => ⟨fun h => ?_, fun h => ?_⟩⟩
    · have hloses := pipeOp_loses hq hu hfree hlost
      exact ⟨fun f hm => hrun (hloses.trans (jobLost_request hm)),
        fun hm hagain => hrun (hloses.trans ((jobLost_scheduled hm).trans (if_pos hagain))),
        fun hm hfirst => hrun (hloses.trans ((jobLost_scheduled hm).trans (if_neg (ne_true_of_eq_false hfirst))))⟩
    · exact hrun ((pipeOp_lacks hq hu hlack).trans (if_neg (by rw [h]; exact Bool.false_ne_true)))
    · exact hrun ((pipeOp_lacks hq hu hlack).trans (if_pos h))
  case timeout =>
    intro p s hpkt
    have hrun : ∀ {e : Dev}, creditTimeout p.val s.toDev = e → runsTo (.cryptoCreditTimeout p) s e :=
      runsTo_of_doIf (c := fun d => domOn d .pkt) rfl hpkt
    refine ⟨fun h => hrun (creditTimeout_noWait h), fun hq => hrun (creditTimeout_empty hq), fun x xs t hq h => ?_⟩
    exact ⟨fun f hm hw => hrun ((creditTimeout_request hq h hm).trans (if_pos hw)),
      fun f hm hw => hrun ((creditTimeout_request hq h hm).trans (if_neg hw)), fun hm => hrun (creditTimeout_scheduled hq hm)⟩

end Sys2Proof.Proofs

/-! PROOFS about the wheel, the sweeps of sessions and weir, and bad session parity (R293 to R295, R303, R305, R358). -/

namespace Sys2Proof.Proofs

open Sys2Proof Sys2Proof.Machine Sys2Proof.Laws

/-! ### The wheel (R294, R295, R358) -/

section

variable {a i : Nat} {d : Dev}

/-- The slot `a` noted and its late entries counted. -/
def slotEntered (a : Nat) (d : Dev) : Dev :=
  setF SVC_WHEEL_STAT_slot (a % 16384) (countLate a { d with net := { d.net with slot := some a } })

/-- A Standby that holds back for a step of the Active counts its `n` dual-send messages. -/
def heldCounted (n : Nat) (d : Dev) : Dev :=
  if twnEn d = true ∧ fld d TWN_STATUS_state = 1 ∧ d.twn.shift.isSome = true ∧ fld d TWN_CTL_pkt_mode = 1 ∧
    svcLive d = true ∧ flag d SVC_CTL_ptp_en = true then svcCnt 21 n d else d

/-- The multicast messages of slot `a` issued, advanced in shadow or counted. -/
def multicastIssued (a : Nat) (d : Dev) : Dev :=
  if servesMc d = true then forEach (mcDue d a) (issue a) d
  else if shadows d = true then forEach (mcDue d a) shadowIssue (heldCounted (mcDue d a).length d)
  else heldCounted (mcDue d a).length d

/-- The visit of session `i` in slot `a`: it ends where it has expired, else its messages are issued or advanced in shadow. -/
def sessionVisited (a i : Nat) (d : Dev) : Dev :=
  if ucDue d a i = [] then d
  else
    let y := if sessExpired d (sess d i) = true then svcCnt 35 1 (sessEnd i d) else d
    if sessValid y i = false then y else if servesUc y = true then forEach (ucDue d a i) (issue a) y
    else if shadows y = true then forEach (ucDue d a i) shadowIssue y else y

/-- The sessions visited, where PD_SMEM is on. -/
def sessionsVisited (a : Nat) (d : Dev) : Dev :=
  if domOn d .smem = true then forEach (sessAll d) (sessionVisited a) d else d

theorem doIf_eq_heldCounted (n : Nat) (d : Dev) : doIf (twnEn d && decide (fld d TWN_STATUS_state = 1) && d.twn.shift.isSome &&
    decide (fld d TWN_CTL_pkt_mode = 1) && svcLive d && flag d SVC_CTL_ptp_en) (svcCnt 21 n) d = heldCounted n d := by
  simp only [doIf, heldCounted, Bool.and_eq_true, decide_eq_true_eq, and_assoc]

theorem wheelSlot_visited (h : d.net.slot = some (slotNow d)) : wheelSlot d = d := if_pos h

theorem expire_eq (i : Nat) (d : Dev) :
    expire i d = if sessExpired d (sess d i) = true then svcCnt 35 1 (sessEnd i d) else d := rfl

theorem sessionVisited_eq (a i : Nat) (d : Dev) : sessionVisited a i d = if (ucDue d a i).isEmpty = true then d
    else if (!(sessValid (expire i d) i)) = true then expire i d
    else if servesUc (expire i d) = true then forEach (ucDue d a i) (issue a) (expire i d)
    else doIf (shadows (expire i d)) (forEach (ucDue d a i) shadowIssue) (expire i d) := by
  rw [expire_eq]
  simp only [List.isEmpty_iff, Bool.not_eq_true']
  rfl

theorem sessionsVisited_eq (a : Nat) (d : Dev) : sessionsVisited a d =
    if (!(domOn d .smem)) = true then d else forEach (sessAll d) (sessionVisited a) d := by
  cases h : domOn d .smem <;> simp [sessionsVisited, h]

theorem wheelSlot_new (h : d.net.slot ≠ some (slotNow d)) :
    wheelSlot d = sessionsVisited (slotNow d) (multicastIssued (slotNow d) (slotEntered (slotNow d) d)) := by
  have hvisit := funext fun i => funext (sessionVisited_eq (slotNow d) i)
  rw [sessionsVisited_eq, hvisit]
  unfold wheelSlot
  dsimp only
  rw [if_neg h, doIf_eq_heldCounted]
  rfl

end

/-! ### The sweep of the weir's buckets (R303) -/

section

/-- Bucket `i` refilled up to the tick `t`, its losses in the ledger. -/
def bucketRefilled (t i : Nat) (d : Dev) : Dev :=
  let r := weirRate d (i / 262144)
  let y := weirFill r.1 r.2 t (bucket d i)
  setBucket i y.1 (weirLedger y.2.1 0 y.2.2 d)

/-- The buckets of half `h` that stand in no list refilled up to the tick `t`, all as one. -/
def halfRefilled (t h : Nat) (d : Dev) : Dev :=
  let n := 262144 - (d.net.weir.filter (fun c => decide (c.1 / 262144 = h))).length
  let r := weirRate d h
  let y := weirFill r.1 r.2 t (if h = 0 then d.net.weirN else d.net.weirP)
  let z := weirLedger (n * y.2.1) 0 (n * y.2.2) d
  if h = 0 then { z with net := { z.net with weirN := y.1 } } else { z with net := { z.net with weirP := y.1 } }

theorem weirSweepAll_eq {bad : List Nat} {d d0 : Dev} (h : d0 = forEach bad bucketParity d) :
    weirSweepAll bad d = halfRefilled (weirTick d0) 1 (halfRefilled (weirTick d0) 0
      (forEach (d0.net.weir.map (fun c => c.1)) (bucketRefilled (weirTick d0)) d0)) := by
  rw [h]
  rfl

end

/-! ### Bad parity of a session (R293) -/

section

variable {i : Nat} {addrOk : Bool} {d : Dev}

/-- The report of a bad session. -/
def badSessionReported (i : Nat) (d : Dev) : Dev := reportUnit 0x26 0x01 .corrected 0x6403 i (raise 0x6403 i d)

theorem sessionParity_invalid (h : sessValid d i = false) : sessionParity i addrOk d = d := if_pos (by rw [h, Bool.not_false])

theorem sessionParity_valid (h : sessValid d i = true) : sessionParity i addrOk d = badSessionReported i
    (doIf (domOn d .pkt) (svcCnt 32 1) (sessEnd i (doIf (addrOk && domOn d .pkt) (sendCancels i) d))) :=
  if_neg (by rw [h]; exact Bool.false_ne_true)

theorem sessionParity_pktOn (h : sessValid d i = true) (hpkt : domOn d .pkt = true) : sessionParity i addrOk d =
    badSessionReported i (svcCnt 32 1 (sessEnd i (if addrOk = true then sendCancels i d else d))) := by
  rw [sessionParity_valid h, hpkt, doIf_true, Bool.and_true]
  rfl

theorem sessionParity_pktOff (h : sessValid d i = true) (hpkt : domOn d .pkt = false) :
    sessionParity i addrOk d = badSessionReported i (sessEnd i d) := by
  rw [sessionParity_valid h, hpkt, doIf_false, Bool.and_false, doIf_false]

end

/-- Settles O37: the wheel by whether its slot was visited, the sweeps as a whole, a bad session by whether it is valid and PD_PKT is on. -/
theorem wheelSessionAndWeirCommandsComplete : Obligations.WheelSessionAndWeirCommandsComplete := by
  delta Obligations.WheelSessionAndWeirCommandsComplete
  refine ⟨?wheel, ?sessions, ?weir, ?parity⟩
  case wheel =>
    intro s hpkt hu a d0 mc skips d1
    have hrun : ∀ {e : Dev}, wheelSlot s.toDev = e → runsTo .wheelSlotStart s e :=
      runsTo_of_doIf (c := fun d => domOn d .pkt && !(unitOut d 0x25)) rfl (by rw [hpkt, hu]; rfl)
    have hd1 : d1 = multicastIssued a (slotEntered a s.toDev) := rfl
    clear_value d1
    rw [hd1]
    refine ⟨fun h => hrun (wheelSlot_visited h), fun h hsmem => ?_, fun h hsmem => ?_⟩
    · exact hrun ((wheelSlot_new h).trans (if_neg (ne_true_of_eq_false hsmem)))
    · exact hrun ((wheelSlot_new h).trans (if_pos hsmem))
  case sessions =>
    intro s hpkt hsmem
    exact runsTo_of_doIf (c := fun d => domOn d .pkt && domOn d .smem) (f := fun d => forEach (sessAll d) expire d) rfl
      (by rw [hpkt, hsmem]; rfl) rfl
  case weir =>
    intro bad s hpkt d0 d1 rest
    have hrun : ∀ {e : Dev}, weirSweepAll (bad.map (fun i => i.val)) s.toDev = e → runsTo (.weirSweep bad) s e :=
      runsTo_of_doIf (c := fun d => domOn d .pkt) rfl hpkt
    have hd0 : d0 = forEach (bad.map (fun i => i.val)) bucketParity s.toDev := rfl
    clear_value d0
    have hd1 : d1 = forEach (d0.net.weir.map (fun c => c.1)) (bucketRefilled (weirTick d0)) d0 := rfl
    clear_value d1
    have hrest : rest = halfRefilled (weirTick d0) := rfl
    clear_value rest
    rw [hrest, hd1]
    exact hrun (weirSweepAll_eq hd0)
  case parity =>
    intro i addrOk s hsmem
    have hrun : ∀ {e : Dev}, sessionParity i.val addrOk s.toDev = e → runsTo (.sessionParity i addrOk) s e :=
      runsTo_of_doIf (c := fun d => domOn d .smem) rfl hsmem
    exact ⟨fun h => hrun (sessionParity_invalid h), fun h hpkt _ => hrun (sessionParity_pktOn h hpkt),
      fun h hpkt _ => hrun (sessionParity_pktOff h hpkt)⟩

end Sys2Proof.Proofs

/-! PROOFS about the senders of the time service and the flags that follow it (R275, R280, R289, R296, R306, R307, R309). -/

namespace Sys2Proof.Proofs

open Sys2Proof Sys2Proof.Machine Sys2Proof.Laws

/-! ### The launch of a waiting frame (R306) -/

section

variable {p i : Nat} {f : TxFrame} {fs : List TxFrame} {d : Dev}

/-- The first waiting frame of a subport has left its queue. -/
def timedPopped (p i : Nat) (fs : List TxFrame) (d : Dev) : Dev := modPsub p i (fun x => { x with timed := fs }) d

theorem launch_ready (h : macReady d p i = true) : launch p i f d = macPut p i f d := if_pos h

theorem launch_notReady (h : macReady d p i = false) :
    launch p i f d = if p < 8 ∧ portOn d p = true then portCnt p i 27 1 (txFree f d) else txFree f d := by
  simp only [launch, h, Bool.false_eq_true, if_false, doIf, Bool.and_eq_true, decide_eq_true_eq]

theorem timedDue_empty (hq : (psub d p i).timed = []) : timedDue p i d = d := by simp only [timedDue, hq]

theorem timedDue_early (hq : (psub d p i).timed = f :: fs) (hdue : due (f.target.getD 0) (near d) = false) :
    timedDue p i d = d := by
  simp only [timedDue, hq, hdue, Bool.not_false, if_true]

theorem timedDue_stale (hq : (psub d p i).timed = f :: fs) (hdue : due (f.target.getD 0) (near d) = true)
    (hst : Stale f (timedPopped p i fs d)) : timedDue p i d = svcCnt 21 1 (txFree f (timedPopped p i fs d)) := by
  obtain ⟨n, hn, hne⟩ := hst
  unfold timedPopped at hne
  simp [timedDue, hq, hdue, hn, hne, timedPopped]

theorem timedDue_current (hq : (psub d p i).timed = f :: fs) (hdue : due (f.target.getD 0) (near d) = true)
    (hst : f.steps = none ∨ f.steps = some (stepMod (timedPopped p i fs d))) :
    timedDue p i d = launch p i f (timedPopped p i fs d) := by
  unfold timedPopped at hst
  rcases hst with hn | hn <;> simp [timedDue, hq, hdue, hn, timedPopped]

end

/-! ### The host's records (R309) -/

section

variable {d : Dev}

/-- The length that stands in front of the host's queue. -/
def hostLen (d : Dev) : Nat := leNat (d.net.hostTx.take 2)

/-- The place that the first record takes, in whole words. -/
def hostSize (d : Dev) : Nat := hostLen d + (4 - hostLen d % 4) % 4

/-- The first `n` bytes of the host's queue taken. -/
def hostTaken (n : Nat) (d : Dev) : Dev := { d with net := { d.net with hostTx := d.net.hostTx.drop n } }

/-- The frame in the first record of the host's queue `q`, built after `n` steps. -/
def hostRecFrame (q : List Byte) (n : Nat) : TxFrame :=
  let flags := leNat (sliceOf q 2 1)
  { bytes := sliceOf q 16 (leNat (q.take 2) - 16), bufs := 0, steps := some n
    target := if flags % 2 = 1 then some (leNat (sliceOf q 4 8)) else none
    pred := none
    report := if flags / 2 % 2 = 1 then some (leNat (sliceOf q 12 4)) else none
    follow := none, pipe := 0 }

/-- The port and the subport that the first record of the host's queue `q` names. -/
def hostRecPort (q : List Byte) : Nat := leNat (sliceOf q 3 1) % 16
def hostRecSub (q : List Byte) : Nat := leNat (sliceOf q 3 1) / 16 % 2

theorem hostTransmit_noHeader (h : d.net.hostTx.length < 16) : hostTransmit d = d := if_pos h

theorem hostTransmit_noLength (h : 16 ≤ d.net.hostTx.length) (hlen : hostLen d < 16) :
    hostTransmit d = svcCnt 28 1 { d with net := { d.net with hostTx := [] } } :=
  (if_neg (Nat.not_lt.mpr h)).trans (if_pos hlen)

theorem hostTransmit_partial (h : 16 ≤ d.net.hostTx.length) (hlen : 16 ≤ hostLen d) (hsize : d.net.hostTx.length < hostSize d) :
    hostTransmit d = d :=
  (if_neg (Nat.not_lt.mpr h)).trans ((if_neg (Nat.not_lt.mpr hlen)).trans (if_pos hsize))

theorem hostTransmit_whole (hlen : 16 ≤ hostLen d) (hsize : hostSize d ≤ d.net.hostTx.length) : hostTransmit d =
    if !(hostRecOk (hostTaken (hostSize d) d) (hostRecPort d.net.hostTx) (hostRecSub d.net.hostTx)
        (hostRecFrame d.net.hostTx (stepMod (hostTaken (hostSize d) d))).bytes.length) then
      svcCnt 28 1 (hostTaken (hostSize d) d)
    else hostFrame (hostRecPort d.net.hostTx) (hostRecSub d.net.hostTx)
      (hostRecFrame d.net.hostTx (stepMod (hostTaken (hostSize d) d))) (hostTaken (hostSize d) d) := by
  have hlong : 16 ≤ d.net.hostTx.length := by unfold hostSize at hsize; omega
  exact (if_neg (Nat.not_lt.mpr hlong)).trans ((if_neg (Nat.not_lt.mpr hlen)).trans (if_neg (Nat.not_lt.mpr hsize)))

end

/-! ### The responder (R307, R348) -/

section

variable {f : RxDesc} {fs : List RxDesc} {x : Ip} {d : Dev}

/-- The oldest frame that waits for an answer taken. -/
def respTaken (fs : List RxDesc) (d : Dev) : Dev := { d with net := { d.net with resp := fs } }

/-- The chip answers: it runs, it speaks, and the responder is in service. -/
def Answers (d : Dev) : Prop := running d = true ∧ speaking d = true ∧ unitOut d 0x25 = false

/-- The bytes of a frame without its FCS. -/
def unsealed (f : RxDesc) : List Byte := f.bytes.take (f.bytes.length - 4)

/-- The answer to a frame whose packet is `x`: to a neighbor solicitation or to an echo request. -/
def packetAnswered (f : RxDesc) (x : Ip) (d : Dev) : Dev :=
  if x.v6 && beAt x.body 0 1 == 135 then answerNs f (ethOf (unsealed f)) x d else answerEcho f (ethOf (unsealed f)) x d

theorem respond_empty (h : d.net.resp = []) : respond d = d := by simp only [respond, h]

theorem respond_silent (h : d.net.resp = f :: fs)
    (hs : running (respTaken fs d) = false ∨ speaking (respTaken fs d) = false ∨ unitOut (respTaken fs d) 0x25 = true) :
    respond d = rxFree f (respTaken fs d) := by
  have hno : (!(running (respTaken fs d)) || !(speaking (respTaken fs d)) || unitOut (respTaken fs d) 0x25) = true := by
    rcases hs with hs | hs | hs <;> simp [hs]
  unfold respond
  rw [h]
  exact if_pos hno

theorem respond_answers (h : d.net.resp = f :: fs) (ha : Answers (respTaken fs d)) : respond d =
    if (ethOf (unsealed f)).etype = 0x0806 then
      answerArp f (ethOf (unsealed f)) ((unsealed f).drop (ethOf (unsealed f)).off) (respTaken fs d)
    else match ipOf (ethOf (unsealed f)) (unsealed f) with
      | none => rxFree f (respTaken fs d)
      | some x => packetAnswered f x (respTaken fs d) := by
  obtain ⟨hrun, hspeak, hunit⟩ := ha
  have hno : ¬ (!(running (respTaken fs d)) || !(speaking (respTaken fs d)) || unitOut (respTaken fs d) 0x25) = true := by
    simp [hrun, hspeak, hunit]
  unfold respond
  rw [h]
  exact if_neg hno

theorem respond_arp (h : d.net.resp = f :: fs) (ha : Answers (respTaken fs d)) (he : (ethOf (unsealed f)).etype = 0x0806) :
    respond d = answerArp f (ethOf (unsealed f)) ((unsealed f).drop (ethOf (unsealed f)).off) (respTaken fs d) := by
  rw [respond_answers h ha, if_pos he]

theorem respond_noPacket (h : d.net.resp = f :: fs) (ha : Answers (respTaken fs d)) (he : (ethOf (unsealed f)).etype ≠ 0x0806)
    (hip : ipOf (ethOf (unsealed f)) (unsealed f) = none) : respond d = rxFree f (respTaken fs d) := by
  rw [respond_answers h ha, if_neg he, hip]

theorem respond_packet (h : d.net.resp = f :: fs) (ha : Answers (respTaken fs d)) (he : (ethOf (unsealed f)).etype ≠ 0x0806)
    (hip : ipOf (ethOf (unsealed f)) (unsealed f) = some x) : respond d = packetAnswered f x (respTaken fs d) := by
  rw [respond_answers h ha, if_neg he, hip]

theorem packetAnswered_solicitation (h6 : x.v6 = true) (ht : beAt x.body 0 1 = 135) :
    packetAnswered f x d = answerNs f (ethOf (unsealed f)) x d := if_pos (by simp [h6, ht])

theorem packetAnswered_other (h : x.v6 = false ∨ beAt x.body 0 1 ≠ 135) :
    packetAnswered f x d = answerEcho f (ethOf (unsealed f)) x d := if_neg (by rcases h with h | h <;> simp [h])

end

/-! ### The sender of ESMC (R296) -/

section

variable {p i w sec : Nat} {d : Dev}

/-- The SSM sent last on a subport, and its TAI second. -/
def ssmLast (p i : Nat) (d : Dev) : Option (Nat × Nat) := cget (fun _ => none) d.net.ssm (subKey p i)

/-- The SSM of a subport sent, in an event PDU or an information PDU, and noted with the second `sec`. -/
def ssmSent (p i : Nat) (event : Bool) (sec : Nat) (d : Dev) : Dev :=
  ownSend p i (esmcBytes (ownMac d p i) event (fld d (SVC_ESMC_ssm p i)))
    { d with net := { d.net with ssm := cput (fun _ => none) d.net.ssm (subKey p i) (some (fld d (SVC_ESMC_ssm p i), sec)) } }

/-- A subport sends ESMC PDUs: it is enabled and its MAC takes frames. -/
def SendsEsmc (p i : Nat) (d : Dev) : Prop := flag d (SVC_ESMC_en p i) = true ∧ macReady d p i = true

theorem esmcSend_off (h : flag d (SVC_ESMC_en p i) = false ∨ macReady d p i = false) : esmcSend p i d = d :=
  if_pos (by rcases h with h | h <;> simp [h])

theorem esmcSend_first (h : SendsEsmc p i d) (hl : ssmLast p i d = none) :
    esmcSend p i d = ssmSent p i false (taiSec d) d := by
  obtain ⟨hen, hmac⟩ := h
  unfold ssmLast at hl
  simp [esmcSend, hen, hmac, hl, ssmSent]

theorem esmcSend_changed (h : SendsEsmc p i d) (hl : ssmLast p i d = some (w, sec)) (hw : w ≠ fld d (SVC_ESMC_ssm p i)) :
    esmcSend p i d = ssmSent p i true sec d := by
  obtain ⟨hen, hmac⟩ := h
  unfold ssmLast at hl
  simp [esmcSend, hen, hmac, hl, hw, ssmSent]

theorem esmcSend_nextSecond (h : SendsEsmc p i d) (hl : ssmLast p i d = some (fld d (SVC_ESMC_ssm p i), sec))
    (hs : sec ≠ taiSec d) : esmcSend p i d = ssmSent p i false (taiSec d) d := by
  obtain ⟨hen, hmac⟩ := h
  unfold ssmLast at hl
  simp [esmcSend, hen, hmac, hl, hs, ssmSent]

theorem esmcSend_sameSecond (h : SendsEsmc p i d) (hl : ssmLast p i d = some (fld d (SVC_ESMC_ssm p i), taiSec d)) :
    esmcSend p i d = d := by
  obtain ⟨hen, hmac⟩ := h
  unfold ssmLast at hl
  simp [esmcSend, hen, hmac, hl]

end

/-! ### The flags that follow the time service (R275, R289) -/

section

variable {d : Dev}

theorem refreshServing_same (h : flag d SVC_STATUS_serving = servesAny d) : refreshServing d = d :=
  if_pos (by rw [h, beq_self_eq_true])

theorem refreshServing_changed (h : flag d SVC_STATUS_serving ≠ servesAny d) :
    refreshServing d = raise 0x640B (b2n (servesAny d)) (setB SVC_STATUS_serving (servesAny d) d) :=
  if_neg (by rw [beq_iff_eq]; exact Ne.symm h)

end

/-- Settles O38: each command by the branch that it takes. -/
theorem senderCommandsComplete : Obligations.SenderCommandsComplete := by
  delta Obligations.SenderCommandsComplete
  refine ⟨?timed, ?host, ?answer, ?esmc, ?flags⟩
  case timed =>
    intro p i s hpkt
    have hrun : ∀ {e : Dev}, timedDue p.val i.val s.toDev = e → runsTo (.timedLaunch p i) s e :=
      runsTo_of_doIf (c := fun d => domOn d .pkt) rfl hpkt
    refine ⟨fun h => hrun (timedDue_empty h), fun f fs h => ⟨fun hdue => hrun (timedDue_early h hdue), fun hdue hst => ?_, ?_⟩⟩
    · exact ⟨fun hready => hrun ((timedDue_current h hdue hst).trans (launch_ready hready)),
        fun hready => hrun ((timedDue_current h hdue hst).trans (launch_notReady hready))⟩
    · exact fun n hdue hn hne => hrun (timedDue_stale h hdue ⟨n, hn, hne⟩)
  case host =>
    intro s hpkt
    have hrun : ∀ {e : Dev}, hostTransmit s.toDev = e → runsTo .hostTransmitRecord s e :=
      runsTo_of_doIf (c := fun d => domOn d .pkt) rfl hpkt
    refine ⟨fun h => hrun (hostTransmit_noHeader h), fun h hlen => hrun (hostTransmit_noLength h hlen),
      fun h hlen hsize => hrun (hostTransmit_partial h hlen hsize), fun hlen hsize hok => ?_, fun hlen hsize hok => ?_⟩
    · exact hrun ((hostTransmit_whole hlen hsize).trans (if_pos (by rw [Bool.not_eq_true']; exact hok)))
    · exact hrun ((hostTransmit_whole hlen hsize).trans (if_neg (by rw [Bool.not_eq_true', Bool.not_eq_false]; exact hok)))
  case answer =>
    intro s hpkt
    have hrun : ∀ {e : Dev}, respond s.toDev = e → runsTo .nontimingResponse s e :=
      runsTo_of_doIf (c := fun d => domOn d .pkt) rfl hpkt
    refine ⟨fun h => hrun (respond_empty h), fun f fs h => ⟨fun hs => hrun (respond_silent h hs), fun hr hsp hu => ?_⟩⟩
    have ha : Answers (respTaken fs s.toDev) := ⟨hr, hsp, hu⟩
    exact ⟨fun he => hrun (respond_arp h ha he), fun he hip => hrun (respond_noPacket h ha he hip),
      fun _ he hip h6 ht => hrun ((respond_packet h ha he hip).trans (packetAnswered_solicitation h6 ht)),
      fun _ he hip ho => hrun ((respond_packet h ha he hip).trans (packetAnswered_other ho))⟩
  case esmc =>
    intro p i s hpkt
    have hrun : ∀ {e : Dev}, esmcSend p.val i.val s.toDev = e → runsTo (.esmcSend p i) s e :=
      runsTo_of_doIf (c := fun d => domOn d .pkt) rfl hpkt
    refine ⟨fun h => hrun (esmcSend_off h), fun hen hmac => ?_⟩
    have hs : SendsEsmc p.val i.val s.toDev := ⟨hen, hmac⟩
    exact ⟨fun hl => hrun (esmcSend_first hs hl), fun _ _ hl hw => hrun (esmcSend_changed hs hl hw),
      fun _ hl hsec => hrun (esmcSend_nextSecond hs hl hsec), fun hl => hrun (esmcSend_sameSecond hs hl)⟩
  case flags =>
    intro s hpkt
    have hleap : ∀ {e : Dev}, refreshLeapInd s.toDev = e → runsTo .leapIndicatorChange s e :=
      runsTo_of_doIf (c := fun d => domOn d .pkt) rfl hpkt
    have hserve : ∀ {e : Dev}, refreshServing s.toDev = e → runsTo .servingChange s e :=
      runsTo_of_doIf (c := fun d => domOn d .pkt) rfl hpkt
    exact ⟨fun h => hleap (if_pos h), fun h => hleap (if_neg h), fun h => hserve (refreshServing_same h),
      fun h => hserve (refreshServing_changed h)⟩

end Sys2Proof.Proofs

/-! PROOFS about key deliveries, slots, activation, engines and the random source (R317 to R336). -/

namespace Sys2Proof.Proofs

open Sys2Proof Sys2Proof.Machine Sys2Proof.Laws

/-! ### A field at zero stays at zero while only zeros are written -/

section

variable {f : Fld} {d : Dev}

/-- `k` leaves the field `f` at zero where it was at zero. -/
def KeepsZero (f : Fld) (k : Dev → Dev) : Prop := ∀ d, fld d f = 0 → fld (k d) f = 0

theorem bitsOf_zero (lo wd : Nat) : bitsOf 0#32 lo wd = 0 := by simp [bitsOf]

theorem fld_wrN_zero_same (d : Dev) : fld (wrN f.reg 0 d) f = 0 := by
  rw [fld, rd_wrN_same]
  exact bitsOf_zero _ _

theorem keepsZero_wrN (f : Fld) (a : Nat) : KeepsZero f (wrN a 0) := by
  intro d h
  by_cases ha : f.reg = a
  · rw [← ha]
    exact fld_wrN_zero_same d
  · rw [fld, rd_wrN_other 0 d ha]
    exact h

theorem keepsZero_wr64 (f : Fld) (a : Nat) : KeepsZero f (wr64 a 0) := fun d h =>
  keepsZero_wrN f (a + 4) _ (keepsZero_wrN f a d h)

theorem keepsZero_forEach {l : List Nat} {k : Nat → Dev → Dev} (hk : ∀ i, KeepsZero f (k i)) : KeepsZero f (forEach l k) :=
  fun d h => forEach_ind (P := fun x => fld x f = 0) l k d h fun i _ hx => hk i _ hx

/-- A field is at zero after a pass over a list, one of whose operations sets it to zero while the others keep it there. -/
theorem fld_forEach_zero {l : List Nat} {k : Nat → Dev → Dev} {n : Nat} (hn : n ∈ l) (hk : ∀ i, KeepsZero f (k i))
    (hset : ∀ d, fld (k n d) f = 0) : ∀ d, fld (forEach l k d) f = 0 := by
  induction l with
  | nil => exact absurd hn List.not_mem_nil
  | cons i l ih =>
    intro d
    rcases List.mem_cons.mp hn with rfl | hl
    · exact keepsZero_forEach (l := l) hk (k n d) (hset d)
    · exact ih hl _

end

/-! ### A zeroization leaves no slot that holds a key (R318, R331) -/

section

variable {f : Fld} {d : Dev}

theorem keepsZero_ntsClear (f : Fld) (n : Nat) : KeepsZero f (ntsClear n) := by
  intro d h
  have h1 := keepsZero_wr64 f (KEY_NTS_END_LO n) _ (keepsZero_wr64 f (KEY_NTS_ACT_LO n) _
    (keepsZero_wrN f (KEY_NTS_STATE n) _ (keepsZero_wrN f (KEY_NTS_ID n) d h)))
  unfold ntsClear doIf
  dsimp only
  split
  · exact keepsZero_wrN f KEY_NTS_CUR _ h1
  · exact h1

theorem ntsState_ntsClear (n : Nat) (d : Dev) : ntsState (ntsClear n d) n = 0 := by
  have h1 := keepsZero_wr64 _ (KEY_NTS_END_LO n) _ (keepsZero_wr64 _ (KEY_NTS_ACT_LO n) _
    (fld_wrN_zero_same (f := KEY_NTS_STATE_state n) (wrN (KEY_NTS_ID n) 0 d)))
  unfold ntsState ntsClear doIf
  dsimp only
  split
  · exact keepsZero_wrN _ KEY_NTS_CUR _ h1
  · exact h1

/-- The registers of an association, each with a bank of its own. -/
def saRegs : List Nat := [KEY_SA_INFO, KEY_SA_KEYID, KEY_SA_SEQ, KEY_SA_ACT_LO, KEY_SA_ACT_HI, KEY_SA_END_LO, KEY_SA_END_HI]

/-- The registers of association `i` at zero. -/
def saRegsZeroed (i : Nat) (d : Dev) : Dev := forEach saRegs (fun a => wrN (bank a i) 0) d

theorem saClear_eq (i : Nat) (d : Dev) : ∃ k : Key, saClear i d = { saRegsZeroed i d with key := k } := ⟨_, rfl⟩

theorem fld_with_key (f : Fld) (k : Key) (d : Dev) : fld { d with key := k } f = fld d f := rfl

/-- The field of KEY_SA_INFO that holds the state of association `i`. -/
def saStateFld (i : Nat) : Fld := ⟨bank KEY_SA_INFO i, 18, 2⟩

theorem fld_saClear (f : Fld) (i : Nat) (d : Dev) : fld (saClear i d) f = fld (saRegsZeroed i d) f := by
  obtain ⟨k, hk⟩ := saClear_eq i d
  rw [hk, fld_with_key]

theorem keepsZero_saClear (f : Fld) (i : Nat) : KeepsZero f (saClear i) := by
  intro d h
  rw [fld_saClear]
  exact keepsZero_forEach (fun a => keepsZero_wrN f (bank a i)) d h

theorem saState_eq (i : Nat) (d : Dev) : saState d i = fld d (saStateFld i) := by
  unfold saState saInfo saStateFld
  rfl

theorem saState_saClear (i : Nat) (d : Dev) : fld (saClear i d) (saStateFld i) = 0 := by
  have hin : KEY_SA_INFO ∈ saRegs := List.mem_cons_self ..
  rw [fld_saClear]
  exact fld_forEach_zero hin (fun a => keepsZero_wrN _ (bank a i)) (fun x => fld_wrN_zero_same (f := saStateFld i) x) d

theorem keepsZero_osnClear (f : Fld) (o : Nat) : KeepsZero f (osnClear o) := fun _ h =>
  keepsZero_wrN f (KEY_OSN_ID o) _ (keepsZero_wrN f (KEY_OSN_STATE o) _ h)

theorem osnState_osnClear (o : Nat) (d : Dev) : fld (osnClear o d) (KEY_OSN_STATE_state o) = 0 :=
  keepsZero_wrN _ (KEY_OSN_ID o) _ (fld_wrN_zero_same (f := KEY_OSN_STATE_state o) d)

theorem keepsZero_kekClear (h : f.reg ≠ KEY_STATUS) : KeepsZero f kekClear := fun _ hd =>
  (fld_setF_other _ _ (.inl h)).trans hd

theorem kekV_kekClear (d : Dev) : flag (kekClear d) KEY_STATUS_kek_v = false := by
  rw [flag, kekClear, fld_setF_same KEY_STATUS_kek_v 0 _ (by decide)]
  rfl

/-- The NTS keys and then the associations that were in use cleared. -/
def ntsAndSaCleared (d : Dev) : Dev := forEach (saUsed d) saClear (forEach (List.range 16) ntsClear d)

theorem zeroSlots_eq (d : Dev) : zeroSlots d = kekClear (forEach (List.range 4) osnClear (ntsAndSaCleared d)) := by
  delta zeroSlots ntsAndSaCleared
  rfl

theorem keepsZero_afterSa (h : f.reg ≠ KEY_STATUS) : KeepsZero f (fun d => kekClear (forEach (List.range 4) osnClear d)) :=
  fun _ hd => keepsZero_kekClear h _ (keepsZero_forEach (keepsZero_osnClear f) _ hd)

theorem ntsState_zeroSlots {n : Nat} (hn : n < 16) (d : Dev) : ntsState (zeroSlots d) n = 0 := by
  have hreg : (KEY_NTS_STATE_state n).reg ≠ KEY_STATUS := by simp only [KEY_NTS_STATE_state, KEY_NTS_STATE, KEY_STATUS]; omega
  rw [zeroSlots_eq]
  refine keepsZero_afterSa hreg (ntsAndSaCleared d) (keepsZero_forEach (keepsZero_saClear _) _ ?_)
  exact fld_forEach_zero (List.mem_range.mpr hn) (keepsZero_ntsClear _) (ntsState_ntsClear n) d

theorem saState_zeroSlots {i : Nat} (hi : i < 1024) (d : Dev) : saState (zeroSlots d) i = 0 := by
  have hreg : (saStateFld i).reg ≠ KEY_STATUS := by simp only [saStateFld, bank, KEY_SA_INFO, KEY_STATUS]; omega
  rw [saState_eq, zeroSlots_eq]
  refine keepsZero_afterSa hreg (ntsAndSaCleared d) ?_
  by_cases hz : saState d i = 0
  · rw [saState_eq] at hz
    exact keepsZero_forEach (keepsZero_saClear _) _ (keepsZero_forEach (keepsZero_ntsClear _) _ hz)
  · have hused : i ∈ saUsed d := List.mem_filter.mpr ⟨List.mem_range.mpr hi, bne_iff_ne.mpr hz⟩
    exact fld_forEach_zero hused (keepsZero_saClear _) (saState_saClear i) _

theorem osnState_zeroSlots {o : Nat} (ho : o < 4) (d : Dev) : fld (zeroSlots d) (KEY_OSN_STATE_state o) = 0 := by
  have hreg : (KEY_OSN_STATE_state o).reg ≠ KEY_STATUS := by simp only [KEY_OSN_STATE_state, KEY_OSN_STATE, KEY_STATUS]; omega
  rw [zeroSlots_eq]
  refine keepsZero_kekClear hreg _ ?_
  exact fld_forEach_zero (List.mem_range.mpr ho) (keepsZero_osnClear _) (osnState_osnClear o) _

end

/-! ### Erasure, evaluation and parity of slots (R319, R323, R325) -/

section

variable {k n m : Nat} {d : Dev}

theorem keyEraseF_outside (h : keySlots d k ≤ n) : keyEraseF k n d = wrN KEY_RESULT (1 + 1 * 256) d := if_pos h

theorem keyEraseF_empty (h : n < keySlots d k) (he : slotEmpty d k n = true) :
    keyEraseF k n d = wrN KEY_RESULT (2 + 1 * 256) d := (if_neg (Nat.not_le.mpr h)).trans (if_pos he)

theorem keyEraseF_held (h : n < keySlots d k) (he : slotEmpty d k n = false) :
    keyEraseF k n d = wrN KEY_RESULT (1 * 256) (slotClear k n d) := by
  rw [keyEraseF, if_neg (Nat.not_le.mpr h), he, keyResult]
  rfl

/-- A slot of kind `k` marked as one that cannot be used. -/
def slotInvalid (k n : Nat) (d : Dev) : Dev :=
  match k with
  | 0 => setF (KEY_NTS_STATE_state n) 4 d
  | 1 => setF ⟨bank KEY_SA_INFO n, 18, 2⟩ 3 d
  | 2 => setF (KEY_OSN_STATE_state n) 2 d
  | _ => kekClear d

/-- A bad slot reported. -/
def badSlotReported (k n : Nat) (d : Dev) : Dev :=
  reportUnit 0x32 0x01 .corrected 0x680A (k + n * 65536) (raise 0x680A (k + n * 65536) (slotInvalid k n d))

/-- The NTS slots in Accepting. -/
def accepting (d : Dev) : List Nat := (List.range 16).filter (fun m => ntsState d m == 3)

/-- The loss of the Current NTS key `n`: the best of the Accepting ones, if any, takes its place. -/
def currentReplaced (n : Nat) (d : Dev) : Dev :=
  match bestKey d (accepting d) with
  | none => d
  | some m => raise 0x6808 (m + n * 256) (setCurrent m d)

theorem keySlotParityF_held (he : slotEmpty d k n = false) (h : n < keySlots d k) : keySlotParityF k n d =
    if !(k == 0 && ntsState d n == 2) then badSlotReported k n d
    else currentReplaced n (wrN KEY_NTS_CUR 0 (badSlotReported k n d)) :=
  if_neg (by simp [he, h])

theorem keySlotParityF_notCurrent (he : slotEmpty d k n = false) (h : n < keySlots d k) (hc : ¬ (k = 0 ∧ ntsState d n = 2)) :
    keySlotParityF k n d = badSlotReported k n d := by
  rw [keySlotParityF_held he h, if_pos]
  simpa [imp_iff_not_or] using hc

theorem keySlotParityF_current (he : slotEmpty d k n = false) (h : n < keySlots d k) (hk : k = 0) (hc : ntsState d n = 2) :
    keySlotParityF k n d = currentReplaced n (wrN KEY_NTS_CUR 0 (badSlotReported k n d)) := by
  rw [keySlotParityF_held he h, if_neg]
  simp [hk, hc]

theorem currentReplaced_none (h : bestKey d (accepting d) = none) : currentReplaced n d = d := by
  rw [currentReplaced, h]

theorem currentReplaced_some (h : bestKey d (accepting d) = some m) :
    currentReplaced n d = raise 0x6808 (m + n * 256) (setCurrent m d) := by
  rw [currentReplaced, h]

/-- The keys activated and, in the first millisecond of a second, ended. -/
def keysEvaluated (d : Dev) : Dev :=
  let d1 := ntsActivate (taiSec d) d
  saEvaluate (taiSec d) (if now16 d1 % sec16 < ms16 then ntsEnd (taiSec d) d1 else d1)

/-- The fresh deliveries that are no longer Pending forgotten. -/
def freshPending (d : Dev) : Dev :=
  let waits := fun (p : Nat × Nat) => if p.1 = 0 then ntsState d p.2 == 1 else saState d p.2 == 1
  { d with key := { d.key with fresh := d.key.fresh.filter waits } }

/-- `e` shows the time that `d` shows: the channels, the low-power counter and every register below KEY are as in `d`. -/
structure ClockKept (d e : Dev) : Prop where
  tb : e.tb = d.tb
  lpc : e.lpc = d.lpc
  reg : ∀ a, a < KEY_STATUS → isPmc (a % bankSpan) = false → rd e a = rd d a

theorem ClockKept.refl (d : Dev) : ClockKept d d := ⟨rfl, rfl, fun _ _ _ => rfl⟩

theorem ClockKept.trans {d x e : Dev} (h1 : ClockKept d x) (h2 : ClockKept x e) : ClockKept d e :=
  ⟨h2.tb.trans h1.tb, h2.lpc.trans h1.lpc, fun a ha hp => (h2.reg a ha hp).trans (h1.reg a ha hp)⟩

theorem ClockKept.now16_eq {d e : Dev} (h : ClockKept d e) : now16 e = now16 d := by
  have hdom : rd e PWR_DOM_STATUS = rd d PWR_DOM_STATUS := h.reg _ (by decide) (by decide)
  have htb : rd e TB_STATUS = rd d TB_STATUS := h.reg _ (by decide) (by decide)
  have hseed : flag e TB_STATUS_seeded = flag d TB_STATUS_seeded := by
    rw [flag, flag, fld, fld, show TB_STATUS_seeded.reg = TB_STATUS from rfl, htb]
  have hserv : inService e = inService d := by simp only [inService, chanFenced, htb, h.tb]
  have hvoted : voted e = voted d := by rw [voted, voted, hserv, h.tb]
  rw [now16, now16, hseed, hvoted, h.lpc, domOn, domOn, domOnN, domOnN, hdom]

theorem clockKept_wr {a : Nat} (v : Word) (d : Dev) (ha : KEY_STATUS ≤ a) : ClockKept d (wr a v d) :=
  ⟨rfl, rfl, fun _ hb _ => rd_wr_other v d (by omega)⟩

theorem clockKept_wr64 {a : Nat} (v : Nat) (d : Dev) (ha : KEY_STATUS ≤ a) : ClockKept d (wr64 a v d) :=
  (clockKept_wr _ d ha).trans (clockKept_wr _ _ (Nat.le_add_right_of_le ha))

theorem clockKept_raise (code param : Nat) (d : Dev) : ClockKept d (raise code param d) :=
  ⟨raise_tb .., raise_lpc .., fun _ _ hp => rd_raise code param d hp⟩

theorem clockKept_draw (d : Dev) : ClockKept d (draw d) := ⟨rfl, rfl, fun _ _ _ => rfl⟩

theorem key_le_ntsState (n : Nat) : KEY_STATUS ≤ KEY_NTS_STATE n := by unfold KEY_STATUS KEY_NTS_STATE; omega

theorem key_le_ntsEnd (n : Nat) : KEY_STATUS ≤ KEY_NTS_END_LO n := by unfold KEY_STATUS KEY_NTS_END_LO; omega

theorem clockKept_toAccepting (n tai : Nat) (d : Dev) : ClockKept d (toAccepting n tai d) :=
  (clockKept_wr _ d (key_le_ntsState n)).trans (clockKept_wr64 _ _ (key_le_ntsEnd n))

theorem clockKept_setCurrent (n : Nat) (d : Dev) : ClockKept d (setCurrent n d) :=
  ((clockKept_wr _ d (key_le_ntsState n)).trans (clockKept_wr64 _ _ (key_le_ntsEnd n))).trans
    ((clockKept_wr _ _ (by decide)).trans (clockKept_wr _ _ (by decide)))

theorem clockKept_makeCurrent (n tai : Nat) (d : Dev) : ClockKept d (makeCurrent n tai d) := by
  have hset : ∀ b x, ClockKept d (setCurrent n (doIf b (toAccepting x tai) d)) := fun b x =>
    (doIf_ind (P := ClockKept d) b _ d (clockKept_toAccepting x tai d) (ClockKept.refl d)).trans (clockKept_setCurrent n _)
  unfold makeCurrent
  dsimp only
  split
  · exact (hset _ _).trans (clockKept_raise ..)
  · exact ((hset _ _).trans (clockKept_draw _)).trans (clockKept_raise ..)

theorem clockKept_ntsActivate (tai : Nat) (d : Dev) : ClockKept d (ntsActivate tai d) := by
  unfold ntsActivate
  dsimp only
  split
  · exact ClockKept.refl d
  · exact forEach_ind _ _ _ (clockKept_makeCurrent ..) fun n x hx => hx.trans (clockKept_toAccepting n tai x)

theorem keyEvaluate_eq (d : Dev) : keyEvaluate d = freshPending (keysEvaluated d) := by
  unfold keysEvaluated
  dsimp only
  rw [(clockKept_ntsActivate (taiSec d) d).now16_eq]
  unfold keyEvaluate freshPending
  simp only [doIf, decide_eq_true_eq]

end

/-! ### Engines and the random source (R317, R336) -/

section

variable {e : Nat} {d : Dev}

theorem engineTests_eq (l : List Nat) (d : Dev) : engineTests l d =
    forEach l (fun e x => if engFenced x e = true then x else engineFence e x) { d with key := { d.key with katDue := false } } := by
  have hstep : (fun e x => doIf (!(engFenced x e)) (engineFence e) x) =
      fun (e : Nat) (x : Dev) => if engFenced x e = true then x else engineFence e x := by
    funext e x
    cases engFenced x e <;> rfl
  rw [engineTests, hstep]

theorem engineReadmitF_fails (e : Nat) (d : Dev) : engineReadmitF e false d = d := if_pos (by simp)

theorem engineReadmitF_inService (h : engFenced d e = false) : engineReadmitF e true d = d := if_pos (by simp [h])

theorem engineReadmitF_fenced (h : engFenced d e = true) : engineReadmitF e true d =
    if (unitEngines (engUnit e)).any (engFenced (engineIn e d)) then
      modUnit (engUnit e) (fun x => { x with state := 0, part := true }) (engineIn e d)
    else admitUnit (engUnit e) (engineIn e d) := if_neg (by simp [h])

end

/-- Settles O40: each command by the branch that it takes. -/
theorem keySlotAndEngineCommandsComplete : Obligations.KeySlotAndEngineCommandsComplete := by
  delta Obligations.KeySlotAndEngineCommandsComplete
  refine ⟨?delivery, ?erase, ?zero, ?evaluation, ?parity, ?tests, ?readmit, ?reseed, ?health⟩
  case delivery =>
    intro c s hp
    have hdone : ∀ {e : Dev}, doIf (dlvComplete s.toDev c.val) (dlvProcess c.val) s.toDev = e → runsTo (.keyDelivery c) s e :=
      runsTo_of_doIf (c := fun d => d.pwr.powered) (f := fun d => doIf (dlvComplete d c.val) (dlvProcess c.val) d) rfl hp
    have hcut : ∀ {e : Dev}, doIf (!(dlvComplete s.toDev c.val)) (dlvDiscard c.val) s.toDev = e →
        runsTo (.keyDeliveryDiscard c) s e :=
      runsTo_of_doIf (c := fun d => d.pwr.powered) (f := fun d => doIf (!(dlvComplete d c.val)) (dlvDiscard c.val) d) rfl hp
    constructor <;> intro h <;> rw [h] at hdone hcut
    · exact ⟨hdone rfl, hcut rfl⟩
    · exact ⟨hdone rfl, hcut rfl⟩
  case erase =>
    intro r k n s hg
    have herase : ∀ {e : Dev}, keyEraseF k.val n.toNat s.toDev = e → runsTo (.keyErase r k n) s e :=
      runsTo_of_write rfl hg
    exact ⟨fun h => herase (keyEraseF_outside h), fun h he => herase (keyEraseF_empty h he),
      fun h he => herase (keyEraseF_held h he), runsTo_of_write (k := keyZeroizeF) rfl hg rfl⟩
  case zero =>
    exact fun d => ⟨fun _ h => ntsState_zeroSlots h d, fun _ h => osnState_zeroSlots h d, fun _ h => saState_zeroSlots h d,
      kekV_kekClear _⟩
  case evaluation =>
    intro s hp htb
    have hrun : ∀ {e : Dev}, doIf (domOn s.toDev .tb) keyEvaluate s.toDev = e → runsTo .keyActivationEvaluation s e :=
      runsTo_of_doIf (c := fun d => d.pwr.powered) (f := fun d => doIf (domOn d .tb) keyEvaluate d) rfl hp
    rw [htb, doIf_true] at hrun
    refine hrun ((keyEvaluate_eq s.toDev).trans ?_)
    simp only [freshPending, keysEvaluated]
  case parity =>
    intro k n s hp he h d1 par d2
    have hrun : ∀ {e : Dev}, keySlotParityF k.val n.val s.toDev = e → runsTo (.keySlotParity k n) s e :=
      runsTo_of_doIf (c := fun d => d.pwr.powered) rfl hp
    have hd2 : d2 = badSlotReported k.val n.val s.toDev := rfl
    clear_value d2
    rw [hd2]
    refine ⟨fun hc => hrun (keySlotParityF_notCurrent he h hc), fun hk hc => ⟨fun hb => ?_, fun m hb => ?_⟩⟩
    · exact hrun ((keySlotParityF_current he h hk hc).trans (currentReplaced_none hb))
    · exact hrun ((keySlotParityF_current he h hk hc).trans (currentReplaced_some hb))
  case tests =>
    intro l s hp hcry
    have hrun : ∀ {e : Dev}, doIf (domOn s.toDev .cry && s.key.katDue) (engineTests (l.map (fun e => e.val))) s.toDev = e →
        runsTo (.engineSelftest l) s e :=
      runsTo_of_doIf (c := fun d => d.pwr.powered)
        (f := fun d => doIf (domOn d .cry && d.key.katDue) (engineTests (l.map (fun e => e.val))) d) rfl hp
    rw [hcry, Bool.true_and] at hrun
    exact ⟨fun h => hrun (by rw [h, doIf_true, engineTests_eq]), fun h => hrun (by rw [h, doIf_false])⟩
  case readmit =>
    intro r e s hg
    have hrun : ∀ {pass : Bool} {x : Dev}, engineReadmitF e.val pass s.toDev = x → runsTo (.engineReadmit r e pass) s x :=
      runsTo_of_write rfl hg
    refine ⟨fun h => ⟨fun ha => ?_, fun ha => ?_⟩, fun h => hrun (engineReadmitF_inService h), hrun (engineReadmitF_fails _ _)⟩
    · exact hrun ((engineReadmitF_fenced h).trans (if_pos ha))
    · exact hrun ((engineReadmitF_fenced h).trans (if_neg (by rw [ha]; exact Bool.false_ne_true)))
  case reseed =>
    intro r s hg
    have hrun : ∀ {e : Dev}, rngReseedF s.toDev = e → runsTo (.rngReseed r) s e := runsTo_of_write rfl hg
    exact ⟨fun h => hrun (by rw [rngReseedF, h, doIf_true]), fun h => hrun (by rw [rngReseedF, h, doIf_false])⟩
  case health =>
    intro s hp
    exact runsTo_of_doIf (c := fun d => d.pwr.powered) (f := rngFailF) rfl hp rfl

end Sys2Proof.Proofs

/-! PROOFS about the Millrace link of TWN: training, hello, loss and the commands of TWN_CMD (R339 to R343, R353). -/

namespace Sys2Proof.Proofs

open Sys2Proof Sys2Proof.Machine Sys2Proof.Laws

/-! ### Training (R341, R353) -/

section

variable {m : Int} {h : Hello} {d : Dev}

/-- What the pad loopback `m` differs from the lane latencies of reset. -/
def padDiff (m : Int) : Int := m - (sx 32 (resetOf TWN_LAT_TX).toNat + sx 32 (resetOf TWN_LAT_RX).toNat)

/-- The transmit latency that a pad loopback of `m` gives. -/
def padTx (m : Int) : Int := sx 32 (resetOf TWN_LAT_TX).toNat + roundDiv ((Config.millraceSplit : Nat) * padDiff m) 65536

/-- The lane latencies set from a pad loopback of `m`. -/
def latSet (m : Int) (d : Dev) : Dev := wrN TWN_LAT_RX (wrapN 32 (m - padTx m)) (wrN TWN_LAT_TX (wrapN 32 (padTx m)) d)

/-- The lane latencies set, with an alignment record where one of them is new. -/
def latRecorded (m : Int) (d : Dev) : Dev :=
  if rd (latSet m d) TWN_LAT_TX ≠ rd d TWN_LAT_TX ∨ rd (latSet m d) TWN_LAT_RX ≠ rd d TWN_LAT_RX then alignRecord (latSet m d)
  else latSet m d

/-- The own hello sent. -/
def helloSent (d : Dev) : Dev := sendMr [.hello (ownHello d)] (modTwn (fun t => { t with sentHello := true }) d)

/-- The exchange completed with the hello `h` that waited: what the link sends then follows the own hello. -/
def exchangeDone (h : Hello) (d : Dev) : Dev :=
  modTwn (fun t => { t with out := d.twn.out ++ (if t.out = d.twn.out then [] else t.out) }) (hello h d)

/-- TWN works and its link is in Training. -/
def Trains (d : Dev) : Prop := twnAlive d = true ∧ fld d TWN_STATUS_link = 1

theorem Trains.guard (ht : Trains d) : (!(twnAlive d) || decide (fld d TWN_STATUS_link ≠ 1)) = false := by
  obtain ⟨hon, hlink⟩ := ht
  simp [hon, hlink]

theorem doIf_or (a b : Prop) [Decidable a] [Decidable b] (f : Dev → Dev) (d : Dev) :
    doIf (decide a || decide b) f d = if a ∨ b then f d else d := by
  rw [← Bool.decide_or, doIf_decide]

theorem millraceTrain_far (ht : Trains d) (hfar : 13107 < (padDiff m).natAbs) :
    millraceTrain m d = reportUnit 0x34 0x07 .contained 0 0 d :=
  (if_neg (ne_true_of_eq_false ht.guard)).trans (if_pos hfar)

theorem millraceTrain_near (ht : Trains d) (hnear : (padDiff m).natAbs ≤ 13107) : millraceTrain m d =
    match d.twn.gotHello with
    | none => helloSent (latRecorded m d)
    | some h => exchangeDone h (helloSent (latRecorded m d)) := by
  have hrec : latRecorded m d = doIf (decide (rd (latSet m d) TWN_LAT_TX ≠ rd d TWN_LAT_TX) ||
      decide (rd (latSet m d) TWN_LAT_RX ≠ rd d TWN_LAT_RX)) alignRecord (latSet m d) := (doIf_or ..).symm
  rw [hrec]
  exact (if_neg (ne_true_of_eq_false ht.guard)).trans (if_neg (Nat.not_lt.mpr hnear))

theorem millraceTrain_waits (ht : Trains d) (hnear : (padDiff m).natAbs ≤ 13107) (hgot : d.twn.gotHello = none) :
    millraceTrain m d = helloSent (latRecorded m d) := by
  rw [millraceTrain_near ht hnear, hgot]

theorem millraceTrain_completes (ht : Trains d) (hnear : (padDiff m).natAbs ≤ 13107) (hgot : d.twn.gotHello = some h) :
    millraceTrain m d = exchangeDone h (helloSent (latRecorded m d)) := by
  rw [millraceTrain_near ht hnear, hgot]

end

/-! ### The partner's hello (R340, R342, R346) -/

section

variable {h : Hello} {d : Dev}

/-- The partner's builds and latencies shown. -/
def peerShown (h : Hello) (d : Dev) : Dev :=
  wr TWN_PEER_STRUCT h.buildStruct (wr TWN_PEER_CORE h.buildCore (wr TWN_PEER_LAT_TX h.latTx (wr TWN_PEER_LAT_RX h.latRx d)))

/-- The side conflict shown: event 0x6C0A where it is new. -/
def sideShown (h : Hello) (d : Dev) : Dev :=
  let d2 := setB TWN_BUS_STATUS_side_conflict (decide (h.side = flag d TWN_BUS_STATUS_side)) (peerShown h d)
  if h.side = flag d TWN_BUS_STATUS_side ∧ flag d TWN_BUS_STATUS_side_conflict = false then raise 0x6C0A 2 d2 else d2

/-- The link Up on a hello, the time of it noted. -/
def helloUp (h : Hello) (d : Dev) : Dev := linkTo 2 (modTwn (fun t => { t with peerAt := now16 d }) (sideShown h d))

/-- The link Up on a hello, with an alignment record where it pairs or its latencies are new. -/
def helloTaken (h : Hello) (d : Dev) : Dev :=
  if helloCause h d = 0 ∨ (rd d TWN_PEER_LAT_TX ≠ h.latTx ∨ rd d TWN_PEER_LAT_RX ≠ h.latRx) then alignRecord (helloUp h d)
  else helloUp h d

/-- The pairing refused for the cause `c`: the result set, the mirror Invalid. -/
def pairRefused (c : Nat) (d : Dev) : Dev :=
  if fld d TWN_STATUS_mirror ≠ 0 then setF TWN_STATUS_mirror 0 (twnResult c 0 d) else twnResult c 0 d

/-- The event of a refused pairing. -/
def refusalRaised (d : Dev) : Dev := raise 0x6C07 (rdN d TWN_RESULT) d

theorem hello_eq (h : Hello) (d : Dev) : hello h d =
    if helloCause h d = 0 then pairAccept h (helloTaken h d) else refusalRaised (pairRefused (helloCause h d) (helloTaken h d)) := by
  have hside : sideShown h d = doIf (decide (h.side = flag d TWN_BUS_STATUS_side) && !(flag d TWN_BUS_STATUS_side_conflict))
      (raise 0x6C0A 2) (setB TWN_BUS_STATUS_side_conflict (decide (h.side = flag d TWN_BUS_STATUS_side)) (peerShown h d)) := by
    simp only [sideShown, doIf, Bool.and_eq_true, decide_eq_true_eq, Bool.not_eq_true']
  have htaken : helloTaken h d = doIf (decide (helloCause h d = 0) || (decide (rd d TWN_PEER_LAT_TX ≠ h.latTx) ||
      decide (rd d TWN_PEER_LAT_RX ≠ h.latRx))) alignRecord (helloUp h d) := by
    simp only [helloTaken, doIf, Bool.or_eq_true, decide_eq_true_eq]
  have hrefused : ∀ c x, pairRefused c x =
      doIf (decide (fld x TWN_STATUS_mirror ≠ 0)) (setF TWN_STATUS_mirror 0) (twnResult c 0 x) :=
    fun c x => (doIf_decide ..).symm
  rw [hrefused, htaken, helloUp, hside]
  rfl

theorem hello_pairs (hc : helloCause h d = 0) : hello h d = pairAccept h (helloTaken h d) := by rw [hello_eq, if_pos hc]

theorem hello_refused (hc : helloCause h d ≠ 0) :
    hello h d = refusalRaised (pairRefused (helloCause h d) (helloTaken h d)) := by rw [hello_eq, if_neg hc]

/-- A hello agrees when revision, structure, side and the major version of the mirror fit. -/
theorem helloCause_eq_zero_iff : helloCause h d = 0 ↔ h.hwId = 0xB0 ∧ rdN d IMG_HW_ID = 0xB0 ∧
    h.buildStruct = rd d IMG_BUILD_STRUCT ∧ h.side ≠ flag d TWN_BUS_STATUS_side ∧ h.version / 256 = mirrorVersion d / 256 := by
  unfold helloCause
  split_ifs with hw hb hs hv
  · exact ⟨fun h0 => absurd h0 (by decide), fun ⟨hid, hown, _⟩ => absurd hw (by simp [hid, hown])⟩
  · simp [hb]
  · simp [hs]
  · simp [hv]
  · push Not at hw hb hv
    exact ⟨fun _ => ⟨hw.1, hw.2, hb, hs, hv⟩, fun _ => rfl⟩

theorem helloIn_waits (hs : d.twn.sentHello = false) : helloIn h d = modTwn (fun t => { t with gotHello := some h }) d :=
  if_neg (ne_true_of_eq_false hs)

theorem helloIn_exchanged (hs : d.twn.sentHello = true) : helloIn h d = hello h d := if_pos hs

/-- A hello on the link: taken in Training, where its CRC holds. -/
def helloFrame (h : Hello) (ok : Bool) (d : Dev) : Dev :=
  if !(twnAlive d) || fld d TWN_STATUS_link ≠ 1 then d else if ok then helloIn h d else mrFrame false (fun x => x) d

theorem helloFrame_good (ht : Trains d) : helloFrame h true d = helloIn h d := if_neg (ne_true_of_eq_false ht.guard)

theorem helloReceived_runsTo {ok : Bool} {s : State} {e : Dev} (he : helloFrame h ok s.toDev = e) :
    runsTo (.helloReceived h ok) s e := runsTo_of_upd (f := helloFrame h ok) rfl he

/-- A frame with a bad CRC counted (R339). -/
def crcErrCounted (d : Dev) : Dev := twnCount 5 1 (modTwn (fun t => { t with crcErrs := t.crcErrs + 1 }) d)

/-- A link that is not Down takes frames: those with a bad CRC are counted only. -/
theorem mrFrame_bad {k : Dev → Dev} (hon : twnAlive d = true) (hl : fld d TWN_STATUS_link ≠ 0) :
    mrFrame false k d = crcErrCounted d := by
  have hguard : (!(twnAlive d) || fld d TWN_STATUS_link == 0) = false := by simp [hon, hl]
  exact (if_neg (ne_true_of_eq_false hguard)).trans (if_pos rfl)

theorem helloFrame_bad (ht : Trains d) : helloFrame h false d = crcErrCounted d := by
  obtain ⟨hon, hlink⟩ := id ht
  exact (if_neg (ne_true_of_eq_false ht.guard)).trans (mrFrame_bad (k := fun x => x) hon (by rw [hlink]; exact Nat.one_ne_zero))

end

/-! ### The loss of the link and its commands (R340, R343) -/

section

variable {d : Dev}

theorem linkUp_of_eq (h : fld d TWN_STATUS_link = 2) : linkUp d = true := beq_iff_eq.mpr h

theorem linkUp_of_ne (h : fld d TWN_STATUS_link ≠ 2) : linkUp d = false := beq_eq_false_iff_ne.mpr h

theorem linkLoss_signal (hon : twnAlive d = true) (hl : fld d TWN_STATUS_link ≠ 0) :
    linkLoss false d = linkTo 1 (linkTo 0 d) := by
  simp [linkLoss, hon, hl]

theorem linkLoss_crc (hon : twnAlive d = true) (hl : fld d TWN_STATUS_link = 2) (hn : 16 ≤ d.twn.crcErrs) :
    linkLoss true d = linkTo 1 (modTwn (fun t => { t with crcErrs := 0 }) d) := by
  simp [linkLoss, hon, hl, linkUp, hn]

theorem linkLoss_kept (h : fld d TWN_STATUS_link ≠ 2 ∨ d.twn.crcErrs < 16) : linkLoss true d = d := by
  have hkept : (linkUp d && decide (16 ≤ d.twn.crcErrs)) = false := by
    rcases h with h | h
    · rw [linkUp_of_ne h, Bool.false_and]
    · rw [decide_eq_false (Nat.not_le.mpr h), Bool.and_false]
  simp [linkLoss, hkept]

theorem twnRetrain_up (h : fld d TWN_STATUS_link = 2) : twnRetrain d = twnResult 0 1 (linkTo 1 d) := if_pos (linkUp_of_eq h)

theorem twnRetrain_notUp (h : fld d TWN_STATUS_link ≠ 2) : twnRetrain d = twnResult 2 1 d :=
  if_neg (ne_true_of_eq_false (linkUp_of_ne h))

end

/-- Settles O41: training by the loopback and the waiting hello, the hello by whether the own one is sent and by its cause, the loss
and the commands by the state of the link. -/
theorem millraceLinkCommandsComplete : Obligations.MillraceLinkCommandsComplete := by
  delta Obligations.MillraceLinkCommandsComplete
  refine ⟨?training, ?hello, ?loss, ?commands, ?asym⟩
  case training =>
    intro m s hon hlink tx0 df tx d1 d2 d3
    have ht : Trains s.toDev := ⟨hon, hlink⟩
    have hrun : ∀ {e : Dev}, millraceTrain m s.toDev = e → runsTo (.millraceLinkTraining m) s e := runsTo_of_upd rfl
    exact ⟨fun hfar => hrun (millraceTrain_far ht hfar), fun hnear hgot => hrun (millraceTrain_waits ht hnear hgot),
      fun _ hnear hgot => hrun (millraceTrain_completes ht hnear hgot)⟩
  case hello =>
    intro h s hon hlink c new same d1 d2 d3 d4 d5 d6
    have ht : Trains s.toDev := ⟨hon, hlink⟩
    refine ⟨fun hs => ?_, fun hs hc => ?_, fun hs hc => ?_, helloCause_eq_zero_iff, helloReceived_runsTo (helloFrame_bad ht)⟩
    · exact helloReceived_runsTo ((helloFrame_good ht).trans (helloIn_waits hs))
    · exact helloReceived_runsTo ((helloFrame_good ht).trans ((helloIn_exchanged hs).trans (hello_pairs hc)))
    · exact helloReceived_runsTo ((helloFrame_good ht).trans ((helloIn_exchanged hs).trans (hello_refused hc)))
  case loss =>
    intro s hon
    have hrun : ∀ {crc : Bool} {e : Dev}, linkLoss crc s.toDev = e → runsTo (.millraceLinkLoss crc) s e := runsTo_of_upd rfl
    exact ⟨fun hl => hrun (linkLoss_signal hon hl), fun hl hn => hrun (linkLoss_crc hon hl hn), fun h => hrun (linkLoss_kept h)⟩
  case commands =>
    intro r s hg
    exact ⟨runsTo_of_write (k := twnYield true) rfl hg rfl, runsTo_of_write (k := twnYield false) rfl hg rfl,
      fun h => runsTo_of_write (k := twnRetrain) rfl hg (twnRetrain_up h),
      fun h => runsTo_of_write (k := twnRetrain) rfl hg (twnRetrain_notUp h)⟩
  case asym =>
    intro r v s hg
    exact runsTo_of_write (k := twnAsym v) rfl hg rfl

end Sys2Proof.Proofs

/-! PROOFS about alignment, the mirror in both directions, health frames and the hunt of TWN (R339, R346, R351 to R362). -/

namespace Sys2Proof.Proofs

open Sys2Proof Sys2Proof.Machine Sys2Proof.Laws

/-! ### Frames of a link that is Up (R339) -/

section

variable {ok : Bool} {k : Dev → Dev} {d : Dev}

/-- TWN works and its link is Up. -/
def Linked (d : Dev) : Prop := twnAlive d = true ∧ linkUp d = true

theorem link_of_linkUp (h : linkUp d = true) : fld d TWN_STATUS_link = 2 := beq_iff_eq.mp h

theorem Linked.bad (hl : Linked d) : mrFrame false k d = crcErrCounted d := by
  obtain ⟨hon, hup⟩ := hl
  exact mrFrame_bad hon (by rw [link_of_linkUp hup]; decide)

theorem Linked.good (hl : Linked d) : mrFrame true k d = k d := by
  obtain ⟨hon, hup⟩ := hl
  simp [mrFrame, hon, hup, link_of_linkUp hup]

end

/-- A received frame whose CRC holds. -/
theorem frame_good {i : Instr} {k : Dev → Dev} {s : State} {e : Dev} (hl : Linked s.toDev)
    (hx : exec i s = s.upd (mrFrame true k)) (he : k s.toDev = e) : runsTo i s e :=
  runsTo_of_upd hx (hl.good.trans he)

/-- A received frame with a bad CRC. -/
theorem frame_bad {i : Instr} {k : Dev → Dev} {s : State} (hl : Linked s.toDev) (hx : exec i s = s.upd (mrFrame false k)) :
    runsTo i s (crcErrCounted s.toDev) :=
  runsTo_of_upd hx hl.bad

/-! ### The staged epoch of a Standby (R356) -/

section

variable {n m : Nat} {x : JRec} {l : List JRec} {d : Dev}

theorem stageRec_first (hm : mirrorIn d = true) (hs : d.twn.staged = none) :
    stageRec n x d = modTwn (fun t => { t with staged := some (n, [x]) }) d := by
  simp only [stageRec, hm, hs, Bool.not_true, Bool.false_eq_true, if_false]

theorem stageRec_next (hm : mirrorIn d = true) (hs : d.twn.staged = some (n, l)) :
    stageRec n x d = modTwn (fun t => { t with staged := some (n, l ++ [x]) }) d := by
  simp only [stageRec, hm, hs, Bool.not_true, Bool.false_eq_true, if_false, if_true]

theorem stageRec_other (hm : mirrorIn d = true) (hs : d.twn.staged = some (m, l)) (hne : m ≠ n) :
    stageRec n x d = modTwn (fun t => { t with staged := some (n, [x]) }) (discardEpoch m d) := by
  simp only [stageRec, hm, hs, hne, Bool.not_true, Bool.false_eq_true, if_false]

theorem stageRec_notMirror (hm : mirrorIn d = false) : stageRec n x d = d := if_pos (by rw [hm, Bool.not_false])

end

/-! ### A commit of the Active (R346, R356, R357) -/

section

variable {c : Commit} {d : Dev}

/-- The claim of a commit noted. -/
def peerClaimed (c : Commit) (d : Dev) : Dev := modTwn (fun t => { t with peerClaim := c.claim }) d

/-- The claims compared, where the bus is faulted or unit 0x35 is out. -/
def commitClaimed (c : Commit) (d : Dev) : Dev :=
  let d1 := peerClaimed c d
  let wins := claimBeats (claimNow d1) c.claim d1
  if flag d TWN_BUS_STATUS_bus_fault = true ∨ unitOut d 0x35 = true then claimKnown wins wins (claimNow d1) c.claim 1 true d1 else d1

/-- The epoch staged for a commit: none staged counts as the commit's own without records. -/
def stagedFor (c : Commit) (d : Dev) : Nat × List JRec := d.twn.staged.getD (c.n, [])

/-- A commit agrees with the staged epoch, which is the next one or the first of a sweep. -/
def CommitAgrees (c : Commit) (d : Dev) : Prop :=
  (stagedFor c d).1 = c.n ∧ (stagedFor c d).2.length = c.count ∧ jrecCrc (stagedFor c d).2 = c.crc ∧
    (c.n = rdN d TWN_EPOCH + 1 ∨ fld d TWN_STATUS_mirror = 1 ∧ d.twn.ofs = none)

theorem claimOver_eq (c : Commit) (d : Dev) : claimOver c.claim (peerClaimed c d) = commitClaimed c d := by
  by_cases ho : overLink d = true
  · have hon : claimOver c.claim (peerClaimed c d) = claimKnown (claimBeats (claimNow (peerClaimed c d)) c.claim (peerClaimed c d))
        (claimBeats (claimNow (peerClaimed c d)) c.claim (peerClaimed c d)) (claimNow (peerClaimed c d)) c.claim 1 true
        (peerClaimed c d) := if_neg (by rw [show overLink (peerClaimed c d) = overLink d from rfl, ho]; decide)
    rw [hon]
    exact (if_pos (overLink_iff.mp ho)).symm
  · have hoff : claimOver c.claim (peerClaimed c d) = peerClaimed c d :=
      if_pos (by rw [show overLink (peerClaimed c d) = overLink d from rfl, Bool.not_eq_true'] ; exact Bool.eq_false_iff.mpr ho)
    rw [hoff]
    exact (if_neg (mt overLink_iff.mpr ho)).symm

theorem commitIn_notMirror (hm : mirrorIn (commitClaimed c d) = false) : commitIn c d = commitClaimed c d := by
  have h := claimOver_eq c d
  unfold peerClaimed at h
  simp only [commitIn, h, hm, Bool.not_false, if_true]

theorem commitIn_sweep (hm : mirrorIn (commitClaimed c d) = true) (hsw : c.sweep = true) : commitIn c d =
    if fld (commitClaimed c d) TWN_STATUS_mirror = 1 then sweepDone (commitClaimed c d) else commitClaimed c d := by
  have h := claimOver_eq c d
  unfold peerClaimed at h
  simp only [commitIn, h, hm, hsw, Bool.not_true, Bool.false_eq_true, if_false, if_true]

theorem commitIn_agrees (hm : mirrorIn (commitClaimed c d) = true) (hsw : c.sweep = false)
    (hg : CommitAgrees c (commitClaimed c d)) :
    commitIn c d = applyEpoch c.n (stagedFor c (commitClaimed c d)).2 (commitClaimed c d) := by
  have h := claimOver_eq c d
  unfold peerClaimed at h
  unfold CommitAgrees stagedFor at hg
  simp only [commitIn, h, hm, hsw, hg, Bool.not_true, Bool.false_eq_true, if_false, and_self, if_true, stagedFor]

theorem commitIn_disagrees (hm : mirrorIn (commitClaimed c d) = true) (hsw : c.sweep = false)
    (hg : ¬ CommitAgrees c (commitClaimed c d)) : commitIn c d = discardEpoch c.n (commitClaimed c d) := by
  have h := claimOver_eq c d
  unfold peerClaimed at h
  unfold CommitAgrees stagedFor at hg
  simp only [commitIn, h, hm, hsw, hg, Bool.not_true, Bool.false_eq_true, if_false]

/-- A commit received: where its CRC is bad, a Standby that takes the mirror discards the staged epoch. -/
def commitFrame (c : Commit) (ok : Bool) (d : Dev) : Dev :=
  doIf (!ok && twnAlive d && linkUp d && mirrorIn d)
    (fun x => discardEpoch (match x.twn.staged with | some p => p.1 | none => rdN x TWN_EPOCH + 1) x) (mrFrame ok (commitIn c) d)

theorem commitFrame_good (hl : Linked d) : commitFrame c true d = commitIn c d := by
  rw [commitFrame, hl.good]
  rfl

theorem commitFrame_bad_notMirror (hl : Linked d) (hm : mirrorIn d = false) : commitFrame c false d = crcErrCounted d := by
  rw [commitFrame, hl.bad, hm, Bool.and_false, doIf_false]

theorem commitFrame_bad_mirror (hl : Linked d) (hm : mirrorIn d = true) : commitFrame c false d =
    discardEpoch (match (crcErrCounted d).twn.staged with | some p => p.1 | none => rdN (crcErrCounted d) TWN_EPOCH + 1)
      (crcErrCounted d) := by
  obtain ⟨hon, hup⟩ := id hl
  rw [commitFrame, hl.bad, hm, hon, hup]
  rfl

theorem commitReceived_runsTo {ok : Bool} {s : State} {e : Dev} (he : commitFrame c ok s.toDev = e) :
    runsTo (.mirrorCommitReceived c ok) s e := runsTo_of_upd (f := commitFrame c ok) rfl he

end

/-! ### What the partner asks for again (R356, R357, R362) -/

section

variable {n k i : Nat} {l : List JRec} {d : Dev}

theorem resend_kept (hm : mirrors d = true) (hf : d.twn.retained.find? (fun p => p.1 == n) = some (k, l)) :
    resend n d = sendMr (l.map .journal ++ [commitOf n l d]) d := by
  simp only [resend, hm, hf, Bool.not_true, Bool.false_eq_true, if_false]

theorem resend_gone (hm : mirrors d = true) (hf : d.twn.retained.find? (fun p => p.1 == n) = none) :
    resend n d = if n = rdN d TWN_EPOCH + 1 then d else startSweep d := by
  simp only [resend, hm, hf, Bool.not_true, Bool.false_eq_true, if_false]

theorem againIn_session (hi : i < 262144) (hsmem : domOn d .smem = true) :
    againIn (.session i) d = journalAdd (.session i (sessWords d i)) d := if_pos (by simp [hsmem, hi])

theorem againIn_store_active (hst : fld d TWN_STATUS_state = 0) (hp : flag d TWN_STATUS_paired_ok = true) :
    againIn .store d = startSweep d := if_pos (by simp [hst, hp])

theorem againIn_store_notActive (hst : fld d TWN_STATUS_state ≠ 0) : againIn .store d = d := if_neg (by simp [hst])

theorem retention_over (hm : mirrors d = true) (hn : fld d TWN_RETAIN_epochs < d.twn.retained.length) (hup : linkUp d = true) :
    retention d = if flag d TWN_STATUS_paired_ok = true then startSweep d
      else modTwn (fun t => { t with mirroring := false, retained := [], journal := [] }) d := by
  have hover : (!(mirrors d) || decide (d.twn.retained.length ≤ fld d TWN_RETAIN_epochs)) = false := by
    rw [hm, decide_eq_false (Nat.not_le.mpr hn)]
    rfl
  rw [retention, if_neg (ne_true_of_eq_false hover), hup, Bool.true_and]

theorem retention_within (hn : d.twn.retained.length ≤ fld d TWN_RETAIN_epochs) : retention d = d :=
  if_pos (by rw [decide_eq_true hn, Bool.or_true])

end

/-! ### Sweep records (R357) -/

section

variable {x : JRec} {d : Dev}

/-- The sweep that a record belongs to: the first record starts it. -/
def sweepBegun (d : Dev) : Dev := if fld d TWN_STATUS_mirror ≠ 1 then startSweep d else d

/-- A sweep record applied: a session is noted as given. -/
def sweepApplied (x : JRec) (d : Dev) : Dev :=
  match x with
  | .session i _ => modTwn (fun t => { t with swept := i :: t.swept.filter (fun k => k != i) }) (applyRec 0 x d)
  | .nextHop _ _ | .hashKeys _ => applyRec 0 x d
  | _ => d

theorem sweepIn_notTaken (h : fld d TWN_STATUS_state ≠ 1 ∨ flag d TWN_STATUS_paired_ok = false) : sweepIn x d = d :=
  if_pos (h.imp_right fun hp => by rw [hp, Bool.not_false])

theorem sweepIn_taken (hst : fld d TWN_STATUS_state = 1) (hp : flag d TWN_STATUS_paired_ok = true) :
    sweepIn x d = sweepApplied x (sweepBegun d) := by
  have hbegun : sweepBegun d = doIf (decide (fld d TWN_STATUS_mirror ≠ 1)) startSweep d := (doIf_decide ..).symm
  rw [hbegun]
  exact if_neg (by simp [hst, hp])

end

/-! ### Health frames (R360, R361) -/

section

variable {d : Dev}

theorem healthOut_due (hup : linkUp d = true) (h : d.twn.healthSec ≠ some (taiSec d)) : healthOut d =
    sendMr [.health (ownHealth d)] (modTwn (fun t => { t with healthSec := some (taiSec d) }) d) :=
  if_pos (by rw [hup, Bool.true_and]; exact decide_eq_true h)

theorem healthOut_sent (h : d.twn.healthSec = some (taiSec d)) : healthOut d = d := if_neg (by simp [h])

theorem healthStale_over (hf : flag d TWN_STATUS_health_stale = false) (ht : d.twn.peerAt + 3 * sec16 ≤ now16 d) :
    healthStale d = raise 0x6C08 3 (twnCount 6 3 (setF TWN_STATUS_health_stale 1 d)) :=
  if_pos (by rw [hf, elapsed_of_le ht]; rfl)

theorem healthStale_already (hf : flag d TWN_STATUS_health_stale = true) : healthStale d = d := if_neg (by simp [hf])

end

/-! ### The hunt (R362) -/

section

variable {ok : Bool} {p : Nat} {d : Dev}

/-- A hunt test of position `p` begins: it is counted, and the next position and the time are noted. -/
def huntBegun (p : Nat) (d : Dev) : Dev :=
  twnCount 8 1 (modTwn (fun t => { t with huntPos := (p + 1) % 29, huntAt := some (now16 d) }) d)

/-- The outcome of the test of position `p`. -/
def huntTested (ok : Bool) (p : Nat) (d : Dev) : Dev := if ok = true then d else huntFail p d

/-- A hunt test of position `p` is due to a Standby with bist_en. -/
structure HuntsAt (p : Nat) (d : Dev) : Prop where
  alive : twnAlive d = true
  enabled : flag d TWN_CTL_bist_en = true
  standby : fld d TWN_STATUS_state = 1
  due : huntDue d = true
  pos : huntNext d 29 d.twn.huntPos = p

/-- The engine of position `p` lacks its credit. -/
def huntWaits (p : Nat) (d : Dev) : Bool :=
  (decide (p < 8) && !(crdForFw d false)) || (decide (8 ≤ p) && decide (p < 24) && !(crdForFw d true))

theorem huntWaits_engine (hp : p < 24) : huntWaits p d = !(crdForFw d (decide (8 ≤ p))) := by
  rcases Nat.lt_or_ge p 8 with h8 | h8
  · simp [huntWaits, h8, Nat.not_le.mpr h8]
  · simp [huntWaits, h8, hp, Nat.not_lt.mpr h8]

theorem huntWaits_other (hp : 24 ≤ p) : huntWaits p d = false := by
  simp [huntWaits, show ¬ p < 8 by omega, show ¬ p < 24 by omega]

theorem hunt_idle (h : flag d TWN_CTL_bist_en = false ∨ fld d TWN_STATUS_state ≠ 1) : hunt ok d = d :=
  if_pos (by rcases h with h | h <;> simp [h])

theorem hunt_at (h : HuntsAt p d) : hunt ok d = if huntWaits p d then d
    else if p = 28 then (if domOn (huntBegun p d) .smem then scrubStore (huntBegun p d) else huntBegun p d)
    else crdUse 5 (if p < 24 then [decide (8 ≤ p)] else []) (doIf (!ok) (huntFail p)) (huntBegun p d) := by
  obtain ⟨hon, hen, hst, hdue, hpos⟩ := h
  unfold huntWaits huntBegun
  simp only [hunt, hon, hen, hst, hdue, hpos, Bool.not_true, ne_eq, not_true_eq_false, decide_false, Bool.or_self, Bool.false_eq_true,
    if_false]

theorem doIf_not_eq_huntTested : doIf (!ok) (huntFail p) = huntTested ok p := by
  funext x
  cases ok <;> rfl

theorem hunt_engine (h : HuntsAt p d) (hp : p < 24) (hcred : crdForFw d (decide (8 ≤ p)) = true) :
    hunt ok d = crdMove (decide (8 ≤ p)) 5 0 1 (huntTested ok p (crdMove (decide (8 ≤ p)) 0 5 1 (huntBegun p d))) := by
  rw [hunt_at h, huntWaits_engine hp, hcred, if_neg (by decide), if_neg (by omega), if_pos hp, doIf_not_eq_huntTested]
  rfl

theorem hunt_waits (h : HuntsAt p d) (hp : p < 24) (hcred : crdForFw d (decide (8 ≤ p)) = false) : hunt ok d = d := by
  rw [hunt_at h, huntWaits_engine hp, hcred, Bool.not_false, if_pos rfl]

theorem hunt_pipeline (h : HuntsAt p d) (hp : 24 ≤ p) (hne : p ≠ 28) : hunt ok d = huntTested ok p (huntBegun p d) := by
  rw [hunt_at h, huntWaits_other hp, if_neg Bool.false_ne_true, if_neg hne, if_neg (Nat.not_lt.mpr hp), doIf_not_eq_huntTested]
  rfl

theorem hunt_store (h : HuntsAt p d) (hp : p = 28) :
    hunt ok d = if domOn (huntBegun p d) .smem = true then scrubStore (huntBegun p d) else huntBegun p d := by
  rw [hunt_at h, huntWaits_other (by omega), if_neg Bool.false_ne_true, if_pos hp]

end

/-! ### The sweep that TWN_CMD asks for (R357) -/

section

variable {d : Dev}

theorem resync_notPaired (h : linkUp d = false ∨ flag d TWN_STATUS_paired_ok = false) : resync d = twnResult 2 1 d :=
  if_pos (by rcases h with h | h <;> simp [h])

theorem resync_paired (hup : linkUp d = true) (hp : flag d TWN_STATUS_paired_ok = true) : resync d =
    if fld d TWN_STATUS_state = 0 then startSweep (twnResult 0 1 d) else sendMr [.again .store] (startSweep (twnResult 0 1 d)) :=
  if_neg (by simp [hup, hp])

end

/-- Settles O43: the frames of a link that is Up by their CRC and by what they find, the hunt by its position, resync by the pairing. -/
theorem twinMirrorAndHealthCommandsComplete : Obligations.TwinMirrorAndHealthCommandsComplete := by
  delta Obligations.TwinMirrorAndHealthCommandsComplete
  refine ⟨?frames, ?hunt, ?resync⟩
  case frames =>
    intro s hon hup bad
    have hl : Linked s.toDev := ⟨hon, hup⟩
    have hb : bad = crcErrCounted s.toDev := rfl
    clear_value bad
    rw [hb]
    refine ⟨?align, ?journal, ?commit, ?active, ?againBad, ?session, ?store, ?notActive, ?retention, ?within, ?sweep, ?healthDue,
      ?healthSent, ?healthIn, ?stale, ?already⟩
    case align => exact fun a => ⟨frame_good hl rfl rfl, frame_bad hl rfl⟩
    case journal =>
      intro n x
      exact ⟨frame_bad hl rfl, fun hm hs => frame_good hl rfl (stageRec_first hm hs),
        fun _ hm hs => frame_good hl rfl (stageRec_next hm hs), fun _ _ hm hs hne => frame_good hl rfl (stageRec_other hm hs hne),
        fun hm => frame_good hl rfl (stageRec_notMirror hm)⟩
    case commit =>
      intro c d1 wins d0 st good
      have hd0 : d0 = commitClaimed c s.toDev := rfl
      have hgood : good = CommitAgrees c d0 := rfl
      have hst : st = stagedFor c d0 := rfl
      clear_value good st d0
      rw [hgood, hst, hd0]
      have hrun : ∀ {e : Dev}, commitIn c s.toDev = e → runsTo (.mirrorCommitReceived c true) s e := fun he =>
        commitReceived_runsTo ((commitFrame_good hl).trans he)
      refine ⟨fun hm => hrun (commitIn_notMirror hm), fun hm hsw h1 => ?_, fun hm hsw h1 => ?_,
        fun hm hsw hg => hrun (commitIn_agrees hm hsw hg), fun hm hsw hg => hrun (commitIn_disagrees hm hsw hg),
        fun hm => commitReceived_runsTo (commitFrame_bad_notMirror hl hm), fun hm => commitReceived_runsTo (commitFrame_bad_mirror hl hm)⟩
      · exact hrun ((commitIn_sweep hm hsw).trans (if_pos h1))
      · exact hrun ((commitIn_sweep hm hsw).trans (if_neg h1))
    case active =>
      intro n
      refine ⟨frame_good hl rfl rfl, frame_bad hl rfl, fun _ _ hm hf => frame_good hl rfl (resend_kept hm hf), fun hm hf hn => ?_,
        fun hm hf hn => ?_⟩
      · exact frame_good hl rfl ((resend_gone hm hf).trans (if_pos hn))
      · exact frame_good hl rfl ((resend_gone hm hf).trans (if_neg hn))
    case againBad => exact fun a => frame_bad hl rfl
    case session => exact fun i hi hsmem => frame_good hl rfl (againIn_session hi hsmem)
    case store => exact fun hst hp => frame_good hl rfl (againIn_store_active hst hp)
    case notActive => exact fun hst => frame_good hl rfl (againIn_store_notActive hst)
    case retention =>
      intro hm hn
      have hrun : ∀ {e : Dev}, retention s.toDev = e → runsTo .retentionExceeded s e := runsTo_of_doIf (c := twnAlive) rfl hon
      exact ⟨fun hp => hrun ((retention_over hm hn hup).trans (if_pos hp)),
        fun hp => hrun ((retention_over hm hn hup).trans (if_neg (ne_true_of_eq_false hp)))⟩
    case within => exact fun hn => runsTo_of_doIf (c := twnAlive) (f := retention) rfl hon (retention_within hn)
    case sweep =>
      intro x
      refine ⟨frame_bad hl rfl, fun h => frame_good hl rfl (sweepIn_notTaken h), fun hst hp => ?_⟩
      intro d1
      have hd1 : d1 = sweepBegun s.toDev := rfl
      clear_value d1
      rw [hd1]
      have htaken : runsTo (.sweepRecord x true) s (sweepApplied x (sweepBegun s.toDev)) :=
        frame_good hl rfl (sweepIn_taken hst hp)
      refine ⟨fun i ws hx => ?_, fun i m hx => ?_, fun ks hx => ?_⟩ <;> subst hx <;> exact htaken
    case healthDue => exact fun h => runsTo_of_doIf (c := twnAlive) (f := healthOut) rfl hon (healthOut_due hup h)
    case healthSent => exact fun h => runsTo_of_doIf (c := twnAlive) (f := healthOut) rfl hon (healthOut_sent h)
    case healthIn => exact fun h => ⟨frame_bad hl rfl, frame_good hl rfl rfl⟩
    case stale => exact fun hf ht => runsTo_of_doIf (c := twnAlive) (f := healthStale) rfl hon (healthStale_over hf ht)
    case already => exact fun hf => runsTo_of_doIf (c := twnAlive) (f := healthStale) rfl hon (healthStale_already hf)
  case hunt =>
    intro ok s hon
    have hrun : ∀ {e : Dev}, hunt ok s.toDev = e → runsTo (.huntTest ok) s e := runsTo_of_upd rfl
    refine ⟨fun h => hrun (hunt_idle h), fun hen hst hdue => ?_⟩
    intro p d1 test
    have hat : HuntsAt p s.toDev := ⟨hon, hen, hst, hdue, rfl⟩
    have hd1 : d1 = huntBegun p s.toDev := rfl
    have htest : test = huntTested ok p := rfl
    clear_value test d1 p
    rw [htest, hd1]
    refine ⟨fun hp hcred => hrun (hunt_engine hat hp hcred), fun hp hcred => hrun (hunt_waits hat hp hcred),
      fun hp hne => hrun (hunt_pipeline hat hp hne), fun hp hsmem => ?_, fun hp hsmem => ?_⟩
    · exact hrun ((hunt_store hat hp).trans (if_pos hsmem))
    · exact hrun ((hunt_store hat hp).trans (if_neg (ne_true_of_eq_false hsmem)))
  case resync =>
    intro r s hg
    have hrun : ∀ {e : Dev}, resync s.toDev = e → runsTo (.twnResync r) s e := runsTo_of_write rfl hg
    exact ⟨fun h => hrun (resync_notPaired h), fun hup hp => ⟨fun hst => hrun ((resync_paired hup hp).trans (if_pos hst)),
      fun hst => hrun ((resync_paired hup hp).trans (if_neg hst))⟩⟩

end Sys2Proof.Proofs
